-- ==== Sys2Proof/Word.lean ====
section
/-!
DEFINITION. The word types of the model: a control-space register or a general register (64 bits), a byte, a 64-byte line, and the sparse tables
that hold what the part has many of. Their operations stand in Machine/Bits.lean and Machine/Tbl.lean, where a repair can mend them.
-/
namespace Sys2Proof

/-- A 64-bit register or general-purpose word (R36, R500, R561: registers are 64 bits wide). -/
abbrev Word := BitVec 64

/-- A byte of memory. -/
abbrev Byte := BitVec 8

/-- The data of one 64-byte line (R219). Byte `k` of the line is bits `[8k+7 : 8k]`: the part is little-endian (the convention table of chapter 00). -/
abbrev Line := BitVec 512

/-- A sparse table: numbered instances of one thing. Keys rise strictly, and no entry equals what an unlisted key reads as
(`Machine.Tbl.wf`), so that equal tables are equal data. -/
abbrev Tbl (α : Type) := List (Nat × α)

end Sys2Proof
end

