-- ==== Sys2Proof/Syntax.lean ====
section
/-!
DEFINITION. The commands of the block: one constructor of `Instr` for each row of spec/opcode_table.json, with the row's operands. What the world
outside decides (a reading of a sensor, the bytes of a frame, which way a pseudo-LRU state points at) is an operand; what the part's own state
decides is not.
-/
namespace Sys2Proof

/-- Integer operations of RV64I, M, Zba, Zbb, Zbs and Zicond (R97, R112). Immediate forms are the same operation with an immediate second operand. -/
inductive AluOp where
  | add | sub | sll | slt | sltu | xor | srl | sra | or | and
  | addw | subw | sllw | srlw | sraw
  | mul | mulh | mulhsu | mulhu | mulw
  | div | divu | rem | remu | divw | divuw | remw | remuw
  | addUw | sh1add | sh2add | sh3add | sh1addUw | sh2addUw | sh3addUw | slliUw
  | andn | orn | xnor | clz | ctz | cpop | clzw | ctzw | cpopw | max | maxu | min | minu | sextB | sextH | zextH
  | rol | ror | rolw | rorw | orcB | rev8 | bclr | bext | binv | bset | czeroEqz | czeroNez
  deriving DecidableEq, Repr

/-- Conditional branches (R112). -/
inductive BranchOp where
  | beq | bne | blt | bge | bltu | bgeu
  deriving DecidableEq, Repr

/-- Second operand of an integer operation. -/
inductive Src2 where
  | reg (r : Nat)
  | imm (v : Word)
  deriving DecidableEq, Repr

/-- Floating-point operations of F and D (R99, R112). -/
inductive FpOp where
  | add | sub | mul | div | sqrt | madd | msub | nmsub | nmadd
  | min | max | sgnj | sgnjn | sgnjx | feq | flt | fle | fclass
  | mvXF | mvFX | cvtFF
  | cvtToW | cvtToWU | cvtToL | cvtToLU | cvtFromW | cvtFromWU | cvtFromL | cvtFromLU
  deriving DecidableEq, Repr

/-- Single-width integer element operations of the vector unit (R98, R114): vector or scalar second source; with saturation and fixed-point rounding. -/
inductive VInt where
  | add | sub | rsub | and | or | xor | sll | srl | sra | minu | min | maxu | max
  | saddu | sadd | ssubu | ssub | aaddu | aadd | asubu | asub | ssrl | ssra
  | mul | mulh | mulhu | mulhsu | smul | divu | div | remu | rem
  deriving DecidableEq, Repr

/-- Vector integer comparisons. -/
inductive VCmp where
  | eq | ne | ltu | lt | leu | le | gtu | gt
  deriving DecidableEq, Repr

/-- Widening and narrowing integer element operations. -/
inductive VWide where
  | addu | add | subu | sub | mulu | mul | mulsu
  deriving DecidableEq, Repr
inductive VNarrow where
  | srl | sra | clipu | clip
  deriving DecidableEq, Repr

/-- Integer multiply-add forms, and the widening ones. -/
inductive VMac where
  | macc | nmsac | madd | nmsub
  deriving DecidableEq, Repr
inductive VWMac where
  | maccu | macc | maccsu | maccus
  deriving DecidableEq, Repr

/-- Floating-point element operations of two sources and of one, comparisons, and multiply-add forms. -/
inductive VFp where
  | add | sub | rsub | mul | div | rdiv | min | max | sgnj | sgnjn | sgnjx
  deriving DecidableEq, Repr
inductive VFun where
  | sqrt | fclass | rec7 | rsqrt7
  deriving DecidableEq, Repr
inductive VFCmp where
  | eq | ne | lt | le | gt | ge
  deriving DecidableEq, Repr
inductive VFMac where
  | macc | nmacc | msac | nmsac | madd | nmadd | msub | nmsub
  deriving DecidableEq, Repr

/-- Conversions: what becomes what, and with which rounding. -/
inductive VCvt where
  | xuf | xf | rtzxuf | rtzxf | fxu | fx | ff | rodff
  deriving DecidableEq, Repr
inductive VCvtShape where
  | single | widen | narrow
  deriving DecidableEq, Repr

/-- Integer reductions, mask-register logical operations, and the three set-before, set-including and set-only first operations. -/
inductive VRed where
  | sum | and | or | xor | minu | min | maxu | max
  deriving DecidableEq, Repr
inductive VLogic where
  | and | nand | andn | or | nor | orn | xor | xnor
  deriving DecidableEq, Repr
inductive VFirst where
  | sbf | sif | sof
  deriving DecidableEq, Repr

/-- Vector arithmetic instructions (R98, R114), by their operation; the operands stand in the instruction. -/
inductive VOp where
  | int (o : VInt)
  | cmp (o : VCmp)
  /-- vadc, vsbc; vmadc and vmsbc with or without the carry of v0 -/
  | adc | sbc | madc (cin : Bool) | msbc (cin : Bool)
  /-- vmerge, vfmerge; vmv.v.v, vmv.v.x, vmv.v.i, vfmv.v.f -/
  | merge | mv
  /-- vzext and vsext from SEW / k -/
  | ext (signed : Bool) (k : Nat)
  /-- `w2`: the first source is wide already -/
  | widen (o : VWide) (w2 : Bool)
  | narrow (o : VNarrow)
  | mac (o : VMac)
  | wmac (o : VWMac)
  | fp (o : VFp)
  | fun1 (o : VFun)
  | fcmp (o : VFCmp)
  | fmac (o : VFMac)
  /-- vfwadd, vfwsub, vfwmul and their .w forms: the scalar operation -/
  | fwiden (o : VFp) (w2 : Bool)
  /-- vfwmacc, vfwnmacc, vfwmsac, vfwnmsac -/
  | fwmac (o : VFMac)
  | cvt (o : VCvt) (shape : VCvtShape)
  | red (o : VRed)
  /-- vwredsum, vwredsumu -/
  | wred (signed : Bool)
  /-- vfredosum and vfredusum, vfredmin and vfredmax, vfwredosum and vfwredusum -/
  | fredSum (ordered : Bool) | fredMin | fredMax | fwredSum (ordered : Bool)
  | logic (o : VLogic)
  | first1 (o : VFirst)
  | cpop | first | iota | id
  /-- vmv.x.s, vmv.s.x, vfmv.f.s, vfmv.s.f: the scalar register of the moves out of a vector is the destination number -/
  | mvXS | mvSX | mvFS | mvSF
  | slideup | slidedown | slide1up | slide1down
  | gather | gather16 | compress
  /-- vmv1r, vmv2r, vmv4r, vmv8r -/
  | mvR (nr : Nat)
  deriving DecidableEq, Repr

/-- The second source of a vector instruction: a vector, an integer register, a floating-point register, or an immediate already extended. -/
inductive VSrc where
  | v (r : Nat) | x (r : Nat) | f (r : Nat) | i (v : Word)
  deriving DecidableEq, Repr

/-- What an issued instruction does (R105): integer, floating-point, vector arithmetic and control flow. -/
inductive IssueOp where
  | alu (op : AluOp) (rd rs1 : Nat) (src2 : Src2)
  | lui (rd : Nat) (imm : Word)
  | auipc (rd : Nat) (imm : Word)
  /-- a HINT encoding (R97): no operation -/
  | hint
  | branch (op : BranchOp) (rs1 rs2 : Nat) (off : Word)
  | jal (rd : Nat) (off : Word)
  | jalr (rd rs1 : Nat) (off : Word)
  /-- `dbl`: D where true, S otherwise; `rm` the rounding-mode field, 7 dynamic -/
  | fp (op : FpOp) (dbl : Bool) (rm rd rs1 rs2 rs3 : Nat)
  /-- a vector arithmetic instruction: destination, first source, second source, and whether v0 masks it -/
  | vec (op : VOp) (vd vs2 : Nat) (src : VSrc) (masked : Bool)
  /-- vsetvli, vsetivli, vsetvl: requested length (all ones for the largest) and type -/
  | vset (rd : Nat) (avl : Src2) (keepVl : Bool) (vtype : Src2)
  /-- an encoding that R97, R158 or R183 rejects at every level -/
  | illegal (enc : Word)
  deriving DecidableEq, Repr

/-- What happens in a core's surroundings while an instruction issues, as the command brings it. -/
structure IssueEnv where
  /-- the pace monitor's measured fill, in sixteenths of a step (R64) -/
  fill : Nat := 0
  /-- a control-flow instruction resolved against its prediction (R142) -/
  mispredict : Bool := false
  /-- the tagged table that provided the prediction, 0 the base table (R139) -/
  provider : Nat := 0
  /-- CRC failures of the fetched L1I line: 0, 1, or 2 when the refetched copy fails too (R221, R540) -/
  l1crc : Nat := 0
  /-- the instruction has a poisoned byte (R535) -/
  fetchPoison : Bool := false
  /-- it reads a register with an uncorrectable byte (R535) -/
  regError : Bool := false
  /-- the pair checker finds a difference (R541) -/
  diverge : Bool := false
  /-- a joint recovery of the pair is open (R542) -/
  jointRecovery : Bool := false
  /-- predictor entries that failed their CRC (R153) -/
  predCrc : Nat := 0
  /-- speculative events that the flood-mode machinery counted (R103) -/
  events : List Nat := []
  /-- the instruction's encoding, for TVAL of a trap that the machine's state decides (R167) -/
  enc : Word := 0
  deriving DecidableEq, Repr

/-- Where a load delivers its data. -/
inductive LdDest where
  | x (rd : Nat)
  | f (rd : Nat) (dbl : Bool)
  deriving DecidableEq, Repr

/-- The nine AMO operations. -/
inductive AmoOp where
  | swap | add | xor | and | or | min | max | minu | maxu
  deriving DecidableEq, Repr

/-- The six Zicsr instructions (R158). -/
inductive CsrOp where
  | rw | rs | rc | rwi | rsi | rci
  deriving DecidableEq, Repr

/-- Kinds of vector memory instruction (R98, R123). Segments have `nf` fields; a strided access names its stride register, an indexed one the vector
register of its index offsets. -/
inductive VMemKind where
  | unit | faultFirst | whole (nr : Nat) | mask | strided (rs2 : Nat) | indexed (vs2 : Nat)
  | segUnit (nf : Nat) | segFirst (nf : Nat) | segStrided (nf rs2 : Nat) | segIndexed (nf vs2 : Nat)
  deriving DecidableEq, Repr

/-- How a target answers a waiting access. -/
inductive Answer where
  /-- the data, with a poison mark for each byte -/
  | data (v : Word) (poison : List Bool)
  /-- the breakwater's or the target's fault (R25, R297) -/
  | fault
  deriving DecidableEq, Repr
/-- Owner of a translation entry (R194). -/
inductive Owner where
  | hyp
  | part (p : Nat)
  deriving DecidableEq, Repr

/-- A TLB invalidation as sent to every core (R205, R213): the operands, and the owner that the selector names at the issuing core. -/
structure TlbInv where
  rs1 : Word
  rs2 : Word
  owner : Owner
  issuer : Nat
  deriving DecidableEq, Repr

/-- A failed check of a core's structure that an access meets (R217, R221, R527, R530, R540). -/
inductive Check where
  /-- an L1 line fails its CRC and is read again from the L2 -/
  | l1
  /-- the refetched copy fails too: the access receives the line poisoned -/
  | l1Again
  /-- an L1 TLB copy fails and is copied again -/
  | tlbCopy
  /-- the L2 TLB entry, or a copy for the second time: the entry is removed -/
  | tlb
  /-- the stage-2 entry: it is removed -/
  | s2
  /-- owner-tier bytes of a class are corrected in line -/
  | corrected (cls : Nat)
  /-- an owner-tier byte is uncorrectable: it is rewritten as poisoned -/
  | uncorrectable (cls : Nat)
  deriving DecidableEq, Repr

/-- Which event reaches the aggregator (R552). -/
inductive ErrOcc where
  /-- an event that a step of this machine has detected, by its place among those not yet recorded -/
  | queued (i : Nat)
  /-- an event that a checker detects outside every other command: corrected (`sev` none) or of a severity of R554 -/
  | found (unit cls : Nat) (sev part : Option Nat) (addr loc detail : Nat)
  deriving DecidableEq, Repr

/-- The registers that hold a cast count (R223): those of the left and the right core of a tile, and that of a slice. -/
inductive CastReg where
  | left (t : Nat)
  | right (t : Nat)
  | slc (t : Nat)
  deriving DecidableEq, Repr

/-- What a home's lookup of a request meets: the directory entry fails its CRC (R264); copies of the slice tag that fail, 0 to 2 (R532). -/
structure HomeEnv where
  dirFail : Bool := false
  tagFail : Nat := 0
  deriving DecidableEq, Repr

/-- The state a Data message grants (R252, R254). -/
inductive Granted where
  | e | f | m
  deriving DecidableEq, Repr

/-- What the decoder of a memory controller finds in an ECC word (R310, R312): nothing, an error confined to one device, or an uncorrectable one. -/
inductive DramErr where
  | good
  | one (dev : Nat)
  | bad
  deriving DecidableEq, Repr

/-- Where an ECC word sits in its channel: the mapping from a channel address is not published (R308), so it comes with the access. -/
structure DramLoc where
  rank : Nat := 0
  bg : Nat := 0
  bank : Nat := 0
  sub : Nat := 0
  row : Nat := 0
  deriving DecidableEq, Repr

/-- Why a lane loses its lock or its path (R342). -/
inductive LaneLoss where
  | lock | hiBer | localFault
  deriving DecidableEq, Repr

/-- gPTP messages that the hardware consumes or sends (R348, R402). -/
inductive PtpKind where
  | sync | followUp | pdelayReq | pdelayResp | pdelayRespFollowUp
  deriving DecidableEq, Repr

/-- A gPTP message as a lane receives it. A Pdelay_Resp_Follow_Up completes a measurement of the path: mean link delay in ns and the neighbour's rate
deviation, from the lane's timestamps (R348, R349). -/
inductive PtpMsg where
  | sync | followUp | pdelayReq | pdelayResp
  | pdelayRespFollowUp (mld : Nat) (nrr : Int)
  deriving DecidableEq, Repr


/-- What happens outside while a ladle instruction runs (R442, R456). -/
structure LdlEnv where
  /-- after this many bytes an access is answered with an error status: a read where true, else a write -/
  fail : Option (Nat × Bool) := none
  /-- crucible bytes, by their position in the transfer, whose check failed: corrected where true, else uncorrectable -/
  crucible : List (Nat × Bool) := []
  deriving DecidableEq, Repr

/-- Where a wake event comes from (R572). -/
inductive WakeEv where
  | core (n : Nat) (cyclic : Bool)
  | source (k : Nat)
  | management
  deriving DecidableEq, Repr

/-- An image as the ROM reads it (R602, R603): its 512-byte header and its two segments, the size of the flash, what the signature check says, whether
PUBKEY is the provisioning key of the ROM, and whether reading the header or a segment times out. -/
structure BootImg where
  header : List Byte
  sp : List Byte
  f : List Byte
  size : Nat
  sigOk : Bool := true
  romKey : Bool := false
  headerTimeout : Bool := false
  segTimeout : Bool := false
  deriving DecidableEq, Repr

/-- What a boot meets (R600 to R606): BOOTSRC, the images of flash A, flash B and the UART (none where the flash is absent or its SFDP invalid), the reading
of VDD_CORE in mV, the failing checkers (unit and index), and for each channel its two MC_DIMM words and whether training or resume succeeds. -/
structure BootEnv where
  src : Nat
  a : Option BootImg := none
  b : Option BootImg := none
  uart : Option BootImg := none
  vout : Nat := 850
  failing : List (Nat × Nat) := []
  dimms : List (Nat × Word × Word × Bool) := []
  deriving DecidableEq, Repr

/-- What a device answers to a configuration request (R619). -/
inductive CfgReply where
  | ok (v : Word)
  | ur
  | crs
  deriving DecidableEq, Repr

/-- An inbound request at a root port (R614, R620): a memory read or write with its bus address, a request that the part does not support (atomics,
translated addresses), an INTx message. -/
inductive InReq where
  | read (addr n : Nat)
  | write (addr : Nat) (bytes : List Byte) (ep : Bool)
  | unsupported
  | intx
  deriving DecidableEq, Repr

/-- The status of a completion: successful with its data and EP, UR, or CA (R625). -/
inductive CplStatus where
  | ok (v : Word) (ep : Bool)
  | ur
  | ca
  deriving DecidableEq, Repr

/-- Instructions of the TAP (R658). -/
inductive TapMode where
  | bypass | idcode | sample | extest | clamp | highz
  deriving DecidableEq, Repr

/-- What a register write names (R14): the register at a control-space offset, in an access of 4 or 8 bytes (a 4-byte access 4 above an 8-byte boundary
is the register's upper half), or CSR `num` of a core. -/
inductive WriteTo where
  | control (off width : Nat)
  | csr (core num : Nat)
  deriving DecidableEq, Repr

/-- The commands (spec/opcode_table.json), in the table's order. -/
inductive Instr where
  /-- REGISTER_WRITE (R14): A control-space or CSR write to a register that has no row of its own sets fields by their access codes. `target`: a control-space offset with the width of the access, or a core's CSR. -/
  | registerWrite (target : WriteTo) (value : Word)
  /-- RC_COUNTER_READ (R14): A read of an RC counter returns its value and then clears it, splitting a concurrent increment once. `off`, `width`: the register, and 4 or 8 bytes of it; `concurrent`: events that increment the RC counter whose lowest bit is `lo` in the same instant (R15). -/
  | rcCounterRead (off width lo concurrent : Nat)
  /-- INSTRUCTION_ISSUE (R105): A core issues an integer, floating-point, vector arithmetic or control-flow instruction. `len`: 2 or 4 bytes. -/
  | instructionIssue (core : Nat) (op : IssueOp) (len : Nat) (env : IssueEnv)
  /-- LOAD (R76): A core load is checked, translated and performed or sent to its target. `fill`: the step's measured fill; `checks`: the checks that the access fails. -/
  | load (core : Nat) (dest : LdDest) (rs1 : Nat) (off : Word) (width : Nat) (sx : Bool) (len : Nat) (fill : Nat) (checks : List Check)
  /-- LOAD_COMPLETE (R76): The data of a waiting load returns from its target and the load completes. `idx`: which waiting load; `step`: the step in which its result becomes available (slack water). -/
  | loadComplete (core : Nat) (idx : Nat) (ans : Answer) (step : Nat)
  /-- STORE (R78): A core store is checked, translated and placed in the store queue or buffer. -/
  | store (core : Nat) (rs1 rs2 : Nat) (fp : Bool) (off : Word) (width : Nat) (len : Nat) (fill : Nat) (checks : List Check)
  /-- STORE_DRAIN (R78): A retired flood-mode store drains in program order to the L1D and L2. -/
  | storeDrain (core : Nat)
  /-- STORE_BUFFER_ENTRY_LEAVE (R125): The oldest slack-water store-buffer entry leaves at the end of its second drain step. `badBytes`: bytes of the entry found uncorrectable (R535). -/
  | storeBufferEntryLeave (core : Nat) (badBytes : List Bool)
  /-- DEVICE_STORE_ACKNOWLEDGE (R29): A control-space or PCIe store retires when its target acknowledges it. -/
  | deviceStoreAcknowledge (core : Nat)
  /-- AMO (R84): An AMO is performed as one indivisible operation at the place of its target. -/
  | amo (core : Nat) (op : AmoOp) (rd rs1 rs2 : Nat) (width : Nat) (fill : Nat)
  /-- LR (R85): LR loads and reserves the aligned 64-byte line. -/
  | lr (core : Nat) (rd rs1 : Nat) (width : Nat) (fill : Nat)
  /-- SC (R85): SC writes only if a reservation is held and ends the reservation. -/
  | sc (core : Nat) (rd rs1 rs2 : Nat) (width : Nat) (fill : Nat)
  /-- VECTOR_MEMORY_ACCESS (R123): A vector load or store performs its blocks or elements with vstart on a trap. `eew`: bytes of an element, or of an index offset for the indexed kinds, whose elements are SEW wide; `enc`: the encoding, for TVAL. -/
  | vectorMemoryAccess (core : Nat) (kind : VMemKind) (isStore : Bool) (masked : Bool) (vd : Nat) (rs1 : Nat) (eew : Nat) (enc : Word) (fill : Nat)
  /-- FENCE (R267): FENCE waits until older accesses are performed, then lets younger ones issue. -/
  | fence (core : Nat)
  /-- FENCE_I (R92): FENCE.I drains stores, invalidates the L1I and refetches. -/
  | fenceI (core : Nat)
  /-- ECALL (R167): ECALL raises the environment-call exception for the current level. -/
  | ecall (core : Nat)
  /-- EBREAK (R167): EBREAK raises the breakpoint exception. -/
  | ebreak (core : Nat)
  /-- CSR_INSTRUCTION (R160): A CSR instruction reads or writes a CSR subject to level and counter-enable checks. `rs1`: the register, or the 5-bit immediate of the immediate forms. -/
  | csrInstruction (core : Nat) (op : CsrOp) (csr : Nat) (rd rs1 : Nat)
  /-- TRET (R181): TRET checks and restores from its slot and returns to the recorded level. -/
  | tret (core : Nat)
  /-- HLT (R184): HLT puts the core into HALT once its store buffer is empty. -/
  | hlt (core : Nat)
  /-- PAUSE_SLACK (R185): PAUSE.SLACK waits for older instructions and stores to complete. -/
  | pauseSlack (core : Nat)
  /-- TLBW (R202): TLBW installs, replaces or removes an L2 TLB entry. -/
  | tlbw (core : Nat) (rs1 rs2 : Nat)
  /-- TLBP (R204): TLBP looks up the L2 or stage-2 TLB and returns the result. -/
  | tlbp (core : Nat) (rd rs1 : Nat)
  /-- TLBI (R206): TLBI invalidates matching entries of the issuing core. -/
  | tlbi (core : Nat) (rs1 rs2 : Nat)
  /-- TLBIB (R213): TLBIB drains stores and broadcasts an invalidation to every present core. -/
  | tlbib (core : Nat) (rs1 rs2 : Nat)
  /-- TLBIB_RECEIPT (R213): A core receives an invalidation, removes entries, drains and acknowledges. -/
  | tlbibReceipt (core : Nat) (inv : TlbInv)
  /-- TLBIB_COMPLETE (R213): The last acknowledgement arrives and the TLBIB completes. `acker`: the core whose acknowledgement arrives. -/
  | tlbibComplete (core : Nat) (acker : Nat)
  /-- TWP (R207): TWP reads one page-table entry coherently into rd. `bad`: the read meets an uncorrectable error. -/
  | twp (core : Nat) (rd rs1 rs2 : Nat) (bad : Bool)
  /-- S2W (R203): S2W installs or removes a stage-2 entry for the current partition. -/
  | s2w (core : Nat) (rs1 rs2 : Nat)
  /-- MONITOR_SAMPLE (R47): Every 1 µs the voltage monitors and tile temperature sensors are sampled. `mv`: lowest VDD_CORE reading, mV; `hot`: hottest reading, 0.25 °C; `router`: of the tile that reads it. -/
  | monitorSample (mv : Nat) (hot : Int) (router : Nat)
  /-- STREAM_B_SWITCH (R48): At a coincidence token stream B changes between 1.250 GHz and stream A tokens. -/
  | streamBSwitch
  /-- SYNTH_LOCK (R53): A pace synthesiser achieves lock and LOCKA or LOCKB becomes 1. -/
  | synthLock (b : Bool)
  /-- SYNTH_LOSS_OF_LOCK (R55): A synthesiser loses lock, LOST is set and affected cores are forced to flood with a machine check. -/
  | synthLossOfLock (b : Bool)
  /-- SYSTEM_REFERENCE_STOP (R55): The system reference stops, ending the pace streams and tide time. -/
  | systemReferenceStop
  /-- SYSTEM_REFERENCE_RETURN (R344): The system reference returns and tide time resumes with the servo in FREE. -/
  | systemReferenceReturn
  /-- FELL_CLEAR (R49): A W1C write to FELL clears it only while FASTOK is 1. -/
  | fellClear (value : Word)
  /-- PACE_SWITCH (R59): A PACECTL write changing MODE or RATE becomes oldest and begins draining stores. -/
  | paceSwitch (core : Nat) (op : CsrOp) (rd rs1 : Nat)
  /-- PACE_SWITCH_COMPLETE (R59): After the drain the core waits for a token of the selected stream and issues in the new mode. `mcStore`: physical address of a draining store that reported an uncorrectable error (R61). -/
  | paceSwitchComplete (core : Nat) (mcStore : Option Nat)
  /-- PACE_SLIP (R66): A step's work completes after the next token, tokens are lost and trap 0x15 follows. -/
  | paceSlip (core : Nat) (lost : Nat)
  /-- PAIR_ENTRY (R71): A PAIRCTL write of EN = 1 by the left core starts draining and copying state. -/
  | pairEntry (core : Nat)
  /-- PAIR_ENTRY_COMPLETE (R71): Copying ends, ACTIVE is set and both cores issue on the same token. -/
  | pairEntryComplete (tile : Nat)
  /-- PAIR_EXIT (R73): A PAIRCTL write of EN = 0 ends paired mode and halts the right core. -/
  | pairExit (core : Nat)
  /-- H_SPECCTL_WRITE (R95): A write to H_SPECCTL discards in-flight instructions and applies FILLRET and LDWAIT. -/
  | hSpecctlWrite (core : Nat) (value : Word)
  /-- PREDCTL_INVAL (R150): Writing INVAL starts invalidating every predictor entry. -/
  | predctlInval (core : Nat)
  /-- PREDCTL_INVAL_COMPLETE (R150): The predictor invalidation completes and INVAL reads 0. -/
  | predctlInvalComplete (core : Nat)
  /-- PREDCTL_REGEN (R147): Writing REGEN regenerates the keys named by REGENALL and REGENPART. -/
  | predctlRegen (core : Nat)
  /-- REGENINT_EXPIRE (R150): The REGENINT interval expires and all keys of the core are regenerated. -/
  | regenintExpire (core : Nat)
  /-- KEY_REGENERATION_EFFECT (R148): A regenerated current-context key takes effect at a discard or after 64 retirements. -/
  | keyRegenerationEffect (core : Nat)
  /-- TIMER_COMPARE_REACHED (R164): Tide time reaches S_TIMECMP or H_TIMECMP and the timer interrupt becomes pending. `h`: the H timer; otherwise the S timer. -/
  | timerCompareReached (core : Nat) (h : Bool)
  /-- INTERRUPT_RECOGNITION (R130): A recognisable interrupt is recognised at a boundary and an entry begins. -/
  | interruptRecognition (core : Nat)
  /-- ENTRY_TAKEOVER (R177): An earlier-ordered interrupt or machine check becomes recognisable in steps 0–19 and takes over the entry. -/
  | entryTakeover (core : Nat)
  /-- ENTRY_POINT_OF_NO_RETURN (R176): At step 20 the slot is chosen and checked and the interrupt accepted. -/
  | entryPointOfNoReturn (core : Nat)
  /-- ENTRY_COMPLETE (R174): Trap CSRs are written, sp and a0–a2 loaded, the level changed and the handler starts. -/
  | entryComplete (core : Nat)
  /-- CAST_COUNT_WRITE (R225): A write of TILE_LCAST, TILE_RCAST or SLC_CAST WAYS starts a cast change or is rejected. -/
  | castCountWrite (reg : CastReg) (value : Word)
  /-- CAST_CHANGE_COMPLETE (R226): Eviction and zeroing end, CUR takes the new count and BUSY clears. -/
  | castChangeComplete (reg : CastReg)
  /-- MNT_CLEAN (R230): MNTCMD with OP 0 submits a clean request to a tile or slice engine. `slice`: the slice engine of tile t, otherwise its tile engine. -/
  | mntClean (slice : Bool) (t tag : Nat)
  /-- MNT_INVALIDATE (R230): MNTCMD with OP 1 submits an invalidate request. -/
  | mntInvalidate (slice : Bool) (t tag : Nat)
  /-- MNT_CLEAN_AND_INVALIDATE (R230): MNTCMD with OP 2 submits a clean and invalidate request. -/
  | mntCleanAndInvalidate (slice : Bool) (t tag : Nat)
  /-- MNT_ZERO (R230): MNTCMD with OP 3 submits a zero request. -/
  | mntZero (slice : Bool) (t tag : Nat)
  /-- MNT_REQUEST_COMPLETE (R235): A maintenance request ends, setting DONE, LASTTAG and MNTCNT, and the next queued request starts. -/
  | mntRequestComplete (slice : Bool) (t : Nat)
  /-- HOME_RDS (R254): The home receives RdS and opens a transaction or queues it. `h`: the home slice; `n`: the retry count; `part`: the partition tag. -/
  | homeRds (h line core n part : Nat) (env : HomeEnv)
  /-- HOME_RDX (R254): The home receives RdX and grants M after snooping other holders. -/
  | homeRdx (h line core n part : Nat) (env : HomeEnv)
  /-- HOME_UPG (R254): The home receives Upg and invalidates other sharers or treats it as RdX. -/
  | homeUpg (h line core n part : Nat) (env : HomeEnv)
  /-- HOME_EVC (R254): The home receives a clean eviction notice and answers EvictAck. -/
  | homeEvc (h line core : Nat)
  /-- HOME_EVD (R254): The home receives a dirty eviction notice, writes the data into the slice and answers EvictAck. -/
  | homeEvd (h line core : Nat) (data : Line) (poison : Word)
  /-- HOME_DEVRD (R263): The home receives a device read and returns the newest data. -/
  | homeDevrd (h line src part : Nat) (env : HomeEnv)
  /-- HOME_DEVWR (R263): The home receives a device write, removes L2 copies and writes the bytes into the slice. -/
  | homeDevwr (h line src : Nat) (mask : Word) (data : Line) (poison : Word) (part : Nat) (env : HomeEnv)
  /-- HOME_INVACK (R255): The home receives InvAck and may grant M or close the transaction. -/
  | homeInvack (h line core : Nat)
  /-- HOME_DATA (R254): The home receives data from a downgrade or recall snoop. -/
  | homeData (h line core : Nat) (data : Line) (poison : Word) (dirty : Bool)
  /-- HOME_PRB_REPORT (R265): The home receives L2 reports for a rebuilding set and recomputes its entries. -/
  | homePrbReport (h set core : Nat)
  /-- L2_SNPF (R252): An L2 receives SnpF and forwards data to the requester. `req`: the requester; `lost`: the line's tag was uncorrectable and its way invalidated (R531). -/
  | l2Snpf (h line core req : Nat) (lost : Bool)
  /-- L2_SNPX (R252): An L2 receives SnpX, forwards data and invalidates. -/
  | l2Snpx (h line core req : Nat) (lost : Bool)
  /-- L2_SNPI (R252): An L2 receives SnpI, invalidates and answers InvAck. -/
  | l2Snpi (h line core : Nat)
  /-- L2_SNPD (R252): An L2 receives SnpD, sends data to the home and moves to F. -/
  | l2Snpd (h line core : Nat) (lost : Bool)
  /-- L2_SNPR (R252): An L2 receives SnpR, sends data to the home and invalidates. -/
  | l2Snpr (h line core : Nat) (lost : Bool)
  /-- L2_PRB (R265): An L2 receives a rebuild probe and scans and reports its lines of that set. -/
  | l2Prb (h set core : Nat)
  /-- L2_DATA (R252): An L2 receives Data and enters the granted state. -/
  | l2Data (core line : Nat) (granted : Granted) (data : Line) (poison : Word)
  /-- L2_GRANT (R252): An L2 receives Grant of M for an upgrade. -/
  | l2Grant (core line : Nat)
  /-- L2_EVICTACK (R259): An L2 receives EvictAck and frees its eviction-buffer entry. -/
  | l2Evictack (core line : Nat)
  /-- L2_RETRY (R261): An L2 receives Retry with a backoff hint. -/
  | l2Retry (core line hint : Nat)
  /-- RETRY_RESEND (R261): After its backoff the requester resends the request, promoted at count 8. -/
  | retryResend (core line : Nat)
  /-- HOMESET_APPLY (R246): APPLY starts a home-set change that holds DRAM requests and flushes every cache. -/
  | homesetApply
  /-- HOMESET_CHANGE_COMPLETE (R246): CHIP_HOMECUR takes the new set and held requests are released. -/
  | homesetChangeComplete
  /-- FLIT_RECEIVE (R287): A link receiver checks a flit's CRCs and accepts or discards it with a negative acknowledgement. A flit sent on link `l` of router `r`, of class `cls`, reaches the neighbour with these check results. -/
  | flitReceive (r l cls : Nat) (headerOk dataOk : Bool)
  /-- LINK_NAK (R287): The sender receives a negative acknowledgement and replays from the named flit. -/
  | linkNak (r l : Nat)
  /-- RETRY_WINDOW_CLOSE (R288): A replay is acknowledged and the link returns to UP. -/
  | retryWindowClose (r l : Nat)
  /-- INJECTION_BUCKET_ACCRUAL (R283): Each injection bucket gains RATE tokens per µs of stream A. -/
  | injectionBucketAccrual
  /-- TC0_ADMIT (R283): A TC0 transfer waiting for tokens is admitted and injected. `ep`: endpoint number, 4 × router + endpoint. -/
  | tc0Admit (ep : Nat)
  /-- LINK_MONITOR_ACCRUAL (R284): Each link monitor gains CAP × 8 tokens per µs. -/
  | linkMonitorAccrual
  /-- RTR_TC0BKT_WRITE (R286): A bucket write takes effect at once and trims held tokens to the new DEPTH. -/
  | rtrTc0bktWrite (r e : Nat) (value : Word)
  /-- RTR_TC0CAP_WRITE (R284): A link cap write sets the new monitor rate from the write. -/
  | rtrTc0capWrite (r : Nat) (value : Word)
  /-- EBB (R292): Writing EBB starts the ebb handshake of an endpoint. -/
  | ebb (ep : Nat)
  /-- REOPEN (R291): Writing REOPEN makes a FENCED port whose domain is RUN OPEN. -/
  | reopen (ep : Nat)
  /-- DECLARE (R291): Writing DECLARE makes the endpoint DEAD. -/
  | declare (ep : Nat)
  /-- FENCE_MAP_BROADCAST (R290): A router receives and applies a fence-map change. Router `r` receives the new port state of endpoint `ep`. -/
  | fenceMapBroadcast (r ep state : Nat)
  /-- MARKER_SEND (R292): After its endpoints have injected checked accesses, a router sends markers in all four classes. -/
  | markerSend (r ep : Nat)
  /-- MARKER_ARRIVE (R292): A marker arrives at the ebbing endpoint's router; the 320th closes the fence. -/
  | markerArrive (r ep cls : Nat)
  /-- EBB_TIMEOUT (R293): EBBTMO expires before the ebb completes and the endpoint becomes DEAD. -/
  | ebbTimeout (ep : Nat)
  /-- RESPONSE_TIMEOUT (R293): RSPTMO expires with no response and the endpoint becomes DEAD. -/
  | responseTimeout (ep : Nat)
  /-- PARTITION_EBB_START (R298): CHIP_PEBB START refuses new requests tagged p. -/
  | partitionEbbStart (part : Nat)
  /-- PARTITION_EBB_DONE (R298): Every endpoint has reported and DONE is set. -/
  | partitionEbbDone
  /-- PARTITION_EBB_TIMEOUT (R298): The partition-ebb timeout expires, TMO is set and refusal ends. -/
  | partitionEbbTimeout
  /-- TRAIN_FULL (R324): MC_TRAIN START with MODE 0 checks population and starts full training. -/
  | trainFull (m : Nat)
  /-- TRAIN_RESUME (R325): MC_TRAIN START with MODE 1 restores the saved set. -/
  | trainResume (m : Nat)
  /-- TRAIN_DISCARD (R325): DISCARD clears SAVEDV. -/
  | trainDiscard (m : Nat)
  /-- TRAINING_COMPLETE (R324): Full training ends in READY or DISABLED and the saved set is stored. -/
  | trainingComplete (m : Nat) (ok : Bool)
  /-- RESUME_COMPLETE (R325): A resume check ends in READY or UNTRAINED. `ok`: the timing check passes. -/
  | resumeComplete (m : Nat) (ok : Bool)
  /-- SRREQ_SET (R326): SRREQ = 1 on a fenced controller starts self-refresh entry. -/
  | srreqSet (m : Nat)
  /-- SELF_REFRESH_ENTERED (R326): The controller completes queued work, enters self-refresh and sets SRACK. -/
  | selfRefreshEntered (m : Nat)
  /-- SRREQ_CLEAR (R326): SRREQ = 0 starts the resume from self-refresh. -/
  | srreqClear (m : Nat)
  /-- DRAMCTL_APPLY (R309): APPLY checks and applies all decode regions or rejects them. -/
  | dramctlApply
  /-- MC_READ (R312): A controller reads an ECC word, correcting or poisoning it. `charge`: the partition tag whose class pays (R510), none for a request that is not charged. -/
  | mcRead (m addr : Nat) (err : DramErr) (loc : DramLoc) (charge : Option Nat) (cyclic : Bool)
  /-- MIRROR_SECONDARY_READ (R318): The secondary copy returns for a primary uncorrectable word and is written back. `m`: the primary; `err`: what the secondary's word shows. -/
  | mirrorSecondaryRead (m addr : Nat) (err : DramErr) (loc : DramLoc)
  /-- MC_WRITE (R310): A controller writes a whole line, or the poison syndrome for poisoned data. -/
  | mcWrite (m addr : Nat) (data : Line) (poison : Word) (charge : Option Nat)
  /-- DEMAND_SCRUB_WRITE (R315): A queued scrub write of a corrected line issues. -/
  | demandScrubWrite (m addr : Nat)
  /-- PATROL_READ (R316): The patrol scrub reads the next ECC word of the channel. -/
  | patrolRead (m : Nat) (err : DramErr) (loc : DramLoc)
  /-- REFRESH (R303): The controller issues an all-bank refresh. -/
  | refresh (m : Nat)
  /-- SPARING_START (R317): MC_SPARE START begins copying the source rank to the spare. -/
  | sparingStart (m src : Nat)
  /-- SPARING_COPY_COMPLETE (R317): The last word is copied and accesses go to the spare rank. -/
  | sparingCopyComplete (m : Nat)
  /-- SPPR (R319): GO with KIND 0 starts a soft post-package repair. `noSpare`: the bank has no spare row left; `outside`: bank group, bank or row outside the DIMM. -/
  | sppr (m rank : Nat) (noSpare outside : Bool)
  /-- HPPR (R319): GO with KIND 1 starts a hard post-package repair. -/
  | hppr (m rank : Nat) (noSpare outside : Bool)
  /-- PPR_COMPLETE (R319): A repair ends and sets DONE and RESULT. -/
  | pprComplete (m : Nat)
  /-- TC0_WINDOW_OPEN (R320): Tide time reaches OFFSET mod PERIOD and a service window opens. -/
  | tc0WindowOpen (m : Nat)
  /-- TC0_WINDOW_CLOSE (R320): LEN ns after opening the window closes. -/
  | tc0WindowClose (m : Nat)
  /-- MC_TC0CTL_WRITE (R321): A write of MC_TC0CTL sets CAP and enables or disables windows after checking. -/
  | mcTc0ctlWrite (m : Nat) (value : Word)
  /-- ALERT_N (R313): A DIMM signals a CA parity error and the controller reissues commands. `writes`: accepted writes that the controller still holds. -/
  | alertN (m writes : Nat)
  /-- WRITE_CRC_ERROR (R313): A device signals a write CRC error and the write is resent. -/
  | writeCrcError (m writes : Nat)
  /-- FLN_QCTL_WRITE (R330): A quad mode or pair write is performed or refused. -/
  | flnQctlWrite (quad : Nat) (value : Word)
  /-- FLN_CTL_WRITE (R342): A lane control write enables or disables the lane or is refused. -/
  | flnCtlWrite (lane : Nat) (value : Word)
  /-- QUAD_REFERENCE_CHANGE (R331): A quad's reference or PLL lock changes REFOK. -/
  | quadReferenceChange (quad : Nat) (ok : Bool)
  /-- AN_RESOLVE (R342): Clause 73 auto-negotiation resolves or finds no common ability. -/
  | anResolve (lane : Nat) (ok : Bool)
  /-- LINK_TRAINING_COMPLETE (R342): Clause 72 training completes and the lane enters ACQ. -/
  | linkTrainingComplete (lane : Nat)
  /-- LINK_TRAINING_TIMEOUT (R342): Training not complete in 500 ms returns the lane to AN. -/
  | linkTrainingTimeout (lane : Nat)
  /-- BLOCK_LOCK (R342): Block lock or synchronisation is achieved and the lane enters HOLD. -/
  | blockLock (lane : Nat)
  /-- HOLD_EXPIRE (R342): 1 ms in HOLD with lock kept brings the lane UP. -/
  | holdExpire (lane : Nat)
  /-- LOCK_LOSS (R342): Loss of lock, hi_ber or local fault takes the lane out of UP and sets FAULTEV. -/
  | lockLoss (lane : Nat) (cause : LaneLoss)
  /-- REMOTE_FAULT (R342): A remote fault starts or ends and sets RFAULT accordingly. -/
  | remoteFault (lane : Nat) (on : Bool)
  /-- FRAME_RECEIVE (R332): A lane's MAC receives a frame and checks length, FCS and address. `bytes`: destination address to last payload or padding byte, without FCS. -/
  | frameReceive (lane : Nat) (bytes : List Byte) (fcsOk : Bool)
  /-- FRAME_TRANSMIT_END (R334): A frame or fragment finishes and the transmitter picks the next eligible frame. `stamp`: lane timestamp at which the next frame's first bit is at the pins; `fragment`: what ended is a fragment of a preempted frame. -/
  | frameTransmitEnd (lane stamp : Nat) (fragment : Bool)
  /-- GATE_INTERVAL_END (R336): A gate-control-list interval ends and the next entry's gates apply. -/
  | gateIntervalEnd (lane : Nat)
  /-- GCL_SWAP (R337): SWAP captures the inactive bank and schedules its takeover or is refused. -/
  | gclSwap (lane : Nat)
  /-- GCL_TAKEOVER (R337): The new list takes over at the computed boundary and OPERBANK changes. -/
  | gclTakeover (lane : Nat)
  /-- VERIFY_COMPLETE (R338): The 802.3br verify procedure ends and PREACT changes. -/
  | verifyComplete (lane : Nat) (ok : Bool)
  /-- FLN_TXEQ_WRITE (R669): An equaliser write takes effect at the next block boundary or is refused. -/
  | flnTxeqWrite (lane : Nat) (value : Word)
  /-- TTADJ_STEP (R347): A CHIP_TTADJ write with STEP = 1 steps tide time or is refused. `offset`: the 48-bit OFFSET. -/
  | ttadjStep (offset : Nat)
  /-- TTADJ_SLEW (R347): A CHIP_TTADJ write with STEP = 0 starts a slew or is refused. -/
  | ttadjSlew (offset : Nat)
  /-- TTADJ_LOWER_HALF (R347): A 32-bit write of the lower half stages OFFSET[31:0]. -/
  | ttadjLowerHalf (value : Nat)
  /-- SLEW_END (R347): The whole slew offset has been applied. -/
  | slewEnd
  /-- TTCTL_ROLE_WRITE (R346): A write of ROLE returns the servo to FREE. -/
  | ttctlRoleWrite (value : Word)
  /-- SERVO_MEASUREMENT (R346): A valid Sync and Follow_Up gives an offset measurement to the servo. A Sync and Follow_Up on a lane give this offset, tide time less grandmaster time. -/
  | servoMeasurement (lane : Nat) (offset : Int)
  /-- PPS_EDGE (R345): A rising pulse edge on GPIO 14 gives a measurement in role 3. -/
  | ppsEdge
  /-- MEASUREMENT_MISSING (R346): HOLDN expected measurements are missing and the servo enters HOLDOVER. -/
  | measurementMissing
  /-- PPS_OUTPUT (R345): At each whole second of tide time GPIO 15 goes high for 100 µs. -/
  | ppsOutput
  /-- SYNC_TRANSMIT (R348): At its sync interval a master port sends Sync and Follow_Up. -/
  | syncTransmit (lane : Nat)
  /-- PDELAY_REQ_TRANSMIT (R348): At its interval a port sends Pdelay_Req. -/
  | pdelayReqTransmit (lane : Nat)
  /-- GPTP_MESSAGE_RECEIVE (R348): A gPTP event or Follow_Up message is timestamped and consumed in hardware. -/
  | gptpMessageReceive (lane : Nat) (msg : PtpMsg)
  /-- STATION_COMMIT (R357): STN_CMD GO captures the staged entry and station number. -/
  | stationCommit (e station : Nat)
  /-- STATION_COMMIT_COMPLETE (R358): The commit's checks are made and the slot is replaced or refused. -/
  | stationCommitComplete (e : Nat)
  /-- TIDE_FRAME_INPUT (R361): A tide frame is checked and its input accepted and written or dropped. `bytes`: destination address to last payload or padding byte; `stamp`: lane timestamp of the last bit. -/
  | tideFrameInput (lane : Nat) (bytes : List Byte) (bad : List Nat) (stamp : Nat)
  /-- INPUT_WRITE_REFUSED (R364): An input write refused by the breakwater counts in FE_IMGERR and as not accepted. -/
  | inputWriteRefused (e station : Nat)
  /-- TT_START (R375): START begins the checks of a stopped tide table. `bev`: the BEV bit of the same write. -/
  | ttStart (e k : Nat) (bev : Bool)
  /-- TT_START_CHECK_DONE (R376): The START check ends and the table is ARMED or refused. -/
  | ttStartCheckDone (e k : Nat)
  /-- TT_STOP (R375): STOP makes a running table STOPPING or an armed table STOPPED. -/
  | ttStop (e k : Nat) (bev : Bool)
  /-- TT_ABORT (R375): ABORT stops the table at once. -/
  | ttAbort (e k : Nat) (bev : Bool)
  /-- TT_BOUNDARY (R377): A cycle boundary performs flips, life-sign counts, RESUME judgement and event 63. -/
  | ttBoundary (e k : Nat)
  /-- TT_SEND (R374): A SEND entry reads the output or substitute and queues an output frame. Table k's next entry. -/
  | ttSend (e k : Nat)
  /-- SEND_OUTPUT_READ_RETURN (R371): The output or substitute read returns and the frame is built and queued. `bad`: an error status. -/
  | sendOutputReadReturn (e : Nat) (bad : Bool)
  /-- TT_EXPECT (R360): An EXPECT entry applies the station state table and may write a header. -/
  | ttExpect (e k : Nat)
  /-- TT_EVENT (R380): An EVENT entry raises tide event v. -/
  | ttEvent (e k : Nat)
  /-- TT_LADLE (R454): A LADLE entry gives a tide start to a ladle channel. -/
  | ttLadle (e k : Nat)
  /-- TT_FLIP (R369): A FLIP entry begins flipping the named image sides. -/
  | ttFlip (e k : Nat)
  /-- FLIP_COMPLETE (R369): Injected input writes are acknowledged, the bank bit inverts and the bank word is written. -/
  | flipComplete (e image : Nat)
  /-- TT_SYNC (R374): A SYNC entry sends a sync marker on each masked lane. -/
  | ttSync (e k : Nat)
  /-- TT_NOP (R374): A NOP entry does nothing. -/
  | ttNop (e k : Nat)
  /-- LIFE_SIGN (R381): A store to a life-sign slot is accepted as a life sign or dropped. `off`: offset in the image's life-sign page. -/
  | lifeSign (e core image off width : Nat) (value : Word) (part : Nat)
  /-- IMAGE_RESUME (R383): RESUME is written and stays pending until the next boundary judges it. -/
  | imageResume (e image : Nat)
  /-- IMAGE_ENABLE (R366): A write of EN = 1 to an image checks its banks and enables it or sets CFGREJ. A write of FE_IMGCFG. -/
  | imageEnable (e image : Nat) (value : Word)
  /-- SUBFORCE_WRITE (R382): A write of FE_SUBFORCE puts partitions' stations in or out of substitution. -/
  | subforceWrite (e : Nat) (value : Word)
  /-- FUNCTION_ENABLE (R393): EN = 1 in DISABLED checks a field function and enters RUN or refuses. A write of FE_FNCFG of local function f. -/
  | functionEnable (e f : Nat) (value : Word)
  /-- FUNCTION_QUIESCE (R411): QUIESCE = 1, or EN = 0, starts a quiesce of a running function. -/
  | functionQuiesce (e f : Nat) (value : Word)
  /-- QUIESCE_COMPLETE (R411): Every write of the quiesce is acknowledged and the function is QUIESCED or DISABLED. -/
  | quiesceComplete (e f : Nat)
  /-- FUNCTION_DISABLE (R394): EN = 0 in QUIESCED or ERROR disables the function. -/
  | functionDisable (e f : Nat) (value : Word)
  /-- TX_TAIL_WRITE (R396): A TX tail write posts descriptors or is ignored with DBERR. -/
  | txTailWrite (e f value : Nat)
  /-- RX_TAIL_WRITE (R396): An RX tail write posts buffers or is ignored with DBERR. -/
  | rxTailWrite (e f ring value : Nat)
  /-- DESCRIPTOR_READ (R397): A posted descriptor read returns to the engine. `ring`: 0 TX, 1 to 4 RX ring 0 to 3; `bad`: poison or an error status. -/
  | descriptorRead (e f ring : Nat) (bad : Bool)
  /-- TX_FRAME_ADMIT (R409): A frame at the head of a TX ring is checked and admitted when tokens and queue space allow. -/
  | txFrameAdmit (e f : Nat)
  /-- TX_FRAME_COMPLETE (R401): A frame's last bit leaves or it fails, and its completions are written. -/
  | txFrameComplete (e f : Nat) (bad : Bool)
  /-- RX_FRAME_WRITE_COMPLETE (R407): An admitted frame's data and completions are acknowledged and HEAD advances. -/
  | rxFrameWriteComplete (e f : Nat) (bad : Bool)
  /-- RING_INTERRUPT_TIMER (R408): ITIME expires since the first unsignalled completion and the ring raises its vector. -/
  | ringInterruptTimer (e f ring : Nat)
  /-- VECTOR_UNMASK (R408): Clearing a mask bit with IPEND set sends the held edge. Function n of field engine e, or channel n of ladle engine e. -/
  | vectorUnmask (ladle : Bool) (e n : Nat) (mask : Word)
  /-- FILTER_WRITE (R404): A receive filter write takes effect for later classifications. -/
  | filterWrite (e f k : Nat) (value : Word)
  /-- DIRECT_MESSAGE (R418): A core receives a fast-station direct message and holds it as a direct offer. -/
  | directMessage (core src prio num : Nat)
  /-- MAILBOX_DATA_STORE (R427): A store to FE_MBDATA of a mailbox slot is accepted or dropped. `off`: offset in the engine's field mailbox space. -/
  | mailboxDataStore (e core off width : Nat) (value : Word) (part : Nat)
  /-- MAILBOX_SEND (R429): A SEND store builds and queues the fast-station output frame. `lane`: local lane. -/
  | mailboxSend (e core lane : Nat) (value : Word) (part : Nat)
  /-- DEADLINE_EXPIRE (R433): A loop open for DEADLINE ns closes and the substitute frame is produced. -/
  | deadlineExpire (lane : Nat)
  /-- CHANNEL_ENABLE (R447): EN = 1 in DISABLED checks a ladle channel's windows and enters IDLE or refuses. A write of LDL_CHCFG of local channel c. -/
  | channelEnable (l c : Nat) (value : Word)
  /-- CHANNEL_DISABLE (R451): EN = 0 disables the channel, aborting it first if it runs. -/
  | channelDisable (l c : Nat) (value : Word)
  /-- MANAGER_STOP (R446): STOP in LDL_CHCFG requests a stop with the STOPTMO timeout. -/
  | managerStop (l c : Nat) (value : Word)
  /-- CHANNEL_ABORT (R453): ABORT starts an abort of the channel. -/
  | channelAbort (l c : Nat) (value : Word)
  /-- STOPTMO_EXPIRE (R446): A manager STOP not reached within 2^STOPTMO µs becomes an abort. -/
  | stoptmoExpire (l c : Nat)
  /-- ABORT_COMPLETE (R453): Issued writes complete and the channel is STOPPED with ABORTED set. `written`: bytes of the abandoned MOVE or FILL that had been written. -/
  | abortComplete (l c written : Nat)
  /-- DOORBELL_START (R451): START on the doorbell runs the program at LDL_DBPROG or is ignored. -/
  | doorbellStart (l c : Nat)
  /-- DOORBELL_STOP (R452): STOP on the doorbell requests a stop at the next stop point. -/
  | doorbellStop (l c : Nat)
  /-- DOORBELL_RESUME (R451): RESUME continues a STOPPED channel at LDL_CHPC. -/
  | doorbellResume (l c : Nat)
  /-- DOORBELL_CLEAR (R451): CLEAR returns a channel in ERROR to IDLE. -/
  | doorbellClear (l c : Nat)
  /-- DBREG_WRITE (R450): A write of LDL_DBREG sets a channel register unless the channel runs. -/
  | dbregWrite (l c r width : Nat) (value : Word)
  /-- CHANNEL_ENTER_FLIGHT (R441): A waiting channel enters flight when fewer than 16 are in flight. -/
  | channelEnterFlight (l : Nat)
  /-- PROGRAM_FETCH (R462): A program fetch returns a line into the channel's fetch buffer. -/
  | programFetch (l c : Nat) (bad : Bool)
  /-- MOVE (R469): MOVE checks windows and copies n bytes through the crucible. The channel's current instruction. -/
  | move (l c : Nat)
  /-- FILL (R471): FILL writes a register pattern into a range. -/
  | fill (l c : Nat)
  /-- LOOP (R473): LOOP pushes a loop entry or skips its body when the count is 0. -/
  | loop (l c : Nat)
  /-- NEXT (R473): NEXT decrements the top loop count and branches back or pops. -/
  | next (l c : Nat)
  /-- WAIT (R474): WAIT completes if met or puts the channel in WAITING. -/
  | wait (l c : Nat)
  /-- WAIT_MET (R475): A waiting channel's condition becomes met and it returns to RUNNING. -/
  | waitMet (l c : Nat)
  /-- SIGNAL_SETF (R476): SIGNAL SETF sets an owned event flag. -/
  | signalSetf (l c : Nat)
  /-- SIGNAL_CLRF (R476): SIGNAL CLRF clears an owned event flag. -/
  | signalClrf (l c : Nat)
  /-- SIGNAL_VECTOR (R476): SIGNAL VECTOR raises the channel's interrupt vector. -/
  | signalVector (l c : Nat)
  /-- SIGNAL_WRITE (R476): SIGNAL WRITE writes a register's 8 bytes to memory. -/
  | signalWrite (l c : Nat)
  /-- SET_IMM (R477): SET IMM loads an immediate into a register. -/
  | setImm (l c : Nat)
  /-- SET_ADD (R477): SET ADD adds an immediate to a register. -/
  | setAdd (l c : Nat)
  /-- SET_LOAD (R477): SET LOAD reads 1 to 8 bytes from memory into a register. -/
  | setLoad (l c : Nat)
  /-- SET_AND (R477): SET AND masks a register with an immediate. -/
  | setAnd (l c : Nat)
  /-- SET_XOR (R477): SET XOR inverts register bits with an immediate. -/
  | setXor (l c : Nat)
  /-- END (R477): END returns the channel to IDLE and counts a run. -/
  | endProgram (l c : Nat)
  /-- LADLE_INSTRUCTION_COMPLETE (R452): Every read and write of an instruction has returned and the instruction completes. -/
  | ladleInstructionComplete (l c : Nat) (env : LdlEnv)
  /-- EVENT_FLAG_WRITE (R478): A write to LDL_EVSET, LDL_EVCLR or their doorbell copies sets or clears flags. `page`: the doorbell page of a local channel, none for LDL_EVSET and LDL_EVCLR. -/
  | eventFlagWrite (l : Nat) (page : Option Nat) (clr : Bool) (mask : Word)
  /-- SOURCE_EDGE (R482): A qualifying edge of a source sets its edge latch. -/
  | sourceEdge (src : Nat)
  /-- SOURCE_LINE_CHANGE (R482): A level source's line changes its pending state. `level`: the pin's level for the sources of pins; every other line is a function of its unit's state. -/
  | sourceLineChange (src : Nat) (level : Bool)
  /-- IRQ_PENDSET (R482): Writing 1 to IRQ_PENDSET sets a source's software bit. `w`: the first 32-bit word; `width`: 4 or 8 bytes. -/
  | irqPendset (w : Nat) (mask : Word) (width : Nat)
  /-- IRQ_PENDCLR (R482): Writing 1 to IRQ_PENDCLR clears a source's software bit and edge latch. -/
  | irqPendclr (w : Nat) (mask : Word) (width : Nat)
  /-- IRQ_ENSET (R483): Writing 1 to IRQ_ENSET enables a source. -/
  | irqEnset (w : Nat) (mask : Word) (width : Nat)
  /-- IRQ_ENCLR (R490): Writing 1 to IRQ_ENCLR disables a source and withdraws fast-source offers. -/
  | irqEnclr (w : Nat) (mask : Word) (width : Nat)
  /-- IRQ_CFG_WRITE (R495): An IRQ_CFG write configures a source and may retarget its pending state. -/
  | irqCfgWrite (src : Nat) (value : Word)
  /-- IRQ_CTL_WRITE (R488): A write of IRQ_CTL.EN permits or stops offers and direct messages. -/
  | irqCtlWrite (value : Word)
  /-- OFFER (R484): A core receives a distributor offer for code 0x05 or 0x06. -/
  | offer (core code src prio num : Nat)
  /-- WITHDRAW (R486): A core receives a withdraw, removes the offer and acknowledges. -/
  | withdraw (core src : Nat)
  /-- ACCEPTANCE (R486): The distributor receives an acceptance and clears the source or counts it late. -/
  | acceptance (core code src num : Nat)
  /-- WITHDRAW_ACKNOWLEDGEMENT (R495): The distributor receives a withdraw acknowledgement and completes a move. -/
  | withdrawAcknowledgement (core src : Nat)
  /-- EDGE_NOTE (R489): An edge note with an edge number sets a fast source's latch when newer. -/
  | edgeNote (src num : Nat)
  /-- OFFER_REFUSED (R487): The breakwater refuses an offer to a fenced or dead core. -/
  | offerRefused (core code : Nat)
  /-- POSTING_WRITE_ACK (R492): A posting entry's write is acknowledged and HEAD advances. `ok`: false where the write is refused or returns an error. -/
  | postingWriteAck (part : Nat) (ok : Bool)
  /-- IRQ_VCORE_WRITE (R491): A write of IRQ_VCORE changes residency and withdraws the old code 0x06 offer. -/
  | irqVcoreWrite (core : Nat) (value : Word)
  /-- IRQ_PDISC (R497): GO to IRQ_PDISC discards a partition's pending and posted interrupts. -/
  | irqPdisc (part : Nat)
  /-- IRQ_SWSEND (R498): A store to a send page raises one edge per set bit of x[3:0]. -/
  | irqSwsend (page : Nat) (value : Word)
  /-- IRQ_PTTAIL_WRITE (R501): A tail write consumes posting entries or is refused. -/
  | irqPttailWrite (part : Nat) (value : Word)
  /-- IRQ_PTBASE_WRITE (R501): A ring base write enables or disables a posting ring after checks. -/
  | irqPtbaseWrite (part : Nat) (value : Word)
  /-- PRT_PCFG_WRITE (R507): A write of PRT_PCFG updates every copy before it is acknowledged. -/
  | prtPcfgWrite (part : Nat) (value : Word)
  /-- DIRTY_LOG_UPDATE (R515): An indivisible OR sets a page's bit in the current dirty-log buffer. -/
  | dirtyLogUpdate (part page : Nat) (ok : Bool)
  /-- DIRTY_LOG_SWAP (R516): SWAP inverts CUR and drains updates to the old buffer. -/
  | dirtyLogSwap (part : Nat)
  /-- DIRTY_LOG_ENABLE (R517): EN = 1 checks the log buffers and starts logging, or EN = 0 stops it. -/
  | dirtyLogEnable (part : Nat) (value : Word)
  /-- PRT_PRST (R520): GO to PRT_PRST sends a PART reset request to every present core. -/
  | prtPrst (value : Word)
  /-- PART_RESET_RECEIPT (R520): A core removes the partition's translation entries, regenerates its keys and acknowledges. -/
  | partResetReceipt (part core : Nat)
  /-- PART_RESET_DONE (R520): Every acknowledgement has arrived and DONE is set. The acknowledgement of this core arrives. -/
  | partResetDone (core : Nat)
  /-- MEMORY_TOKEN_ACCRUAL (R509): Each class bucket of a controller gains RATE tokens per µs. -/
  | memoryTokenAccrual (m : Nat)
  /-- BUCKET_LEAK (R547): At each 2^LEAK µs a leaky bucket's COUNT decreases by one. -/
  | bucketLeak (unit cls : Nat)
  /-- ERROR_RECORD (R552): An event reaches its bucket, unit log and chip log and raises its line. -/
  | errorRecord (occ : ErrOcc)
  /-- ERR_LOGTAIL_WRITE (R551): A write of ERR_LOGTAIL consumes records or is ignored. -/
  | errLogtailWrite (value : Word)
  /-- ERR_INJ_ARM (R560): ARM arms an injection or is refused. -/
  | errInjArm (value : Word)
  /-- ERR_INJ_CANCEL (R560): CANCEL disarms the injection. -/
  | errInjCancel
  /-- SELF_TEST_GO (R558): GO to ERR_STCTL starts a run-time checker test or is refused. -/
  | selfTestGo (unit : Nat)
  /-- SELF_TEST_COMPLETE (R558): A checker test ends, setting DONE and the result. `failing`: the index of a checker that fails, none where the unit passes. -/
  | selfTestComplete (failing : Option Nat)
  /-- PWR_DOM_REQ_OFF (R565): REQ = 0 starts a domain's power-down through the ebb. A write of PWR_DOM[d], whatever its REQ bits. -/
  | pwrDomReqOff (d : Nat) (value : Word)
  /-- PWR_DOM_REQ_RUN (R565): REQ = 1 powers a domain up or resumes a retained core. -/
  | pwrDomReqRun (d : Nat) (value : Word)
  /-- PWR_DOM_REQ_RETAIN (R569): REQ = 2 starts a core's entry into RETAIN. -/
  | pwrDomReqRetain (d : Nat) (value : Word)
  /-- DOMAIN_POWER_GOOD (R565): A domain's power is good, its reset is released and its endpoints reopened. -/
  | domainPowerGood (d : Nat)
  /-- POINT_OF_NO_RETURN (R571): After the fence closes the entry is aborted on a latched cyclic event or completes. -/
  | pointOfNoReturn (d : Nat)
  /-- RETENTION_SWITCH (R569): The core's power is removed or switched to retention and STATE becomes RETAIN or OFF. -/
  | retentionSwitch (n : Nat)
  /-- RETAIN_RESTORED (R570): Retention state is restored, TLBs invalidated and the endpoint reopened. -/
  | retainRestored (n : Nat)
  /-- WAKE_EVENT (R573): A wake event is latched and starts an exit or aborts an entry. -/
  | wakeEvent (w : WakeEv)
  /-- WAKE_PIN (R579): A WAKE pin held active for 1 µs is a wake event. -/
  | wakePin (k : Nat) (level : Bool)
  /-- ALARM (R579): Tide time reaches AON_ALARM and the alarm wakes the chip. -/
  | alarm
  /-- NEAP_REQUEST (R575): PWR_CHIPCTL.REQ = 1 starts NEAP entry or is refused. `core`: the core that writes. -/
  | neapRequest (core : Nat) (value : Word)
  /-- STANDBY_REQUEST (R577): PWR_CHIPCTL.REQ = 2 starts STANDBY entry or is refused. -/
  | standbyRequest (core : Nat) (value : Word)
  /-- CHIP_STATE_POINT_OF_NO_RETURN (R575): The chip entry checks cyclic wake events and aborts or switches domains off. -/
  | chipStatePointOfNoReturn
  /-- CHIP_WAKE (R576): A wake in NEAP or STANDBY restores memory, domains and the distributor. -/
  | chipWake
  /-- AVS_GO (R580): GO sends the VDD_CORE target over AVSBus or is refused. -/
  | avsGo (value : Word)
  /-- AVS_VOUT_READ (R580): Every 100 µs Vout is read until within ±10 mV, clearing BUSY. -/
  | avsVoutRead (mv : Nat)
  /-- AVS_TIMEOUT (R580): 10 ms without reaching the target sets ERR. -/
  | avsTimeout
  /-- PWR_RESET (R587): VDD_AON falls below power-good and every state is reset. -/
  | pwrReset
  /-- COLD_RST_N (R589): COLD_RST_N held low for 1 µs starts a cold CHIP reset. -/
  | coldRstN
  /-- WARM_RST_N (R589): WARM_RST_N held low for 1 µs starts a warm CHIP reset with warm entry. -/
  | warmRstN
  /-- WARM_ENTRY_COMPLETE (R591): Controllers have saved their sets and entered self-refresh, and domains switch off. -/
  | warmEntryComplete
  /-- BOOT (R604): The service processor leaves reset and runs the boot from ROM. -/
  | boot (env : BootEnv)
  /-- WATCHDOG_ENABLE (R598): A write setting EN configures and starts the watchdog. -/
  | watchdogEnable (value : Word)
  /-- WATCHDOG_KICK (R598): A kick value pair restarts the count, or a bad value sets BADKICK. -/
  | watchdogKick (value : Word)
  /-- WATCHDOG_STAGE_1 (R598): 2^T1 ms with no kick drives HEALTH low and may force substitution and release trips. -/
  | watchdogStage1
  /-- WATCHDOG_STAGE_2 (R598): 2^T2 ms in stage 1 triggers the CHIP reset of ACTION. -/
  | watchdogStage2
  /-- CORE_RESET (R595): RESET in SVC_CORECTL starts a CORE reset or is refused. -/
  | coreReset (n : Nat) (value : Word)
  /-- CORE_RESET_COMPLETE (R595): The core endpoint's ebb ends, the core state is reset and the core held. -/
  | coreResetComplete (n : Nat)
  /-- CORE_RELEASE (R596): RELEASE starts a held core at F at SVC_COREPC or is refused. -/
  | coreRelease (n : Nat) (value : Word)
  /-- FLASH_COPY (R607): Flash OP 0 copies bytes from flash to memory. `value`: as written to SVC_FLCMD, whatever its OP bits; so for the next four. -/
  | flashCopy (value : Word)
  /-- FLASH_PROGRAM (R607): Flash OP 1 programs bytes from memory into flash. -/
  | flashProgram (value : Word)
  /-- FLASH_ERASE (R607): Flash OP 2 erases a flash range. -/
  | flashErase (value : Word)
  /-- FLASH_OPERATION_COMPLETE (R607): A flash operation ends, setting DONE or ERR and raising source 8. `size`: bytes of the flash; `data`: what was copied from it; `timeout`: the flash stopped answering. -/
  | flashOperationComplete (size : Nat) (data : List Byte) (timeout : Bool)
  /-- FUSE_PROGRAM_SLOT (R609): Fuse OP 1 programs a key-hash slot. -/
  | fuseProgramSlot (value : Word)
  /-- FUSE_REVOKE_SLOT (R609): Fuse OP 2 revokes a key-hash slot. -/
  | fuseRevokeSlot (value : Word)
  /-- FUSE_SET_SVN (R609): Fuse OP 3 sets the next SVN fuse. -/
  | fuseSetSvn (value : Word)
  /-- FUSE_COMMAND_COMPLETE (R609): A fuse command ends and sets DONE or ERR. -/
  | fuseCommandComplete
  /-- PORT_ENABLE (R652): A write of HIF_PCTL.ENABLE drives PERST high or low and permits link training. -/
  | portEnable (p : Nat) (value : Word)
  /-- BIFCFG_WRITE (R615): A write of HIF_BIFCFG combines ×4 ports unless locked or a port is enabled. -/
  | bifcfgWrite (value : Word)
  /-- DLUP_CHANGE (R626): A root port's data link goes up or down and LINKCHG is set. `surprise`: the link went down without a request. -/
  | dlupChange (p : Nat) (up : Bool) (rate width : Nat) (surprise : Bool)
  /-- CONTAINMENT_RELEASE (R628): RELEASE ends containment when no core load is outstanding. -/
  | containmentRelease (p : Nat) (value : Word)
  /-- UNCORRECTABLE_ERROR_DETECTED (R628): AER detects an uncorrectable error, setting ERREV and containing on fatal errors. `bit`: of the AER uncorrectable error status. -/
  | uncorrectableErrorDetected (p bit : Nat)
  /-- CONFIGURATION_REQUEST (R619): An ECAM access sends a configuration request or completes as unsupported. `data`: what a write writes. -/
  | configurationRequest (off width : Nat) (data : Option Word) (reply : CfgReply)
  /-- COMPLETION_RECEIVE (R617): A PCIe completion for a core load arrives. `idx`: the load, among those the core waits for. -/
  | completionReceive (core idx : Nat) (status : CplStatus)
  /-- COMPLETION_TIMEOUT (R625): A core load receives no completion within 2^CTO µs and faults. -/
  | completionTimeout (core idx : Nat)
  /-- INBOUND_REQUEST (R620): An inbound PCIe request is translated through a requester context or faulted. -/
  | inboundRequest (p rid : Nat) (req : InReq)
  /-- MESSAGE_WRITE (R623): An inbound write to the message range raises a mapped source or is dropped. -/
  | messageWrite (p rid addr : Nat) (bytes : List Byte)
  /-- RQCFG_ENABLE (R621): EN = 1 in HIF_RQCFG checks a requester context and enables it or refuses. -/
  | rqcfgEnable (k : Nat) (value : Word)
  /-- RQCFG_DISABLE (R621): EN = 0 stops new translations for the context. -/
  | rqcfgDisable (k : Nat) (value : Word)
  /-- HEAT_MARK_READ (R639): An ID_HMCMD read moves heat-mark bytes into ID_HMDATA. A write of ID_HMCMD; `ue`: bytes of the area found uncorrectable. -/
  | heatMarkRead (value : Word) (ue : List Nat)
  /-- HEAT_MARK_WRITE (R639): An ID_HMCMD write moves bytes into a heat-mark area or is refused. -/
  | heatMarkWrite (value : Word)
  /-- HEAT_MARK_LOCK (R642): Setting LOCK refuses further heat-mark writes. -/
  | heatMarkLock
  /-- CHALLENGE (R635): GO to ID_CHALCMD starts a signed challenge over nonce, identity and heat marks. `ue`: bytes of the 3616 found uncorrectable. -/
  | challenge (ue : List Nat)
  /-- CHALLENGE_COMPLETE (R635): The response is written and DONE is set. -/
  | challengeComplete
  /-- SMB_READ_IDENTITY (R643): SMBus command 0x10 returns the factory identity. -/
  | smbReadIdentity
  /-- SMB_HEAT_MARK_READ (R643): SMBus command 0x11 reads heat-mark bytes. -/
  | smbHeatMarkRead (area off len : Nat) (ue : List Nat)
  /-- SMB_HEAT_MARK_WRITE (R643): SMBus command 0x12 writes heat-mark bytes. -/
  | smbHeatMarkWrite (area off len : Nat) (data : List Byte)
  /-- SMB_CHALLENGE (R643): SMBus command 0x13 starts a challenge. -/
  | smbChallenge (nonce : List Byte) (ue : List Nat)
  /-- SMB_RESPONSE (R643): SMBus command 0x14 returns the challenge status and response. -/
  | smbResponse
  /-- SMB_CERTIFICATE (R643): SMBus command 0x15 returns certificate-store bytes. -/
  | smbCertificate (off len : Nat)
  /-- TRIPPERMIT_WRITE (R653): A write of CHIP_TRIPPERMIT sets the TRIP pins and restarts the lapse interval. -/
  | trippermitWrite (value : Word)
  /-- TRIP_LAPSE (R654): 2^TMO ms with no PERMIT write clears every PERMIT bit and sets LAPSED. -/
  | tripLapse
  /-- INBOUND_REQUEST_PERFORMED (R622): The home's answer to a translated inbound PCIe read or write returns to the host interface, which sends the read completion in order, releases message edges held behind earlier writes and clears ACTIVE when nothing remains. `idx`: the request, among those translated. -/
  | inboundRequestPerformed (idx : Nat)
  /-- CAST_STORE_ACKNOWLEDGE (R119): The acknowledgement of a store to the shared cast window or to another core's cast window reaches the issuing core. -/
  | castStoreAcknowledge (core : Nat)
  /-- TX_SEGMENT_READ_RETURN (R400): The read of a field-function TX segment returns, good or with poison or an error status that ends the frame with DATAERR. -/
  | txSegmentReadReturn (e f : Nat) (bad : Bool)
  /-- CORRECTABLE_LINK_OR_TLP_ERROR (R625): A root port detects a correctable PCIe link or TLP error, which is counted in AER and in the host-interface bucket, class 0. `bit`: of the AER correctable error status. -/
  | correctableLinkOrTlpError (p bit : Nat)
  /-- TAP_INSTRUCTION (R658): An IEEE 1149.1 instruction shifted into the TAP selects BYPASS, IDCODE, SAMPLE/PRELOAD, EXTEST, CLAMP or HIGHZ, the last three taking effect only while COLD_RST_N is low. `coldLow`: COLD_RST_N is held low. -/
  | tapInstruction (mode : TapMode) (coldLow : Bool)
  deriving DecidableEq, Repr

end Sys2Proof
end

