-- ==== Sys2Proof/Decode.lean ====
section
/-!
DEFINITION. The command that a word spells by the bits of spec/opcode_table.json. No row of that table gives bits (the part is a block and takes
commands, notes/assumptions/2.md), so no word spells a command.
-/
namespace Sys2Proof

/-- The command of a word of `nbits` bits: none, since the table gives no row any bits. -/
def decodeTableWord (_nbits _w : Nat) : Option Instr := none

end Sys2Proof
end

