-- ==== Sys2Proof/Config.lean ====
section
/-!
DEFINITION. What an implementation fixes and the spec does not: the free values. Each is an opaque constant with no body, so that no proof can use a
number for it; a statement about one holds for every value.
-/
namespace Sys2Proof

/-- The `n`-th fresh value the machine draws, `w` bits wide. The step reads and advances the counter `State.fresh`, so two draws
need not agree. Used for every result the spec leaves undefined or does not state (notes/assumptions/3.md). -/
opaque Config.free (w : Nat) (n : Nat) : BitVec w

/-- The index functions of the predictor's structures, which are not published (R145): structure 0 the base table, 1 to 6 the tagged tables, 7 the BTB. -/
opaque Config.predIndex (table : Nat) (pc : Word) (hist : BitVec 256) (key : BitVec 24) : Nat

/-- The prediction key that a slot holds after a CHIP or PWR reset, which comes from the entropy source (R147, R154). -/
opaque Config.startKey (slot : Nat) : BitVec 24

/-- The 12-bit tag functions of the tagged tables and the BTB, not published (R145). -/
opaque Config.predTag (table : Nat) (pc : Word) (hist : BitVec 256) (key : BitVec 24) : BitVec 12

/-- A signature of the device key (R633, R635), which no agent can read: r in bits [383:0] and s above it, for a digest; the `n`-th signing draws its
own random part. -/
opaque Config.sign (digest : List Byte) (n : Nat) : BitVec 768

/-- The factory MAC address of a global lane, which FLN_MACADDR is loaded with from the fuse map (R18, R352). -/
opaque Config.laneMac (lane : Nat) : BitVec 48

end Sys2Proof
end

