-- ==== Sys2Proof/Machine/Tbl.lean ====
section
/-!
DEFINITION. The operations on sparse tables (`Tbl`): look up, change one entry. A write keeps the canonical form: keys rise strictly and no entry
equals its default. Used for registers, memory bytes and every numbered structure of the part.
-/
namespace Sys2Proof.Machine

/-- Look up key `k`; an unlisted key reads as `d k`. -/
def Tbl.get {α : Type} (d : Nat → α) : Tbl α → Nat → α
  | [], k => d k
  | (a, v) :: r, k => if a = k then v else Tbl.get d r k

/-- Drop every entry of key `k`. -/
def Tbl.erase {α : Type} : Tbl α → Nat → Tbl α
  | [], _ => []
  | (a, v) :: r, k => if a = k then Tbl.erase r k else (a, v) :: Tbl.erase r k

/-- Insert an entry at its place in the key order. -/
def Tbl.put {α : Type} : Tbl α → Nat → α → Tbl α
  | [], k, v => [(k, v)]
  | (a, w) :: r, k, v => if a < k then (a, w) :: Tbl.put r k v else (k, v) :: (a, w) :: r

/-- Set key `k` to `v`; setting it to its default removes the entry. -/
def Tbl.set {α : Type} [DecidableEq α] (d : Nat → α) (t : Tbl α) (k : Nat) (v : α) : Tbl α :=
  if v = d k then Tbl.erase t k else Tbl.put (Tbl.erase t k) k v

/-- Apply `f` to the entry of key `k`. -/
def Tbl.mod {α : Type} [DecidableEq α] (d : Nat → α) (t : Tbl α) (k : Nat) (f : α → α) : Tbl α :=
  Tbl.set d t k (f (Tbl.get d t k))

/-- Every key of the table lies above `lo`, keys rise strictly, and no entry equals its default. -/
def Tbl.wfAbove {α : Type} [DecidableEq α] (d : Nat → α) : Option Nat → Tbl α → Bool
  | _, [] => true
  | lo, (a, v) :: r => (match lo with | none => true | some b => decide (b < a)) && decide (v ≠ d a) && Tbl.wfAbove d (some a) r

/-- The canonical form of a table. -/
def Tbl.wf {α : Type} [DecidableEq α] (d : Nat → α) (t : Tbl α) : Bool := Tbl.wfAbove d none t

/-- Set the keys `k`, `k+1`, … to the values of a list. -/
def Tbl.setMany {α : Type} [DecidableEq α] (d : Nat → α) (t : Tbl α) (k : Nat) : List α → Tbl α
  | [] => t
  | v :: vs => Tbl.setMany d (Tbl.set d t k v) (k + 1) vs

/-- Apply `f` to every listed entry, keeping the canonical form. -/
def Tbl.mapAll {α : Type} [DecidableEq α] (d : Nat → α) (f : Nat → α → α) : Tbl α → Tbl α
  | [] => []
  | (a, v) :: r => if f a v = d a then Tbl.mapAll d f r else (a, f a v) :: Tbl.mapAll d f r

end Sys2Proof.Machine
end

