-- ==== Sys2Proof/Machine/Bits.lean ====
section
/-!
DEFINITION. Bit fields of registers, and the byte order of words and lines. A field is a low bit and a width; every register of the part is read and
written through these operations.
-/
namespace Sys2Proof.Machine

/-- A field `[lo + w - 1 : lo]` of a register. -/
structure Fld where
  lo : Nat
  w : Nat
  deriving DecidableEq, Repr

/-- `w` one bits at the bottom of a word. -/
def ones (w : Nat) : Word := BitVec.ofNat 64 (2 ^ w - 1)

/-- The word whose one bits are the field's. -/
def Fld.mask (f : Fld) : Word := ones f.w <<< f.lo

/-- Read a field. -/
def getF (r : Word) (f : Fld) : Nat := ((r >>> f.lo) &&& ones f.w).toNat

/-- Write a field; every other bit is kept, and bits of `v` above the field's width are dropped. -/
def setF (r : Word) (f : Fld) (v : Nat) : Word :=
  (r &&& ~~~ f.mask) ||| ((BitVec.ofNat 64 v &&& ones f.w) <<< f.lo)

/-- One bit of a word. -/
def getB (r : Word) (i : Nat) : Bool := r.getLsbD i

/-- A word with bit `i` only. -/
def bitW (i : Nat) : Word := (1 : Word) <<< i

/-- Set or clear one bit. -/
def setB (r : Word) (i : Nat) (b : Bool) : Word :=
  if b then r ||| bitW i else r &&& ~~~ bitW i

/-- A Boolean as a bit. -/
def b2n (b : Bool) : Nat := if b then 1 else 0

/-- Place `v` in field `[lo + w - 1 : lo]` of an otherwise zero word. -/
def fieldW (lo w v : Nat) : Word := (BitVec.ofNat 64 v &&& ones w) <<< lo

/-- A word from its little-endian bytes (chapter 00: little-endian in memory and in every on-chip structure). -/
def leWord : List Byte → Nat
  | [] => 0
  | b :: r => b.toNat + 256 * leWord r

/-- The `n` little-endian bytes of a number. -/
def leBytes : Nat → Nat → List Byte
  | 0, _ => []
  | n + 1, v => BitVec.ofNat 8 v :: leBytes n (v / 256)

/-- Big-endian number from bytes (format-1 signal words and network headers only, chapter 00). -/
def beWord (bs : List Byte) : Nat := leWord bs.reverse

/-- Byte `k` of a line. -/
def lineByte (l : Line) (k : Nat) : Byte := l.extractLsb' (8 * k) 8

/-- A line from its bytes. -/
def lineOfBytes (bs : List Byte) : Line := BitVec.ofNat 512 (leWord bs)

/-- The 64 bytes of a line. -/
def lineBytes (l : Line) : List Byte := (List.range 64).map (lineByte l)

/-- The number of one bits among the lowest `n` bits of a word. -/
def popcount (r : Word) : Nat → Nat
  | 0 => 0
  | n + 1 => b2n (getB r n) + popcount r n

/-- Saturating add with a ceiling. -/
def satAdd (cap a b : Nat) : Nat := if a + b ≤ cap then a + b else cap

/-- Sign extension of the low `w` bits of a number to 64 bits. -/
def sext (w : Nat) (v : Nat) : Word := (BitVec.ofNat w v).signExtend 64

/-- The numbers below `n` at which a test holds. -/
def bitsOf (r : Word) (n : Nat) : List Nat := (List.range n).filter (getB r)

/-- `(a - b) mod m`. -/
def subMod (m a b : Nat) : Nat := (a + (m - b % m)) % m

end Sys2Proof.Machine
end

