-- ==== Sys2Proof/Machine/PcieHdr.lean ====
section
/-!
DEFINITION. The configuration header of a root port (R618): reset values and writable bits of its doublewords. The spec names the header and its
capabilities and leaves their layout to the PCI Express specification (notes/assumptions/8.md); the places of the capabilities are the model's choice.
-/
namespace Sys2Proof.Machine

/-- A doubleword of the header: offset, reset value, writable bits, bits cleared by writing 1. -/
structure HdrDw where
  off : Nat
  reset : Nat := 0
  rw : Nat := 0
  w1c : Nat := 0

/-- The type-1 header. Its I/O base lies above its limit: I/O space is disabled (R614). -/
def hdrType1 : List HdrDw :=
  [{ off := 0x004, reset := 0x0010_0000, rw := 0x0000_0546, w1c := 0xF900_0000 }, { off := 0x008, reset := 0x0604_0000 },
   { off := 0x00C, reset := 0x0001_0000, rw := 0xFF }, { off := 0x018, rw := 0x00FF_FFFF }, { off := 0x01C, reset := 0x0000_00F0, w1c := 0xF900_0000 },
   { off := 0x020, rw := 0xFFF0_FFF0 }, { off := 0x024, reset := 0x0001_0001, rw := 0xFFF0_FFF0 }, { off := 0x028, rw := 0xFFFF_FFFF },
   { off := 0x02C, rw := 0xFFFF_FFFF }, { off := 0x034, reset := 0x40 }, { off := 0x03C, reset := 0x0000_0100, rw := 0x0043_00FF }]

/-- Power management at 0x40, MSI at 0x50 with its enable hard-wired to 0 (R618), PCI Express at 0x70: device control, link control, root control. -/
def hdrCaps : List HdrDw :=
  [{ off := 0x040, reset := 0x0003_5001 }, { off := 0x044, rw := 0x0103 },
   { off := 0x050, reset := 0x0080_7005 }, { off := 0x054, rw := 0xFFFF_FFFC }, { off := 0x058, rw := 0xFFFF_FFFF }, { off := 0x05C, rw := 0xFFFF },
   { off := 0x070, reset := 0x0042_0010 }, { off := 0x074, reset := 0x0000_8002 }, { off := 0x078, reset := 0x2810, rw := 0x78FF, w1c := 0x000F_0000 },
   { off := 0x080, rw := 0x0FFB }, { off := 0x08C, reset := 0x0001_0000, rw := 0x001F }]

/-- Advanced error reporting at 0x100. -/
def hdrAer : List HdrDw :=
  [{ off := 0x100, reset := 0x0002_0001 }, { off := 0x104, w1c := 0xFFFF_FFFF }, { off := 0x108, rw := 0xFFFF_FFFF },
   { off := 0x10C, reset := 0x0046_2030, rw := 0xFFFF_FFFF }, { off := 0x110, w1c := 0xFFFF_FFFF }, { off := 0x114, rw := 0xFFFF_FFFF },
   { off := 0x118, reset := 0x00A0, rw := 0x0140 }, { off := 0x12C, rw := 0x7 }, { off := 0x130, w1c := 0x7F }]

/-- The doubleword at an offset; one that no capability has reads zero. -/
def hdrDw (r : Nat) : HdrDw := ((hdrType1 ++ hdrCaps ++ hdrAer).find? (fun d => d.off == r)).getD { off := r }

/-- The eight bytes at an 8-byte-aligned offset after reset. -/
def hdrReset (r : Nat) : Word := BitVec.ofNat 64 ((hdrDw r).reset + 2 ^ 32 * (hdrDw (r + 4)).reset)

end Sys2Proof.Machine
end

