-- ==== Sys2Proof/Machine/RegMap.lean ====
section
/-!
DEFINITION. The control-space register map (chapters 01 to 25): the address of every register as an offset from 0x7F00_0000_0000 (R30 to R32), its
fields with their access codes (R14), its reset value, and the LOCK bit that governs its RWL fields (R16). Addresses stand under `Reg`, fields
under `F`; the table `regBlock` lists the registers of the block an offset lies in.
-/
namespace Sys2Proof.Machine

/-- The access codes of R14. -/
inductive Acc where
  | rw | ro | wo | w1s | w1c | rc | sc | rwl
  deriving DecidableEq, Repr

/-- A field and its access code. -/
structure FieldSpec where
  fld : Fld
  acc : Acc
  deriving DecidableEq, Repr

/-- Which LOCK bit governs a register's RWL fields (R16). -/
inductive LockRef where
  /-- no RWL field -/
  | none
  /-- a bit of the same register -/
  | self (bit : Nat)
  /-- a bit of one fixed register -/
  | at (addr bit : Nat)
  /-- a bit of MC_CFG of the same memory controller -/
  | mc (bit : Nat)
  deriving DecidableEq, Repr

/-- One row of a register map: where its instances stand, what reset gives it, its fields, its lock. A row with dimensions
`(stride, count)` stands once for each combination of indices. -/
structure RegDef where
  base : Nat
  dims : List (Nat × Nat)
  reset : Word
  fields : List FieldSpec
  lock : LockRef
  deriving DecidableEq, Repr

namespace Reg
/-- CHIP_ID (R36). -/
def CHIP_ID : Nat := 0x0
/-- CHIP_UNITS (R36). -/
def CHIP_UNITS : Nat := 0x8
/-- CHIP_TILEMAP (R36). -/
def CHIP_TILEMAP : Nat := 0x10
/-- CHIP_SLICEMAP (R36). -/
def CHIP_SLICEMAP : Nat := 0x18
/-- CHIP_IOMAP (R36). -/
def CHIP_IOMAP : Nat := 0x20
/-- CHIP_PACECFG (R50). -/
def CHIP_PACECFG : Nat := 0x1000
/-- CHIP_PACESTAT (R51). -/
def CHIP_PACESTAT : Nat := 0x1008
/-- CORE_PACESTAT of core n (R68). -/
def CORE_PACESTAT (n : Nat) : Nat := 0x1001100 + 0x10000 * (n / 2) + 0x1000 * (n % 2)
/-- TILE_LCAST (R222). -/
def TILE_LCAST (t : Nat) : Nat := 0x1000000 + 0x10000 * t
/-- TILE_RCAST (R222). -/
def TILE_RCAST (t : Nat) : Nat := 0x1000008 + 0x10000 * t
/-- SLC_CAST (R222). -/
def SLC_CAST (t : Nat) : Nat := 0x1005000 + 0x10000 * t
/-- TILE_MNTADDR (R231). -/
def TILE_MNTADDR (t : Nat) : Nat := 0x1000100 + 0x10000 * t
/-- TILE_MNTLEN (R231). -/
def TILE_MNTLEN (t : Nat) : Nat := 0x1000108 + 0x10000 * t
/-- TILE_MNTCMD (R232). -/
def TILE_MNTCMD (t : Nat) : Nat := 0x1000110 + 0x10000 * t
/-- TILE_MNTSTAT (R233). -/
def TILE_MNTSTAT (t : Nat) : Nat := 0x1000118 + 0x10000 * t
/-- TILE_MNTCNT (R231). -/
def TILE_MNTCNT (t : Nat) : Nat := 0x1000120 + 0x10000 * t
/-- TILE_MNTERRADDR (R231). -/
def TILE_MNTERRADDR (t : Nat) : Nat := 0x1000128 + 0x10000 * t
/-- SLC_MNTADDR (R231). -/
def SLC_MNTADDR (t : Nat) : Nat := 0x1005100 + 0x10000 * t
/-- SLC_MNTLEN (R231). -/
def SLC_MNTLEN (t : Nat) : Nat := 0x1005108 + 0x10000 * t
/-- SLC_MNTCMD (R232). -/
def SLC_MNTCMD (t : Nat) : Nat := 0x1005110 + 0x10000 * t
/-- SLC_MNTSTAT (R233). -/
def SLC_MNTSTAT (t : Nat) : Nat := 0x1005118 + 0x10000 * t
/-- SLC_MNTCNT (R231). -/
def SLC_MNTCNT (t : Nat) : Nat := 0x1005120 + 0x10000 * t
/-- SLC_MNTERRADDR (R231). -/
def SLC_MNTERRADDR (t : Nat) : Nat := 0x1005128 + 0x10000 * t
/-- CHIP_HOMESET (R244). -/
def CHIP_HOMESET : Nat := 0x2000
/-- CHIP_HOMECTL (R245). -/
def CHIP_HOMECTL : Nat := 0x2008
/-- CHIP_HOMECUR (R244). -/
def CHIP_HOMECUR : Nat := 0x2010
/-- DIR_STAT (R271). -/
def DIR_STAT (t : Nat) : Nat := 0x1006000 + 0x10000 * t
/-- DIR_RETRYCNT (R270). -/
def DIR_RETRYCNT (t : Nat) : Nat := 0x1006008 + 0x10000 * t
/-- DIR_PROMOCNT (R270). -/
def DIR_PROMOCNT (t : Nat) : Nat := 0x1006010 + 0x10000 * t
/-- DIR_VICTCNT (R270). -/
def DIR_VICTCNT (t : Nat) : Nat := 0x1006018 + 0x10000 * t
/-- DIR_BCASTCNT (R270). -/
def DIR_BCASTCNT (t : Nat) : Nat := 0x1006020 + 0x10000 * t
/-- DIR_REBUILDCNT (R270). -/
def DIR_REBUILDCNT (t : Nat) : Nat := 0x1006028 + 0x10000 * t
/-- DIR_DIAGIDX (R272). -/
def DIR_DIAGIDX (t : Nat) : Nat := 0x1006030 + 0x10000 * t
/-- DIR_DIAGDATA (R272). -/
def DIR_DIAGDATA (t : Nat) : Nat := 0x1006038 + 0x10000 * t
/-- DIR_DIAGSHR0 (R272). -/
def DIR_DIAGSHR0 (t : Nat) : Nat := 0x1006040 + 0x10000 * t
/-- DIR_DIAGSHR1 (R272). -/
def DIR_DIAGSHR1 (t : Nat) : Nat := 0x1006048 + 0x10000 * t
/-- SLC_HITCNT (R273). -/
def SLC_HITCNT (t : Nat) : Nat := 0x1005200 + 0x10000 * t
/-- SLC_MISSCNT (R273). -/
def SLC_MISSCNT (t : Nat) : Nat := 0x1005208 + 0x10000 * t
/-- SLC_FWDCNT (R273). -/
def SLC_FWDCNT (t : Nat) : Nat := 0x1005210 + 0x10000 * t
/-- SLC_WBCNT (R273). -/
def SLC_WBCNT (t : Nat) : Nat := 0x1005218 + 0x10000 * t
/-- CHIP_PEBB (R299). -/
def CHIP_PEBB : Nat := 0x3000
/-- RTR_ID (R300). -/
def RTR_ID (r : Nat) : Nat := 0x400000 + 0x1000 * r
/-- RTR_LINKSTAT (R300). -/
def RTR_LINKSTAT (r : Nat) : Nat := 0x400008 + 0x1000 * r
/-- RTR_ARBWT (R300). -/
def RTR_ARBWT (r : Nat) : Nat := 0x400010 + 0x1000 * r
/-- RTR_TC0CAP (R300). -/
def RTR_TC0CAP (r : Nat) : Nat := 0x400018 + 0x1000 * r
/-- RTR_STAT (R301). -/
def RTR_STAT (r : Nat) : Nat := 0x400020 + 0x1000 * r
/-- RTR_BWCNT (R300). -/
def RTR_BWCNT (r : Nat) : Nat := 0x400028 + 0x1000 * r
/-- RTR_EPCTL (R302). -/
def RTR_EPCTL (r e : Nat) : Nat := 0x400100 + 0x1000 * r + 0x8 * e
/-- RTR_TC0BKT (R300). -/
def RTR_TC0BKT (r e : Nat) : Nat := 0x400140 + 0x1000 * r + 0x8 * e
/-- RTR_FLITCNT (R300). -/
def RTR_FLITCNT (r l c : Nat) : Nat := 0x400200 + 0x1000 * r + 0x20 * l + 0x8 * c
/-- RTR_LINKERR (R300). -/
def RTR_LINKERR (r l : Nat) : Nat := 0x400280 + 0x1000 * r + 0x8 * l
/-- RTR_TC0OVER (R300). -/
def RTR_TC0OVER (r l : Nat) : Nat := 0x4002A0 + 0x1000 * r + 0x8 * l
/-- CHIP_DRAMRGN (R309). -/
def CHIP_DRAMRGN (i : Nat) : Nat := 0x4000 + 0x10 * i
/-- CHIP_DRAMMAP (R309). -/
def CHIP_DRAMMAP (i : Nat) : Nat := 0x4008 + 0x10 * i
/-- CHIP_DRAMCTL (R309). -/
def CHIP_DRAMCTL : Nat := 0x4080
/-- MC_STAT (R328). -/
def MC_STAT (m : Nat) : Nat := 0x2000000 + 0x100000 * m
/-- MC_CFG (R328). -/
def MC_CFG (m : Nat) : Nat := 0x2000008 + 0x100000 * m
/-- MC_DIMM (R328). -/
def MC_DIMM (m d : Nat) : Nat := 0x2000010 + 0x100000 * m + 0x8 * d
/-- MC_TRAIN (R328). -/
def MC_TRAIN (m : Nat) : Nat := 0x2000020 + 0x100000 * m
/-- MC_SCRUB (R328). -/
def MC_SCRUB (m : Nat) : Nat := 0x2000028 + 0x100000 * m
/-- MC_PPRCTL (R328). -/
def MC_PPRCTL (m : Nat) : Nat := 0x2000038 + 0x100000 * m
/-- MC_PPRADDR (R328). -/
def MC_PPRADDR (m : Nat) : Nat := 0x2000040 + 0x100000 * m
/-- MC_SPARE (R328). -/
def MC_SPARE (m : Nat) : Nat := 0x2000030 + 0x100000 * m
/-- MC_TC0WIN (R328). -/
def MC_TC0WIN (m : Nat) : Nat := 0x2000048 + 0x100000 * m
/-- MC_TC0CTL (R328). -/
def MC_TC0CTL (m : Nat) : Nat := 0x2000050 + 0x100000 * m
/-- MC_TC0CNT (R328). -/
def MC_TC0CNT (m : Nat) : Nat := 0x2000058 + 0x100000 * m
/-- MC_PWRCTL (R328). -/
def MC_PWRCTL (m : Nat) : Nat := 0x2000060 + 0x100000 * m
/-- MC_ERRSTAT (R328). -/
def MC_ERRSTAT (m : Nat) : Nat := 0x2000068 + 0x100000 * m
/-- MC_ERRADDR (R328). -/
def MC_ERRADDR (m : Nat) : Nat := 0x2000070 + 0x100000 * m
/-- MC_CECNT (R328). -/
def MC_CECNT (m : Nat) : Nat := 0x2000078 + 0x100000 * m
/-- MC_RETRYCNT (R328). -/
def MC_RETRYCNT (m : Nat) : Nat := 0x2000080 + 0x100000 * m
/-- MC_ERRLOC (R328). -/
def MC_ERRLOC (m : Nat) : Nat := 0x2000088 + 0x100000 * m
/-- MC_RANKCE (R328). -/
def MC_RANKCE (m r : Nat) : Nat := 0x2000100 + 0x100000 * m + 0x8 * r
/-- CHIP_TTNOW (R350). -/
def CHIP_TTNOW : Nat := 0x5000
/-- CHIP_TTCTL (R350). -/
def CHIP_TTCTL : Nat := 0x5008
/-- CHIP_TTSTAT (R350). -/
def CHIP_TTSTAT : Nat := 0x5010
/-- CHIP_TTADJ (R350). -/
def CHIP_TTADJ : Nat := 0x5020
/-- CHIP_TTSERVO (R350). -/
def CHIP_TTSERVO : Nat := 0x5030
/-- CHIP_TTPORT (R350). -/
def CHIP_TTPORT : Nat := 0x5038
/-- CHIP_TTPPS (R350). -/
def CHIP_TTPPS : Nat := 0x5040
/-- CHIP_TTRATE (R350). -/
def CHIP_TTRATE : Nat := 0x5018
/-- CHIP_TTOFFSET (R350). -/
def CHIP_TTOFFSET : Nat := 0x5028
/-- CHIP_TTCLKID (R350). -/
def CHIP_TTCLKID : Nat := 0x5048
/-- FLN_QCTL (R351). -/
def FLN_QCTL (e j : Nat) : Nat := 0x3100000 + 0x1000000 * e + 0x1000 * j
/-- FLN_QSTAT (R351). -/
def FLN_QSTAT (e j : Nat) : Nat := 0x3100008 + 0x1000000 * e + 0x1000 * j
/-- FLN_CTL (R352). -/
def FLN_CTL (e i : Nat) : Nat := 0x3200000 + 0x1000000 * e + 0x1000 * i
/-- FLN_STAT (R352). -/
def FLN_STAT (e i : Nat) : Nat := 0x3200008 + 0x1000000 * e + 0x1000 * i
/-- FLN_MACADDR (R352). -/
def FLN_MACADDR (e i : Nat) : Nat := 0x3200010 + 0x1000000 * e + 0x1000 * i
/-- FLN_QCFG (R352). -/
def FLN_QCFG (e i : Nat) : Nat := 0x3200018 + 0x1000000 * e + 0x1000 * i
/-- FLN_GCLCTL (R352). -/
def FLN_GCLCTL (e i : Nat) : Nat := 0x3200020 + 0x1000000 * e + 0x1000 * i
/-- FLN_GCLCYCLE (R352). -/
def FLN_GCLCYCLE (e i : Nat) : Nat := 0x3200028 + 0x1000000 * e + 0x1000 * i
/-- FLN_GCLBASE (R352). -/
def FLN_GCLBASE (e i : Nat) : Nat := 0x3200030 + 0x1000000 * e + 0x1000 * i
/-- FLN_PTPCTL (R352). -/
def FLN_PTPCTL (e i : Nat) : Nat := 0x3200038 + 0x1000000 * e + 0x1000 * i
/-- FLN_PTPSTAT (R352). -/
def FLN_PTPSTAT (e i : Nat) : Nat := 0x3200040 + 0x1000000 * e + 0x1000 * i
/-- FLN_LATCOMP (R352). -/
def FLN_LATCOMP (e i : Nat) : Nat := 0x3200048 + 0x1000000 * e + 0x1000 * i
/-- FLN_RXCNT (R352). -/
def FLN_RXCNT (e i : Nat) : Nat := 0x3200100 + 0x1000000 * e + 0x1000 * i
/-- FLN_TXCNT (R352). -/
def FLN_TXCNT (e i : Nat) : Nat := 0x3200108 + 0x1000000 * e + 0x1000 * i
/-- FLN_TXDROP (R352). -/
def FLN_TXDROP (e i : Nat) : Nat := 0x3200110 + 0x1000000 * e + 0x1000 * i
/-- FLN_PCSERR (R352). -/
def FLN_PCSERR (e i : Nat) : Nat := 0x3200118 + 0x1000000 * e + 0x1000 * i
/-- FLN_HELD (R352). -/
def FLN_HELD (e i : Nat) : Nat := 0x3200120 + 0x1000000 * e + 0x1000 * i
/-- FLN_FRERCNT (R352). -/
def FLN_FRERCNT (e i : Nat) : Nat := 0x3200128 + 0x1000000 * e + 0x1000 * i
/-- FLN_TXEQ (R669). -/
def FLN_TXEQ (e i : Nat) : Nat := 0x3200130 + 0x1000000 * e + 0x1000 * i
/-- FLN_GCL0 (R353). -/
def FLN_GCL0 (e i n : Nat) : Nat := 0x3200400 + 0x1000000 * e + 0x1000 * i + 0x8 * n
/-- FLN_GCL1 (R353). -/
def FLN_GCL1 (e i n : Nat) : Nat := 0x3200800 + 0x1000000 * e + 0x1000 * i + 0x8 * n
/-- FE_CFG (R386). -/
def FE_CFG (e : Nat) : Nat := 0x3000000 + 0x1000000 * e
/-- FE_STAT (R386). -/
def FE_STAT (e : Nat) : Nat := 0x3000008 + 0x1000000 * e
/-- FE_SUBFORCE (R386). -/
def FE_SUBFORCE (e : Nat) : Nat := 0x3000010 + 0x1000000 * e
/-- FE_TIDEDROP (R386). -/
def FE_TIDEDROP (e : Nat) : Nat := 0x3000018 + 0x1000000 * e
/-- FE_SURPLUS (R386). -/
def FE_SURPLUS (e : Nat) : Nat := 0x3000020 + 0x1000000 * e
/-- FE_SEQIGN (R386). -/
def FE_SEQIGN (e : Nat) : Nat := 0x3000028 + 0x1000000 * e
/-- FE_LSDROP (R386). -/
def FE_LSDROP (e : Nat) : Nat := 0x3000030 + 0x1000000 * e
/-- FE_TTCTL (R386). -/
def FE_TTCTL (e k : Nat) : Nat := 0x3000100 + 0x1000000 * e + 0x40 * k
/-- FE_TTPERIOD (R386). -/
def FE_TTPERIOD (e k : Nat) : Nat := 0x3000108 + 0x1000000 * e + 0x40 * k
/-- FE_TTBASE (R386). -/
def FE_TTBASE (e k : Nat) : Nat := 0x3000110 + 0x1000000 * e + 0x40 * k
/-- FE_TTLEN (R386). -/
def FE_TTLEN (e k : Nat) : Nat := 0x3000118 + 0x1000000 * e + 0x40 * k
/-- FE_TTSTAT (R386). -/
def FE_TTSTAT (e k : Nat) : Nat := 0x3000120 + 0x1000000 * e + 0x40 * k
/-- FE_TTLATE (R386). -/
def FE_TTLATE (e k : Nat) : Nat := 0x3000128 + 0x1000000 * e + 0x40 * k
/-- FE_TEVFLAG (R386). -/
def FE_TEVFLAG (e k : Nat) : Nat := 0x3000130 + 0x1000000 * e + 0x40 * k
/-- FE_IMGCFG (R386). -/
def FE_IMGCFG (e i : Nat) : Nat := 0x3000400 + 0x1000000 * e + 0x40 * i
/-- FE_IMGIN (R386). -/
def FE_IMGIN (e i : Nat) : Nat := 0x3000408 + 0x1000000 * e + 0x40 * i
/-- FE_IMGOUT (R386). -/
def FE_IMGOUT (e i : Nat) : Nat := 0x3000410 + 0x1000000 * e + 0x40 * i
/-- FE_IMGSIZE (R386). -/
def FE_IMGSIZE (e i : Nat) : Nat := 0x3000418 + 0x1000000 * e + 0x40 * i
/-- FE_IMGBW (R386). -/
def FE_IMGBW (e i : Nat) : Nat := 0x3000420 + 0x1000000 * e + 0x40 * i
/-- FE_IMGSTAT (R386). -/
def FE_IMGSTAT (e i : Nat) : Nat := 0x3000428 + 0x1000000 * e + 0x40 * i
/-- FE_IMGCTL (R386). -/
def FE_IMGCTL (e i : Nat) : Nat := 0x3000430 + 0x1000000 * e + 0x40 * i
/-- FE_IMGERR (R386). -/
def FE_IMGERR (e i : Nat) : Nat := 0x3000438 + 0x1000000 * e + 0x40 * i
/-- STN_SLOT (R387). -/
def STN_SLOT (e s j : Nat) : Nat := 0x3300000 + 0x1000000 * e + 0x40 * s + 0x8 * j
/-- STN_STAGE (R387). -/
def STN_STAGE (e j : Nat) : Nat := 0x3320000 + 0x1000000 * e + 0x8 * j
/-- STN_CMD (R387). -/
def STN_CMD (e : Nat) : Nat := 0x3320040 + 0x1000000 * e
/-- STN_CMDSTAT (R387). -/
def STN_CMDSTAT (e : Nat) : Nat := 0x3320048 + 0x1000000 * e
/-- STN_STATE (R387). -/
def STN_STATE (e s : Nat) : Nat := 0x3330000 + 0x1000000 * e + 0x8 * s
/-- STN_LOSTMAP (R387). -/
def STN_LOSTMAP (e w : Nat) : Nat := 0x3340000 + 0x1000000 * e + 0x8 * w
/-- TT_ENTRY (R387). -/
def TT_ENTRY (e k n : Nat) : Nat := 0x3400000 + 0x1000000 * e + 0x20000 * k + 0x8 * n
/-- FE_FNCFG (R391). -/
def FE_FNCFG (e f : Nat) : Nat := 0x3600000 + 0x1000000 * e + 0x100 * f
/-- FE_FNSTAT (R391). -/
def FE_FNSTAT (e f : Nat) : Nat := 0x3600008 + 0x1000000 * e + 0x100 * f
/-- FE_FNLANES (R391). -/
def FE_FNLANES (e f : Nat) : Nat := 0x3600010 + 0x1000000 * e + 0x100 * f
/-- FE_FNTXSHAPE (R391). -/
def FE_FNTXSHAPE (e f : Nat) : Nat := 0x3600018 + 0x1000000 * e + 0x100 * f
/-- FE_FNRXSHAPE (R391). -/
def FE_FNRXSHAPE (e f : Nat) : Nat := 0x3600020 + 0x1000000 * e + 0x100 * f
/-- FE_FNTXRING (R391). -/
def FE_FNTXRING (e f : Nat) : Nat := 0x3600028 + 0x1000000 * e + 0x100 * f
/-- FE_FNRXRING (R391). -/
def FE_FNRXRING (e f n : Nat) : Nat := 0x3600030 + 0x1000000 * e + 0x100 * f + 0x8 * n
/-- FE_FNTXCNT (R391). -/
def FE_FNTXCNT (e f : Nat) : Nat := 0x3600050 + 0x1000000 * e + 0x100 * f
/-- FE_FNRXCNT (R391). -/
def FE_FNRXCNT (e f : Nat) : Nat := 0x3600058 + 0x1000000 * e + 0x100 * f
/-- FE_FNWINBASE (R391). -/
def FE_FNWINBASE (e f w : Nat) : Nat := 0x3600060 + 0x1000000 * e + 0x100 * f + 0x18 * w
/-- FE_FNWINPA (R391). -/
def FE_FNWINPA (e f w : Nat) : Nat := 0x3600068 + 0x1000000 * e + 0x100 * f + 0x18 * w
/-- FE_FNWINSIZE (R391). -/
def FE_FNWINSIZE (e f w : Nat) : Nat := 0x3600070 + 0x1000000 * e + 0x100 * f + 0x18 * w
/-- FE_FNFILT (R404). -/
def FE_FNFILT (e f k : Nat) : Nat := 0x36000C0 + 0x1000000 * e + 0x100 * f + 0x8 * k
/-- FE_DBTXTAIL (R395). -/
def FE_DBTXTAIL (e f : Nat) : Nat := 0x3800000 + 0x1000000 * e + 0x1000 * f
/-- FE_DBTXHEAD (R395). -/
def FE_DBTXHEAD (e f : Nat) : Nat := 0x3800008 + 0x1000000 * e + 0x1000 * f
/-- FE_DBTXCFG (R395). -/
def FE_DBTXCFG (e f : Nat) : Nat := 0x3800010 + 0x1000000 * e + 0x1000 * f
/-- FE_DBRXTAIL (R395). -/
def FE_DBRXTAIL (e f n : Nat) : Nat := 0x3800040 + 0x1000000 * e + 0x1000 * f + 0x20 * n
/-- FE_DBRXHEAD (R395). -/
def FE_DBRXHEAD (e f n : Nat) : Nat := 0x3800048 + 0x1000000 * e + 0x1000 * f + 0x20 * n
/-- FE_DBRXCFG (R395). -/
def FE_DBRXCFG (e f n : Nat) : Nat := 0x3800050 + 0x1000000 * e + 0x1000 * f + 0x20 * n
/-- FE_DBSTAT (R395). -/
def FE_DBSTAT (e f : Nat) : Nat := 0x3800100 + 0x1000000 * e + 0x1000 * f
/-- FE_DBCFG (R395). -/
def FE_DBCFG (e f : Nat) : Nat := 0x3800108 + 0x1000000 * e + 0x1000 * f
/-- FE_DBIMSET (R395). -/
def FE_DBIMSET (e f : Nat) : Nat := 0x3800110 + 0x1000000 * e + 0x1000 * f
/-- FE_DBIMCLR (R395). -/
def FE_DBIMCLR (e f : Nat) : Nat := 0x3800118 + 0x1000000 * e + 0x1000 * f
/-- FE_DBIPEND (R395). -/
def FE_DBIPEND (e f : Nat) : Nat := 0x3800120 + 0x1000000 * e + 0x1000 * f
/-- FE_DBRXDROP (R395). -/
def FE_DBRXDROP (e f : Nat) : Nat := 0x3800128 + 0x1000000 * e + 0x1000 * f
/-- FE_DBINFO (R395). -/
def FE_DBINFO (e f : Nat) : Nat := 0x3800130 + 0x1000000 * e + 0x1000 * f
/-- FE_DBSIZES (R395). -/
def FE_DBSIZES (e f : Nat) : Nat := 0x3800138 + 0x1000000 * e + 0x1000 * f
/-- FE_RXNOMATCH (R414). -/
def FE_RXNOMATCH (e : Nat) : Nat := 0x3610000 + 0x1000000 * e
/-- FE_RXNOBUF (R414). -/
def FE_RXNOBUF (e : Nat) : Nat := 0x3610008 + 0x1000000 * e
/-- FE_FSCFG (R434). -/
def FE_FSCFG (e i : Nat) : Nat := 0x3620000 + 0x1000000 * e + 0x40 * i
/-- FE_FSSTAT (R434). -/
def FE_FSSTAT (e i : Nat) : Nat := 0x3620008 + 0x1000000 * e + 0x40 * i
/-- FE_FSLOOP (R434). -/
def FE_FSLOOP (e i : Nat) : Nat := 0x3620010 + 0x1000000 * e + 0x40 * i
/-- FE_FSCNT (R434). -/
def FE_FSCNT (e i : Nat) : Nat := 0x3620018 + 0x1000000 * e + 0x40 * i
/-- FE_FSMISS (R434). -/
def FE_FSMISS (e i : Nat) : Nat := 0x3620020 + 0x1000000 * e + 0x40 * i
/-- FE_FSDROP (R434). -/
def FE_FSDROP (e i : Nat) : Nat := 0x3620028 + 0x1000000 * e + 0x40 * i
/-- LDL_ENGSTAT (R445). -/
def LDL_ENGSTAT (l : Nat) : Nat := 0x5000000 + 0x100000 * l
/-- LDL_EVSET (R445). -/
def LDL_EVSET (l : Nat) : Nat := 0x5000008 + 0x100000 * l
/-- LDL_EVCLR (R445). -/
def LDL_EVCLR (l : Nat) : Nat := 0x5000010 + 0x100000 * l
/-- LDL_EVGRP (R445). -/
def LDL_EVGRP (l : Nat) : Nat := 0x5000018 + 0x100000 * l
/-- LDL_CRUERR (R445). -/
def LDL_CRUERR (l : Nat) : Nat := 0x5000020 + 0x100000 * l
/-- LDL_CHCFG (R447). -/
def LDL_CHCFG (l c : Nat) : Nat := 0x5001000 + 0x100000 * l + 0x100 * c
/-- LDL_CHSTAT (R447). -/
def LDL_CHSTAT (l c : Nat) : Nat := 0x5001008 + 0x100000 * l + 0x100 * c
/-- LDL_CHPC (R445). -/
def LDL_CHPC (l c : Nat) : Nat := 0x5001010 + 0x100000 * l + 0x100 * c
/-- LDL_CHERRADDR (R445). -/
def LDL_CHERRADDR (l c : Nat) : Nat := 0x5001018 + 0x100000 * l + 0x100 * c
/-- LDL_CHCNT (R445). -/
def LDL_CHCNT (l c : Nat) : Nat := 0x5001020 + 0x100000 * l + 0x100 * c
/-- LDL_CHWINBASE (R445). -/
def LDL_CHWINBASE (l c w : Nat) : Nat := 0x5001040 + 0x100000 * l + 0x100 * c + 0x18 * w
/-- LDL_CHWINPA (R445). -/
def LDL_CHWINPA (l c w : Nat) : Nat := 0x5001048 + 0x100000 * l + 0x100 * c + 0x18 * w
/-- LDL_CHWINSIZE (R445). -/
def LDL_CHWINSIZE (l c w : Nat) : Nat := 0x5001050 + 0x100000 * l + 0x100 * c + 0x18 * w
/-- LDL_DBPROG (R450). -/
def LDL_DBPROG (l c : Nat) : Nat := 0x5080000 + 0x100000 * l + 0x1000 * c
/-- LDL_DBCMD (R450). -/
def LDL_DBCMD (l c : Nat) : Nat := 0x5080008 + 0x100000 * l + 0x1000 * c
/-- LDL_DBSTAT (R449). -/
def LDL_DBSTAT (l c : Nat) : Nat := 0x5080010 + 0x100000 * l + 0x1000 * c
/-- LDL_DBTPROG (R450). -/
def LDL_DBTPROG (l c : Nat) : Nat := 0x5080018 + 0x100000 * l + 0x1000 * c
/-- LDL_DBPC (R450). -/
def LDL_DBPC (l c : Nat) : Nat := 0x5080020 + 0x100000 * l + 0x1000 * c
/-- LDL_DBERRADDR (R450). -/
def LDL_DBERRADDR (l c : Nat) : Nat := 0x5080028 + 0x100000 * l + 0x1000 * c
/-- LDL_DBCFG (R450). -/
def LDL_DBCFG (l c : Nat) : Nat := 0x5080030 + 0x100000 * l + 0x1000 * c
/-- LDL_DBIMSET (R450). -/
def LDL_DBIMSET (l c : Nat) : Nat := 0x5080038 + 0x100000 * l + 0x1000 * c
/-- LDL_DBIMCLR (R450). -/
def LDL_DBIMCLR (l c : Nat) : Nat := 0x5080040 + 0x100000 * l + 0x1000 * c
/-- LDL_DBIPEND (R450). -/
def LDL_DBIPEND (l c : Nat) : Nat := 0x5080048 + 0x100000 * l + 0x1000 * c
/-- LDL_DBEVSET (R450). -/
def LDL_DBEVSET (l c : Nat) : Nat := 0x5080050 + 0x100000 * l + 0x1000 * c
/-- LDL_DBEVCLR (R450). -/
def LDL_DBEVCLR (l c : Nat) : Nat := 0x5080058 + 0x100000 * l + 0x1000 * c
/-- LDL_DBTIDEMISS (R450). -/
def LDL_DBTIDEMISS (l c : Nat) : Nat := 0x5080060 + 0x100000 * l + 0x1000 * c
/-- LDL_DBREG (R450). -/
def LDL_DBREG (l c r : Nat) : Nat := 0x5080080 + 0x100000 * l + 0x1000 * c + 0x8 * r
/-- IRQ_CTL (R500). -/
def IRQ_CTL : Nat := 0x6000000
/-- IRQ_STAT (R501). -/
def IRQ_STAT : Nat := 0x6000008
/-- IRQ_LATECNT (R500). -/
def IRQ_LATECNT : Nat := 0x6000010
/-- IRQ_REFUSECNT (R500). -/
def IRQ_REFUSECNT : Nat := 0x6000018
/-- IRQ_POSTFLAG (R500). -/
def IRQ_POSTFLAG : Nat := 0x6000020
/-- IRQ_PDISC (R500). -/
def IRQ_PDISC : Nat := 0x6000028
/-- IRQ_ENSET (R500). -/
def IRQ_ENSET (w : Nat) : Nat := 0x6001000 + 0x8 * w
/-- IRQ_ENCLR (R500). -/
def IRQ_ENCLR (w : Nat) : Nat := 0x6001400 + 0x8 * w
/-- IRQ_PENDSET (R500). -/
def IRQ_PENDSET (w : Nat) : Nat := 0x6001800 + 0x8 * w
/-- IRQ_PENDCLR (R500). -/
def IRQ_PENDCLR (w : Nat) : Nat := 0x6001C00 + 0x8 * w
/-- IRQ_VCORE (R501). -/
def IRQ_VCORE (n : Nat) : Nat := 0x6002000 + 0x8 * n
/-- IRQ_OFFER (R501). -/
def IRQ_OFFER (n : Nat) : Nat := 0x6002400 + 0x8 * n
/-- IRQ_PTBASE (R501). -/
def IRQ_PTBASE (p : Nat) : Nat := 0x6002800 + 0x20 * p
/-- IRQ_PTHEAD (R501). -/
def IRQ_PTHEAD (p : Nat) : Nat := 0x6002808 + 0x20 * p
/-- IRQ_PTTAIL (R501). -/
def IRQ_PTTAIL (p : Nat) : Nat := 0x6002810 + 0x20 * p
/-- IRQ_PTSTAT (R501). -/
def IRQ_PTSTAT (p : Nat) : Nat := 0x6002818 + 0x20 * p
/-- IRQ_CFG (R501). -/
def IRQ_CFG (s : Nat) : Nat := 0x6100000 + 0x8 * s
/-- IRQ_SWSEND (R498). -/
def IRQ_SWSEND (n : Nat) : Nat := 0x6800000 + 0x1000 * n
/-- PRT_PCFG (R525). -/
def PRT_PCFG (p : Nat) : Nat := 0x30000 + 0x8 * p
/-- PRT_DLCFG (R526). -/
def PRT_DLCFG (p : Nat) : Nat := 0x30800 + 0x20 * p
/-- PRT_DLBUF0 (R525). -/
def PRT_DLBUF0 (p : Nat) : Nat := 0x30808 + 0x20 * p
/-- PRT_DLBUF1 (R525). -/
def PRT_DLBUF1 (p : Nat) : Nat := 0x30810 + 0x20 * p
/-- PRT_DLPOFF (R525). -/
def PRT_DLPOFF (p : Nat) : Nat := 0x30818 + 0x20 * p
/-- PRT_MEMTOK (R526). -/
def PRT_MEMTOK (m k : Nat) : Nat := 0x31000 + 0x80 * m + 0x8 * k
/-- PRT_COSMASK (R525). -/
def PRT_COSMASK (k : Nat) : Nat := 0x31600 + 0x8 * k
/-- PRT_PRST (R526). -/
def PRT_PRST : Nat := 0x31680
/-- PRT_MEMHELD (R525). -/
def PRT_MEMHELD (m : Nat) : Nat := 0x31700 + 0x8 * m
/-- ERR_CTL (R561). -/
def ERR_CTL : Nat := 0x9000000
/-- ERR_LINESTAT (R561). -/
def ERR_LINESTAT : Nat := 0x9000008
/-- ERR_LOGHEAD (R561). -/
def ERR_LOGHEAD : Nat := 0x9000010
/-- ERR_LOGTAIL (R561). -/
def ERR_LOGTAIL : Nat := 0x9000018
/-- ERR_LOGDROP (R561). -/
def ERR_LOGDROP : Nat := 0x9000020
/-- ERR_STCTL (R562). -/
def ERR_STCTL : Nat := 0x9000028
/-- ERR_STSTAT (R562). -/
def ERR_STSTAT : Nat := 0x9000030
/-- ERR_INJCTL (R562). -/
def ERR_INJCTL : Nat := 0x9000038
/-- ERR_INJADDR (R561). -/
def ERR_INJADDR : Nat := 0x9000040
/-- ERR_INJTIME (R561). -/
def ERR_INJTIME : Nat := 0x9000048
/-- ERR_INJSTAT (R561). -/
def ERR_INJSTAT : Nat := 0x9000050
/-- ERR_OVERSUM (R561). -/
def ERR_OVERSUM (i : Nat) : Nat := 0x9000100 + 0x8 * i
/-- ERR_UESUM (R561). -/
def ERR_UESUM (i : Nat) : Nat := 0x9000140 + 0x8 * i
/-- ERR_REC (R553). -/
def ERR_REC (j w : Nat) : Nat := 0x9010000 + 0x20 * j + 0x8 * w
/-- ERR_BKT (R562). -/
def ERR_BKT (u c : Nat) : Nat := 0x9100000 + 0x40 * u + 0x8 * c
/-- ERR_USTAT (R562). -/
def ERR_USTAT (u : Nat) : Nat := 0x9200000 + 0x20 * u
/-- ERR_UADDR (R561). -/
def ERR_UADDR (u : Nat) : Nat := 0x9200008 + 0x20 * u
/-- ERR_UTIME (R561). -/
def ERR_UTIME (u : Nat) : Nat := 0x9200010 + 0x20 * u
/-- ERR_UCNT (R561). -/
def ERR_UCNT (u : Nat) : Nat := 0x9200018 + 0x20 * u
/-- PWR_CHIPCTL (R584). -/
def PWR_CHIPCTL : Nat := 0x7000000
/-- PWR_NEAPKEEP (R584). -/
def PWR_NEAPKEEP : Nat := 0x7000008
/-- PWR_NEAPKEEPIO (R585). -/
def PWR_NEAPKEEPIO : Nat := 0x7000010
/-- PWR_AVSCTL (R585). -/
def PWR_AVSCTL : Nat := 0x7000018
/-- PWR_AVSSTAT (R585). -/
def PWR_AVSSTAT : Nat := 0x7000020
/-- PWR_THCFG (R585). -/
def PWR_THCFG : Nat := 0x7000028
/-- PWR_THSTAT (R585). -/
def PWR_THSTAT : Nat := 0x7000030
/-- PWR_DOM (R585). -/
def PWR_DOM (d : Nat) : Nat := 0x7001000 + 0x8 * d
/-- AON_WAKEPOL (R586). -/
def AON_WAKEPOL : Nat := 0x7800000
/-- AON_WAKEEN (R586). -/
def AON_WAKEEN : Nat := 0x7800008
/-- AON_WAKECAUSE (R586). -/
def AON_WAKECAUSE : Nat := 0x7800010
/-- AON_WAKETIME (R586). -/
def AON_WAKETIME : Nat := 0x7800018
/-- AON_ALARM (R586). -/
def AON_ALARM : Nat := 0x7800020
/-- AON_RESUMEPC (R586). -/
def AON_RESUMEPC : Nat := 0x7800028
/-- AON_CYCTIME (R586). -/
def AON_CYCTIME (n : Nat) : Nat := 0x7800400 + 0x8 * n
/-- AON_CYCLATCH (R586). -/
def AON_CYCLATCH (h : Nat) : Nat := 0x7800800 + 0x8 * h
/-- SVC_BOOTSTAT (R613). -/
def SVC_BOOTSTAT : Nat := 0x10000
/-- SVC_RSTCAUSE (R613). -/
def SVC_RSTCAUSE : Nat := 0x10008
/-- SVC_STRAPS (R612). -/
def SVC_STRAPS : Nat := 0x10010
/-- SVC_WDCTL (R613). -/
def SVC_WDCTL : Nat := 0x10018
/-- SVC_WDKICK (R612). -/
def SVC_WDKICK : Nat := 0x10020
/-- SVC_WDSTAT (R613). -/
def SVC_WDSTAT : Nat := 0x10028
/-- SVC_FLSRC (R612). -/
def SVC_FLSRC : Nat := 0x10030
/-- SVC_FLMEM (R612). -/
def SVC_FLMEM : Nat := 0x10038
/-- SVC_FLLEN (R612). -/
def SVC_FLLEN : Nat := 0x10040
/-- SVC_FLCMD (R613). -/
def SVC_FLCMD : Nat := 0x10048
/-- SVC_FLHASH (R612). -/
def SVC_FLHASH (j : Nat) : Nat := 0x10050 + 0x8 * j
/-- SVC_SVNFUSE (R612). -/
def SVC_SVNFUSE : Nat := 0x10080
/-- SVC_KEYSTAT (R613). -/
def SVC_KEYSTAT : Nat := 0x10088
/-- SVC_FUSECMD (R613). -/
def SVC_FUSECMD : Nat := 0x10090
/-- SVC_FUSEDATA (R612). -/
def SVC_FUSEDATA (j : Nat) : Nat := 0x10098 + 0x8 * j
/-- SVC_CORECTL (R613). -/
def SVC_CORECTL (n : Nat) : Nat := 0x10100 + 0x8 * n
/-- SVC_COREPC (R612). -/
def SVC_COREPC (n : Nat) : Nat := 0x10500 + 0x8 * n
/-- HIF_BIFCFG (R630). -/
def HIF_BIFCFG : Nat := 0x8000000
/-- HIF_MSGCNT (R630). -/
def HIF_MSGCNT : Nat := 0x8000008
/-- HIF_PCTL (R631). -/
def HIF_PCTL (p : Nat) : Nat := 0x8001000 + 0x100 * p
/-- HIF_PSTAT (R631). -/
def HIF_PSTAT (p : Nat) : Nat := 0x8001008 + 0x100 * p
/-- HIF_PCNT (R630). -/
def HIF_PCNT (p : Nat) : Nat := 0x8001010 + 0x100 * p
/-- HIF_RQCFG (R631). -/
def HIF_RQCFG (k : Nat) : Nat := 0x8010000 + 0x100 * k
/-- HIF_RQWINBASE (R630). -/
def HIF_RQWINBASE (k w : Nat) : Nat := 0x8010008 + 0x100 * k + 0x18 * w
/-- HIF_RQWINPA (R630). -/
def HIF_RQWINPA (k w : Nat) : Nat := 0x8010010 + 0x100 * k + 0x18 * w
/-- HIF_RQWINSIZE (R630). -/
def HIF_RQWINSIZE (k w : Nat) : Nat := 0x8010018 + 0x100 * k + 0x18 * w
/-- HIF_MSIMAP (R630). -/
def HIF_MSIMAP (v : Nat) : Nat := 0x8020000 + 0x8 * v
/-- HIF_FAULTSTAT (R631). -/
def HIF_FAULTSTAT : Nat := 0x8030000
/-- HIF_FAULTADDR (R630). -/
def HIF_FAULTADDR : Nat := 0x8030008
/-- HIF_FAULTCNT (R630). -/
def HIF_FAULTCNT : Nat := 0x8030010
/-- ID_FACTID0 (R644). -/
def ID_FACTID0 : Nat := 0x20000
/-- ID_FACTID1 (R644). -/
def ID_FACTID1 : Nat := 0x20008
/-- ID_VENDOR (R644). -/
def ID_VENDOR : Nat := 0x20010
/-- ID_HMCMD (R644). -/
def ID_HMCMD : Nat := 0x20018
/-- ID_HMSTAT (R644). -/
def ID_HMSTAT : Nat := 0x20020
/-- ID_HMCTL (R644). -/
def ID_HMCTL : Nat := 0x20028
/-- ID_CERTLEN (R644). -/
def ID_CERTLEN : Nat := 0x20030
/-- ID_HMDATA (R644). -/
def ID_HMDATA (j : Nat) : Nat := 0x20040 + 0x8 * j
/-- ID_CHAL (R644). -/
def ID_CHAL (j : Nat) : Nat := 0x20100 + 0x8 * j
/-- ID_CHALCMD (R644). -/
def ID_CHALCMD : Nat := 0x20130
/-- ID_RESP (R644). -/
def ID_RESP (j : Nat) : Nat := 0x20140 + 0x8 * j
/-- ID_RESPDIG (R644). -/
def ID_RESPDIG (j : Nat) : Nat := 0x201A0 + 0x8 * j
/-- ID_CERT (R634). -/
def ID_CERT (j : Nat) : Nat := 0x21000 + 0x8 * j
/-- CHIP_TRIPPERMIT (R655). -/
def CHIP_TRIPPERMIT : Nat := 0x6000
/-- CHIP_TRIPCFG (R655). -/
def CHIP_TRIPCFG : Nat := 0x6008
/-- CHIP_TRIPSTAT (R655). -/
def CHIP_TRIPSTAT : Nat := 0x6010
/-- CHIP_GPIODIR (R656). -/
def CHIP_GPIODIR : Nat := 0x6018
/-- CHIP_GPIOOUT (R656). -/
def CHIP_GPIOOUT : Nat := 0x6020
/-- CHIP_GPIOIN (R656). -/
def CHIP_GPIOIN : Nat := 0x6028
end Reg

namespace F
/-! Fields of CHIP_ID. -/
def CHIP_ID_PART : Fld := ⟨0, 16⟩
def CHIP_ID_STEPPING : Fld := ⟨16, 8⟩
/-! Fields of CHIP_UNITS. -/
def CHIP_UNITS_NTILE : Fld := ⟨0, 7⟩
def CHIP_UNITS_NSLICE : Fld := ⟨8, 7⟩
def CHIP_UNITS_NMC : Fld := ⟨16, 4⟩
def CHIP_UNITS_NQUAD : Fld := ⟨20, 4⟩
def CHIP_UNITS_NFE : Fld := ⟨24, 2⟩
def CHIP_UNITS_NLDL : Fld := ⟨28, 3⟩
def CHIP_UNITS_VEC : Fld := ⟨32, 1⟩
def CHIP_UNITS_PAIR : Fld := ⟨33, 1⟩
def CHIP_UNITS_NPCIEPORT : Fld := ⟨34, 4⟩
def CHIP_UNITS_NSTATION : Fld := ⟨48, 13⟩
/-! Fields of CHIP_IOMAP. -/
def CHIP_IOMAP_MCMAP : Fld := ⟨0, 12⟩
def CHIP_IOMAP_QUADMAP : Fld := ⟨16, 12⟩
def CHIP_IOMAP_FEMAP : Fld := ⟨32, 2⟩
def CHIP_IOMAP_LDLMAP : Fld := ⟨36, 4⟩
def CHIP_IOMAP_PCIEMAP : Fld := ⟨40, 8⟩
/-! Fields of CHIP_PACECFG. -/
def CHIP_PACECFG_FASTEN : Fld := ⟨0, 1⟩
def CHIP_PACECFG_AUTOFALL : Fld := ⟨1, 1⟩
def CHIP_PACECFG_LOCK : Fld := ⟨31, 1⟩
/-! Fields of CHIP_PACESTAT. -/
def CHIP_PACESTAT_LOCKA : Fld := ⟨0, 1⟩
def CHIP_PACESTAT_LOCKB : Fld := ⟨1, 1⟩
def CHIP_PACESTAT_FASTOK : Fld := ⟨2, 1⟩
def CHIP_PACESTAT_BFAST : Fld := ⟨3, 1⟩
def CHIP_PACESTAT_FELL : Fld := ⟨4, 1⟩
def CHIP_PACESTAT_LOST : Fld := ⟨5, 1⟩
/-! Fields of CORE_PACESTAT. -/
def CORE_PACESTAT_MODE : Fld := ⟨0, 1⟩
def CORE_PACESTAT_RATE : Fld := ⟨1, 1⟩
def CORE_PACESTAT_SWITCHING : Fld := ⟨2, 1⟩
def CORE_PACESTAT_WARN : Fld := ⟨3, 1⟩
def CORE_PACESTAT_PEAKFILL : Fld := ⟨8, 5⟩
def CORE_PACESTAT_SLIPCNT : Fld := ⟨16, 16⟩
/-! Fields of TILE_LCAST. -/
def TILE_LCAST_WAYS : Fld := ⟨0, 4⟩
def TILE_LCAST_CUR : Fld := ⟨8, 4⟩
def TILE_LCAST_BUSY : Fld := ⟨16, 1⟩
def TILE_LCAST_REJ : Fld := ⟨17, 1⟩
def TILE_LCAST_REJCODE : Fld := ⟨18, 2⟩
/-! Fields of TILE_RCAST. -/
def TILE_RCAST_WAYS : Fld := ⟨0, 4⟩
def TILE_RCAST_CUR : Fld := ⟨8, 4⟩
def TILE_RCAST_BUSY : Fld := ⟨16, 1⟩
def TILE_RCAST_REJ : Fld := ⟨17, 1⟩
def TILE_RCAST_REJCODE : Fld := ⟨18, 2⟩
/-! Fields of SLC_CAST. -/
def SLC_CAST_WAYS : Fld := ⟨0, 4⟩
def SLC_CAST_CUR : Fld := ⟨8, 4⟩
def SLC_CAST_BUSY : Fld := ⟨16, 1⟩
def SLC_CAST_REJ : Fld := ⟨17, 1⟩
def SLC_CAST_REJCODE : Fld := ⟨18, 2⟩
/-! Fields of TILE_MNTCMD. -/
def TILE_MNTCMD_OP : Fld := ⟨0, 3⟩
def TILE_MNTCMD_TAG : Fld := ⟨8, 8⟩
/-! Fields of TILE_MNTSTAT. -/
def TILE_MNTSTAT_BUSY : Fld := ⟨0, 1⟩
def TILE_MNTSTAT_DONE : Fld := ⟨1, 1⟩
def TILE_MNTSTAT_ERROR : Fld := ⟨2, 1⟩
def TILE_MNTSTAT_OVF : Fld := ⟨3, 1⟩
def TILE_MNTSTAT_QDEPTH : Fld := ⟨4, 3⟩
def TILE_MNTSTAT_ECODE : Fld := ⟨8, 4⟩
def TILE_MNTSTAT_LASTTAG : Fld := ⟨16, 8⟩
def TILE_MNTSTAT_ERRTAG : Fld := ⟨24, 8⟩
/-! Fields of SLC_MNTCMD. -/
def SLC_MNTCMD_OP : Fld := ⟨0, 3⟩
def SLC_MNTCMD_TAG : Fld := ⟨8, 8⟩
/-! Fields of SLC_MNTSTAT. -/
def SLC_MNTSTAT_BUSY : Fld := ⟨0, 1⟩
def SLC_MNTSTAT_DONE : Fld := ⟨1, 1⟩
def SLC_MNTSTAT_ERROR : Fld := ⟨2, 1⟩
def SLC_MNTSTAT_OVF : Fld := ⟨3, 1⟩
def SLC_MNTSTAT_QDEPTH : Fld := ⟨4, 3⟩
def SLC_MNTSTAT_ECODE : Fld := ⟨8, 4⟩
def SLC_MNTSTAT_LASTTAG : Fld := ⟨16, 8⟩
def SLC_MNTSTAT_ERRTAG : Fld := ⟨24, 8⟩
/-! Fields of CHIP_HOMECTL. -/
def CHIP_HOMECTL_APPLY : Fld := ⟨0, 1⟩
def CHIP_HOMECTL_REJ : Fld := ⟨1, 1⟩
def CHIP_HOMECTL_REJCODE : Fld := ⟨2, 2⟩
/-! Fields of DIR_STAT. -/
def DIR_STAT_REBUILDING : Fld := ⟨0, 1⟩
def DIR_STAT_FAILED : Fld := ⟨1, 1⟩
def DIR_STAT_SET : Fld := ⟨16, 11⟩
def DIR_STAT_NFAILED : Fld := ⟨32, 12⟩
/-! Fields of DIR_DIAGIDX. -/
def DIR_DIAGIDX_SET : Fld := ⟨0, 11⟩
def DIR_DIAGIDX_WAY : Fld := ⟨16, 4⟩
/-! Fields of DIR_DIAGDATA. -/
def DIR_DIAGDATA_VALID : Fld := ⟨0, 1⟩
def DIR_DIAGDATA_EM : Fld := ⟨1, 1⟩
def DIR_DIAGDATA_OPEN : Fld := ⟨2, 1⟩
def DIR_DIAGDATA_FV : Fld := ⟨3, 1⟩
def DIR_DIAGDATA_CLAIM : Fld := ⟨4, 1⟩
def DIR_DIAGDATA_FCORE : Fld := ⟨8, 7⟩
def DIR_DIAGDATA_LINE : Fld := ⟨16, 41⟩
/-! Fields of CHIP_PEBB. -/
def CHIP_PEBB_PART : Fld := ⟨0, 6⟩
def CHIP_PEBB_START : Fld := ⟨8, 1⟩
def CHIP_PEBB_DONE : Fld := ⟨9, 1⟩
def CHIP_PEBB_TMO : Fld := ⟨10, 1⟩
def CHIP_PEBB_TMOSEL : Fld := ⟨12, 4⟩
/-! Fields of RTR_ID. -/
def RTR_ID_R : Fld := ⟨0, 7⟩
def RTR_ID_X : Fld := ⟨8, 3⟩
def RTR_ID_Y : Fld := ⟨12, 4⟩
/-! Fields of RTR_ARBWT. -/
def RTR_ARBWT_TC1 : Fld := ⟨0, 4⟩
def RTR_ARBWT_TC2 : Fld := ⟨8, 4⟩
def RTR_ARBWT_TC3 : Fld := ⟨16, 4⟩
/-! Fields of RTR_TC0CAP. -/
def RTR_TC0CAP_L0 : Fld := ⟨0, 5⟩
def RTR_TC0CAP_L1 : Fld := ⟨8, 5⟩
def RTR_TC0CAP_L2 : Fld := ⟨16, 5⟩
def RTR_TC0CAP_L3 : Fld := ⟨24, 5⟩
/-! Fields of RTR_STAT. -/
def RTR_STAT_OVER : Fld := ⟨0, 4⟩
def RTR_STAT_FAIL : Fld := ⟨4, 4⟩
def RTR_STAT_DEAD : Fld := ⟨8, 4⟩
def RTR_STAT_OVERIE : Fld := ⟨16, 1⟩
def RTR_STAT_FAILIE : Fld := ⟨17, 1⟩
/-! Fields of RTR_BWCNT. -/
def RTR_BWCNT_READS : Fld := ⟨0, 32⟩
def RTR_BWCNT_WRITES : Fld := ⟨32, 32⟩
/-! Fields of RTR_EPCTL. -/
def RTR_EPCTL_EBB : Fld := ⟨0, 1⟩
def RTR_EPCTL_REOPEN : Fld := ⟨1, 1⟩
def RTR_EPCTL_DECLARE : Fld := ⟨2, 1⟩
def RTR_EPCTL_REJ : Fld := ⟨3, 1⟩
def RTR_EPCTL_STATE : Fld := ⟨4, 3⟩
def RTR_EPCTL_KIND : Fld := ⟨8, 4⟩
def RTR_EPCTL_EBBTMO : Fld := ⟨12, 4⟩
def RTR_EPCTL_RSPTMO : Fld := ⟨16, 4⟩
def RTR_EPCTL_CAUSE : Fld := ⟨20, 2⟩
/-! Fields of RTR_TC0BKT. -/
def RTR_TC0BKT_RATE : Fld := ⟨0, 12⟩
def RTR_TC0BKT_DEPTH : Fld := ⟨16, 4⟩
/-! Fields of RTR_LINKERR. -/
def RTR_LINKERR_REPLAYS : Fld := ⟨0, 16⟩
def RTR_LINKERR_ESCALATIONS : Fld := ⟨16, 16⟩
/-! Fields of CHIP_DRAMRGN. -/
def CHIP_DRAMRGN_EN : Fld := ⟨0, 1⟩
def CHIP_DRAMRGN_MIRROR : Fld := ⟨1, 1⟩
def CHIP_DRAMRGN_GRAN : Fld := ⟨2, 1⟩
def CHIP_DRAMRGN_BASE : Fld := ⟨8, 17⟩
def CHIP_DRAMRGN_SIZE : Fld := ⟨32, 17⟩
/-! Fields of CHIP_DRAMMAP. -/
def CHIP_DRAMMAP_CHANS : Fld := ⟨0, 12⟩
def CHIP_DRAMMAP_CHANOFF : Fld := ⟨16, 9⟩
/-! Fields of CHIP_DRAMCTL. -/
def CHIP_DRAMCTL_APPLY : Fld := ⟨0, 1⟩
def CHIP_DRAMCTL_REJ : Fld := ⟨1, 1⟩
def CHIP_DRAMCTL_REJCODE : Fld := ⟨2, 3⟩
def CHIP_DRAMCTL_LOCK : Fld := ⟨8, 1⟩
/-! Fields of MC_STAT. -/
def MC_STAT_STATE : Fld := ⟨0, 3⟩
def MC_STAT_SPARED : Fld := ⟨3, 1⟩
def MC_STAT_DEGRADED : Fld := ⟨4, 1⟩
/-! Fields of MC_CFG. -/
def MC_CFG_SPEED : Fld := ⟨0, 3⟩
def MC_CFG_CAPAR : Fld := ⟨3, 1⟩
def MC_CFG_WRCRC : Fld := ⟨4, 1⟩
def MC_CFG_DEMAND : Fld := ⟨5, 1⟩
def MC_CFG_LOCK : Fld := ⟨31, 1⟩
/-! Fields of MC_DIMM. -/
def MC_DIMM_PRESENT : Fld := ⟨0, 1⟩
def MC_DIMM_RDIMM : Fld := ⟨1, 1⟩
def MC_DIMM_X4 : Fld := ⟨2, 1⟩
def MC_DIMM_RANKS : Fld := ⟨4, 4⟩
def MC_DIMM_SIZE : Fld := ⟨8, 10⟩
def MC_DIMM_SERIAL : Fld := ⟨32, 32⟩
/-! Fields of MC_TRAIN. -/
def MC_TRAIN_START : Fld := ⟨0, 1⟩
def MC_TRAIN_MODE : Fld := ⟨1, 1⟩
def MC_TRAIN_SAVEDV : Fld := ⟨2, 1⟩
def MC_TRAIN_DISCARD : Fld := ⟨3, 1⟩
def MC_TRAIN_RESULT : Fld := ⟨4, 4⟩
def MC_TRAIN_DONE : Fld := ⟨8, 1⟩
/-! Fields of MC_SCRUB. -/
def MC_SCRUB_PATROL : Fld := ⟨0, 1⟩
def MC_SCRUB_PERIOD : Fld := ⟨8, 8⟩
def MC_SCRUB_PASSES : Fld := ⟨32, 16⟩
/-! Fields of MC_PPRCTL. -/
def MC_PPRCTL_GO : Fld := ⟨0, 1⟩
def MC_PPRCTL_KIND : Fld := ⟨1, 1⟩
def MC_PPRCTL_SUB : Fld := ⟨2, 1⟩
def MC_PPRCTL_DONE : Fld := ⟨3, 1⟩
def MC_PPRCTL_RESULT : Fld := ⟨4, 4⟩
def MC_PPRCTL_RANK : Fld := ⟨8, 4⟩
/-! Fields of MC_PPRADDR. -/
def MC_PPRADDR_ROW : Fld := ⟨0, 18⟩
def MC_PPRADDR_BG : Fld := ⟨20, 3⟩
def MC_PPRADDR_BANK : Fld := ⟨24, 2⟩
/-! Fields of MC_SPARE. -/
def MC_SPARE_EN : Fld := ⟨0, 1⟩
def MC_SPARE_AUTO : Fld := ⟨1, 1⟩
def MC_SPARE_START : Fld := ⟨2, 1⟩
def MC_SPARE_SRC : Fld := ⟨4, 4⟩
def MC_SPARE_THRESH : Fld := ⟨8, 5⟩
def MC_SPARE_STATE : Fld := ⟨16, 2⟩
/-! Fields of MC_TC0WIN. -/
def MC_TC0WIN_PERIOD : Fld := ⟨0, 32⟩
def MC_TC0WIN_OFFSET : Fld := ⟨32, 32⟩
/-! Fields of MC_TC0CTL. -/
def MC_TC0CTL_EN : Fld := ⟨0, 1⟩
def MC_TC0CTL_BADCFG : Fld := ⟨1, 1⟩
def MC_TC0CTL_WRREJ : Fld := ⟨2, 1⟩
def MC_TC0CTL_CAP : Fld := ⟨8, 8⟩
def MC_TC0CTL_LEN : Fld := ⟨16, 13⟩
/-! Fields of MC_TC0CNT. -/
def MC_TC0CNT_IN : Fld := ⟨0, 32⟩
def MC_TC0CNT_OVER : Fld := ⟨32, 32⟩
/-! Fields of MC_PWRCTL. -/
def MC_PWRCTL_SRREQ : Fld := ⟨0, 1⟩
def MC_PWRCTL_SRACK : Fld := ⟨1, 1⟩
/-! Fields of MC_ERRSTAT. -/
def MC_ERRSTAT_CE : Fld := ⟨0, 1⟩
def MC_ERRSTAT_UE : Fld := ⟨1, 1⟩
def MC_ERRSTAT_RETRYFAIL : Fld := ⟨2, 1⟩
def MC_ERRSTAT_MIRRORFAIL : Fld := ⟨3, 1⟩
def MC_ERRSTAT_DEV : Fld := ⟨8, 4⟩
/-! Fields of MC_CECNT. -/
def MC_CECNT_CE : Fld := ⟨0, 32⟩
def MC_CECNT_UE : Fld := ⟨32, 32⟩
/-! Fields of MC_RETRYCNT. -/
def MC_RETRYCNT_RETRIES : Fld := ⟨0, 32⟩
def MC_RETRYCNT_LOST : Fld := ⟨32, 32⟩
/-! Fields of MC_ERRLOC. -/
def MC_ERRLOC_RANK : Fld := ⟨0, 4⟩
def MC_ERRLOC_BG : Fld := ⟨4, 3⟩
def MC_ERRLOC_BANK : Fld := ⟨8, 2⟩
def MC_ERRLOC_SUB : Fld := ⟨10, 1⟩
def MC_ERRLOC_DEV : Fld := ⟨11, 4⟩
def MC_ERRLOC_ROW : Fld := ⟨32, 18⟩
/-! Fields of CHIP_TTCTL. -/
def CHIP_TTCTL_ROLE : Fld := ⟨0, 2⟩
def CHIP_TTCTL_CHGIE : Fld := ⟨2, 1⟩
/-! Fields of CHIP_TTSTAT. -/
def CHIP_TTSTAT_STATE : Fld := ⟨0, 2⟩
def CHIP_TTSTAT_SLEWING : Fld := ⟨2, 1⟩
def CHIP_TTSTAT_LOST : Fld := ⟨3, 1⟩
def CHIP_TTSTAT_CHG : Fld := ⟨4, 1⟩
def CHIP_TTSTAT_REJ : Fld := ⟨5, 1⟩
def CHIP_TTSTAT_REJCODE : Fld := ⟨6, 2⟩
/-! Fields of CHIP_TTADJ. -/
def CHIP_TTADJ_OFFSET : Fld := ⟨0, 48⟩
def CHIP_TTADJ_STEP : Fld := ⟨48, 1⟩
/-! Fields of CHIP_TTSERVO. -/
def CHIP_TTSERVO_KPSHIFT : Fld := ⟨0, 4⟩
def CHIP_TTSERVO_KISHIFT : Fld := ⟨4, 4⟩
def CHIP_TTSERVO_LOCKTHR : Fld := ⟨8, 16⟩
def CHIP_TTSERVO_HOLDN : Fld := ⟨24, 4⟩
def CHIP_TTSERVO_STEPTHR : Fld := ⟨32, 16⟩
/-! Fields of CHIP_TTPORT. -/
def CHIP_TTPORT_LANE : Fld := ⟨0, 6⟩
def CHIP_TTPORT_DOMAIN : Fld := ⟨8, 8⟩
/-! Fields of CHIP_TTPPS. -/
def CHIP_TTPPS_PPSIN : Fld := ⟨0, 1⟩
def CHIP_TTPPS_PPSOUT : Fld := ⟨1, 1⟩
/-! Fields of CHIP_TTRATE. -/
def CHIP_TTRATE_RATE : Fld := ⟨0, 32⟩
/-! Fields of FLN_QCTL. -/
def FLN_QCTL_MODE : Fld := ⟨0, 2⟩
def FLN_QCTL_PAIRA : Fld := ⟨2, 1⟩
def FLN_QCTL_PAIRB : Fld := ⟨3, 1⟩
def FLN_QCTL_REJ : Fld := ⟨4, 1⟩
def FLN_QCTL_REJCODE : Fld := ⟨5, 2⟩
/-! Fields of FLN_QSTAT. -/
def FLN_QSTAT_REFOK : Fld := ⟨0, 1⟩
def FLN_QSTAT_RUN : Fld := ⟨1, 1⟩
/-! Fields of FLN_CTL. -/
def FLN_CTL_EN : Fld := ⟨0, 1⟩
def FLN_CTL_FEC : Fld := ⟨1, 1⟩
def FLN_CTL_ANEN : Fld := ⟨2, 1⟩
def FLN_CTL_LOOP : Fld := ⟨3, 1⟩
def FLN_CTL_REJ : Fld := ⟨4, 1⟩
def FLN_CTL_REJCODE : Fld := ⟨5, 2⟩
def FLN_CTL_EVIE : Fld := ⟨7, 1⟩
def FLN_CTL_MAXFRAME : Fld := ⟨16, 11⟩
/-! Fields of FLN_STAT. -/
def FLN_STAT_STATE : Fld := ⟨0, 3⟩
def FLN_STAT_RFAULT : Fld := ⟨3, 1⟩
def FLN_STAT_NOAN : Fld := ⟨4, 1⟩
def FLN_STAT_PREACT : Fld := ⟨5, 1⟩
def FLN_STAT_FAST : Fld := ⟨6, 1⟩
def FLN_STAT_UPCHG : Fld := ⟨8, 1⟩
def FLN_STAT_FAULTEV : Fld := ⟨9, 1⟩
def FLN_STAT_PREVCHG : Fld := ⟨10, 1⟩
/-! Fields of FLN_QCFG. -/
def FLN_QCFG_PCPMAP : Fld := ⟨0, 24⟩
def FLN_QCFG_PMASK : Fld := ⟨24, 8⟩
def FLN_QCFG_PREEN : Fld := ⟨32, 1⟩
def FLN_QCFG_VERIFYDIS : Fld := ⟨33, 1⟩
def FLN_QCFG_ADDFRAG : Fld := ⟨34, 2⟩
/-! Fields of FLN_GCLCTL. -/
def FLN_GCLCTL_EN : Fld := ⟨0, 1⟩
def FLN_GCLCTL_SWAP : Fld := ⟨1, 1⟩
def FLN_GCLCTL_OPERBANK : Fld := ⟨2, 1⟩
def FLN_GCLCTL_ERR : Fld := ⟨3, 1⟩
def FLN_GCLCTL_LEN : Fld := ⟨8, 8⟩
/-! Fields of FLN_PTPCTL. -/
def FLN_PTPCTL_ROLE : Fld := ⟨0, 2⟩
def FLN_PTPCTL_SYNCLOG : Fld := ⟨8, 4⟩
def FLN_PTPCTL_PDLOG : Fld := ⟨12, 4⟩
def FLN_PTPCTL_NPDTHR : Fld := ⟨48, 16⟩
/-! Fields of FLN_PTPSTAT. -/
def FLN_PTPSTAT_ASCAP : Fld := ⟨0, 1⟩
def FLN_PTPSTAT_MLD : Fld := ⟨16, 16⟩
def FLN_PTPSTAT_NRRDEV : Fld := ⟨32, 32⟩
/-! Fields of FLN_LATCOMP. -/
def FLN_LATCOMP_RXLAT : Fld := ⟨0, 12⟩
def FLN_LATCOMP_TXLAT : Fld := ⟨16, 12⟩
/-! Fields of FLN_RXCNT. -/
def FLN_RXCNT_RX : Fld := ⟨0, 32⟩
def FLN_RXCNT_BAD : Fld := ⟨32, 32⟩
/-! Fields of FLN_TXCNT. -/
def FLN_TXCNT_TX : Fld := ⟨0, 32⟩
def FLN_TXCNT_FRAG : Fld := ⟨32, 32⟩
/-! Fields of FLN_PCSERR. -/
def FLN_PCSERR_CODE : Fld := ⟨0, 32⟩
def FLN_PCSERR_HIBER : Fld := ⟨32, 32⟩
/-! Fields of FLN_FRERCNT. -/
def FLN_FRERCNT_DUP : Fld := ⟨0, 32⟩
def FLN_FRERCNT_LOST : Fld := ⟨32, 32⟩
/-! Fields of FLN_TXEQ. -/
def FLN_TXEQ_PRE : Fld := ⟨0, 6⟩
def FLN_TXEQ_MAIN : Fld := ⟨8, 6⟩
def FLN_TXEQ_POST : Fld := ⟨16, 6⟩
/-! Fields of FE_CFG. -/
def FE_CFG_ETYPE : Fld := ⟨0, 16⟩
def FE_CFG_LOSTIE : Fld := ⟨16, 1⟩
def FE_CFG_LSIE : Fld := ⟨17, 1⟩
def FE_CFG_TFIE : Fld := ⟨18, 1⟩
/-! Fields of FE_STAT. -/
def FE_STAT_LOSTEV : Fld := ⟨0, 1⟩
def FE_STAT_LSEV : Fld := ⟨1, 1⟩
def FE_STAT_TFAULT : Fld := ⟨2, 1⟩
def FE_STAT_WRREJ : Fld := ⟨3, 1⟩
/-! Fields of FE_TIDEDROP. -/
def FE_TIDEDROP_N : Fld := ⟨0, 32⟩
def FE_TIDEDROP_REASON : Fld := ⟨32, 4⟩
/-! Fields of FE_LSDROP. -/
def FE_LSDROP_LS : Fld := ⟨0, 32⟩
def FE_LSDROP_RSV : Fld := ⟨32, 32⟩
/-! Fields of FE_TTCTL. -/
def FE_TTCTL_START : Fld := ⟨0, 1⟩
def FE_TTCTL_STOP : Fld := ⟨1, 1⟩
def FE_TTCTL_ABORT : Fld := ⟨2, 1⟩
def FE_TTCTL_BEV : Fld := ⟨3, 1⟩
def FE_TTCTL_REJ : Fld := ⟨4, 1⟩
def FE_TTCTL_ERRCODE : Fld := ⟨8, 4⟩
def FE_TTCTL_ERRIDX : Fld := ⟨16, 14⟩
/-! Fields of FE_TTSTAT. -/
def FE_TTSTAT_STATE : Fld := ⟨0, 2⟩
def FE_TTSTAT_CYCLE : Fld := ⟨32, 32⟩
/-! Fields of FE_TTLATE. -/
def FE_TTLATE_LATEMAX : Fld := ⟨0, 16⟩
def FE_TTLATE_SKIPPED : Fld := ⟨32, 16⟩
/-! Fields of FE_IMGCFG. -/
def FE_IMGCFG_EN : Fld := ⟨0, 1⟩
def FE_IMGCFG_AUTOIN : Fld := ⟨1, 1⟩
def FE_IMGCFG_AUTOOUT : Fld := ⟨2, 1⟩
def FE_IMGCFG_TABLE : Fld := ⟨4, 3⟩
def FE_IMGCFG_OWNER : Fld := ⟨8, 6⟩
def FE_IMGCFG_LSLIMIT : Fld := ⟨16, 8⟩
/-! Fields of FE_IMGSIZE. -/
def FE_IMGSIZE_INSIZE : Fld := ⟨6, 15⟩
def FE_IMGSIZE_OUTSIZE : Fld := ⟨38, 15⟩
/-! Fields of FE_IMGSTAT. -/
def FE_IMGSTAT_CURIN : Fld := ⟨0, 1⟩
def FE_IMGSTAT_CUROUT : Fld := ⟨1, 1⟩
def FE_IMGSTAT_LSEXP : Fld := ⟨2, 1⟩
def FE_IMGSTAT_RESUMEREJ : Fld := ⟨3, 1⟩
def FE_IMGSTAT_CFGREJ : Fld := ⟨4, 1⟩
def FE_IMGSTAT_LSCNT : Fld := ⟨8, 8⟩
/-! Fields of FE_IMGCTL. -/
def FE_IMGCTL_RESUME : Fld := ⟨0, 1⟩
/-! Fields of FE_IMGERR. -/
def FE_IMGERR_IN : Fld := ⟨0, 32⟩
def FE_IMGERR_OUT : Fld := ⟨32, 32⟩
/-! Fields of STN_CMD. -/
def STN_CMD_STATION : Fld := ⟨0, 11⟩
def STN_CMD_GO : Fld := ⟨16, 1⟩
/-! Fields of STN_CMDSTAT. -/
def STN_CMDSTAT_BUSY : Fld := ⟨0, 1⟩
def STN_CMDSTAT_DONE : Fld := ⟨1, 1⟩
def STN_CMDSTAT_REJ : Fld := ⟨2, 1⟩
def STN_CMDSTAT_RESULT : Fld := ⟨4, 4⟩
def STN_CMDSTAT_STATION : Fld := ⟨16, 11⟩
/-! Fields of STN_STATE. -/
def STN_STATE_STATE : Fld := ⟨0, 2⟩
def STN_STATE_SUBST : Fld := ⟨2, 1⟩
def STN_STATE_MISSED : Fld := ⟨8, 8⟩
def STN_STATE_SEQ : Fld := ⟨32, 32⟩
/-! Fields of FE_FNCFG. -/
def FE_FNCFG_EN : Fld := ⟨0, 1⟩
def FE_FNCFG_QUIESCE : Fld := ⟨1, 1⟩
def FE_FNCFG_OWNER : Fld := ⟨8, 6⟩
def FE_FNCFG_SRCOK : Fld := ⟨16, 1⟩
def FE_FNCFG_PTPOK : Fld := ⟨17, 1⟩
def FE_FNCFG_VID : Fld := ⟨18, 12⟩
def FE_FNCFG_VIDFORCE : Fld := ⟨30, 1⟩
/-! Fields of FE_FNSTAT. -/
def FE_FNSTAT_STATE : Fld := ⟨0, 3⟩
def FE_FNSTAT_REJ : Fld := ⟨3, 1⟩
def FE_FNSTAT_CFGERR : Fld := ⟨4, 4⟩
def FE_FNSTAT_ERRCODE : Fld := ⟨8, 4⟩
def FE_FNSTAT_WRREJ : Fld := ⟨12, 1⟩
/-! Fields of FE_FNTXSHAPE. -/
def FE_FNTXSHAPE_RATE : Fld := ⟨0, 16⟩
def FE_FNTXSHAPE_BURST : Fld := ⟨32, 16⟩
/-! Fields of FE_FNRXSHAPE. -/
def FE_FNRXSHAPE_RATE : Fld := ⟨0, 16⟩
def FE_FNRXSHAPE_BURST : Fld := ⟨32, 16⟩
/-! Fields of FE_FNTXRING. -/
def FE_FNTXRING_LOG2SIZE : Fld := ⟨0, 5⟩
def FE_FNTXRING_BASE : Fld := ⟨6, 42⟩
/-! Fields of FE_FNRXRING. -/
def FE_FNRXRING_LOG2SIZE : Fld := ⟨0, 5⟩
def FE_FNRXRING_BASE : Fld := ⟨6, 42⟩
def FE_FNRXRING_USE : Fld := ⟨5, 1⟩
/-! Fields of FE_FNTXCNT. -/
def FE_FNTXCNT_SENT : Fld := ⟨0, 32⟩
def FE_FNTXCNT_BAD : Fld := ⟨32, 32⟩
/-! Fields of FE_FNRXCNT. -/
def FE_FNRXCNT_RX : Fld := ⟨0, 32⟩
def FE_FNRXCNT_DROP : Fld := ⟨32, 32⟩
/-! Fields of FE_FNWINBASE. -/
def FE_FNWINBASE_EN : Fld := ⟨0, 1⟩
def FE_FNWINBASE_GBASE : Fld := ⟨12, 36⟩
/-! Fields of FE_FNFILT. -/
def FE_FNFILT_EN : Fld := ⟨0, 1⟩
def FE_FNFILT_KIND : Fld := ⟨1, 2⟩
def FE_FNFILT_RING : Fld := ⟨3, 2⟩
def FE_FNFILT_LANEMASK : Fld := ⟨8, 24⟩
def FE_FNFILT_VALUE : Fld := ⟨32, 16⟩
/-! Fields of FE_DBTXCFG. -/
def FE_DBTXCFG_VEC : Fld := ⟨0, 2⟩
def FE_DBTXCFG_IE : Fld := ⟨2, 1⟩
def FE_DBTXCFG_ITHR : Fld := ⟨8, 8⟩
def FE_DBTXCFG_ITIME : Fld := ⟨16, 16⟩
/-! Fields of FE_DBRXCFG. -/
def FE_DBRXCFG_VEC : Fld := ⟨0, 2⟩
def FE_DBRXCFG_IE : Fld := ⟨2, 1⟩
def FE_DBRXCFG_ITHR : Fld := ⟨8, 8⟩
def FE_DBRXCFG_ITIME : Fld := ⟨16, 16⟩
def FE_DBRXCFG_STRIP : Fld := ⟨3, 1⟩
/-! Fields of FE_DBSTAT. -/
def FE_DBSTAT_STATE : Fld := ⟨0, 3⟩
def FE_DBSTAT_DBERR : Fld := ⟨3, 1⟩
def FE_DBSTAT_DBRING : Fld := ⟨4, 3⟩
def FE_DBSTAT_ERRCODE : Fld := ⟨8, 4⟩
/-! Fields of FE_DBCFG. -/
def FE_DBCFG_ERRVEC : Fld := ⟨0, 2⟩
def FE_DBCFG_ERRIE : Fld := ⟨2, 1⟩
/-! Fields of FE_DBRXDROP. -/
def FE_DBRXDROP_NOBUF : Fld := ⟨0, 16⟩
def FE_DBRXDROP_ADMIT : Fld := ⟨16, 16⟩
def FE_DBRXDROP_ENGBUF : Fld := ⟨32, 16⟩
def FE_DBRXDROP_ERR : Fld := ⟨48, 16⟩
/-! Fields of FE_DBINFO. -/
def FE_DBINFO_F : Fld := ⟨0, 8⟩
def FE_DBINFO_OWNER : Fld := ⟨8, 6⟩
def FE_DBINFO_LANES : Fld := ⟨24, 24⟩
/-! Fields of FE_FSCFG. -/
def FE_FSCFG_LIMIT : Fld := ⟨0, 16⟩
def FE_FSCFG_DEADLINE : Fld := ⟨16, 16⟩
def FE_FSCFG_IE : Fld := ⟨32, 1⟩
/-! Fields of FE_FSSTAT. -/
def FE_FSSTAT_ACTIVE : Fld := ⟨0, 1⟩
def FE_FSSTAT_OVER : Fld := ⟨1, 1⟩
def FE_FSSTAT_MISSED : Fld := ⟨2, 1⟩
def FE_FSSTAT_DLEXP : Fld := ⟨3, 1⟩
def FE_FSSTAT_INDIRECT : Fld := ⟨4, 1⟩
def FE_FSSTAT_OPEN : Fld := ⟨5, 1⟩
def FE_FSSTAT_STATION : Fld := ⟨16, 11⟩
/-! Fields of FE_FSLOOP. -/
def FE_FSLOOP_LAST : Fld := ⟨0, 16⟩
def FE_FSLOOP_MAX : Fld := ⟨16, 16⟩
/-! Fields of FE_FSCNT. -/
def FE_FSCNT_LOOPS : Fld := ⟨0, 32⟩
def FE_FSCNT_OVERCNT : Fld := ⟨32, 32⟩
/-! Fields of FE_FSMISS. -/
def FE_FSMISS_MISSED : Fld := ⟨0, 16⟩
def FE_FSMISS_DLSUB : Fld := ⟨16, 16⟩
def FE_FSMISS_LATE : Fld := ⟨32, 16⟩
def FE_FSMISS_SUPERSEDED : Fld := ⟨48, 16⟩
/-! Fields of FE_FSDROP. -/
def FE_FSDROP_DROPPED : Fld := ⟨0, 16⟩
def FE_FSDROP_INDIRECT : Fld := ⟨16, 16⟩
def FE_FSDROP_TOKWAIT : Fld := ⟨32, 16⟩
def FE_FSDROP_REFUSED : Fld := ⟨48, 16⟩
/-! Fields of LDL_ENGSTAT. -/
def LDL_ENGSTAT_FLIGHT : Fld := ⟨0, 5⟩
def LDL_ENGSTAT_LINES : Fld := ⟨16, 11⟩
/-! Fields of LDL_EVGRP. -/
def LDL_EVGRP_OWNER0 : Fld := ⟨0, 6⟩
def LDL_EVGRP_EN0 : Fld := ⟨7, 1⟩
def LDL_EVGRP_OWNER1 : Fld := ⟨8, 6⟩
def LDL_EVGRP_EN1 : Fld := ⟨15, 1⟩
def LDL_EVGRP_OWNER2 : Fld := ⟨16, 6⟩
def LDL_EVGRP_EN2 : Fld := ⟨23, 1⟩
def LDL_EVGRP_OWNER3 : Fld := ⟨24, 6⟩
def LDL_EVGRP_EN3 : Fld := ⟨31, 1⟩
def LDL_EVGRP_OWNER4 : Fld := ⟨32, 6⟩
def LDL_EVGRP_EN4 : Fld := ⟨39, 1⟩
def LDL_EVGRP_OWNER5 : Fld := ⟨40, 6⟩
def LDL_EVGRP_EN5 : Fld := ⟨47, 1⟩
def LDL_EVGRP_OWNER6 : Fld := ⟨48, 6⟩
def LDL_EVGRP_EN6 : Fld := ⟨55, 1⟩
def LDL_EVGRP_OWNER7 : Fld := ⟨56, 6⟩
def LDL_EVGRP_EN7 : Fld := ⟨63, 1⟩
/-! Fields of LDL_CRUERR. -/
def LDL_CRUERR_CE : Fld := ⟨0, 32⟩
def LDL_CRUERR_POISON : Fld := ⟨32, 32⟩
/-! Fields of LDL_CHCFG. -/
def LDL_CHCFG_EN : Fld := ⟨0, 1⟩
def LDL_CHCFG_STOP : Fld := ⟨1, 1⟩
def LDL_CHCFG_ABORT : Fld := ⟨2, 1⟩
def LDL_CHCFG_OWNER : Fld := ⟨8, 6⟩
def LDL_CHCFG_WEIGHT : Fld := ⟨16, 4⟩
def LDL_CHCFG_TIDE : Fld := ⟨20, 1⟩
def LDL_CHCFG_CYCLIC : Fld := ⟨21, 1⟩
def LDL_CHCFG_CRUMAX : Fld := ⟨24, 8⟩
def LDL_CHCFG_STOPTMO : Fld := ⟨32, 4⟩
/-! Fields of LDL_CHSTAT. -/
def LDL_CHSTAT_STATE : Fld := ⟨0, 3⟩
def LDL_CHSTAT_ABORTED : Fld := ⟨3, 1⟩
def LDL_CHSTAT_ERRCODE : Fld := ⟨4, 4⟩
def LDL_CHSTAT_POISON : Fld := ⟨8, 1⟩
def LDL_CHSTAT_WRREJ : Fld := ⟨9, 1⟩
def LDL_CHSTAT_REJ : Fld := ⟨10, 1⟩
def LDL_CHSTAT_CFGERR : Fld := ⟨12, 2⟩
def LDL_CHSTAT_TIDERUN : Fld := ⟨14, 1⟩
/-! Fields of LDL_CHCNT. -/
def LDL_CHCNT_PROGS : Fld := ⟨0, 32⟩
def LDL_CHCNT_LINES : Fld := ⟨32, 32⟩
/-! Fields of LDL_CHWINBASE. -/
def LDL_CHWINBASE_EN : Fld := ⟨0, 1⟩
def LDL_CHWINBASE_GBASE : Fld := ⟨12, 36⟩
/-! Fields of LDL_DBCMD. -/
def LDL_DBCMD_START : Fld := ⟨0, 1⟩
def LDL_DBCMD_STOP : Fld := ⟨1, 1⟩
def LDL_DBCMD_RESUME : Fld := ⟨2, 1⟩
def LDL_DBCMD_CLEAR : Fld := ⟨3, 1⟩
/-! Fields of LDL_DBSTAT. -/
def LDL_DBSTAT_STATE : Fld := ⟨0, 3⟩
def LDL_DBSTAT_ABORTED : Fld := ⟨3, 1⟩
def LDL_DBSTAT_ERRCODE : Fld := ⟨4, 4⟩
def LDL_DBSTAT_POISON : Fld := ⟨8, 1⟩
def LDL_DBSTAT_DBERR : Fld := ⟨9, 1⟩
def LDL_DBSTAT_DBCODE : Fld := ⟨12, 4⟩
def LDL_DBSTAT_RUNS : Fld := ⟨32, 32⟩
/-! Fields of LDL_DBCFG. -/
def LDL_DBCFG_ERRVEC : Fld := ⟨0, 2⟩
def LDL_DBCFG_ERRIE : Fld := ⟨2, 1⟩
/-! Fields of IRQ_CTL. -/
def IRQ_CTL_EN : Fld := ⟨0, 1⟩
/-! Fields of IRQ_STAT. -/
def IRQ_STAT_REJ : Fld := ⟨0, 1⟩
def IRQ_STAT_REJCODE : Fld := ⟨1, 3⟩
def IRQ_STAT_RESTORING : Fld := ⟨4, 1⟩
/-! Fields of IRQ_PDISC. -/
def IRQ_PDISC_PART : Fld := ⟨0, 6⟩
def IRQ_PDISC_GO : Fld := ⟨8, 1⟩
/-! Fields of IRQ_VCORE. -/
def IRQ_VCORE_VALID : Fld := ⟨0, 1⟩
def IRQ_VCORE_PART : Fld := ⟨8, 6⟩
def IRQ_VCORE_VCORE : Fld := ⟨16, 7⟩
/-! Fields of IRQ_OFFER. -/
def IRQ_OFFER_SRC5 : Fld := ⟨0, 13⟩
def IRQ_OFFER_V5 : Fld := ⟨16, 1⟩
def IRQ_OFFER_SRC6 : Fld := ⟨32, 13⟩
def IRQ_OFFER_V6 : Fld := ⟨48, 1⟩
/-! Fields of IRQ_PTBASE. -/
def IRQ_PTBASE_LOG2SIZE : Fld := ⟨0, 5⟩
def IRQ_PTBASE_EN : Fld := ⟨5, 1⟩
def IRQ_PTBASE_BASE : Fld := ⟨6, 42⟩
/-! Fields of IRQ_PTSTAT. -/
def IRQ_PTSTAT_HELD : Fld := ⟨0, 1⟩
def IRQ_PTSTAT_ERR : Fld := ⟨1, 1⟩
/-! Fields of IRQ_CFG. -/
def IRQ_CFG_SENSE : Fld := ⟨0, 3⟩
def IRQ_CFG_LINE : Fld := ⟨3, 1⟩
def IRQ_CFG_WAKE : Fld := ⟨4, 1⟩
def IRQ_CFG_PRIO : Fld := ⟨8, 5⟩
def IRQ_CFG_TKIND : Fld := ⟨16, 1⟩
def IRQ_CFG_CORE : Fld := ⟨24, 7⟩
def IRQ_CFG_PART : Fld := ⟨32, 6⟩
def IRQ_CFG_VCORE : Fld := ⟨40, 7⟩
def IRQ_CFG_POSTED : Fld := ⟨48, 1⟩
def IRQ_CFG_OFFERED : Fld := ⟨49, 1⟩
def IRQ_CFG_MOVING : Fld := ⟨50, 1⟩
def IRQ_CFG_ACCNUM : Fld := ⟨56, 8⟩
/-! Fields of PRT_PCFG. -/
def PRT_PCFG_COS : Fld := ⟨0, 4⟩
def PRT_PCFG_CEIL : Fld := ⟨8, 5⟩
/-! Fields of PRT_DLCFG. -/
def PRT_DLCFG_EN : Fld := ⟨0, 1⟩
def PRT_DLCFG_SWAP : Fld := ⟨1, 1⟩
def PRT_DLCFG_CUR : Fld := ⟨2, 1⟩
def PRT_DLCFG_OUT : Fld := ⟨3, 1⟩
def PRT_DLCFG_ERR : Fld := ⟨4, 1⟩
def PRT_DLCFG_REJ : Fld := ⟨5, 1⟩
def PRT_DLCFG_LOG2PAGES : Fld := ⟨8, 5⟩
/-! Fields of PRT_MEMTOK. -/
def PRT_MEMTOK_RATE : Fld := ⟨0, 12⟩
def PRT_MEMTOK_DEPTH : Fld := ⟨16, 8⟩
def PRT_MEMTOK_BORROW : Fld := ⟨30, 1⟩
def PRT_MEMTOK_LIMIT : Fld := ⟨31, 1⟩
/-! Fields of PRT_PRST. -/
def PRT_PRST_PART : Fld := ⟨0, 6⟩
def PRT_PRST_GO : Fld := ⟨8, 1⟩
def PRT_PRST_DONE : Fld := ⟨9, 1⟩
/-! Fields of ERR_CTL. -/
def ERR_CTL_LINEEN : Fld := ⟨0, 8⟩
/-! Fields of ERR_STCTL. -/
def ERR_STCTL_UNIT : Fld := ⟨0, 9⟩
def ERR_STCTL_GO : Fld := ⟨16, 1⟩
def ERR_STCTL_REJ : Fld := ⟨17, 1⟩
/-! Fields of ERR_STSTAT. -/
def ERR_STSTAT_PASS : Fld := ⟨0, 1⟩
def ERR_STSTAT_DONE : Fld := ⟨1, 1⟩
def ERR_STSTAT_FAILS : Fld := ⟨16, 16⟩
/-! Fields of ERR_INJCTL. -/
def ERR_INJCTL_UNIT : Fld := ⟨0, 9⟩
def ERR_INJCTL_CLASS : Fld := ⟨12, 3⟩
def ERR_INJCTL_KIND : Fld := ⟨16, 4⟩
def ERR_INJCTL_TRIG : Fld := ⟨20, 2⟩
def ERR_INJCTL_COUNT : Fld := ⟨24, 8⟩
def ERR_INJCTL_ARM : Fld := ⟨32, 1⟩
def ERR_INJCTL_CANCEL : Fld := ⟨33, 1⟩
def ERR_INJCTL_REJ : Fld := ⟨34, 1⟩
def ERR_INJCTL_REJCODE : Fld := ⟨35, 4⟩
def ERR_INJCTL_LOCK : Fld := ⟨40, 1⟩
/-! Fields of ERR_INJSTAT. -/
def ERR_INJSTAT_MADE : Fld := ⟨0, 8⟩
def ERR_INJSTAT_ARMED : Fld := ⟨8, 1⟩
/-! Fields of ERR_BKT. -/
def ERR_BKT_COUNT : Fld := ⟨0, 8⟩
def ERR_BKT_LEAK : Fld := ⟨8, 5⟩
def ERR_BKT_THRESH : Fld := ⟨16, 8⟩
def ERR_BKT_IE : Fld := ⟨24, 1⟩
def ERR_BKT_OVER : Fld := ⟨25, 1⟩
def ERR_BKT_TOTAL : Fld := ⟨32, 32⟩
/-! Fields of ERR_USTAT. -/
def ERR_USTAT_CE : Fld := ⟨0, 1⟩
def ERR_USTAT_UE : Fld := ⟨1, 1⟩
def ERR_USTAT_MULTI : Fld := ⟨2, 1⟩
def ERR_USTAT_DEAD : Fld := ⟨3, 1⟩
def ERR_USTAT_STFAIL : Fld := ⟨4, 1⟩
def ERR_USTAT_CLASS : Fld := ⟨8, 3⟩
def ERR_USTAT_SEV : Fld := ⟨12, 4⟩
def ERR_USTAT_PART : Fld := ⟨16, 6⟩
def ERR_USTAT_SCOPE : Fld := ⟨22, 2⟩
def ERR_USTAT_INJ : Fld := ⟨24, 1⟩
/-! Fields of ERR_UCNT. -/
def ERR_UCNT_UE : Fld := ⟨0, 16⟩
def ERR_UCNT_LOST : Fld := ⟨16, 16⟩
def ERR_UCNT_WAITS : Fld := ⟨32, 16⟩
def ERR_UCNT_PEBB : Fld := ⟨48, 16⟩
/-! Fields of PWR_CHIPCTL. -/
def PWR_CHIPCTL_REQ : Fld := ⟨0, 2⟩
def PWR_CHIPCTL_REJ : Fld := ⟨2, 1⟩
def PWR_CHIPCTL_REJCODE : Fld := ⟨3, 3⟩
def PWR_CHIPCTL_STATE : Fld := ⟨8, 2⟩
def PWR_CHIPCTL_ABORTED : Fld := ⟨10, 1⟩
/-! Fields of PWR_NEAPKEEPIO. -/
def PWR_NEAPKEEPIO_QUADS : Fld := ⟨0, 12⟩
def PWR_NEAPKEEPIO_FES : Fld := ⟨12, 2⟩
def PWR_NEAPKEEPIO_LADLES : Fld := ⟨14, 4⟩
def PWR_NEAPKEEPIO_HIF : Fld := ⟨18, 1⟩
/-! Fields of PWR_AVSCTL. -/
def PWR_AVSCTL_TARGET : Fld := ⟨0, 12⟩
def PWR_AVSCTL_STBYMV : Fld := ⟨16, 12⟩
def PWR_AVSCTL_GO : Fld := ⟨31, 1⟩
/-! Fields of PWR_AVSSTAT. -/
def PWR_AVSSTAT_VOUT : Fld := ⟨0, 12⟩
def PWR_AVSSTAT_BUSY : Fld := ⟨12, 1⟩
def PWR_AVSSTAT_ERR : Fld := ⟨13, 1⟩
def PWR_AVSSTAT_REJ : Fld := ⟨14, 1⟩
/-! Fields of PWR_THCFG. -/
def PWR_THCFG_WARN : Fld := ⟨0, 8⟩
def PWR_THCFG_THROT : Fld := ⟨8, 8⟩
def PWR_THCFG_CRIT : Fld := ⟨16, 8⟩
def PWR_THCFG_HYST : Fld := ⟨24, 4⟩
def PWR_THCFG_AUTOTHROT : Fld := ⟨28, 1⟩
def PWR_THCFG_FLOODDIV : Fld := ⟨29, 2⟩
/-! Fields of PWR_THSTAT. -/
def PWR_THSTAT_TMAX : Fld := ⟨0, 16⟩
def PWR_THSTAT_TROUTER : Fld := ⟨16, 7⟩
def PWR_THSTAT_WARN : Fld := ⟨24, 1⟩
def PWR_THSTAT_THROT : Fld := ⟨25, 1⟩
def PWR_THSTAT_CRIT : Fld := ⟨26, 1⟩
def PWR_THSTAT_HALTED : Fld := ⟨27, 1⟩
/-! Fields of PWR_DOM. -/
def PWR_DOM_REQ : Fld := ⟨0, 2⟩
def PWR_DOM_AUTOWAKE : Fld := ⟨2, 1⟩
def PWR_DOM_REJ : Fld := ⟨3, 1⟩
def PWR_DOM_REJCODE : Fld := ⟨4, 3⟩
def PWR_DOM_STATE : Fld := ⟨8, 3⟩
def PWR_DOM_ABORTED : Fld := ⟨11, 1⟩
/-! Fields of AON_WAKEEN. -/
def AON_WAKEEN_PINS : Fld := ⟨0, 8⟩
def AON_WAKEEN_ALARM : Fld := ⟨8, 1⟩
def AON_WAKEEN_MGMT : Fld := ⟨9, 1⟩
/-! Fields of SVC_BOOTSTAT. -/
def SVC_BOOTSTAT_PHASE : Fld := ⟨0, 4⟩
def SVC_BOOTSTAT_SRC : Fld := ⟨4, 2⟩
def SVC_BOOTSTAT_ERRA : Fld := ⟨8, 4⟩
def SVC_BOOTSTAT_ERRB : Fld := ⟨12, 4⟩
def SVC_BOOTSTAT_STOPCHK : Fld := ⟨16, 1⟩
def SVC_BOOTSTAT_SVN : Fld := ⟨32, 16⟩
/-! Fields of SVC_RSTCAUSE. -/
def SVC_RSTCAUSE_LAST : Fld := ⟨0, 4⟩
def SVC_RSTCAUSE_HIST : Fld := ⟨8, 6⟩
def SVC_RSTCAUSE_CHIPCNT : Fld := ⟨16, 16⟩
/-! Fields of SVC_STRAPS. -/
def SVC_STRAPS_BOOTSRC : Fld := ⟨0, 2⟩
/-! Fields of SVC_WDCTL. -/
def SVC_WDCTL_EN : Fld := ⟨0, 1⟩
def SVC_WDCTL_T1 : Fld := ⟨8, 4⟩
def SVC_WDCTL_T2 : Fld := ⟨12, 4⟩
def SVC_WDCTL_ACTION : Fld := ⟨16, 2⟩
def SVC_WDCTL_SUBF : Fld := ⟨18, 1⟩
/-! Fields of SVC_WDSTAT. -/
def SVC_WDSTAT_STAGE : Fld := ⟨0, 2⟩
def SVC_WDSTAT_BADKICK : Fld := ⟨8, 1⟩
def SVC_WDSTAT_EXPCNT : Fld := ⟨16, 16⟩
/-! Fields of SVC_FLSRC. -/
def SVC_FLSRC_OFF : Fld := ⟨0, 28⟩
def SVC_FLSRC_DEV : Fld := ⟨32, 1⟩
/-! Fields of SVC_FLCMD. -/
def SVC_FLCMD_OP : Fld := ⟨0, 2⟩
def SVC_FLCMD_GO : Fld := ⟨4, 1⟩
def SVC_FLCMD_DONE : Fld := ⟨5, 1⟩
def SVC_FLCMD_ERR : Fld := ⟨6, 1⟩
def SVC_FLCMD_ERRCODE : Fld := ⟨8, 4⟩
/-! Fields of SVC_KEYSTAT. -/
def SVC_KEYSTAT_PROG : Fld := ⟨0, 4⟩
def SVC_KEYSTAT_REVOKED : Fld := ⟨4, 4⟩
def SVC_KEYSTAT_BAD : Fld := ⟨8, 4⟩
/-! Fields of SVC_FUSECMD. -/
def SVC_FUSECMD_OP : Fld := ⟨0, 2⟩
def SVC_FUSECMD_SLOT : Fld := ⟨4, 2⟩
def SVC_FUSECMD_GO : Fld := ⟨8, 1⟩
def SVC_FUSECMD_DONE : Fld := ⟨9, 1⟩
def SVC_FUSECMD_ERR : Fld := ⟨10, 1⟩
def SVC_FUSECMD_ERRCODE : Fld := ⟨12, 2⟩
/-! Fields of SVC_CORECTL. -/
def SVC_CORECTL_RESET : Fld := ⟨0, 1⟩
def SVC_CORECTL_RELEASE : Fld := ⟨1, 1⟩
def SVC_CORECTL_HELD : Fld := ⟨2, 1⟩
def SVC_CORECTL_REJ : Fld := ⟨3, 1⟩
def SVC_CORECTL_REJCODE : Fld := ⟨4, 2⟩
def SVC_CORECTL_CHECKSTOP : Fld := ⟨6, 1⟩
def SVC_CORECTL_PAIRHALT : Fld := ⟨7, 1⟩
/-! Fields of HIF_BIFCFG. -/
def HIF_BIFCFG_PAIR0 : Fld := ⟨0, 1⟩
def HIF_BIFCFG_PAIR2 : Fld := ⟨1, 1⟩
def HIF_BIFCFG_PAIR4 : Fld := ⟨2, 1⟩
def HIF_BIFCFG_PAIR6 : Fld := ⟨3, 1⟩
def HIF_BIFCFG_QUAD0 : Fld := ⟨4, 1⟩
def HIF_BIFCFG_QUAD4 : Fld := ⟨5, 1⟩
def HIF_BIFCFG_LOCK : Fld := ⟨31, 1⟩
/-! Fields of HIF_MSGCNT. -/
def HIF_MSGCNT_MSI : Fld := ⟨0, 32⟩
def HIF_MSGCNT_INTX : Fld := ⟨32, 32⟩
/-! Fields of HIF_PCTL. -/
def HIF_PCTL_MAXRATE : Fld := ⟨0, 3⟩
def HIF_PCTL_ENABLE : Fld := ⟨3, 1⟩
def HIF_PCTL_CTO : Fld := ⟨4, 4⟩
def HIF_PCTL_CONTAINEN : Fld := ⟨8, 1⟩
def HIF_PCTL_LINKIE : Fld := ⟨9, 1⟩
def HIF_PCTL_ERRIE : Fld := ⟨10, 1⟩
def HIF_PCTL_RELEASE : Fld := ⟨11, 1⟩
/-! Fields of HIF_PSTAT. -/
def HIF_PSTAT_RATE : Fld := ⟨0, 3⟩
def HIF_PSTAT_WIDTH : Fld := ⟨3, 5⟩
def HIF_PSTAT_DLUP : Fld := ⟨8, 1⟩
def HIF_PSTAT_LINKCHG : Fld := ⟨9, 1⟩
def HIF_PSTAT_ERREV : Fld := ⟨10, 1⟩
def HIF_PSTAT_CONTAINED : Fld := ⟨11, 1⟩
/-! Fields of HIF_PCNT. -/
def HIF_PCNT_CTO : Fld := ⟨0, 16⟩
def HIF_PCNT_URCA : Fld := ⟨16, 16⟩
def HIF_PCNT_DROP : Fld := ⟨32, 16⟩
/-! Fields of HIF_RQCFG. -/
def HIF_RQCFG_RIDFIRST : Fld := ⟨0, 16⟩
def HIF_RQCFG_RIDLAST : Fld := ⟨16, 16⟩
def HIF_RQCFG_OWNER : Fld := ⟨32, 6⟩
def HIF_RQCFG_EN : Fld := ⟨40, 1⟩
def HIF_RQCFG_ACTIVE : Fld := ⟨41, 1⟩
def HIF_RQCFG_REJ : Fld := ⟨42, 1⟩
def HIF_RQCFG_CFGERR : Fld := ⟨43, 4⟩
/-! Fields of HIF_RQWINBASE. -/
def HIF_RQWINBASE_EN : Fld := ⟨0, 1⟩
def HIF_RQWINBASE_GBASE : Fld := ⟨12, 36⟩
/-! Fields of HIF_MSIMAP. -/
def HIF_MSIMAP_RID : Fld := ⟨0, 16⟩
def HIF_MSIMAP_EN : Fld := ⟨16, 1⟩
/-! Fields of HIF_FAULTSTAT. -/
def HIF_FAULTSTAT_RID : Fld := ⟨0, 16⟩
def HIF_FAULTSTAT_CODE : Fld := ⟨16, 4⟩
def HIF_FAULTSTAT_PORT : Fld := ⟨20, 3⟩
def HIF_FAULTSTAT_VALID : Fld := ⟨23, 1⟩
/-! Fields of ID_HMCMD. -/
def ID_HMCMD_AREA : Fld := ⟨0, 9⟩
def ID_HMCMD_OFFSET : Fld := ⟨16, 6⟩
def ID_HMCMD_LEN : Fld := ⟨24, 7⟩
def ID_HMCMD_WRITE : Fld := ⟨32, 1⟩
def ID_HMCMD_GO : Fld := ⟨33, 1⟩
/-! Fields of ID_HMSTAT. -/
def ID_HMSTAT_DONE : Fld := ⟨0, 1⟩
def ID_HMSTAT_REJ : Fld := ⟨1, 1⟩
def ID_HMSTAT_REJCODE : Fld := ⟨2, 3⟩
def ID_HMSTAT_UE : Fld := ⟨5, 1⟩
/-! Fields of ID_HMCTL. -/
def ID_HMCTL_LOCK : Fld := ⟨0, 1⟩
/-! Fields of ID_CHALCMD. -/
def ID_CHALCMD_GO : Fld := ⟨0, 1⟩
def ID_CHALCMD_BUSY : Fld := ⟨1, 1⟩
def ID_CHALCMD_DONE : Fld := ⟨2, 1⟩
def ID_CHALCMD_REJ : Fld := ⟨3, 1⟩
/-! Fields of CHIP_TRIPCFG. -/
def CHIP_TRIPCFG_TMO : Fld := ⟨0, 4⟩
def CHIP_TRIPCFG_WDLINK : Fld := ⟨4, 1⟩
def CHIP_TRIPCFG_LOCK : Fld := ⟨31, 1⟩
/-! Fields of CHIP_TRIPSTAT. -/
def CHIP_TRIPSTAT_LEVEL : Fld := ⟨0, 16⟩
def CHIP_TRIPSTAT_LAPSED : Fld := ⟨16, 1⟩
def CHIP_TRIPSTAT_WDREL : Fld := ⟨17, 1⟩
def CHIP_TRIPSTAT_HOLD : Fld := ⟨18, 1⟩
/-- A whole 64-bit register. -/
def all : Fld := ⟨0, 64⟩
/-- The low 32 bits. -/
def low32 : Fld := ⟨0, 32⟩
/-- The high 32 bits. -/
def high32 : Fld := ⟨32, 32⟩
/-- A 16-bit count in the low bits. -/
def low16 : Fld := ⟨0, 16⟩
end F
/-- Registers of the Chip blocks, part 1. -/
def regsChip1 : List RegDef := [
  -- CHIP_ID (R36)
  ⟨0x0, [], 0x0, [⟨⟨0, 16⟩, .ro⟩, ⟨⟨16, 8⟩, .ro⟩], .none⟩,
  -- CHIP_UNITS (R36)
  ⟨0x8, [], 0x0, [⟨⟨0, 7⟩, .ro⟩, ⟨⟨8, 7⟩, .ro⟩, ⟨⟨16, 4⟩, .ro⟩, ⟨⟨20, 4⟩, .ro⟩, ⟨⟨24, 2⟩, .ro⟩, ⟨⟨28, 3⟩, .ro⟩, ⟨⟨32, 1⟩, .ro⟩, ⟨⟨33, 1⟩, .ro⟩, ⟨⟨34, 4⟩, .ro⟩, ⟨⟨48, 13⟩, .ro⟩], .none⟩,
  -- CHIP_TILEMAP (R36)
  ⟨0x10, [], 0x0, [⟨⟨0, 64⟩, .ro⟩], .none⟩,
  -- CHIP_SLICEMAP (R36)
  ⟨0x18, [], 0x0, [⟨⟨0, 64⟩, .ro⟩], .none⟩,
  -- CHIP_IOMAP (R36)
  ⟨0x20, [], 0x0, [⟨⟨0, 12⟩, .ro⟩, ⟨⟨16, 12⟩, .ro⟩, ⟨⟨32, 2⟩, .ro⟩, ⟨⟨36, 4⟩, .ro⟩, ⟨⟨40, 8⟩, .ro⟩], .none⟩,
  -- CHIP_PACECFG (R50)
  ⟨0x1000, [], 0x2, [⟨⟨0, 1⟩, .rwl⟩, ⟨⟨1, 1⟩, .rwl⟩, ⟨⟨31, 1⟩, .w1s⟩], .self 31⟩,
  -- CHIP_PACESTAT (R51)
  ⟨0x1008, [], 0x0, [⟨⟨0, 1⟩, .ro⟩, ⟨⟨1, 1⟩, .ro⟩, ⟨⟨2, 1⟩, .ro⟩, ⟨⟨3, 1⟩, .ro⟩, ⟨⟨4, 1⟩, .w1c⟩, ⟨⟨5, 1⟩, .w1c⟩], .none⟩,
  -- CHIP_HOMESET (R244)
  ⟨0x2000, [], 0xFFFF_FFFF_FFFF_FFFF, [⟨⟨0, 64⟩, .rw⟩], .none⟩,
  -- CHIP_HOMECTL (R245)
  ⟨0x2008, [], 0x0, [⟨⟨0, 1⟩, .sc⟩, ⟨⟨1, 1⟩, .w1c⟩, ⟨⟨2, 2⟩, .ro⟩], .none⟩,
  -- CHIP_HOMECUR (R244)
  ⟨0x2010, [], 0xFFFF_FFFF_FFFF_FFFF, [⟨⟨0, 64⟩, .ro⟩], .none⟩,
  -- CHIP_PEBB (R299)
  ⟨0x3000, [], 0xA000, [⟨⟨0, 6⟩, .rw⟩, ⟨⟨8, 1⟩, .sc⟩, ⟨⟨9, 1⟩, .w1c⟩, ⟨⟨10, 1⟩, .w1c⟩, ⟨⟨12, 4⟩, .rw⟩], .none⟩,
  -- CHIP_DRAMRGN (R309)
  ⟨0x4000, [(0x10, 8)], 0x0, [⟨⟨0, 1⟩, .rwl⟩, ⟨⟨1, 1⟩, .rwl⟩, ⟨⟨2, 1⟩, .rwl⟩, ⟨⟨8, 17⟩, .rwl⟩, ⟨⟨32, 17⟩, .rwl⟩], .at Reg.CHIP_DRAMCTL 8⟩,
  -- CHIP_DRAMMAP (R309)
  ⟨0x4008, [(0x10, 8)], 0x0, [⟨⟨0, 12⟩, .rwl⟩, ⟨⟨16, 9⟩, .rwl⟩], .at Reg.CHIP_DRAMCTL 8⟩,
  -- CHIP_DRAMCTL (R309)
  ⟨0x4080, [], 0x0, [⟨⟨0, 1⟩, .sc⟩, ⟨⟨1, 1⟩, .w1c⟩, ⟨⟨2, 3⟩, .ro⟩, ⟨⟨8, 1⟩, .w1s⟩], .none⟩,
  -- CHIP_TTNOW (R350)
  ⟨0x5000, [], 0x0, [⟨⟨0, 64⟩, .ro⟩], .none⟩,
  -- CHIP_TTCTL (R350)
  ⟨0x5008, [], 0x0, [⟨⟨0, 2⟩, .rw⟩, ⟨⟨2, 1⟩, .rw⟩], .none⟩]
/-- Registers of the Chip blocks, part 2. -/
def regsChip2 : List RegDef := [
  -- CHIP_TTSTAT (R350)
  ⟨0x5010, [], 0x0, [⟨⟨0, 2⟩, .ro⟩, ⟨⟨2, 1⟩, .ro⟩, ⟨⟨3, 1⟩, .w1c⟩, ⟨⟨4, 1⟩, .w1c⟩, ⟨⟨5, 1⟩, .w1c⟩, ⟨⟨6, 2⟩, .ro⟩], .none⟩,
  -- CHIP_TTADJ (R350)
  ⟨0x5020, [], 0x0, [⟨⟨0, 48⟩, .wo⟩, ⟨⟨48, 1⟩, .wo⟩], .none⟩,
  -- CHIP_TTSERVO (R350)
  ⟨0x5030, [], 0x3E803006462, [⟨⟨0, 4⟩, .rw⟩, ⟨⟨4, 4⟩, .rw⟩, ⟨⟨8, 16⟩, .rw⟩, ⟨⟨24, 4⟩, .rw⟩, ⟨⟨32, 16⟩, .rw⟩], .none⟩,
  -- CHIP_TTPORT (R350)
  ⟨0x5038, [], 0x0, [⟨⟨0, 6⟩, .rw⟩, ⟨⟨8, 8⟩, .rw⟩], .none⟩,
  -- CHIP_TTPPS (R350)
  ⟨0x5040, [], 0x0, [⟨⟨0, 1⟩, .rw⟩, ⟨⟨1, 1⟩, .rw⟩], .none⟩,
  -- CHIP_TTRATE (R350)
  ⟨0x5018, [], 0x0, [⟨⟨0, 32⟩, .rw⟩], .none⟩,
  -- CHIP_TTOFFSET (R350)
  ⟨0x5028, [], 0x0, [⟨⟨0, 64⟩, .ro⟩], .none⟩,
  -- CHIP_TTCLKID (R350)
  ⟨0x5048, [], 0x0, [⟨⟨0, 64⟩, .ro⟩], .none⟩,
  -- CHIP_TRIPPERMIT (R655)
  ⟨0x6000, [], 0x0, [⟨⟨0, 16⟩, .rw⟩], .none⟩,
  -- CHIP_TRIPCFG (R655)
  ⟨0x6008, [], 0x1A, [⟨⟨0, 4⟩, .rwl⟩, ⟨⟨4, 1⟩, .rwl⟩, ⟨⟨31, 1⟩, .w1s⟩], .self 31⟩,
  -- CHIP_TRIPSTAT (R655)
  ⟨0x6010, [], 0x0, [⟨⟨0, 16⟩, .ro⟩, ⟨⟨16, 1⟩, .w1c⟩, ⟨⟨17, 1⟩, .w1c⟩, ⟨⟨18, 1⟩, .ro⟩], .none⟩,
  -- CHIP_GPIODIR (R656)
  ⟨0x6018, [], 0x0, [⟨⟨0, 16⟩, .rw⟩], .none⟩,
  -- CHIP_GPIOOUT (R656)
  ⟨0x6020, [], 0x0, [⟨⟨0, 16⟩, .rw⟩], .none⟩,
  -- CHIP_GPIOIN (R656)
  ⟨0x6028, [], 0x0, [⟨⟨0, 16⟩, .ro⟩], .none⟩]
/-- Registers of the Chip blocks. -/
def regsChip : List RegDef := regsChip1 ++ regsChip2
/-- Registers of the Svc blocks, part 1. -/
def regsSvc1 : List RegDef := [
  -- SVC_BOOTSTAT (R613)
  ⟨0x10000, [], 0x0, [⟨⟨0, 4⟩, .ro⟩, ⟨⟨4, 2⟩, .ro⟩, ⟨⟨8, 4⟩, .ro⟩, ⟨⟨12, 4⟩, .ro⟩, ⟨⟨16, 1⟩, .ro⟩, ⟨⟨32, 16⟩, .ro⟩], .none⟩,
  -- SVC_RSTCAUSE (R613)
  ⟨0x10008, [], 0x1, [⟨⟨0, 4⟩, .ro⟩, ⟨⟨8, 6⟩, .w1c⟩, ⟨⟨16, 16⟩, .ro⟩], .none⟩,
  -- SVC_STRAPS (R612)
  ⟨0x10010, [], 0x0, [⟨⟨0, 2⟩, .ro⟩], .none⟩,
  -- SVC_WDCTL (R613)
  ⟨0x10018, [], 0x1AA00, [⟨⟨0, 1⟩, .w1s⟩, ⟨⟨8, 4⟩, .rwl⟩, ⟨⟨12, 4⟩, .rwl⟩, ⟨⟨16, 2⟩, .rwl⟩, ⟨⟨18, 1⟩, .rwl⟩], .self 0⟩,
  -- SVC_WDKICK (R612)
  ⟨0x10020, [], 0x0, [⟨⟨0, 8⟩, .wo⟩], .none⟩,
  -- SVC_WDSTAT (R613)
  ⟨0x10028, [], 0x0, [⟨⟨0, 2⟩, .ro⟩, ⟨⟨8, 1⟩, .w1c⟩, ⟨⟨16, 16⟩, .ro⟩], .none⟩,
  -- SVC_FLSRC (R612)
  ⟨0x10030, [], 0x0, [⟨⟨0, 28⟩, .rw⟩, ⟨⟨32, 1⟩, .rw⟩], .none⟩,
  -- SVC_FLMEM (R612)
  ⟨0x10038, [], 0x0, [⟨⟨0, 48⟩, .rw⟩], .none⟩,
  -- SVC_FLLEN (R612)
  ⟨0x10040, [], 0x0, [⟨⟨0, 28⟩, .rw⟩], .none⟩,
  -- SVC_FLCMD (R613)
  ⟨0x10048, [], 0x0, [⟨⟨0, 2⟩, .rw⟩, ⟨⟨4, 1⟩, .sc⟩, ⟨⟨5, 1⟩, .w1c⟩, ⟨⟨6, 1⟩, .w1c⟩, ⟨⟨8, 4⟩, .ro⟩], .none⟩,
  -- SVC_FLHASH (R612)
  ⟨0x10050, [(0x8, 6)], 0x0, [⟨⟨0, 64⟩, .ro⟩], .none⟩,
  -- SVC_SVNFUSE (R612)
  ⟨0x10080, [], 0x0, [⟨⟨0, 64⟩, .ro⟩], .none⟩,
  -- SVC_KEYSTAT (R613)
  ⟨0x10088, [], 0x0, [⟨⟨0, 4⟩, .ro⟩, ⟨⟨4, 4⟩, .ro⟩, ⟨⟨8, 4⟩, .ro⟩], .none⟩,
  -- SVC_FUSECMD (R613)
  ⟨0x10090, [], 0x0, [⟨⟨0, 2⟩, .rw⟩, ⟨⟨4, 2⟩, .rw⟩, ⟨⟨8, 1⟩, .sc⟩, ⟨⟨9, 1⟩, .w1c⟩, ⟨⟨10, 1⟩, .w1c⟩, ⟨⟨12, 2⟩, .ro⟩], .none⟩,
  -- SVC_FUSEDATA (R612)
  ⟨0x10098, [(0x8, 6)], 0x0, [⟨⟨0, 64⟩, .rw⟩], .none⟩,
  -- SVC_CORECTL (R613)
  ⟨0x10100, [(0x8, 128)], 0x0, [⟨⟨0, 1⟩, .sc⟩, ⟨⟨1, 1⟩, .sc⟩, ⟨⟨2, 1⟩, .ro⟩, ⟨⟨3, 1⟩, .w1c⟩, ⟨⟨4, 2⟩, .ro⟩, ⟨⟨6, 1⟩, .ro⟩, ⟨⟨7, 1⟩, .ro⟩], .none⟩]
/-- Registers of the Svc blocks, part 2. -/
def regsSvc2 : List RegDef := [
  -- SVC_COREPC (R612)
  ⟨0x10500, [(0x8, 128)], 0x0, [⟨⟨2, 62⟩, .rw⟩], .none⟩]
/-- Registers of the Svc blocks. -/
def regsSvc : List RegDef := regsSvc1 ++ regsSvc2
/-- Registers of the Id blocks, part 1. -/
def regsId1 : List RegDef := [
  -- ID_FACTID0 (R644)
  ⟨0x20000, [], 0x0, [⟨⟨0, 64⟩, .ro⟩], .none⟩,
  -- ID_FACTID1 (R644)
  ⟨0x20008, [], 0x0, [⟨⟨0, 64⟩, .ro⟩], .none⟩,
  -- ID_VENDOR (R644)
  ⟨0x20010, [], 0x1F7A, [⟨⟨0, 16⟩, .ro⟩], .none⟩,
  -- ID_HMCMD (R644)
  ⟨0x20018, [], 0x0, [⟨⟨0, 9⟩, .rw⟩, ⟨⟨16, 6⟩, .rw⟩, ⟨⟨24, 7⟩, .rw⟩, ⟨⟨32, 1⟩, .rw⟩, ⟨⟨33, 1⟩, .sc⟩], .none⟩,
  -- ID_HMSTAT (R644)
  ⟨0x20020, [], 0x0, [⟨⟨0, 1⟩, .w1c⟩, ⟨⟨1, 1⟩, .w1c⟩, ⟨⟨2, 3⟩, .ro⟩, ⟨⟨5, 1⟩, .w1c⟩], .none⟩,
  -- ID_HMCTL (R644)
  ⟨0x20028, [], 0x0, [⟨⟨0, 1⟩, .w1s⟩], .none⟩,
  -- ID_CERTLEN (R644)
  ⟨0x20030, [], 0x0, [⟨⟨0, 12⟩, .ro⟩], .none⟩,
  -- ID_HMDATA (R644)
  ⟨0x20040, [(0x8, 8)], 0x0, [⟨⟨0, 64⟩, .rw⟩], .none⟩,
  -- ID_CHAL (R644)
  ⟨0x20100, [(0x8, 6)], 0x0, [⟨⟨0, 64⟩, .rw⟩], .none⟩,
  -- ID_CHALCMD (R644)
  ⟨0x20130, [], 0x0, [⟨⟨0, 1⟩, .sc⟩, ⟨⟨1, 1⟩, .ro⟩, ⟨⟨2, 1⟩, .w1c⟩, ⟨⟨3, 1⟩, .w1c⟩], .none⟩,
  -- ID_RESP (R644)
  ⟨0x20140, [(0x8, 12)], 0x0, [⟨⟨0, 64⟩, .ro⟩], .none⟩,
  -- ID_RESPDIG (R644)
  ⟨0x201A0, [(0x8, 6)], 0x0, [⟨⟨0, 64⟩, .ro⟩], .none⟩,
  -- ID_CERT (R634)
  ⟨0x21000, [(0x8, 512)], 0x0, [⟨⟨0, 64⟩, .ro⟩], .none⟩]
/-- Registers of the Id blocks. -/
def regsId : List RegDef := regsId1
/-- Registers of the Prt blocks, part 1. -/
def regsPrt1 : List RegDef := [
  -- PRT_PCFG (R525)
  ⟨0x30000, [(0x8, 64)], 0x0, [⟨⟨0, 4⟩, .rw⟩, ⟨⟨8, 5⟩, .rw⟩], .none⟩,
  -- PRT_DLCFG (R526)
  ⟨0x30800, [(0x20, 64)], 0x0, [⟨⟨0, 1⟩, .rw⟩, ⟨⟨1, 1⟩, .sc⟩, ⟨⟨2, 1⟩, .ro⟩, ⟨⟨3, 1⟩, .w1c⟩, ⟨⟨4, 1⟩, .w1c⟩, ⟨⟨5, 1⟩, .w1c⟩, ⟨⟨8, 5⟩, .rw⟩], .none⟩,
  -- PRT_DLBUF0 (R525)
  ⟨0x30808, [(0x20, 64)], 0x0, [⟨⟨12, 36⟩, .rw⟩], .none⟩,
  -- PRT_DLBUF1 (R525)
  ⟨0x30810, [(0x20, 64)], 0x0, [⟨⟨12, 36⟩, .rw⟩], .none⟩,
  -- PRT_DLPOFF (R525)
  ⟨0x30818, [(0x20, 64)], 0x0, [⟨⟨12, 36⟩, .rw⟩], .none⟩,
  -- PRT_MEMTOK (R526)
  ⟨0x31000, [(0x80, 12), (0x8, 16)], 0x0, [⟨⟨0, 12⟩, .rw⟩, ⟨⟨16, 8⟩, .rw⟩, ⟨⟨30, 1⟩, .rw⟩, ⟨⟨31, 1⟩, .rw⟩], .none⟩,
  -- PRT_COSMASK (R525)
  ⟨0x31600, [(0x8, 16)], 0xFFF, [⟨⟨0, 12⟩, .rw⟩], .none⟩,
  -- PRT_PRST (R526)
  ⟨0x31680, [], 0x0, [⟨⟨0, 6⟩, .rw⟩, ⟨⟨8, 1⟩, .sc⟩, ⟨⟨9, 1⟩, .w1c⟩], .none⟩,
  -- PRT_MEMHELD (R525)
  ⟨0x31700, [(0x8, 12)], 0x0, [⟨⟨0, 32⟩, .rc⟩], .none⟩]
/-- Registers of the Prt blocks. -/
def regsPrt : List RegDef := regsPrt1
/-- Registers of the Rtr blocks, part 1. -/
def regsRtr1 : List RegDef := [
  -- RTR_ID (R300)
  ⟨0x400000, [(0x1000, 80)], 0x0, [⟨⟨0, 7⟩, .ro⟩, ⟨⟨8, 3⟩, .ro⟩, ⟨⟨12, 4⟩, .ro⟩], .none⟩,
  -- RTR_LINKSTAT (R300)
  ⟨0x400008, [(0x1000, 80)], 0x0, [⟨⟨0, 15⟩, .ro⟩], .none⟩,
  -- RTR_ARBWT (R300)
  ⟨0x400010, [(0x1000, 80)], 0x10403, [⟨⟨0, 4⟩, .rw⟩, ⟨⟨8, 4⟩, .rw⟩, ⟨⟨16, 4⟩, .rw⟩], .none⟩,
  -- RTR_TC0CAP (R300)
  ⟨0x400018, [(0x1000, 80)], 0x14141414, [⟨⟨0, 5⟩, .rw⟩, ⟨⟨8, 5⟩, .rw⟩, ⟨⟨16, 5⟩, .rw⟩, ⟨⟨24, 5⟩, .rw⟩], .none⟩,
  -- RTR_STAT (R301)
  ⟨0x400020, [(0x1000, 80)], 0x30000, [⟨⟨0, 4⟩, .w1c⟩, ⟨⟨4, 4⟩, .w1c⟩, ⟨⟨8, 4⟩, .w1c⟩, ⟨⟨16, 1⟩, .rw⟩, ⟨⟨17, 1⟩, .rw⟩], .none⟩,
  -- RTR_BWCNT (R300)
  ⟨0x400028, [(0x1000, 80)], 0x0, [⟨⟨0, 32⟩, .rc⟩, ⟨⟨32, 32⟩, .rc⟩], .none⟩,
  -- RTR_EPCTL (R302)
  ⟨0x400100, [(0x1000, 80), (0x8, 4)], 0xA7000, [⟨⟨0, 1⟩, .sc⟩, ⟨⟨1, 1⟩, .sc⟩, ⟨⟨2, 1⟩, .sc⟩, ⟨⟨3, 1⟩, .w1c⟩, ⟨⟨4, 3⟩, .ro⟩, ⟨⟨8, 4⟩, .ro⟩, ⟨⟨12, 4⟩, .rw⟩, ⟨⟨16, 4⟩, .rw⟩, ⟨⟨20, 2⟩, .ro⟩], .none⟩,
  -- RTR_TC0BKT (R300)
  ⟨0x400140, [(0x1000, 80), (0x8, 4)], 0x40020, [⟨⟨0, 12⟩, .rw⟩, ⟨⟨16, 4⟩, .rw⟩], .none⟩,
  -- RTR_FLITCNT (R300)
  ⟨0x400200, [(0x1000, 80), (0x20, 4), (0x8, 4)], 0x0, [⟨⟨0, 48⟩, .rc⟩], .none⟩,
  -- RTR_LINKERR (R300)
  ⟨0x400280, [(0x1000, 80), (0x8, 4)], 0x0, [⟨⟨0, 16⟩, .rc⟩, ⟨⟨16, 16⟩, .rc⟩], .none⟩,
  -- RTR_TC0OVER (R300)
  ⟨0x4002A0, [(0x1000, 80), (0x8, 4)], 0x0, [⟨⟨0, 32⟩, .rc⟩], .none⟩]
/-- Registers of the Rtr blocks. -/
def regsRtr : List RegDef := regsRtr1
/-- Registers of the Tile blocks, part 1. -/
def regsTile1 : List RegDef := [
  -- CORE_PACESTAT (R68)
  ⟨0x1001100, [(0x10000, 64), (0x1000, 2)], 0x0, [⟨⟨0, 1⟩, .ro⟩, ⟨⟨1, 1⟩, .ro⟩, ⟨⟨2, 1⟩, .ro⟩, ⟨⟨3, 1⟩, .w1c⟩, ⟨⟨8, 5⟩, .rc⟩, ⟨⟨16, 16⟩, .rc⟩], .none⟩,
  -- TILE_LCAST (R222)
  ⟨0x1000000, [(0x10000, 64)], 0x0, [⟨⟨0, 4⟩, .rw⟩, ⟨⟨8, 4⟩, .ro⟩, ⟨⟨16, 1⟩, .ro⟩, ⟨⟨17, 1⟩, .w1c⟩, ⟨⟨18, 2⟩, .ro⟩], .none⟩,
  -- TILE_RCAST (R222)
  ⟨0x1000008, [(0x10000, 64)], 0x0, [⟨⟨0, 4⟩, .rw⟩, ⟨⟨8, 4⟩, .ro⟩, ⟨⟨16, 1⟩, .ro⟩, ⟨⟨17, 1⟩, .w1c⟩, ⟨⟨18, 2⟩, .ro⟩], .none⟩,
  -- SLC_CAST (R222)
  ⟨0x1005000, [(0x10000, 64)], 0x0, [⟨⟨0, 4⟩, .rw⟩, ⟨⟨8, 4⟩, .ro⟩, ⟨⟨16, 1⟩, .ro⟩, ⟨⟨17, 1⟩, .w1c⟩, ⟨⟨18, 2⟩, .ro⟩], .none⟩,
  -- TILE_MNTADDR (R231)
  ⟨0x1000100, [(0x10000, 64)], 0x0, [⟨⟨0, 48⟩, .rw⟩], .none⟩,
  -- TILE_MNTLEN (R231)
  ⟨0x1000108, [(0x10000, 64)], 0x0, [⟨⟨0, 43⟩, .rw⟩], .none⟩,
  -- TILE_MNTCMD (R232)
  ⟨0x1000110, [(0x10000, 64)], 0x0, [⟨⟨0, 3⟩, .wo⟩, ⟨⟨8, 8⟩, .wo⟩], .none⟩,
  -- TILE_MNTSTAT (R233)
  ⟨0x1000118, [(0x10000, 64)], 0x0, [⟨⟨0, 1⟩, .ro⟩, ⟨⟨1, 1⟩, .w1c⟩, ⟨⟨2, 1⟩, .w1c⟩, ⟨⟨3, 1⟩, .w1c⟩, ⟨⟨4, 3⟩, .ro⟩, ⟨⟨8, 4⟩, .ro⟩, ⟨⟨16, 8⟩, .ro⟩, ⟨⟨24, 8⟩, .ro⟩], .none⟩,
  -- TILE_MNTCNT (R231)
  ⟨0x1000120, [(0x10000, 64)], 0x0, [⟨⟨0, 16⟩, .rc⟩], .none⟩,
  -- TILE_MNTERRADDR (R231)
  ⟨0x1000128, [(0x10000, 64)], 0x0, [⟨⟨6, 42⟩, .ro⟩], .none⟩,
  -- SLC_MNTADDR (R231)
  ⟨0x1005100, [(0x10000, 64)], 0x0, [⟨⟨0, 48⟩, .rw⟩], .none⟩,
  -- SLC_MNTLEN (R231)
  ⟨0x1005108, [(0x10000, 64)], 0x0, [⟨⟨0, 43⟩, .rw⟩], .none⟩,
  -- SLC_MNTCMD (R232)
  ⟨0x1005110, [(0x10000, 64)], 0x0, [⟨⟨0, 3⟩, .wo⟩, ⟨⟨8, 8⟩, .wo⟩], .none⟩,
  -- SLC_MNTSTAT (R233)
  ⟨0x1005118, [(0x10000, 64)], 0x0, [⟨⟨0, 1⟩, .ro⟩, ⟨⟨1, 1⟩, .w1c⟩, ⟨⟨2, 1⟩, .w1c⟩, ⟨⟨3, 1⟩, .w1c⟩, ⟨⟨4, 3⟩, .ro⟩, ⟨⟨8, 4⟩, .ro⟩, ⟨⟨16, 8⟩, .ro⟩, ⟨⟨24, 8⟩, .ro⟩], .none⟩,
  -- SLC_MNTCNT (R231)
  ⟨0x1005120, [(0x10000, 64)], 0x0, [⟨⟨0, 16⟩, .rc⟩], .none⟩,
  -- SLC_MNTERRADDR (R231)
  ⟨0x1005128, [(0x10000, 64)], 0x0, [⟨⟨6, 42⟩, .ro⟩], .none⟩]
/-- Registers of the Tile blocks, part 2. -/
def regsTile2 : List RegDef := [
  -- DIR_STAT (R271)
  ⟨0x1006000, [(0x10000, 64)], 0x0, [⟨⟨0, 1⟩, .ro⟩, ⟨⟨1, 1⟩, .ro⟩, ⟨⟨16, 11⟩, .ro⟩, ⟨⟨32, 12⟩, .ro⟩], .none⟩,
  -- DIR_RETRYCNT (R270)
  ⟨0x1006008, [(0x10000, 64)], 0x0, [⟨⟨0, 32⟩, .rc⟩], .none⟩,
  -- DIR_PROMOCNT (R270)
  ⟨0x1006010, [(0x10000, 64)], 0x0, [⟨⟨0, 32⟩, .rc⟩], .none⟩,
  -- DIR_VICTCNT (R270)
  ⟨0x1006018, [(0x10000, 64)], 0x0, [⟨⟨0, 32⟩, .rc⟩], .none⟩,
  -- DIR_BCASTCNT (R270)
  ⟨0x1006020, [(0x10000, 64)], 0x0, [⟨⟨0, 32⟩, .rc⟩], .none⟩,
  -- DIR_REBUILDCNT (R270)
  ⟨0x1006028, [(0x10000, 64)], 0x0, [⟨⟨0, 16⟩, .rc⟩], .none⟩,
  -- DIR_DIAGIDX (R272)
  ⟨0x1006030, [(0x10000, 64)], 0x0, [⟨⟨0, 11⟩, .rw⟩, ⟨⟨16, 4⟩, .rw⟩], .none⟩,
  -- DIR_DIAGDATA (R272)
  ⟨0x1006038, [(0x10000, 64)], 0x0, [⟨⟨0, 1⟩, .ro⟩, ⟨⟨1, 1⟩, .ro⟩, ⟨⟨2, 1⟩, .ro⟩, ⟨⟨3, 1⟩, .ro⟩, ⟨⟨4, 1⟩, .ro⟩, ⟨⟨8, 7⟩, .ro⟩, ⟨⟨16, 41⟩, .ro⟩], .none⟩,
  -- DIR_DIAGSHR0 (R272)
  ⟨0x1006040, [(0x10000, 64)], 0x0, [⟨⟨0, 64⟩, .ro⟩], .none⟩,
  -- DIR_DIAGSHR1 (R272)
  ⟨0x1006048, [(0x10000, 64)], 0x0, [⟨⟨0, 64⟩, .ro⟩], .none⟩,
  -- SLC_HITCNT (R273)
  ⟨0x1005200, [(0x10000, 64)], 0x0, [⟨⟨0, 32⟩, .rc⟩], .none⟩,
  -- SLC_MISSCNT (R273)
  ⟨0x1005208, [(0x10000, 64)], 0x0, [⟨⟨0, 32⟩, .rc⟩], .none⟩,
  -- SLC_FWDCNT (R273)
  ⟨0x1005210, [(0x10000, 64)], 0x0, [⟨⟨0, 32⟩, .rc⟩], .none⟩,
  -- SLC_WBCNT (R273)
  ⟨0x1005218, [(0x10000, 64)], 0x0, [⟨⟨0, 32⟩, .rc⟩], .none⟩]
/-- Registers of the Tile blocks. -/
def regsTile : List RegDef := regsTile1 ++ regsTile2
/-- Registers of the Mc blocks, part 1. -/
def regsMc1 : List RegDef := [
  -- MC_STAT (R328)
  ⟨0x2000000, [(0x100000, 12)], 0x1, [⟨⟨0, 3⟩, .ro⟩, ⟨⟨3, 1⟩, .ro⟩, ⟨⟨4, 1⟩, .ro⟩], .none⟩,
  -- MC_CFG (R328)
  ⟨0x2000008, [(0x100000, 12)], 0x38, [⟨⟨0, 3⟩, .rwl⟩, ⟨⟨3, 1⟩, .rwl⟩, ⟨⟨4, 1⟩, .rwl⟩, ⟨⟨5, 1⟩, .rwl⟩, ⟨⟨31, 1⟩, .w1s⟩], .self 31⟩,
  -- MC_DIMM (R328)
  ⟨0x2000010, [(0x100000, 12), (0x8, 2)], 0x0, [⟨⟨0, 1⟩, .rwl⟩, ⟨⟨1, 1⟩, .rwl⟩, ⟨⟨2, 1⟩, .rwl⟩, ⟨⟨4, 4⟩, .rwl⟩, ⟨⟨8, 10⟩, .rwl⟩, ⟨⟨32, 32⟩, .rwl⟩], .mc 31⟩,
  -- MC_TRAIN (R328)
  ⟨0x2000020, [(0x100000, 12)], 0x0, [⟨⟨0, 1⟩, .sc⟩, ⟨⟨1, 1⟩, .rw⟩, ⟨⟨2, 1⟩, .ro⟩, ⟨⟨3, 1⟩, .sc⟩, ⟨⟨4, 4⟩, .ro⟩, ⟨⟨8, 1⟩, .w1c⟩], .none⟩,
  -- MC_SCRUB (R328)
  ⟨0x2000028, [(0x100000, 12)], 0x1801, [⟨⟨0, 1⟩, .rw⟩, ⟨⟨8, 8⟩, .rw⟩, ⟨⟨32, 16⟩, .ro⟩], .none⟩,
  -- MC_PPRCTL (R328)
  ⟨0x2000038, [(0x100000, 12)], 0x0, [⟨⟨0, 1⟩, .sc⟩, ⟨⟨1, 1⟩, .rw⟩, ⟨⟨2, 1⟩, .rw⟩, ⟨⟨3, 1⟩, .w1c⟩, ⟨⟨4, 4⟩, .ro⟩, ⟨⟨8, 4⟩, .rw⟩], .none⟩,
  -- MC_PPRADDR (R328)
  ⟨0x2000040, [(0x100000, 12)], 0x0, [⟨⟨0, 18⟩, .rw⟩, ⟨⟨20, 3⟩, .rw⟩, ⟨⟨24, 2⟩, .rw⟩], .none⟩,
  -- MC_SPARE (R328)
  ⟨0x2000030, [(0x100000, 12)], 0x0, [⟨⟨0, 1⟩, .rwl⟩, ⟨⟨1, 1⟩, .rw⟩, ⟨⟨2, 1⟩, .sc⟩, ⟨⟨4, 4⟩, .rw⟩, ⟨⟨8, 5⟩, .rw⟩, ⟨⟨16, 2⟩, .ro⟩], .mc 31⟩,
  -- MC_TC0WIN (R328)
  ⟨0x2000048, [(0x100000, 12)], 0x0, [⟨⟨0, 32⟩, .rw⟩, ⟨⟨32, 32⟩, .rw⟩], .none⟩,
  -- MC_TC0CTL (R328)
  ⟨0x2000050, [(0x100000, 12)], 0x0, [⟨⟨0, 1⟩, .rw⟩, ⟨⟨1, 1⟩, .ro⟩, ⟨⟨2, 1⟩, .w1c⟩, ⟨⟨8, 8⟩, .rw⟩, ⟨⟨16, 13⟩, .rw⟩], .none⟩,
  -- MC_TC0CNT (R328)
  ⟨0x2000058, [(0x100000, 12)], 0x0, [⟨⟨0, 32⟩, .rc⟩, ⟨⟨32, 32⟩, .rc⟩], .none⟩,
  -- MC_PWRCTL (R328)
  ⟨0x2000060, [(0x100000, 12)], 0x0, [⟨⟨0, 1⟩, .rw⟩, ⟨⟨1, 1⟩, .ro⟩], .none⟩,
  -- MC_ERRSTAT (R328)
  ⟨0x2000068, [(0x100000, 12)], 0x0, [⟨⟨0, 1⟩, .w1c⟩, ⟨⟨1, 1⟩, .w1c⟩, ⟨⟨2, 1⟩, .w1c⟩, ⟨⟨3, 1⟩, .w1c⟩, ⟨⟨8, 4⟩, .ro⟩], .none⟩,
  -- MC_ERRADDR (R328)
  ⟨0x2000070, [(0x100000, 12)], 0x0, [⟨⟨6, 33⟩, .ro⟩], .none⟩,
  -- MC_CECNT (R328)
  ⟨0x2000078, [(0x100000, 12)], 0x0, [⟨⟨0, 32⟩, .rc⟩, ⟨⟨32, 32⟩, .rc⟩], .none⟩,
  -- MC_RETRYCNT (R328)
  ⟨0x2000080, [(0x100000, 12)], 0x0, [⟨⟨0, 32⟩, .rc⟩, ⟨⟨32, 32⟩, .rc⟩], .none⟩]
/-- Registers of the Mc blocks, part 2. -/
def regsMc2 : List RegDef := [
  -- MC_ERRLOC (R328)
  ⟨0x2000088, [(0x100000, 12)], 0x0, [⟨⟨0, 4⟩, .ro⟩, ⟨⟨4, 3⟩, .ro⟩, ⟨⟨8, 2⟩, .ro⟩, ⟨⟨10, 1⟩, .ro⟩, ⟨⟨11, 4⟩, .ro⟩, ⟨⟨32, 18⟩, .ro⟩], .none⟩,
  -- MC_RANKCE (R328)
  ⟨0x2000100, [(0x100000, 12), (0x8, 16)], 0x0, [⟨⟨0, 32⟩, .rc⟩], .none⟩]
/-- Registers of the Mc blocks. -/
def regsMc : List RegDef := regsMc1 ++ regsMc2
/-- Registers of the Fe blocks, part 1. -/
def regsFe1 : List RegDef := [
  -- FLN_QCTL (R351)
  ⟨0x3100000, [(0x1000000, 2), (0x1000, 6)], 0x0, [⟨⟨0, 2⟩, .rw⟩, ⟨⟨2, 1⟩, .rw⟩, ⟨⟨3, 1⟩, .rw⟩, ⟨⟨4, 1⟩, .w1c⟩, ⟨⟨5, 2⟩, .ro⟩], .none⟩,
  -- FLN_QSTAT (R351)
  ⟨0x3100008, [(0x1000000, 2), (0x1000, 6)], 0x0, [⟨⟨0, 1⟩, .ro⟩, ⟨⟨1, 1⟩, .ro⟩], .none⟩,
  -- FLN_CTL (R352)
  ⟨0x3200000, [(0x1000000, 2), (0x1000, 24)], 0x6000004, [⟨⟨0, 1⟩, .rw⟩, ⟨⟨1, 1⟩, .rw⟩, ⟨⟨2, 1⟩, .rw⟩, ⟨⟨3, 1⟩, .rw⟩, ⟨⟨4, 1⟩, .w1c⟩, ⟨⟨5, 2⟩, .ro⟩, ⟨⟨7, 1⟩, .rw⟩, ⟨⟨16, 11⟩, .rw⟩], .none⟩,
  -- FLN_STAT (R352)
  ⟨0x3200008, [(0x1000000, 2), (0x1000, 24)], 0x0, [⟨⟨0, 3⟩, .ro⟩, ⟨⟨3, 1⟩, .ro⟩, ⟨⟨4, 1⟩, .ro⟩, ⟨⟨5, 1⟩, .ro⟩, ⟨⟨6, 1⟩, .ro⟩, ⟨⟨8, 1⟩, .w1c⟩, ⟨⟨9, 1⟩, .w1c⟩, ⟨⟨10, 1⟩, .w1c⟩], .none⟩,
  -- FLN_MACADDR (R352)
  ⟨0x3200010, [(0x1000000, 2), (0x1000, 24)], 0x0, [⟨⟨0, 48⟩, .rw⟩], .none⟩,
  -- FLN_QCFG (R352)
  ⟨0x3200018, [(0x1000000, 2), (0x1000, 24)], 0xFAC688, [⟨⟨0, 24⟩, .rw⟩, ⟨⟨24, 8⟩, .rw⟩, ⟨⟨32, 1⟩, .rw⟩, ⟨⟨33, 1⟩, .rw⟩, ⟨⟨34, 2⟩, .rw⟩], .none⟩,
  -- FLN_GCLCTL (R352)
  ⟨0x3200020, [(0x1000000, 2), (0x1000, 24)], 0x0, [⟨⟨0, 1⟩, .rw⟩, ⟨⟨1, 1⟩, .sc⟩, ⟨⟨2, 1⟩, .ro⟩, ⟨⟨3, 1⟩, .w1c⟩, ⟨⟨8, 8⟩, .rw⟩], .none⟩,
  -- FLN_GCLCYCLE (R352)
  ⟨0x3200028, [(0x1000000, 2), (0x1000, 24)], 0x0, [⟨⟨0, 30⟩, .rw⟩], .none⟩,
  -- FLN_GCLBASE (R352)
  ⟨0x3200030, [(0x1000000, 2), (0x1000, 24)], 0x0, [⟨⟨0, 64⟩, .rw⟩], .none⟩,
  -- FLN_PTPCTL (R352)
  ⟨0x3200038, [(0x1000000, 2), (0x1000, 24)], 0xFD0000000000D00, [⟨⟨0, 2⟩, .rw⟩, ⟨⟨8, 4⟩, .rw⟩, ⟨⟨12, 4⟩, .rw⟩, ⟨⟨48, 16⟩, .rw⟩], .none⟩,
  -- FLN_PTPSTAT (R352)
  ⟨0x3200040, [(0x1000000, 2), (0x1000, 24)], 0x0, [⟨⟨0, 1⟩, .ro⟩, ⟨⟨16, 16⟩, .ro⟩, ⟨⟨32, 32⟩, .ro⟩], .none⟩,
  -- FLN_LATCOMP (R352)
  ⟨0x3200048, [(0x1000000, 2), (0x1000, 24)], 0x0, [⟨⟨0, 12⟩, .rw⟩, ⟨⟨16, 12⟩, .rw⟩], .none⟩,
  -- FLN_RXCNT (R352)
  ⟨0x3200100, [(0x1000000, 2), (0x1000, 24)], 0x0, [⟨⟨0, 32⟩, .rc⟩, ⟨⟨32, 32⟩, .rc⟩], .none⟩,
  -- FLN_TXCNT (R352)
  ⟨0x3200108, [(0x1000000, 2), (0x1000, 24)], 0x0, [⟨⟨0, 32⟩, .rc⟩, ⟨⟨32, 32⟩, .rc⟩], .none⟩,
  -- FLN_TXDROP (R352)
  ⟨0x3200110, [(0x1000000, 2), (0x1000, 24)], 0x0, [⟨⟨0, 32⟩, .rc⟩], .none⟩,
  -- FLN_PCSERR (R352)
  ⟨0x3200118, [(0x1000000, 2), (0x1000, 24)], 0x0, [⟨⟨0, 32⟩, .rc⟩, ⟨⟨32, 32⟩, .rc⟩], .none⟩]
/-- Registers of the Fe blocks, part 2. -/
def regsFe2 : List RegDef := [
  -- FLN_HELD (R352)
  ⟨0x3200120, [(0x1000000, 2), (0x1000, 24)], 0x0, [⟨⟨0, 32⟩, .rc⟩], .none⟩,
  -- FLN_FRERCNT (R352)
  ⟨0x3200128, [(0x1000000, 2), (0x1000, 24)], 0x0, [⟨⟨0, 32⟩, .rc⟩, ⟨⟨32, 32⟩, .rc⟩], .none⟩,
  -- FLN_TXEQ (R669)
  ⟨0x3200130, [(0x1000000, 2), (0x1000, 24)], 0x62802, [⟨⟨0, 6⟩, .rw⟩, ⟨⟨8, 6⟩, .rw⟩, ⟨⟨16, 6⟩, .rw⟩], .none⟩,
  -- FLN_GCL0 (R353)
  ⟨0x3200400, [(0x1000000, 2), (0x1000, 24), (0x8, 128)], 0x0, [⟨⟨0, 64⟩, .rw⟩], .none⟩,
  -- FLN_GCL1 (R353)
  ⟨0x3200800, [(0x1000000, 2), (0x1000, 24), (0x8, 128)], 0x0, [⟨⟨0, 64⟩, .rw⟩], .none⟩,
  -- FE_CFG (R386)
  ⟨0x3000000, [(0x1000000, 2)], 0x88B5, [⟨⟨0, 16⟩, .rw⟩, ⟨⟨16, 1⟩, .rw⟩, ⟨⟨17, 1⟩, .rw⟩, ⟨⟨18, 1⟩, .rw⟩], .none⟩,
  -- FE_STAT (R386)
  ⟨0x3000008, [(0x1000000, 2)], 0x0, [⟨⟨0, 1⟩, .w1c⟩, ⟨⟨1, 1⟩, .w1c⟩, ⟨⟨2, 1⟩, .w1c⟩, ⟨⟨3, 1⟩, .w1c⟩], .none⟩,
  -- FE_SUBFORCE (R386)
  ⟨0x3000010, [(0x1000000, 2)], 0x0, [⟨⟨0, 64⟩, .rw⟩], .none⟩,
  -- FE_TIDEDROP (R386)
  ⟨0x3000018, [(0x1000000, 2)], 0x0, [⟨⟨0, 32⟩, .rc⟩, ⟨⟨32, 4⟩, .rc⟩], .none⟩,
  -- FE_SURPLUS (R386)
  ⟨0x3000020, [(0x1000000, 2)], 0x0, [⟨⟨0, 32⟩, .rc⟩], .none⟩,
  -- FE_SEQIGN (R386)
  ⟨0x3000028, [(0x1000000, 2)], 0x0, [⟨⟨0, 32⟩, .rc⟩], .none⟩,
  -- FE_LSDROP (R386)
  ⟨0x3000030, [(0x1000000, 2)], 0x0, [⟨⟨0, 32⟩, .rc⟩, ⟨⟨32, 32⟩, .rc⟩], .none⟩,
  -- FE_TTCTL (R386)
  ⟨0x3000100, [(0x1000000, 2), (0x40, 8)], 0x0, [⟨⟨0, 1⟩, .sc⟩, ⟨⟨1, 1⟩, .sc⟩, ⟨⟨2, 1⟩, .sc⟩, ⟨⟨3, 1⟩, .rw⟩, ⟨⟨4, 1⟩, .w1c⟩, ⟨⟨8, 4⟩, .ro⟩, ⟨⟨16, 14⟩, .ro⟩], .none⟩,
  -- FE_TTPERIOD (R386)
  ⟨0x3000108, [(0x1000000, 2), (0x40, 8)], 0xF4240, [⟨⟨0, 30⟩, .rw⟩], .none⟩,
  -- FE_TTBASE (R386)
  ⟨0x3000110, [(0x1000000, 2), (0x40, 8)], 0x0, [⟨⟨0, 64⟩, .rw⟩], .none⟩,
  -- FE_TTLEN (R386)
  ⟨0x3000118, [(0x1000000, 2), (0x40, 8)], 0x0, [⟨⟨0, 14⟩, .rw⟩], .none⟩]
/-- Registers of the Fe blocks, part 3. -/
def regsFe3 : List RegDef := [
  -- FE_TTSTAT (R386)
  ⟨0x3000120, [(0x1000000, 2), (0x40, 8)], 0x0, [⟨⟨0, 2⟩, .ro⟩, ⟨⟨32, 32⟩, .ro⟩], .none⟩,
  -- FE_TTLATE (R386)
  ⟨0x3000128, [(0x1000000, 2), (0x40, 8)], 0x0, [⟨⟨0, 16⟩, .rc⟩, ⟨⟨32, 16⟩, .rc⟩], .none⟩,
  -- FE_TEVFLAG (R386)
  ⟨0x3000130, [(0x1000000, 2), (0x40, 8)], 0x0, [⟨⟨0, 64⟩, .w1c⟩], .none⟩,
  -- FE_IMGCFG (R386)
  ⟨0x3000400, [(0x1000000, 2), (0x40, 16)], 0x0, [⟨⟨0, 1⟩, .rw⟩, ⟨⟨1, 1⟩, .rw⟩, ⟨⟨2, 1⟩, .rw⟩, ⟨⟨4, 3⟩, .rw⟩, ⟨⟨8, 6⟩, .rw⟩, ⟨⟨16, 8⟩, .rw⟩], .none⟩,
  -- FE_IMGIN (R386)
  ⟨0x3000408, [(0x1000000, 2), (0x40, 16)], 0x0, [⟨⟨6, 42⟩, .rw⟩], .none⟩,
  -- FE_IMGOUT (R386)
  ⟨0x3000410, [(0x1000000, 2), (0x40, 16)], 0x0, [⟨⟨6, 42⟩, .rw⟩], .none⟩,
  -- FE_IMGSIZE (R386)
  ⟨0x3000418, [(0x1000000, 2), (0x40, 16)], 0x0, [⟨⟨6, 15⟩, .rw⟩, ⟨⟨38, 15⟩, .rw⟩], .none⟩,
  -- FE_IMGBW (R386)
  ⟨0x3000420, [(0x1000000, 2), (0x40, 16)], 0x0, [⟨⟨3, 45⟩, .rw⟩], .none⟩,
  -- FE_IMGSTAT (R386)
  ⟨0x3000428, [(0x1000000, 2), (0x40, 16)], 0x0, [⟨⟨0, 1⟩, .ro⟩, ⟨⟨1, 1⟩, .ro⟩, ⟨⟨2, 1⟩, .ro⟩, ⟨⟨3, 1⟩, .w1c⟩, ⟨⟨4, 1⟩, .w1c⟩, ⟨⟨8, 8⟩, .ro⟩], .none⟩,
  -- FE_IMGCTL (R386)
  ⟨0x3000430, [(0x1000000, 2), (0x40, 16)], 0x0, [⟨⟨0, 1⟩, .sc⟩], .none⟩,
  -- FE_IMGERR (R386)
  ⟨0x3000438, [(0x1000000, 2), (0x40, 16)], 0x0, [⟨⟨0, 32⟩, .rc⟩, ⟨⟨32, 32⟩, .rc⟩], .none⟩,
  -- STN_SLOT (R387)
  ⟨0x3300000, [(0x1000000, 2), (0x40, 2048), (0x8, 8)], 0x0, [⟨⟨0, 64⟩, .ro⟩], .none⟩,
  -- STN_STAGE (R387)
  ⟨0x3320000, [(0x1000000, 2), (0x8, 8)], 0x0, [⟨⟨0, 64⟩, .rw⟩], .none⟩,
  -- STN_CMD (R387)
  ⟨0x3320040, [(0x1000000, 2)], 0x0, [⟨⟨0, 11⟩, .rw⟩, ⟨⟨16, 1⟩, .sc⟩], .none⟩,
  -- STN_CMDSTAT (R387)
  ⟨0x3320048, [(0x1000000, 2)], 0x0, [⟨⟨0, 1⟩, .ro⟩, ⟨⟨1, 1⟩, .w1c⟩, ⟨⟨2, 1⟩, .w1c⟩, ⟨⟨4, 4⟩, .ro⟩, ⟨⟨16, 11⟩, .ro⟩], .none⟩,
  -- STN_STATE (R387)
  ⟨0x3330000, [(0x1000000, 2), (0x8, 2048)], 0x0, [⟨⟨0, 2⟩, .ro⟩, ⟨⟨2, 1⟩, .ro⟩, ⟨⟨8, 8⟩, .ro⟩, ⟨⟨32, 32⟩, .ro⟩], .none⟩]
/-- Registers of the Fe blocks, part 4. -/
def regsFe4 : List RegDef := [
  -- STN_LOSTMAP (R387)
  ⟨0x3340000, [(0x1000000, 2), (0x8, 32)], 0x0, [⟨⟨0, 64⟩, .ro⟩], .none⟩,
  -- TT_ENTRY (R387)
  ⟨0x3400000, [(0x1000000, 2), (0x20000, 8), (0x8, 16384)], 0x0, [⟨⟨0, 64⟩, .rw⟩], .none⟩,
  -- FE_FNCFG (R391)
  ⟨0x3600000, [(0x1000000, 2), (0x100, 128)], 0x0, [⟨⟨0, 1⟩, .rw⟩, ⟨⟨1, 1⟩, .sc⟩, ⟨⟨8, 6⟩, .rw⟩, ⟨⟨16, 1⟩, .rw⟩, ⟨⟨17, 1⟩, .rw⟩, ⟨⟨18, 12⟩, .rw⟩, ⟨⟨30, 1⟩, .rw⟩], .none⟩,
  -- FE_FNSTAT (R391)
  ⟨0x3600008, [(0x1000000, 2), (0x100, 128)], 0x0, [⟨⟨0, 3⟩, .ro⟩, ⟨⟨3, 1⟩, .w1c⟩, ⟨⟨4, 4⟩, .ro⟩, ⟨⟨8, 4⟩, .ro⟩, ⟨⟨12, 1⟩, .w1c⟩], .none⟩,
  -- FE_FNLANES (R391)
  ⟨0x3600010, [(0x1000000, 2), (0x100, 128)], 0x0, [⟨⟨0, 24⟩, .rw⟩], .none⟩,
  -- FE_FNTXSHAPE (R391)
  ⟨0x3600018, [(0x1000000, 2), (0x100, 128)], 0x0, [⟨⟨0, 16⟩, .rw⟩, ⟨⟨32, 16⟩, .rw⟩], .none⟩,
  -- FE_FNRXSHAPE (R391)
  ⟨0x3600020, [(0x1000000, 2), (0x100, 128)], 0x0, [⟨⟨0, 16⟩, .rw⟩, ⟨⟨32, 16⟩, .rw⟩], .none⟩,
  -- FE_FNTXRING (R391)
  ⟨0x3600028, [(0x1000000, 2), (0x100, 128)], 0x0, [⟨⟨0, 5⟩, .rw⟩, ⟨⟨6, 42⟩, .rw⟩], .none⟩,
  -- FE_FNRXRING (R391)
  ⟨0x3600030, [(0x1000000, 2), (0x100, 128), (0x8, 4)], 0x0, [⟨⟨0, 5⟩, .rw⟩, ⟨⟨6, 42⟩, .rw⟩, ⟨⟨5, 1⟩, .rw⟩], .none⟩,
  -- FE_FNTXCNT (R391)
  ⟨0x3600050, [(0x1000000, 2), (0x100, 128)], 0x0, [⟨⟨0, 32⟩, .rc⟩, ⟨⟨32, 32⟩, .rc⟩], .none⟩,
  -- FE_FNRXCNT (R391)
  ⟨0x3600058, [(0x1000000, 2), (0x100, 128)], 0x0, [⟨⟨0, 32⟩, .rc⟩, ⟨⟨32, 32⟩, .rc⟩], .none⟩,
  -- FE_FNWINBASE (R391)
  ⟨0x3600060, [(0x1000000, 2), (0x100, 128), (0x18, 4)], 0x0, [⟨⟨0, 1⟩, .rw⟩, ⟨⟨12, 36⟩, .rw⟩], .none⟩,
  -- FE_FNWINPA (R391)
  ⟨0x3600068, [(0x1000000, 2), (0x100, 128), (0x18, 4)], 0x0, [⟨⟨12, 36⟩, .rw⟩], .none⟩,
  -- FE_FNWINSIZE (R391)
  ⟨0x3600070, [(0x1000000, 2), (0x100, 128), (0x18, 4)], 0x0, [⟨⟨12, 36⟩, .rw⟩], .none⟩,
  -- FE_FNFILT (R404)
  ⟨0x36000C0, [(0x1000000, 2), (0x100, 128), (0x8, 8)], 0x0, [⟨⟨0, 1⟩, .rw⟩, ⟨⟨1, 2⟩, .rw⟩, ⟨⟨3, 2⟩, .rw⟩, ⟨⟨8, 24⟩, .rw⟩, ⟨⟨32, 16⟩, .rw⟩], .none⟩,
  -- FE_DBTXTAIL (R395)
  ⟨0x3800000, [(0x1000000, 2), (0x1000, 128)], 0x0, [⟨⟨0, 32⟩, .rw⟩], .none⟩]
/-- Registers of the Fe blocks, part 5. -/
def regsFe5 : List RegDef := [
  -- FE_DBTXHEAD (R395)
  ⟨0x3800008, [(0x1000000, 2), (0x1000, 128)], 0x0, [⟨⟨0, 32⟩, .ro⟩], .none⟩,
  -- FE_DBTXCFG (R395)
  ⟨0x3800010, [(0x1000000, 2), (0x1000, 128)], 0x0, [⟨⟨0, 2⟩, .rw⟩, ⟨⟨2, 1⟩, .rw⟩, ⟨⟨8, 8⟩, .rw⟩, ⟨⟨16, 16⟩, .rw⟩], .none⟩,
  -- FE_DBRXTAIL (R395)
  ⟨0x3800040, [(0x1000000, 2), (0x1000, 128), (0x20, 4)], 0x0, [⟨⟨0, 32⟩, .rw⟩], .none⟩,
  -- FE_DBRXHEAD (R395)
  ⟨0x3800048, [(0x1000000, 2), (0x1000, 128), (0x20, 4)], 0x0, [⟨⟨0, 32⟩, .ro⟩], .none⟩,
  -- FE_DBRXCFG (R395)
  ⟨0x3800050, [(0x1000000, 2), (0x1000, 128), (0x20, 4)], 0x0, [⟨⟨0, 2⟩, .rw⟩, ⟨⟨2, 1⟩, .rw⟩, ⟨⟨8, 8⟩, .rw⟩, ⟨⟨16, 16⟩, .rw⟩, ⟨⟨3, 1⟩, .rw⟩], .none⟩,
  -- FE_DBSTAT (R395)
  ⟨0x3800100, [(0x1000000, 2), (0x1000, 128)], 0x0, [⟨⟨0, 3⟩, .ro⟩, ⟨⟨3, 1⟩, .w1c⟩, ⟨⟨4, 3⟩, .ro⟩, ⟨⟨8, 4⟩, .ro⟩], .none⟩,
  -- FE_DBCFG (R395)
  ⟨0x3800108, [(0x1000000, 2), (0x1000, 128)], 0x0, [⟨⟨0, 2⟩, .rw⟩, ⟨⟨2, 1⟩, .rw⟩], .none⟩,
  -- FE_DBIMSET (R395)
  ⟨0x3800110, [(0x1000000, 2), (0x1000, 128)], 0x0, [⟨⟨0, 4⟩, .w1s⟩], .none⟩,
  -- FE_DBIMCLR (R395)
  ⟨0x3800118, [(0x1000000, 2), (0x1000, 128)], 0x0, [⟨⟨0, 4⟩, .w1c⟩], .none⟩,
  -- FE_DBIPEND (R395)
  ⟨0x3800120, [(0x1000000, 2), (0x1000, 128)], 0x0, [⟨⟨0, 4⟩, .ro⟩], .none⟩,
  -- FE_DBRXDROP (R395)
  ⟨0x3800128, [(0x1000000, 2), (0x1000, 128)], 0x0, [⟨⟨0, 16⟩, .rc⟩, ⟨⟨16, 16⟩, .rc⟩, ⟨⟨32, 16⟩, .rc⟩, ⟨⟨48, 16⟩, .rc⟩], .none⟩,
  -- FE_DBINFO (R395)
  ⟨0x3800130, [(0x1000000, 2), (0x1000, 128)], 0x0, [⟨⟨0, 8⟩, .ro⟩, ⟨⟨8, 6⟩, .ro⟩, ⟨⟨24, 24⟩, .ro⟩], .none⟩,
  -- FE_DBSIZES (R395)
  ⟨0x3800138, [(0x1000000, 2), (0x1000, 128)], 0x0, [⟨⟨0, 64⟩, .ro⟩], .none⟩,
  -- FE_RXNOMATCH (R414)
  ⟨0x3610000, [(0x1000000, 2)], 0x0, [⟨⟨0, 32⟩, .rc⟩], .none⟩,
  -- FE_RXNOBUF (R414)
  ⟨0x3610008, [(0x1000000, 2)], 0x0, [⟨⟨0, 32⟩, .rc⟩], .none⟩,
  -- FE_FSCFG (R434)
  ⟨0x3620000, [(0x1000000, 2), (0x40, 24)], 0x3E8, [⟨⟨0, 16⟩, .rw⟩, ⟨⟨16, 16⟩, .rw⟩, ⟨⟨32, 1⟩, .rw⟩], .none⟩]
/-- Registers of the Fe blocks, part 6. -/
def regsFe6 : List RegDef := [
  -- FE_FSSTAT (R434)
  ⟨0x3620008, [(0x1000000, 2), (0x40, 24)], 0x0, [⟨⟨0, 1⟩, .ro⟩, ⟨⟨1, 1⟩, .w1c⟩, ⟨⟨2, 1⟩, .w1c⟩, ⟨⟨3, 1⟩, .w1c⟩, ⟨⟨4, 1⟩, .w1c⟩, ⟨⟨5, 1⟩, .ro⟩, ⟨⟨16, 11⟩, .ro⟩], .none⟩,
  -- FE_FSLOOP (R434)
  ⟨0x3620010, [(0x1000000, 2), (0x40, 24)], 0x0, [⟨⟨0, 16⟩, .ro⟩, ⟨⟨16, 16⟩, .rc⟩], .none⟩,
  -- FE_FSCNT (R434)
  ⟨0x3620018, [(0x1000000, 2), (0x40, 24)], 0x0, [⟨⟨0, 32⟩, .rc⟩, ⟨⟨32, 32⟩, .rc⟩], .none⟩,
  -- FE_FSMISS (R434)
  ⟨0x3620020, [(0x1000000, 2), (0x40, 24)], 0x0, [⟨⟨0, 16⟩, .rc⟩, ⟨⟨16, 16⟩, .rc⟩, ⟨⟨32, 16⟩, .rc⟩, ⟨⟨48, 16⟩, .rc⟩], .none⟩,
  -- FE_FSDROP (R434)
  ⟨0x3620028, [(0x1000000, 2), (0x40, 24)], 0x0, [⟨⟨0, 16⟩, .rc⟩, ⟨⟨16, 16⟩, .rc⟩, ⟨⟨32, 16⟩, .rc⟩, ⟨⟨48, 16⟩, .rc⟩], .none⟩]
/-- Registers of the Fe blocks. -/
def regsFe : List RegDef := regsFe1 ++ regsFe2 ++ regsFe3 ++ regsFe4 ++ regsFe5 ++ regsFe6
/-- Registers of the Ldl blocks, part 1. -/
def regsLdl1 : List RegDef := [
  -- LDL_ENGSTAT (R445)
  ⟨0x5000000, [(0x100000, 4)], 0x0, [⟨⟨0, 5⟩, .ro⟩, ⟨⟨16, 11⟩, .ro⟩], .none⟩,
  -- LDL_EVSET (R445)
  ⟨0x5000008, [(0x100000, 4)], 0x0, [⟨⟨0, 64⟩, .w1s⟩], .none⟩,
  -- LDL_EVCLR (R445)
  ⟨0x5000010, [(0x100000, 4)], 0x0, [⟨⟨0, 64⟩, .w1c⟩], .none⟩,
  -- LDL_EVGRP (R445)
  ⟨0x5000018, [(0x100000, 4)], 0x0, [⟨⟨0, 6⟩, .rw⟩, ⟨⟨7, 1⟩, .rw⟩, ⟨⟨8, 6⟩, .rw⟩, ⟨⟨15, 1⟩, .rw⟩, ⟨⟨16, 6⟩, .rw⟩, ⟨⟨23, 1⟩, .rw⟩, ⟨⟨24, 6⟩, .rw⟩, ⟨⟨31, 1⟩, .rw⟩, ⟨⟨32, 6⟩, .rw⟩, ⟨⟨39, 1⟩, .rw⟩, ⟨⟨40, 6⟩, .rw⟩, ⟨⟨47, 1⟩, .rw⟩, ⟨⟨48, 6⟩, .rw⟩, ⟨⟨55, 1⟩, .rw⟩, ⟨⟨56, 6⟩, .rw⟩, ⟨⟨63, 1⟩, .rw⟩], .none⟩,
  -- LDL_CRUERR (R445)
  ⟨0x5000020, [(0x100000, 4)], 0x0, [⟨⟨0, 32⟩, .rc⟩, ⟨⟨32, 32⟩, .rc⟩], .none⟩,
  -- LDL_CHCFG (R447)
  ⟨0x5001000, [(0x100000, 4), (0x100, 32)], 0xF10000000, [⟨⟨0, 1⟩, .rw⟩, ⟨⟨1, 1⟩, .sc⟩, ⟨⟨2, 1⟩, .sc⟩, ⟨⟨8, 6⟩, .rw⟩, ⟨⟨16, 4⟩, .rw⟩, ⟨⟨20, 1⟩, .rw⟩, ⟨⟨21, 1⟩, .rw⟩, ⟨⟨24, 8⟩, .rw⟩, ⟨⟨32, 4⟩, .rw⟩], .none⟩,
  -- LDL_CHSTAT (R447)
  ⟨0x5001008, [(0x100000, 4), (0x100, 32)], 0x0, [⟨⟨0, 3⟩, .ro⟩, ⟨⟨3, 1⟩, .ro⟩, ⟨⟨4, 4⟩, .ro⟩, ⟨⟨8, 1⟩, .w1c⟩, ⟨⟨9, 1⟩, .w1c⟩, ⟨⟨10, 1⟩, .w1c⟩, ⟨⟨12, 2⟩, .ro⟩, ⟨⟨14, 1⟩, .ro⟩], .none⟩,
  -- LDL_CHPC (R445)
  ⟨0x5001010, [(0x100000, 4), (0x100, 32)], 0x0, [⟨⟨4, 44⟩, .ro⟩], .none⟩,
  -- LDL_CHERRADDR (R445)
  ⟨0x5001018, [(0x100000, 4), (0x100, 32)], 0x0, [⟨⟨0, 48⟩, .ro⟩], .none⟩,
  -- LDL_CHCNT (R445)
  ⟨0x5001020, [(0x100000, 4), (0x100, 32)], 0x0, [⟨⟨0, 32⟩, .rc⟩, ⟨⟨32, 32⟩, .rc⟩], .none⟩,
  -- LDL_CHWINBASE (R445)
  ⟨0x5001040, [(0x100000, 4), (0x100, 32), (0x18, 4)], 0x0, [⟨⟨0, 1⟩, .rw⟩, ⟨⟨12, 36⟩, .rw⟩], .none⟩,
  -- LDL_CHWINPA (R445)
  ⟨0x5001048, [(0x100000, 4), (0x100, 32), (0x18, 4)], 0x0, [⟨⟨12, 36⟩, .rw⟩], .none⟩,
  -- LDL_CHWINSIZE (R445)
  ⟨0x5001050, [(0x100000, 4), (0x100, 32), (0x18, 4)], 0x0, [⟨⟨12, 36⟩, .rw⟩], .none⟩,
  -- LDL_DBPROG (R450)
  ⟨0x5080000, [(0x100000, 4), (0x1000, 32)], 0x0, [⟨⟨4, 44⟩, .rw⟩], .none⟩,
  -- LDL_DBCMD (R450)
  ⟨0x5080008, [(0x100000, 4), (0x1000, 32)], 0x0, [⟨⟨0, 1⟩, .wo⟩, ⟨⟨1, 1⟩, .wo⟩, ⟨⟨2, 1⟩, .wo⟩, ⟨⟨3, 1⟩, .wo⟩], .none⟩,
  -- LDL_DBSTAT (R449)
  ⟨0x5080010, [(0x100000, 4), (0x1000, 32)], 0x0, [⟨⟨0, 3⟩, .ro⟩, ⟨⟨3, 1⟩, .ro⟩, ⟨⟨4, 4⟩, .ro⟩, ⟨⟨8, 1⟩, .w1c⟩, ⟨⟨9, 1⟩, .w1c⟩, ⟨⟨12, 4⟩, .ro⟩, ⟨⟨32, 32⟩, .ro⟩], .none⟩]
/-- Registers of the Ldl blocks, part 2. -/
def regsLdl2 : List RegDef := [
  -- LDL_DBTPROG (R450)
  ⟨0x5080018, [(0x100000, 4), (0x1000, 32)], 0x0, [⟨⟨4, 44⟩, .rw⟩], .none⟩,
  -- LDL_DBPC (R450)
  ⟨0x5080020, [(0x100000, 4), (0x1000, 32)], 0x0, [⟨⟨4, 44⟩, .ro⟩], .none⟩,
  -- LDL_DBERRADDR (R450)
  ⟨0x5080028, [(0x100000, 4), (0x1000, 32)], 0x0, [⟨⟨0, 48⟩, .ro⟩], .none⟩,
  -- LDL_DBCFG (R450)
  ⟨0x5080030, [(0x100000, 4), (0x1000, 32)], 0x0, [⟨⟨0, 2⟩, .rw⟩, ⟨⟨2, 1⟩, .rw⟩], .none⟩,
  -- LDL_DBIMSET (R450)
  ⟨0x5080038, [(0x100000, 4), (0x1000, 32)], 0x0, [⟨⟨0, 4⟩, .w1s⟩], .none⟩,
  -- LDL_DBIMCLR (R450)
  ⟨0x5080040, [(0x100000, 4), (0x1000, 32)], 0x0, [⟨⟨0, 4⟩, .w1c⟩], .none⟩,
  -- LDL_DBIPEND (R450)
  ⟨0x5080048, [(0x100000, 4), (0x1000, 32)], 0x0, [⟨⟨0, 4⟩, .ro⟩], .none⟩,
  -- LDL_DBEVSET (R450)
  ⟨0x5080050, [(0x100000, 4), (0x1000, 32)], 0x0, [⟨⟨0, 64⟩, .w1s⟩], .none⟩,
  -- LDL_DBEVCLR (R450)
  ⟨0x5080058, [(0x100000, 4), (0x1000, 32)], 0x0, [⟨⟨0, 64⟩, .w1c⟩], .none⟩,
  -- LDL_DBTIDEMISS (R450)
  ⟨0x5080060, [(0x100000, 4), (0x1000, 32)], 0x0, [⟨⟨0, 32⟩, .rc⟩], .none⟩,
  -- LDL_DBREG (R450)
  ⟨0x5080080, [(0x100000, 4), (0x1000, 32), (0x8, 8)], 0x0, [⟨⟨0, 64⟩, .rw⟩], .none⟩]
/-- Registers of the Ldl blocks. -/
def regsLdl : List RegDef := regsLdl1 ++ regsLdl2
/-- Registers of the Irq blocks, part 1. -/
def regsIrq1 : List RegDef := [
  -- IRQ_CTL (R500)
  ⟨0x6000000, [], 0x0, [⟨⟨0, 1⟩, .rw⟩], .none⟩,
  -- IRQ_STAT (R501)
  ⟨0x6000008, [], 0x0, [⟨⟨0, 1⟩, .w1c⟩, ⟨⟨1, 3⟩, .ro⟩, ⟨⟨4, 1⟩, .ro⟩], .none⟩,
  -- IRQ_LATECNT (R500)
  ⟨0x6000010, [], 0x0, [⟨⟨0, 32⟩, .rc⟩], .none⟩,
  -- IRQ_REFUSECNT (R500)
  ⟨0x6000018, [], 0x0, [⟨⟨0, 32⟩, .rc⟩], .none⟩,
  -- IRQ_POSTFLAG (R500)
  ⟨0x6000020, [], 0x0, [⟨⟨0, 64⟩, .w1c⟩], .none⟩,
  -- IRQ_PDISC (R500)
  ⟨0x6000028, [], 0x0, [⟨⟨0, 6⟩, .rw⟩, ⟨⟨8, 1⟩, .sc⟩], .none⟩,
  -- IRQ_ENSET (R500)
  ⟨0x6001000, [(0x8, 128)], 0x0, [⟨⟨0, 64⟩, .w1s⟩], .none⟩,
  -- IRQ_ENCLR (R500)
  ⟨0x6001400, [(0x8, 128)], 0x0, [⟨⟨0, 64⟩, .w1c⟩], .none⟩,
  -- IRQ_PENDSET (R500)
  ⟨0x6001800, [(0x8, 128)], 0x0, [⟨⟨0, 64⟩, .w1s⟩], .none⟩,
  -- IRQ_PENDCLR (R500)
  ⟨0x6001C00, [(0x8, 128)], 0x0, [⟨⟨0, 64⟩, .w1c⟩], .none⟩,
  -- IRQ_VCORE (R501)
  ⟨0x6002000, [(0x8, 128)], 0x0, [⟨⟨0, 1⟩, .rw⟩, ⟨⟨8, 6⟩, .rw⟩, ⟨⟨16, 7⟩, .rw⟩], .none⟩,
  -- IRQ_OFFER (R501)
  ⟨0x6002400, [(0x8, 128)], 0x0, [⟨⟨0, 13⟩, .ro⟩, ⟨⟨16, 1⟩, .ro⟩, ⟨⟨32, 13⟩, .ro⟩, ⟨⟨48, 1⟩, .ro⟩], .none⟩,
  -- IRQ_PTBASE (R501)
  ⟨0x6002800, [(0x20, 64)], 0x0, [⟨⟨0, 5⟩, .rw⟩, ⟨⟨5, 1⟩, .rw⟩, ⟨⟨6, 42⟩, .rw⟩], .none⟩,
  -- IRQ_PTHEAD (R501)
  ⟨0x6002808, [(0x20, 64)], 0x0, [⟨⟨0, 32⟩, .ro⟩], .none⟩,
  -- IRQ_PTTAIL (R501)
  ⟨0x6002810, [(0x20, 64)], 0x0, [⟨⟨0, 32⟩, .rw⟩], .none⟩,
  -- IRQ_PTSTAT (R501)
  ⟨0x6002818, [(0x20, 64)], 0x0, [⟨⟨0, 1⟩, .w1c⟩, ⟨⟨1, 1⟩, .w1c⟩], .none⟩]
/-- Registers of the Irq blocks, part 2. -/
def regsIrq2 : List RegDef := [
  -- IRQ_CFG (R501)
  ⟨0x6100000, [(0x8, 8192)], 0x1F00, [⟨⟨0, 3⟩, .rw⟩, ⟨⟨3, 1⟩, .ro⟩, ⟨⟨4, 1⟩, .rw⟩, ⟨⟨8, 5⟩, .rw⟩, ⟨⟨16, 1⟩, .rw⟩, ⟨⟨24, 7⟩, .rw⟩, ⟨⟨32, 6⟩, .rw⟩, ⟨⟨40, 7⟩, .rw⟩, ⟨⟨48, 1⟩, .ro⟩, ⟨⟨49, 1⟩, .ro⟩, ⟨⟨50, 1⟩, .ro⟩, ⟨⟨56, 8⟩, .ro⟩], .none⟩,
  -- IRQ_SWSEND (R498)
  ⟨0x6800000, [(0x1000, 128)], 0x0, [⟨⟨0, 64⟩, .wo⟩], .none⟩]
/-- Registers of the Irq blocks. -/
def regsIrq : List RegDef := regsIrq1 ++ regsIrq2
/-- Registers of the Pwr blocks, part 1. -/
def regsPwr1 : List RegDef := [
  -- PWR_CHIPCTL (R584)
  ⟨0x7000000, [], 0x0, [⟨⟨0, 2⟩, .sc⟩, ⟨⟨2, 1⟩, .w1c⟩, ⟨⟨3, 3⟩, .ro⟩, ⟨⟨8, 2⟩, .ro⟩, ⟨⟨10, 1⟩, .w1c⟩], .none⟩,
  -- PWR_NEAPKEEP (R584)
  ⟨0x7000008, [], 0x0, [⟨⟨0, 64⟩, .rw⟩], .none⟩,
  -- PWR_NEAPKEEPIO (R585)
  ⟨0x7000010, [], 0x0, [⟨⟨0, 12⟩, .rw⟩, ⟨⟨12, 2⟩, .rw⟩, ⟨⟨14, 4⟩, .rw⟩, ⟨⟨18, 1⟩, .rw⟩], .none⟩,
  -- PWR_AVSCTL (R585)
  ⟨0x7000018, [], 0x2D00000, [⟨⟨0, 12⟩, .rw⟩, ⟨⟨16, 12⟩, .rw⟩, ⟨⟨31, 1⟩, .sc⟩], .none⟩,
  -- PWR_AVSSTAT (R585)
  ⟨0x7000020, [], 0x0, [⟨⟨0, 12⟩, .ro⟩, ⟨⟨12, 1⟩, .ro⟩, ⟨⟨13, 1⟩, .w1c⟩, ⟨⟨14, 1⟩, .w1c⟩], .none⟩,
  -- PWR_THCFG (R585)
  ⟨0x7000028, [], 0x1596918C, [⟨⟨0, 8⟩, .rw⟩, ⟨⟨8, 8⟩, .rw⟩, ⟨⟨16, 8⟩, .rw⟩, ⟨⟨24, 4⟩, .rw⟩, ⟨⟨28, 1⟩, .rw⟩, ⟨⟨29, 2⟩, .rw⟩], .none⟩,
  -- PWR_THSTAT (R585)
  ⟨0x7000030, [], 0x0, [⟨⟨0, 16⟩, .ro⟩, ⟨⟨16, 7⟩, .ro⟩, ⟨⟨24, 1⟩, .ro⟩, ⟨⟨25, 1⟩, .ro⟩, ⟨⟨26, 1⟩, .ro⟩, ⟨⟨27, 1⟩, .w1c⟩], .none⟩,
  -- PWR_DOM (R585)
  ⟨0x7001000, [(0x8, 225)], 0x4, [⟨⟨0, 2⟩, .rw⟩, ⟨⟨2, 1⟩, .rw⟩, ⟨⟨3, 1⟩, .w1c⟩, ⟨⟨4, 3⟩, .ro⟩, ⟨⟨8, 3⟩, .ro⟩, ⟨⟨11, 1⟩, .w1c⟩], .none⟩,
  -- AON_WAKEPOL (R586)
  ⟨0x7800000, [], 0x0, [⟨⟨0, 8⟩, .rw⟩], .none⟩,
  -- AON_WAKEEN (R586)
  ⟨0x7800008, [], 0x0, [⟨⟨0, 8⟩, .rw⟩, ⟨⟨8, 1⟩, .rw⟩, ⟨⟨9, 1⟩, .rw⟩], .none⟩,
  -- AON_WAKECAUSE (R586)
  ⟨0x7800010, [], 0x0, [⟨⟨0, 13⟩, .w1c⟩], .none⟩,
  -- AON_WAKETIME (R586)
  ⟨0x7800018, [], 0x0, [⟨⟨0, 64⟩, .ro⟩], .none⟩,
  -- AON_ALARM (R586)
  ⟨0x7800020, [], 0x0, [⟨⟨0, 64⟩, .rw⟩], .none⟩,
  -- AON_RESUMEPC (R586)
  ⟨0x7800028, [], 0x0, [⟨⟨2, 62⟩, .rw⟩], .none⟩,
  -- AON_CYCTIME (R586)
  ⟨0x7800400, [(0x8, 128)], 0x0, [⟨⟨0, 64⟩, .ro⟩], .none⟩,
  -- AON_CYCLATCH (R586)
  ⟨0x7800800, [(0x8, 2)], 0x0, [⟨⟨0, 64⟩, .ro⟩], .none⟩]
/-- Registers of the Pwr blocks. -/
def regsPwr : List RegDef := regsPwr1
/-- Registers of the Hif blocks, part 1. -/
def regsHif1 : List RegDef := [
  -- HIF_BIFCFG (R630)
  ⟨0x8000000, [], 0x0, [⟨⟨0, 1⟩, .rwl⟩, ⟨⟨1, 1⟩, .rwl⟩, ⟨⟨2, 1⟩, .rwl⟩, ⟨⟨3, 1⟩, .rwl⟩, ⟨⟨4, 1⟩, .rwl⟩, ⟨⟨5, 1⟩, .rwl⟩, ⟨⟨31, 1⟩, .w1s⟩], .self 31⟩,
  -- HIF_MSGCNT (R630)
  ⟨0x8000008, [], 0x0, [⟨⟨0, 32⟩, .rc⟩, ⟨⟨32, 32⟩, .rc⟩], .none⟩,
  -- HIF_PCTL (R631)
  ⟨0x8001000, [(0x100, 8)], 0x95, [⟨⟨0, 3⟩, .rw⟩, ⟨⟨3, 1⟩, .rw⟩, ⟨⟨4, 4⟩, .rw⟩, ⟨⟨8, 1⟩, .rw⟩, ⟨⟨9, 1⟩, .rw⟩, ⟨⟨10, 1⟩, .rw⟩, ⟨⟨11, 1⟩, .sc⟩], .none⟩,
  -- HIF_PSTAT (R631)
  ⟨0x8001008, [(0x100, 8)], 0x0, [⟨⟨0, 3⟩, .ro⟩, ⟨⟨3, 5⟩, .ro⟩, ⟨⟨8, 1⟩, .ro⟩, ⟨⟨9, 1⟩, .w1c⟩, ⟨⟨10, 1⟩, .w1c⟩, ⟨⟨11, 1⟩, .ro⟩], .none⟩,
  -- HIF_PCNT (R630)
  ⟨0x8001010, [(0x100, 8)], 0x0, [⟨⟨0, 16⟩, .rc⟩, ⟨⟨16, 16⟩, .rc⟩, ⟨⟨32, 16⟩, .rc⟩], .none⟩,
  -- HIF_RQCFG (R631)
  ⟨0x8010000, [(0x100, 256)], 0x0, [⟨⟨0, 16⟩, .rw⟩, ⟨⟨16, 16⟩, .rw⟩, ⟨⟨32, 6⟩, .rw⟩, ⟨⟨40, 1⟩, .rw⟩, ⟨⟨41, 1⟩, .ro⟩, ⟨⟨42, 1⟩, .w1c⟩, ⟨⟨43, 4⟩, .ro⟩], .none⟩,
  -- HIF_RQWINBASE (R630)
  ⟨0x8010008, [(0x100, 256), (0x18, 8)], 0x0, [⟨⟨0, 1⟩, .rw⟩, ⟨⟨12, 36⟩, .rw⟩], .none⟩,
  -- HIF_RQWINPA (R630)
  ⟨0x8010010, [(0x100, 256), (0x18, 8)], 0x0, [⟨⟨12, 36⟩, .rw⟩], .none⟩,
  -- HIF_RQWINSIZE (R630)
  ⟨0x8010018, [(0x100, 256), (0x18, 8)], 0x0, [⟨⟨12, 36⟩, .rw⟩], .none⟩,
  -- HIF_MSIMAP (R630)
  ⟨0x8020000, [(0x8, 4096)], 0x0, [⟨⟨0, 16⟩, .rw⟩, ⟨⟨16, 1⟩, .rw⟩], .none⟩,
  -- HIF_FAULTSTAT (R631)
  ⟨0x8030000, [], 0x0, [⟨⟨0, 16⟩, .ro⟩, ⟨⟨16, 4⟩, .ro⟩, ⟨⟨20, 3⟩, .ro⟩, ⟨⟨23, 1⟩, .w1c⟩], .none⟩,
  -- HIF_FAULTADDR (R630)
  ⟨0x8030008, [], 0x0, [⟨⟨0, 64⟩, .ro⟩], .none⟩,
  -- HIF_FAULTCNT (R630)
  ⟨0x8030010, [], 0x0, [⟨⟨0, 32⟩, .rc⟩], .none⟩]
/-- Registers of the Hif blocks. -/
def regsHif : List RegDef := regsHif1
/-- Registers of the Err blocks, part 1. -/
def regsErr1 : List RegDef := [
  -- ERR_CTL (R561)
  ⟨0x9000000, [], 0xFF, [⟨⟨0, 8⟩, .rw⟩], .none⟩,
  -- ERR_LINESTAT (R561)
  ⟨0x9000008, [], 0x0, [⟨⟨0, 8⟩, .w1c⟩], .none⟩,
  -- ERR_LOGHEAD (R561)
  ⟨0x9000010, [], 0x0, [⟨⟨0, 32⟩, .ro⟩], .none⟩,
  -- ERR_LOGTAIL (R561)
  ⟨0x9000018, [], 0x0, [⟨⟨0, 32⟩, .rw⟩], .none⟩,
  -- ERR_LOGDROP (R561)
  ⟨0x9000020, [], 0x0, [⟨⟨0, 32⟩, .rc⟩], .none⟩,
  -- ERR_STCTL (R562)
  ⟨0x9000028, [], 0x0, [⟨⟨0, 9⟩, .rw⟩, ⟨⟨16, 1⟩, .sc⟩, ⟨⟨17, 1⟩, .w1c⟩], .none⟩,
  -- ERR_STSTAT (R562)
  ⟨0x9000030, [], 0x0, [⟨⟨0, 1⟩, .ro⟩, ⟨⟨1, 1⟩, .w1c⟩, ⟨⟨16, 16⟩, .ro⟩], .none⟩,
  -- ERR_INJCTL (R562)
  ⟨0x9000038, [], 0x0, [⟨⟨0, 9⟩, .rw⟩, ⟨⟨12, 3⟩, .rw⟩, ⟨⟨16, 4⟩, .rw⟩, ⟨⟨20, 2⟩, .rw⟩, ⟨⟨24, 8⟩, .rw⟩, ⟨⟨32, 1⟩, .sc⟩, ⟨⟨33, 1⟩, .sc⟩, ⟨⟨34, 1⟩, .w1c⟩, ⟨⟨35, 4⟩, .ro⟩, ⟨⟨40, 1⟩, .w1s⟩], .none⟩,
  -- ERR_INJADDR (R561)
  ⟨0x9000040, [], 0x0, [⟨⟨0, 48⟩, .rw⟩], .none⟩,
  -- ERR_INJTIME (R561)
  ⟨0x9000048, [], 0x0, [⟨⟨0, 64⟩, .rw⟩], .none⟩,
  -- ERR_INJSTAT (R561)
  ⟨0x9000050, [], 0x0, [⟨⟨0, 8⟩, .ro⟩, ⟨⟨8, 1⟩, .ro⟩], .none⟩,
  -- ERR_OVERSUM (R561)
  ⟨0x9000100, [(0x8, 8)], 0x0, [⟨⟨0, 64⟩, .ro⟩], .none⟩,
  -- ERR_UESUM (R561)
  ⟨0x9000140, [(0x8, 8)], 0x0, [⟨⟨0, 64⟩, .ro⟩], .none⟩,
  -- ERR_REC (R553)
  ⟨0x9010000, [(0x20, 128), (0x8, 4)], 0x0, [⟨⟨0, 64⟩, .ro⟩], .none⟩,
  -- ERR_BKT (R562)
  ⟨0x9100000, [(0x40, 512), (0x8, 8)], 0x1100A00, [⟨⟨0, 8⟩, .ro⟩, ⟨⟨8, 5⟩, .rw⟩, ⟨⟨16, 8⟩, .rw⟩, ⟨⟨24, 1⟩, .rw⟩, ⟨⟨25, 1⟩, .w1c⟩, ⟨⟨32, 32⟩, .rc⟩], .none⟩,
  -- ERR_USTAT (R562)
  ⟨0x9200000, [(0x20, 512)], 0x0, [⟨⟨0, 1⟩, .w1c⟩, ⟨⟨1, 1⟩, .w1c⟩, ⟨⟨2, 1⟩, .w1c⟩, ⟨⟨3, 1⟩, .ro⟩, ⟨⟨4, 1⟩, .ro⟩, ⟨⟨8, 3⟩, .ro⟩, ⟨⟨12, 4⟩, .ro⟩, ⟨⟨16, 6⟩, .ro⟩, ⟨⟨22, 2⟩, .ro⟩, ⟨⟨24, 1⟩, .ro⟩], .none⟩]
/-- Registers of the Err blocks, part 2. -/
def regsErr2 : List RegDef := [
  -- ERR_UADDR (R561)
  ⟨0x9200008, [(0x20, 512)], 0x0, [⟨⟨0, 48⟩, .ro⟩], .none⟩,
  -- ERR_UTIME (R561)
  ⟨0x9200010, [(0x20, 512)], 0x0, [⟨⟨0, 64⟩, .ro⟩], .none⟩,
  -- ERR_UCNT (R561)
  ⟨0x9200018, [(0x20, 512)], 0x0, [⟨⟨0, 16⟩, .rc⟩, ⟨⟨16, 16⟩, .rc⟩, ⟨⟨32, 16⟩, .rc⟩, ⟨⟨48, 16⟩, .rc⟩], .none⟩]
/-- Registers of the Err blocks. -/
def regsErr : List RegDef := regsErr1 ++ regsErr2
/-- The registers of the block (R30, R31) that an offset lies in. -/
def regBlock (off : Nat) : List RegDef :=
  if off < 0x10000 then regsChip
  else if off < 0x20000 then regsSvc
  else if off < 0x30000 then regsId
  else if off < 0x400000 then regsPrt
  else if off < 0x1000000 then regsRtr
  else if off < 0x2000000 then regsTile
  else if off < 0x3000000 then regsMc
  else if off < 0x5000000 then regsFe
  else if off < 0x6000000 then regsLdl
  else if off < 0x7000000 then regsIrq
  else if off < 0x8000000 then regsPwr
  else if off < 0x9000000 then regsHif
  else if off < 0xA000000 then regsErr
  else []

/-- Whether a distance from a row's base is one of its instances. -/
def inDims : Nat → List (Nat × Nat) → Bool
  | d, [] => d == 0
  | d, (stride, count) :: r => (d / stride < count && inDims (d % stride) r)

/-- The row that an offset belongs to. -/
def findReg : List RegDef → Nat → Option RegDef
  | [], _ => none
  | d :: r, off => if d.base ≤ off ∧ inDims (off - d.base) d.dims = true then some d else findReg r off

/-- The register at an offset, where there is one (R17: other offsets of a decoded block are reserved). -/
def regDef (off : Nat) : Option RegDef := findReg (regBlock off) off

/-- The endpoint kind that sits at endpoint `e` of router `r` (RTR_EPCTL.KIND, R302); 0 where there is none. -/
def epKind (r e : Nat) : Nat :=
  if 8 ≤ r ∧ r < 72 then (if e < 2 then 1 else if e = 2 then 2 else if e = 3 then 3 else 0)
  else if r < 6 ∨ (72 ≤ r ∧ r < 78) then (if e = 0 then 4 else 0)
  else if r = 6 ∨ r = 78 then (if e = 0 then 5 else if e < 3 then 6 else 0)
  else if r = 7 then (if e = 0 then 7 else 0)
  else if r = 79 then (if e = 0 then 8 else 0)
  else 0

end Sys2Proof.Machine
end

