-- ==== Sys2Proof/Machine/State.lean ====
section
/-!
DEFINITION. The state of the block as plain data: every register, queue, buffer, table and mode that chapters 00 to 25 give it, the messages in
flight between its units, and the queue of waiting commands. A register of a register map lives in `State.regs` under its control-space offset;
what software cannot see as a register has a structure of its own. Fault, Refusal and the state after reset stand at the end.
-/
namespace Sys2Proof.Machine

/-! ### Cores (chapters 02 to 08) -/

/-- The privilege levels (R155), lowest first. -/
inductive Level where
  | u | s | h | f
  deriving DecidableEq, Repr

/-- What a core is doing, from the power states of chapter 21 and R188, R546, R597. -/
inductive RunState where
  /-- executing -/
  | run
  /-- HALT: handshakes idle, state kept (R184) -/
  | halt
  /-- held in reset until a release (R596, R597) -/
  | held
  /-- RETAIN: state at retention voltage -/
  | retain
  /-- OFF: state lost -/
  | off
  /-- core checkstop (R188) -/
  | checkstop
  /-- pair halt (R546) -/
  | pairHalt
  /-- stopped by a CORE reset whose drains and ebb are under way (R595) -/
  | resetting
  deriving DecidableEq, Repr

/-- Regions of the physical address map (R24). -/
inductive Region where
  | dram
  | pcie
  | sharedCast (t : Nat)
  | coreCast (n : Nat)
  | mailbox (e : Nat)
  | control
  | undecoded
  deriving DecidableEq, Repr

/-- An entry of the store queue or store buffer (R78, R125): up to 64 bytes within one line. -/
structure StEnt where
  pa : Nat
  bytes : List Byte
  /-- poisoned or uncorrectable bytes (R535) -/
  poison : List Bool := []
  /-- the partition tag it has carried since it issued (R298, R537) -/
  part : Nat := 0
  /-- the step it was issued in (slack water, R125) -/
  issued : Nat := 0
  /-- it has been sent to an unbounded target and waits for its acknowledgement (R127) -/
  sent : Bool := false
  /-- it shares the entry of the piece before it: an entry holds up to 32 bytes of one line (R125), with gaps where a vector store has them -/
  cont : Bool := false
  deriving DecidableEq, Repr

/-- A load that waits for its target (R76, R82, R121). -/
structure LdWait where
  dest : LdDest
  pa : Nat
  /-- width in bytes of the first part, and the second part of a split load (R87) -/
  width : Nat
  pa2 : Nat := 0
  width2 : Nat := 0
  va : Word := 0
  sx : Bool := false
  /-- the pc of the load, for a fault that the answer brings (R227, R297), and its length -/
  pc : Word := 0
  len : Nat := 4
  /-- the step it issued in, and its longest latency where the access is bounded (R119), 0 where it is not -/
  issued : Nat := 0
  maxLat : Nat := 0
  /-- the load reserves its line at completion (LR) -/
  lr : Bool := false
  /-- TWP waiting for its entry (R207) -/
  twp : Bool := false
  deriving DecidableEq, Repr

/-- An AMO or SC that waits for its DRAM line to reach M (R84, R85). -/
structure AmoWait where
  /-- none for an SC -/
  op : Option AmoOp
  rd : Nat
  pa : Nat
  width : Nat
  src : Word
  deriving DecidableEq, Repr

/-- An access from a core to control space or a PCIe window that its target has not answered (R29, R79). -/
structure DevWait where
  pa : Nat
  width : Nat
  value : Word
  va : Word := 0
  len : Nat := 4
  deriving DecidableEq, Repr

/-- An entry of the L2 TLB (R194, R199). -/
structure TlbE where
  owner : Owner
  asid : Nat
  g : Bool
  size : Nat
  /-- virtual page: address bits above the page size's shift -/
  vpn : Nat
  r : Bool
  w : Bool
  x : Bool
  u : Bool
  d : Bool
  /-- the 4 KiB frame number as stored (bits [47:12] of the word) -/
  ppn : Nat
  lock : Bool
  deriving DecidableEq, Repr

/-- An entry of the stage-2 TLB (R194, R203). -/
structure S2E where
  part : Nat
  size : Nat
  gpn : Nat
  r : Bool
  w : Bool
  x : Bool
  ppn : Nat
  lock : Bool
  deriving DecidableEq, Repr

/-- A copy in an L1 ITLB or L1 DTLB: the way and set of the entries it was built from (R197). -/
structure L1Copy where
  /-- key of the L2 TLB entry, where stage 1 was in effect -/
  src1 : Option Nat
  /-- key of the stage-2 entry, where stage 2 was in effect -/
  src2 : Option Nat
  deriving DecidableEq, Repr

/-- The five states of an L2 line (R251). -/
inductive Mesif where
  | i | s | f | e | m
  deriving DecidableEq, Repr

/-- A DRAM line in an L2 (R218, R250). -/
structure L2Line where
  st : Mesif := .i
  way : Nat := 0
  data : Line := 0
  /-- poisoned bytes -/
  poison : Word := 0
  deriving DecidableEq, Repr

/-- A line in the eviction buffer of an L2 (R257, R259). -/
structure EvLine where
  dirty : Bool
  data : Line
  poison : Word
  superseded : Bool := false
  deriving DecidableEq, Repr

/-- The coherent requests an L2 sends (R253). -/
inductive ReqKind where
  | rds | rdx | upg
  deriving DecidableEq, Repr

/-- An L2's outstanding request for a line (R261). -/
structure L2Req where
  kind : ReqKind
  /-- times it has been resent -/
  n : Nat := 0
  /-- the backoff hint of the last Retry, while the request waits to be sent again -/
  backoff : Option Nat := none
  deriving DecidableEq, Repr

/-- What a pace switch is switching to (R59). -/
structure PaceSw where
  slack : Bool
  rateB : Bool
  /-- the selected stream ended meanwhile: the switch completes into flood with a machine check of KIND 0x04 (R55) -/
  lost : Bool := false
  deriving DecidableEq, Repr

/-- Pair entry in progress on the left core of a tile (R71). -/
structure PairCopy where
  /-- cast lines copied so far -/
  lines : Nat := 0
  deriving DecidableEq, Repr

/-- What an entry is for (R176). -/
inductive EntryKind where
  | exception
  /-- interrupt: code, distributor source, edge number of the offer entered for -/
  | interrupt (code src num : Nat)
  | machineCheck
  deriving DecidableEq, Repr

/-- Machine-check details (R186). -/
structure McInfo where
  kind : Nat
  sync : Bool
  addrv : Bool
  addr : Nat
  level : Nat
  scope : Nat
  part : Nat
  deriving DecidableEq, Repr

/-- A trap or interrupt entry in progress: the entry latch of R176 and the choices of step 0. -/
structure EntrySt where
  kind : EntryKind
  target : Level
  /-- the level it came from (P of R172) -/
  from_ : Level
  cause : Word
  tval : Word
  tinfo : Word
  epc : Word
  prio : Nat := 0
  /-- past the point of no return: the slot offset that was written (R176, step 20) -/
  slot : Option Nat := none
  mc : Option McInfo := none
  /-- store-buffer entries that left before the slot was written: they are performed after it (R179) -/
  late : List StEnt := []
  deriving DecidableEq, Repr

/-- An offer a core holds (R484, R489). -/
structure Offer where
  code : Nat
  src : Nat
  prio : Nat
  num : Nat := 0
  /-- a direct offer of a fast-station source (R489) -/
  direct : Bool := false
  deriving DecidableEq, Repr

/-- An outstanding TLBIB of a core (R213): the cores that have not acknowledged. -/
structure TlbibWait where
  waiting : List Nat
  deriving DecidableEq, Repr

/-- An entry of a tagged prediction table or of the BTB (R135). -/
structure PredE where
  tag : Nat := 0
  ctr : Nat := 0
  useful : Nat := 0
  target : Word := 0
  kind : Nat := 0
  deriving DecidableEq, Repr

/-- The predictor of a core (R135 to R154). -/
structure Pred where
  /-- 256 keys of 24 bits, at 4 × partition + level number (R135); an unlisted one is the key since the last CHIP or PWR reset -/
  keys : Tbl (BitVec 24) := []
  base : Tbl Nat := []
  /-- T1 to T6, at 2048 × table + index -/
  tagged : Tbl PredE := []
  btb : Tbl PredE := []
  hist : BitVec 256 := 0
  histRet : BitVec 256 := 0
  /-- return stack, newest first, at most 32 -/
  rstack : List Word := []
  rstackRet : List Word := []
  /-- retired conditional branches since the useful counters were last halved (R139) -/
  branches : Nat := 0
  /-- a regenerated current-context key waits: its slot, its value, retirements left (R148) -/
  newKey : Option (Nat × BitVec 24 × Nat) := none
  deriving DecidableEq, Repr

/-- What slack-water issue depends on beyond the registers (R105 to R110, R121 to R128). -/
structure Slack where
  /-- the step of the youngest issued instruction -/
  step : Nat := 0
  /-- slot 1 of that step is still open -/
  open1 : Bool := false
  /-- first step in which the next slot-0 instruction may issue -/
  hold : Nat := 0
  /-- registers the slot-0 instruction writes: x at 0, f at 32, v at 64 -/
  prevDst : List Nat := []
  prevMem : Bool := false
  prevArith : Bool := false
  /-- step from which each register's result is available -/
  board : Tbl Nat := []
  /-- first step in which a memory access may issue (R128) -/
  memHold : Nat := 0
  /-- step of the last mailbox store (R122), plus one; 0 none -/
  lastMbx : Nat := 0
  /-- step in which the last store-buffer entry left (R125) -/
  lastLeft : Nat := 0
  deriving DecidableEq, Repr

/-- An application core with its private caches and translation buffers. -/
structure Core where
  run : RunState := .held
  level : Level := .f
  pc : Word := 0
  x : Tbl Word := []
  fr : Tbl Word := []
  vr : Tbl (BitVec 256) := []
  /-- control and status registers by number, those of R159 and of the unprivileged ISA -/
  csr : Tbl Word := []
  slack : Slack := {}
  /-- store queue (flood) or store buffer (slack water), oldest first -/
  stores : List StEnt := []
  loads : List LdWait := []
  amos : List AmoWait := []
  devs : List DevWait := []
  /-- shared-cast stores sent and not acknowledged (R119, R129) -/
  castAcks : Nat := 0
  /-- mailbox stores sent and not yet received by an engine (R268): engine numbers -/
  mbxSent : List Nat := []
  /-- LR reservation: line number (R85) -/
  resv : Option Nat := none
  /-- instructions retired since the LR (R85) -/
  resvAge : Nat := 0
  /-- entry in progress (R176) -/
  entry : Option EntrySt := none
  /-- offers held (R484) -/
  offers : List Offer := []
  /-- an asynchronous machine check that waits for an instruction boundary -/
  mcPending : Option McInfo := none
  /-- a pace slip whose 0x15 waits for a boundary (R66, R67) -/
  slipPending : Bool := false
  /-- between the start of an entry for 0x15 and the return of its handler (R67): the number of slots still to return -/
  slipDepth : Option Nat := none
  switch : Option PaceSw := none
  pairCopy : Option PairCopy := none
  tlb : Tbl (Option TlbE) := []
  s2 : Tbl (Option S2E) := []
  itlb : List L1Copy := []
  dtlb : List L1Copy := []
  tlbib : Option TlbibWait := none
  /-- received invalidations whose acknowledgement waits for stores to drain -/
  tlbRecv : List TlbInv := []
  /-- L1I lines: their numbers; an instruction comes with its command, so their bytes are not kept (notes/assumptions/10.md) -/
  l1i : List Nat := []
  /-- L1D lines: their numbers; their bytes are the L2's (R219) -/
  l1d : List Nat := []
  l2 : Tbl L2Line := []
  evb : Tbl (Option EvLine) := []
  req : Tbl (Option L2Req) := []
  pred : Pred := {}
  deriving DecidableEq, Repr

/-! ### Range maintenance engines (chapter 08) -/

/-- A queued maintenance request (R232, R234). -/
structure MntReq where
  op : Nat
  tag : Nat
  addr : Nat
  len : Nat
  deriving DecidableEq, Repr

/-! ### Slices and directories (chapter 09) -/

/-- A line in the uncast ways of a slice (R248). -/
structure SlLine where
  way : Nat
  dirty : Bool
  data : Line
  poison : Word
  deriving DecidableEq, Repr

/-- A directory entry (R250). -/
structure DirE where
  line : Nat
  em : Bool
  sharers : BitVec 128
  fcore : Option Nat
  deriving DecidableEq, Repr

/-- Who asks the home, and for what (R253, R254). -/
inductive HomeReq where
  /-- a core's RdS, RdX or Upg with its retry count and partition tag -/
  | core (k : ReqKind) (c n part : Nat)
  /-- a device read by unit `src` -/
  | devRd (src : Nat)
  /-- a device write: byte mask and bytes in line position -/
  | devWr (src : Nat) (mask : Word) (data : Line) (poison : Word) (part : Nat)
  deriving DecidableEq, Repr

/-- An open transaction of a line (R254, R256). -/
structure Txn where
  req : HomeReq
  /-- cores whose snoop answers are awaited -/
  await : List Nat := []
  /-- data still has to reach the home (SnpD, SnpR, SnpF of an M copy) -/
  needData : Bool := false
  /-- the core that a forward snoop asks to supply the requester, until it has -/
  fwd : Option Nat := none
  /-- the owner the entry named when the transaction opened (R258) -/
  owner : Option Nat := none
  /-- the state the requester is given, and whether it already has the data (R254, a sharer's Upg) -/
  give : Mesif := .m
  grant : Bool := false
  /-- Data or Grant has been sent to the requester -/
  sent : Bool := false
  /-- and the requester has received it -/
  got : Bool := false
  /-- a victimisation: the directory key it frees, for a new line and its request -/
  victimFor : Option (Nat × Nat × HomeReq) := none
  /-- the request waits for a victimisation of another line (R260) -/
  waitsWay : Bool := false
  /-- served in broadcast mode (R264) -/
  bcast : Bool := false
  deriving DecidableEq, Repr

/-- A request or notice waiting at a home for an open transaction, a claim or a home-set change. -/
structure HomeWait where
  line : Nat
  req : HomeReq
  deriving DecidableEq, Repr

/-- A shared-cache slice with its directory slice. -/
structure Slice where
  lines : Tbl (Option SlLine) := []
  /-- directory entries at 16 × set + way -/
  dir : Tbl (Option DirE) := []
  txns : Tbl (Option Txn) := []
  waitq : List HomeWait := []
  /-- promoted requests waiting, oldest first (R262) -/
  promo : List HomeWait := []
  /-- sets whose way 15 is claimed (R262) -/
  claims : List Nat := []
  /-- sets in broadcast mode (R264) -/
  bcast : List Nat := []
  /-- sets failed (R266) -/
  failed : List Nat := []
  /-- the set being rebuilt and the cores that have not reported -/
  rebuild : Option (Nat × List Nat) := none
  /-- sets waiting for a rebuild -/
  rebuildQ : List Nat := []
  mnt : List MntReq := []
  deriving DecidableEq, Repr

/-! ### The Tideway (chapter 10) -/

/-- Snoops (R252, R253). -/
inductive Snp where
  | f | x | i | d | r
  deriving DecidableEq, Repr

/-- An input block or header that a field engine writes (R362, R363, R417). -/
structure InputBlk where
  /-- local station -/
  station : Nat
  /-- the input image, none for a fast station's block in core `core`'s window -/
  img : Option Nat
  core : Nat := 0
  off : Nat
  part : Nat
  bytes : List Byte
  /-- poison marks of its first bytes (R536) -/
  poison : List Bool := []
  /-- a MISSING or LOST header, not an input -/
  header : Bool := false
  /-- a fast station: lane timestamp of the input, its edge number, and whether a direct message follows (R418, R489) -/
  stamp : Nat := 0
  num : Nat := 0
  direct : Bool := false
  deriving DecidableEq, Repr

/-- An output or substitute read under way (R371, R382). -/
structure SendRd where
  station : Nat
  cycle : Nat
  stamp : Nat
  addr : Nat
  len : Nat
  subst : Bool
  /-- the frame answers a fast station's SEND: a frame it supersedes counts (R430) -/
  fast : Bool := false
  /-- lane timestamp of the input whose loop it closes -/
  meas : Option Nat := none
  /-- the breakwater refused the request (R297, R298) -/
  refused : Bool := false
  deriving DecidableEq, Repr

/-- Messages in flight on the Tideway: sent by one step, received by a later command. -/
inductive Msg where
  /-- RdS, RdX, Upg of core `c` to home slice `h`, resent `n` times, partition tag `part` (R253, R261) -/
  | req (h line c : Nat) (k : ReqKind) (n part : Nat)
  | evc (h line c : Nat)
  | evd (h line c : Nat) (data : Line) (poison : Word)
  | devRd (h line src part : Nat)
  | devWr (h line src : Nat) (mask : Word) (data : Line) (poison : Word) (part : Nat)
  /-- snoop of kind `k` to core `c` on behalf of requester `q` -/
  | snp (k : Snp) (h line c q : Nat)
  | prb (h set c : Nat)
  | prbReport (h set c : Nat)
  /-- data to a core's L2 with the granted state -/
  | data (c line : Nat) (granted : Mesif) (d : Line) (poison : Word)
  /-- data to the home, from a downgrade, a recall or a forward of an M copy -/
  | dataHome (h line c : Nat) (d : Line) (poison : Word) (dirty : Bool)
  /-- data to a device -/
  | dataDev (src line : Nat) (d : Line) (poison : Word)
  | ackDev (src line : Nat)
  | invAck (h line c : Nat)
  | grant (c line : Nat)
  | evictAck (c line : Nat)
  | retry (c line b : Nat)
  /-- a distributor offer, or a direct message of a field engine (`direct`) -/
  | offer (c code src prio num : Nat) (direct : Bool)
  | withdraw (c src : Nat)
  | acceptance (c code src num : Nat)
  | withdrawAck (c src : Nat)
  | edgeNote (src num : Nat)
  | sourceEdge (src : Nat)
  /-- a posting entry of partition `p` written at `addr` -/
  | posting (p addr : Nat) (entry : Word)
  | tlbib (c : Nat) (inv : TlbInv)
  | tlbibAck (issuer c : Nat)
  | partReset (p c : Nat)
  | partResetAck (p c : Nat)
  /-- a fence-map change of endpoint `ep` on its way to router `r` -/
  | fenceMap (r ep state : Nat)
  /-- a marker of router `r` in class `cls` to endpoint `ep` -/
  | marker (r ep cls : Nat)
  /-- a negative acknowledgement on link `l` of router `r` -/
  | nak (r l : Nat)
  /-- a store of core `c` to the field mailbox space of engine `e` -/
  | mailbox (e c off width : Nat) (value : Word) (part : Nat)
  /-- a store of core `c` to the shared cast window, to be acknowledged by the slice -/
  | castStore (c pa : Nat) (bytes : List Byte)
  /-- an input block or input header of engine `e` on its way to memory (R362, R417) -/
  | input (e : Nat) (b : InputBlk)
  /-- a read of output or substitute bytes in cast memory, as its request (R371) -/
  | sendRead (e : Nat) (r : SendRd)
  /-- the bank word of an image of partition `p`, on its way to address `a` in cast memory (R370) -/
  | bankWord (e a p : Nat) (bytes : List Byte)
  /-- the breakwater's refusal of an input write of local station `st` on its way back to engine `e` (R364, R419) -/
  | inputRefused (e st : Nat)
  /-- a frame that a lane's MAC has accepted for the tide path, with the lane timestamp of its last bit (R361) -/
  | rxTide (lane : Nat) (bytes : List Byte)
  /-- a request of a core to a device region or another core's cast window -/
  | devAccess (c pa width : Nat) (isStore : Bool) (value : Word)
  /-- a checkstop or pair halt reported to the service processor directly (R188, R546) -/
  | toService (c : Nat)
  deriving DecidableEq, Repr

/-- A TC0 packet that waits at its initiator for injection tokens (R283). -/
structure Tc0Pkt where
  flits : Nat
  /-- routers of source and destination -/
  src : Nat
  dst : Nat
  msg : Msg
  deriving DecidableEq, Repr

/-- An endpoint of a router, at 4 × router + endpoint (R274). Its port state is RTR_EPCTL.STATE. -/
structure Endpoint where
  /-- injection tokens held; full, DEPTH 4, after reset (R283) -/
  tokens : Nat := 4
  tc0q : List Tc0Pkt := []
  /-- during an ebb: markers received (R292) -/
  markers : Nat := 0
  /-- during an ebb: the fence-map change has been broadcast (Seq 3) -/
  fenceSent : Bool := false
  deriving DecidableEq, Repr

/-- A flit in a link's replay buffer (R287). -/
structure Flit where
  cls : Nat
  poison : Bool := false
  deriving DecidableEq, Repr

/-- An output link of a router, at 4 × router + link. Its state is in RTR_LINKSTAT. -/
structure Link where
  /-- link-monitor tokens (R284) -/
  tokens : Nat := 8
  replay : List Flit := []
  /-- flits of the replay buffer that the sender is sending again (R287) -/
  resend : Nat := 0
  deriving DecidableEq, Repr

/-- A router's copy of the fence map (R290): endpoint number to port state; and the markers it still owes. -/
structure Router where
  map : Tbl Nat := []
  /-- endpoints whose change it has applied and whose markers it has not sent -/
  owes : List Nat := []
  deriving DecidableEq, Repr

/-- A partition ebb in progress (R298). -/
structure PartEbb where
  part : Nat
  deriving DecidableEq, Repr

/-! ### Interrupt distributor (chapter 18) -/

/-- One source of the distributor (R480 to R501). -/
structure Src where
  sense : Nat := 0
  pin : Bool := false
  wake : Bool := false
  prio : Nat := 31
  tkind : Bool := false
  core : Nat := 0
  part : Nat := 0
  vcore : Nat := 0
  enable : Bool := false
  edge : Bool := false
  soft : Bool := false
  posted : Bool := false
  moving : Bool := false
  /-- withdraws for it that no core has acknowledged yet -/
  wd : Nat := 0
  /-- last accepted number, and number of the note that last set the latch (R489) -/
  accnum : Nat := 0
  lastnum : Nat := 0
  /-- the field engine's edge number of a fast-station input source (R489) -/
  edgenum : Nat := 0
  deriving DecidableEq, Repr

/-- What the distributor knows of one core: the offers outstanding (source and priority) and whether the breakwater refused one (R484, R487). -/
structure DistCore where
  off5 : Option (Nat × Nat) := none
  off6 : Option (Nat × Nat) := none
  refused : Bool := false
  deriving DecidableEq, Repr

/-- Postings of one partition (R492, R493): the sources waiting, in source order, and the write in flight. -/
structure Posting where
  waiting : List Nat := []
  inFlight : Option Nat := none
  /-- writes in flight that a discard has overtaken (R497) -/
  stale : Nat := 0
  deriving DecidableEq, Repr

/-- The distributor's state outside its registers. -/
structure Dist where
  srcs : Tbl Src := []
  cores : Tbl DistCore := []
  posts : Tbl Posting := []
  /-- withdraws of a partition discard not yet acknowledged: core and source (R497) -/
  discard : List (Nat × Nat) := []
  /-- the always-on sleep latch is open (R499) -/
  sleepOpen : Bool := false
  /-- the working state is powered off (R499, Seq 3) -/
  workOff : Bool := false
  sleepLatch : List Nat := []
  deriving DecidableEq, Repr

/-! ### Errors (chapter 20) -/

/-- An event on its way to the aggregator (R547, R550, R552). -/
structure ErrEvent where
  /-- tide time of detection -/
  time : Nat := 0
  unit : Nat
  cls : Nat := 0
  /-- none: a corrected event, which enters the bucket of its class; some s: a record of severity s -/
  sev : Option Nat := none
  part : Option Nat := none
  kind : Nat := 0
  detail : Nat := 0
  addr : Nat := 0
  loc : Nat := 0
  scope : Nat := 0
  inj : Bool := false
  deriving DecidableEq, Repr

/-- A 32-byte record of the chip log (R553), as four words. -/
structure LogRec where
  w0 : Word := 0
  w1 : Word := 0
  w2 : Word := 0
  w3 : Word := 0
  deriving DecidableEq, Repr
/-! ### Memory controllers (chapter 11) -/

/-- A request that waits at a controller for a token of its class, the one in force when it was issued (R507, R509). -/
inductive McReq where
  | read (addr : Nat) (err : DramErr) (loc : DramLoc) (part cls : Nat)
  | write (addr : Nat) (data : Line) (poison : Word) (cls : Nat)
  deriving DecidableEq, Repr

/-- A memory controller outside its registers. -/
structure Chan where
  /-- serial numbers of the DIMMs saved with the trained values, in the always-on domain (R324, R325) -/
  serials : Option (Nat × Nat) := none
  /-- the channel is in self-refresh with its pins held by the retention drivers (R651) -/
  ret : Bool := false
  /-- words in recovery, with a scrub write queued: channel address and device (R315) -/
  recov : List (Nat × Nat) := []
  /-- words that an injection of KIND 7 has altered and nothing has overwritten: channel addresses (R559) -/
  alt : List Nat := []
  /-- primary words that wait for the secondary's copy (R318): channel address, part of the request -/
  mirrorQ : List (Nat × Option Nat) := []
  /-- the next word of the patrol (R316) -/
  patrol : Nat := 0
  /-- a repair in progress: hPPR or not (R319) -/
  ppr : Option Bool := none
  /-- the TC0 service window is open: bounded reads left (R320, R322) -/
  window : Option Nat := none
  /-- consecutive failures of one command sequence or write (R313) -/
  retries : Nat := 0
  /-- requests waiting for tokens, oldest first -/
  held : List McReq := []
  deriving DecidableEq, Repr

/-! ### Time base (chapter 12) -/

/-- The time keeper and the servo outside their registers (R343 to R347). -/
structure TimeBase where
  /-- fraction of tide time, units of 2^-32 ns -/
  frac : Nat := 0
  /-- slew still to be applied, units of 2^-32 ns -/
  slew : Int := 0
  /-- the system reference runs (R55, R344) -/
  refOn : Bool := true
  /-- lower half of CHIP_TTADJ as last staged (R347) -/
  stage : Nat := 0
  /-- consecutive measurements below LOCKTHR, and consecutive missing measurements (R346) -/
  good : Nat := 0
  missing : Nat := 0
  /-- tide time at which the pulse output falls (R345) -/
  ppsEnd : Nat := 0
  /-- nanoseconds since the pace streams last coincided, modulo 4 (R48, R55) -/
  cophase : Nat := 0
  deriving DecidableEq, Repr

/-! ### Field functions (chapter 14) -/

/-- A TX descriptor that the engine has read (R397, R398). -/
structure TxDesc where
  idx : Nat
  addr : Nat := 0
  len : Nat := 0
  eop : Bool := false
  tagins : Bool := false
  qvalid : Bool := false
  irq : Bool := false
  lane : Nat := 0
  tci : Nat := 0
  queue : Nat := 0
  deriving DecidableEq, Repr

/-- An RX descriptor that the engine has read (R405). -/
structure RxDesc where
  ring : Nat
  idx : Nat
  addr : Nat := 0
  size : Nat := 0
  deriving DecidableEq, Repr

/-- A TX frame that has been sent or has failed, its completions not yet written (R401). -/
structure TxDone where
  descs : List TxDesc
  code : Nat
  sent : Nat := 0
  tstamp : Nat := 0
  deriving DecidableEq, Repr

/-- An admitted received frame whose data is not yet written (R405 to R407), or descriptors that a quiesce flushes (R411). -/
structure RxFrm where
  ring : Nat
  filter : Nat := 0
  lane : Nat := 0
  bytes : List Byte := []
  tagged : Bool := false
  mc : Bool := false
  bc : Bool := false
  tci : Nat := 0
  descs : List RxDesc
  /-- the descriptors are flushed: they receive FLUSHED and no data -/
  flush : Bool := false
  deriving DecidableEq, Repr

/-- A field function outside its registers, at 128 × engine + local function. -/
structure Fn where
  /-- tokens of the buckets in thousandths of a byte, and the tide time at which they stood so (R406, R409) -/
  txTok : Nat := 0
  txAt : Nat := 0
  rxTok : Nat := 0
  rxAt : Nat := 0
  /-- index of the next TX descriptor to read -/
  txRead : Nat := 0
  /-- TX descriptors read, oldest first, of frames not yet admitted -/
  txq : List TxDesc := []
  /-- data of the head frame's segments read so far; none where the read failed -/
  segs : List (Option (List Byte)) := []
  /-- frames finished, completions to be written -/
  fin : List TxDone := []
  /-- TX descriptors completed beyond HEAD -/
  txDone : List Nat := []
  /-- index of the next descriptor to read of each RX ring -/
  rxRead : Tbl Nat := []
  rxq : List RxDesc := []
  /-- received frames, oldest first: the writes of the first are under way -/
  rxf : List RxFrm := []
  /-- completions since the ring last signalled: ring 0 TX, 1 to 4 RX (R408) -/
  cnt : Tbl Nat := []
  /-- the quiesce under way was started by EN = 0 (R394) -/
  disable : Bool := false
  deriving DecidableEq, Repr

/-! ### Lanes (chapters 12 and 15) -/

/-- What a frame in a lane's queues is. -/
inductive TxBody where
  /-- output frame of a local station; a fast station's goes before tide frames (R334) -/
  | tide (station : Nat) (fast : Bool)
  | marker
  | ptp (k : PtpKind)
  /-- a frame of local function `f` -/
  | bulk (f : Nat) (descs : List TxDesc)
  deriving DecidableEq, Repr

/-- A frame queued on a lane: its bytes without FCS, its length with it. -/
structure TxFrame where
  body : TxBody
  bytes : List Byte := []
  len : Nat := 64
  /-- bulk queue 0 to 7 -/
  q : Nat := 0
  /-- already counted in FLN_HELD (R339) -/
  held : Bool := false
  /-- tide time of its first bit at the pins, once it is in transmission -/
  first : Nat := 0
  /-- some fragment of it has been sent -/
  frag : Bool := false
  /-- lane timestamp of the input whose loop this output closes (R432) -/
  meas : Option Nat := none
  deriving DecidableEq, Repr

/-- A gate control list as SWAP captured it (R337). -/
structure Gcl where
  len : Nat
  cycle : Nat
  base : Nat
  deriving DecidableEq, Repr

/-- A lane outside its registers, by global number. -/
structure Lane where
  queue : List TxFrame := []
  cur : Option TxFrame := none
  /-- a preempted frame -/
  susp : Option TxFrame := none
  oper : Option Gcl := none
  next : Option Gcl := none
  /-- running entry of the operating list, the gates in force, the offset within the cycle at which its interval ends, the cycle's start -/
  entry : Nat := 0
  gates : Nat := 255
  gateEnd : Nat := 0
  cycleStart : Nat := 0
  deriving DecidableEq, Repr

/-- Mailbox slot and loop monitor of a lane (R426 to R433), by global lane number. -/
structure FastSt where
  data : Tbl Word := []
  sends : Nat := 0
  /-- a loop is open: lane timestamp of its input -/
  loop : Option Nat := none
  /-- input timestamp of the loop measured last -/
  last : Option Nat := none
  deriving DecidableEq, Repr

/-! ### Stations and tide tables (chapter 13) -/

/-- A station outside its registers, by global number. -/
structure Stn where
  /-- a sequence number is recorded (R359) -/
  seqOk : Bool := false
  /-- an input has been accepted since the previous EXPECT; an EXPECT has named it since its commit (R360, R363) -/
  accepted : Bool := false
  expected : Bool := false
  flags : Nat := 0
  lane : Nat := 0
  wseq : Nat := 0
  /-- 802.1CB: sequence number of the next output; recovery number and history (R341) -/
  txSeq : Nat := 0
  recov : Option (Nat × BitVec 32) := none
  deriving DecidableEq, Repr

/-- An image outside its registers, at 16 × engine + image. -/
structure Img where
  /-- last accepted life sign (R381) -/
  life : Option Word := none
  /-- a life sign has been accepted since LSEXP was set (R383) -/
  fresh : Bool := false
  fseq : Nat := 0
  /-- flips begun and not complete, in order: input side or not, and the table's cycle number at the flip (R369, R370) -/
  flips : List (Bool × Nat) := []
  deriving DecidableEq, Repr

/-- A tide table outside its registers, at 8 × engine + table. -/
structure TideTab where
  /-- tide time of the first boundary of an ARMED table, of the running cycle's boundary after that (R372) -/
  start : Nat := 0
  /-- the next entry of the running cycle -/
  next : Nat := 0
  deriving DecidableEq, Repr

/-- A field engine outside its registers. -/
structure FeSt where
  /-- tide time of the sequencer's last start, once there was one (R378) -/
  lastStart : Option Nat := none
  /-- a commit under way: local station and the captured entry (R357) -/
  commit : Option (Nat × List Word) := none
  reads : List SendRd := []
  deriving DecidableEq, Repr

/-! ### Ladle engines (chapters 16 and 17) -/

/-- What a channel in WAITING waits for (R474, R475); DELAY is a time. -/
inductive LdlWt where
  | flag (f : Nat) (clr : Bool)
  | tide (k v : Nat) (edge : Bool)
  | time (t : Nat)
  deriving DecidableEq, Repr

/-- A ladle channel outside its registers, by global number. -/
structure LdlCh where
  /-- loop stack, innermost first: address of the NEXT, of the body, remaining count (R473) -/
  stack : List (Nat × Nat × Nat) := []
  /-- fetch buffer: line address and its 64 bytes (R462) -/
  buf : Option (Nat × List Byte) := none
  /-- the instruction whose accesses are under way, as a 128-bit number (R452) -/
  cur : Option Nat := none
  wait : Option LdlWt := none
  /-- the wait has been met -/
  met : Bool := false
  /-- the stop under way was requested by the manager (R446) -/
  mgrStop : Bool := false
  /-- the abort under way was started by EN = 0 (R451) -/
  disable : Bool := false
  /-- bytes written beyond the last whole 64 of LDL_CHCNT -/
  rem : Nat := 0
  deriving DecidableEq, Repr

/-- A ladle engine outside its registers: local channels in flight, and waiting to enter flight (R441). -/
structure LdlEng where
  flight : List Nat := []
  waitq : List Nat := []
  deriving DecidableEq, Repr

/-! ### Power (chapter 21) -/

/-- Where the part stands between RUN and a chip low-power state (R574 to R578). -/
inductive ChipPhase where
  | run
  /-- accepted; the requester's own entry is not complete -/
  | requested
  /-- the sleep latch is open; before the chip's point of no return -/
  | entering
  /-- past it; units are being switched -/
  | committed
  /-- NEAP or STANDBY -/
  | asleep
  /-- a wake has been recognised; CHIP_WAKE starts the exit's work -/
  | waking
  /-- memory and domains return -/
  | restoring
  deriving DecidableEq, Repr

/-- The power controller outside its registers. -/
structure Pwr where
  /-- domains in DOWN past the point of no return (R571) -/
  past : List Nat := []
  /-- cores with an ordinary wake event latched during an entry, or a cyclic one after the point of no return (R573) -/
  exits : List Nat := []
  /-- checkstopped and pair-halted cores in RETAIN, and which they were -/
  stopped : List (Nat × RunState) := []
  phase : ChipPhase := .run
  /-- the state requested is STANDBY, otherwise NEAP -/
  standby : Bool := false
  requester : Nat := 0
  /-- domains that were RUN when the request was accepted (R576) -/
  before : List Nat := []
  /-- a cyclic-class event has been latched before the chip's point of no return; an event has been latched that starts the exit -/
  cyclic : Bool := false
  wake : Bool := false
  /-- AON_WAKETIME holds the first wake event after the point of no return -/
  timed : Bool := false
  /-- AVSBus request in progress, mV (R580) -/
  avs : Option Nat := none
  /-- thermal halt (R583), and a pin reset that waits for every sensor to read below 140 °C (R592) -/
  halt : Bool := false
  haltReset : Bool := false
  /-- warm entry in progress: the LAST code it was recorded with (R591) -/
  warm : Option Nat := none
  deriving DecidableEq, Repr

/-! ### Resets, boot and survival (chapter 22) -/

/-- The service processor outside its registers. -/
structure Svc where
  /-- the last write of SVC_WDKICK was the first half of a kick (R598) -/
  kick : Bool := false
  /-- level driven on HEALTH; none is high-impedance (R599) -/
  health : Option Bool := none
  /-- fuse command in progress: OP, slot, data (R609) -/
  fuse : Option (Nat × Nat × List Word) := none
  /-- FENTRY of the image that booted (R605) -/
  fentry : Nat := 0
  deriving DecidableEq, Repr

/-! ### Host interface (chapter 23) -/

/-- What the host interface has taken in and not finished, in order of arrival (R620 to R624). -/
inductive HifItem where
  /-- a translated read of `n` bytes at bus address `gpa`, physical `pa`, in context `k` for `port`'s requester `rid` -/
  | read (port rid k gpa pa n : Nat)
  /-- a read that its home has answered and whose completion waits behind earlier writes (R622) -/
  | answered (port rid k : Nat) (bytes : List Byte) (poison refused : Bool)
  | write (port rid k gpa pa : Nat) (bytes : List Byte) (ep : Bool)
  /-- a message edge held behind earlier writes (R624) -/
  | edge (rid v : Nat)
  deriving DecidableEq, Repr

/-- A read completion as it went to the link: 0 successful, 1 UR, 2 CA (R622, R625). -/
structure HifCpl where
  rid : Nat
  status : Nat
  ep : Bool := false
  bytes : List Byte := []
  deriving DecidableEq, Repr

/-- The host interface outside its registers. -/
structure Hif where
  queue : List HifItem := []
  /-- the completions that the last command that sent any has sent -/
  sent : List HifCpl := []
  /-- what the last configuration read answered -/
  cfg : Word := 0
  deriving DecidableEq, Repr

/-! ### Identity and heat marks (chapter 24) -/

/-- A heat-mark command that waits (R640): from SMBus or control space, area, offset, and the bytes to write or the number to read. -/
structure HmCmd where
  smb : Bool
  area : Nat
  off : Nat
  data : Option (List Byte)
  len : Nat
  ue : List Nat := []
  deriving DecidableEq, Repr

/-- Heat marks and the signing unit. -/
structure Ident where
  /-- bytes of the areas, at 64 × area + offset -/
  marks : Tbl Byte := []
  /-- a challenge in progress: its 120-byte message, formed at GO (R635, R640) -/
  chal : Option (List Byte) := none
  waiting : List HmCmd := []
  /-- what the service processor answered to the last SMBus command -/
  smb : List Byte := []
  deriving DecidableEq, Repr


/-! ### The machine -/

/-- A key-hash slot (R603, R609): its 48 bytes, PROG, revoked, BAD. -/
structure KeySlot where
  data : List Byte := []
  prog : Bool := false
  revoked : Bool := false
  bad : Bool := false
  deriving DecidableEq, Repr

/-- The fuse map (R4, R18, R36 to R40) and the values programmed at manufacture. Which unit this is is the model's choice: a fully populated
Tiruloc 1280 (notes/assumptions/1.md). -/
structure Fuses where
  part : Nat := 0x1280
  stepping : Nat := 1
  tilemap : Word := 0xFFFF_FFFF_FFFF_FFFF
  mcmap : Nat := 0xFFF
  quadmap : Nat := 0xFFF
  femap : Nat := 3
  ldlmap : Nat := 0xF
  pciemap : Nat := 0xFF
  vec : Bool := true
  pair : Bool := true
  /-- CHIP_TTCLKID (R350) -/
  clkid : Word := 0
  /-- ID_FACTID0, ID_FACTID1 -/
  factid0 : Word := 0
  factid1 : Word := 0
  /-- the certificate store (R634) -/
  cert : List Byte := []
  /-- key-hash slots 0 to 3, and the SVN fuses (R603, R609) -/
  slots : List KeySlot := [{}, {}, {}, {}]
  svn : Word := 0
  deriving DecidableEq, Repr

/-- The state of the part. -/
structure State where
  fuse : Fuses := {}
  /-- the model's own: how many free values the steps have drawn (notes/assumptions/3.md) -/
  fresh : Nat := 0
  /-- control-space registers by offset from 0x7F00_0000_0000; an unlisted one holds its reset value -/
  regs : Tbl Word := []
  /-- bytes of memory: cast memory at its physical address, DRAM at 2^48 × (channel + 1) + channel address -/
  mem : List Host.Cell := []
  /-- poisoned bytes of memory, same keys -/
  memPoison : Tbl Bool := []
  cores : Tbl Core := []
  slices : Tbl Slice := []
  /-- queues of the tile maintenance engines -/
  tileMnt : Tbl (List MntReq) := []
  /-- the DRAM decode in force: CHIP_DRAMRGN and CHIP_DRAMMAP as applied (R307, R309) -/
  decode : Tbl (Word × Word) := []
  net : List Msg := []
  endpoints : Tbl Endpoint := []
  links : Tbl Link := []
  routers : Tbl Router := []
  partEbb : Option PartEbb := none
  chans : Tbl Chan := []
  /-- tokens of the memory classes, at 16 × controller + class (R509) -/
  memTok : Tbl Nat := []
  time : TimeBase := {}
  lanes : Tbl Lane := []
  fast : Tbl FastSt := []
  stns : Tbl Stn := []
  imgs : Tbl Img := []
  tabs : Tbl TideTab := []
  fes : Tbl FeSt := []
  fns : Tbl Fn := []
  ldls : Tbl LdlCh := []
  ldlEngs : Tbl LdlEng := []
  pwr : Pwr := {}
  svc : Svc := {}
  hif : Hif := {}
  ident : Ident := {}
  /-- the instruction the TAP acts on (R658) -/
  tap : TapMode := .idcode
  dist : Dist := {}
  /-- PART resets that cores in RETAIN apply when they leave it: core and partition (R520) -/
  retainPrst : List (Nat × Nat) := []
  /-- events detected and not yet recorded, oldest first (R552) -/
  errq : List ErrEvent := []
  errlog : Tbl LogRec := []
  /-- what the last RC_COUNTER_READ returned (R14) -/
  lastRead : Word := 0
  /-- commands that wait, first in first out -/
  pending : List Instr := []
  deriving DecidableEq, Repr

/-- Why the block stops. -/
inductive Fault where
  /-- REGISTER_WRITE or RC_COUNTER_READ at a control-space offset outside every block of R30: there is no target (the core's own access fault of
  R25 is modelled in LOAD and STORE). Safe: the spec says the address does not exist. -/
  | undecoded (off : Nat)
  deriving DecidableEq, Repr

/-- Why a command has no meaning here. -/
inductive Refusal where
  /-- Raised by an arm of `exec` whose meaning is not written. Safe: nothing is claimed about it. -/
  | notModelled (mnemonic : String)
  deriving DecidableEq, Repr

/-- The part right after a PWR reset, before BOOT: every register at its reset value, memory with nothing written, no message in flight, no command
waiting (R587, R611). -/
def State.reset : State := {}

end Sys2Proof.Machine
end

