-- ==== Sys2Proof/Machine/Ops.lean ====
section
/-!
DEFINITION. The named operations over the state: registers and their fields, free values, messages, memory bytes, the presence of units (R4, R7), the
fence map (R290), error events (R547 to R554), interrupt sources, and the write of a register by its access codes (R14 to R17).
-/
namespace Sys2Proof.Machine

/-- What every command answers. -/
abbrev Res := Host.Outcome State Fault Refusal

/-! ### Reset values of registers -/

/-- The port state of endpoint `e` of router `r` after a CHIP or PWR reset of a fully populated part (R291): OPEN for the service block and every tile
control, FENCED for every other endpoint, 0 where there is none. -/
def epResetState (r e : Nat) : Nat :=
  match epKind r e with
  | 0 => 0
  | 3 => 1
  | 8 => 1
  | _ => 3

/-- What an unlisted register holds: the reset column of its map (R18). RTR_ID and RTR_EPCTL depend on their place (R300, R302). -/
def regReset (off : Nat) : Word :=
  if 0x0040_0000 ≤ off ∧ off < 0x0045_0000 then
    let r := (off - 0x0040_0000) / 0x1000
    let o := (off - 0x0040_0000) % 0x1000
    if o = 0 then BitVec.ofNat 64 (r + 256 * (r % 8) + 4096 * (r / 8))
    else if 0x100 ≤ o ∧ o < 0x120 ∧ o % 8 = 0 then
      let e := (o - 0x100) / 8
      if epKind r e = 0 then 0
      else BitVec.ofNat 64 (16 * epResetState r e + 256 * epKind r e + 4096 * 7 + 65536 * 10)
    else match regDef off with | some d => d.reset | none => 0
  else if 0x0600_0000 + 0x10_0000 ≤ off ∧ off < 0x0600_0000 + 0x11_0000 then 0x1F00
  else if 0x0700_1000 ≤ off ∧ off < 0x0700_1708 then
    -- R585: REQ 1 and STATE RUN for core 0, the tile fabric and the always-on domain; AUTOWAKE 1
    let d := (off - 0x0700_1000) / 8
    if d = 0 ∨ d = 223 ∨ d = 224 then 0x205 else 0x4
  else if 0x0001_0100 ≤ off ∧ off < 0x0001_0500 then
    -- R613: HELD reads 1 until the core is released
    0x4
  else if 0x0320_0000 ≤ off ∧ off < 0x0440_0000 ∧ (off - 0x0320_0000) % 0x100_0000 < 0x1_8000 ∧ off % 0x1000 = 0x10 then
    -- R352: the fused MAC address of the lane
    (Config.laneMac (24 * ((off - 0x0320_0000) / 0x100_0000) + (off - 0x0320_0000) % 0x100_0000 / 0x1000)).setWidth 64
  else if 0x1000_0000 ≤ off ∧ off < 0x1004_0000 then
    -- R618: the headers of the root ports, function 0 of devices 0 to 7 of bus 0
    (if (off - 0x1000_0000) % 0x8000 < 0x1000 then hdrReset ((off - 0x1000_0000) % 0x8000) else 0)
  else match regDef off with | some d => d.reset | none => 0

/-! ### Registers -/

/-- The stored value of the register at offset `a`. -/
def State.reg (s : State) (a : Nat) : Word := Tbl.get regReset s.regs a

/-- Store a register. -/
def State.setReg (s : State) (a : Nat) (v : Word) : State := { s with regs := Tbl.set regReset s.regs a v }

/-- A field of a register. -/
def State.fld (s : State) (a : Nat) (f : Fld) : Nat := getF (s.reg a) f

/-- Whether a one-bit field is 1. -/
def State.flag (s : State) (a : Nat) (f : Fld) : Bool := getF (s.reg a) f == 1

/-- Write a field of a register and keep the rest. -/
def State.setFld (s : State) (a : Nat) (f : Fld) (v : Nat) : State := s.setReg a (setF (s.reg a) f v)

/-- Write a one-bit field. -/
def State.setFlag (s : State) (a : Nat) (f : Fld) (b : Bool) : State := s.setFld a f (b2n b)

/-- Add to a counter field, saturating at the field's maximum (counters saturate: R300, R500, R561 and the other maps). -/
def State.bump (s : State) (a : Nat) (f : Fld) (k : Nat) : State :=
  s.setFld a f (satAdd (2 ^ f.w - 1) (s.fld a f) k)

/-- Set bit `i` of a register. -/
def State.setBit (s : State) (a i : Nat) (b : Bool) : State := s.setReg a (setB (s.reg a) i b)

/-- Return a register to its reset value. -/
def State.resetReg (s : State) (a : Nat) : State := { s with regs := Tbl.erase s.regs a }

/-- Tide time in ns (CHIP_TTNOW, R343). -/
def State.now (s : State) : Nat := (s.reg Reg.CHIP_TTNOW).toNat

/-! ### Free values -/

/-- Draw a free value of `w` bits. -/
def State.draw (s : State) (w : Nat) : BitVec w × State := (Config.free w s.fresh, { s with fresh := s.fresh + 1 })

/-- Draw a free choice below `n` (0 where `n` is 0). -/
def State.choose (s : State) (n : Nat) : Nat × State := ((Config.free 32 s.fresh).toNat % n, { s with fresh := s.fresh + 1 })

/-! ### Tables of units -/

def State.core (s : State) (n : Nat) : Core := Tbl.get (fun _ => {}) s.cores n
def State.setCore (s : State) (n : Nat) (c : Core) : State := { s with cores := Tbl.set (fun _ => {}) s.cores n c }
def State.modCore (s : State) (n : Nat) (f : Core → Core) : State := s.setCore n (f (s.core n))
/-- Apply `f` to every core whose state is not its reset state, keeping the canonical form. -/
def State.mapCores (s : State) (f : Nat → Core → Core) : State := { s with cores := Tbl.mapAll (fun _ => {}) f s.cores }
def State.slice (s : State) (t : Nat) : Slice := Tbl.get (fun _ => {}) s.slices t
def State.setSlice (s : State) (t : Nat) (x : Slice) : State := { s with slices := Tbl.set (fun _ => {}) s.slices t x }
def State.modSlice (s : State) (t : Nat) (f : Slice → Slice) : State := s.setSlice t (f (s.slice t))
def State.ep (s : State) (k : Nat) : Endpoint := Tbl.get (fun _ => {}) s.endpoints k
def State.setEp (s : State) (k : Nat) (x : Endpoint) : State := { s with endpoints := Tbl.set (fun _ => {}) s.endpoints k x }
def State.link (s : State) (k : Nat) : Link := Tbl.get (fun _ => {}) s.links k
def State.setLink (s : State) (k : Nat) (x : Link) : State := { s with links := Tbl.set (fun _ => {}) s.links k x }
def State.router (s : State) (r : Nat) : Router := Tbl.get (fun _ => {}) s.routers r
def State.setRouter (s : State) (r : Nat) (x : Router) : State := { s with routers := Tbl.set (fun _ => {}) s.routers r x }
def State.src (s : State) (k : Nat) : Src := Tbl.get (fun _ => {}) s.dist.srcs k
def State.setSrc (s : State) (k : Nat) (x : Src) : State := { s with dist := { s.dist with srcs := Tbl.set (fun _ => {}) s.dist.srcs k x } }
def State.modSrc (s : State) (k : Nat) (f : Src → Src) : State := s.setSrc k (f (s.src k))
def State.distCore (s : State) (n : Nat) : DistCore := Tbl.get (fun _ => {}) s.dist.cores n
def State.setDistCore (s : State) (n : Nat) (x : DistCore) : State := { s with dist := { s.dist with cores := Tbl.set (fun _ => {}) s.dist.cores n x } }

/-! ### Messages -/

/-- Send a message. -/
def State.send (s : State) (m : Msg) : State := { s with net := s.net ++ [m] }

/-- Send each of a list of messages. -/
def State.sendAll (s : State) (ms : List Msg) : State := { s with net := s.net ++ ms }

/-- Take a message out of the network where it is in flight. -/
def State.recv (s : State) (m : Msg) : State := { s with net := s.net.erase m }

/-! ### Presence of units (R4 to R7, R20, R22) -/

def State.hasTile (s : State) (t : Nat) : Bool := t < 64 && getB s.fuse.tilemap t
def State.hasCore (s : State) (n : Nat) : Bool := s.hasTile (n / 2)
def bitAt (m i : Nat) : Bool := m / 2 ^ i % 2 == 1
def State.hasMc (s : State) (m : Nat) : Bool := m < 12 && bitAt s.fuse.mcmap m
def State.hasQuad (s : State) (q : Nat) : Bool := q < 12 && bitAt s.fuse.quadmap q
def State.hasFe (s : State) (e : Nat) : Bool := e < 2 && bitAt s.fuse.femap e
def State.hasLdl (s : State) (l : Nat) : Bool := l < 4 && bitAt s.fuse.ldlmap l
def State.hasPort (s : State) (p : Nat) : Bool := p < 8 && bitAt s.fuse.pciemap p

/-- Router of compute tile `t` (R19, R20: r = 8Y + X with t = (Y − 1) × 8 + X). -/
def tileRouter (t : Nat) : Nat := t + 8
/-- Router of core `n`. -/
def coreRouter (n : Nat) : Nat := n / 2 + 8
/-- Router of memory controller `m` (R22). -/
def mcRouter (m : Nat) : Nat := if m < 6 then m else 66 + m
/-- Router of field engine `e` (R22). -/
def feRouter (e : Nat) : Nat := if e = 0 then 6 else 78
/-- Router of the host interface. -/
def hifRouter : Nat := 7
/-- Router of the service block. -/
def svcRouter : Nat := 79

/-- Endpoint numbers, 4 × router + endpoint (R274). -/
def epCore (n : Nat) : Nat := 4 * coreRouter n + n % 2
def epSlice (t : Nat) : Nat := 4 * tileRouter t + 2
def epTile (t : Nat) : Nat := 4 * tileRouter t + 3
def epMc (m : Nat) : Nat := 4 * mcRouter m
def epFe (e : Nat) : Nat := 4 * feRouter e
def epLdl (l : Nat) : Nat := 4 * feRouter (l / 2) + 1 + l % 2
def epHif : Nat := 4 * hifRouter
def epSvc : Nat := 4 * svcRouter

/-- Distance on a ring of `m` places (R21). -/
def ringDist (m a b : Nat) : Nat := let d := if a ≤ b then b - a else a - b; if d ≤ m - d then d else m - d
/-- Hop distance of two routers (R21). -/
def hops (r q : Nat) : Nat := ringDist 8 (r % 8) (q % 8) + ringDist 10 (r / 8) (q / 8)

/-- Port states of an endpoint (R302). -/
def epOpen : Nat := 1
def epEbbing : Nat := 2
def epFenced : Nat := 3
def epDead : Nat := 4

/-- RTR_EPCTL of endpoint number `k`. -/
def epctl (k : Nat) : Nat := Reg.RTR_EPCTL (k / 4) (k % 4)
/-- The port state of endpoint `k` at its own router. -/
def State.epState (s : State) (k : Nat) : Nat := s.fld (epctl k) F.RTR_EPCTL_STATE
def State.setEpState (s : State) (k v : Nat) : State := s.setFld (epctl k) F.RTR_EPCTL_STATE v
/-- The state of endpoint `k` in router `r`'s fence map (R290). -/
def State.mapped (s : State) (r k : Nat) : Nat := Tbl.get (fun k => epResetState (k / 4) (k % 4)) (s.router r).map k

/-- One step of a route in X or Y: the shorter way, the positive one when both are equally long (R275). Answers the link and the next router. -/
def hopToward (r q : Nat) : Nat × Nat :=
  let x := r % 8
  let y := r / 8
  let dx := subMod 8 (q % 8) x
  let dy := subMod 10 (q / 8) y
  if dx ≠ 0 then
    (if dx ≤ 4 then (0, 8 * y + (x + 1) % 8) else (1, 8 * y + (x + 7) % 8))
  else (if dy ≤ 5 then (2, 8 * ((y + 1) % 10) + x) else (3, 8 * ((y + 9) % 10) + x))

/-- The links of the route from `r` to `q`, as 4 × router + link; a route has at most 9 hops. -/
def routeFuel : Nat → Nat → Nat → List Nat
  | 0, _, _ => []
  | n + 1, r, q => if r = q then [] else let h := hopToward r q; (4 * r + h.1) :: routeFuel n h.2 q
def route (r q : Nat) : List Nat := routeFuel 10 r q

/-- State of link `l` of router `r` in RTR_LINKSTAT: 0 UP, 1 REPLAY, 2 ESCALATED, 3 FAILED (R300). -/
def State.linkState (s : State) (k : Nat) : Nat := s.fld (Reg.RTR_LINKSTAT (k / 4)) ⟨4 * (k % 4), 3⟩
def State.setLinkState (s : State) (k v : Nat) : State := s.setFld (Reg.RTR_LINKSTAT (k / 4)) ⟨4 * (k % 4), 3⟩ v

/-- A route crosses no FAILED link (R289). -/
def State.routeUp (s : State) (r q : Nat) : Bool := (route r q).all (fun k => s.linkState k != 3)

/-- An access from router `r` reaches endpoint `k`: its own map shows it OPEN, and the route crosses no FAILED link (R289, R290). -/
def State.canReach (s : State) (r k : Nat) : Bool := s.mapped r k == epOpen && s.routeUp r (k / 4)

/-- The unit at endpoint `k` answers a request delivered to it: the port is OPEN, or EBBING, which answers everything delivered before its fence closes
(R292, R294). -/
def State.answers (s : State) (k : Nat) : Bool := s.epState k == epOpen || s.epState k == epEbbing

/-- An access that passed its check is delivered and answered: its unit answers, and no FAILED link stands on the way (R289, R292, R294). -/
def State.delivers (s : State) (r k : Nat) : Bool := s.answers k && s.routeUp r (k / 4)

/-- The breakwater of router `r` absorbs a read or drops a write (R297). -/
def State.bwCount (s : State) (r : Nat) (write : Bool) : State :=
  s.bump (Reg.RTR_BWCNT r) (if write then F.RTR_BWCNT_WRITES else F.RTR_BWCNT_READS) 1

/-- Whether endpoint number `k` is that of a present unit (R274, R302). -/
def State.epPresent (s : State) (k : Nat) : Bool :=
  let r := k / 4
  match epKind r (k % 4) with
  | 1 => s.hasTile (r - 8)
  | 2 => s.hasTile (r - 8)
  | 3 => s.hasTile (r - 8)
  | 4 => s.hasMc (if r < 6 then r else r - 66)
  | 5 => s.hasFe (if r = 6 then 0 else 1)
  | 6 => s.hasLdl ((if r = 6 then 0 else 2) + k % 4 - 1)
  | 7 => true
  | 8 => true
  | _ => false

/-! ### Power domains (R564, R585) -/

/-- Domain states (PWR_DOM.STATE): 0 OFF, 1 UP, 2 RUN, 3 DOWN, 4 RETAIN, 5 RESUME. -/
def State.domState (s : State) (d : Nat) : Nat := s.fld (Reg.PWR_DOM d) F.PWR_DOM_STATE
def State.domRun (s : State) (d : Nat) : Bool := s.domState d == 2

/-! ### Errors (R549 to R552) -/

def unitCore (n : Nat) : Nat := n
def unitSlice (t : Nat) : Nat := 0x080 + t
def unitMc (m : Nat) : Nat := 0x0C0 + m
def unitFe (e : Nat) : Nat := 0x0CC + e
def unitLdl (l : Nat) : Nat := 0x0D0 + l
def unitHif : Nat := 0x0D4
def unitSvc : Nat := 0x0D5
def unitPace : Nat := 0x0D6
def unitLane (i : Nat) : Nat := 0x100 + i
def unitRouter (r : Nat) : Nat := 0x140 + r

/-- The unit whose endpoint has number `k` (R549). -/
def unitOfEp (k : Nat) : Nat :=
  let r := k / 4
  match epKind r (k % 4) with
  | 1 => unitCore (2 * (r - 8) + k % 4)
  | 2 => unitSlice (r - 8)
  | 3 => unitRouter r
  | 4 => unitMc (if r < 6 then r else r - 66)
  | 5 => unitFe (if r = 6 then 0 else 1)
  | 6 => unitLdl ((if r = 6 then 0 else 2) + k % 4 - 1)
  | 7 => unitHif
  | _ => unitSvc

/-- Detect an event: it reaches its bucket and logs with ERROR_RECORD, within 2 µs (R552). -/
def State.detect (s : State) (e : ErrEvent) : State := { s with errq := s.errq ++ [{ e with time := s.now }] }

/-- A corrected event of class `c` of unit `u` (R547, R548). -/
def State.corrected (s : State) (u c : Nat) : State := s.detect { unit := u, cls := c }

/-- A record of severity `v` (R554). -/
def State.failure (s : State) (u v : Nat) (part : Option Nat) (addr detail : Nat) : State :=
  s.detect { unit := u, sev := some v, part := part, addr := addr, detail := detail }

/-! ### Memory bytes -/

/-- What a byte that nothing has written reads as: 0. Cast memory reads zero until written (R228); for DRAM the spec gives no contents after
power-on, and zero is the model's choice (notes/assumptions/4.md). -/
def memDefault (_ : Nat) : Byte := 0

/-- The canonical form of the memory. -/
def Memory.wf (m : List Host.Cell) : Bool := Tbl.wf memDefault m

/-- Read the byte at key `k`. -/
def State.byte (s : State) (k : Nat) : Byte := Tbl.get memDefault s.mem k

/-- Whether the byte at key `k` is poisoned. -/
def State.isPoison (s : State) (k : Nat) : Bool := Tbl.get (fun _ => false) s.memPoison k

/-- Write one byte with its poison mark (R534: a write leaves the byte not poisoned unless it carries poison). -/
def State.setByte (s : State) (k : Nat) (b : Byte) (p : Bool) : State :=
  { s with mem := Tbl.set memDefault s.mem k b, memPoison := Tbl.set (fun _ => false) s.memPoison k p }

/-- Write consecutive bytes, none poisoned. -/
def State.setBytes (s : State) (k : Nat) : List Byte → State
  | [] => s
  | b :: r => State.setBytes (s.setByte k b false) (k + 1) r

/-- Write consecutive bytes with their poison marks; a missing mark is good. -/
def State.setBytesP (s : State) (k : Nat) : List Byte → List Bool → State
  | [], _ => s
  | b :: r, [] => State.setBytesP (s.setByte k b false) (k + 1) r []
  | b :: r, p :: ps => State.setBytesP (s.setByte k b p) (k + 1) r ps

/-- Read `n` consecutive bytes. -/
def State.bytes (s : State) (k n : Nat) : List Byte := (List.range n).map (fun i => s.byte (k + i))

/-- Whether any of `n` consecutive bytes is poisoned. -/
def State.anyPoison (s : State) (k n : Nat) : Bool := (List.range n).any (fun i => s.isPoison (k + i))

/-- Bytes from `k` for `n` bytes become zero and good: the entries of that range are dropped. -/
def State.zeroRange (s : State) (k n : Nat) : State :=
  { s with mem := s.mem.filter (fun c => !(decide (k ≤ c.1) && decide (c.1 < k + n))),
           memPoison := s.memPoison.filter (fun c => !(decide (k ≤ c.1) && decide (c.1 < k + n))) }

/-! ### The physical address map (R24 to R26) -/

/-- The region of a physical address (R24). -/
def regionOf (pa : Nat) : Region :=
  if pa < 0x6000_0000_0000 then .dram
  else if pa < 0x7000_0000_0000 then .pcie
  else if pa < 0x7000_1000_0000 then .sharedCast ((pa - 0x7000_0000_0000) / 0x40_0000)
  else if pa < 0x7000_1800_0000 then .coreCast ((pa - 0x7000_1000_0000) / 0x10_0000)
  else if pa < 0x7001_0000_0000 then .undecoded
  else if pa < 0x7001_0100_0000 then .mailbox ((pa - 0x7001_0000_0000) / 0x80_0000)
  else if pa < 0x7F00_0000_0000 then .undecoded
  else if pa < 0x7F01_0000_0000 then .control
  else .undecoded

/-- Base of core `n`'s cast window (R26). -/
def castBase (n : Nat) : Nat := 0x7000_1000_0000 + n * 0x10_0000
/-- Base of slice `t`'s part of the shared cast window (R26). -/
def slcCastBase (t : Nat) : Nat := 0x7000_0000_0000 + t * 0x40_0000
/-- Offset of control space. -/
def ctlBase : Nat := 0x7F00_0000_0000

/-- The cast-count register of core `n` (R223). -/
def castReg (n : Nat) : Nat := if n % 2 = 0 then Reg.TILE_LCAST (n / 2) else Reg.TILE_RCAST (n / 2)

/-- Populated bytes of a cast part whose count register is `a` and whose ways are `w` bytes (R26, R226, R227): CUR ways, or WAYS while a change that
lowers the count is in progress. -/
def State.castPop (s : State) (a w : Nat) : Nat :=
  let cur := s.fld a F.TILE_LCAST_CUR
  let ways := s.fld a F.TILE_LCAST_WAYS
  (if s.flag a F.TILE_LCAST_BUSY && decide (ways < cur) then ways else cur) * w

/-- Populated bytes of core `n`'s cast window. -/
def State.corePop (s : State) (n : Nat) : Nat := s.castPop (castReg n) 0x1_0000
/-- Populated bytes of slice `t`'s shared cast part. -/
def State.slicePop (s : State) (t : Nat) : Nat := s.castPop (Reg.SLC_CAST t) 0x2_0000

/-- Control-space offsets inside the blocks of R30. -/
def offDecoded (o : Nat) : Bool :=
  o < 0x0140_0000 || (0x0200_0000 ≤ o && o < 0x02C0_0000) || (0x0300_0000 ≤ o && o < 0x0540_0000) ||
  (0x0600_0000 ≤ o && o < 0x0A00_0000) || (0x1000_0000 ≤ o && o < 0x2000_0000)

/-- Whether the control-space block that holds an offset belongs to a present unit (R7, R31, R32). -/
def State.offPresent (s : State) (o : Nat) : Bool :=
  if o < 0x0100_0000 then
    (if 0x0040_0000 ≤ o ∧ o < 0x0045_0000 ∧ 0x100 ≤ o % 0x1000 ∧ o % 0x1000 < 0x120
     then s.epPresent (4 * ((o - 0x0040_0000) / 0x1000) + (o % 0x1000 - 0x100) / 8) else true)
  else if o < 0x0140_0000 then s.hasTile ((o - 0x0100_0000) / 0x1_0000)
  else if o < 0x0300_0000 then s.hasMc ((o - 0x0200_0000) / 0x10_0000)
  else if o < 0x0500_0000 then
    let e := (o - 0x0300_0000) / 0x100_0000
    let b := (o - 0x0300_0000) % 0x100_0000
    s.hasFe e &&
      (if 0x10_0000 ≤ b ∧ b < 0x10_6000 then s.hasQuad (6 * e + (b - 0x10_0000) / 0x1000)
       else if 0x20_0000 ≤ b ∧ b < 0x21_8000 then s.hasQuad (6 * e + (b - 0x20_0000) / 0x4000)
       else true)
  else if o < 0x0600_0000 then s.hasLdl ((o - 0x0500_0000) / 0x10_0000)
  else if 0x0680_0000 ≤ o ∧ o < 0x0688_0000 then s.hasCore ((o - 0x0680_0000) / 0x1000)
  else if 0x0800_1000 ≤ o ∧ o < 0x0800_1800 then s.hasPort ((o - 0x0800_1000) / 0x100)
  else true

/-- The endpoint that answers for a control-space offset (R274, R31 to R33). -/
def epOfOff (o : Nat) : Nat :=
  if o < 0x0100_0000 then epSvc
  else if o < 0x0200_0000 then
    let t := (o - 0x0100_0000) / 0x1_0000
    let b := o % 0x1_0000 / 0x1000
    if b = 1 ∨ b = 3 then epCore (2 * t) else if b = 2 ∨ b = 4 then epCore (2 * t + 1)
    else if b = 5 ∨ b = 6 then epSlice t else epTile t
  else if o < 0x0300_0000 then epMc ((o - 0x0200_0000) / 0x10_0000)
  else if o < 0x0500_0000 then epFe ((o - 0x0300_0000) / 0x100_0000)
  else if o < 0x0600_0000 then epLdl ((o - 0x0500_0000) / 0x10_0000)
  else if o < 0x0800_0000 then epSvc
  else if o < 0x0900_0000 then epHif
  else if o < 0x1000_0000 then epSvc
  else epHif

/-- The blocks that answer in every state of their endpoint: chip and service, power and always-on, and the RTR blocks, all at the service block's endpoint
(R33, R274). -/
def alwaysUp (o : Nat) : Bool := epOfOff o == epSvc

/-! ### Writing a register by its access codes (R14 to R17) -/

/-- The part of a register that an access of a width covers: the word, or the half that its offset names (R36: one 64-bit access or two 32-bit
accesses). -/
def accessMask (off width : Nat) : Word :=
  if width = 4 then (if off % 8 = 4 then 0xFFFF_FFFF_0000_0000 else 0xFFFF_FFFF) else 0xFFFF_FFFF_FFFF_FFFF

/-- The value a field of access code `a` holds after a write (R14): `v` is what is written, `m` the part of the register that the write covers. -/
def writeField (locked : Bool) (m v : Word) (r : Word) (f : FieldSpec) : Word :=
  let fm := f.fld.mask &&& m
  match f.acc with
  | .rw => (r &&& ~~~ fm) ||| (v &&& fm)
  | .rwl => if locked then r else (r &&& ~~~ fm) ||| (v &&& fm)
  | .w1s => r ||| (v &&& fm)
  | .w1c => r &&& ~~~ (v &&& fm)
  | .ro => r
  | .rc => r
  | .wo => r
  | .sc => r

/-- Write every field of a register; bits outside its fields are reserved and keep reading zero (R17). -/
def writeFields (locked : Bool) (m v : Word) : List FieldSpec → Word → Word
  | [], r => r
  | f :: fs, r => writeFields locked m v fs (writeField locked m v r f)

/-- Whether the LOCK bit that governs a register's RWL fields is set (R16). -/
def State.lockedBy (s : State) (off : Nat) : LockRef → Bool
  | .none => false
  | .self b => getB (s.reg off) b
  | .at a b => getB (s.reg a) b
  | .mc b => getB (s.reg (Reg.MC_CFG ((off - 0x0200_0000) / 0x10_0000))) b

/-- The value written, moved to the half of the register that the access covers. -/
def placeValue (off width : Nat) (v : Word) : Word :=
  if width = 4 then (if off % 8 = 4 then v <<< 32 else v &&& 0xFFFF_FFFF) else v

/-- The register word at an aligned offset after a write by access codes; the same word where the offset is reserved (R17). -/
def State.written (s : State) (off width : Nat) (v : Word) : Word :=
  let a := off - off % 8
  match regDef a with
  | none => s.reg a
  | some d => writeFields (s.lockedBy a d.lock) (accessMask off width) (placeValue off width v) d.fields (s.reg a)

/-- Perform a write by access codes. -/
def State.writeReg (s : State) (off width : Nat) (v : Word) : State := s.setReg (off - off % 8) (s.written off width v)

/-- The bits that a read through RC clears (R14). -/
def rcMask : List FieldSpec → Word
  | [] => 0
  | f :: fs => (match f.acc with | .rc => f.fld.mask | _ => 0) ||| rcMask fs

/-! ### Chip and core CSR helpers -/

/-- `a mod m` differences of free-running 32-bit counts. -/
def diff32 (a b : Nat) : Nat := (a + 2 ^ 32 - b % 2 ^ 32) % 2 ^ 32

end Sys2Proof.Machine
end

