-- ==== Sys2Proof/Machine/Operands.lean ====
section
/-!
DEFINITION. Operand forms and integer results: registers x0 to x31 with x0 wired to zero, and the results of the integer instructions of the
published RISC-V unprivileged ISA that R97 names (the spec gives their counts and not their results: PRESUMED, notes/assumptions/8.md).
-/
namespace Sys2Proof.Machine

/-- Read an integer register; x0 reads zero. -/
def Core.rx (c : Core) (r : Nat) : Word := if r = 0 then 0 else Tbl.get (fun _ => 0) c.x r

/-- Write an integer register; a write to x0 changes nothing (R106). -/
def Core.wx (c : Core) (r : Nat) (v : Word) : Core := if r = 0 then c else { c with x := Tbl.set (fun _ => 0) c.x r v }

/-- Read a floating-point register. -/
def Core.rf (c : Core) (r : Nat) : Word := Tbl.get (fun _ => 0) c.fr r
/-- Write a floating-point register. -/
def Core.wf (c : Core) (r : Nat) (v : Word) : Core := { c with fr := Tbl.set (fun _ => 0) c.fr r v }
/-- Read a vector register. -/
def Core.rv (c : Core) (r : Nat) : BitVec 256 := Tbl.get (fun _ => 0) c.vr r
/-- Write a vector register. -/
def Core.wv (c : Core) (r : Nat) (v : BitVec 256) : Core := { c with vr := Tbl.set (fun _ => 0) c.vr r v }

/-- A single-precision value boxed into a 64-bit register (the published NaN-boxing). -/
def boxS (v : BitVec 32) : Word := (0xFFFF_FFFF : BitVec 32) ++ v

/-- Sign extension of the low 32 bits. -/
def sx32 (v : Word) : Word := (v.setWidth 32).signExtend 64

/-- Set-less-than results. -/
def ofB (b : Bool) : Word := if b then 1 else 0

/-- Count of leading zeros among the low `n` bits. -/
def clzN (v : Word) : Nat → Nat
  | 0 => 0
  | n + 1 => if getB v n then 0 else 1 + clzN v n

/-- Count of trailing zeros from bit `i`, `n` bits at most. -/
def ctzN (v : Word) (i : Nat) : Nat → Nat
  | 0 => 0
  | n + 1 => if getB v i then 0 else 1 + ctzN v (i + 1) n

/-- Each non-zero byte becomes 0xFF (orc.b). -/
def orcB (v : Word) : Word :=
  BitVec.ofNat 64 (leWord ((leBytes 8 v.toNat).map (fun b => if b = 0 then 0 else 0xFF)))

/-- Signed division, rounding to zero, with the published results for a zero divisor and for overflow. -/
def divS (w : Nat) (a b : BitVec w) : BitVec w := if b = 0 then BitVec.allOnes w else BitVec.ofInt w (Int.tdiv a.toInt b.toInt)
def remS (w : Nat) (a b : BitVec w) : BitVec w := if b = 0 then a else BitVec.ofInt w (Int.tmod a.toInt b.toInt)
def divU (w : Nat) (a b : BitVec w) : BitVec w := if b = 0 then BitVec.allOnes w else a / b
def remU (w : Nat) (a b : BitVec w) : BitVec w := if b = 0 then a else a % b

/-- The integer result of each operation. -/
def aluResult (op : AluOp) (a b : Word) : Word :=
  let sh := b.toNat % 64
  let shw := b.toNat % 32
  let aw : BitVec 32 := a.setWidth 32
  let bw : BitVec 32 := b.setWidth 32
  let uw : Word := aw.setWidth 64
  match op with
  | .add => a + b
  | .sub => a - b
  | .sll => a <<< sh
  | .slt => ofB (a.slt b)
  | .sltu => ofB (a.ult b)
  | .xor => a ^^^ b
  | .srl => a >>> sh
  | .sra => a.sshiftRight sh
  | .or => a ||| b
  | .and => a &&& b
  | .addw => sx32 (a + b)
  | .subw => sx32 (a - b)
  | .sllw => (aw <<< shw).signExtend 64
  | .srlw => (aw >>> shw).signExtend 64
  | .sraw => (aw.sshiftRight shw).signExtend 64
  | .mul => a * b
  | .mulh => BitVec.ofInt 64 (a.toInt * b.toInt / 2 ^ 64)
  | .mulhsu => BitVec.ofInt 64 (a.toInt * (b.toNat : Int) / 2 ^ 64)
  | .mulhu => BitVec.ofNat 64 (a.toNat * b.toNat / 2 ^ 64)
  | .mulw => sx32 (a * b)
  | .div => divS 64 a b
  | .divu => divU 64 a b
  | .rem => remS 64 a b
  | .remu => remU 64 a b
  | .divw => (divS 32 aw bw).signExtend 64
  | .divuw => (divU 32 aw bw).signExtend 64
  | .remw => (remS 32 aw bw).signExtend 64
  | .remuw => (remU 32 aw bw).signExtend 64
  | .addUw => b + uw
  | .sh1add => b + (a <<< 1)
  | .sh2add => b + (a <<< 2)
  | .sh3add => b + (a <<< 3)
  | .sh1addUw => b + (uw <<< 1)
  | .sh2addUw => b + (uw <<< 2)
  | .sh3addUw => b + (uw <<< 3)
  | .slliUw => uw <<< sh
  | .andn => a &&& ~~~ b
  | .orn => a ||| ~~~ b
  | .xnor => ~~~ (a ^^^ b)
  | .clz => BitVec.ofNat 64 (clzN a 64)
  | .ctz => BitVec.ofNat 64 (ctzN a 0 64)
  | .cpop => BitVec.ofNat 64 (popcount a 64)
  | .clzw => BitVec.ofNat 64 (clzN a 32)
  | .ctzw => BitVec.ofNat 64 (ctzN a 0 32)
  | .cpopw => BitVec.ofNat 64 (popcount a 32)
  | .max => if a.slt b then b else a
  | .maxu => if a.ult b then b else a
  | .min => if a.slt b then a else b
  | .minu => if a.ult b then a else b
  | .sextB => (a.setWidth 8).signExtend 64
  | .sextH => (a.setWidth 16).signExtend 64
  | .zextH => (a.setWidth 16).setWidth 64
  | .rol => a.rotateLeft sh
  | .ror => a.rotateRight sh
  | .rolw => (aw.rotateLeft shw).signExtend 64
  | .rorw => (aw.rotateRight shw).signExtend 64
  | .orcB => orcB a
  | .rev8 => BitVec.ofNat 64 (beWord (leBytes 8 a.toNat))
  | .bclr => a &&& ~~~ bitW sh
  | .bext => ofB (getB a sh)
  | .binv => a ^^^ bitW sh
  | .bset => a ||| bitW sh
  | .czeroEqz => if b = 0 then 0 else a
  | .czeroNez => if b = 0 then a else 0

/-- Whether a conditional branch is taken. -/
def branchTaken (op : BranchOp) (a b : Word) : Bool :=
  match op with
  | .beq => a == b
  | .bne => a != b
  | .blt => a.slt b
  | .bge => !a.slt b
  | .bltu => a.ult b
  | .bgeu => !a.ult b

/-- An AMO's new memory value, over `8 * width` bits. -/
def amoResult (op : AmoOp) (width : Nat) (m v : Word) : Word :=
  let lt (a b : Word) : Bool := if width = 4 then (a.setWidth 32).slt (b.setWidth 32) else a.slt b
  let ult (a b : Word) : Bool := if width = 4 then (a.setWidth 32).ult (b.setWidth 32) else a.ult b
  match op with
  | .swap => v
  | .add => m + v
  | .xor => m ^^^ v
  | .and => m &&& v
  | .or => m ||| v
  | .min => if lt m v then m else v
  | .max => if lt m v then v else m
  | .minu => if ult m v then m else v
  | .maxu => if ult m v then v else m

/-- A loaded value of `width` bytes, extended to a register. -/
def extendLoad (sx : Bool) (width : Nat) (v : Nat) : Word :=
  if sx then sext (8 * width) v else BitVec.ofNat 64 (v % 2 ^ (8 * width))

end Sys2Proof.Machine
end

