-- ==== Sys2Proof/Machine/Csr.lean ====
section
/-!
DEFINITION. The CSR map of R159 and R160: reset values, writable bits, lowest levels; the level and counter-enable checks (R157, R161); pending
interrupts (R164, R165), delegation (R169, R170) and selection (R171); event counters (R100 to R104).
-/
namespace Sys2Proof.Machine

/-- The number of a level (R155). -/
def Level.num : Level → Nat
  | .u => 0 | .s => 1 | .h => 2 | .f => 3

/-- The level of a number; 3 and above is F. -/
def levelOf (n : Nat) : Level := if n = 0 then .u else if n = 1 then .s else if n = 2 then .h else .f

/-- The first CSR number of a level's set (R159). U has none and uses S's. -/
def Level.base : Level → Nat
  | .u => 0x5C0 | .s => 0x5C0 | .h => 0x6C0 | .f => 0x7C0

namespace C
/-- CSR numbers of R159 and of the published ISA (R160). -/
def fflags : Nat := 0x001
def frm : Nat := 0x002
def fcsr : Nat := 0x003
def vstart : Nat := 0x008
def vxsat : Nat := 0x009
def vxrm : Nat := 0x00A
def vcsr : Nat := 0x00F
def vl : Nat := 0xC20
def vtype : Nat := 0xC21
def vlenb : Nat := 0xC22
def cycle : Nat := 0xC00
def time : Nat := 0xC01
def instret : Nat := 0xC02
def fIdeleg : Nat := 0x7CB
def hIdeleg : Nat := 0x6CB
def fEdeleg : Nat := 0x7CA
def hEdeleg : Nat := 0x6CA
def fMcvec : Nat := 0x7C6
def fMcinfo : Nat := 0x7CF
def fMcaddr : Nat := 0x7D0
def hTimecmp : Nat := 0x6CF
def sTimecmp : Nat := 0x5CF
def hPart : Nat := 0x6D0
def hTransctl : Nat := 0x6D1
def hSpecctl : Nat := 0x6D2
def hpmsel (i : Nat) : Nat := 0x6D0 + i
def hpm (i : Nat) : Nat := 0xC00 + i
def hCoreid : Nat := 0x6E3
def hIsa : Nat := 0x6E4
def pacectl : Nat := 0x6F0
def pairctl : Nat := 0x6F1
def predctl : Nat := 0x6F2
def sAsid : Nat := 0x5D0
end C

/-- Reset values (R159, R58, R150, R162). vtype resets to the published vill state (notes/assumptions/6.md). -/
def csrReset (n : Nat) : Word :=
  if n = 0x7C0 then 0x2006
  else if n = 0x6C0 then 0x2004
  else if n = 0x5C0 then 0x2002
  else if n = 0x7CB ∨ n = 0x6CB then 0x40
  else if n = 0x6CF ∨ n = 0x5CF then 0xFFFF_FFFF_FFFF_FFFF
  else if n = C.pacectl then 0xE00
  else if n = C.predctl then 1
  else if n = C.vtype then 0x8000_0000_0000_0000
  else 0

/-- The stored value of a CSR. -/
def Core.csrv (c : Core) (n : Nat) : Word := Tbl.get csrReset c.csr n
/-- Store a CSR. -/
def Core.setCsr (c : Core) (n : Nat) (v : Word) : Core := { c with csr := Tbl.set csrReset c.csr n v }
/-- A bit of a CSR. -/
def Core.csrBit (c : Core) (n i : Nat) : Bool := getB (c.csrv n) i
/-- A field of a CSR. -/
def Core.csrF (c : Core) (n lo w : Nat) : Nat := getF (c.csrv n) ⟨lo, w⟩
/-- Write a field of a CSR. -/
def Core.setCsrF (c : Core) (n lo w v : Nat) : Core := c.setCsr n (setF (c.csrv n) ⟨lo, w⟩ v)

/-! ### Reading the core's mode -/

/-- Slack-water mode (R56, R58). -/
def Core.isSlack (c : Core) : Bool := c.csrBit C.pacectl 0
/-- STRICT (R58): it acts in slack water (R131, R132). -/
def Core.isStrict (c : Core) : Bool := c.isSlack && c.csrBit C.pacectl 2
/-- The partition in effect (R156). -/
def Core.part (c : Core) : Nat := if 2 ≤ c.level.num then 0 else c.csrF C.hPart 0 6
/-- H_PART.PID. -/
def Core.pid (c : Core) : Nat := c.csrF C.hPart 0 6
/-- The core is one of an active pair (R69). -/
def Core.paired (c : Core) : Bool := c.csrBit C.pairctl 1
/-- WARNFILL in effect (R58: 0 acts as 1, above 16 as 16). -/
def Core.warnFill (c : Core) : Nat :=
  let w := c.csrF C.pacectl 8 5
  if w = 0 then 1 else if 16 < w then 16 else w

/-! ### The map -/

/-- CSRs of a level's set that exist at S (R159). -/
def sSet (o : Nat) : Bool := o < 6 || o == 7 || o == 8 || o == 9 || (0xC ≤ o && o ≤ 0x10)

/-- Whether a CSR number is implemented (R159, R160); the vector CSRs only with the vector unit (R8). -/
def csrExists (vec : Bool) (n : Nat) : Bool :=
  (0x7C0 ≤ n && n ≤ 0x7D0) || n == 0x7E0 || (0x7E2 ≤ n && n ≤ 0x7FF) ||
  (0x6C0 ≤ n && n ≤ 0x6C5) || (0x6C7 ≤ n && n ≤ 0x6E4) || (0x6F0 ≤ n && n ≤ 0x6F2) ||
  (0x5C0 ≤ n && n ≤ 0x5D0 && sSet (n - 0x5C0)) ||
  (1 ≤ n && n ≤ 3) || (0xC00 ≤ n && n ≤ 0xC1F) ||
  (vec && (n == 8 || n == 9 || n == 0xA || n == 0xF || n == 0xC20 || n == 0xC21 || n == 0xC22))

/-- The lowest level that may read (R159, R160). -/
def csrReadLevel (n : Nat) : Level :=
  if 0x7C0 ≤ n ∧ n ≤ 0x7D0 then .f
  else if 0x6C0 ≤ n ∧ n ≤ 0x7FF then .h
  else if 0x5C0 ≤ n ∧ n ≤ 0x5D0 then .s
  else .u

/-- The lowest level that may write (R159). -/
def csrWriteLevel (n : Nat) : Level :=
  if 0x5C7 ≤ n ∧ n ≤ 0x5C9 then .h else csrReadLevel n

/-- A read-only CSR of the published ISA: a write raises 0x02 (PRESUMED, notes/assumptions/8.md). -/
def csrPublishedRo (n : Nat) : Bool := 0xC00 ≤ n

/-- The trap of an access below its lowest level `need` (R157): none where the level suffices. -/
def levelTrap (need cur : Level) : Option Nat :=
  if need.num ≤ cur.num then none
  else if need = .h ∧ cur = .s then some 0x18
  else some 0x02

/-- The bits that a software write changes (R58, R102, R150, R159, R162 to R166, R191, R192). -/
def csrMask (n : Nat) : Word :=
  let lvl := 0x5C0 ≤ n ∧ n ≤ 0x5CF ∨ 0x6C0 ≤ n ∧ n ≤ 0x6CF ∨ 0x7C0 ≤ n ∧ n ≤ 0x7CF
  let o := n % 0x100 - 0xC0
  if n = C.fEdeleg then 0x01FF_F7FE
  else if n = C.hEdeleg then 0x00F4_F1FE
  else if n = C.fIdeleg then 0x3E
  else if n = C.hIdeleg then 0x3A
  else if n = 0x7C0 then 0x1_3F07
  else if n = C.fMcinfo then 0x3F_3FFF
  else if n = C.hTimecmp ∨ n = C.sTimecmp then 0xFFFF_FFFF_FFFF_FFFF
  else if lvl then
    if o = 0 then 0x3F07
    else if o = 1 then 0x801F_1FFF_0000_001F
    else if o = 2 then 0xFFFF_FFFF_FFFF_FFFE
    else if o = 3 then 0xFFFF_FFFF_FFFF_FFFF
    else if o = 4 then 0x1FF
    else if o = 5 ∨ o = 6 then 0xFFFF_FFFF_FFFF_FFFC
    else if o = 7 ∨ o = 8 then 0xF_FF00
    else if o = 9 then 0xFFFF_FFFF_FFF0_0000
    else if o = 0xC then 0x7E
    else if o = 0xE then 0xFFFF_FFFF
    else 0
  else if n = C.fMcaddr then 0xFFFF_FFFF_FFFF_FFFF
  else if n = C.sAsid then 0xFFFF
  else if n = C.hPart then 0x3F
  else if n = C.hTransctl then 0xFFFF_0007
  else if n = C.hSpecctl then 3
  else if 0x6D3 ≤ n ∧ n ≤ 0x6E2 then 0x7F_03FF
  else if n = C.pacectl then 0x3F07
  else if n = C.predctl then 0xF_3F13
  else if n = C.fcsr then 0xFF
  else if n = C.vstart then 0xFF
  else if n = C.vcsr then 7
  else if 0xC00 ≤ n ∧ n ≤ 0xC12 then 0xFFFF_FFFF_FFFF_FFFF
  else 0

/-- The stored CSR that a number is a view of: the writable aliases of R159 and the parts of fcsr and vcsr. -/
def csrHome (n : Nat) : Nat :=
  if n = 0x7E0 then C.cycle else if 0x7E2 ≤ n ∧ n ≤ 0x7FF then 0xC00 + (n - 0x7E0)
  else if n = C.fflags ∨ n = C.frm then C.fcsr
  else if n = C.vxsat ∨ n = C.vxrm then C.vcsr
  else n

/-! ### Interrupts pending at a core (R164, R165) -/

/-- Any selector has OF = 1 and INTEN = 1 (R104). -/
def Core.overflowPending (c : Core) : Bool :=
  (List.range 16).any (fun i => c.csrBit (C.hpmsel (i + 3)) 23 && c.csrBit (C.hpmsel (i + 3)) 22)

/-- The pending interrupts: code, priority, source, edge number (R164). -/
def State.pendings (s : State) (n : Nat) : List (Nat × Nat × Nat × Nat) :=
  let c := s.core n
  (if (c.csrv C.sTimecmp).toNat ≤ s.now then [(1, 16, 0, 0)] else []) ++
  (if (c.csrv C.hTimecmp).toNat ≤ s.now then [(2, 8, 0, 0)] else []) ++
  (if c.overflowPending then [(3, 24, 0, 0)] else []) ++
  (if s.flag (Reg.CORE_PACESTAT n) F.CORE_PACESTAT_WARN && c.csrBit C.pacectl 13 then [(4, 4, 0, 0)] else []) ++
  c.offers.map (fun o => (o.code, o.prio, o.src, o.num))

/-- The target level of interrupt code `k` (R164, R170). -/
def Core.intTarget (c : Core) (k : Nat) : Level :=
  if k = 6 then .s
  else if !c.csrBit C.fIdeleg k then .f
  else if c.csrBit C.hIdeleg k && !(k == 2) then .s
  else .h

/-- ITHRESH of a level in effect (R162: 33 to 63 act as 32). -/
def Core.ithresh (c : Core) (t : Level) : Nat := let h := c.csrF t.base 8 6; if 32 < h then 32 else h

/-- Whether an interrupt of code `k` and priority `p` is recognisable at level `l` (R170). -/
def Core.recognisable (c : Core) (l : Level) (k p : Nat) : Bool :=
  let t := c.intTarget k
  c.csrBit (t.base + 0xC) k &&
    (decide (l.num < t.num) || (l == t && c.csrBit t.base 0 && decide (p < c.ithresh t)))

/-- The order of R171, rules 2 to 5: whether the first of two interrupts is selected. -/
def Core.before (c : Core) (a b : Nat × Nat × Nat × Nat) : Bool :=
  let ta := (c.intTarget a.1).num
  let tb := (c.intTarget b.1).num
  if ta ≠ tb then decide (tb < ta)
  else if a.2.1 ≠ b.2.1 then decide (a.2.1 < b.2.1)
  else if a.1 ≠ b.1 then decide (a.1 < b.1)
  else decide (a.2.2.1 < b.2.2.1)

/-- The first of a list under R171. -/
def Core.selectFrom (c : Core) : List (Nat × Nat × Nat × Nat) → Option (Nat × Nat × Nat × Nat)
  | [] => none
  | a :: r => match c.selectFrom r with
    | none => some a
    | some b => if c.before b a then some b else some a

/-- The interrupt a core recognises at level `l` (R170, R171). -/
def State.selectInt (s : State) (n : Nat) (l : Level) : Option (Nat × Nat × Nat × Nat) :=
  let c := s.core n
  c.selectFrom ((s.pendings n).filter (fun q => c.recognisable l q.1 q.2.1))

/-- IPEND of a level (R165). -/
def State.ipend (s : State) (n : Nat) (t : Level) : Word :=
  let c := s.core n
  ((s.pendings n).filter (fun q => c.intTarget q.1 == t)).foldl (fun w q => w ||| bitW q.1) 0

/-- Whether an interrupt wakes a core from HALT (R184): enabled at its target and of higher priority than the threshold. -/
def State.haltWake (s : State) (n : Nat) : Bool :=
  let c := s.core n
  (s.pendings n).any (fun q => let t := c.intTarget q.1
    c.csrBit (t.base + 0xC) q.1 && decide (q.2.1 < c.ithresh t))

/-! ### Reading a CSR -/

/-- The value a read returns. -/
def State.csrRead (s : State) (n num : Nat) : Word :=
  let c := s.core n
  let h := csrHome num
  if num = C.fflags then c.csrv C.fcsr &&& 0x1F
  else if num = C.frm then (c.csrv C.fcsr >>> 5) &&& 7
  else if num = C.vxsat then c.csrv C.vcsr &&& 1
  else if num = C.vxrm then (c.csrv C.vcsr >>> 1) &&& 3
  else if num = C.time then s.reg Reg.CHIP_TTNOW
  else if num = C.vlenb then 32
  else if 0xC13 ≤ h ∧ h ≤ 0xC1F then 0
  else if num = C.hCoreid then BitVec.ofNat 64 n
  else if num = C.hIsa then BitVec.ofNat 64 (b2n s.fuse.vec + 2 * b2n s.fuse.pair)
  else if num = 0x7CD then s.ipend n .f
  else if num = 0x6CD then s.ipend n .h
  else if num = 0x5CD then s.ipend n .s
  else c.csrv h

/-- A plain software write: the writable bits change and OF of a selector is W1C (R102, R160). -/
def Core.csrWrite (c : Core) (num : Nat) (v : Word) : Core :=
  let h := csrHome num
  let old := c.csrv h
  if num = C.fflags then c.setCsr C.fcsr ((old &&& 0xE0) ||| (v &&& 0x1F))
  else if num = C.frm then c.setCsr C.fcsr ((old &&& 0x1F) ||| ((v &&& 7) <<< 5))
  else if num = C.vxsat then c.setCsr C.vcsr ((old &&& 6) ||| (v &&& 1))
  else if num = C.vxrm then c.setCsr C.vcsr ((old &&& 1) ||| ((v &&& 3) <<< 1))
  else
    let m := csrMask h
    let w := (old &&& ~~~ m) ||| (v &&& m)
    c.setCsr h (if 0x6D3 ≤ num ∧ num ≤ 0x6E2 ∧ getB v 23 = true then setB w 23 false else w)

/-- The counter-enable checks of R161 for a counter read at level `l`, in order. -/
def Core.counterTrap (c : Core) (l : Level) (num : Nat) : Option Nat :=
  if num < 0xC00 ∨ 0xC1F < num then none
  else
    let i := num - 0xC00
    if l.num ≤ 2 ∧ c.csrBit 0x7CE i = false then some 0x02
    else if l.num ≤ 1 ∧ c.csrBit 0x6CE i = false then some 0x18
    else if l.num = 0 ∧ c.csrBit 0x5CE i = false then some 0x02
    else none

/-! ### Event counters (R101 to R104) -/

/-- Whether selector `i` counts event `ev` now: its level bit and its mode bit are 1 (R102). -/
def Core.counts (c : Core) (i ev : Nat) : Bool :=
  c.csrF (C.hpmsel i) 0 10 == ev && c.csrBit (C.hpmsel i) (16 + c.level.num) && c.csrBit (C.hpmsel i) (if c.isSlack then 21 else 20)

/-- Add `k` to counter `i`; a wrap sets OF (R104). -/
def Core.addCounter (c : Core) (i k : Nat) : Core :=
  let v := (c.csrv (C.hpm i)).toNat + k
  let c1 := c.setCsr (C.hpm i) (BitVec.ofNat 64 v)
  if 2 ^ 64 ≤ v then c1.setCsr (C.hpmsel i) (setB (c1.csrv (C.hpmsel i)) 23 true) else c1

/-- Count `k` occurrences of event `ev` on every programmed counter (R102, R103). -/
def Core.event (c : Core) (ev k : Nat) : Core :=
  if k = 0 then c
  else (List.range 16).foldl (fun c i => if c.counts (i + 3) ev then c.addCounter (i + 3) k else c) c

/-- Count each event of a list once. -/
def Core.events (c : Core) (evs : List Nat) : Core := evs.foldl (fun c e => c.event e 1) c

/-- Add to `cycle` (R63). -/
def Core.addCycles (c : Core) (k : Nat) : Core := if k = 0 then c else c.setCsr C.cycle (c.csrv C.cycle + BitVec.ofNat 64 k)

/-- Retire one instruction of `uops` µops: `instret`, events 0x001 and 0x002 (R100, R103), and the counts that run in retirements: the age of a
reservation (R85) and a pending key (R148). -/
def Core.retire (c : Core) (uops : Nat) : Core :=
  let c1 := ((c.setCsr C.instret (c.csrv C.instret + 1)).event 0x001 1).event 0x002 uops
  { c1 with
    resvAge := if c1.resv.isSome then c1.resvAge + 1 else 0,
    pred := { c1.pred with newKey := c1.pred.newKey.map (fun q => (q.1, q.2.1, q.2.2 - 1)) } }

/-! ### Prediction history (R143, R146, R152) -/

/-- Clear the history and empty the return stack, working and retired. -/
def Pred.clearHist (p : Pred) : Pred := { p with hist := 0, histRet := 0, rstack := [], rstackRet := [] }
/-- Restore the working copies from the retired copy (R143). -/
def Pred.restore (p : Pred) : Pred := { p with hist := p.histRet, rstack := p.rstackRet }
/-- A discard of unretired instructions: working copies restored, a waiting key takes effect (R143, R148). -/
def Core.discard (c : Core) : Core := { c with pred := { c.pred.restore with newKey := c.pred.newKey.map (fun q => (q.1, q.2.1, 0)) } }
/-- The key-store slot of the current context (R135, R144). -/
def Core.keySlot (c : Core) : Nat := 4 * c.part + c.level.num
/-- A change of context (R146). -/
def Core.contextChange (c : Core) : Core :=
  { c with pred := if c.csrBit C.predctl 1 then c.pred.clearHist else c.pred.restore }

/-- A trap entry or return from the state `o`: a change of context where the level or the partition in effect changed (R146). -/
def Core.contextFrom (c o : Core) : Core := if c.level = o.level ∧ c.part = o.part then c else c.contextChange

/-- Set the accrued floating-point flags (R99). -/
def Core.setFflags (c : Core) (fl : Nat) : Core :=
  if fl = 0 then c else c.setCsr C.fcsr (c.csrv C.fcsr ||| BitVec.ofNat 64 (fl % 32))

end Sys2Proof.Machine
end

