-- ==== Sys2Proof/Machine/Issue.lean ====
section
/-!
DEFINITION. Slack-water issue (R105 to R110): the step and slot in which an instruction issues, the scoreboard, and the fill of the step (R64, R65).
Registers of the scoreboard are numbered x at 0, f at 32, v at 64.
-/
namespace Sys2Proof.Machine

/-- What issue needs to know of an instruction (R105 to R107, R112). -/
structure IssueInfo where
  srcs : List Nat := []
  dsts : List Nat := []
  /-- issue steps -/
  steps : Nat := 1
  /-- result latency -/
  lat : Nat := 1
  mem : Bool := false
  arith : Bool := false
  branch : Bool := false
  alone : Bool := false
  /-- waits until every scoreboard bit is clear (R109) -/
  clear : Bool := false
  deriving DecidableEq, Repr

/-- The step from which register `r` is available. -/
def Slack.ready (k : Slack) (r : Nat) : Nat := Tbl.get (fun _ => 0) k.board r

/-- The step from which every register of a list is available; x0 has no bit (R109). -/
def Slack.readyAll (k : Slack) : List Nat → Nat
  | [] => 0
  | r :: rs => max (if r = 0 then 0 else k.ready r) (k.readyAll rs)

/-- The step from which every scoreboard bit is clear. -/
def boardClear : Tbl Nat → Nat
  | [] => 0
  | (_, v) :: r => max v (boardClear r)

/-- The first step that the scoreboard and an occupied memory slot allow (R109, R128). -/
def Slack.earliest (k : Slack) (i : IssueInfo) : Nat :=
  max (max (k.readyAll i.srcs) (k.readyAll i.dsts))
    (max (if i.clear then boardClear k.board else 0) (if i.mem then k.memHold else 0))

/-- Whether the instruction issues in slot 1 of the step of the one before it (R106). -/
def Slack.pairs (k : Slack) (i : IssueInfo) : Bool :=
  k.open1 && !i.alone && !(k.prevMem && i.mem) && !(k.prevArith && i.arith) &&
  i.srcs.all (fun r => r == 0 || !k.prevDst.contains r) && i.dsts.all (fun r => r == 0 || !k.prevDst.contains r) &&
  decide (k.earliest i ≤ k.step)

/-- The step of issue (R105). -/
def Slack.issueStep (k : Slack) (i : IssueInfo) : Nat :=
  if k.pairs i then k.step else max k.hold (k.earliest i)

/-- Set the scoreboard bits of the destinations: their results are available from step `at` (R109). -/
def Slack.mark (k : Slack) (regs : List Nat) (at_ : Nat) : Slack :=
  { k with board := regs.foldl (fun b r => if r = 0 then b else Tbl.set (fun _ => 0) b r at_) k.board }

/-- Issue an instruction. -/
def Slack.issue (k : Slack) (i : IssueInfo) : Slack :=
  let t := k.issueStep i
  let k1 : Slack :=
    if k.pairs i then { k with step := t, hold := t + i.steps, open1 := false }
    else { k with step := t, hold := t + i.steps,
                  open1 := decide (i.steps = 1) && !i.branch && !i.alone,
                  prevDst := i.dsts, prevMem := i.mem, prevArith := i.arith }
  if i.lat = 0 then k1 else k1.mark i.dsts (t + i.lat)

/-- Wait until issue is free and every scoreboard bit is clear: the boundary at which a trap is taken or an interrupt recognised (R130). -/
def Slack.settle (k : Slack) : Slack :=
  let t := max k.hold (boardClear k.board)
  { k with step := t, hold := t, open1 := false }

/-- Issue at a core in slack water; `cycle` counts the steps that pass (R63, R110). In flood mode nothing here applies. -/
def Core.issue (c : Core) (i : IssueInfo) : Core :=
  if c.isSlack then
    let k := c.slack.issue i
    { c with slack := k }.addCycles (k.step - c.slack.step)
  else c

/-- Settle a core in slack water. -/
def Core.settle (c : Core) : Core :=
  if c.isSlack then
    let k := c.slack.settle
    { c with slack := k }.addCycles (k.step - c.slack.step)
  else c

/-- Pass `k` whole steps in slack water (an entry's 24, R176). -/
def Core.passSteps (c : Core) (k : Nat) : Core :=
  if c.isSlack then
    { c with slack := { c.slack with step := c.slack.step + k, hold := c.slack.step + k, open1 := false } }.addCycles k
  else c

/-- The pace monitor's fill of a step: PEAKFILL keeps the largest, WARN is set above WARNFILL (R64, R65, R68). Inactive in flood mode (R56). -/
def State.measureFill (s : State) (n fill : Nat) : State :=
  let c := s.core n
  let a := Reg.CORE_PACESTAT n
  if c.isSlack then
    let s1 := if s.fld a F.CORE_PACESTAT_PEAKFILL < fill then s.setFld a F.CORE_PACESTAT_PEAKFILL (min fill 16) else s
    if c.warnFill < fill then s1.setFlag a F.CORE_PACESTAT_WARN true else s1
  else s

end Sys2Proof.Machine
end

