-- ==== Sys2Proof/Machine/Trap.lean ====
section
/-!
DEFINITION. Taking an exception, an interrupt or a machine check, written once (R167 to R181, R186 to R188), the end of paired mode (R73, R543,
R544), and the gate every instruction passes.
-/
namespace Sys2Proof.Machine

/-- The registers of the entry frame after EPC, STATUS, CAUSE, TVAL and TINFO: sp, ra, t0 to t2, a0 to a7 (R173). -/
def frameRegs : List Nat := [2, 1, 5, 6, 7, 10, 11, 12, 13, 14, 15, 16, 17]

/-- The level an exception of cause `k` raised at level `l` is taken at (R169). -/
def Core.excTarget (c : Core) (k : Nat) : Level :=
  if c.level.num ≤ 2 ∧ c.csrBit C.fEdeleg k = true then
    (if c.level.num ≤ 1 ∧ c.csrBit C.hEdeleg k = true then .s else .h)
  else .f

/-! ### Paired mode -/

/-- Bytes `[k, k + n)` of memory move to `k2`: contents and poison of one cast window become those of another. -/
def State.copyRange (s : State) (k k2 n : Nat) : State :=
  let s1 := s.zeroRange k2 n
  let s2 := (s.mem.filter (fun c => decide (k ≤ c.1) && decide (c.1 < k + n))).foldl
    (fun s c => s.setByte (c.1 - k + k2) c.2 false) s1
  (s.memPoison.filter (fun c => decide (k ≤ c.1) && decide (c.1 < k + n))).foldl
    (fun s c => { s with memPoison := Tbl.set (fun _ => false) s.memPoison (c.1 - k + k2) c.2 }) s2

/-- The right core's architectural state is that of the left core: one copy is kept while the pair runs, and it is given to the right core when
paired mode ends (R72, R73; notes/assumptions/9.md). -/
def Core.takeFrom (r l : Core) : Core :=
  { r with x := l.x, fr := l.fr, vr := l.vr, pc := l.pc, level := l.level,
           csr := Tbl.set csrReset l.csr C.pairctl (r.csrv C.pairctl) }

/-- End paired mode of tile `t` (R73, R543): ACTIVE, RIGHT and EN read 0 and the right core's window holds its copy of the data. -/
def State.endPair (s : State) (t : Nat) : State :=
  let l := s.core (2 * t)
  let r := (s.core (2 * t + 1)).takeFrom l
  let s1 := (s.setCore (2 * t) (l.setCsr C.pairctl 0)).setCore (2 * t + 1) (r.setCsr C.pairctl 0)
  s1.copyRange (castBase (2 * t)) (castBase (2 * t + 1)) 0x6_0000

/-- The core whose cast window core `n` addresses: the left core of an active pair (R72). -/
def State.ownWindow (s : State) (n : Nat) : Nat := if (s.core n).paired then n - n % 2 else n

/-! ### Starting an entry -/

/-- A core checkstop (R188): it stops, keeps its state, and the service processor learns its number. Severity 3 (R554). -/
def State.checkstop (s : State) (n : Nat) : State :=
  let c := s.core n
  ((s.setCore n { c with run := .checkstop, entry := none }).send (.toService n)).failure (unitCore n) 3 (some c.part) 0 0

/-- The core is inside an instruction that cannot be discarded: an access its target has not answered that is no DRAM read of flood mode (R29, R75), or, in
slack water, any outstanding result (R130). -/
def Core.midway (c : Core) : Bool :=
  !c.devs.isEmpty || c.tlbib.isSome || (c.isSlack && (!c.loads.isEmpty || !c.amos.isEmpty)) ||
  c.loads.any (fun w => match regionOf w.pa with | .dram => false | .coreCast _ => false | .sharedCast _ => false | _ => true)

/-- Begin an entry (R174, R176 step 0): the choices are made and nothing is written. A trap ends the reservation (R85), discards unretired
instructions (R75, R143), and brings a core out of HALT. -/
def State.startEntry (s : State) (n : Nat) (e : EntrySt) : State :=
  let c := (s.core n).settle.discard
  s.setCore n { c with entry := some e, resv := none, resvAge := 0, run := .run, loads := [], amos := [] }

/-- A core that takes entries: executing or in HALT. A stopped core, or one that a CORE reset has stopped, takes none (R188, R595). -/
def RunState.takes : RunState → Bool
  | .run => true | .halt => true | .held => false | .retain => false | .off => false | .checkstop => false | .pairHalt => false | .resetting => false

/-- Raise an exception of cause `k` at the instruction at `pc` (R167, R169, R174). Entries for 0x15 open the interval of R67. -/
def State.raise (s : State) (n k : Nat) (tval tinfo : Word) : State :=
  let c := s.core n
  -- R130: once every scoreboard bit set by older instructions is clear
  if !c.run.takes || (c.isSlack && !c.loads.isEmpty) then s else
  let s1 := s.startEntry n { kind := .exception, target := c.excTarget k, from_ := c.level, cause := BitVec.ofNat 64 k,
                             tval := tval, tinfo := tinfo, epc := c.pc }
  if k = 0x15 then s1.setCore n { s1.core n with slipPending := false, slipDepth := some 0 } else s1

/-- TINFO of a fault (R168). -/
def tinfo (stage level access : Nat) (half2 : Bool) : Word :=
  BitVec.ofNat 64 (stage % 4 + 4 * (level % 8) + 32 * (access % 8) + 256 * b2n half2)

/-- SCOPE of a machine check by KIND (R187, R537). -/
def mcScope (kind : Nat) (l : Level) (part : Nat) : Nat :=
  if kind = 3 then (if part = 0 then 2 else 1)
  else if kind = 4 ∨ kind = 6 then 0
  else if kind = 5 then (if l = .s then 1 else 2)
  else if l.num ≤ 1 then 1 else 2

/-- The machine-check record of R186. -/
def mkMc (c : Core) (kind : Nat) (sync : Bool) (addr : Option Nat) (l : Level) (part : Nat) : McInfo :=
  { kind := kind, sync := sync, addrv := addr.isSome, addr := addr.getD 0, level := c.level.num,
    scope := mcScope kind l part, part := part }

/-- Take a machine check: at F, at F_MCVEC, whatever the level (R186). It takes over an entry in its first 20 steps (R177), waits past them, and
stops the core when one is active (R188). A waiting interrupt entry is dropped unaccepted. In a core that takes no entry any more, an error that a drain
reports is logged with severity 1 (R595). -/
def State.takeMc (s : State) (n : Nat) (i : McInfo) (epc : Word) (detail : Nat) : State :=
  let c := s.core n
  if !c.run.takes then s.detect { unit := unitCore n, sev := some 1, part := some i.part, addr := i.addr }
  else if c.csrBit 0x7C0 16 then s.checkstop n
  else
    let past := match c.entry with | some e => e.slot.isSome | none => false
    if past || c.switch.isSome || c.pairCopy.isSome || c.midway then s.setCore n { c with mcPending := some i }
    else
      let frm := match c.entry with | some e => e.from_ | none => c.level
      let s1 := s.detect { unit := unitCore n, sev := some 2, part := some i.part, kind := i.kind, detail := detail,
                           addr := i.addr, scope := i.scope }
      let s2 := s1.startEntry n { kind := .machineCheck, target := .f, from_ := frm, cause := 0x1F, tval := 0, tinfo := 0,
                                  epc := epc, mc := some i,
                                  late := match c.entry with | some e => e.late | none => [] }
      -- an entry for 0x15 taken over is lost (R177)
      let lost : Bool := match c.entry with | some e => e.cause == 0x15 && e.kind == .exception | none => false
      s2.setCore n { s2.core n with mcPending := none, slipDepth := if lost then none else (s2.core n).slipDepth }

/-- A machine check arises in core `n` (R186). In one core of an active pair it also ends paired mode, and the other core takes KIND 0x06 with
DETAIL 1 (R544). -/
def State.machineCheck (s : State) (n kind : Nat) (sync : Bool) (addr : Option Nat) (part : Nat) (epc : Word) : State :=
  let c := s.core n
  let i := mkMc c kind sync addr c.level part
  if c.paired then
    let m := n - n % 2 + (1 - n % 2)
    let s1 := s.endPair (n / 2)
    let d := s1.core m
    (s1.takeMc n i epc 0).takeMc m (mkMc d 6 false none d.level d.part) d.pc 1
  else s.takeMc n i epc 0

/-- Both cores of tile `t` stop on a pair halt (R546): as a core checkstop, one record of severity 4 with the left core's number. -/
def State.pairHalt (s : State) (t : Nat) : State :=
  let l := s.core (2 * t)
  let r := s.core (2 * t + 1)
  ((((s.setCore (2 * t) { l with run := .pairHalt, entry := none }).setCore (2 * t + 1) { r with run := .pairHalt, entry := none }).send
    (.toService (2 * t))).send (.toService (2 * t + 1))).failure (unitCore (2 * t)) 4 none 0 (2 * t)

/-- A pair divergence of tile `t` (R543), or a pair halt while a joint recovery is open or either core has MCA = 1 (R546). -/
def State.diverge (s : State) (t : Nat) (joint : Bool) : State :=
  let mca := (s.core (2 * t)).csrBit 0x7C0 16 || (s.core (2 * t + 1)).csrBit 0x7C0 16
  let s1 := s.endPair t
  if joint || mca then s1.pairHalt t
  else
    let l := s1.core (2 * t)
    let r := s1.core (2 * t + 1)
    (s1.takeMc (2 * t) (mkMc l 6 false none l.level l.part) l.pc 0).takeMc (2 * t + 1) (mkMc r 6 false none r.level r.part) r.pc 0

/-- CAUSE of an interrupt entry (R163). -/
def intCause (code prio src : Nat) : Word :=
  BitVec.ofNat 64 (code % 32 + 2 ^ 32 * (src % 8192) + 2 ^ 48 * (prio % 32) + 2 ^ 63)

/-- The entry for a selected interrupt (R170, R174). -/
def Core.intEntry (c : Core) (l : Level) (epc : Word) (late : List StEnt) (q : Nat × Nat × Nat × Nat) : EntrySt :=
  { kind := .interrupt q.1 q.2.2.1 q.2.2.2, target := c.intTarget q.1, from_ := l,
    cause := intCause q.1 q.2.1 (if q.1 = 5 ∨ q.1 = 6 then q.2.2.1 else 0), tval := 0, tinfo := 0, epc := epc, prio := q.2.1, late := late }

/-! ### Waking from HALT -/

/-- A core in HALT for which an enabled interrupt of sufficient priority is pending leaves HALT (R184): it enters the interrupt where R170 allows,
otherwise it continues at its resume address. During an entry into RETAIN or OFF it stays in HALT (R569). -/
def State.wakeHalt (s : State) (n : Nat) : State :=
  let c := s.core n
  if c.run = .halt ∧ s.domState n ≠ 3 ∧ s.haltWake n = true then
    match s.selectInt n c.level with
    | some q => s.startEntry n (c.intEntry c.level c.pc [] q)
    | none => s.setCore n { c with run := .run }
  else s

/-! ### The entry's slot (R172 to R175) -/

/-- The top of the slot of an entry: the slot is the 256 bytes below it. -/
def Core.slotTop (c : Core) (t p : Level) : Nat :=
  let frame := (c.csrv (t.base + 7)).toNat
  let lim := (c.csrv (t.base + 8)).toNat
  let d := (c.rx 2 - c.csrv (t.base + 9)).toNat
  if p = t ∧ lim ≤ d ∧ d < frame then d - d % 256 else frame

/-- The slot is valid: its offset is at least FRAMELIM and it lies in the populated part of the own cast window (R172). -/
def State.slotValid (s : State) (n : Nat) (t : Level) (top : Nat) : Bool :=
  decide (((s.core n).csrv (t.base + 8)).toNat + 256 ≤ top) && decide (top ≤ s.corePop (s.ownWindow n))

/-- The 18 words of the slot (R173). -/
def Core.slotWords (c : Core) (e : EntrySt) : List Word :=
  let st := setF (c.csrv e.target.base) ⟨1, 2⟩ e.from_.num
  [e.epc, st, e.cause, e.tval, e.tinfo] ++ frameRegs.map c.rx

/-- Write words to memory, little-endian. -/
def State.setWords (s : State) (k : Nat) (ws : List Word) : State :=
  s.setBytes k (ws.flatMap (fun w => leBytes 8 w.toNat))

/-- Read a little-endian 64-bit word of memory. -/
def State.word (s : State) (k : Nat) : Word := BitVec.ofNat 64 (leWord (s.bytes k 8))

/-! ### The gate of every instruction -/

/-- Whether a core can take its next instruction now: it is present, running, with no entry, switch, pair copy or TLBIB in progress; it is not the
right core of an active pair, whose instructions are the left core's (R72); and no access of its own waits for its target, since the commands come in
retirement order; in slack water bounded loads may wait (R109, R121; notes/assumptions/5.md). -/
def State.canIssue (s : State) (n : Nat) : Bool :=
  let c := s.core n
  s.hasCore n && c.run == .run && c.entry.isNone && c.switch.isNone && c.pairCopy.isNone && c.tlbib.isNone &&
  !c.csrBit C.pairctl 3 && c.amos.isEmpty && c.devs.isEmpty && (if c.isSlack then c.loads.all (fun w => w.maxLat != 0) else c.loads.isEmpty)

/-- Run an instruction of core `n`. Where the core cannot take it, nothing happens (notes/assumptions/2.md). A machine check or pace slip that waits
for the boundary is taken first (R66, R186). -/
def State.instr (s : State) (n : Nat) (f : State → State) : State :=
  if s.canIssue n then
    let c := s.core n
    match c.mcPending with
    | some i => s.takeMc n i c.pc 0
    | none => if c.slipPending then s.raise n 0x15 0 0 else f s
  else s

/-- Advance the pc past an instruction of `len` bytes. -/
def Core.adv (c : Core) (len : Nat) : Core := { c with pc := c.pc + BitVec.ofNat 64 len }

end Sys2Proof.Machine
end

