-- ==== Sys2Proof/Machine/Cache.lean ====
section
/-!
DEFINITION. DRAM and the caches: the decode (R307, R308), the home of a line (R241 to R243), DRAM lines with their poison (R311, R533), the slice's
lines (R248, R249), the private caches (R218 to R220), and the coherent accesses of engines, performed at the home in one step (R263).
-/
namespace Sys2Proof.Machine

/-! ### DRAM decode (R307, R308) -/

/-- One GiB. -/
def gib : Nat := 2 ^ 30

/-- The applied decode region `i`: CHIP_DRAMRGN and CHIP_DRAMMAP as they stood at the last accepted APPLY (R309). -/
def State.region (s : State) (i : Nat) : Word × Word := Tbl.get (fun _ => (0, 0)) s.decode i

/-- Whether a region covers anything (R307). -/
def covering (g : Word × Word) : Bool := getF g.1 F.CHIP_DRAMRGN_EN == 1 && getF g.1 F.CHIP_DRAMRGN_SIZE != 0

/-- The address ranges of a region. -/
def rgnLo (g : Word × Word) : Nat := getF g.1 F.CHIP_DRAMRGN_BASE * gib
def rgnHi (g : Word × Word) : Nat := (getF g.1 F.CHIP_DRAMRGN_BASE + getF g.1 F.CHIP_DRAMRGN_SIZE) * gib

/-- The channels of a region that the formula of R308 runs over: its members, or its primaries where it is mirrored. -/
def rgnChans (g : Word × Word) : List Nat :=
  let m := bitsOf (BitVec.ofNat 64 (getF g.2 F.CHIP_DRAMMAP_CHANS)) 12
  if getF g.1 F.CHIP_DRAMRGN_MIRROR = 1 then m.filter (· < 6) else m

/-- Where an address goes: channel, mirrored, channel address (R308). -/
def rgnMap (g : Word × Word) (a : Nat) : Nat × Bool × Nat :=
  let cs := rgnChans g
  let k := cs.length
  let gr := if getF g.1 F.CHIP_DRAMRGN_GRAN = 1 then 4096 else 256
  let off := a - rgnLo g
  let q := off / gr
  (cs.getD (q % k) 0, getF g.1 F.CHIP_DRAMRGN_MIRROR == 1,
   getF g.2 F.CHIP_DRAMMAP_CHANOFF * gib + (q / k) * gr + off % gr)

/-- The regions 0 to 7 in order. -/
def State.regions (s : State) : List (Word × Word) := (List.range 8).map s.region

/-- Where a DRAM address goes, none above populated DRAM (R25, R307). -/
def State.dramMap (s : State) (a : Nat) : Option (Nat × Bool × Nat) :=
  match s.regions.find? (fun g => covering g && decide (rgnLo g ≤ a) && decide (a < rgnHi g)) with
  | some g => if (rgnChans g).isEmpty then none else some (rgnMap g a)
  | none => none

/-- Key of a byte of channel `m` at a channel address. -/
def dramKey (m a : Nat) : Nat := 2 ^ 48 * (m + 1) + a

/-- MC_STAT.STATE: 0 DISABLED, 1 UNTRAINED, 2 TRAINING, 3 READY, 4 SELFREF, 5 FAILED, 6 RESUMING (R328). -/
def State.mcState (s : State) (m : Nat) : Nat := s.fld (Reg.MC_STAT m) F.MC_STAT_STATE

/-- A controller that is FAILED, or whose endpoint is DEAD (R318). -/
def State.mcLost (s : State) (m : Nat) : Bool := s.mcState m == 5 || s.epState (epMc m) == epDead

/-- The one controller of the pair of primary `m` that serves a degraded mirrored region: the partner of a lost one. A lost controller that DOM has reset since
has lost its own DEGRADED, and its partner goes on alone (R318). -/
def State.survivor (s : State) (m : Nat) : Option Nat :=
  let f (x : Nat) : Bool := s.flag (Reg.MC_STAT x) F.MC_STAT_DEGRADED
  if s.mcLost m then some (m + 6) else if s.mcLost (m + 6) then some m
  else if f (m + 6) && !f m then some (m + 6) else if f m && !f (m + 6) then some m else none

/-- The channel that serves a read of a mirrored address: the primary, or the survivor (R318). -/
def State.readChan (s : State) (m : Nat) (mirrored : Bool) : Nat := if mirrored then (s.survivor m).getD m else m

/-- A DRAM line and its poison, from the channel that serves it. A poisoned word reads poisoned in all 64 bytes (R533). -/
def State.dramLine (s : State) (line : Nat) : Line × Word :=
  match s.dramMap (64 * line) with
  | none => (0, 0xFFFF_FFFF_FFFF_FFFF)
  | some (m, mir, a) =>
    let k := dramKey (s.readChan m mir) a
    (lineOfBytes (s.bytes k 64), if s.anyPoison k 64 then 0xFFFF_FFFF_FFFF_FFFF else 0)

/-- Write a whole line to one channel; a line with any poisoned byte is written with the poison syndrome (R311). -/
def State.chanWrite (s : State) (m a : Nat) (d : Line) (p : Word) : State :=
  s.setBytesP (dramKey m a) (lineBytes d) (List.replicate 64 (p != 0))

/-! ### Homes (R241 to R243) -/

/-- The home index of a line (R241). -/
def homeIndex (l : Nat) : Nat :=
  ((l % 4096) ^^^ (l / 2 ^ 12 % 4096)) ^^^ ((l / 2 ^ 24 % 4096) ^^^ (l / 2 ^ 36 % 64))

/-- The home set in force, and the requested one (R244): bits of absent slices read 0, so that at reset both are every present slice. -/
def State.homeSet (s : State) : Word := s.reg Reg.CHIP_HOMECUR &&& s.fuse.tilemap
def State.homeWanted (s : State) : Word := s.reg Reg.CHIP_HOMESET &&& s.fuse.tilemap

/-- The home slice of a line under the home set in force (R242). -/
def State.home (s : State) (l : Nat) : Nat :=
  let h := bitsOf s.homeSet 64
  h.getD (homeIndex l % h.length) 0

/-- The directory set and slice set of a line (R243). -/
def dirSet (l : Nat) : Nat := l / 64 % 2048

/-- The controller of a channel takes lines: its endpoint is neither FENCED nor DEAD (R290, R294). -/
def State.chanTakes (s : State) (m : Nat) : Bool := s.epState (epMc m) != epFenced && s.epState (epMc m) != epDead

/-- Write a line to DRAM, to both channels of a mirrored region or to its survivor (R318); the breakwater of the home's router drops and counts a write whose controller is
fenced or dead (R295, R297). -/
def State.dramWrite (s : State) (line : Nat) (d : Line) (p : Word) : State :=
  let one (s : State) (m a : Nat) : State :=
    if s.chanTakes m then s.chanWrite m a d p else s.bwCount (tileRouter (s.home line)) true
  match s.dramMap (64 * line) with
  | none => s
  | some (m, mir, a) =>
    if mir then
      match s.survivor m with
      | some x => one s x a
      | none => one (one s m a) (m + 6) a
    else one s m a

/-! ### Slice lines (R248, R249) -/

/-- Ways that a slice caches in: neither cast nor being cast (R226). -/
def State.sliceWays (s : State) (t : Nat) : List Nat :=
  let a := Reg.SLC_CAST t
  let c := max (s.fld a F.SLC_CAST_CUR) (s.fld a F.SLC_CAST_WAYS)
  (List.range 12).filter (fun w => decide (c ≤ w))

/-- The class of service of a partition tag, and the slice ways its mask allows (R507, R508). -/
def State.cosOf (s : State) (p : Nat) : Nat := s.fld (Reg.PRT_PCFG p) F.PRT_PCFG_COS
def State.allowedWays (s : State) (t p : Nat) : List Nat :=
  let m := s.reg (Reg.PRT_COSMASK (s.cosOf p))
  (s.sliceWays t).filter (getB m)

/-- The line a slice holds, if it holds it. -/
def Slice.find (x : Slice) (l : Nat) : Option SlLine := Tbl.get (fun _ => none) x.lines l
/-- Place a line. -/
def Slice.place (x : Slice) (l : Nat) (v : Option SlLine) : Slice := { x with lines := Tbl.set (fun _ => none) x.lines l v }

/-- The listed lines of a slice in one set: line number and line. -/
def Slice.inSet (x : Slice) (set : Nat) : List (Nat × SlLine) :=
  x.lines.filterMap (fun e => match e.2 with | some v => if dirSet e.1 = set then some (e.1, v) else none | none => none)

/-- Count a write to DRAM (R273). -/
def State.countWb (s : State) (t : Nat) : State := s.bump (Reg.SLC_WBCNT t) ⟨0, 32⟩ 1

/-- Remove a line from a slice, writing it to DRAM where it is dirty (R249). -/
def State.sliceDrop (s : State) (t l : Nat) (writeBack : Bool) : State :=
  match (s.slice t).find l with
  | none => s
  | some v =>
    let s1 := s.modSlice t (·.place l none)
    if v.dirty && writeBack then (s1.dramWrite l v.data v.poison).countWb t else s1

/-- Allocate or overwrite a line in a slice for partition tag `p`: in its own way, a free allowed way, or the way of a victim that the pseudo-LRU state
(a free choice) points at; with no allowed way a dirty line goes to DRAM (R248, R508). -/
def State.sliceFill (s : State) (t l p : Nat) (d : Line) (po : Word) (dirty : Bool) : State :=
  match (s.slice t).find l with
  | some v => s.modSlice t (·.place l (some { v with data := d, poison := po, dirty := v.dirty || dirty }))
  | none =>
    let ok := s.allowedWays t p
    let used := (s.slice t).inSet (dirSet l)
    match ok.find? (fun w => used.all (fun u => u.2.way != w)) with
    | some w => s.modSlice t (·.place l (some { way := w, dirty := dirty, data := d, poison := po }))
    | none =>
      let vict := used.filter (fun u => ok.contains u.2.way)
      let q := s.choose vict.length
      match vict[q.1]? with
      | some u =>
        let s1 := q.2.sliceDrop t u.1 true
        s1.modSlice t (·.place l (some { way := u.2.way, dirty := dirty, data := d, poison := po }))
      | none => if dirty then (s.dramWrite l d po).countWb t else s

/-- The home's data for a line, from the slice or DRAM (R249), with the hit and miss counts of R273; a line read from DRAM is allocated (R248). -/
def State.homeData (s : State) (t l p : Nat) : Line × Word × State :=
  match (s.slice t).find l with
  | some v => (v.data, v.poison, s.bump (Reg.SLC_HITCNT t) ⟨0, 32⟩ 1)
  | none =>
    let q := s.dramLine l
    (q.1, q.2, (s.bump (Reg.SLC_MISSCNT t) ⟨0, 32⟩ 1).sliceFill t l p q.1 q.2 false)

/-! ### Directory entries (R250) -/

/-- The entries of a set: way and entry. -/
def Slice.dirInSet (x : Slice) (set : Nat) : List (Nat × DirE) :=
  x.dir.filterMap (fun e => match e.2 with | some v => if e.1 / 16 = set then some (e.1 % 16, v) else none | none => none)

/-- The way and entry of a line. -/
def Slice.dirOf (x : Slice) (l : Nat) : Option (Nat × DirE) := (x.dirInSet (dirSet l)).find? (fun e => e.2.line == l)

/-- Set a way of a set. -/
def Slice.setDir (x : Slice) (set way : Nat) (v : Option DirE) : Slice :=
  { x with dir := Tbl.set (fun _ => none) x.dir (16 * set + way) v }

/-- Replace or free the entry of a line, where it has one. -/
def Slice.updDir (x : Slice) (l : Nat) (v : Option DirE) : Slice :=
  match x.dirOf l with
  | some (w, _) => x.setDir (dirSet l) w v
  | none => x

/-- The open transaction of a line. -/
def Slice.txn (x : Slice) (l : Nat) : Option Txn := Tbl.get (fun _ => none) x.txns l
def Slice.setTxn (x : Slice) (l : Nat) (v : Option Txn) : Slice := { x with txns := Tbl.set (fun _ => none) x.txns l v }

/-- The cores of a sharer vector. -/
def sharersOf (v : BitVec 128) : List Nat := (List.range 128).filter (fun i => v.getLsbD i)
/-- Add or remove a sharer. -/
def addSharer (v : BitVec 128) (c : Nat) : BitVec 128 := v ||| ((1 : BitVec 128) <<< c)
def delSharer (v : BitVec 128) (c : Nat) : BitVec 128 := v &&& ~~~ ((1 : BitVec 128) <<< c)

/-! ### Private caches (R218 to R220) -/

/-- A line of an L2. -/
def Core.l2line (c : Core) (l : Nat) : L2Line := Tbl.get (fun _ => {}) c.l2 l
def Core.setL2 (c : Core) (l : Nat) (v : L2Line) : Core := { c with l2 := Tbl.set (fun _ => {}) c.l2 l v }
/-- A line in the eviction buffer. -/
def Core.ev (c : Core) (l : Nat) : Option EvLine := Tbl.get (fun _ => none) c.evb l
def Core.setEv (c : Core) (l : Nat) (v : Option EvLine) : Core := { c with evb := Tbl.set (fun _ => none) c.evb l v }
/-- An outstanding request. -/
def Core.reqOf (c : Core) (l : Nat) : Option L2Req := Tbl.get (fun _ => none) c.req l
def Core.setReq (c : Core) (l : Nat) (v : Option L2Req) : Core := { c with req := Tbl.set (fun _ => none) c.req l v }

/-- The set of a line in an L2 of 1,024 sets (R218; the index bits are the low bits of the line number, notes/assumptions/11.md). -/
def l2Set (l : Nat) : Nat := l % 1024

/-- Ways of core `n`'s L2 that cache (R218, R226). -/
def State.l2Ways (s : State) (n : Nat) : List Nat :=
  let a := castReg n
  let c := max (s.fld a F.TILE_LCAST_CUR) (s.fld a F.TILE_LCAST_WAYS)
  (List.range 8).filter (fun w => decide (c ≤ w))

/-- Remove a line from the L1s and end a reservation on it: the L2 gives the line up (R85, R219). -/
def Core.dropL1 (c : Core) (l : Nat) : Core :=
  { c with l1i := c.l1i.filter (· != l), l1d := c.l1d.filter (· != l),
           resv := if c.resv = some l then none else c.resv }

/-- A valid L2 line goes to the eviction buffer and is announced to its home (R257, R259). -/
def State.l2Evict (s : State) (n l : Nat) : State :=
  let c := s.core n
  let v := c.l2line l
  let dirty := v.st == .m
  let c1 := ((c.setL2 l {}).dropL1 l).setEv l (some { dirty := dirty, data := v.data, poison := v.poison })
  let s1 := s.setCore n c1
  if dirty then s1.send (.evd (s.home l) l n v.data v.poison) else s1.send (.evc (s.home l) l n)

/-- Whether a line can be filled now: the eviction buffer has room (R257). -/
def Core.evRoom (c : Core) : Bool := decide (c.evb.length < 16)

/-- Fill a line into an L2: in a free way, or in the way of a victim that the pseudo-LRU state (a free choice) points at (R218). -/
def State.l2Fill (s : State) (n l : Nat) (st : Mesif) (d : Line) (p : Word) : State :=
  let ok := s.l2Ways n
  let used := (s.core n).l2.filter (fun e => l2Set e.1 == l2Set l && e.1 != l && e.2.st != .i)
  match ok.find? (fun w => used.all (fun u => u.2.way != w)) with
  | some w => s.modCore n (·.setL2 l { st := st, way := w, data := d, poison := p })
  | none =>
    let vict := used.filter (fun u => ok.contains u.2.way)
    let q := s.choose vict.length
    match vict[q.1]? with
    | some u => (q.2.l2Evict n u.1).modCore n (·.setL2 l { st := st, way := u.2.way, data := d, poison := p })
    | none => s

/-- Allocate in an L1 of 256 sets of 4 ways: the displaced line is the one the pseudo-LRU state (a free choice) points at. -/
def State.l1Alloc (s : State) (lines : List Nat) (l : Nat) : List Nat × State :=
  if lines.contains l then (lines, s)
  else
    let set := lines.filter (fun x => x % 256 == l % 256)
    if set.length < 4 then (lines ++ [l], s)
    else
      let q := s.choose set.length
      (lines.filter (· != set.getD q.1 0) ++ [l], q.2)

/-- The bytes and poison of a line, from position `o`, `w` bytes. -/
def lineSlice (d : Line) (o w : Nat) : List Byte := (List.range w).map (fun i => lineByte d (o + i))
def poisonAt (p : Word) (o w : Nat) : List Bool := (List.range w).map (fun i => getB p (o + i))

/-- Write bytes into a line and its poison word. -/
def lineWrite (d : Line) (p : Word) (o : Nat) : List Byte → List Bool → Line × Word
  | [], _ => (d, p)
  | b :: bs, ps =>
    let d1 : Line := (d &&& ~~~ ((0xFF : Line) <<< (8 * o))) ||| ((b.setWidth 512) <<< (8 * o))
    lineWrite d1 (setB p o (ps.headD false)) (o + 1) bs ps.tail

/-! ### The newest value of a line, and engine accesses at the home (R254, R263) -/

/-- The dirty or sole copy among the L2s and their eviction buffers, if there is one. -/
def State.ownerCopy (s : State) (l : Nat) : Option (Line × Word) :=
  s.cores.findSome? (fun e =>
    let v := e.2.l2line l
    if v.st = .m ∨ v.st = .e then some (v.data, v.poison)
    else match e.2.ev l with
      | some x => if x.dirty && !x.superseded then some (x.data, x.poison) else none
      | none => none)

/-- The newest value in the coherence order (R207, R254). -/
def State.newest (s : State) (l : Nat) : Line × Word :=
  match s.ownerCopy l with
  | some v => v
  | none => match (s.slice (s.home l)).find l with
    | some v => (v.data, v.poison)
    | none => s.dramLine l

/-- A device read of DRAM, performed at its home in one step: an owner's copy is downgraded to F and its dirty data written into the slice; nothing is
allocated in an L2 (R254, R263; notes/assumptions/12.md). -/
def State.devRead (s : State) (l p : Nat) : Line × Word × State :=
  let h := s.home l
  match s.cores.find? (fun e => let v := e.2.l2line l; v.st == .m || v.st == .e) with
  | some e =>
    let v := e.2.l2line l
    let s1 := s.setCore e.1 (e.2.setL2 l { v with st := .f })
    let s2 := if v.st = .m then s1.sliceFill h l p v.data v.poison true else s1
    let s3 := s2.modSlice h (fun x => match x.dirOf l with
      | some (_, d) => x.updDir l (some { d with em := false, fcore := some e.1 })
      | none => x)
    (v.data, v.poison, s3)
  | none => match s.ownerCopy l with
    | some q => (q.1, q.2, s)
    | none => s.homeData h l p

/-- Every L2 and L1 copy of a line goes, and so does its directory entry; a dirty copy waiting in an eviction buffer is superseded (R254, R259). -/
def State.purge (s : State) (l : Nat) : State :=
  let s1 := s.mapCores (fun _ c =>
    let c1 := (c.setL2 l {}).dropL1 l
    match c1.ev l with
    | some x => c1.setEv l (some { x with superseded := true })
    | none => c1)
  s1.modSlice (s1.home l) (·.updDir l none)

/-- A device write of bytes within one line, performed at its home: copies removed, the line filled, its bytes written into the slice (R263). -/
def State.devWriteLine (s : State) (l p o : Nat) (bs : List Byte) (ps : List Bool) : State :=
  let q := s.newest l
  let s1 := s.purge l
  let w := lineWrite q.1 q.2 o bs ps
  s1.sliceFill (s1.home l) l p w.1 w.2 true

/-- A device write of bytes at a DRAM address, line by line; `fuel` bounds the lines. -/
def State.devWriteFuel (s : State) (p : Nat) : Nat → Nat → List Byte → List Bool → State
  | 0, _, _, _ => s
  | _, _, [], _ => s
  | fuel + 1, a, bs, ps =>
    let o := a % 64
    let k := 64 - o
    (s.devWriteLine (a / 64) p o (bs.take k) (ps.take k)).devWriteFuel p fuel (a + k) (bs.drop k) (ps.drop k)

/-- A device write of bytes at a DRAM address. -/
def State.devWrite (s : State) (p a : Nat) (bs : List Byte) (ps : List Bool) : State :=
  s.devWriteFuel p (bs.length / 64 + 2) a bs ps

/-- A device read of `n` bytes at a DRAM address, line by line. -/
def State.devReadFuel (s : State) (p : Nat) : Nat → Nat → Nat → List Byte × List Bool × State
  | 0, _, _ => ([], [], s)
  | fuel + 1, a, n =>
    if n = 0 then ([], [], s)
    else
      let o := a % 64
      let k := min n (64 - o)
      let q := s.devRead (a / 64) p
      let r := q.2.2.devReadFuel p fuel (a + k) (n - k)
      (lineSlice q.1 o k ++ r.1, poisonAt q.2.1 o k ++ r.2.1, r.2.2)

/-- A device read of bytes at a DRAM address. -/
def State.devReadBytes (s : State) (p a n : Nat) : List Byte × List Bool × State := s.devReadFuel p (n / 64 + 2) a n

/-! ### Populated memory and engine accesses to any memory region (R25, R26, R33) -/

/-- Whether the `n` bytes at `a` lie in populated memory: DRAM decode, or a populated cast part whose unit answers (R25, R26, R33, R72). -/
def State.populated (s : State) (a n : Nat) : Bool :=
  match regionOf a with
  | .dram => (s.dramMap a).isSome && (s.dramMap (a + n - 1)).isSome
  | .sharedCast t => s.hasTile t && decide (a + n ≤ slcCastBase t + s.slicePop t)
  | .coreCast c => s.hasCore c && decide (a + n ≤ castBase c + s.corePop c)
  | _ => false

/-- The units that serve a DRAM address, the home slice and behind it the channel, pass a test, and no FAILED link stands between (R289). -/
def State.dramVia (s : State) (up : Nat → Bool) (r a : Nat) : Bool :=
  match s.dramMap a with
  | some (m, mir, _) =>
    let h := s.home (a / 64)
    let k := s.readChan m mir
    up (epSlice h) && s.routeUp r (tileRouter h) && up (epMc k) && s.routeUp (tileRouter h) (mcRouter k)
  | none => false

/-- The units that serve a DRAM address are OPEN in router `r`'s map (R289, R290). -/
def State.dramUp (s : State) (r a : Nat) : Bool := s.dramVia (fun k => s.mapped r k == epOpen) r a

/-- A DRAM access that an engine makes and that is answered at once (R289, R290, R294). -/
def State.dramBoth (s : State) (r a : Nat) : Bool := s.dramUp r a && s.dramVia s.answers r a

/-- The unit that holds a memory address passes a test, and a paired right core's window is absorbed (R33, R72). -/
def State.reachVia (s : State) (up : Nat → Bool) (r a : Nat) : Bool :=
  match regionOf a with
  | .dram => s.dramVia up r a
  | .sharedCast t => up (epSlice t) && s.routeUp r (tileRouter t)
  | .coreCast c => up (epCore c) && s.routeUp r (coreRouter c) && !((s.core c).csrBit C.pairctl 3)
  | _ => false

/-- The check at the source: the unit that holds a memory address is OPEN in router `r`'s map and no FAILED link stands in the way (R289, R290). -/
def State.reachable (s : State) (r a : Nat) : Bool := s.reachVia (fun k => s.mapped r k == epOpen) r a

/-- An access to memory that passed its check at router `r` is answered: a marker waits for it, so an ebbing unit answers it still (R292, R294). -/
def State.memAnswers (s : State) (r a : Nat) : Bool := s.reachVia s.answers r a

/-- Bytes of populated memory as an engine reads them: cast bytes at once, DRAM through its home. -/
def State.engRead (s : State) (p a n : Nat) : List Byte × List Bool × State :=
  match regionOf a with
  | .dram => s.devReadBytes p a n
  | _ => (s.bytes a n, (List.range n).map (fun i => s.isPoison (a + i)), s)

/-- A write to cast memory ends every reservation on its lines but that of core `self` (R85). -/
def State.castTouched (s : State) (self : Option Nat) (a n : Nat) : State :=
  s.mapCores (fun k c =>
    match c.resv with
    | some l => if decide (64 * l < a + n) && decide (a < 64 * l + 64) && self != some k then { c with resv := none } else c
    | none => c)

/-- An engine's write to populated memory. -/
def State.engWrite (s : State) (p a : Nat) (bs : List Byte) (ps : List Bool) : State :=
  match regionOf a with
  | .dram => s.devWrite p a bs ps
  | _ => (s.setBytesP a bs ps).castTouched none a bs.length

/-- The lines that `n` bytes at `a` touch. -/
def linesOf (a n : Nat) : List Nat := if n = 0 then [] else (List.range ((a + n - 1) / 64 - a / 64 + 1)).map (a / 64 + ·)

/-- An access of `n` bytes at `a` that router `r` let pass is answered: the memory is populated and its units answer (R33, R294). -/
def State.engAnswers (s : State) (r a n : Nat) : Bool :=
  s.populated a n && s.memAnswers r a && (linesOf a n).all (fun l => regionOf a != .dram || s.dramVia s.answers r (64 * l))

/-- An access of `n` bytes at `a` from router `r` passes the fence check and is answered (R290, R297). -/
def State.engReach (s : State) (r a n : Nat) : Bool :=
  s.reachable r a && (linesOf a n).all (fun l => regionOf a != .dram || s.dramUp r (64 * l)) && s.engAnswers r a n

/-- The endpoint that keeps a DRAM line from being reached: its home slice, otherwise its channel. -/
def State.lostEp (s : State) (r pa : Nat) : Nat :=
  let h := epSlice (s.home (pa / 64))
  if !s.delivers r h then h else match s.dramMap pa with | some (m, mir, _) => epMc (s.readChan m mir) | none => h

/-- The endpoint that holds an address. -/
def State.holderEp (s : State) (r pa : Nat) : Nat :=
  match regionOf pa with
  | .dram => s.lostEp r pa
  | .sharedCast t => epSlice t
  | .coreCast c => epCore c
  | .control => epOfOff (pa - ctlBase)
  | .mailbox e => epFe e
  | _ => epHif

/-- An access from router `r` that passed its check is not answered: it is counted at the destination's router, or at the source's where a link of the route has
FAILED (R294, R297). -/
def State.bwLate (s : State) (r a : Nat) (write : Bool) : State :=
  let k := s.holderEp r a
  s.bwCount (if s.routeUp r (k / 4) then k / 4 else r) write

/-- An engine's access of partition `p` that is not performed is counted by the router whose breakwater answers it (R297). -/
def State.engRefused (s : State) (r p a n : Nat) (write : Bool) : State :=
  if s.populated a n && s.reachable r a && !(s.partEbb == some ⟨p⟩) then s.bwLate r a write else s.bwCount r write

/-- An engine's access of partition `p` is performed: it is answered, and no partition ebb of its tag refuses it (R298). -/
def State.engOk (s : State) (r p a n : Nat) : Bool := s.engReach r a n && !(s.partEbb == some ⟨p⟩)

end Sys2Proof.Machine
end

