-- ==== Sys2Proof/Machine/Pcie.lean ====
section
/-!
DEFINITION. Root ports and the outbound address space (R615 to R619): combination, memory windows, configuration reads.
-/
namespace Sys2Proof.Machine

/-! ### Root ports (R615) -/

/-- The root port that ×4 port `p` belongs to under a value of HIF_BIFCFG: its lowest port. -/
def rootOf (b : Word) (p : Nat) : Nat :=
  let f (x : Fld) : Bool := getF b x == 1
  if p < 4 then
    (if f F.HIF_BIFCFG_QUAD0 then 0
     else if p < 2 then (if f F.HIF_BIFCFG_PAIR0 then 0 else p) else if f F.HIF_BIFCFG_PAIR2 then 2 else p)
  else if f F.HIF_BIFCFG_QUAD4 then 4
  else if p < 6 then (if f F.HIF_BIFCFG_PAIR4 then 4 else p) else if f F.HIF_BIFCFG_PAIR6 then 6 else p

/-- `p` is the number of a present root port. -/
def State.isRoot (s : State) (p : Nat) : Bool := s.hasPort p && rootOf (s.reg Reg.HIF_BIFCFG) p == p

/-- The present root ports. -/
def State.roots (s : State) : List Nat := (List.range 8).filter s.isRoot

/-- Outbound requests of a root port can be sent (R625, R628). -/
def State.portUp (s : State) (p : Nat) : Bool :=
  s.flag (Reg.HIF_PSTAT p) F.HIF_PSTAT_DLUP && !s.flag (Reg.HIF_PSTAT p) F.HIF_PSTAT_CONTAINED

/-! ### Configuration headers (R618) -/

def ecamBase : Nat := 0x1000_0000
def ecamOff (o : Nat) : Bool := decide (ecamBase ≤ o) && decide (o < ecamBase + 0x1000_0000)

/-- Offset of the register that holds byte `r` of root port `p`'s header. -/
def hdrAt (p r : Nat) : Nat := ecamBase + p * 0x8000 + r / 8 * 8

/-- A doubleword of a header as stored. -/
def State.hdrStored (s : State) (p r : Nat) : Nat := (s.reg (hdrAt p r)).toNat / 2 ^ (32 * (r / 4 % 2)) % 2 ^ 32

/-- A doubleword of a header as it reads: identity from the fuses, link status from HIF_PSTAT. -/
def State.hdrDword (s : State) (p r : Nat) : Nat :=
  let d := s.hdrStored p r
  if r = 0 then s.fld Reg.ID_VENDOR ⟨0, 16⟩ + 2 ^ 16 * s.fuse.part
  else if r = 0x080 then
    d + 2 ^ 16 * (s.fld (Reg.HIF_PSTAT p) F.HIF_PSTAT_RATE + 16 * s.fld (Reg.HIF_PSTAT p) F.HIF_PSTAT_WIDTH + 2 ^ 13 * s.fld (Reg.HIF_PSTAT p) F.HIF_PSTAT_DLUP)
  else d

/-- Store a doubleword of a header. -/
def State.setHdrDword (s : State) (p r v : Nat) : State := s.setFld (hdrAt p r) ⟨32 * (r / 4 % 2), 32⟩ v

/-! ### Memory windows (R616) -/

/-- A bus address lies in a memory window of root port `p`: memory space enabled, and within the memory or the prefetchable window. -/
def State.portClaims (s : State) (p a : Nat) : Bool :=
  let m := s.hdrDword p 0x020
  let q := s.hdrDword p 0x024
  let top (x : Nat) : Nat := x / 2 ^ 20 * 2 ^ 20 + (2 ^ 20 - 1)
  let base (x : Nat) : Nat := x % 2 ^ 16 / 16 * 2 ^ 20
  bitAt (s.hdrDword p 0x004) 1 &&
  ((decide (base m ≤ a) && decide (a ≤ top m)) ||
   (decide (s.hdrDword p 0x028 * 2 ^ 32 + base q ≤ a) && decide (a ≤ s.hdrDword p 0x02C * 2 ^ 32 + top q)))

/-- The root port that claims a physical address of the PCIe windows, where exactly one does. -/
def State.portOf (s : State) (pa : Nat) : Option Nat :=
  match s.roots.filter (fun p => s.portClaims p (pa - 0x6000_0000_0000)) with
  | [p] => some p
  | _ => none

/-- An access to the PCIe windows that the host interface answers UR, or that finds its root port down or contained (R616, R625). -/
def State.pcieFault (s : State) (pa : Nat) : Bool :=
  regionOf pa == .pcie && (match s.portOf pa with | some p => !s.portUp p | none => true)

/-! ### Configuration requests (R618, R619) -/

def ecamBus (o : Nat) : Nat := (o - ecamBase) / 0x10_0000
def ecamDev (o : Nat) : Nat := (o - ecamBase) / 0x8000 % 32
def ecamFn (o : Nat) : Nat := (o - ecamBase) / 0x1000 % 8
def ecamReg (o : Nat) : Nat := o % 0x1000

/-- The root port on whose link a request to a bus is sent. -/
def State.busPort (s : State) (b : Nat) : Option Nat :=
  s.roots.find? (fun p => let n := s.hdrDword p 0x018; decide (n / 2 ^ 8 % 2 ^ 8 ≤ b) && decide (b ≤ n / 2 ^ 16 % 2 ^ 8) && s.portUp p)

/-- CRS software visibility of a root port. -/
def State.crsVisible (s : State) (p : Nat) : Bool := bitAt (s.hdrDword p 0x08C) 4

/-- `w` bytes of all ones. -/
def allOnes (w : Nat) : Word := ones (8 * w)

/-- What a configuration read of `w` bytes at an ECAM offset answers, where `reply` is the device's answer; none while the root port retries. -/
def State.cfgRead (s : State) (o w : Nat) (reply : CfgReply) : Option Word :=
  let b := ecamBus o
  let r := ecamReg o
  if b = 0 then
    let p := ecamDev o
    if ecamFn o ≠ 0 ∨ 8 ≤ p ∨ s.hasPort p = false then some (allOnes w)
    else if s.isRoot p then some (BitVec.ofNat 64 (s.hdrDword p (r / 4 * 4) + (if w = 8 then 2 ^ 32 * s.hdrDword p (r / 4 * 4 + 4) else 0)))
    else some 0
  else match s.busPort b with
    | none => some (allOnes w)
    | some p => match reply with
      | .ok v => some (v &&& allOnes w)
      | .ur => some (allOnes w)
      | .crs => if s.crsVisible p && r == 0 then some ((allOnes w &&& ~~~ 0xFFFF) ||| 1) else none

/-- One doubleword of a root port's header is written. -/
def State.hdrWrite (s : State) (p r v : Nat) : State :=
  let d := hdrDw r
  let m : Word := BitVec.ofNat 64 d.rw
  let c : Word := BitVec.ofNat 64 d.w1c
  let old : Word := BitVec.ofNat 64 (s.hdrStored p r)
  let x : Word := BitVec.ofNat 64 v
  if d.rw = 0 ∧ d.w1c = 0 then s else s.setHdrDword p r (((old &&& ~~~ m &&& ~~~ (c &&& x)) ||| (x &&& m)) &&& 0xFFFF_FFFF).toNat

/-- A configuration write to an ECAM offset: the header of a root port takes it; a device's own registers are not the part's. -/
def State.cfgWrite (s : State) (o w : Nat) (v : Word) : State :=
  let p := ecamDev o
  let r := ecamReg o / 4 * 4
  if ecamBus o = 0 ∧ ecamFn o = 0 ∧ p < 8 ∧ s.isRoot p = true then
    let s1 := s.hdrWrite p r (v.toNat % 2 ^ 32)
    if w = 8 then s1.hdrWrite p (r + 4) (v.toNat / 2 ^ 32) else s1
  else s

end Sys2Proof.Machine
end

