-- ==== Sys2Proof/Machine/Trans.lean ====
section
/-!
DEFINITION. Translation and the checks of an access: regimes (R189), look-aside lookups (R194, R195), the checks of R208 and R209, the region, width and
alignment checks (R25, R27, R28, R89, R90), and STRICT (R131 to R133).
-/
namespace Sys2Proof.Machine

/-- The kinds of access that are checked. -/
inductive AccKind where
  | fetch | load | store | amo | lr | sc
  deriving DecidableEq, Repr

/-- A trap to be raised: cause, TVAL, TINFO. -/
structure TrapInfo where
  code : Nat
  tval : Word
  tinfo : Word
  /-- answered by the breakwater, which counts it (R297) -/
  bw : Bool := false
  deriving DecidableEq, Repr

/-- TINFO.ACCESS of a kind (R168); an AMO and an SC report store, an LR load (R90). -/
def AccKind.num : AccKind → Nat
  | .fetch => 0 | .load => 1 | .lr => 1 | .store => 2 | .amo => 2 | .sc => 2

/-- The access fault of a kind (R25). -/
def AccKind.fault : AccKind → Nat
  | .fetch => 1 | .load => 5 | .lr => 5 | .store => 7 | .amo => 7 | .sc => 7

/-- The TLB miss of a kind (R167). -/
def AccKind.miss : AccKind → Nat
  | .fetch => 0xC | .load => 0xD | .lr => 0xD | .store => 0xE | .amo => 0xE | .sc => 0xE

/-- Whether a kind writes. -/
def AccKind.writes : AccKind → Bool
  | .store => true | .amo => true | .sc => true | .fetch => false | .load => false | .lr => false

/-- The page shift of a size (R195). -/
def pageShift (size : Nat) : Nat := if size = 0 then 12 else if size = 1 then 16 else if size = 2 then 21 else 30

/-- The size level of a page size (R200). -/
def sizeLevel (size : Nat) : Nat := if size < 2 then 0 else size - 1

/-- Sets of the L2 TLB and of the stage-2 TLB (R195). -/
def tlbSet (size a : Nat) : Nat := a / 2 ^ pageShift size % 256
def s2Set (size a : Nat) : Nat := a / 2 ^ pageShift size % 128

/-- An entry of the L2 TLB, at 8 × set + way. -/
def Core.tlbAt (c : Core) (k : Nat) : Option TlbE := Tbl.get (fun _ => none) c.tlb k
def Core.setTlb (c : Core) (k : Nat) (v : Option TlbE) : Core := { c with tlb := Tbl.set (fun _ => none) c.tlb k v }
/-- An entry of the stage-2 TLB, at 4 × set + way. -/
def Core.s2At (c : Core) (k : Nat) : Option S2E := Tbl.get (fun _ => none) c.s2 k
def Core.setS2 (c : Core) (k : Nat) (v : Option S2E) : Core := { c with s2 := Tbl.set (fun _ => none) c.s2 k v }

/-- Owner and ASID of the regime of a level (R189, R194). -/
def Core.ownerAt (c : Core) (l : Level) : Owner := if l = .h then .hyp else .part c.pid
def Core.asidAt (c : Core) (l : Level) : Nat := if l = .h then c.csrF C.hTransctl 16 16 else c.csrF C.sAsid 0 16
/-- Whether stage 1 and stage 2 are in effect at a level (R189). -/
def Core.stage1 (c : Core) (l : Level) : Bool :=
  match l with
  | .f => false | .h => c.csrBit C.hTransctl 0 | .s => c.csrBit C.hTransctl 1 | .u => c.csrBit C.hTransctl 1
def Core.stage2 (c : Core) (l : Level) : Bool := decide (l.num ≤ 1) && (c.csrBit C.hTransctl 2 || c.pid != 0)

/-- The matching entries of one page size, G = 0 first (R194, R195). -/
def Core.tlbMatch (c : Core) (o : Owner) (asid va size : Nat) : Option Nat :=
  let base := 8 * tlbSet size va
  let hit (k : Nat) (g : Bool) : Bool := match c.tlbAt k with
    | some e => e.size == size && e.owner == o && e.vpn == va / 2 ^ pageShift size && e.g == g && (e.g || e.asid == asid)
    | none => false
  match (List.range 8).find? (fun w => hit (base + w) false) with
  | some w => some (base + w)
  | none => ((List.range 8).find? (fun w => hit (base + w) true)).map (base + ·)

/-- Look up the L2 TLB: the smallest page size wins (R195). The result is the entry's key. -/
def Core.tlbLookup (c : Core) (o : Owner) (asid va : Nat) : Option Nat :=
  [0, 1, 2, 3].findSome? (c.tlbMatch o asid va)

/-- Look up the stage-2 TLB of partition `p` (R194, R195). -/
def Core.s2Lookup (c : Core) (p gpa : Nat) : Option Nat :=
  [0, 1, 2, 3].findSome? (fun size =>
    let base := 4 * s2Set size gpa
    ((List.range 4).find? (fun w => match c.s2At (base + w) with
      | some e => e.size == size && e.part == p && e.gpn == gpa / 2 ^ pageShift size
      | none => false)).map (base + ·))

/-- The address of a page that a frame number as stored names, for a page size: bits below the size are ignored (R199). -/
def frameAddr (ppn size a : Nat) : Nat :=
  let sh := pageShift size
  ppn * 4096 / 2 ^ sh * 2 ^ sh + a % 2 ^ sh

/-- R, W, X checks of both stages (R209). -/
def permitted (k : AccKind) (r w x : Bool) : Bool :=
  match k with
  | .fetch => x | .load => r | .lr => r | .store => w | .sc => w | .amo => r && w

/-- The U rule of stage 1 (R209). -/
def uPermitted (l : Level) (k : AccKind) (u : Bool) : Bool :=
  match l with
  | .u => u | .s => !(u && k == .fetch) | .h => true | .f => true

/-- A translated half: its physical address and the keys of the entries used (R197). -/
structure Xlated where
  pa : Nat
  k1 : Option Nat
  k2 : Option Nat
  deriving DecidableEq, Repr

/-- Stage 2 of a guest-physical address (R208 checks 5 and 6). -/
def Core.xlate2 (c : Core) (k : AccKind) (gpa : Nat) (h2 : Bool) (k1 : Option Nat) : Except TrapInfo Xlated :=
  match c.s2Lookup c.pid gpa with
  | none => .error ⟨0x10, BitVec.ofNat 64 gpa, tinfo 2 0 k.num h2, false⟩
  | some k2 => match c.s2At k2 with
    | none => .error ⟨0x10, BitVec.ofNat 64 gpa, tinfo 2 0 k.num h2, false⟩
    | some e =>
      if permitted k e.r e.w e.x then .ok ⟨frameAddr e.ppn e.size gpa, k1, some k2⟩
      else .error ⟨0x11, BitVec.ofNat 64 gpa, tinfo 2 (sizeLevel e.size) k.num h2, false⟩

/-- The checks of R208 on one half, at the level in effect. -/
def Core.xlate (c : Core) (k : AccKind) (va : Word) (h2 : Bool) : Except TrapInfo Xlated :=
  let l := c.level
  let a := va.toNat
  if c.stage1 l then
    if sext 48 a ≠ va then .error ⟨k.fault, va, tinfo 1 3 k.num h2, false⟩
    else match c.tlbLookup (c.ownerAt l) (c.asidAt l) (a % 2 ^ 48) with
      | none => .error ⟨k.miss, va, tinfo 1 0 k.num h2, false⟩
      | some k1 => match c.tlbAt k1 with
        | none => .error ⟨k.miss, va, tinfo 1 0 k.num h2, false⟩
        | some e =>
          if !(permitted k e.r e.w e.x && uPermitted l k e.u) then .error ⟨0x14, va, tinfo 1 (sizeLevel e.size) k.num h2, false⟩
          else if k.writes && !e.d then .error ⟨0x0F, va, tinfo 1 (sizeLevel e.size) k.num h2, false⟩
          else
            let g := frameAddr e.ppn e.size (a % 2 ^ 48)
            if c.stage2 l then c.xlate2 k g h2 (some k1) else .ok ⟨g, some k1, none⟩
  else if a / 2 ^ 48 ≠ 0 then .error ⟨k.fault, va, if c.stage2 l then tinfo 2 3 k.num h2 else tinfo 0 0 k.num h2, false⟩
  else if c.stage2 l then c.xlate2 k a h2 none
  else .ok ⟨a, none, none⟩

/-! ### Regions -/

/-- A device region (R24). -/
def isDevice (r : Region) : Bool :=
  match r with
  | .pcie => true | .control => true | .mailbox _ => true | .dram => false | .sharedCast _ => false | .coreCast _ => false | .undecoded => false

/-- The slack-water class of an address (R115): 0 exact, 1 bounded, 2 unbounded. -/
def State.accClass (s : State) (n : Nat) (k : AccKind) (pa : Nat) : Nat :=
  match regionOf pa with
  | .coreCast c => if c = s.ownWindow n then 0 else 2
  | .sharedCast _ => 1
  | .mailbox _ => if k = .store then 1 else 2
  | _ => 2

/-- The power domain of the lane quad whose block holds a control-space offset is RUN, where there is one (R33, R331). -/
def State.quadUp (s : State) (o : Nat) : Bool :=
  if 0x0300_0000 ≤ o ∧ o < 0x0500_0000 then
    let e := (o - 0x0300_0000) / 0x100_0000
    let b := (o - 0x0300_0000) % 0x100_0000
    if 0x10_0000 ≤ b ∧ b < 0x10_6000 then s.domRun (204 + 6 * e + (b - 0x10_0000) / 0x1000)
    else if 0x20_0000 ≤ b ∧ b < 0x21_8000 then s.domRun (204 + 6 * e + (b - 0x20_0000) / 0x4000)
    else true
  else true

/-- Whether a device address has a target that answers (R7, R25, R33): control space inside the blocks of R30 whose unit passes the test `up`; the mailbox
space of a present engine and a PCIe window, likewise. -/
def State.devVia (s : State) (up : Nat → Bool) (n pa : Nat) : Bool :=
  let r := coreRouter n
  match regionOf pa with
  | .control =>
    let o := pa - ctlBase
    offDecoded o && (!s.offPresent o || ((alwaysUp o || up (epOfOff o)) && s.routeUp r (epOfOff o / 4) && s.quadUp o))
  | .mailbox e => s.hasFe e && up (epFe e) && s.routeUp r (feRouter e)
  | .pcie => up epHif && s.routeUp r hifRouter
  | _ => true

/-- The check at the core's router, and what becomes of an access that passed it (R290, R292, R294). -/
def State.devAnswers (s : State) (n pa : Nat) : Bool := s.devVia (fun e => s.mapped (coreRouter n) e == epOpen) n pa
def State.devDelivers (s : State) (n pa : Nat) : Bool := s.devVia s.answers n pa

/-- A partition ebb refuses at injection every new request of its partition (R298). -/
def State.ebbRefused (s : State) (n : Nat) : Bool := s.partEbb == some ⟨(s.core n).part⟩

/-- A core's own caches serve an access to DRAM, so nothing is injected (R290): a line in the L2, in E or M for a write, or code in the L1I. -/
def State.heldFor (s : State) (n : Nat) (k : AccKind) (pa : Nat) : Bool :=
  let v := (s.core n).l2line (pa / 64)
  match k with
  | .fetch => v.st != .i || (s.core n).l1i.contains (pa / 64)
  | .load => v.st != .i | .lr => v.st != .i
  | .store => v.st == .m || v.st == .e | .amo => v.st == .m || v.st == .e | .sc => v.st == .m || v.st == .e

/-- The region, width and alignment checks of one half (R25, R27, R28, R89, R90): `w` is the whole access's width, `al` whether it is naturally
aligned. -/
def State.regionCheck (s : State) (n : Nat) (k : AccKind) (va : Word) (pa w hw : Nat) (al h2 : Bool) : Option TrapInfo :=
  let flt (c : Nat) : Option TrapInfo := some ⟨c, va, tinfo 0 0 k.num h2, false⟩
  let bwf (c : Nat) : Option TrapInfo := some ⟨c, va, tinfo 0 0 k.num h2, true⟩
  let rg := regionOf pa
  if rg = .undecoded then flt k.fault
  else if isDevice rg then
    match k with
    | .load => if w ≠ 4 ∧ w ≠ 8 then flt 5 else if !al then flt 4 else if !s.devAnswers n pa then bwf 5 else if s.pcieFault pa then flt 5 else none
    | .store => if w ≠ 4 ∧ w ≠ 8 then flt 7 else if !al then flt 6 else if !s.devAnswers n pa then bwf 7 else if s.pcieFault pa then flt 7 else none
    | _ => flt k.fault
  else if (k = .amo ∨ k = .lr ∨ k = .sc) ∧ al = false then some ⟨k.fault, va, tinfo 0 0 k.num false, false⟩
  else if !s.populated pa hw then flt k.fault
  else match rg with
    | .coreCast c =>
      if c = s.ownWindow n then none
      else if k = .fetch then flt 1
      else if s.reachable (coreRouter n) pa then none else bwf k.fault
    | .sharedCast _ => if s.reachable (coreRouter n) pa then none else bwf k.fault
    | .dram => if s.heldFor n k pa || s.reachable (coreRouter n) pa then none else bwf k.fault
    | _ => none

/-- One half, whole: translation, region, and the STRICT rows 5 and 6 of R133. -/
def State.checkHalf (s : State) (n : Nat) (k : AccKind) (va : Word) (w hw : Nat) (al h2 : Bool) : Except TrapInfo Xlated :=
  let c := s.core n
  match c.xlate k va h2 with
  | .error e => .error e
  | .ok x => match s.regionCheck n k va x.pa w hw al h2 with
    | some e => .error e
    | none =>
      if c.isStrict && k == .amo && regionOf x.pa == .dram then .error ⟨0x17, 0, 0, false⟩
      else if c.isStrict && s.accClass n k x.pa == 2 then .error ⟨0x16, va, tinfo 0 0 k.num h2, false⟩
      else .ok x

/-- A checked access: its one or two halves as physical address and width (R87). -/
structure Checked where
  pa : Nat
  w : Nat
  pa2 : Nat := 0
  w2 : Nat := 0
  x1 : Xlated
  x2 : Option Xlated := none
  deriving DecidableEq, Repr

/-- The checks on a scalar access of `w` bytes (R87, R133): the first half wholly before the second. -/
def State.checkAccess (s : State) (n : Nat) (k : AccKind) (va : Word) (w : Nat) : Except TrapInfo Checked :=
  let al := decide (va.toNat % w = 0)
  let o := va.toNat % 64
  if o + w ≤ 64 ∨ k = .amo ∨ k = .lr ∨ k = .sc then
    match s.checkHalf n k va w w al false with
    | .error e => .error e
    | .ok x => .ok { pa := x.pa, w := w, x1 := x }
  else
    let w1 := 64 - o
    match s.checkHalf n k va w w1 al false with
    | .error e => .error e
    | .ok x => match s.checkHalf n k (va + BitVec.ofNat 64 w1) w (w - w1) al true with
      | .error e => .error e
      | .ok y => .ok { pa := x.pa, w := w1, pa2 := y.pa, w2 := w - w1, x1 := x, x2 := some y }

/-- Raise a trap. -/
def State.raiseT (s : State) (n : Nat) (t : TrapInfo) : State :=
  let s1 := if t.code = 0xC ∨ t.code = 0xD ∨ t.code = 0xE then s.modCore n (·.event 0x015 1)
            else if t.code = 0x10 then s.modCore n (·.event 0x016 1) else s
  let s2 := if t.bw then
      s1.bump (Reg.RTR_BWCNT (coreRouter n)) (if t.code = 7 then F.RTR_BWCNT_WRITES else F.RTR_BWCNT_READS) 1
    else s1
  s2.raise n t.code t.tval t.tinfo

/-! ### L1 TLB copies (R197) -/

/-- Copies built from an entry disappear with it. -/
def Core.dropCopies1 (c : Core) (k : Nat) : Core :=
  { c with itlb := c.itlb.filter (fun x => x.src1 != some k), dtlb := c.dtlb.filter (fun x => x.src1 != some k) }
def Core.dropCopies2 (c : Core) (k : Nat) : Core :=
  { c with itlb := c.itlb.filter (fun x => x.src2 != some k), dtlb := c.dtlb.filter (fun x => x.src2 != some k) }

/-- Copy a translation into a fully associative L1 TLB of `cap` entries; the displaced copy is a free choice (R193, R197). -/
def State.copyInto (s : State) (l : List L1Copy) (cap : Nat) (x : L1Copy) : List L1Copy × State :=
  if l.contains x then (l, s)
  else if l.length < cap then (l ++ [x], s)
  else let q := s.choose cap; (l.eraseIdx q.1 ++ [x], q.2)

/-- A flood-mode data access copies its translation into the L1 DTLB and counts a miss there (R197, event 0x014). -/
def State.dtlbUse (s : State) (n : Nat) (x : Xlated) : State :=
  let c := s.core n
  if c.isSlack || (x.k1.isNone && x.k2.isNone) then s
  else
    let cp : L1Copy := ⟨x.k1, x.k2⟩
    let q := s.copyInto c.dtlb 64 cp
    q.2.setCore n ({ c with dtlb := q.1 }.event 0x014 (b2n (!c.dtlb.contains cp)))

/-- The same for both halves of an access. -/
def State.dtlbUse2 (s : State) (n : Nat) (k : Checked) : State :=
  match k.x2 with
  | some y => (s.dtlbUse n k.x1).dtlbUse n y
  | none => s.dtlbUse n k.x1

end Sys2Proof.Machine
end

