-- ==== Sys2Proof/Machine/Net.lean ====
section
/-!
DEFINITION. The Tideway's shared operations: dimension-order routes (R275), TC0 admission and link monitors (R283, R284), breakwater counts (R297),
the death of an endpoint (R294), and the flush of a unit's caches that an ebb performs (R238, R239).
-/
namespace Sys2Proof.Machine

/-- CAP of a link in per cent; above 20 acts as 20 (R300). -/
def State.linkCap (s : State) (k : Nat) : Nat := min 20 (s.fld (Reg.RTR_TC0CAP (k / 4)) ⟨8 * (k % 4), 5⟩)

/-- One TC0 request flit crosses a link: it takes a monitor token, or it is an over-subscription flit (R284); it stays in the replay buffer
until it is acknowledged (R287). -/
def State.crossFlit (s : State) (k : Nat) : State :=
  let x := s.link k
  let l : Link := { x with replay := if x.replay.length < 32 then x.replay ++ [{ cls := 0 }] else x.replay }
  let s1 := s.setLink k l
  if 0 < l.tokens then s1.setLink k { l with tokens := l.tokens - 1 }
  else (s1.bump (Reg.RTR_TC0OVER (k / 4) (k % 4)) ⟨0, 32⟩ 1).setBit (Reg.RTR_STAT (k / 4)) (k % 4) true

/-- `n` flits cross each link of a list. -/
def State.crossFlits (s : State) : Nat → List Nat → State
  | 0, _ => s
  | n + 1, ls => (ls.foldl (fun s k => s.crossFlit k) s).crossFlits n ls

/-- A mailbox store on its way is gone (R268). -/
def State.mailboxGone (s : State) : Msg → State
  | .mailbox e c _ _ _ _ => s.modCore c (fun x => { x with mbxSent := x.mbxSent.erase e })
  | _ => s

/-- A retired write of router `r` that endpoint `k` does not answer: counted at the destination's breakwater, or at the source's where the map or a FAILED
link already stops it there, and logged against a dead unit, severity 7 (R294, R297, R554). -/
def State.dropWrite (s : State) (r k : Nat) : State :=
  let s1 := s.bwCount (if s.canReach r k then k / 4 else r) true
  if s.epState k = epDead then (s1.bump (Reg.ERR_UCNT (unitOfEp k)) F.ERR_UCNT_LOST 1).detect { unit := unitOfEp k, sev := some 7, detail := 1 } else s1

/-- `f` TC0 request flits leave endpoint `k` from router `r` for router `q`: tokens are taken and links crossed (R283, R284). -/
def State.takeTc0 (s : State) (k f r q : Nat) : State :=
  let e := s.ep k
  (s.setEp k { e with tokens := e.tokens - f }).crossFlits f (route r q)

/-- A request of `f` flits may leave endpoint `k` at once: tokens for the whole packet, and none waiting before it (R283). -/
def State.tc0Ready (s : State) (k f : Nat) : Bool := (s.ep k).tc0q.isEmpty && decide (f ≤ (s.ep k).tokens)

/-- A wait for tokens; at RATE = 0 it is counted in the unit log (R283, R550). -/
def State.tc0Wait (s : State) (k : Nat) : State :=
  if s.fld (Reg.RTR_TC0BKT (k / 4) (k % 4)) F.RTR_TC0BKT_RATE = 0 then s.bump (Reg.ERR_UCNT (unitOfEp k)) F.ERR_UCNT_WAITS 1 else s

/-- Inject a TC0 packet. -/
def State.injectTc0 (s : State) (k : Nat) (p : Tc0Pkt) : State := (s.takeTc0 k p.flits p.src p.dst).send p.msg

/-- A TC0 packet of endpoint `k` waits behind the ones before it; a wait at RATE = 0 is counted in the unit log (R283, R550). -/
def State.waitTc0 (s : State) (k : Nat) (p : Tc0Pkt) : State := (s.setEp k { s.ep k with tc0q := (s.ep k).tc0q ++ [p] }).tc0Wait k

/-- A TC0 request of endpoint `k`: injected where its tokens suffice and nothing waits before it, otherwise it waits (R283). -/
def State.sendTc0 (s : State) (k : Nat) (p : Tc0Pkt) : State :=
  if s.tc0Ready k p.flits then s.injectTc0 k p else s.waitTc0 k p

/-- A retired store dropped because its cast part is unpopulated is counted in the log of the unit that holds the ways (R227, R550). -/
def State.lostStore (s : State) (pa : Nat) : State :=
  match regionOf pa with
  | .sharedCast t => s.bump (Reg.ERR_UCNT (unitSlice t)) F.ERR_UCNT_LOST 1
  | .coreCast c => s.bump (Reg.ERR_UCNT (unitCore c)) F.ERR_UCNT_LOST 1
  | _ => s

/-- A write already posted to a dead unit is lost: counted at the breakwater and logged against the unit, severity 7 (R294, R554). -/
def State.lostWrite (s : State) (k : Nat) : State :=
  (((s.bwCount (k / 4) true).bump (Reg.ERR_UCNT (unitOfEp k)) F.ERR_UCNT_LOST 1)).detect
    { unit := unitOfEp k, sev := some 7, detail := 1 }

/-! ### Fence map and the end of an endpoint (R290 to R294) -/

/-- The router that owns an endpoint broadcasts its new state to every router (R290). -/
def State.broadcast (s : State) (k st : Nat) : State :=
  s.sendAll ((List.range 80).map (fun r => Msg.fenceMap r k st))

/-- The messages on their way to a posted-write target at endpoint `k` that its death loses (R294). -/
def msgEndpoint : Msg → Option Nat
  | .mailbox e _ _ _ _ _ => some (epFe e)
  | .posting _ _ _ => some epSvc
  | _ => none

/-- The core a snoop, a probe or a TLB invalidation goes to. -/
def snoopTo : Msg → Option Nat
  | .snp _ _ _ c _ => some c
  | .prb _ _ c => some c
  | .tlbib c _ => some c
  | _ => none

/-- The breakwater's answer for a dead core: InvAck, an empty report, or the acknowledgement of an invalidation (R214, R258, R264, R297). -/
def answerSnoop : Msg → Msg
  | .snp _ h l c _ => .invAck h l c
  | .prb h set c => .prbReport h set c
  | .tlbib c i => .tlbibAck i.issuer c
  | m => m

/-- The core of an endpoint number, where it is a core endpoint. -/
def epCoreOf (k : Nat) : Option Nat := if epKind (k / 4) (k % 4) = 1 then some (2 * (k / 4 - 8) + k % 4) else none

/-- The endpoint becomes DEAD (R294): cause recorded, DEAD flag and record of severity 5 set, the change broadcast; its waiting writes are lost and
snoops to a dead core answered for it. -/
def State.kill (s : State) (k cause : Nat) : State :=
  let a := epctl k
  let s1 := ((s.setFld a F.RTR_EPCTL_STATE epDead).setFld a F.RTR_EPCTL_CAUSE cause).setFld a F.RTR_EPCTL_EBB 0
  let s2 := (s1.setBit (Reg.RTR_STAT (k / 4)) (8 + k % 4) true).setFlag (Reg.ERR_USTAT (unitOfEp k)) F.ERR_USTAT_DEAD true
  let s3 := (s2.detect { unit := unitOfEp k, sev := some 5, detail := cause }).broadcast k epDead
  let lost := s3.net.filter (fun m => msgEndpoint m == some k)
  let s4 := lost.foldl (fun s m => (s.lostWrite k).mailboxGone m) { s3 with net := s3.net.filter (fun m => msgEndpoint m != some k) }
  match epCoreOf k with
  | some c =>
    let s5 : State := { s4 with net := s4.net.map (fun m => if snoopTo m = some c then answerSnoop m else m) }
    (s5.modCore c (fun x => { x with tlbRecv := [] })).sendAll ((s5.core c).tlbRecv.map (fun i => Msg.tlbibAck i.issuer c))
  | none => s4

/-! ### Flushing caches (R238, R239, R246) -/

/-- One L2 line is written back or announced and gone: its home takes dirty data and drops the sharer (R254, as for a notice). -/
def State.flushLine (s : State) (n l : Nat) (v : L2Line) : State :=
  let h := s.home l
  let s1 := if v.st = .m then s.sliceFill h l 0 v.data v.poison true else s
  s1.modSlice h (fun x => match x.dirOf l with
    | some (w, d) =>
      let sh := delSharer d.sharers n
      x.setDir (dirSet l) w (if sh = 0 then none
        else some { d with sharers := sh, fcore := if d.fcore = some n then none else d.fcore })
    | none => x)

/-- Write back and announce every uncast L2 line of core `n` and invalidate its L1s; lines in its eviction buffer are delivered too (R238). -/
def State.flushCore (s : State) (n : Nat) : State :=
  let c := s.core n
  let s1 := c.l2.foldl (fun s e => if e.2.st = .i then s else s.flushLine n e.1 e.2) s
  let s2 := c.evb.foldl (fun s e => match e.2 with
    | some x => if x.superseded then s
                else s.flushLine n e.1 { st := if x.dirty then .m else .s, data := x.data, poison := x.poison }
    | none => s) s1
  s2.modCore n (fun c => { c with l2 := [], evb := [], req := [], l1i := [], l1d := [], resv := none })

/-- Write every dirty line of slice `t` to DRAM and drop all its lines (R239, R246). -/
def State.flushSlice (s : State) (t : Nat) : State :=
  let s1 := (s.slice t).lines.foldl (fun s e => s.sliceDrop t e.1 true) s
  s1.modSlice t (fun x => { x with lines := [] })

end Sys2Proof.Machine
end

