-- ==== Sys2Proof/Machine/Inject.lean ====
section
/-!
DEFINITION. Failed checks of a core's structures as an access meets them (R217, R221, R527 to R540), and the triggers of an armed error injection (R559).
-/
namespace Sys2Proof.Machine

/-! ### Injection (R559) -/

/-- An injection is armed. -/
def State.armed (s : State) : Bool := s.flag Reg.ERR_INJSTAT F.ERR_INJSTAT_ARMED

/-- The trigger of the armed injection is met by an access at an address; a structure without an address never meets TRIG 1 (R559, R562). -/
def State.injTrig (s : State) (addr : Option Nat) : Bool :=
  match s.fld Reg.ERR_INJCTL F.ERR_INJCTL_TRIG with
  | 0 => true
  | 1 => (match addr with | some x => (s.reg Reg.ERR_INJADDR).toNat / 64 == x / 64 | none => false)
  | 2 => decide ((s.reg Reg.ERR_INJTIME).toNat ≤ s.now)
  | _ => false

/-- The KIND that the armed injection brings to an access of unit `u`, class `c`, at an address (R559): none where nothing is armed for it or the
trigger is not met. -/
def State.injKind (s : State) (u c : Nat) (addr : Option Nat) : Option Nat :=
  let a := Reg.ERR_INJCTL
  if s.armed && s.fld a F.ERR_INJCTL_UNIT == u && s.fld a F.ERR_INJCTL_CLASS == c && s.injTrig addr
  then some (s.fld a F.ERR_INJCTL_KIND) else none

/-- Disarm. -/
def State.disarm (s : State) : State :=
  (s.setFlag Reg.ERR_INJSTAT F.ERR_INJSTAT_ARMED false).setFlag Reg.ERR_INJCTL F.ERR_INJCTL_ARM false

/-- One trigger has happened: after COUNT triggers the injection disarms and line 7 is raised (R559). -/
def State.injTriggered (s : State) : State :=
  let s1 := s.bump Reg.ERR_INJSTAT F.ERR_INJSTAT_MADE 1
  if s.fld Reg.ERR_INJCTL F.ERR_INJCTL_COUNT ≤ s1.fld Reg.ERR_INJSTAT F.ERR_INJSTAT_MADE then
    s1.disarm.setBit Reg.ERR_LINESTAT 7 true
  else s1

/-- A corrected event, and contained uncorrectable data, with or without the mark of an injection. -/
def State.correctedI (s : State) (u c : Nat) (inj : Bool) : State := s.detect { unit := u, cls := c, inj := inj }
def State.failureI (s : State) (u c v : Nat) (part : Option Nat) (addr loc : Nat) (inj : Bool) : State :=
  s.detect { unit := u, cls := c, sev := some v, part := part, addr := addr, loc := loc, inj := inj }

/-- Mark the events detected since `s0` as injected (R559). -/
def State.markInj (s0 s1 : State) : State :=
  { s1 with errq := s0.errq ++ (s1.errq.drop s0.errq.length).map (fun e => { e with inj := true }) }

/-- A trigger at an owner-tier byte that the access reads (R529, R530): KIND 0 is corrected, KIND 1 is uncorrectable, rewritten as poisoned and logged;
KIND 2 finds the byte poisoned, which its reader meets. `spoil` poisons it where it stands. -/
def State.injectOwner (s : State) (u c pa : Nat) (part : Option Nat) (k : Nat) (spoil : State → State) : State :=
  match k with
  | 0 => (s.correctedI u c true).injTriggered
  | 1 => ((spoil s).failureI u c 1 part pa 0 true).injTriggered
  | 2 => (spoil s).injTriggered
  | _ => s

/-- Poison a byte of memory or of an L2 line where it stands. -/
def State.poisonByte (s : State) (n pa : Nat) : State :=
  match regionOf pa with
  | .dram => s.modCore n (fun c => let v := c.l2line (pa / 64)
      if v.st = .i then c else c.setL2 (pa / 64) { v with poison := setB v.poison (pa % 64) true })
  | _ => { s with memPoison := Tbl.set (fun _ => false) s.memPoison pa true }

/-! ### TLB entries that fail (R217) -/

/-- An L2 TLB entry goes, with its copies (R197). -/
def State.dropTlb (s : State) (n k : Nat) : State := s.modCore n (fun c => (c.setTlb k none).dropCopies1 k)
/-- A stage-2 entry goes, with its copies. -/
def State.dropS2 (s : State) (n k : Nat) : State := s.modCore n (fun c => (c.setS2 k none).dropCopies2 k)

/-- The event of a failed entry: its bucket, and severity 9 with set and way where it was locked (R217, R548, R554). -/
def State.tlbEvent (s : State) (n set way : Nat) (locked inj : Bool) : State :=
  let s1 := s.correctedI (unitCore n) 1 inj
  if locked then s1.failureI (unitCore n) 1 9 (some (s.core n).part) 0 (set + 65536 * way) inj else s1

/-- The L2 TLB entry that an address uses fails its check and is removed. -/
def State.failTlb (s : State) (n : Nat) (va : Word) (inj : Bool) : State :=
  let c := s.core n
  match c.tlbLookup (c.ownerAt c.level) (c.asidAt c.level) (va.toNat % 2 ^ 48) with
  | none => s
  | some k => match c.tlbAt k with
    | none => s
    | some e => (s.tlbEvent n (k / 8) (k % 8) e.lock inj).dropTlb n k

/-- The stage-2 entry that an address uses fails its check and is removed. -/
def State.failS2 (s : State) (n : Nat) (va : Word) (inj : Bool) : State :=
  let c := s.core n
  let gpa : Nat :=
    if c.stage1 c.level then
      match c.tlbLookup (c.ownerAt c.level) (c.asidAt c.level) (va.toNat % 2 ^ 48) with
      | some k => (match c.tlbAt k with | some e => frameAddr e.ppn e.size (va.toNat % 2 ^ 48) | none => 0)
      | none => 0
    else va.toNat
  match c.s2Lookup c.pid gpa with
  | none => s
  | some k => match c.s2At k with
    | none => s
    | some e => (s.tlbEvent n (k / 4) (k % 4) e.lock inj).dropS2 n k

/-! ### Failed checks as an access meets them -/

/-- Apply one failed check (R217, R221, R530, R540): `va` and `pa` are the access's addresses, `pa` where it is translated. A line that fails twice reaches
the access poisoned, which is the caller's matter. -/
def State.meetCheck (s : State) (n : Nat) (va : Word) (pa : Nat) (k : Check) (inj : Bool) : State :=
  let u := unitCore n
  match k with
  | .l1 => (s.correctedI u 0 inj).modCore n (fun c => { c with l1d := c.l1d.filter (· != pa / 64) })
  | .l1Again => (s.correctedI u 0 inj).failureI u 0 1 (some (s.core n).part) pa 0 inj
  | .tlbCopy => s.correctedI u 1 inj
  | .tlb => s.failTlb n va inj
  | .s2 => s.failS2 n va inj
  | .corrected c => s.correctedI u c inj
  | .uncorrectable c => (s.poisonByte n pa).failureI u c 1 (some (s.core n).part) pa 0 inj

/-- The entry that an access uses fails its check and is removed: the L2 TLB entry, or the stage-2 entry where no stage-1 entry is used. -/
def State.failUsed (s : State) (n : Nat) (x : Xlated) : Option State :=
  let c := s.core n
  match x.k1, x.k2 with
  | some k, _ => (match c.tlbAt k with | some e => some ((s.tlbEvent n (k / 8) (k % 8) e.lock true).dropTlb n k) | none => none)
  | none, some k => (match c.s2At k with | some e => some ((s.tlbEvent n (k / 4) (k % 4) e.lock true).dropS2 n k) | none => none)
  | none, none => none

/-- The owner-tier structure that holds the bytes an access of core `n` reads at `pa`: a line in its L2, its own cast ways, or a slice's (R548). -/
def State.ownerOf (s : State) (n pa : Nat) : Option (Nat × Nat) :=
  match regionOf pa with
  | .dram => if ((s.core n).l2line (pa / 64)).st = .i then none else some (unitCore n, 3)
  | .coreCast k => if k = s.ownWindow n then some (unitCore k, 4) else none
  | .sharedCast t => some (unitSlice t, 2)
  | _ => none

/-- The injection's trigger at the bytes that an access of core `n` reads. -/
def State.injectRead (s : State) (n pa : Nat) : State :=
  match s.ownerOf n pa with
  | none => s
  | some (u, c) => match s.injKind u c (some pa) with
    | some k => s.injectOwner u c pa (some (s.core n).part) k (fun s => s.poisonByte n pa)
    | none => s

/-- The injection's triggers at one part of an access (R559): the translation it uses, the L1D line it finds, and the bytes that a load, LR or AMO reads. -/
def State.injectPart (s : State) (n : Nat) (kind : AccKind) (va : Word) (x : Xlated) : State :=
  let s1 := match s.injKind (unitCore n) 1 (some x.pa) with
    | some 3 => (match s.failUsed n x with | some t => t.injTriggered | none => s)
    | _ => s
  let s2 := match s1.injKind (unitCore n) 0 (some x.pa) with
    | some 3 => if (s1.core n).l1d.contains (x.pa / 64) then (s1.meetCheck n va x.pa .l1 true).injTriggered else s1
    | _ => s1
  match kind with
  | .store => s2
  | .sc => s2
  | _ => s2.injectRead n x.pa

/-- The injection's triggers at a data access that passes its checks (R559; notes/assumptions/20.md). -/
def State.injectAccess (s : State) (n : Nat) (kind : AccKind) (va : Word) (w : Nat) : State :=
  if s.armed then
    match s.checkAccess n kind va w with
    | .error _ => s
    | .ok k =>
      let s1 := s.injectPart n kind va k.x1
      match k.x2 with
      | some y => s1.injectPart n kind va y
      | none => s1
  else s

/-- The physical address an access would reach, 0 where it is not translated. -/
def Core.paOf (c : Core) (k : AccKind) (va : Word) : Nat := match c.xlate k va false with | .ok x => x.pa | .error _ => 0

/-- Every failed check that a data access of core `n` meets, from outside and from an armed injection. -/
def State.meetChecks (s : State) (n : Nat) (k : AccKind) (va : Word) (w : Nat) (l : List Check) : State :=
  let pa := (s.core n).paOf k va
  (l.foldl (fun s x => s.meetCheck n va pa x false) s).injectAccess n k va w

end Sys2Proof.Machine
end

