-- ==== Sys2Proof/Machine/Lines.lean ====
section
/-!
DEFINITION. The sources of the interrupt distributor: their sense and lines (R380, R480, R481), and when one is pending (R482).
-/
namespace Sys2Proof.Machine

/-! ### Sources (R380, R480, R481) -/

/-- Reserved sources (R380, R480). -/
def isReservedSrc (k : Nat) : Bool :=
  let fe (b : Nat) : Bool := (b + 27 ≤ k && k < b + 32) || (b + 56 ≤ k && k < b + 128)
  (9 ≤ k && k < 16) || (97 ≤ k && k < 112) || (128 ≤ k && k < 256) || (3072 ≤ k && k < 4096) || fe 256 || fe 640

/-- The fixed sense of a source (R380, R480, R481): 0 level-high, 2 rising edge. -/
def fixedSense (k : Nat) : Nat :=
  let fe (b : Nat) : Nat := if k < b + 32 then 0 else if k < b + 56 then 2 else if k < b + 128 then 0 else 2
  if k = 8 then 2 else if k < 256 then 0 else if k < 640 then fe 256 else if k < 1024 then fe 640
  else if k < 3072 then 2 else if k < 4096 then 0 else 2

/-- The sense in effect: programmable for the pins. -/
def State.sense (s : State) (k : Nat) : Nat := if k < 8 then (s.src k).sense else fixedSense k

/-- The level line of a field engine's source at offset `i` from its base (R342, R380). -/
def State.feLine (s : State) (e i : Nat) : Bool :=
  if i < 24 then
    let st := s.reg (Reg.FLN_STAT e i)
    s.flag (Reg.FLN_CTL e i) F.FLN_CTL_EVIE && (getF st F.FLN_STAT_UPCHG == 1 || getF st F.FLN_STAT_FAULTEV == 1 || getF st F.FLN_STAT_PREVCHG == 1)
  else if i = 24 then s.flag (Reg.FE_STAT e) F.FE_STAT_LOSTEV && s.flag (Reg.FE_CFG e) F.FE_CFG_LOSTIE
  else if i = 25 then s.flag (Reg.FE_STAT e) F.FE_STAT_LSEV && s.flag (Reg.FE_CFG e) F.FE_CFG_LSIE
  else if i = 26 then s.flag (Reg.FE_STAT e) F.FE_STAT_TFAULT && s.flag (Reg.FE_CFG e) F.FE_CFG_TFIE
  else false

/-- A fast-loop fault of any lane of any present field engine (R436). -/
def State.fastFault (s : State) : Bool :=
  [0, 1].any (fun e => s.hasFe e && (List.range 24).any (fun i =>
    s.flag (Reg.FE_FSCFG e i) F.FE_FSCFG_IE && getF (s.reg (Reg.FE_FSSTAT e i)) ⟨1, 4⟩ != 0))

/-- The level of a source's line (R48, R55, R301, R342, R346, R380, R436, R480, R492, R493, R556, R581, R626). Message sources have none. -/
def State.irqLine (s : State) (k : Nat) : Bool :=
  if k < 8 then (s.src k).pin != getB (s.reg Reg.AON_WAKEPOL) k
  else if k < 16 then false
  else if k < 24 then getB (s.reg Reg.ERR_LINESTAT) (k - 16) && getB (s.reg Reg.ERR_CTL) (k - 16)
  else if k = 24 then !s.flag Reg.CHIP_PACESTAT F.CHIP_PACESTAT_FASTOK && s.flag Reg.CHIP_PACECFG F.CHIP_PACECFG_FASTEN
  else if k = 25 then s.flag Reg.CHIP_PACESTAT F.CHIP_PACESTAT_LOST
  else if k = 26 then (List.range 80).any (fun r => s.flag (Reg.RTR_STAT r) F.RTR_STAT_OVERIE && s.fld (Reg.RTR_STAT r) F.RTR_STAT_OVER != 0)
  else if k = 27 then (List.range 80).any (fun r => s.flag (Reg.RTR_STAT r) F.RTR_STAT_FAILIE &&
    (s.fld (Reg.RTR_STAT r) F.RTR_STAT_FAIL != 0 || s.fld (Reg.RTR_STAT r) F.RTR_STAT_DEAD != 0))
  else if k = 28 then s.flag Reg.CHIP_TTSTAT F.CHIP_TTSTAT_CHG && s.flag Reg.CHIP_TTCTL F.CHIP_TTCTL_CHGIE
  else if k = 29 then s.fastFault
  else if k = 30 then s.flag Reg.PWR_THSTAT F.PWR_THSTAT_WARN
  else if k = 31 then s.flag Reg.PWR_THSTAT F.PWR_THSTAT_CRIT
  else if k < 96 then getB (s.reg Reg.IRQ_POSTFLAG) (k - 32)
  else if k = 96 then (List.range 64).any (fun p => s.flag (Reg.IRQ_PTSTAT p) F.IRQ_PTSTAT_ERR)
  else if 112 ≤ k ∧ k < 128 then
    let p := (k - 112) / 2
    let st := s.reg (Reg.HIF_PSTAT p)
    if k % 2 = 0 then getF st F.HIF_PSTAT_LINKCHG == 1 && s.flag (Reg.HIF_PCTL p) F.HIF_PCTL_LINKIE
    else (getF st F.HIF_PSTAT_ERREV == 1 || getF st F.HIF_PSTAT_CONTAINED == 1) && s.flag (Reg.HIF_PCTL p) F.HIF_PCTL_ERRIE
  else if 256 ≤ k ∧ k < 640 then s.feLine 0 (k - 256)
  else if 640 ≤ k ∧ k < 1024 then s.feLine 1 (k - 640)
  else false

/-- Whether a source is pending (R482). -/
def State.srcPending (s : State) (k : Nat) : Bool :=
  let x := s.src k
  x.soft || (match s.sense k with | 0 => s.irqLine k | 1 => !s.irqLine k | _ => x.edge)

end Sys2Proof.Machine
end

