-- ==== Sys2Proof/Machine/Station.lean ====
section
/-!
DEFINITION. Station entries (R356) as the slots hold them, and when a station's outputs carry substitute values (R382).
-/
namespace Sys2Proof.Machine

/-! ### Station entries (R356) -/

/-- A station entry, decoded. -/
structure StnEnt where
  fmt : Nat
  fast : Bool
  pair : Bool
  submode : Nat
  tagged : Bool
  lane : Nat
  vid : Nat
  pcp : Nat
  /-- MAC address as six little-endian bytes: the first octet on the wire is the lowest -/
  mac : Nat
  part : Nat
  timeout : Nat
  inlen : Nat
  outlen : Nat
  inimg : Nat
  outimg : Nat
  swapIn : Nat
  swapOut : Nat
  inoff : Nat
  outoff : Nat
  subptr : Nat
  fcore : Nat
  deriving DecidableEq, Repr

/-- The eight words of a slot as one number. -/
def stnNum : List Word → Nat
  | [] => 0
  | w :: r => w.toNat + 2 ^ 64 * stnNum r

/-- Bits `[lo + w - 1 : lo]` of a number. -/
def bitsAt (v lo w : Nat) : Nat := v / 2 ^ lo % 2 ^ w

/-- Decode an entry (R356). -/
def parseStn (ws : List Word) : StnEnt :=
  let v := stnNum ws
  { fmt := bitsAt v 0 2, fast := bitAt v 2, pair := bitAt v 3, submode := bitsAt v 4 2, tagged := bitAt v 6, lane := bitsAt v 8 8,
    vid := bitsAt v 16 12, pcp := bitsAt v 28 3, mac := bitsAt v 32 48, part := bitsAt v 80 6, timeout := bitsAt v 88 8,
    inlen := bitsAt v 96 16, outlen := bitsAt v 112 16, inimg := bitsAt v 128 4, outimg := bitsAt v 136 4, swapIn := bitsAt v 144 2,
    swapOut := bitsAt v 146 2, inoff := bitsAt v 160 32, outoff := bitsAt v 192 32, subptr := bitsAt v 224 64, fcore := bitsAt v 288 7 }

/-- Bits that R356 requires to be 0 and are not: those of both formats, those of bytes 48 to 63 in format 2, FAST and FCORE in format 1. -/
def stnReserved (v : Nat) : Bool :=
  bitAt v 7 || bitAt v 31 || bitsAt v 86 2 != 0 || bitsAt v 132 4 != 0 || bitsAt v 140 4 != 0 || bitsAt v 148 4 != 0 || bitsAt v 152 8 != 0 ||
  bitsAt v 295 9 != 0 || bitsAt v 304 80 != 0 ||
  (if bitsAt v 0 2 = 1 then bitAt v 2 || bitsAt v 288 7 != 0 else bitsAt v 384 128 != 0)

/-- The words of a slot, and its entry. -/
def State.slotStn (s : State) (e st : Nat) : List Word := (List.range 8).map (fun j => s.reg (Reg.STN_SLOT e st j))
def State.stnEnt (s : State) (e st : Nat) : StnEnt := parseStn (s.slotStn e st)

/-- A station is in substitution (the read of a send that fails apart). -/
def State.inSubst (s : State) (e : Nat) (x : StnEnt) : Bool :=
  getB (s.reg (Reg.FE_SUBFORCE e)) x.part || (!x.fast && s.flag (Reg.FE_IMGSTAT e x.outimg) F.FE_IMGSTAT_LSEXP)

end Sys2Proof.Machine
end

