-- ==== Sys2Proof/Machine/View.lean ====
section
/-!
DEFINITION. Reading a control-space register: a register whose content has its home elsewhere in the state is computed from there, every other register
reads as stored, and a read through RC clears (R14). A pin level or an amount that the state does not hold is a free value.
-/
namespace Sys2Proof.Machine

/-- One bits of a map of `n` units. -/
def onesOf (m n : Nat) : Nat := popcount (BitVec.ofNat 64 m) n

/-- The identification registers (R37 to R39). -/
def Fuses.id (f : Fuses) : Word := fieldW 0 16 f.part ||| fieldW 16 8 f.stepping
def Fuses.units (f : Fuses) : Word :=
  fieldW 0 7 (popcount f.tilemap 64) ||| fieldW 8 7 (popcount f.tilemap 64) ||| fieldW 16 4 (onesOf f.mcmap 12) ||| fieldW 20 4 (onesOf f.quadmap 12) |||
    fieldW 24 2 (onesOf f.femap 2) ||| fieldW 28 3 (onesOf f.ldlmap 4) ||| fieldW 32 1 (b2n f.vec) ||| fieldW 33 1 (b2n f.pair) |||
    fieldW 34 4 (onesOf f.pciemap 8) ||| fieldW 48 13 (2048 * onesOf f.femap 2)
def Fuses.iomap (f : Fuses) : Word :=
  fieldW 0 12 f.mcmap ||| fieldW 16 12 f.quadmap ||| fieldW 32 2 f.femap ||| fieldW 36 4 f.ldlmap ||| fieldW 40 8 f.pciemap

/-- SVC_KEYSTAT (R609). -/
def keystat : Nat → List KeySlot → Word
  | _, [] => 0
  | k, x :: r => fieldW k 1 (b2n x.prog) ||| fieldW (4 + k) 1 (b2n x.revoked) ||| fieldW (8 + k) 1 (b2n x.bad) ||| keystat (k + 1) r

/-- HELD, CHECKSTOP and PAIRHALT of SVC_CORECTL (R613); a core in OFF or RETAIN is held where it is not one of the stopped ones. -/
def State.corectl (s : State) (n : Nat) : Word :=
  let r := (s.core n).run
  let v := s.reg (Reg.SVC_CORECTL n)
  setF (setF (setF v F.SVC_CORECTL_HELD (b2n (r == .held || r == .off))) F.SVC_CORECTL_CHECKSTOP (b2n (r == .checkstop)))
    F.SVC_CORECTL_PAIRHALT (b2n (r == .pairHalt))

/-- The entry that DIR_DIAGIDX of directory slice `t` selects (R272). -/
def State.diag (s : State) (t : Nat) : Word × Word × Word :=
  let i := s.reg (Reg.DIR_DIAGIDX t)
  let set := getF i F.DIR_DIAGIDX_SET
  let way := getF i F.DIR_DIAGIDX_WAY
  let x := s.slice t
  let claim := fieldW 4 1 (b2n (way == 15 && x.claims.contains set))
  match Tbl.get (fun _ => none) x.dir (16 * set + way) with
  | none => (claim, 0, 0)
  | some d =>
    let fc := if d.em then (List.range 128).find? (fun n => d.sharers.getLsbD n) else d.fcore
    let open_ := (Tbl.get (fun _ => (none : Option Txn)) x.txns d.line).isSome
    (fieldW 0 1 1 ||| fieldW 1 1 (b2n d.em) ||| fieldW 2 1 (b2n open_) ||| fieldW 3 1 (b2n fc.isSome) ||| claim |||
       fieldW 8 7 (fc.getD 0) ||| fieldW 16 41 d.line,
     d.sharers.extractLsb' 0 64, d.sharers.extractLsb' 64 64)

/-- The fast station that the mailbox slot of local lane `i` serves: the one whose entry names that lane, the lower one of its pair (R426). -/
def State.slotOwner (s : State) (e i : Nat) : Option Nat :=
  if !s.flag (Reg.FLN_STAT e i) F.FLN_STAT_FAST then none
  else
    let st := s.fld (Reg.FE_FSSTAT e i) F.FE_FSSTAT_STATION
    if (s.stnEnt e st).lane = 24 * e + i then some st else none

/-- FE_MBSTAT of a slot (R428): SENDS; an output frame that waits for the transmitter; the substitution state; a loop is open. -/
def State.mbStat (s : State) (e i : Nat) : Word :=
  let l := 24 * e + i
  let y := Tbl.get (fun _ => ({} : FastSt)) s.fast l
  match s.slotOwner e i with
  | none => 0
  | some st =>
    let x := s.stnEnt e st
    let waits (l : Nat) : Bool := (Tbl.get (fun _ => ({} : Lane)) s.lanes l).queue.any (fun f => f.body == .tide st true)
    fieldW 0 32 y.sends ||| fieldW 32 1 (b2n (waits l || (x.pair && waits (l + 1)))) ||| fieldW 33 1 (b2n (s.inSubst e x)) |||
      fieldW 34 1 (b2n y.loop.isSome)

/-- What a load from the field mailbox space of engine `e` reads (R381, R426 to R428): the staged payload and the status of a slot, the last life sign of
an image at offset 0 of its page, zero elsewhere. -/
def State.mailboxRead (s : State) (e off width : Nat) : Word :=
  let half (w : Word) : Word := if width = 4 then (w >>> (8 * (off % 8))) &&& 0xFFFF_FFFF else w
  let p := off % 0x1000
  if off < 0x1_8000 then
    if p < 0x100 then half (Tbl.get (fun _ => (0 : Word)) (Tbl.get (fun _ => ({} : FastSt)) s.fast (24 * e + off / 0x1000)).data (p / 8))
    else if p / 8 = 0x21 then half (s.mbStat e (off / 0x1000))
    else 0
  else if 0x7F_0000 ≤ off ∧ off < 0x80_0000 ∧ p = 0 then
    half ((Tbl.get (fun _ => ({} : Img)) s.imgs (16 * e + (off - 0x7F_0000) / 0x1000)).life.getD 0)
  else 0

/-- 64 bits, one for each `k` below 64 at which a test holds. -/
def bits64 (p : Nat → Bool) : Word := (List.range 64).foldl (fun w k => if p k then w ||| bitW k else w) 0

/-- IRQ_CFG of a source (R481, R501). -/
def State.irqCfg (s : State) (k : Nat) : Word :=
  let x := s.src k
  let offered := s.dist.cores.any (fun e => (match e.2.off5 with | some q => q.1 == k | none => false) ||
    (match e.2.off6 with | some q => q.1 == k | none => false))
  fieldW 0 3 (s.sense k) ||| fieldW 3 1 (b2n (s.irqLine k)) ||| fieldW 4 1 (b2n x.wake) ||| fieldW 8 5 x.prio ||| fieldW 16 1 (b2n x.tkind) |||
    fieldW 24 7 x.core ||| fieldW 32 6 x.part ||| fieldW 40 7 x.vcore ||| fieldW 48 1 (b2n x.posted) ||| fieldW 49 1 (b2n offered) |||
    fieldW 50 1 (b2n x.moving) ||| fieldW 56 8 x.accnum

/-- IRQ_OFFER of a core (R501). -/
def State.irqOffer (s : State) (n : Nat) : Word :=
  let d := s.distCore n
  (match d.off5 with | some q => fieldW 0 13 q.1 ||| fieldW 16 1 1 | none => 0) |||
    (match d.off6 with | some q => fieldW 32 13 q.1 ||| fieldW 48 1 1 | none => 0)

/-- FE_DBSIZES (R395). -/
def State.dbSizes (s : State) (e f : Nat) : Word :=
  (List.range 4).foldl (fun w n =>
    let r := s.reg (Reg.FE_FNRXRING e f n)
    w ||| fieldW (8 * n + 8) 5 (getF r F.FE_FNRXRING_LOG2SIZE) ||| fieldW (40 + n) 1 (getF r F.FE_FNRXRING_USE))
    (fieldW 0 5 (s.fld (Reg.FE_FNTXRING e f) F.FE_FNTXRING_LOG2SIZE))

/-- LDL_DBSTAT: the copies of LDL_CHSTAT and what is its own (R449). -/
def State.dbStat (s : State) (l c : Nat) : Word :=
  let own := s.reg (Reg.LDL_DBSTAT l c)
  let ch := s.reg (Reg.LDL_CHSTAT l c)
  setF own ⟨0, 9⟩ (getF ch ⟨0, 9⟩)

/-- The event flags that the doorbell page of channel `c` shows: those of the enabled groups of its owner (R448, R455). -/
def State.pageFlags (s : State) (l c : Nat) : Word :=
  let g := s.reg (Reg.LDL_EVGRP l)
  let own := s.fld (Reg.LDL_CHCFG l c) F.LDL_CHCFG_OWNER
  s.reg (Reg.LDL_EVSET l) &&& bits64 (fun k => getB g (8 * (k / 8) + 7) && getF g ⟨8 * (k / 8), 6⟩ == own)

/-- LDL_ENGSTAT (R445): how many crucible lines the channels in flight hold is not held; it is at least one each (R441), a free value up to 1,024. -/
def State.engStat (s : State) (l : Nat) : Word :=
  let n := (Tbl.get (fun _ => ({} : LdlEng)) s.ldlEngs l).flight.length
  fieldW 0 5 n ||| fieldW 16 11 (if n = 0 then 0 else n + (Config.free 11 s.fresh).toNat % (1025 - n))

/-- Whether a register shows something the state does not hold, so that a read draws. -/
def drawsAt (a : Nat) : Bool :=
  a == Reg.CHIP_TRIPSTAT || a == Reg.CHIP_GPIOIN || (0x0500_0000 ≤ a && a < 0x0600_0000 && a % 0x10_0000 == 0)

/-- The chip, service and identity registers (chapters 01, 12, 22, 24, 25). An output pin reads the level it drives; the other pins are outside. -/
def State.viewChip (s : State) (a : Nat) : Word :=
  if a = Reg.CHIP_ID then s.fuse.id
  else if a = Reg.CHIP_UNITS then s.fuse.units
  else if a = Reg.CHIP_TILEMAP ∨ a = Reg.CHIP_SLICEMAP then s.fuse.tilemap
  else if a = Reg.CHIP_HOMESET then s.homeWanted
  else if a = Reg.CHIP_HOMECUR then s.homeSet
  else if a = Reg.CHIP_IOMAP then s.fuse.iomap
  else if a = Reg.CHIP_TTCLKID then s.fuse.clkid
  else if a = Reg.CHIP_TRIPSTAT then setF (s.reg a) F.CHIP_TRIPSTAT_LEVEL (Config.free 16 s.fresh).toNat
  else if a = Reg.CHIP_GPIOIN then
    let dir := s.reg Reg.CHIP_GPIODIR &&& 0xFFFF
    ((s.reg Reg.CHIP_GPIOOUT &&& dir) ||| ((Config.free 16 s.fresh).setWidth 64 &&& ~~~ dir)) &&& 0xFFFF
  else if a = Reg.SVC_SVNFUSE then s.fuse.svn
  else if a = Reg.SVC_KEYSTAT then keystat 0 s.fuse.slots
  else if Reg.SVC_CORECTL 0 ≤ a ∧ a < Reg.SVC_CORECTL 128 then s.corectl ((a - Reg.SVC_CORECTL 0) / 8)
  else if a = Reg.ID_FACTID0 then s.fuse.factid0
  else if a = Reg.ID_FACTID1 then s.fuse.factid1
  else if a = Reg.ID_CERTLEN then fieldW 0 12 s.fuse.cert.length
  else if Reg.ID_CERT 0 ≤ a ∧ a < Reg.ID_CERT 512 then
    BitVec.ofNat 64 (leWord ((List.range 8).map (fun i => s.fuse.cert.getD (a - Reg.ID_CERT 0 + i) 0)))
  else s.reg a

/-- The field engines' registers (chapters 12 to 15): `e` the engine, `b` the offset in its block. -/
def State.viewFe (s : State) (e b a : Nat) : Word :=
  if 0x10_0000 ≤ b ∧ b < 0x10_6000 ∧ b % 0x1000 = 8 then
    setF (s.reg a) F.FLN_QSTAT_RUN (b2n (s.domRun (204 + 6 * e + (b - 0x10_0000) / 0x1000)))
  else if 0x33_0000 ≤ b ∧ b < 0x33_4000 then
    let st := (b - 0x33_0000) / 8
    let x := s.stnEnt e st
    setF (s.reg a) F.STN_STATE_SUBST (b2n (s.fld a F.STN_STATE_STATE != 0 && s.inSubst e x))
  else if 0x34_0000 ≤ b ∧ b < 0x34_0100 then
    bits64 (fun k => s.fld (Reg.STN_STATE e (64 * ((b - 0x34_0000) / 8) + k)) F.STN_STATE_STATE == 3)
  else if 0x62_0000 ≤ b ∧ b < 0x62_0600 ∧ b % 0x40 = 8 then
    let l := 24 * e + (b - 0x62_0000) / 0x40
    setF (s.reg a) F.FE_FSSTAT_OPEN (b2n (Tbl.get (fun _ => ({} : FastSt)) s.fast l).loop.isSome)
  else if 0x80_0000 ≤ b ∧ b < 0x88_0000 then
    let f := (b - 0x80_0000) / 0x1000
    let o := b % 0x1000
    let st := s.reg (Reg.FE_FNSTAT e f)
    if o = 0x100 then
      setF (setF (s.reg a) F.FE_DBSTAT_STATE (getF st F.FE_FNSTAT_STATE)) F.FE_DBSTAT_ERRCODE (getF st F.FE_FNSTAT_ERRCODE)
    else if o = 0x118 then s.reg (Reg.FE_DBIMSET e f)
    else if o = 0x130 then
      fieldW 0 8 (128 * e + f) ||| fieldW 8 6 (s.fld (Reg.FE_FNCFG e f) F.FE_FNCFG_OWNER) ||| fieldW 24 24 (getF (s.reg (Reg.FE_FNLANES e f)) ⟨0, 24⟩)
    else if o = 0x138 then s.dbSizes e f
    else s.reg a
  else s.reg a

/-- The ladle engines' registers (chapter 16). -/
def State.viewLdl (s : State) (l b a : Nat) : Word :=
  if b = 0 then s.engStat l
  else if b = 0x10 then s.reg (Reg.LDL_EVSET l)
  else if 0x8_0000 ≤ b ∧ b < 0xA_0000 then
    let c := (b - 0x8_0000) / 0x1000
    let o := b % 0x1000
    if o = 0x10 then s.dbStat l c
    else if o = 0x20 then s.reg (Reg.LDL_CHPC l c)
    else if o = 0x28 then s.reg (Reg.LDL_CHERRADDR l c)
    else if o = 0x40 then s.reg (Reg.LDL_DBIMSET l c)
    else if o = 0x50 ∨ o = 0x58 then s.pageFlags l c
    else s.reg a
  else s.reg a

/-- The distributor's registers (chapter 18): `b` the offset in its block. -/
def State.viewIrq (s : State) (b a : Nat) : Word :=
  if 0x1000 ≤ b ∧ b < 0x1800 then bits64 (fun k => (s.src (8 * (b % 0x400) + k)).enable)
  else if 0x1800 ≤ b ∧ b < 0x2000 then bits64 (fun k => s.srcPending (8 * (b % 0x400) + k))
  else if 0x2400 ≤ b ∧ b < 0x2800 then s.irqOffer ((b - 0x2400) / 8)
  else if 0x10_0000 ≤ b ∧ b < 0x11_0000 then s.irqCfg ((b - 0x10_0000) / 8)
  else s.reg a

/-- The error aggregator's registers (chapter 20). -/
def State.viewErr (s : State) (b a : Nat) : Word :=
  if 0x100 ≤ b ∧ b < 0x140 then
    bits64 (fun k => (List.range 8).any (fun c => s.flag (Reg.ERR_BKT (64 * ((b - 0x100) / 8) + k) c) F.ERR_BKT_OVER))
  else if 0x140 ≤ b ∧ b < 0x180 then bits64 (fun k => s.flag (Reg.ERR_USTAT (64 * ((b - 0x140) / 8) + k)) F.ERR_USTAT_UE)
  else if 0x1_0000 ≤ b ∧ b < 0x1_1000 then
    let r := Tbl.get (fun _ => ({} : LogRec)) s.errlog ((b - 0x1_0000) / 0x20)
    match b % 0x20 / 8 with
    | 0 => r.w0 | 1 => r.w1 | 2 => r.w2 | _ => r.w3
  else s.reg a

/-- The host interface's registers (chapter 23): a port that is not the lowest of its combination reads zero (R615); ACTIVE shows translated requests of
the context that have not completed (R623). -/
def State.viewHif (s : State) (b a : Nat) : Word :=
  if 0x1000 ≤ b ∧ b < 0x1800 then (if s.isRoot ((b - 0x1000) / 0x100) then s.reg a else 0)
  else if 0x1_0000 ≤ b ∧ b < 0x2_0000 ∧ b % 0x100 = 0 then
    let k := (b - 0x1_0000) / 0x100
    let mine (i : HifItem) : Bool :=
      match i with | .read _ _ k' _ _ _ => k' == k | .answered _ _ k' _ _ _ => k' == k | .write _ _ k' _ _ _ _ => k' == k | .edge _ _ => false
    setF (s.reg a) F.HIF_RQCFG_ACTIVE (b2n (s.hif.queue.any mine))
  else s.reg a

/-- The value of the aligned register at an offset. -/
def State.view (s : State) (a : Nat) : Word :=
  if a < 0x0040_0000 then s.viewChip a
  else if a < 0x0300_0000 then s.reg a
  else if a < 0x0500_0000 then s.viewFe ((a - 0x0300_0000) / 0x100_0000) (a % 0x100_0000) a
  else if a < 0x0600_0000 then s.viewLdl ((a - 0x0500_0000) / 0x10_0000) (a % 0x10_0000) a
  else if a < 0x0700_0000 then s.viewIrq (a - 0x0600_0000) a
  else if a < 0x0800_0000 then s.reg a
  else if a < 0x0900_0000 then s.viewHif (a - 0x0800_0000) a
  else if a < 0x1000_0000 then s.viewErr (a - 0x0900_0000) a
  else s.reg a

/-- The bits of a register that a read hides: its write-only fields read zero (R14). -/
def woMask : List FieldSpec → Word
  | [] => 0
  | f :: fs => (match f.acc with | .wo => f.fld.mask | _ => 0) ||| woMask fs

/-- A read of DIR_DIAGDATA takes the snapshot that the DIAGSHR registers then return (R272). -/
def State.snapshot (s : State) (a : Nat) : State :=
  if 0x0100_0000 ≤ a ∧ a < 0x0140_0000 ∧ a % 0x1_0000 = 0x6038 then
    let t := (a - 0x0100_0000) / 0x1_0000
    let d := s.diag t
    ((s.setReg a d.1).setReg (Reg.DIR_DIAGSHR0 t) d.2.1).setReg (Reg.DIR_DIAGSHR1 t) d.2.2
  else s

/-- The part of a register word that an access of a width at an offset reads. -/
def halfOf (off width : Nat) (v : Word) : Word := if width = 4 then (if off % 8 = 4 then v >>> 32 else v &&& 0xFFFF_FFFF) else v

/-- A read of `width` bytes at an offset: the value, and the state with the RC fields that were read cleared (R14). An absent unit's registers and
reserved offsets read zero (R7, R17). -/
def State.readCtl (s0 : State) (off width : Nat) : Word × State :=
  if s0.offPresent off then
    let a := off - off % 8
    match regDef a with
    | none => (0, s0)
    | some d =>
      let s := s0.snapshot a
      let v := s.view a &&& ~~~ woMask d.fields
      let cm := rcMask d.fields &&& accessMask off width
      let s1 := if cm = 0 then s else s.setReg a (s.reg a &&& ~~~ cm)
      (halfOf off width v, if drawsAt a then { s1 with fresh := s1.fresh + 1 } else s1)
  else (0, s0)

end Sys2Proof.Machine
end

