-- ==== Sys2Proof/Machine/CoreMem.lean ====
section
/-!
DEFINITION. The memory accesses of a core, shared by LOAD, STORE, AMO, LR, SC, the vector accesses and the drains: requests of an L2 (R253, R257),
stores leaving the queue or buffer (R78, R125, R227), forwarding and overlap (R81, R82, R128), delivery of a load (R76, R535).
-/
namespace Sys2Proof.Machine

/-! ### Requests of an L2 (R252, R253, R257) -/

/-- Coherent requests are held while a home-set change runs (R246). -/
def State.homesHeld (s : State) : Bool := s.flag Reg.CHIP_HOMECTL F.CHIP_HOMECTL_APPLY

/-- Ask the home for a line, unless a request is out, the line waits in the eviction buffer (R257), 48 misses are out (R74), or requests are held. -/
def State.want (s : State) (n l : Nat) (k : ReqKind) : State :=
  let c := s.core n
  if (c.ev l).isSome || (c.reqOf l).isSome || decide (48 ≤ c.req.length) || s.homesHeld then s
  else
    let s1 := s.setCore n ((c.setReq l (some { kind := k })).event 0x012 1)
    s1.send (.req (s.home l) l n k 0 c.part)

/-- Ask for ownership: an upgrade from S or F, otherwise a read for ownership (R252). -/
def State.wantM (s : State) (n l : Nat) : State :=
  let v := (s.core n).l2line l
  if v.st = .m ∨ v.st = .e then s else s.want n l (if v.st = .i then .rdx else .upg)

/-- Whether an L2 holds a line in any state, and whether it may write it at once (R252: E becomes M silently). -/
def Core.has (c : Core) (l : Nat) : Bool := (c.l2line l).st != .i
def Core.owns (c : Core) (l : Nat) : Bool := let v := c.l2line l; v.st == .m || v.st == .e

/-- Send the requests that waiting accesses of core `n` still need: loads, AMOs, and the oldest store. -/
def State.pump (s : State) (n : Nat) : State :=
  let c := s.core n
  let rd (s : State) (pa : Nat) : State :=
    if regionOf pa = .dram ∧ (s.core n).has (pa / 64) = false then s.want n (pa / 64) .rds else s
  let s1 := c.loads.foldl (fun s w => let s2 := rd s w.pa; if w.width2 = 0 then s2 else rd s2 w.pa2) s
  let s2 := c.amos.foldl (fun s w => s.wantM n (w.pa / 64)) s1
  match c.stores with
  | e :: _ => if regionOf e.pa = .dram ∧ e.bytes ≠ [] then s2.wantM n (e.pa / 64) else s2
  | [] => s2

/-! ### Stores leaving the core -/

/-- Whether the oldest store can be performed now: a DRAM line must be held in E or M (R78). -/
def Core.canPerform (c : Core) (e : StEnt) : Bool := e.bytes.isEmpty || (if regionOf e.pa = .dram then c.owns (e.pa / 64) else true)

/-- A retired store whose line the L2 cannot obtain any more: its home or channel is fenced or dead, and the store is lost (R295). -/
def State.storeLost (s : State) (n : Nat) (e : StEnt) : Bool :=
  (match regionOf e.pa with | .dram => true | _ => false) && !e.bytes.isEmpty && !(s.core n).owns (e.pa / 64) && !s.memAnswers (coreRouter n) e.pa

/-- A request of a core to the shared cast window is TC0 in slack water: one flit, which takes a token and crosses the links of its route (R34, R283, R284). -/
def State.sharedTc0 (s : State) (n pa : Nat) : State :=
  match regionOf pa with
  | .sharedCast t => if (s.core n).isSlack then s.takeTc0 (epCore n) 1 (coreRouter n) (tileRouter t) else s
  | _ => s

/-- How many of a list of accesses are such requests. -/
def State.sharedCount (s : State) (n : Nat) (pas : List Nat) : Nat :=
  if (s.core n).isSlack then (pas.filter (fun a => match regionOf a with | .sharedCast _ => true | _ => false)).length else 0

/-- Perform a store: into the own cast ways, the L2 line in M, or the target's cast ways over the Tideway; a store whose cast part has become
unpopulated is dropped and counted, and one whose target is fenced or dead is absorbed (R78, R125, R227, R255, R297). -/
def State.performStore (s : State) (n : Nat) (e : StEnt) : State :=
  if e.bytes = [] then s
  else match regionOf e.pa with
  | .dram =>
    if s.storeLost n e then s.dropWrite (coreRouter n) (s.lostEp (coreRouter n) e.pa) else
    let c := s.core n
    let v := c.l2line (e.pa / 64)
    let w := lineWrite v.data v.poison (e.pa % 64) e.bytes e.poison
    s.setCore n (c.setL2 (e.pa / 64) { v with st := .m, data := w.1, poison := w.2 })
  | .coreCast k =>
    if !s.populated e.pa e.bytes.length then s.lostStore e.pa
    else if k = s.ownWindow n then (s.setBytesP e.pa e.bytes e.poison).castTouched (some n) e.pa e.bytes.length
    else if !s.memAnswers (coreRouter n) e.pa then s.dropWrite (coreRouter n) (epCore k)
    else
      let s1 := (s.setBytesP e.pa e.bytes e.poison).castTouched (some n) e.pa e.bytes.length
      (s1.modCore n (fun c => { c with castAcks := c.castAcks + 1 })).send (.castStore n e.pa e.bytes)
  | .sharedCast t =>
    if !s.populated e.pa e.bytes.length then s.lostStore e.pa
    else if !s.memAnswers (coreRouter n) e.pa then s.dropWrite (coreRouter n) (epSlice t)
    else
      let s1 := ((s.sharedTc0 n e.pa).setBytesP e.pa e.bytes e.poison).castTouched (some n) e.pa e.bytes.length
      (s1.modCore n (fun c => { c with castAcks := c.castAcks + 1 })).send (.castStore n e.pa e.bytes)
  | _ => s

/-- The pieces of an entry with the marks of its uncorrectable bytes, which are written onward poisoned (R61, R535). -/
def markBad : List StEnt → List Bool → List StEnt
  | [], _ => []
  | e :: r, bad =>
    { e with poison := (List.range e.bytes.length).map (fun i => e.poison.getD i false || bad.getD i false) } :: markBad r (bad.drop e.bytes.length)

/-- The first uncorrectable byte of an entry, and its partition. -/
def firstBad : List StEnt → List Bool → Option (Nat × Nat)
  | [], _ => none
  | e :: r, bad => match (bad.take e.bytes.length).findIdx? (· == true) with
    | some i => some (e.pa + i, e.part)
    | none => firstBad r (bad.drop e.bytes.length)

/-- Drain the oldest entry, if it can be performed and has its tokens: true where it left. -/
def State.drainOne (s : State) (n : Nat) (bad : List Bool) : Bool × State :=
  let c := s.core n
  match c.stores with
  | [] => (false, s)
  | e :: rest =>
    let grp := e :: rest.takeWhile (·.cont)
    let f := s.sharedCount n ((grp.filter (fun e => !e.bytes.isEmpty)).map (·.pa))
    if decide (0 < f) && !s.tc0Ready (epCore n) f then (false, s.tc0Wait (epCore n))
    else if grp.all (fun e => c.canPerform e || s.storeLost n e) then
      let es := markBad grp bad
      let s1 := es.foldl (fun s e => s.performStore n e) (s.setCore n { c with stores := rest.dropWhile (·.cont) })
      -- an entry that leaves before the entry's slot is written is performed after it (R179)
      let s2 := s1.modCore n (fun c => match c.entry with
        | some t => if t.slot.isNone then { c with entry := some { t with late := t.late ++ es } } else c
        | none => c)
      let s3 := s2.pump n
      (true, match firstBad grp bad with
        | some x => s3.machineCheck n 3 false (some x.1) x.2 (s3.core n).pc
        | none => s3)
    else (false, s.pump n)

/-- Drain up to `k` entries from the oldest; true where all left. -/
def State.drainN (s : State) (n : Nat) : Nat → Bool × State
  | 0 => (true, s)
  | k + 1 =>
    if (s.core n).stores = [] then (true, s)
    else let q := s.drainOne n []; if q.1 then q.2.drainN n k else (false, q.2)

/-! ### Forwarding and overlap (R81, R82, R117, R128) -/

def StEnt.overlaps (e : StEnt) (pa w : Nat) : Bool := !e.bytes.isEmpty && decide (e.pa < pa + w) && decide (pa < e.pa + e.bytes.length)
def StEnt.covers (e : StEnt) (pa w : Nat) : Bool := decide (e.pa ≤ pa) && decide (pa + w ≤ e.pa + e.bytes.length)

/-- How many entries a list of pieces makes (R125). -/
def entryCount (l : List StEnt) : Nat := (l.filter (fun e => !e.cont)).length

/-- The number of entries from the oldest up to and including the youngest that overlaps any of the given parts (R117). -/
def overlapDepth (l : List StEnt) (parts : List (Nat × Nat)) : Nat :=
  match l.reverse.findIdx? (fun e => parts.any (fun p => e.overlaps p.1 p.2)) with
  | some i => entryCount (l.take (l.length - i))
  | none => 0

/-- The pieces that drain before such an access. -/
def overlapPieces (l : List StEnt) (parts : List (Nat × Nat)) : List StEnt :=
  match l.reverse.findIdx? (fun e => parts.any (fun p => e.overlaps p.1 p.2)) with
  | some i => l.take (l.length - i) ++ (l.drop (l.length - i)).takeWhile (·.cont)
  | none => []

/-- The store that fully covers a load and is the youngest to touch any of its bytes (R81; notes/assumptions/14.md). -/
def forwardFrom (l : List StEnt) (pa w : Nat) : Option StEnt :=
  match l.reverse.find? (fun e => e.overlaps pa w) with
  | some e => if e.covers pa w then some e else none
  | none => none

/-! ### Reading for a load -/

/-- A part of a load from its target: `none` where the data is not there yet; an error where the target faults (R25, R227, R297). -/
def State.partRead (s : State) (n pa w : Nat) (ans : Answer) : Except Bool (Option (List Byte × List Bool × State)) :=
  match regionOf pa with
  | .dram =>
    let v := (s.core n).l2line (pa / 64)
    if v.st = .i then
      -- the breakwater answers a request that it has stopped (R295, R297)
      (if ans == .fault && !s.memAnswers (coreRouter n) pa then .error true else .ok none)
    else .ok (some (lineSlice v.data (pa % 64) w, poisonAt v.poison (pa % 64) w, s))
  | .coreCast k =>
    if !s.populated pa w then .error false
    else if k = s.ownWindow n || s.memAnswers (coreRouter n) pa then
      .ok (some (s.bytes pa w, (List.range w).map (fun i => s.isPoison (pa + i)), s))
    else .error true
  | .sharedCast _ =>
    if !s.populated pa w then .error false
    else if s.memAnswers (coreRouter n) pa then .ok (some (s.bytes pa w, (List.range w).map (fun i => s.isPoison (pa + i)), s))
    else .error true
  | .control =>
    if s.devDelivers n pa then
      let o := pa - ctlBase
      if ecamOff o then
        match s.cfgRead o w (match ans with | .data v _ => .ok v | .fault => .ur) with
        | some v => .ok (some (leBytes w v.toNat, [], s))
        | none => .ok none
      else
        let q := s.readCtl o w
        .ok (some (leBytes w q.1.toNat, [], q.2))
    else .error true
  | .mailbox e =>
    if !s.devDelivers n pa then .error true
    else if (s.core n).mbxSent.contains e then .ok none
    else .ok (some (leBytes w (s.mailboxRead e (pa - (0x7001_0000_0000 + e * 0x80_0000)) w).toNat, [], s))
  -- a PCIe load completes with COMPLETION_RECEIVE; here only the loss of the host interface ends it
  | .pcie => if s.devDelivers n pa then .ok none else .error true
  | .undecoded => .error false

/-- Both parts of a load. -/
def State.loadRead (s : State) (n : Nat) (w : LdWait) (ans : Answer) : Except Bool (Option (List Byte × List Bool × State)) :=
  match s.partRead n w.pa w.width ans with
  | .error e => .error e
  | .ok none => .ok none
  | .ok (some a) =>
    if w.width2 = 0 then .ok (some a)
    else match a.2.2.partRead n w.pa2 w.width2 ans with
      | .error e => .error e
      | .ok none => .ok none
      | .ok (some b) => .ok (some (a.1 ++ b.1, (List.range w.width).map (fun i => a.2.1.getD i false) ++ b.2.1, b.2.2))

/-- The scoreboard number of a destination (R109). -/
def destReg : LdDest → Nat
  | .x r => r | .f r _ => 32 + r

/-- Write a load's value to its destination (R97: FLW boxes). -/
def Core.deliver (c : Core) (d : LdDest) (sx : Bool) (v w : Nat) : Core :=
  match d with
  | .x r => c.wx r (extendLoad sx w v)
  | .f r dbl => c.wf r (if dbl then BitVec.ofNat 64 v else boxS (BitVec.ofNat 32 v))

/-- A retired access's events: splits in any mode and in slack water, unbounded accesses (R87, R134). -/
def Core.accessEvents (c : Core) (split unbounded : Bool) : Core :=
  let c1 := if split then c.event 0x024 1 else c
  if c.isSlack then
    let c2 := if split then c1.event 0x042 1 else c1
    if unbounded then c2.event 0x040 1 else c2
  else c1

/-- The physical address of the first poisoned byte of a load. -/
def LdWait.firstPoison (w : LdWait) (p : List Bool) : Option Nat :=
  (p.findIdx? (· == true)).map (fun i => if i < w.width then w.pa + i else w.pa2 + (i - w.width))

/-- A DRAM line without poison that a load read is allocated in the L1D; a deferred allocation is counted (R96, R533). -/
def State.l1dUse (s : State) (n pa : Nat) : State :=
  let c := s.core n
  let v := c.l2line (pa / 64)
  if regionOf pa = .dram ∧ v.st ≠ .i ∧ v.poison = 0 then
    if c.l1d.contains (pa / 64) then s
    else
      let q := s.l1Alloc c.l1d (pa / 64)
      q.2.setCore n (({ c with l1d := q.1 }.event 0x011 1).event 0x031 (b2n (c.csrBit C.hSpecctl 0 && !c.isSlack)))
  else s

/-- Deliver a load (R76, R85, R87, R535): a poisoned byte raises a machine check and nothing is delivered; otherwise the destination is written, the
instruction retires, and an LR takes its reservation. `at_` is the step from which the result is available in slack water. -/
def State.finishLoad (s : State) (n : Nat) (w : LdWait) (bs : List Byte) (p : List Bool) (at_ : Nat) : State :=
  match w.firstPoison p with
  | some a => s.machineCheck n (if w.twp then 2 else 1) true (some a) (s.core n).part w.pc
  | none =>
    let c := s.core n
    let c1 := c.deliver w.dest w.sx (leWord bs) (w.width + w.width2)
    let c2 := if c.isSlack then { c1 with slack := c1.slack.mark [destReg w.dest] at_ } else c1.adv w.len
    let unb := decide (s.accClass n .load w.pa = 2) || (decide (w.width2 ≠ 0) && decide (s.accClass n .load w.pa2 = 2))
    let c3 := (c2.accessEvents (decide (w.width2 ≠ 0)) (unb || w.twp)).retire 1
    let c4 := if w.lr then { c3 with resv := some (w.pa / 64), resvAge := 0 } else c3
    (s.setCore n c4).l1dUse n w.pa

/-! ### Slack-water issue of memory accesses -/

/-- Nanoseconds in steps of the selected stream, rounded up (R108, R119). -/
def State.stepsOf (s : State) (n ns : Nat) : Nat :=
  if (s.core n).csrBit C.pacectl 1 && s.flag Reg.CHIP_PACESTAT F.CHIP_PACESTAT_BFAST then (5 * ns + 3) / 4 else ns

/-- Hop distance from a core to the slice that a shared-cast address names (R26, R108). -/
def sliceHops (n pa : Nat) : Nat :=
  match regionOf pa with
  | .sharedCast t => hops (coreRouter n) (tileRouter t)
  | _ => 0

/-- An instruction that would have to wait for a load still in flight (R109), or, for a shared-cast access, for the one outstanding (R121). -/
def Core.blockedBy (c : Core) (regs : List Nat) (all_ shared : Bool) : Bool :=
  c.isSlack && c.loads.any (fun w => all_ || shared || (destReg w.dest != 0 && regs.contains (destReg w.dest)))

/-- Issue at core `n` with the step's fill (R64, R105). -/
def State.issueAt (s : State) (n fill : Nat) (i : IssueInfo) : State := (s.modCore n (·.issue i)).measureFill n fill

/-- A core whose own endpoint is not OPEN issues no request of its own (R292): accesses that leave the core wait. -/
def State.mayInject (s : State) (n : Nat) : Bool := s.epState (epCore n) == epOpen

/-- Whether an access needs the Tideway: anything but the own cast window and a line the L2 holds. -/
def State.needsNet (s : State) (n pa : Nat) : Bool :=
  match regionOf pa with
  | .dram => !(s.core n).has (pa / 64)
  | .coreCast k => k != s.ownWindow n
  | _ => true

/-- A forced drain (R128): the first `j` entries leave at two steps each, starting in the step the access issues. -/
def State.forcedDrain (s : State) (n j : Nat) : Bool × State :=
  if j = 0 then (true, s)
  else
    let q := s.drainN n j
    if q.1 then
      (true, q.2.modCore n (fun c =>
        if c.isSlack then
          { c with slack := { c.slack with lastLeft := c.slack.step + 2 * j - 1, memHold := c.slack.step + 2 * j + 1 } }.event 0x041 (2 * j)
        else c))
    else (false, q.2)

/-- A load, LR or the read of TWP after its checks (R76, R81, R82, R117, R119, R121, R128). -/
def State.doLoad (s0 : State) (n : Nat) (k : Checked) (w : LdWait) (srcs : List Nat) (fill : Nat) : State :=
  let s := s0.dtlbUse2 n k
  let c := s.core n
  let split := k.w2 != 0
  let parts := (k.pa, k.w) :: (if split then [(k.pa2, k.w2)] else [])
  let cls := max (s.accClass n .load k.pa) (if split then s.accClass n .load k.pa2 else 0)
  let shared := cls == 1
  let fwd := if split || w.lr || w.twp then none else forwardFrom c.stores k.pa k.w
  if c.blockedBy (destReg w.dest :: srcs) false (shared && fwd.isNone) then s0
  else if fwd.isNone && parts.any (fun p => s.needsNet n p.1) && !s.mayInject n then s0
  else if fwd.isNone && parts.any (fun p => s.needsNet n p.1) && s.ebbRefused n then
    s0.raiseT n ⟨5, w.va, tinfo 0 0 1 false, true⟩
  else if fwd.isNone && decide (0 < s.sharedCount n (parts.map (·.1))) &&
      !s.tc0Ready (epCore n) (s.sharedCount n (parts.map (·.1) ++ (overlapPieces c.stores parts).map (·.pa))) then s0.tc0Wait (epCore n)
  else
    let j := overlapDepth c.stores parts
    let info : IssueInfo := { srcs := srcs, dsts := [destReg w.dest], steps := if split then 3 else 1, lat := 0, mem := true }
    match fwd with
    | some e =>
      let s1 := (s.issueAt n fill info).modCore n (·.event 0x020 1)
      let o := k.pa - e.pa
      s1.finishLoad n { w with pa := k.pa, width := k.w } ((e.bytes.drop o).take k.w) ((e.poison.drop o).take k.w)
        ((s1.core n).slack.step + 3) |>.modCore n (fun d => if c.isSlack then d.adv w.len else d)
    | none =>
      if c.isSlack then
        let s1 := s.issueAt n fill info
        let d := s1.forcedDrain n j
        if !d.1 then d.2.setCore n { (d.2.core n) with slack := c.slack }
        else
          let t := (d.2.core n).slack.step
          let w1 := { w with pa := k.pa, width := k.w, pa2 := k.pa2, width2 := k.w2, issued := t }
          let ev (s : State) : State := if j = 0 || w.lr || w.twp then s else s.modCore n (·.event 0x021 1)
          if cls = 0 then
            match (ev d.2).loadRead n w1 .fault with
            | .ok (some q) => (q.2.2.modCore n (·.adv w.len)).finishLoad n w1 q.1 q.2.1 (t + (if split then 5 else 3) + 2 * j)
            | _ => s0
          else
            let h := max (sliceHops n k.pa) (if split then sliceHops n k.pa2 else 0)
            let mx := if cls = 1 then 3 + s.stepsOf n (8 * h + 24) + (if split then 2 else 0) + 2 * j else 0
            let s2 := parts.foldl (fun s p => s.sharedTc0 n p.1) (ev d.2)
            (s2.modCore n (fun d => { d with loads := d.loads ++ [{ w1 with maxLat := mx }] }.adv w.len)).pump n
      else
        let w1 := { w with pa := k.pa, width := k.w, pa2 := k.pa2, width2 := k.w2 }
        let s1 := if j = 0 then s else s.modCore n (·.event 0x021 1)
        let now := j == 0 && (cls == 0 || (regionOf k.pa == .dram && (!split || regionOf k.pa2 == .dram)))
        match (if now then s1.loadRead n w1 .fault else .ok none) with
        | .ok (some q) => q.2.2.finishLoad n w1 q.1 q.2.1 0
        | _ => (s1.modCore n (fun d => { d with loads := d.loads ++ [w1] })).pump n

/-! ### Atomic operations -/

/-- What an AMO or SC writes, and what it returns. -/
def amoPair (op : Option AmoOp) (width : Nat) (m src : Word) : Word × Word :=
  match op with
  | some o => (amoResult o width m src, if width = 4 then sx32 m else m)
  | none => (src, 0)

/-- The atomic read and write at the place of the target (R84), all bytes indivisibly; poison that an AMO would deliver raises a machine check (R535).
`at_`: the step from which the result is available. An SC without its reservation writes nothing, returns 1 and counts (R85). -/
def State.performAmo (s : State) (n : Nat) (a : AmoWait) (at_ : Nat) : State :=
  let c := s.core n
  let fin (s : State) (v : Word) (isSc : Bool) : State :=
    s.modCore n (fun c =>
      let c1 := (c.wx a.rd v).adv 4
      let c2 := if c1.isSlack then { c1 with slack := c1.slack.mark [a.rd] at_ } else c1
      let c3 := (c2.accessEvents false (decide (s.accClass n .amo a.pa = 2))).retire 2
      if isSc then { c3 with resv := none, resvAge := 0 } else c3)
  if a.op = none ∧ c.resv ≠ some (a.pa / 64) then (s.modCore n (·.event 0x032 1) |> (fin · 1 true))
  else
    match s.partRead n a.pa a.width .fault with
    | .ok (some q) =>
      match (if a.op.isSome then q.2.1.findIdx? (· == true) else none) with
      | some i => s.machineCheck n 1 true (some (a.pa + i)) c.part c.pc
      | none =>
        let m : Word := BitVec.ofNat 64 (leWord q.1)
        let r := amoPair a.op a.width m a.src
        let e : StEnt := { pa := a.pa, bytes := leBytes a.width r.1.toNat, poison := [], part := c.part }
        let s1 := match regionOf a.pa with
          | .dram => s.performStore n e
          | _ => (s.setBytesP e.pa e.bytes []).castTouched (some n) e.pa e.bytes.length
        fin s1 r.2 a.op.isNone
    | .ok none => s
    | .error bw => (if bw then s.bwLate (coreRouter n) a.pa true else s).raiseT n ⟨7, 0, tinfo 0 0 2 false, false⟩

/-- AMOs and SCs that waited for their line are performed when it reaches M (R84). -/
def State.finishAmos (s : State) (n : Nat) : State :=
  let c := s.core n
  match c.amos with
  | a :: rest =>
    if c.owns (a.pa / 64) then (s.setCore n { c with amos := rest }).performAmo n a c.slack.step
    else s.pump n
  | [] => s

/-- An AMO or SC after its checks (R84, R85, R117, R119, R121, R128). -/
def State.doAmo (s0 : State) (n : Nat) (k : Checked) (va : Word) (a0 : AmoWait) (srcs : List Nat) (fill : Nat) : State :=
  let s := s0.dtlbUse2 n k
  let c := s.core n
  let a := { a0 with pa := k.pa }
  let cls := s.accClass n .amo k.pa
  let scFails := a.op.isNone && c.resv != some (k.pa / 64)
  if c.blockedBy (a.rd :: srcs) false (cls == 1) then s0
  else if s.needsNet n k.pa && !scFails && !s.mayInject n then s0
  else if s.needsNet n k.pa && !scFails && s.ebbRefused n then s0.raiseT n ⟨7, va, tinfo 0 0 2 false, true⟩
  else if !scFails && decide (0 < s.sharedCount n [k.pa]) &&
      !s.tc0Ready (epCore n) (s.sharedCount n (k.pa :: (overlapPieces c.stores [(k.pa, k.w)]).map (·.pa))) then s0.tc0Wait (epCore n)
  else
    let j := overlapDepth c.stores [(k.pa, k.w)]
    let s1 := s.issueAt n fill { srcs := srcs, dsts := [a.rd], steps := 2, lat := 0, mem := true }
    let d := s1.forcedDrain n j
    if !d.1 then d.2.setCore n { (d.2.core n) with slack := c.slack }
    else
      let t := (d.2.core n).slack.step
      if regionOf k.pa = .dram ∧ scFails = false ∧ (d.2.core n).owns (k.pa / 64) = false then
        (d.2.modCore n (fun c => { c with amos := c.amos ++ [a] })).pump n
      else if cls = 1 then
        -- the actual latency lies within the maximum of R119: a free choice
        let q := d.2.choose (d.2.stepsOf n (8 * sliceHops n k.pa + 32) + 1)
        (if scFails then q.2 else q.2.sharedTc0 n k.pa).performAmo n a (t + 4 + 2 * j + q.1)
      else d.2.performAmo n a (t + 4 + 2 * j)

/-! ### Stores -/

/-- Space in the store queue (48 retired stores, R79) or the store buffer (8 entries, R126). -/
def Core.storeRoom (c : Core) (k : Nat) : Bool := decide (entryCount c.stores + k ≤ if c.isSlack then 8 else 48)

/-- Enter a store of bytes at one or two parts. -/
def Core.pushStores (c : Core) (es : List StEnt) : Core := { c with stores := c.stores ++ es }

/-- A store to the field mailbox space enters the TC0 path (R29, R79, R122, R268). -/
def State.mailboxStore (s : State) (n e pa w : Nat) (v : Word) : State :=
  let c := s.core n
  let off := pa - (0x7001_0000_0000 + e * 0x80_0000)
  let s1 := s.setCore n { c with mbxSent := c.mbxSent ++ [e] }
  s1.injectTc0 (epCore n) { flits := 1, src := coreRouter n, dst := feRouter e, msg := .mailbox e n off w v c.part }

/-- A scalar store after its checks (R78, R79, R87, R125 to R127). -/
def State.doStore (s0 : State) (n : Nat) (k : Checked) (va v : Word) (width len : Nat) (srcs : List Nat) (fill : Nat) : State :=
  let s := s0.dtlbUse2 n k
  let c := s.core n
  let split := k.w2 != 0
  let info : IssueInfo := { srcs := srcs, steps := if split then 2 else 1, lat := 0, mem := true }
  if c.blockedBy srcs false false then s0
  else match regionOf k.pa with
    | .mailbox e =>
      if !s.mayInject n then s0
      else if s.ebbRefused n then s0.raiseT n ⟨7, va, tinfo 0 0 2 false, true⟩
      -- it does not issue before a token is there (R283, R425)
      else if !s.tc0Ready (epCore n) 1 then s0.tc0Wait (epCore n)
      else
        let c1 := if c.isSlack then { c with slack := { c.slack with memHold := max c.slack.memHold (c.slack.lastMbx + 1) } } else c
        let s1 := (s.setCore n c1).issueAt n fill info
        let s2 := s1.modCore n (fun c => ({ c with slack := if c.isSlack then { c.slack with lastMbx := c.slack.step + 1 } else c.slack }.adv len).retire 1)
        s2.mailboxStore n e k.pa width v
    | .control =>
      if !s.mayInject n then s0
      else if s.ebbRefused n then s0.raiseT n ⟨7, va, tinfo 0 0 2 false, true⟩
      else ((s.issueAt n fill info).modCore n (fun c => { c with devs := c.devs ++ [{ pa := k.pa, width := width, value := v, va := va, len := len }] })).send
        (.devAccess n k.pa width true v)
    | .pcie =>
      if !s.mayInject n then s0
      else if s.ebbRefused n then s0.raiseT n ⟨7, va, tinfo 0 0 2 false, true⟩
      else ((s.issueAt n fill info).modCore n (fun c => { c with devs := c.devs ++ [{ pa := k.pa, width := width, value := v, va := va, len := len }] })).send
        (.devAccess n k.pa width true v)
    | _ =>
      if !c.storeRoom (if split then 2 else 1) then s0
      else if s.ebbRefused n && (s.needsNet n k.pa || (split && s.needsNet n k.pa2)) then s0.raiseT n ⟨7, va, tinfo 0 0 2 false, true⟩
      else
        let bs := leBytes width v.toNat
        -- a store waits for the entry that made room (R126)
        let c1 := if c.isSlack && decide (8 ≤ entryCount c.stores + (if split then 2 else 1)) then
            { c with slack := { c.slack with memHold := max c.slack.memHold (c.slack.lastLeft + 1) } } else c
        let s1 := (s.setCore n c1).issueAt n fill info
        let t := (s1.core n).slack.step
        let e1 : StEnt := { pa := k.pa, bytes := bs.take k.w, part := c.part, issued := t }
        let e2 : StEnt := { pa := k.pa2, bytes := bs.drop k.w, part := c.part, issued := t }
        let unb := decide (s.accClass n .store k.pa = 2) || (split && decide (s.accClass n .store k.pa2 = 2))
        (s1.modCore n (fun c => (((c.pushStores (if split then [e1, e2] else [e1])).adv len).accessEvents split unb).retire 1)).pump n

/-! ### Vector memory accesses (R98, R123) -/

/-- One element of a vector access: element number, register and byte position in its group, address, width; active where it is in the body, not masked
off and not below vstart. -/
structure VElem where
  i : Nat
  reg : Nat
  pos : Nat
  va : Word
  w : Nat
  act : Bool := true
  deriving DecidableEq, Repr

/-- Read and write `w` bytes at a byte position of a register group. -/
def Core.vbytes (c : Core) (reg pos w : Nat) : Nat :=
  ((c.rv (reg + pos / 32)) >>> (8 * (pos % 32))).toNat % 2 ^ (8 * w)
def Core.setVbytes (c : Core) (reg pos w v : Nat) : Core :=
  let r := reg + pos / 32
  let m : BitVec 256 := (BitVec.ofNat 256 (2 ^ (8 * w) - 1)) <<< (8 * (pos % 32))
  c.wv r ((c.rv r &&& ~~~ m) ||| ((BitVec.ofNat 256 (v % 2 ^ (8 * w))) <<< (8 * (pos % 32))))

/-- The outcome of a run of vector elements. -/
inductive VOut where
  | done (s : State)
  /-- trap at element `i` -/
  | trap (s : State) (i : Nat) (t : TrapInfo)
  /-- poison at element `i`, at a physical address -/
  | poison (s : State) (i pa : Nat)
  /-- data not there yet -/
  | wait (s : State) (i : Nat)

/-- The checks of one element; an element in a device region faults whatever its width (R98, R133), and one that would leave a core whose endpoint is being
fenced is refused (R292). -/
def State.checkElem (s : State) (n : Nat) (isStore : Bool) (e : VElem) : Except TrapInfo Checked :=
  let k := if isStore then AccKind.store else .load
  let chk : Except TrapInfo Checked := match s.checkAccess n k e.va e.w with
    | .ok c => if s.ebbRefused n && (s.needsNet n c.pa || (c.w2 != 0 && s.needsNet n c.pa2)) then .error ⟨k.fault, e.va, tinfo 0 0 k.num false, true⟩ else .ok c
    | .error t => .error t
  match (s.core n).xlate k e.va false with
  | .ok x => if isDevice (regionOf x.pa) then .error ⟨k.fault, e.va, tinfo 0 0 k.num false, false⟩ else chk
  | .error _ => chk

/-- The parts of an access that passed its checks. -/
def Checked.parts (k : Checked) : List (Nat × Nat) := (k.pa, k.w) :: (if k.w2 = 0 then [] else [(k.pa2, k.w2)])

/-- The parts of the active elements up to the first that fails a check. -/
def State.elemParts (s : State) (n : Nat) (isStore : Bool) : List VElem → List (List (Nat × Nat))
  | [] => []
  | e :: r => if !e.act then s.elemParts n isStore r
    else match s.checkElem n isStore e with
      | .ok k => k.parts :: s.elemParts n isStore r
      | .error _ => []

/-- Perform the elements of a load one after another (R123). -/
def State.runLoads (s : State) (n : Nat) : List VElem → VOut
  | [] => .done s
  | e :: r =>
    if !e.act then s.runLoads n r
    else match s.checkElem n false e with
    | .error t => .trap s e.i t
    | .ok k =>
      let w : LdWait := { dest := .x 0, pa := k.pa, width := k.w, pa2 := k.pa2, width2 := k.w2 }
      match s.loadRead n w .fault with
      | .ok (some q) => match w.firstPoison q.2.1 with
        | some a => .poison s e.i a
        | none => State.runLoads ((k.parts.foldl (fun s p => s.sharedTc0 n p.1) q.2.2).modCore n (fun c => (c.setVbytes e.reg e.pos e.w (leWord q.1)).accessEvents (k.w2 != 0) false)) n r
      | .ok none => .wait (k.parts.foldl (fun s p => if regionOf p.1 = .dram ∧ (s.core n).has (p.1 / 64) = false
                            then s.want n (p.1 / 64) .rds else s) s) e.i
      | .error bw => .trap (if bw then s.bwLate (coreRouter n) k.pa false else s) e.i ⟨5, e.va, tinfo 0 0 1 false, false⟩

/-- Make room for `k` more entries: while there is none, the oldest entry leaves on its schedule (R125, R126). True where there is room. -/
def State.makeRoom (s : State) (n k : Nat) : Nat → Bool × State
  | 0 => ((s.core n).storeRoom k, s)
  | f + 1 =>
    if (s.core n).storeRoom k then (true, s)
    else match (s.core n).stores with
      | [] => (false, s)
      | e :: _ =>
        let q := s.drainOne n []
        if q.1 then (q.2.modCore n (fun c => { c with slack := { c.slack with lastLeft := max e.issued c.slack.lastLeft + 2 } })).makeRoom n k f
        else (false, q.2)

/-- Cut a part at the boundaries of aligned 32-byte blocks; offsets count from the element's first byte (R123, R125). -/
def cut32 (off pa w : Nat) : List (Nat × Nat × Nat) :=
  let a := 32 - pa % 32
  if w ≤ a then [(off, pa, w)] else [(off, pa, a), (off + a, pa + a, w - a)]

/-- The pieces of an element's store: offset in the element, physical address, length. -/
def Checked.pieces (k : Checked) (blk : Bool) : List (Nat × Nat × Nat) :=
  if blk then cut32 0 k.pa k.w ++ (if k.w2 = 0 then [] else cut32 k.w k.pa2 k.w2)
  else (0, k.pa, k.w) :: (if k.w2 = 0 then [] else [(k.w, k.pa2, k.w2)])

/-- Enter a piece: at the start of an entry, or behind what its entry holds already. -/
def Core.pushPiece (c : Core) (new : Bool) (pa : Nat) (bs : List Byte) (issued : Nat) : Core :=
  let e : StEnt := { pa := pa, bytes := bs, part := c.part, issued := issued, cont := !new }
  if new then c.pushStores [e]
  else match c.stores.getLast? with
    | some l =>
      if l.bytes = [] then { c with stores := c.stores.dropLast ++ [{ l with pa := pa, bytes := bs }] }
      else if l.pa + l.bytes.length = pa then { c with stores := c.stores.dropLast ++ [{ l with bytes := l.bytes ++ bs }] }
      else c.pushStores [e]
    | none => c.pushStores [{ e with cont := false }]

/-- Where a vector store stands: the block of its last entry, and the first step in which its next entry may issue. -/
structure VSt where
  blk : Option Nat := none
  next : Nat := 0
  deriving DecidableEq, Repr

/-- Begin `k` entries: the step in which each issues, after room has been made (R126). -/
def State.beginEntries (s : State) (n k : Nat) (v : VSt) : Bool × VSt × State :=
  if k = 0 then (true, v, s)
  else
    let full := !(s.core n).storeRoom k
    let q := s.makeRoom n k 48
    (q.1, if full then { v with next := max v.next ((q.2.core n).slack.lastLeft + 1) } else v, q.2)

/-- Perform the elements of a store one after another: `blk` where 32-byte blocks make the entries (unit-stride kinds), otherwise every element makes its
own. In slack water a block or element with no active byte takes an entry all the same: counts do not depend on vl or the mask (R111, R123). -/
def State.runStores (s : State) (n : Nat) (blk : Bool) (v : VSt) : List VElem → VOut
  | [] => .done (s.modCore n (fun c => if c.isSlack then { c with slack := { c.slack with hold := max c.slack.hold v.next } } else c))
  | e :: r =>
    if !e.act then
      if !(s.core n).isSlack || (blk && v.blk == some (e.va.toNat / 32)) then s.runStores n blk v r
      else
        let q := s.beginEntries n 1 v
        if q.1 then
          (q.2.2.modCore n (fun c => c.pushPiece true 0 [] q.2.1.next)).runStores n blk { blk := some (e.va.toNat / 32), next := q.2.1.next + 1 } r
        else .wait q.2.2 e.i
    else match s.checkElem n true e with
    | .error t => .trap s e.i t
    | .ok k =>
      let ps := k.pieces blk
      let isNew (b : Option Nat) (off : Nat) : Bool := !blk || b != some ((e.va.toNat + off) / 32)
      let cnt := (ps.foldl (fun (a : Option Nat × Nat) p => (some ((e.va.toNat + p.1) / 32), a.2 + b2n (isNew a.1 p.1))) (v.blk, 0)).2
      let q := s.beginEntries n cnt v
      if !q.1 then .wait q.2.2 e.i
      else
        let c := q.2.2.core n
        let bs := leBytes e.w (c.vbytes e.reg e.pos e.w)
        let u := ps.foldl (fun (a : VSt × Core) p =>
          let new := isNew a.1.blk p.1
          ({ blk := some ((e.va.toNat + p.1) / 32), next := a.1.next + b2n new },
           a.2.pushPiece new p.2.1 ((bs.drop p.1).take p.2.2) (if new then a.1.next else a.1.next - 1))) (q.2.1, c)
        (q.2.2.setCore n (u.2.accessEvents (k.w2 != 0) false)).runStores n blk u.1 r

end Sys2Proof.Machine
end

