-- ==== Sys2Proof/Machine/Fetch.lean ====
section
/-!
DEFINITION. Instruction fetch (R27, R88, R92, R108, R131, R197, R218 to R220, R535): its checks, the lines and copies it leaves in the L1I and the L1 ITLB,
what it waits for, and the gate that every instruction passes. The instruction itself is the command's (notes/assumptions/19.md).
-/
namespace Sys2Proof.Machine

/-- A line of code stands in the L1I, or is read where it lies: in the own cast ways (R220). -/
def State.codeHere (s : State) (n pa : Nat) : Bool :=
  match regionOf pa with
  | .dram => (s.core n).l1i.contains (pa / 64)
  | .sharedCast _ => (s.core n).l1i.contains (pa / 64)
  | _ => true

/-- A fetch asks the Tideway for its line: neither the L1I nor, for DRAM, the L2 holds it. -/
def State.codeAway (s : State) (n pa : Nat) : Bool :=
  !s.codeHere n pa && (match regionOf pa with | .dram => !(s.core n).has (pa / 64) | _ => true)

/-- The trap of fetching the instruction of `len` bytes at the pc, if there is one (R27, R88, R108, R131); a partition ebb refuses a fetch that leaves the
core (R298). -/
def State.fetchTrap (s : State) (n len : Nat) : Option TrapInfo :=
  let pc := (s.core n).pc
  match s.checkAccess n .fetch pc len with
  | .error e => some e
  | .ok k =>
    if !s.ebbRefused n then none
    else if s.codeAway n k.pa then some ⟨1, pc, tinfo 0 0 0 false, true⟩
    else if k.w2 != 0 && s.codeAway n k.pa2 then some ⟨1, pc + 2, tinfo 0 0 0 true, true⟩
    else none

/-- The translation of a fetch stands in the L1 ITLB; slack water does not use it (R116, R197). -/
def Core.itlbHit (c : Core) (x : Xlated) : Bool := c.isSlack || (x.k1.isNone && x.k2.isNone) || c.itlb.contains ⟨x.k1, x.k2⟩

/-- The first poisoned byte of `w` bytes of code (R535): in the own cast ways, in the shared cast window, or in the L2's line; the L1I holds no poisoned
line. -/
def State.codePoison (s : State) (n pa w : Nat) : Option Nat :=
  let at_ (p : Nat → Bool) : Option Nat := ((List.range w).find? p).map (pa + ·)
  match regionOf pa with
  | .dram => if s.codeHere n pa then none else at_ (fun i => getB ((s.core n).l2line (pa / 64)).poison (pa % 64 + i))
  | .sharedCast _ => if s.codeHere n pa then none else at_ (fun i => s.isPoison (pa + i))
  | _ => at_ (fun i => s.isPoison (pa + i))

/-- The instruction stands where it can be issued at once: nothing of its fetch changes the state, and no injection is armed. -/
def State.fetchHit (s : State) (n len : Nat) : Bool :=
  match s.checkAccess n .fetch (s.core n).pc len with
  | .error _ => false
  | .ok k =>
    !s.armed && s.codeHere n k.pa && (s.codePoison n k.pa k.w).isNone && (s.core n).itlbHit k.x1 &&
    (k.w2 == 0 || (s.codeHere n k.pa2 && (s.codePoison n k.pa2 k.w2).isNone)) &&
    (match k.x2 with | some y => (s.core n).itlbHit y | none => true)

/-- A flood-mode fetch copies its translation into the L1 ITLB and counts a miss there (R197, event 0x013). -/
def State.itlbUse (s : State) (n : Nat) (x : Xlated) : State :=
  let c := s.core n
  if c.itlbHit x then s
  else
    let q := s.copyInto c.itlb 32 ⟨x.k1, x.k2⟩
    q.2.setCore n ({ c with itlb := q.1 }.event 0x013 1)

/-- Fill the L1I with a line of code, unless it is poisoned (R218, R533), and count the miss (event 0x010). In slack water the fetch holds issue: within the
bound of R108 from the shared cast window, without a bound from DRAM, which event 0x040 counts (R134); the time is a free choice. -/
def State.fillL1I (s : State) (n pa : Nat) : State :=
  let l := pa / 64
  let c := s.core n
  let dram := match regionOf pa with | .dram => true | _ => false
  let bad := if dram then (c.l2line l).poison != 0 else s.anyPoison (64 * l) 64
  let a := if bad then (c.l1i, s) else s.l1Alloc c.l1i l
  let q := if c.isSlack then a.2.choose (if dram then 2 ^ 32 else s.stepsOf n (8 * sliceHops n pa + 24) + 1) else (0, a.2)
  let k := if c.isSlack then { c.slack with hold := max c.slack.hold (c.slack.step + 1) + q.1, open1 := false } else c.slack
  q.2.setCore n (({ c with l1i := a.1, slack := k }.event 0x010 1).event 0x040 (b2n (c.isSlack && dram)))

/-- Fetch a line of code: true where the instruction can go on. A line of DRAM that the L2 does not hold is asked of its home, and the instruction waits
(R219, R257); a core whose endpoint is not OPEN asks for nothing (R292). -/
def State.fetchLine (s : State) (n pa : Nat) : Bool × State :=
  if s.codeHere n pa then (true, s)
  else if s.codeAway n pa then
    (if !s.mayInject n then (false, s)
     else match regionOf pa with
       | .dram => (false, s.want n (pa / 64) .rds)
       | _ => (true, s.fillL1I n pa))
  else (true, s.fillL1I n pa)

/-- A fetch that is no hit, then the instruction `f`: copies, lines, poison (R535). -/
def State.fetchMiss (s : State) (n : Nat) (k : Checked) (f : State → State) : State :=
  let s1 := s.itlbUse n k.x1
  let s2 := match k.x2 with | some y => s1.itlbUse n y | none => s1
  let q := s2.fetchLine n k.pa
  let r := if q.1 && k.w2 != 0 then q.2.fetchLine n k.pa2 else q
  if !r.1 then r.2
  else
    let c := r.2.core n
    match r.2.codePoison n k.pa k.w with
    | some a => r.2.machineCheck n 1 true (some a) c.part c.pc
    | none => match (if k.w2 = 0 then none else r.2.codePoison n k.pa2 k.w2) with
      | some a => r.2.machineCheck n 1 true (some a) c.part c.pc
      | none => f r.2

/-- A divergence that an armed injection makes in a step of an active pair (R541, R559): KIND 6 names the left core, whatever its class. -/
def State.injectDiverge (s : State) (n : Nat) : Option State :=
  if s.armed && (s.core n).paired && s.fld Reg.ERR_INJCTL F.ERR_INJCTL_UNIT == unitCore (n - n % 2) &&
     s.fld Reg.ERR_INJCTL F.ERR_INJCTL_KIND == 6 && s.injTrig none
  then some (s.markInj (s.diverge (n / 2) false)).injTriggered else none

/-- A register byte that an armed injection alters, as the instruction reads it (R530, R535): corrected, or uncorrectable, which its reader takes as a
machine check. The flag says that the instruction goes on. -/
def State.injectReg (s : State) (n : Nat) : Bool × State :=
  let c := s.core n
  match s.injKind (unitCore n) 5 none with
  | some 0 => (true, (s.correctedI (unitCore n) 5 true).injTriggered)
  | some 1 => (false, (s.markInj ((s.detect { unit := unitCore n, cls := 5, sev := some 1, part := some c.part }).machineCheck n 7 true none c.part c.pc)).injTriggered)
  | some 2 => (false, (s.markInj (s.machineCheck n 7 true none c.part c.pc)).injTriggered)
  | _ => (true, s)

/-- The triggers at one part of a fetch: the entry it uses, the line of the L1I, and the bytes it reads where they lie outside the L1I. -/
def State.injectCode (s : State) (n : Nat) (x : Xlated) : State :=
  let l := x.pa / 64
  let s1 := match s.injKind (unitCore n) 1 (some x.pa) with
    | some 3 => (match s.failUsed n x with | some t => t.injTriggered | none => s)
    | _ => s
  let s2 := match s1.injKind (unitCore n) 0 (some x.pa) with
    | some 3 => if (s1.core n).l1i.contains l then
        ((s1.correctedI (unitCore n) 0 true).modCore n (fun c => { c with l1i := c.l1i.filter (· != l) })).injTriggered else s1
    | _ => s1
  if (s2.core n).l1i.contains l then s2 else s2.injectRead n x.pa

/-- The injection's triggers at the issue of an instruction (R559): the pair's comparison, a register, and its fetch. -/
def State.injectFetch (s : State) (n : Nat) (k : Checked) : Bool × State :=
  match s.injectDiverge n with
  | some t => (false, t)
  | none =>
    let q := s.injectReg n
    if !q.1 then q
    else
      let s1 := q.2.injectCode n k.x1
      (true, match k.x2 with | some y => s1.injectCode n y | none => s1)

/-- A fetch under an armed injection; what it has removed is looked up again. -/
def State.fetchArmed (s : State) (n len : Nat) (k : Checked) (f : State → State) : State :=
  let q := s.injectFetch n k
  if !q.1 then q.2
  else match q.2.fetchTrap n len with
    | some t => q.2.raiseT n t
    | none => match q.2.checkAccess n .fetch (q.2.core n).pc len with
      | .ok j => q.2.fetchMiss n j f
      | .error e => q.2.raiseT n e

/-- Run an instruction of `len` bytes: the gate, the fetch with what an armed injection brings to it, then its own meaning. -/
def State.inst (s : State) (n len : Nat) (f : State → State) : State :=
  s.instr n (fun s => match s.fetchTrap n len with
    | some t => s.raiseT n t
    | none =>
      if s.fetchHit n len then f s
      else match s.checkAccess n .fetch (s.core n).pc len with
        | .ok k => if s.armed then s.fetchArmed n len k f else s.fetchMiss n k f
        | .error e => s.raiseT n e)

end Sys2Proof.Machine
end

