-- ==== Sys2Proof/Machine/Flags.lean ====
section
/-!
DEFINITION. Floating-point results and the accrued flags (R99): correctly rounded in the five rounding modes, subnormals in hardware, flags as the
published ISA gives them (PRESUMED, notes/assumptions/8.md). Operands are taken apart into exact values, computed exactly, and rounded once.
-/
namespace Sys2Proof.Machine

/-- A floating-point format: exponent width and stored mantissa width. -/
structure FpFmt where
  ew : Nat
  mw : Nat
  deriving DecidableEq, Repr

def fmtS : FpFmt := ⟨8, 23⟩
def fmtD : FpFmt := ⟨11, 52⟩
/-- The format an operation works in. -/
def fmtOf (dbl : Bool) : FpFmt := if dbl then fmtD else fmtS

def FpFmt.bias (f : FpFmt) : Nat := 2 ^ (f.ew - 1) - 1
/-- Precision, the implicit bit included. -/
def FpFmt.p (f : FpFmt) : Nat := f.mw + 1
/-- Exponent of the last place of the smallest numbers, and of the largest. -/
def FpFmt.emin (f : FpFmt) : Int := 1 - (f.bias : Int) - f.mw
def FpFmt.emax (f : FpFmt) : Int := (f.bias : Int) - f.mw

/-- A floating-point datum: NaN (signalling or not), infinity, zero, or sign × m × 2^e with m > 0. -/
inductive FpV where
  | nan (sig : Bool)
  | inf (neg : Bool)
  | zero (neg : Bool)
  | fin (neg : Bool) (m : Nat) (e : Int)
  deriving DecidableEq, Repr

/-- Flag bits of fflags. -/
def flNX : Nat := 1
def flUF : Nat := 2
def flOF : Nat := 4
def flDZ : Nat := 8
def flNV : Nat := 16

/-- Take an encoding apart. -/
def FpFmt.unpack (f : FpFmt) (v : Nat) : FpV :=
  let man := v % 2 ^ f.mw
  let ex := v / 2 ^ f.mw % 2 ^ f.ew
  let neg := v / 2 ^ (f.mw + f.ew) % 2 == 1
  if ex = 2 ^ f.ew - 1 then (if man = 0 then .inf neg else .nan (man / 2 ^ (f.mw - 1) % 2 == 0))
  else if ex = 0 then (if man = 0 then .zero neg else .fin neg man f.emin)
  else .fin neg (man + 2 ^ f.mw) ((ex : Int) - f.bias - f.mw)

/-- Encodings of special values. -/
def FpFmt.signBit (f : FpFmt) (neg : Bool) : Nat := if neg then 2 ^ (f.mw + f.ew) else 0
def FpFmt.qnan (f : FpFmt) : Nat := (2 ^ f.ew - 1) * 2 ^ f.mw + 2 ^ (f.mw - 1)
def FpFmt.infB (f : FpFmt) (neg : Bool) : Nat := f.signBit neg + (2 ^ f.ew - 1) * 2 ^ f.mw
def FpFmt.maxB (f : FpFmt) (neg : Bool) : Nat := f.signBit neg + (2 ^ f.ew - 1) * 2 ^ f.mw - 1

/-- Rounding modes: 0 nearest even, 1 towards zero, 2 down, 3 up, 4 nearest, ties away; 5, which no field names, is to odd (vfncvt.rod). Whether a quotient `q` with remainder `rem` of `2^sh` and a
sticky tail rounds up in magnitude. -/
def roundUp (rm : Nat) (neg : Bool) (q rem sh : Nat) (sticky : Bool) : Bool :=
  let inexact := rem != 0 || sticky
  let half := 2 ^ sh / 2
  if sh = 0 then (if rm = 2 then neg && sticky else if rm = 3 then !neg && sticky else if rm = 5 then q % 2 == 0 && sticky else false)
  else if rm = 0 then decide (half < rem) || (rem == half && (sticky || q % 2 == 1))
  else if rm = 2 then neg && inexact
  else if rm = 3 then !neg && inexact
  else if rm = 4 then decide (half ≤ rem)
  else if rm = 5 then q % 2 == 0 && inexact
  else false

/-- Round sign × (n + sticky tail) × 2^e to a format: encoding and flags. Tininess is detected after rounding. -/
def FpFmt.round (f : FpFmt) (rm : Nat) (neg : Bool) (n : Nat) (e : Int) (sticky : Bool) : Nat × Nat :=
  if n = 0 then (f.signBit neg, 0)
  else
    let l := Nat.log2 n + 1
    let eu : Int := e + l - f.p
    let et : Int := if eu < f.emin then f.emin else eu
    let cut (t : Int) : Nat × Bool :=
      if t ≤ e then (n * 2 ^ (e - t).toNat, sticky)
      else
        let sh := (t - e).toNat
        let q := n / 2 ^ sh
        let r := n % 2 ^ sh
        (if roundUp rm neg q r sh sticky then q + 1 else q, r != 0 || sticky)
    let c := cut et
    let inexact := c.2
    let q := if c.1 = 2 ^ f.p then 2 ^ f.mw else c.1
    let er : Int := if c.1 = 2 ^ f.p then et + 1 else et
    let tiny := decide (eu < f.emin) && !(decide (eu + 1 = f.emin) && (cut eu).1 == 2 ^ f.p)
    if f.emax < er then
      let toMax := rm = 1 ∨ rm = 5 ∨ (rm = 2 ∧ neg = false) ∨ (rm = 3 ∧ neg = true)
      (if toMax then f.maxB neg else f.infB neg, flOF + flNX)
    else
      let enc := if q < 2 ^ f.mw then f.signBit neg + q
                 else f.signBit neg + (er + f.bias + f.mw).toNat * 2 ^ f.mw + (q - 2 ^ f.mw)
      (enc, if inexact then (if tiny then flUF + flNX else flNX) else 0)

/-- The invalid result. -/
def FpFmt.invalid (f : FpFmt) : Nat × Nat := (f.qnan, flNV)

/-- NaN among operands: the canonical NaN, invalid where one signals. -/
def isNan : FpV → Bool
  | .nan _ => true | .inf _ => false | .zero _ => false | .fin _ _ _ => false
def isSig : FpV → Bool
  | .nan g => g | .inf _ => false | .zero _ => false | .fin _ _ _ => false
def FpFmt.nanOf (f : FpFmt) (l : List FpV) : Nat × Nat := (f.qnan, if l.any isSig then flNV else 0)

def FpV.neg : FpV → FpV
  | .nan g => .nan g | .inf s => .inf !s | .zero s => .zero !s | .fin s m e => .fin (!s) m e

/-- Signed exact numerator at exponent `t`. -/
def atExp (neg : Bool) (m : Nat) (e t : Int) : Int :=
  let v : Int := (m * 2 ^ (e - t).toNat : Nat)
  if neg then -v else v

/-- Round an exact signed value; an exact zero takes sign `zs`. -/
def FpFmt.roundInt (f : FpFmt) (rm : Nat) (v : Int) (e : Int) (zs : Bool) : Nat × Nat :=
  if v = 0 then (f.signBit zs, 0) else f.round rm (decide (v < 0)) v.natAbs e false

/-- Addition. -/
def FpFmt.add (f : FpFmt) (rm : Nat) (a b : FpV) : Nat × Nat :=
  match a, b with
  | .nan x, y => f.nanOf [.nan x, y]
  | x, .nan y => f.nanOf [x, .nan y]
  | .inf s, .inf t => if s = t then (f.infB s, 0) else f.invalid
  | .inf s, _ => (f.infB s, 0)
  | _, .inf t => (f.infB t, 0)
  | .zero s, .zero t => (f.signBit (if s = t then s else rm == 2), 0)
  | .zero _, .fin t m e => f.round rm t m e false
  | .fin s m e, .zero _ => f.round rm s m e false
  | .fin s m e, .fin t k g =>
    let x := if e ≤ g then e else g
    f.roundInt rm (atExp s m e x + atExp t k g x) x (rm == 2)

/-- The exact product. -/
def fpMulV (a b : FpV) : FpV :=
  match a, b with
  | .nan x, _ => .nan x
  | _, .nan y => .nan y
  | .inf s, .inf t => .inf (s != t)
  | .inf s, .fin t _ _ => .inf (s != t)
  | .fin s _ _, .inf t => .inf (s != t)
  | .inf _, .zero _ => .nan true
  | .zero _, .inf _ => .nan true
  | .zero s, .zero t => .zero (s != t)
  | .zero s, .fin t _ _ => .zero (s != t)
  | .fin s _ _, .zero t => .zero (s != t)
  | .fin s m e, .fin t k g => .fin (s != t) (m * k) (e + g)

/-- Encode an exact value. -/
def FpFmt.encode (f : FpFmt) (rm : Nat) (v : FpV) : Nat × Nat :=
  match v with
  | .nan _ => (f.qnan, 0) | .inf s => (f.infB s, 0) | .zero s => (f.signBit s, 0) | .fin s m e => f.round rm s m e false

/-- Multiplication. -/
def FpFmt.mul (f : FpFmt) (rm : Nat) (a b : FpV) : Nat × Nat :=
  if isNan a || isNan b then f.nanOf [a, b]
  else match fpMulV a b with
    | .nan _ => f.invalid
    | v => f.encode rm v

/-- Fused multiply-add: a × b + c with one rounding; infinity times zero is invalid even beside a NaN. -/
def FpFmt.fma (f : FpFmt) (rm : Nat) (a b c : FpV) : Nat × Nat :=
  if isNan a || isNan b then f.nanOf [a, b, c]
  else match fpMulV a b with
    | .nan _ => f.invalid
    | v => f.add rm v c

/-- Division. -/
def FpFmt.div (f : FpFmt) (rm : Nat) (a b : FpV) : Nat × Nat :=
  match a, b with
  | .nan x, y => f.nanOf [.nan x, y]
  | x, .nan y => f.nanOf [x, .nan y]
  | .inf _, .inf _ => f.invalid
  | .zero _, .zero _ => f.invalid
  | .inf s, .zero t => (f.infB (s != t), 0)
  | .inf s, .fin t _ _ => (f.infB (s != t), 0)
  | .zero s, .inf t => (f.signBit (s != t), 0)
  | .zero s, .fin t _ _ => (f.signBit (s != t), 0)
  | .fin s _ _, .inf t => (f.signBit (s != t), 0)
  | .fin s _ _, .zero t => (f.infB (s != t), flDZ)
  | .fin s m e, .fin t k g =>
    let sh := f.p + 4 + Nat.log2 k
    let n := m * 2 ^ sh
    f.round rm (s != t) (n / k) (e - g - sh) (n % k != 0)

/-- Integer square root, one bit at a time from bit `b`. -/
def isqrt (n : Nat) : Nat → Nat → Nat
  | 0, r => if (r + 1) * (r + 1) ≤ n then r + 1 else r
  | b + 1, r => let c := r + 2 ^ (b + 1); isqrt n b (if c * c ≤ n then c else r)

/-- Square root. -/
def FpFmt.sqrt (f : FpFmt) (rm : Nat) (a : FpV) : Nat × Nat :=
  match a with
  | .nan x => f.nanOf [.nan x]
  | .inf s => if s then f.invalid else (f.infB false, 0)
  | .zero s => (f.signBit s, 0)
  | .fin s m e =>
    if s then f.invalid
    else
      let odd := e % 2 != 0
      let m1 := (if odd then 2 * m else m) * 2 ^ (2 * f.p + 6)
      let e1 := (if odd then e - 1 else e) - (2 * f.p + 6 : Nat)
      let r := isqrt m1 (Nat.log2 m1 / 2 + 1) 0
      f.round rm false r (e1 / 2) (r * r != m1)

/-- Order of two values that are no NaN: −1, 0, 1; zeros are equal. -/
def fpCmp (a b : FpV) : Int :=
  let key : FpV → Int × Int
    | .inf s => (if s then -2 else 2, 0)
    | .zero _ => (0, 0)
    | .fin s _ _ => (if s then -1 else 1, 0)
    | .nan _ => (0, 0)
  let ka := (key a).1
  let kb := (key b).1
  if ka < kb then -1 else if kb < ka then 1
  else match a, b with
    | .fin s m e, .fin t k g =>
      let x := if e ≤ g then e else g
      let d := atExp s m e x - atExp t k g x
      if d < 0 then -1 else if 0 < d then 1 else 0
    | _, _ => 0

/-- Sign of a value. -/
def isNeg : FpV → Bool
  | .nan _ => false | .inf s => s | .zero s => s | .fin s _ _ => s

/-- FCLASS. -/
def FpFmt.classify (f : FpFmt) (v : FpV) : Nat :=
  match v with
  | .inf s => if s then 1 else 128
  | .fin s m _ => let sub := decide (m < 2 ^ f.mw); if s then (if sub then 4 else 2) else (if sub then 32 else 64)
  | .zero s => if s then 8 else 16
  | .nan g => if g then 256 else 512

/-- Round to an integer in a range, saturating with NV outside it. -/
def fpToInt (rm : Nat) (v : FpV) (lo hi : Int) : Int × Nat :=
  match v with
  | .nan _ => (hi, flNV)
  | .inf s => (if s then lo else hi, flNV)
  | .zero _ => (0, 0)
  | .fin s m e =>
    let sh := (-e).toNat
    let q := if 0 ≤ e then m * 2 ^ e.toNat else m / 2 ^ sh
    let r := if 0 ≤ e then 0 else m % 2 ^ sh
    let q1 := if decide (e < 0) && roundUp rm s q r sh false then q + 1 else q
    let i : Int := if s then -(q1 : Int) else q1
    if i < lo then (lo, flNV) else if hi < i then (hi, flNV) else (i, if r = 0 then 0 else flNX)

/-- An operand of a single-precision operation: a value that is not boxed reads as the canonical NaN. -/
def unboxS (v : Word) : Nat := if v.toNat / 2 ^ 32 = 2 ^ 32 - 1 then v.toNat % 2 ^ 32 else fmtS.qnan

/-- The raw encoding of an operand in a format. -/
def rawOf (dbl : Bool) (v : Word) : Nat := if dbl then v.toNat else unboxS v

/-- A result register's content. -/
def boxOf (dbl : Bool) (v : Nat) : Word := if dbl then BitVec.ofNat 64 v else boxS (BitVec.ofNat 32 v)

/-- Whether an operation writes an integer register. -/
def fpToX (op : FpOp) : Bool :=
  match op with
  | .feq => true | .flt => true | .fle => true | .fclass => true | .mvXF => true
  | .cvtToW => true | .cvtToWU => true | .cvtToL => true | .cvtToLU => true
  | _ => false

/-- Whether an operation reads an integer register. -/
def fpFromX (op : FpOp) : Bool :=
  match op with
  | .mvFX => true | .cvtFromW => true | .cvtFromWU => true | .cvtFromL => true | .cvtFromLU => true
  | _ => false

/-- Whether an operation reads a third operand. -/
def fpFma (op : FpOp) : Bool :=
  match op with
  | .madd => true | .msub => true | .nmsub => true | .nmadd => true | _ => false

/-- The result register's content and the flags. `a`, `b`, `c`: the operand registers; `x`: the integer operand. For `cvtFF`, `dbl` is the result's
format. -/
def fpResult (op : FpOp) (dbl : Bool) (rm : Nat) (a b c x : Word) : Word × Nat :=
  let f := fmtOf dbl
  let ra := rawOf dbl a
  let rb := rawOf dbl b
  let va := f.unpack ra
  let vb := f.unpack rb
  let vc := f.unpack (rawOf dbl c)
  let out (r : Nat × Nat) : Word × Nat := (boxOf dbl r.1, r.2)
  let sb := 2 ^ (f.mw + f.ew)
  let sgn (n : Nat) : Word × Nat := (boxOf dbl (ra % sb + sb * (n % 2)), 0)
  let cmp (sigAll : Bool) (t : Int → Bool) : Word × Nat :=
    if isNan va || isNan vb then (0, if isSig va || isSig vb || sigAll then flNV else 0) else (ofB (t (fpCmp va vb)), 0)
  let minmax (mx : Bool) : Word × Nat :=
    let fl := if isSig va || isSig vb then flNV else 0
    if isNan va && isNan vb then (boxOf dbl f.qnan, fl)
    else if isNan va then (boxOf dbl rb, fl) else if isNan vb then (boxOf dbl ra, fl)
    else
      let d := fpCmp va vb
      let aLess := decide (d < 0) || (d == 0 && isNeg va)
      (boxOf dbl (if aLess != mx then ra else rb), fl)
  let toI (lo hi : Int) (w : Nat) : Word × Nat :=
    let r := fpToInt rm va lo hi
    ((BitVec.ofInt w r.1).signExtend 64, r.2)
  let fromI (i : Int) : Word × Nat := out (f.roundInt rm i 0 false)
  match op with
  | .add => out (f.add rm va vb)
  | .sub => out (f.add rm va vb.neg)
  | .mul => out (f.mul rm va vb)
  | .div => out (f.div rm va vb)
  | .sqrt => out (f.sqrt rm va)
  | .madd => out (f.fma rm va vb vc)
  | .msub => out (f.fma rm va vb vc.neg)
  | .nmsub => out (f.fma rm va.neg vb vc)
  | .nmadd => out (f.fma rm va.neg vb vc.neg)
  | .min => minmax false
  | .max => minmax true
  | .sgnj => sgn (rb / sb)
  | .sgnjn => sgn (rb / sb + 1)
  | .sgnjx => sgn (ra / sb + rb / sb)
  | .feq => cmp false (fun d => d == 0)
  | .flt => cmp true (fun d => decide (d < 0))
  | .fle => cmp true (fun d => decide (d ≤ 0))
  | .fclass => (BitVec.ofNat 64 (f.classify va), 0)
  | .mvXF => (if dbl then a else sx32 a, 0)
  | .mvFX => (if dbl then x else boxS (x.setWidth 32), 0)
  | .cvtFF =>
    let g := fmtOf (!dbl)
    let v := g.unpack (rawOf (!dbl) a)
    (match v with
     | .nan s => (boxOf dbl f.qnan, if s then flNV else 0)
     | w => out (f.encode rm w))
  | .cvtToW => toI (-(2 ^ 31)) (2 ^ 31 - 1) 32
  | .cvtToWU => toI 0 (2 ^ 32 - 1) 32
  | .cvtToL => toI (-(2 ^ 63)) (2 ^ 63 - 1) 64
  | .cvtToLU => toI 0 (2 ^ 64 - 1) 64
  | .cvtFromW => fromI (x.setWidth 32).toInt
  | .cvtFromWU => fromI ((x.toNat % 2 ^ 32 : Nat) : Int)
  | .cvtFromL => fromI x.toInt
  | .cvtFromLU => fromI (x.toNat : Int)

end Sys2Proof.Machine
end

