-- ==== Sys2Proof/Machine/Vector.lean ====
section
/-!
DEFINITION. Vector arithmetic (R8, R98, R114): element results, which elements an instruction writes, which settings and operands it rejects, and its
step counts. The results, the fixed-point rounding and the reserved encodings are those of the published V 1.0 that R97 names (PRESUMED,
notes/assumptions/8.md); tail and masked-off elements stay undisturbed (R98).
-/
namespace Sys2Proof.Machine

/-! ### vtype -/

/-- SEW in bits from vtype. -/
def sewOf (vtype : Word) : Nat := 8 * 2 ^ getF vtype ⟨3, 3⟩
/-- LMUL in eighths from vtype: 1 to 64. -/
def lmul8 (vtype : Word) : Nat :=
  let m := getF vtype ⟨0, 3⟩
  if m < 4 then 8 * 2 ^ m else 2 ^ (m - 5)
/-- Whether a vtype setting is supported (R98): no reserved bit, SEW at most 64, a fractional LMUL no smaller than SEW / ELEN. -/
def vtypeOk (v : Word) : Bool :=
  decide (v.toNat < 256) && decide (getF v ⟨3, 3⟩ < 4) && getF v ⟨0, 3⟩ != 4 && decide (sewOf v ≤ 8 * lmul8 v)
/-- VLMAX: the E of R114. -/
def vlmaxOf (v : Word) : Nat := lmul8 v * 256 / (8 * sewOf v)
/-- log2 N of R114. -/
def log2n (sew : Nat) : Nat := if sew = 8 then 5 else if sew = 16 then 4 else if sew = 32 then 3 else 2

/-! ### Element arithmetic

An element of `w` bits is a number below `2 ^ w`. A result comes with the flags it raises: fflags in bits [4:0], vxsat in bit 5. -/

/-- The signed reading of an element. -/
def sInt (w n : Nat) : Int := if n < 2 ^ (w - 1) then n else (n : Int) - 2 ^ w
/-- The element that an exact result wraps to. -/
def wrapI (w : Nat) (i : Int) : Nat := (i % 2 ^ w).toNat

/-- Fixed-point rounding of `v` by `d` places in the mode of vxrm: to nearest with ties up, to nearest even, down, to odd. -/
def roundOff (xrm : Nat) (v : Int) (d : Nat) : Int :=
  let q := v / 2 ^ d
  let r := v % 2 ^ d
  let inc :=
    if xrm = 0 then decide (2 ^ d ≤ 2 * r) && d != 0
    else if xrm = 1 then d != 0 && (decide ((2 : Int) ^ d < 2 * r) || (decide (2 * r = 2 ^ d) && q % 2 != 0))
    else if xrm = 2 then false
    else r != 0 && q % 2 == 0
  if inc then q + 1 else q

/-- Saturation to a signed and to an unsigned element. -/
def satS (w : Nat) (i : Int) : Nat × Nat :=
  if i < -(2 ^ (w - 1)) then (2 ^ (w - 1), 32) else if 2 ^ (w - 1) ≤ i then (2 ^ (w - 1) - 1, 32) else (wrapI w i, 0)
def satU (w : Nat) (i : Int) : Nat × Nat :=
  if i < 0 then (0, 32) else if 2 ^ w ≤ i then (2 ^ w - 1, 32) else (i.toNat, 0)

/-- A single-width integer result: `a` of the first source (vs2), `b` of the second. -/
def vIntEl (o : VInt) (w xrm a b : Nat) : Nat × Nat :=
  let sa := sInt w a
  let sb := sInt w b
  let k := b % w
  let p (i : Int) : Nat × Nat := (wrapI w i, 0)
  match o with
  | .add => p (a + b)
  | .sub => p (a - b)
  | .rsub => p (b - a)
  | .and => (a &&& b, 0)
  | .or => (a ||| b, 0)
  | .xor => (a ^^^ b, 0)
  | .sll => p (a * 2 ^ k)
  | .srl => p (a / 2 ^ k)
  | .sra => p (sa / 2 ^ k)
  | .minu => (min a b, 0)
  | .min => p (min sa sb)
  | .maxu => (max a b, 0)
  | .max => p (max sa sb)
  | .saddu => satU w (a + b)
  | .sadd => satS w (sa + sb)
  | .ssubu => satU w (a - b)
  | .ssub => satS w (sa - sb)
  | .aaddu => p (roundOff xrm (a + b) 1)
  | .aadd => p (roundOff xrm (sa + sb) 1)
  | .asubu => p (roundOff xrm (a - b) 1)
  | .asub => p (roundOff xrm (sa - sb) 1)
  | .ssrl => p (roundOff xrm a k)
  | .ssra => p (roundOff xrm sa k)
  | .mul => p (a * b)
  | .mulh => p (sa * sb / 2 ^ w)
  | .mulhu => p (a * b / 2 ^ w)
  | .mulhsu => p (sa * b / 2 ^ w)
  | .smul => satS w (roundOff xrm (sa * sb) (w - 1))
  | .divu => if b = 0 then (2 ^ w - 1, 0) else (a / b, 0)
  | .div => if b = 0 then (2 ^ w - 1, 0) else p (Int.tdiv sa sb)
  | .remu => if b = 0 then (a, 0) else (a % b, 0)
  | .rem => if b = 0 then (a, 0) else p (Int.tmod sa sb)

/-- An integer comparison of the first source with the second. -/
def vCmpEl (o : VCmp) (w a b : Nat) : Bool :=
  match o with
  | .eq => a == b
  | .ne => a != b
  | .ltu => decide (a < b)
  | .lt => decide (sInt w a < sInt w b)
  | .leu => decide (a ≤ b)
  | .le => decide (sInt w a ≤ sInt w b)
  | .gtu => decide (b < a)
  | .gt => decide (sInt w b < sInt w a)

/-- A widening result of `2 * w` bits: the first source has `wa` bits. -/
def vWideEl (o : VWide) (w wa a b : Nat) : Nat :=
  match o with
  | .addu => wrapI (2 * w) (a + b)
  | .add => wrapI (2 * w) (sInt wa a + sInt w b)
  | .subu => wrapI (2 * w) (a - b)
  | .sub => wrapI (2 * w) (sInt wa a - sInt w b)
  | .mulu => wrapI (2 * w) (a * b)
  | .mul => wrapI (2 * w) (sInt wa a * sInt w b)
  | .mulsu => wrapI (2 * w) (sInt wa a * b)

/-- A narrowing result of `w` bits from a first source of `2 * w`. -/
def vNarrowEl (o : VNarrow) (w xrm a b : Nat) : Nat × Nat :=
  let k := b % (2 * w)
  match o with
  | .srl => (wrapI w (a / 2 ^ k), 0)
  | .sra => (wrapI w (sInt (2 * w) a / 2 ^ k), 0)
  | .clipu => satU w (roundOff xrm a k)
  | .clip => satS w (roundOff xrm (sInt (2 * w) a) k)

/-- Multiply-add: `b` of the second source, `d` of the destination. -/
def vMacEl (o : VMac) (w a b d : Nat) : Nat :=
  match o with
  | .macc => wrapI w (b * a + d)
  | .nmsac => wrapI w (d - b * a)
  | .madd => wrapI w (b * d + a)
  | .nmsub => wrapI w (a - b * d)
def vWMacEl (o : VWMac) (w a b d : Nat) : Nat :=
  match o with
  | .maccu => wrapI (2 * w) (b * a + d)
  | .macc => wrapI (2 * w) (sInt w b * sInt w a + d)
  | .maccsu => wrapI (2 * w) (sInt w b * a + d)
  | .maccus => wrapI (2 * w) (b * sInt w a + d)

/-- The format of a floating-point element. -/
def fmtW (w : Nat) : FpFmt := fmtOf (w == 64)

/-- A floating-point result is the scalar operation's, on the elements in boxed form. -/
def vFpOp (op : FpOp) (w rm a b d : Nat) : Nat × Nat :=
  let l := w == 64
  let r := fpResult op l rm (boxOf l a) (boxOf l b) (boxOf l d) 0
  (r.1.toNat % 2 ^ w, r.2)

/-- A floating-point result of two sources. -/
def vFpEl (o : VFp) (w rm a b : Nat) : Nat × Nat :=
  match o with
  | .add => vFpOp .add w rm a b 0
  | .sub => vFpOp .sub w rm a b 0
  | .rsub => vFpOp .sub w rm b a 0
  | .mul => vFpOp .mul w rm a b 0
  | .div => vFpOp .div w rm a b 0
  | .rdiv => vFpOp .div w rm b a 0
  | .min => vFpOp .min w rm a b 0
  | .max => vFpOp .max w rm a b 0
  | .sgnj => vFpOp .sgnj w rm a b 0
  | .sgnjn => vFpOp .sgnjn w rm a b 0
  | .sgnjx => vFpOp .sgnjx w rm a b 0

/-- Bring a mantissa of `n` bits below its implicit bit into normal form: the biased exponent falls with each place. -/
def fracNorm (mw : Nat) : Nat → Int → Nat → Int × Nat
  | 0, e, m => (e, m)
  | k + 1, e, m => if m < 2 ^ (mw - 1) then fracNorm mw k (e - 1) (2 * m) else (e, 2 * m % 2 ^ mw)

/-- Biased exponent and fraction of an encoding, a subnormal one brought into normal form. -/
def expFrac (f : FpFmt) (v : Nat) : Int × Nat :=
  let ex := v / 2 ^ f.mw % 2 ^ f.ew
  let man := v % 2 ^ f.mw
  if ex = 0 then fracNorm f.mw f.mw 0 man else (ex, man)

/-- The 7-bit reciprocal estimate at the middle of an interval of 1/128. -/
def rec7Tab (i : Nat) : Nat := (2 * (32640 - 256 * i) + (2 * i + 257)) / (2 * (2 * i + 257))

/-- vfrec7. -/
def rec7 (f : FpFmt) (rm v : Nat) : Nat × Nat :=
  let neg := v / 2 ^ (f.mw + f.ew) % 2 == 1
  match f.unpack v with
  | .nan g => (f.qnan, if g then flNV else 0)
  | .inf s => (f.signBit s, 0)
  | .zero s => (f.infB s, flDZ)
  | .fin _ _ _ =>
    let x := expFrac f v
    if x.1 < -1 then
      let toMax := rm == 1 || (rm == 2 && !neg) || (rm == 3 && neg)
      (if toMax then f.maxB neg else f.infB neg, flNX + flOF)
    else
      let t := rec7Tab (x.2 / 2 ^ (f.mw - 7)) * 2 ^ (f.mw - 7)
      let e : Int := 2 * f.bias - 1 - x.1
      let half := 2 ^ (f.mw - 1) + t / 2
      if e = 0 then (f.signBit neg + half, 0)
      else if e < 0 then (f.signBit neg + half / 2, 0)
      else (f.signBit neg + e.toNat * 2 ^ f.mw + t, 0)

/-- The 7-bit estimate of a reciprocal square root: the exponent's parity, then six bits of fraction. -/
def rsqrt7Tab (i : Nat) : Nat :=
  let q := 33554432 / ((2 * (i % 64) + 129) * (if i < 64 then 2 else 1))
  (isqrt q 13 0 + 1) / 2 - 128

/-- vfrsqrt7. -/
def rsqrt7 (f : FpFmt) (v : Nat) : Nat × Nat :=
  match f.unpack v with
  | .nan g => (f.qnan, if g then flNV else 0)
  | .inf s => if s then f.invalid else (f.signBit false, 0)
  | .zero s => (f.infB s, flDZ)
  | .fin s _ _ =>
    if s then f.invalid
    else
      let x := expFrac f v
      let i := (x.1 % 2).toNat * 64 + x.2 / 2 ^ (f.mw - 6)
      let e : Int := (3 * f.bias - 1 - x.1) / 2
      (e.toNat * 2 ^ f.mw + rsqrt7Tab i * 2 ^ (f.mw - 7), 0)

/-- A floating-point result of one source. -/
def vFunEl (o : VFun) (w rm a : Nat) : Nat × Nat :=
  match o with
  | .sqrt => vFpOp .sqrt w rm a 0 0
  | .fclass => ((fmtW w).classify ((fmtW w).unpack a), 0)
  | .rec7 => rec7 (fmtW w) rm a
  | .rsqrt7 => rsqrt7 (fmtW w) a

/-- A floating-point comparison of the first source with the second. -/
def vFCmpEl (o : VFCmp) (w a b : Nat) : Nat × Nat :=
  match o with
  | .eq => vFpOp .feq w 0 a b 0
  | .ne => let r := vFpOp .feq w 0 a b 0; (1 - r.1, r.2)
  | .lt => vFpOp .flt w 0 a b 0
  | .le => vFpOp .fle w 0 a b 0
  | .gt => vFpOp .flt w 0 b a 0
  | .ge => vFpOp .fle w 0 b a 0

/-- A floating-point multiply-add with one rounding: the product's factors and the addend. -/
def vFMacEl (o : VFMac) (w rm a b d : Nat) : Nat × Nat :=
  match o with
  | .macc => vFpOp .madd w rm b a d
  | .nmacc => vFpOp .nmadd w rm b a d
  | .msac => vFpOp .msub w rm b a d
  | .nmsac => vFpOp .nmsub w rm b a d
  | .madd => vFpOp .madd w rm b d a
  | .nmadd => vFpOp .nmadd w rm b d a
  | .msub => vFpOp .msub w rm b d a
  | .nmsub => vFpOp .nmsub w rm b d a

/-- A single-precision value in double precision: exact, a signalling NaN kept as one. -/
def widenS (a : Nat) : Nat :=
  match fmtS.unpack a with
  | .nan g => if g then fmtD.infB false + 1 else fmtD.qnan
  | v => (fmtD.encode 0 v).1

/-- A conversion from an element of `wa` bits to one of `wd`. -/
def vCvtEl (o : VCvt) (wa wd rm a : Nat) : Nat × Nat :=
  let toI (r : Nat) (lo hi : Int) : Nat × Nat := let x := fpToInt r ((fmtW wa).unpack a) lo hi; (wrapI wd x.1, x.2)
  let ff (r : Nat) : Nat × Nat := match (fmtW wa).unpack a with
    | .nan g => ((fmtW wd).qnan, if g then flNV else 0)
    | v => (fmtW wd).encode r v
  match o with
  | .xuf => toI rm 0 (2 ^ wd - 1)
  | .xf => toI rm (-(2 ^ (wd - 1))) (2 ^ (wd - 1) - 1)
  | .rtzxuf => toI 1 0 (2 ^ wd - 1)
  | .rtzxf => toI 1 (-(2 ^ (wd - 1))) (2 ^ (wd - 1) - 1)
  | .fxu => (fmtW wd).roundInt rm a 0 false
  | .fx => (fmtW wd).roundInt rm (sInt wa a) 0 false
  | .ff => ff rm
  | .rodff => ff 5

/-- One step of an integer reduction. -/
def vRedEl (o : VRed) (w acc a : Nat) : Nat :=
  match o with
  | .sum => (vIntEl .add w 0 acc a).1
  | .and => (vIntEl .and w 0 acc a).1
  | .or => (vIntEl .or w 0 acc a).1
  | .xor => (vIntEl .xor w 0 acc a).1
  | .minu => (vIntEl .minu w 0 acc a).1
  | .min => (vIntEl .min w 0 acc a).1
  | .maxu => (vIntEl .maxu w 0 acc a).1
  | .max => (vIntEl .max w 0 acc a).1

/-- A mask-register logical operation. -/
def vLogicEl (o : VLogic) (a b : Bool) : Bool :=
  match o with
  | .and => a && b | .nand => !(a && b) | .andn => a && !b | .or => a || b | .nor => !(a || b) | .orn => a || !b
  | .xor => a != b | .xnor => a == b

/-! ### Operands -/

/-- Element `i`, `w` bits wide, of a register group. -/
def Core.vEl (c : Core) (r w i : Nat) : Nat := ((c.rv (r + i * w / 256)) >>> (i * w % 256)).toNat % 2 ^ w
/-- Bit `i` of a mask register. -/
def Core.vBit (c : Core) (r i : Nat) : Bool := (c.rv r).getLsbD i
/-- Write element `i`. -/
def Core.putEl (c : Core) (r w i v : Nat) : Core :=
  let q := r + i * w / 256
  let b := i * w % 256
  let m : BitVec 256 := (BitVec.ofNat 256 (2 ^ w - 1)) <<< b
  c.wv q ((c.rv q &&& ~~~ m) ||| ((BitVec.ofNat 256 (v % 2 ^ w)) <<< b))
/-- Element `i` of the second source; a scalar stands for every element, a single-precision one unboxed. -/
def Core.vSrc (c : Core) (src : VSrc) (w i : Nat) : Nat :=
  match src with
  | .v r => c.vEl r w i
  | .x r => (c.rx r).toNat % 2 ^ w
  | .f r => rawOf (w == 64) (c.rf r) % 2 ^ w
  | .i v => v.toNat % 2 ^ w
/-- A scalar source of 64 bits: the amount of a slide, an index. -/
def Core.vScalar (c : Core) (src : VSrc) : Nat :=
  match src with
  | .v _ => 0 | .x r => (c.rx r).toNat | .f _ => 0 | .i v => v.toNat

/-- A register group that an instruction reads or writes: first register, element width (1 for a mask), size in eighths of a register. -/
structure VGrp where
  reg : Nat
  eew : Nat
  emul8 : Nat
  deriving DecidableEq, Repr

/-- Registers of a group. -/
def VGrp.regs (g : VGrp) : Nat := max 1 (g.emul8 / 8)
/-- A group exists: its size lies between 1/8 and 8, its element width is supported, its number is aligned. -/
def VGrp.ok (g : VGrp) : Bool := decide (0 < g.emul8) && decide (g.emul8 ≤ 64) && decide (g.eew ≤ 64) && g.reg % g.regs == 0
/-- Two groups share a register. -/
def VGrp.meets (a b : VGrp) : Bool := decide (a.reg < b.reg + b.regs) && decide (b.reg < a.reg + a.regs)
/-- A destination may overlap a source of the same element width; of a wider one, at its lowest part; of a narrower one of at least a register, at the
destination's highest part. -/
def VGrp.overlapOk (d s : VGrp) : Bool :=
  !d.meets s || d.eew == s.eew || (decide (d.eew < s.eew) && d.reg == s.reg) ||
  (decide (s.eew < d.eew) && decide (8 ≤ s.emul8) && s.reg + s.regs == d.reg + d.regs)

/-- What an instruction writes: a group, a mask register, element 0 of a register, an integer or a floating-point register. -/
inductive VDst where
  | grp (eew emul8 : Nat)
  | mask
  | elem
  | x
  | f
  deriving DecidableEq, Repr

/-- The destination and the element width and size of the two sources (`none`: not read as a vector), under SEW and LMUL in eighths. -/
def vShape (op : VOp) (w l : Nat) : VDst × Option (Nat × Nat) × Option (Nat × Nat) :=
  let one := some (w, l)
  let two := some (2 * w, 2 * l)
  let msk := some (1, 8)
  let cvtS (s : VCvtShape) : VDst × Option (Nat × Nat) × Option (Nat × Nat) := match s with
    | .single => (.grp w l, one, none) | .widen => (.grp (2 * w) (2 * l), one, none) | .narrow => (.grp w l, two, none)
  match op with
  | .int _ => (.grp w l, one, one)
  | .cmp _ => (.mask, one, one)
  | .adc => (.grp w l, one, one)
  | .sbc => (.grp w l, one, one)
  | .madc _ => (.mask, one, one)
  | .msbc _ => (.mask, one, one)
  | .merge => (.grp w l, one, one)
  | .mv => (.grp w l, none, one)
  | .ext _ k => (.grp w l, some (w / k, if l % k = 0 then l / k else 0), none)
  | .widen _ w2 => (.grp (2 * w) (2 * l), if w2 then two else one, one)
  | .narrow _ => (.grp w l, two, one)
  | .mac _ => (.grp w l, one, one)
  | .wmac _ => (.grp (2 * w) (2 * l), one, one)
  | .fp _ => (.grp w l, one, one)
  | .fun1 _ => (.grp w l, one, none)
  | .fcmp _ => (.mask, one, one)
  | .fmac _ => (.grp w l, one, one)
  | .fwiden _ w2 => (.grp (2 * w) (2 * l), if w2 then two else one, one)
  | .fwmac _ => (.grp (2 * w) (2 * l), one, one)
  | .cvt _ s => cvtS s
  | .red _ => (.elem, one, some (w, 8))
  | .wred _ => (.elem, one, some (2 * w, 8))
  | .fredSum _ => (.elem, one, some (w, 8))
  | .fredMin => (.elem, one, some (w, 8))
  | .fredMax => (.elem, one, some (w, 8))
  | .fwredSum _ => (.elem, one, some (2 * w, 8))
  | .logic _ => (.mask, msk, msk)
  | .first1 _ => (.mask, msk, none)
  | .cpop => (.x, msk, none)
  | .first => (.x, msk, none)
  | .iota => (.grp w l, msk, none)
  | .id => (.grp w l, none, none)
  | .mvXS => (.x, some (w, 8), none)
  | .mvSX => (.elem, none, none)
  | .mvFS => (.f, some (w, 8), none)
  | .mvSF => (.elem, none, none)
  | .slideup => (.grp w l, one, none)
  | .slidedown => (.grp w l, one, none)
  | .slide1up => (.grp w l, one, none)
  | .slide1down => (.grp w l, one, none)
  | .gather => (.grp w l, one, one)
  | .gather16 => (.grp w l, one, some (16, if 16 * l % w = 0 then 16 * l / w else 0))
  | .compress => (.grp w l, one, msk)
  | .mvR nr => (.grp w (8 * nr), some (w, 8 * nr), none)

/-- Whether v0 is a source whatever the mask bit says (a carry, a selection), and whether the mask bit masks elements. -/
def vReadsV0 (op : VOp) : Bool :=
  match op with
  | .adc => true | .sbc => true | .merge => true | .madc b => b | .msbc b => b
  | _ => false
def vMaskable (op : VOp) : Bool :=
  match op with
  | .adc => false | .sbc => false | .madc _ => false | .msbc _ => false | .merge => false | .mv => false | .logic _ => false
  | .mvXS => false | .mvSX => false | .mvFS => false | .mvSF => false | .compress => false | .mvR _ => false
  | _ => true
/-- The destination is a source too. -/
def vReadsVd (op : VOp) : Bool :=
  match op with
  | .mac _ => true | .wmac _ => true | .fmac _ => true | .fwmac _ => true
  | _ => false
/-- Instructions that a vstart other than 0 makes illegal. -/
def vStart0 (op : VOp) : Bool :=
  match op with
  | .red _ => true | .wred _ => true | .fredSum _ => true | .fredMin => true | .fredMax => true | .fwredSum _ => true
  | .first1 _ => true | .cpop => true | .first => true | .iota => true | .compress => true
  | _ => false
/-- Instructions whose destination may not overlap any source. -/
def vApart (op : VOp) : Bool :=
  match op with
  | .first1 _ => true | .iota => true | .slideup => true | .slide1up => true | .gather => true | .gather16 => true | .compress => true
  | _ => false

/-- Whether an instruction is a floating-point one, and whether its formats exist under SEW (R98: single and double precision). -/
def vIsFp (op : VOp) (src : VSrc) : Bool :=
  (match src with | .f _ => true | .v _ => false | .x _ => false | .i _ => false) ||
  (match op with
   | .fp _ => true | .fun1 _ => true | .fcmp _ => true | .fmac _ => true | .fwiden _ _ => true | .fwmac _ => true | .cvt _ _ => true
   | .fredSum _ => true | .fredMin => true | .fredMax => true | .fwredSum _ => true | .mvFS => true | .mvSF => true
   | _ => false)
def vFpOk (op : VOp) (w : Nat) : Bool :=
  let fromF (o : VCvt) : Bool := match o with
    | .xuf => true | .xf => true | .rtzxuf => true | .rtzxf => true | .fxu => false | .fx => false | .ff => true | .rodff => true
  let toF (o : VCvt) : Bool := match o with
    | .xuf => false | .xf => false | .rtzxuf => false | .rtzxf => false | .fxu => true | .fx => true | .ff => true | .rodff => true
  let fw (n : Nat) : Bool := n == 32 || n == 64
  match op with
  | .fwiden _ _ => w == 32
  | .fwmac _ => w == 32
  | .fwredSum _ => w == 32
  | .cvt o .single => fw w && !(fromF o && toF o)
  | .cvt o .widen => (!fromF o || fw w) && (!toF o || fw (2 * w)) && decide (w ≤ 32)
  | .cvt o .narrow => (!fromF o || fw (2 * w)) && (!toF o || fw w) && decide (w ≤ 32)
  | _ => fw w

/-- The source groups of an instruction but for the mask register, which is one beside them where the instruction is masked or takes a carry or a
selection from v0. -/
def vSources (op : VOp) (vd vs2 : Nat) (src : VSrc) (w l : Nat) : List VGrp :=
  let sh := vShape op w l
  (match sh.2.1 with | some g => [⟨vs2, g.1, g.2⟩] | none => []) ++
  (match src, sh.2.2 with | .v r, some g => [⟨r, g.1, g.2⟩] | _, _ => []) ++
  (if vReadsVd op then (match sh.1 with | .grp e m => [⟨vd, e, m⟩] | .mask => [] | .elem => [] | .x => [] | .f => []) else [])
def vMaskSource (op : VOp) (masked : Bool) : List VGrp := if (masked && (vMaskable op)) || (vReadsV0 op) then [⟨0, 1, 8⟩] else []

/-- The destination group of an instruction that writes one. -/
def vDest (op : VOp) (vd w l : Nat) : Option VGrp :=
  match (vShape op w l).1 with
  | .grp e m => some ⟨vd, e, m⟩ | .mask => some ⟨vd, 1, 8⟩ | .elem => none | .x => none | .f => none

/-- Two sources that share a register have the same element width. -/
def vSameWidth : List VGrp → Bool
  | [] => true
  | g :: r => r.all (fun h => !g.meets h || g.eew == h.eew) && vSameWidth r

/-- Whether a vector instruction is legal under vtype, vstart and frm; every other is illegal and raises 0x02. -/
def Core.vLegal (c : Core) (op : VOp) (vd vs2 : Nat) (src : VSrc) (masked : Bool) : Bool :=
  let vt := c.csrv C.vtype
  let w := sewOf vt
  let l := lmul8 vt
  let srcs := vSources op vd vs2 src w l
  let v0 := vMaskSource op masked
  !getB vt 63 && (!(vStart0 op) || c.csrv C.vstart == 0) &&
  (!vIsFp op src || (vFpOk op w && decide (c.csrF C.fcsr 5 3 ≤ 4))) &&
  srcs.all (fun g => g.ok && decide (g.eew ≠ 0)) && vSameWidth (srcs ++ v0) &&
  (match op with | .ext _ k => decide (8 ≤ w / k) | .mvR nr => nr == 1 || nr == 2 || nr == 4 || nr == 8 | .wred _ => decide (w ≤ 32) | _ => true) &&
  (match vDest op vd w l with
   | none => true
   | some d => d.ok && srcs.all (fun g => if (vApart op) then !d.meets g else d.overlapOk g) &&
               (v0.isEmpty || d.reg != 0 || (d.eew == 1 && !(vApart op))))

/-! ### Step counts -/

/-- The classes of vector arithmetic instructions that R114 counts apart. -/
inductive VClass where
  | intSimple | intWiden | intMul | intMulWiden | intDiv | fpAdd | fpWiden | fpFma | fpFmaWiden | fpSimple | fpDiv | fpSqrt
  | intRed | intRedWiden | fpRed | fpRedWiden | fpRedOrdered | maskLogical | scalarFromV | vFromScalar | vid | viota | slide | gatherX | gatherV
  | wholeMove (nr : Nat)
  deriving DecidableEq, Repr

/-- The class of an instruction. -/
def vClass (op : VOp) (src : VSrc) : VClass :=
  let fromF := match src with | .f _ => true | .v _ => false | .x _ => false | .i _ => false
  let fromV := match src with | .v _ => true | .f _ => false | .x _ => false | .i _ => false
  match op with
  | .int o => (match o with
    | .mul => .intMul | .mulh => .intMul | .mulhu => .intMul | .mulhsu => .intMul | .smul => .intMul
    | .divu => .intDiv | .div => .intDiv | .remu => .intDiv | .rem => .intDiv
    | _ => .intSimple)
  | .cmp _ => .intSimple
  | .adc => .intSimple
  | .sbc => .intSimple
  | .madc _ => .intSimple
  | .msbc _ => .intSimple
  | .merge => if fromF then .fpSimple else .intSimple
  | .mv => if fromF then .fpSimple else .intSimple
  | .ext _ _ => .intSimple
  | .widen o _ => (match o with | .mulu => .intMulWiden | .mul => .intMulWiden | .mulsu => .intMulWiden | _ => .intWiden)
  | .narrow _ => .intWiden
  | .mac _ => .intMul
  | .wmac _ => .intMulWiden
  | .fp o => (match o with
    | .add => .fpAdd | .sub => .fpAdd | .rsub => .fpAdd | .mul => .fpAdd | .div => .fpDiv | .rdiv => .fpDiv
    | _ => .fpSimple)
  | .fun1 o => (match o with | .sqrt => .fpSqrt | .fclass => .fpSimple | .rec7 => .fpAdd | .rsqrt7 => .fpAdd)
  | .fcmp _ => .fpSimple
  | .fmac _ => .fpFma
  | .fwiden _ _ => .fpWiden
  | .fwmac _ => .fpFmaWiden
  | .cvt _ s => (match s with | .single => .fpAdd | .widen => .fpWiden | .narrow => .fpWiden)
  | .red _ => .intRed
  | .wred _ => .intRedWiden
  | .fredSum o => if o then .fpRedOrdered else .fpRed
  | .fredMin => .fpRed
  | .fredMax => .fpRed
  | .fwredSum o => if o then .fpRedOrdered else .fpRedWiden
  | .logic _ => .maskLogical
  | .first1 _ => .maskLogical
  | .cpop => .scalarFromV
  | .first => .scalarFromV
  | .iota => .viota
  | .id => .vid
  | .mvXS => .scalarFromV
  | .mvSX => .vFromScalar
  | .mvFS => .scalarFromV
  | .mvSF => .vFromScalar
  | .slideup => .slide
  | .slidedown => .slide
  | .slide1up => .slide
  | .slide1down => .slide
  | .gather => if fromV then .gatherV else .gatherX
  | .gather16 => .gatherV
  | .compress => .gatherV
  | .mvR nr => .wholeMove nr

/-- Issue steps and result latency of a class (R114). -/
def vecCost (cls : VClass) (vt : Word) : Nat × Nat :=
  let sew := sewOf vt
  let g := max 1 (lmul8 vt / 8)
  let w := max 1 (2 * lmul8 vt / 8)
  let e := vlmaxOf vt
  let n := log2n sew
  match cls with
  | .intSimple => (g, g + 1)
  | .intWiden => (w, w + 1)
  | .intMul => if sew = 64 then (2 * g, 2 * g + 3) else (g, g + 3)
  | .intMulWiden => (w, w + 3)
  | .intDiv => (20 * g, 20 * g)
  | .fpAdd => (g, g + 4)
  | .fpWiden => (w, w + 4)
  | .fpFma => (g, g + 5)
  | .fpFmaWiden => (w, w + 5)
  | .fpSimple => (g, g + 2)
  | .fpDiv => if sew = 64 then (18 * g, 18 * g) else (12 * g, 12 * g)
  | .fpSqrt => if sew = 64 then (24 * g, 24 * g) else (14 * g, 14 * g)
  | .intRed => (g, g + 1 + n)
  | .intRedWiden => (w, w + 1 + n)
  | .fpRed => (g, g + 4 + 4 * n)
  | .fpRedWiden => (w, w + 4 + 4 * n)
  | .fpRedOrdered => (4 * e, 4 * e)
  | .maskLogical => (1, 2)
  | .scalarFromV => (1, 3)
  | .vFromScalar => (1, 2)
  | .vid => (g, g + 1)
  | .viota => (g, g + 2)
  | .slide => (g, g + 2)
  | .gatherX => (g, g + 2)
  | .gatherV => (e, e + 2)
  | .wholeMove nr => (nr, nr + 1)

/-- Registers of a vector instruction on the scoreboard: x at 0, f at 32, v at 64. -/
def vgroup (v k : Nat) : List Nat := (List.range k).map (fun i => 64 + v + i)
def VGrp.board (g : VGrp) : List Nat := vgroup g.reg g.regs
def vReadRegs (op : VOp) (vd vs2 : Nat) (src : VSrc) (masked : Bool) (vt : Word) : List Nat :=
  (vSources op vd vs2 src (sewOf vt) (lmul8 vt) ++ vMaskSource op masked).flatMap VGrp.board ++
  (match src with | .x r => [r] | .f r => [32 + r] | .v _ => [] | .i _ => [])
def vWriteRegs (op : VOp) (vd : Nat) (vt : Word) : List Nat :=
  match (vShape op (sewOf vt) (lmul8 vt)).1 with
  | .grp e m => VGrp.board ⟨vd, e, m⟩ | .mask => [64 + vd] | .elem => [64 + vd] | .x => [vd] | .f => [32 + vd]

/-! ### Results -/

/-- What a vector instruction writes: elements of a width, with the flags each raises, and a scalar. -/
structure VRes where
  w : Nat
  els : List (Nat × Nat × Nat) := []
  scalar : Option Word := none
  deriving DecidableEq, Repr

/-- Fold a floating-point reduction from a start value, gathering flags. -/
def vFold (f : Nat → Nat → Nat × Nat) (start : Nat) (l : List Nat) : Nat × Nat :=
  l.foldl (fun acc a => let r := f acc.1 a; (r.1, acc.2 ||| r.2)) (start, 0)

/-- The body elements and the active ones among them: from vstart to vl, as the mask allows. A whole-register move has all elements of its registers. -/
def Core.vBody (c : Core) (op : VOp) : List Nat :=
  let vl := match op with | .mvR nr => nr * 256 / sewOf (c.csrv C.vtype) | _ => (c.csrv C.vl).toNat
  (List.range vl).filter (fun i => decide ((c.csrv C.vstart).toNat ≤ i))
def Core.vActive (c : Core) (op : VOp) (masked : Bool) : List Nat :=
  (c.vBody op).filter (fun i => !(masked && (vMaskable op)) || c.vBit 0 i)

/-- An unordered floating-point sum of at least one element: published V 1.0 leaves the order of its additions to the implementation. -/
def Core.vUnordered (c : Core) (op : VOp) (masked : Bool) : Bool :=
  (match op with | .fredSum o => !o | .fwredSum o => !o | _ => false) && !(c.vActive op masked).isEmpty

/-- The result of a vector instruction from the registers that it reads; an unordered sum's element is left out. -/
def Core.vResult (c : Core) (op : VOp) (vd vs2 : Nat) (src : VSrc) (masked : Bool) : VRes :=
  let vt := c.csrv C.vtype
  let w := sewOf vt
  let vmax := vlmaxOf vt
  let xrm := c.csrF C.vcsr 1 2
  let rm := c.csrF C.fcsr 5 3
  let vl := (c.csrv C.vl).toNat
  let body := c.vBody op
  let act := c.vActive op masked
  let a (i : Nat) : Nat := c.vEl vs2 w i
  let a2 (i : Nat) : Nat := c.vEl vs2 (2 * w) i
  let b (i : Nat) : Nat := c.vSrc src w i
  let d (i : Nat) : Nat := c.vEl vd w i
  let d2 (i : Nat) : Nat := c.vEl vd (2 * w) i
  let cy (i : Nat) : Nat := b2n (c.vBit 0 i)
  let each (ew : Nat) (f : Nat → Nat × Nat) : VRes := { w := ew, els := act.map (fun i => (i, f i)) }
  let pure_ (ew : Nat) (f : Nat → Nat) : VRes := { w := ew, els := act.map (fun i => (i, f i, 0)) }
  let bits (f : Nat → Bool) : VRes := { w := 1, els := act.map (fun i => (i, b2n (f i), 0)) }
  let elem (ew : Nat) (r : Nat × Nat) : VRes := { w := ew, els := if body.isEmpty then [] else [(0, r)] }
  let src0 (i : Nat) : Nat := if i < vmax then a i else 0
  let fst := act.find? (fun i => c.vBit vs2 i)
  match op with
  | .int o => each w (fun i => vIntEl o w xrm (a i) (b i))
  | .cmp o => bits (fun i => vCmpEl o w (a i) (b i))
  | .adc => pure_ w (fun i => wrapI w (a i + b i + cy i))
  | .sbc => pure_ w (fun i => wrapI w ((a i : Int) - b i - cy i))
  | .madc k => bits (fun i => decide (2 ^ w ≤ a i + b i + (if k then cy i else 0)))
  | .msbc k => bits (fun i => decide (a i < b i + (if k then cy i else 0)))
  | .merge => pure_ w (fun i => if c.vBit 0 i then b i else a i)
  | .mv => pure_ w b
  | .ext sg k => pure_ w (fun i => let e := c.vEl vs2 (w / k) i; if sg then wrapI w (sInt (w / k) e) else e)
  | .widen o w2 => pure_ (2 * w) (fun i => if w2 then vWideEl o w (2 * w) (a2 i) (b i) else vWideEl o w w (a i) (b i))
  | .narrow o => each w (fun i => vNarrowEl o w xrm (a2 i) (c.vSrc src w i))
  | .mac o => pure_ w (fun i => vMacEl o w (a i) (b i) (d i))
  | .wmac o => pure_ (2 * w) (fun i => vWMacEl o w (a i) (b i) (d2 i))
  | .fp o => each w (fun i => vFpEl o w rm (a i) (b i))
  | .fun1 o => each w (fun i => vFunEl o w rm (a i))
  | .fcmp o => each 1 (fun i => vFCmpEl o w (a i) (b i))
  | .fmac o => each w (fun i => vFMacEl o w rm (a i) (b i) (d i))
  | .fwiden o w2 => each (2 * w) (fun i => vFpEl o (2 * w) rm (if w2 then a2 i else widenS (a i)) (widenS (b i)))
  | .fwmac o => each (2 * w) (fun i => vFMacEl o (2 * w) rm (widenS (a i)) (widenS (b i)) (d2 i))
  | .cvt o s => (match s with
    | .single => each w (fun i => vCvtEl o w w rm (a i))
    | .widen => each (2 * w) (fun i => vCvtEl o w (2 * w) rm (a i))
    | .narrow => each w (fun i => vCvtEl o (2 * w) w rm (a2 i)))
  | .red o => elem w (act.foldl (fun s i => vRedEl o w s (a i)) (b 0), 0)
  | .wred sg => elem (2 * w) (act.foldl (fun s i => wrapI (2 * w) (s + (if sg then sInt w (a i) else (a i : Int)))) (c.vSrc src (2 * w) 0), 0)
  | .fredSum o => if o || act.isEmpty then elem w (vFold (fun s x => vFpOp .add w rm s x 0) (b 0) (act.map a)) else { w := w }
  | .fredMin => elem w (vFold (fun s x => vFpOp .min w rm s x 0) (b 0) (act.map a))
  | .fredMax => elem w (vFold (fun s x => vFpOp .max w rm s x 0) (b 0) (act.map a))
  | .fwredSum o =>
    if o || act.isEmpty then elem (2 * w) (vFold (fun s x => vFpOp .add (2 * w) rm s x 0) (c.vSrc src (2 * w) 0) (act.map (fun i => widenS (a i))))
    else { w := 2 * w }
  | .logic o => bits (fun i => vLogicEl o (c.vBit vs2 i) (match src with | .v r => c.vBit r i | .x _ => false | .f _ => false | .i _ => false))
  | .first1 o => bits (fun i => match fst with
    | none => (match o with | .sbf => true | .sif => true | .sof => false)
    | some k => (match o with | .sbf => decide (i < k) | .sif => decide (i ≤ k) | .sof => i == k))
  | .cpop => { w := w, scalar := some (BitVec.ofNat 64 (act.filter (fun i => c.vBit vs2 i)).length) }
  | .first => { w := w, scalar := some (match fst with | some k => BitVec.ofNat 64 k | none => BitVec.allOnes 64) }
  | .iota => pure_ w (fun i => wrapI w (act.filter (fun k => decide (k < i) && c.vBit vs2 k)).length)
  | .id => pure_ w (fun i => wrapI w i)
  | .mvXS => { w := w, scalar := some (BitVec.ofInt 64 (sInt w (a 0))) }
  | .mvSX => elem w (b 0, 0)
  | .mvFS => { w := w, scalar := some (boxOf (w == 64) (a 0)) }
  | .mvSF => elem w (b 0, 0)
  | .slideup => { w := w, els := (act.filter (fun i => decide (c.vScalar src ≤ i))).map (fun i => (i, a (i - c.vScalar src), 0)) }
  | .slidedown => pure_ w (fun i => src0 (i + c.vScalar src))
  | .slide1up => pure_ w (fun i => if i = 0 then b 0 else a (i - 1))
  | .slide1down => pure_ w (fun i => if i + 1 = vl then b 0 else a (i + 1))
  | .gather => pure_ w (fun i => src0 (match src with | .v r => c.vEl r w i | .x _ => c.vScalar src | .i _ => c.vScalar src | .f _ => 0))
  | .gather16 => pure_ w (fun i => src0 (c.vSrc src 16 i))
  | .compress =>
    let sel := body.filter (fun i => match src with | .v r => c.vBit r i | .x _ => false | .f _ => false | .i _ => false)
    { w := w, els := (List.range sel.length).map (fun k => (k, a (sel.getD k 0), 0)) }
  | .mvR _ => pure_ w a

/-- Write a result: its elements, its scalar (an integer or a floating-point register), and the flags that any of its elements raised. -/
def Core.vWrite (c : Core) (op : VOp) (vd : Nat) (r : VRes) : Core :=
  let c1 := r.els.foldl (fun c e => c.putEl vd r.w e.1 e.2.1) c
  let fl : Nat := r.els.foldl (fun n e => n ||| e.2.2) 0
  let c2 := match r.scalar with
    | none => c1
    | some v => if op = .mvFS then c1.wf vd v else c1.wx vd v
  let c3 := if fl % 32 = 0 then c2 else c2.setFflags (fl % 32)
  if fl / 32 = 0 then c3 else c3.setCsr C.vcsr (c3.csrv C.vcsr ||| 1)

/-- A vector instruction: its result written, and an unordered sum a free value with free flags. -/
def State.vecRun (s : State) (n : Nat) (op : VOp) (vd vs2 : Nat) (src : VSrc) (masked : Bool) : State :=
  let c := s.core n
  let s1 := s.setCore n (c.vWrite op vd (c.vResult op vd vs2 src masked))
  if c.vUnordered op masked then
    let ew := match op with | .fwredSum _ => 64 | _ => sewOf (c.csrv C.vtype)
    let q := s1.draw ew
    let p := q.2.draw 5
    p.2.modCore n (fun c => (c.putEl vd ew 0 q.1.toNat).setFflags p.1.toNat)
  else s1

end Sys2Proof.Machine
end

