-- ==== Sys2Proof/Machine/Pred.lean ====
section
/-!
DEFINITION. Branch prediction (chapter 05): retirement updates (R136 to R139), keys (R144 to R148), and the meanings of the PREDCTL rows.
-/
namespace Sys2Proof.Machine

/-- The kinds of control-flow instruction a retirement reports. -/
inductive CfKind where
  | cond | jump | call | ret | indirect
  deriving DecidableEq, Repr

def CfKind.num : CfKind → Nat
  | .cond => 0 | .jump => 1 | .call => 2 | .ret => 3 | .indirect => 4

/-- Whether the core predicts: flood mode, EN = 1, no invalidation running (R150 to R152). -/
def Core.predicts (c : Core) : Bool := !c.isSlack && c.csrBit C.predctl 0 && !c.csrBit C.predctl 2

/-- The key of the current context (R144). -/
def Core.curKey (c : Core) : BitVec 24 := Tbl.get Config.startKey c.pred.keys c.keySlot

/-- A counter of maximum `m` moves towards an outcome. -/
def ctrMove (m c : Nat) (up : Bool) : Nat := if up then min m (c + 1) else c - 1

/-- Push and pop of the return stack, at most 32 entries (R137, R138). -/
def rsPush (l : List Word) (a : Word) : List Word := (a :: l).take 32

/-- The tagged entry of table `t` for an instruction. -/
def Core.tagIdx (c : Core) (t : Nat) : Nat := 2048 * t + Config.predIndex t c.pc c.pred.hist c.curKey % 2048
def Core.tagged (c : Core) (t : Nat) : PredE := Tbl.get (fun _ => {}) c.pred.tagged (c.tagIdx t)
def Core.setTagged (c : Core) (t : Nat) (e : PredE) : Core :=
  { c with pred := { c.pred with tagged := Tbl.set (fun _ => {}) c.pred.tagged (c.tagIdx t) e } }

/-- A misprediction provided by table `i` allocates in the lowest table above it whose entry has a useful counter of 0; where there is none the useful
counters above are decremented (R139). The new entry's counter is a free value. -/
def State.allocPred (s : State) (n i : Nat) : State :=
  let c := s.core n
  match ((List.range 7).filter (fun t => decide (i < t))).find? (fun t => (c.tagged t).useful == 0) with
  | some t =>
    let q := s.draw 3
    q.2.setCore n (c.setTagged t { tag := (Config.predTag t c.pc c.pred.hist c.curKey).toNat, ctr := q.1.toNat, useful := 0 })
  | none => s.setCore n (((List.range 7).filter (fun t => decide (i < t))).foldl
      (fun c t => c.setTagged t { (c.tagged t) with useful := (c.tagged t).useful - 1 }) c)

/-- Update of the providing entry's direction counter (R139). -/
def Core.trainDir (c : Core) (i : Nat) (taken : Bool) : Core :=
  if i = 0 then
    let k := Config.predIndex 0 c.pc c.pred.hist c.curKey % 8192
    { c with pred := { c.pred with base := Tbl.mod (fun _ => 0) c.pred.base k (ctrMove 3 · taken) } }
  else c.setTagged i { (c.tagged i) with ctr := ctrMove 7 (c.tagged i).ctr taken }

/-- The BTB takes the target of a taken control-flow instruction; the way is a free choice (R135, R139). -/
def State.trainBtb (s : State) (n : Nat) (kind : CfKind) (target : Word) : State :=
  let q := s.choose 4
  let c := q.2.core n
  let set := Config.predIndex 7 c.pc c.pred.hist c.curKey % 2048
  let e : PredE := { tag := (Config.predTag 7 c.pc c.pred.hist c.curKey).toNat, target := target, kind := kind.num }
  q.2.setCore n { c with pred := { c.pred with btb := Tbl.set (fun _ => {}) c.pred.btb (4 * set + q.1) e } }

/-- Retirement of a control-flow instruction in flood mode (R136 to R139, R142, R151): history, return stack, tables and the misprediction events. The
pc is still the instruction's. -/
def State.cfRetire (s : State) (n : Nat) (kind : CfKind) (taken : Bool) (target : Word) (push pop mis : Bool) (provider : Nat) (link : Word) : State :=
  let c := s.core n
  if !c.predicts then s
  else
    let ev := match kind with | .cond => 0x004 | .ret => 0x006 | .call => 0x005 | .indirect => 0x005 | .jump => 0x005
    let s1 := if mis then s.modCore n (fun c => c.discard.event ev 1) else s
    let s2 := if kind = .cond then s1.modCore n (·.trainDir provider taken) else s1
    let s3 := if kind = .cond && mis then s2.allocPred n provider else s2
    let s4 := if taken then s3.trainBtb n kind target else s3
    s4.modCore n (fun c =>
      let h : BitVec 256 := (c.pred.histRet <<< 1) ||| (if taken || kind != .cond then 1 else 0)
      let r0 := if pop then c.pred.rstackRet.tail else c.pred.rstackRet
      let r1 := if push then rsPush r0 link else r0
      let b := if kind = .cond then c.pred.branches + 1 else c.pred.branches
      let p := { c.pred with hist := h, histRet := h, rstack := r1, rstackRet := r1, branches := b % 262144 }
      if kind = .cond ∧ b = 262144 then
        { c with pred := { p with tagged := Tbl.mapAll (fun _ => {}) (fun _ e => { e with useful := e.useful / 2 }) p.tagged } }
      else { c with pred := p })

/-! ### Keys (R147, R148) -/

/-- Draw a new value for key slot `k`: never the old one (R147). The current context's key takes effect later (R148). -/
def State.regenKey (s : State) (n k : Nat) : State :=
  let q := s.draw 24
  let c := q.2.core n
  let old := Tbl.get Config.startKey c.pred.keys k
  let v := if q.1 = old then q.1 + 1 else q.1
  -- a key that still waits for its effect takes it here where another key is to wait; one that is replaced is dropped
  let keys := match c.pred.newKey with
    | some (j, w, _) => if j = k then c.pred.keys else Tbl.set Config.startKey c.pred.keys j w
    | none => c.pred.keys
  if k = c.keySlot ∧ c.run = .run then
    q.2.setCore n { c with pred := { c.pred with keys := keys, newKey := some (k, v, 64) } }
  else q.2.setCore n { c with pred := { c.pred with keys := Tbl.set Config.startKey c.pred.keys k v,
                                                    newKey := c.pred.newKey.filter (fun p => p.1 != k) } }

/-- Regenerate each of a list of keys. -/
def State.regenKeys (s : State) (n : Nat) (ks : List Nat) : State := ks.foldl (fun s k => s.regenKey n k) s

/-- The keys of a partition (R147). -/
def partKeys (p : Nat) : List Nat := [4 * p, 4 * p + 1, 4 * p + 2, 4 * p + 3]

/-- Every table, the BTB and the return stack are invalid (R150, R154). -/
def Pred.invalidate (p : Pred) : Pred := { p with base := [], tagged := [], btb := [], rstack := [], rstackRet := [] }

/-- A CSR write that sets PREDCTL.INVAL (R150): the core predicts as if EN were 0 until the invalidation completes. -/
def State.predInval (s : State) (n : Nat) : State := s.modCore n (fun c => c.discard.setCsrF C.predctl 2 1 1)

/-- A CSR write that sets PREDCTL.REGEN (R150): the keys named by REGENALL and REGENPART. -/
def State.predRegen (s : State) (n : Nat) : State :=
  let c := s.core n
  s.regenKeys n (if c.csrBit C.predctl 4 then List.range 256 else partKeys (c.csrF C.predctl 8 6))

/-- The encoding of a CSR instruction, for TVAL (R157, R167). -/
def csrEnc (op : CsrOp) (csr rd rs1 : Nat) : Word :=
  let f3 := match op with | .rw => 1 | .rs => 2 | .rc => 3 | .rwi => 5 | .rsi => 6 | .rci => 7
  BitVec.ofNat 64 (csr % 4096 * 2 ^ 20 + rs1 % 32 * 2 ^ 15 + f3 * 2 ^ 12 + rd % 32 * 2 ^ 7 + 0x73)

/-- The trap of a CSR instruction whose operands the command does not carry: TVAL holds its encoding, with the register and form bits free (R167). -/
def State.raiseCsr (s : State) (n csr cause : Nat) : State :=
  let q := s.draw 13
  q.2.raise n cause (BitVec.ofNat 64 (csr % 4096 * 2 ^ 20 + q.1.toNat * 2 ^ 7 + 0x73)) 0

/-- A write instruction to a device CSR that has a row of its own: gate, level, issue, its effect, retirement. -/
def State.devCsr (s : State) (n csr : Nat) (f : State → State) : State :=
  s.inst n 4 (fun s =>
    let c := s.core n
    match levelTrap .h c.level with
    | some k => s.raiseCsr n csr k
    | none =>
      if c.blockedBy [] true false then s
      else f (s.modCore n (fun c => ((c.issue { alone := true, clear := true, steps := 2, lat := 2 }).adv 4).retire 1)))

/-- PREDCTL_INVAL (R150). -/
def execPredctlInval (core : Nat) (s : State) : Res := .next (s.devCsr core C.predctl (·.predInval core))

/-- PREDCTL_INVAL_COMPLETE (R150). -/
def execPredctlInvalComplete (core : Nat) (s : State) : Res :=
  .next (if (s.core core).csrBit C.predctl 2 then
    s.modCore core (fun c => { c with pred := c.pred.invalidate }.setCsrF C.predctl 2 1 0)
  else s)

/-- PREDCTL_REGEN (R147, R150). -/
def execPredctlRegen (core : Nat) (s : State) : Res := .next (s.devCsr core C.predctl (·.predRegen core))

/-- REGENINT_EXPIRE (R147, R150): all keys of the core, while the interval is set. -/
def execRegenintExpire (core : Nat) (s : State) : Res :=
  .next (if s.hasCore core ∧ (s.core core).csrF C.predctl 16 4 ≠ 0 then s.regenKeys core (List.range 256) else s)

/-- KEY_REGENERATION_EFFECT (R148): after a discard or 64 retirements. -/
def execKeyRegenerationEffect (core : Nat) (s : State) : Res :=
  .next (match (s.core core).pred.newKey with
    | some (k, v, 0) => s.modCore core (fun c =>
        { c with pred := { c.pred with keys := Tbl.set Config.startKey c.pred.keys k v, newKey := none } })
    | _ => s)

end Sys2Proof.Machine
end

