-- ==== Sys2Proof/Machine/Core1.lean ====
section
/-!
DEFINITION. The meanings of INSTRUCTION_ISSUE and of the memory instructions of a core (chapters 03 and 04): loads, stores, drains, AMO, LR, SC, vector
memory accesses, FENCE, FENCE.I, ECALL, EBREAK.
-/
namespace Sys2Proof.Machine

/-! ### Issue steps and latencies (R112, R114) -/

/-- Issue steps and latency of an integer operation (R112). -/
def aluCost (op : AluOp) : Nat × Nat × Bool :=
  match op with
  | .mul => (1, 3, true) | .mulh => (1, 3, true) | .mulhsu => (1, 3, true) | .mulhu => (1, 3, true) | .mulw => (1, 3, true)
  | .div => (20, 20, true) | .divu => (20, 20, true) | .rem => (20, 20, true) | .remu => (20, 20, true)
  | .divw => (20, 20, true) | .divuw => (20, 20, true) | .remw => (20, 20, true) | .remuw => (20, 20, true)
  | _ => (1, 1, false)

/-- Issue steps and latency of a floating-point operation (R112). -/
def fpCost (op : FpOp) (dbl : Bool) : Nat × Nat :=
  match op with
  | .add => (1, 4) | .sub => (1, 4) | .mul => (1, 4)
  | .madd => (1, 5) | .msub => (1, 5) | .nmsub => (1, 5) | .nmadd => (1, 5)
  | .div => if dbl then (18, 18) else (12, 12)
  | .sqrt => if dbl then (24, 24) else (14, 14)
  | .cvtFF => (1, 3) | .cvtToW => (1, 3) | .cvtToWU => (1, 3) | .cvtToL => (1, 3) | .cvtToLU => (1, 3)
  | .cvtFromW => (1, 3) | .cvtFromWU => (1, 3) | .cvtFromL => (1, 3) | .cvtFromLU => (1, 3)
  | _ => (1, 2)

/-- The value of a second operand. -/
def Core.src2 (c : Core) : Src2 → Word
  | .reg r => c.rx r
  | .imm v => v
def src2Regs : Src2 → List Nat
  | .reg r => [r]
  | .imm _ => []

/-- Issue information of an instruction (R106, R109, R112, R114). -/
def Core.issueInfo (c : Core) (op : IssueOp) : IssueInfo :=
  match op with
  | .alu o rd rs1 s2 => let k := aluCost o; { srcs := rs1 :: src2Regs s2, dsts := [rd], steps := k.1, lat := k.2.1, arith := k.2.2 }
  | .lui rd _ => { dsts := [rd] }
  | .auipc rd _ => { dsts := [rd] }
  | .hint => {}
  | .branch o a b _ => { srcs := [a, b], steps := if branchTaken o (c.rx a) (c.rx b) then 2 else 1, branch := true }
  | .jal rd _ => { dsts := [rd], steps := 2, lat := 2, branch := true }
  | .jalr rd rs1 _ => { srcs := [rs1], dsts := [rd], steps := 3, lat := 3, branch := true }
  | .fp o dbl _ rd a b d =>
    let k := fpCost o dbl
    let fs := if fpFromX o then [a] else (32 + a) :: (32 + b) :: (if fpFma o then [32 + d] else [])
    { srcs := fs, dsts := [if fpToX o then rd else 32 + rd], steps := k.1, lat := k.2, arith := true }
  | .vec o vd vs2 src masked =>
    let vt := c.csrv C.vtype
    let k := vecCost (vClass o src) vt
    { srcs := vReadRegs o vd vs2 src masked vt, dsts := vWriteRegs o vd vt, steps := k.1, lat := k.2, arith := true }
  | .vset rd a _ t => { srcs := src2Regs a ++ src2Regs t, dsts := [rd], arith := true }
  | .illegal _ => {}

/-- Whether vsetvl's setting is usable: a supported type, and one that keeps VLMAX where vl is kept. -/
def Core.vsetOk (c : Core) (keepVl : Bool) (v : Word) : Bool :=
  vtypeOk v && (!keepVl || (!getB (c.csrv C.vtype) 63 && vlmaxOf v == vlmaxOf (c.csrv C.vtype)))

/-- The new vl (published rule; between VLMAX and twice VLMAX any value from half the request up is allowed: a free choice). -/
def State.newVl (s : State) (avl vlmax : Nat) : Nat × State :=
  if avl ≤ vlmax then (avl, s)
  else if 2 * vlmax ≤ avl then (vlmax, s)
  else
    let lo := (avl + 1) / 2
    let q := s.choose (vlmax - lo + 1)
    (lo + q.1, q.2)

/-- The rounding mode in effect; 5 and 6 are reserved, and so is a dynamic mode above 4. -/
def Core.rmOf (c : Core) (rm : Nat) : Option Nat :=
  let r := if rm = 7 then c.csrF C.fcsr 5 3 else rm
  if r ≤ 4 then some r else none

/-- Advance, count and train for an instruction that is not a control transfer. -/
def Core.seq (c : Core) (len : Nat) : Core := (c.adv len).retire 1

/-- What an instruction does once it issues. `len`: its length. -/
def State.issueEffect (s : State) (n : Nat) (op : IssueOp) (len : Nat) (env : IssueEnv) : State :=
  let c := s.core n
  let link := c.pc + BitVec.ofNat 64 len
  match op with
  | .alu o rd rs1 s2 => s.setCore n ((c.wx rd (aluResult o (c.rx rs1) (c.src2 s2))).seq len)
  | .lui rd i => s.setCore n ((c.wx rd i).seq len)
  | .auipc rd i => s.setCore n ((c.wx rd (c.pc + i)).seq len)
  | .hint => s.setCore n (c.seq len)
  | .branch o a b off =>
    let t := branchTaken o (c.rx a) (c.rx b)
    let s1 := s.cfRetire n .cond t (c.pc + off) false false env.mispredict env.provider link
    s1.modCore n (fun d => { d with pc := if t then c.pc + off else link }.retire 1)
  | .jal rd off =>
    let call := rd == 1 || rd == 5
    let s1 := s.cfRetire n (if call then .call else .jump) true (c.pc + off) call false env.mispredict env.provider link
    s1.modCore n (fun d => { d.wx rd link with pc := c.pc + off }.retire 1)
  | .jalr rd rs1 off =>
    let tgt := (c.rx rs1 + off) &&& ~~~ 1
    let call := rd == 1 || rd == 5
    let pop := (rs1 == 1 || rs1 == 5)
    let kind : CfKind := if call then .call else if pop then .ret else .indirect
    let s1 := s.cfRetire n kind true tgt call pop env.mispredict env.provider link
    s1.modCore n (fun d => { d.wx rd link with pc := tgt }.retire 1)
  | .fp o dbl rm rd a b d =>
    match c.rmOf rm with
    | none => s.raise n 0x02 env.enc 0
    | some r =>
      let v := fpResult o dbl r (c.rf a) (c.rf b) (c.rf d) (c.rx a)
      let c1 := if fpToX o then c.wx rd v.1 else c.wf rd v.1
      s.setCore n ((c1.setFflags v.2).seq len)
  | .vec o vd vs2 src masked => (s.vecRun n o vd vs2 src masked).modCore n (fun c => (c.setCsr C.vstart 0).seq len)
  | .vset rd avl keepVl vtype =>
    let v := c.src2 vtype
    if c.vsetOk keepVl v then
      let q := if keepVl then ((c.csrv C.vl).toNat, s) else s.newVl (c.src2 avl).toNat (vlmaxOf v)
      q.2.modCore n (fun c => ((((c.setCsr C.vtype v).setCsr C.vl (BitVec.ofNat 64 q.1)).setCsr C.vstart 0).wx rd (BitVec.ofNat 64 q.1)).seq len)
    else s.setCore n (((((c.setCsr C.vtype (bitW 63)).setCsr C.vl 0).setCsr C.vstart 0).wx rd 0).seq len)
  | .illegal enc => s.raise n 0x02 enc 0

/-- Whether an instruction needs the vector unit, and whether the vector settings or its operands make it illegal. -/
def needsVec (op : IssueOp) : Bool :=
  match op with
  | .vec _ _ _ _ _ => true | .vset _ _ _ _ => true | _ => false
def Core.vRejects (c : Core) (op : IssueOp) : Bool :=
  match op with
  | .vec o vd vs2 src m => !c.vLegal o vd vs2 src m | _ => false

/-- An event marked speculative in R103. -/
def isSpecEvent (e : Nat) : Bool :=
  e == 0x003 || (0x010 ≤ e && e ≤ 0x014) || e == 0x022 || e == 0x023 || (0x025 ≤ e && e ≤ 0x027) || e == 0x030

/-- A control transfer. -/
def isTransfer (op : IssueOp) : Bool :=
  match op with
  | .branch _ _ _ _ => true | .jal _ _ => true | .jalr _ _ _ => true
  | _ => false

/-- A trigger of KIND 3 at a predictor entry that a control transfer of flood mode reads (R153, R559). -/
def State.injectPred (s : State) (n : Nat) (op : IssueOp) : State :=
  if s.armed && isTransfer op && (s.core n).predicts && s.injKind (unitCore n) 2 none == some 3 then (s.correctedI (unitCore n) 2 true).injTriggered else s

/-- INSTRUCTION_ISSUE (R105): a pair divergence is found before anything is written (R541, R543); a fetch or register error raises its machine check
(R535, R540); a vector instruction without the unit, or one that its settings or operands make illegal, raises 0x02 (R8, R97); otherwise the instruction issues and takes effect. -/
def execInstructionIssue (core : Nat) (op : IssueOp) (len : Nat) (env : IssueEnv) (s : State) : Res :=
  .next (s.inst core len (fun s0 =>
    let c0 := s0.core core
    if env.diverge && c0.paired then s0.diverge (core / 2) env.jointRecovery
    else
      let s := (if 0 < env.l1crc then s0.corrected (unitCore core) 0 else s0)
      let s := ((List.range env.predCrc).foldl (fun s _ => s.corrected (unitCore core) 2) s).injectPred core op
      let c := s.core core
      let fetchPa := match c.xlate .fetch c.pc false with | .ok x => x.pa | .error _ => 0
      if env.fetchPoison then s.machineCheck core 1 true (some fetchPa) c.part c.pc
      else if 1 < env.l1crc then (s.failure (unitCore core) 1 (some c.part) fetchPa 0).machineCheck core 1 true (some fetchPa) c.part c.pc
      else if env.regError then (s.detect { unit := unitCore core, cls := 5, sev := some 1, part := some c.part }).machineCheck core 7 true none c.part c.pc
      else if (needsVec op && !s.fuse.vec) || c.vRejects op then s.raise core 0x02 env.enc 0
      else
        let info := c.issueInfo op
        if c.blockedBy (info.srcs ++ info.dsts) false false then s0
        else
          let s1 := s.issueAt core env.fill info
          let s2 := if c.isSlack then s1 else s1.modCore core (·.events (env.events.filter isSpecEvent))
          s2.issueEffect core op len env))

/-! ### Loads and stores -/

/-- The scoreboard number of a store's data register. -/
def dataReg (fp : Bool) (r : Nat) : Nat := if fp then 32 + r else r

/-- LOAD (R76, R217, R221): the failed checks it meets come first; a line that fails twice reaches it poisoned (R540). -/
def execLoad (core : Nat) (dest : LdDest) (rs1 : Nat) (off : Word) (width : Nat) (sx : Bool) (len fill : Nat) (checks : List Check) (s : State) : Res :=
  .next (s.inst core len (fun s =>
    let c := s.core core
    let va := c.rx rs1 + off
    let s := s.meetChecks core .load va width checks
    match s.checkAccess core .load va width with
    | .error t => s.raiseT core t
    | .ok k =>
      if checks.contains .l1Again then s.machineCheck core 1 true (some k.pa) c.part c.pc
      else s.doLoad core k { dest := dest, pa := k.pa, width := k.w, va := va, sx := sx, pc := c.pc, len := len } [rs1] fill))

/-- Send the acknowledgements of received invalidations once stores have drained and loads are done (R213). -/
def State.ackTlb (s : State) (n : Nat) : State :=
  let c := s.core n
  if c.stores.isEmpty && c.loads.isEmpty && !c.tlbRecv.isEmpty then
    (s.setCore n { c with tlbRecv := [] }).sendAll (c.tlbRecv.map (fun i => Msg.tlbibAck i.issuer n))
  else s

/-- LOAD_COMPLETE (R76): the data is taken from where the load's target holds it; in flood mode it waits until overlapping older stores have drained
(R82). A target that no longer answers faults (R227, R297). -/
def execLoadComplete (core idx : Nat) (ans : Answer) (step : Nat) (s : State) : Res :=
  let c := s.core core
  .next (match c.loads[idx]? with
    | none => s
    | some w =>
      let hid := c.stores.any (fun e => e.overlaps w.pa w.width || (w.width2 != 0 && e.overlaps w.pa2 w.width2))
      if hid || c.run != .run || c.entry.isSome then s.pump core
      else match s.loadRead core w ans with
        | .ok none => s.pump core
        | .ok (some q) =>
          let lim := if w.maxLat = 0 then max step (w.issued + 3) else min (max step (w.issued + 3)) (w.issued + w.maxLat)
          let s1 := q.2.2.modCore core (fun c => { c with loads := c.loads.eraseIdx idx })
          (s1.finishLoad core w q.1 q.2.1 lim).ackTlb core
        | .error bw =>
          let s1 := s.modCore core (fun c => { (c.setReq (w.pa / 64) none) with loads := c.loads.eraseIdx idx, pc := w.pc })
          (if bw then s1.bwLate (coreRouter core) w.pa false else s1).raiseT core ⟨5, w.va, tinfo 0 0 1 false, false⟩)

/-- STORE (R78). -/
def execStore (core rs1 rs2 : Nat) (fp : Bool) (off : Word) (width len fill : Nat) (checks : List Check) (s : State) : Res :=
  .next (s.inst core len (fun s =>
    let c := s.core core
    let va := c.rx rs1 + off
    let s := s.meetChecks core .store va width checks
    let v := if fp then c.rf rs2 else c.rx rs2
    match s.checkAccess core .store va width with
    | .error t => s.raiseT core t
    | .ok k => s.doStore core k va v width len [rs1, dataReg fp rs2] fill))

/-- Whether a core's stores can drain: its state is live. The buffers of a checkstopped or pair-halted core stay live (R214), and those of a core that a
CORE reset has stopped drain (R595). -/
def Core.alive (c : Core) : Bool :=
  match c.run with
  | .run => true | .halt => true | .held => false | .retain => false | .off => false | .checkstop => true | .pairHalt => true
  | .resetting => true

/-- STORE_DRAIN (R78): the oldest retired store of a flood-mode core drains. -/
def execStoreDrain (core : Nat) (s : State) : Res :=
  let c := s.core core
  .next (if c.alive && !c.isSlack then ((s.drainOne core []).2).ackTlb core else s)

/-- STORE_BUFFER_ENTRY_LEAVE (R125, R127): the oldest entry leaves two steps after the later of its issue and the departure before it. -/
def execStoreBufferEntryLeave (core : Nat) (badBytes : List Bool) (s : State) : Res :=
  let c := s.core core
  .next (if c.alive && c.isSlack then
    match c.stores with
    | [] => s
    | e :: _ =>
      let q := s.drainOne core badBytes
      if q.1 then (q.2.modCore core (fun c => { c with slack := { c.slack with lastLeft := max e.issued c.slack.lastLeft + 2 } })).ackTlb core
      else q.2
  else s)

/-- DEVICE_STORE_ACKNOWLEDGE (R29, R79): the target has acknowledged the oldest control-space or PCIe store, which retires; a target that has stopped
answering gives 0x07 (R297). -/
def execDeviceStoreAcknowledge (core : Nat) (s : State) : Res :=
  let c := s.core core
  .next (match c.devs with
    | [] => s
    | d :: rest =>
      let s0 := (s.recv (.devAccess core d.pa d.width true d.value)).setCore core { c with devs := rest }
      if !s.devDelivers core d.pa then (s0.bwLate (coreRouter core) d.pa true).raiseT core ⟨7, d.va, tinfo 0 0 2 false, false⟩
      else if s.pcieFault d.pa then s0.raiseT core ⟨7, d.va, tinfo 0 0 2 false, false⟩
      else s0.modCore core (fun c => ((c.adv d.len).accessEvents false true).retire 1))

/-- CAST_STORE_ACKNOWLEDGE (R119, R129): one outstanding store to a cast window over the Tideway is acknowledged. -/
def execCastStoreAcknowledge (core : Nat) (s : State) : Res :=
  let c := s.core core
  .next (if 0 < c.castAcks then
    let s1 := s.setCore core { c with castAcks := c.castAcks - 1 }
    { s1 with net := s1.net.eraseP (fun m => match m with | .castStore n _ _ => n == core | _ => false) }
  else s)

/-! ### Atomic operations -/

/-- Trap 0x17 under STRICT (R132). -/
def strictTrap : TrapInfo := ⟨0x17, 0, 0, false⟩

/-- AMO (R84). -/
def execAmo (core : Nat) (op : AmoOp) (rd rs1 rs2 width fill : Nat) (s : State) : Res :=
  .next (s.inst core 4 (fun s =>
    let c := s.core core
    let s := s.injectAccess core .amo (c.rx rs1) width
    match s.checkAccess core .amo (c.rx rs1) width with
    | .error t => s.raiseT core t
    | .ok k => s.doAmo core k (c.rx rs1) { op := some op, rd := rd, pa := k.pa, width := width, src := c.rx rs2 } [rs1, rs2] fill))

/-- LR (R85). -/
def execLr (core rd rs1 width fill : Nat) (s : State) : Res :=
  .next (s.inst core 4 (fun s =>
    let c := s.core core
    if c.isStrict then s.raiseT core strictTrap
    else
      let s := s.injectAccess core .lr (c.rx rs1) width
      match s.checkAccess core .lr (c.rx rs1) width with
      | .error t => s.raiseT core t
      | .ok k => s.doLoad core k { dest := .x rd, pa := k.pa, width := k.w, va := c.rx rs1, sx := true, pc := c.pc, len := 4, lr := true } [rs1] fill))

/-- SC (R85). -/
def execSc (core rd rs1 rs2 width fill : Nat) (s : State) : Res :=
  .next (s.inst core 4 (fun s =>
    let c := s.core core
    if c.isStrict then s.raiseT core strictTrap
    else
      let s := s.injectAccess core .sc (c.rx rs1) width
      match s.checkAccess core .sc (c.rx rs1) width with
      | .error t => s.raiseT core t
      | .ok k => s.doAmo core k (c.rx rs1) { op := none, rd := rd, pa := k.pa, width := width, src := c.rx rs2 } [rs1, rs2] fill))

/-! ### Vector memory accesses (R98, R123) -/

/-- Fields of a kind. -/
def vmemFields (k : VMemKind) : Nat :=
  match k with
  | .segUnit nf => nf | .segFirst nf => nf | .segStrided nf _ => nf | .segIndexed nf _ => nf | _ => 1

/-- A kind whose offsets come from a vector register, with that register. -/
def vmemIndex (k : VMemKind) : Option Nat :=
  match k with
  | .indexed v => some v | .segIndexed _ v => some v | _ => none

/-- The stride register of a kind. -/
def vmemStride (k : VMemKind) : List Nat :=
  match k with
  | .strided r => [r] | .segStrided _ r => [r] | _ => []

/-- A fault-only-first load. -/
def vmemFf (k : VMemKind) : Bool :=
  match k with
  | .faultFirst => true | .segFirst _ => true | _ => false

/-- Bytes of a data element: the instruction's width, SEW for an indexed kind, one for a mask. -/
def vmemWidth (kind : VMemKind) (vt : Word) (eew : Nat) : Nat :=
  match kind with
  | .indexed _ => sewOf vt / 8 | .segIndexed _ _ => sewOf vt / 8 | .mask => 1 | _ => eew

/-- The register group size in eighths of a register: EMUL = EEW / SEW × LMUL, 0 where it is no whole number of eighths. -/
def emulOf (vt : Word) (bytes : Nat) : Nat := if lmul8 vt * (8 * bytes) % sewOf vt = 0 then lmul8 vt * (8 * bytes) / sewOf vt else 0

/-- The groups that an access moves, one for each field, and the group of its offsets. -/
def vmemGroups (kind : VMemKind) (vt : Word) (vd eew : Nat) : List VGrp :=
  match kind with
  | .whole nr => [⟨vd, 8 * eew, 8 * nr⟩]
  | .mask => [⟨vd, 1, 8⟩]
  | _ =>
    let w := vmemWidth kind vt eew
    let m := emulOf vt w
    (List.range (vmemFields kind)).map (fun f => ⟨vd + f * max 1 (m / 8), 8 * w, m⟩)
def vmemOffsets (kind : VMemKind) (vt : Word) (eew : Nat) : List VGrp :=
  match vmemIndex kind with
  | some v => [⟨v, 8 * eew, emulOf vt eew⟩] | none => []

/-- Whether a vector access is legal: its groups exist and end at v31, eight registers at most; a masked one leaves v0 to the mask; a load's groups overlap
its offsets as the widths allow, a segment load's not at all, and a store's sources agree in width. -/
def vmemLegal (kind : VMemKind) (isStore masked : Bool) (vt : Word) (vd eew : Nat) : Bool :=
  let gs := vmemGroups kind vt vd eew
  let os := vmemOffsets kind vt eew
  let whole := match kind with | .whole _ => true | _ => false
  let fixed := match kind with | .whole _ => true | .mask => true | _ => false
  let seg := decide (1 < vmemFields kind)
  (whole || !getB vt 63) && (match kind with | .whole nr => nr == 1 || nr == 2 || nr == 4 || nr == 8 | _ => true) &&
  (gs ++ os).all (fun g => g.ok && decide (g.reg + g.regs ≤ 32)) && decide ((gs.map VGrp.regs).sum ≤ 8) &&
  decide (1 ≤ vmemFields kind) && decide (vmemFields kind ≤ 8) && !(vmemFf kind && isStore) &&
  (fixed || !masked || gs.all (fun g => g.reg != 0)) &&
  (if isStore then vSameWidth (gs ++ os ++ (if masked then [⟨0, 1, 8⟩] else []))
   else vSameWidth (os ++ (if masked then [⟨0, 1, 8⟩] else [])) && gs.all (fun d => os.all (fun o => if seg then !d.meets o else d.overlapOk o)))

/-- Elements of an access up to VLMAX (R111): a whole-register access has those of its registers, a mask access one byte for every eight elements. -/
def vmemCount (kind : VMemKind) (vt : Word) (eew : Nat) : Nat :=
  match kind with
  | .whole nr => nr * 32 / eew
  | .mask => 32
  | _ => vlmaxOf vt

/-- The elements of an access in element order, fields innermost; active from vstart to vl where v0 allows. -/
def Core.vmemElems (c : Core) (kind : VMemKind) (masked : Bool) (vd rs1 eew : Nat) : List VElem :=
  let vt := c.csrv C.vtype
  let vl := (c.csrv C.vl).toNat
  let vstart := (c.csrv C.vstart).toNat
  let base := c.rx rs1
  let w := vmemWidth kind vt eew
  let grp := max 1 (emulOf vt w / 8)
  let nf := vmemFields kind
  let evl := match kind with
    | .whole nr => nr * 32 / eew
    | .mask => (vl + 7) / 8
    | _ => vl
  let m := masked && (match kind with | .whole _ => false | .mask => false | _ => true)
  let addr (i f : Nat) : Word := match kind with
    | .unit => base + BitVec.ofNat 64 (i * w)
    | .faultFirst => base + BitVec.ofNat 64 (i * w)
    | .whole _ => base + BitVec.ofNat 64 (i * w)
    | .mask => base + BitVec.ofNat 64 i
    | .strided r => base + c.rx r * BitVec.ofNat 64 i
    | .indexed v => base + BitVec.ofNat 64 (c.vEl v (8 * eew) i)
    | .segUnit k => base + BitVec.ofNat 64 ((i * k + f) * w)
    | .segFirst k => base + BitVec.ofNat 64 ((i * k + f) * w)
    | .segStrided _ r => base + c.rx r * BitVec.ofNat 64 i + BitVec.ofNat 64 (f * w)
    | .segIndexed _ v => base + BitVec.ofNat 64 (c.vEl v (8 * eew) i) + BitVec.ofNat 64 (f * w)
  (List.range (vmemCount kind vt eew)).flatMap (fun i =>
    (List.range nf).map (fun f => { i := i, reg := vd + f * grp, pos := i * w, va := addr i f, w := w,
                                    act := decide (vstart ≤ i) && decide (i < evl) && (!m || c.vBit 0 i) }))

/-- Whether 32-byte blocks, not elements, make the accesses of a kind (R123). -/
def vmemBlocks (kind : VMemKind) : Bool :=
  match kind with
  | .strided _ => false | .indexed _ => false | .segStrided _ _ => false | .segIndexed _ _ => false | _ => true

/-- Issue steps of an access without line crossings (R123): blocks for unit-stride kinds, VLMAX elements for the others. -/
def vmemSteps (kind : VMemKind) (vt : Word) (base : Word) (eew : Nat) : Nat :=
  let g := max 1 (emulOf vt (vmemWidth kind vt eew) / 8)
  let un := if base.toNat % 32 = 0 then 0 else 1
  match kind with
  | .unit => g + un | .faultFirst => g + un | .whole nr => nr + un | .mask => 1 + un
  | .strided _ => vlmaxOf vt | .indexed _ => vlmaxOf vt
  | .segUnit nf => nf * (g + un) | .segFirst nf => nf * (g + un) | .segStrided nf _ => nf * vlmaxOf vt | .segIndexed nf _ => nf * vlmaxOf vt

/-- Entries that a unit-stride segment store takes beyond the blocks it touches (R123: nf × B). -/
def vmemPad (kind : VMemKind) (base : Word) : Nat :=
  match kind with
  | .segUnit nf => if base.toNat % 32 = 0 then 0 else nf - 1
  | _ => 0

/-- The vector registers that an access moves, and the registers that it reads beside its base: stride, offsets, mask. -/
def vmemRegs (kind : VMemKind) (vt : Word) (vd eew : Nat) : List Nat := (vmemGroups kind vt vd eew).flatMap VGrp.board
def vmemReads (kind : VMemKind) (masked : Bool) (vt : Word) (rs1 eew : Nat) : List Nat :=
  rs1 :: vmemStride kind ++ (vmemOffsets kind vt eew).flatMap VGrp.board ++ (if masked then [64] else [])

/-- The longest latency of the bounded accesses of a vector load, one after another: a block's elements share one access (R119, R123). -/
def State.vmemBound (s : State) (n : Nat) (blk : Bool) (parts : List (List (Nat × Nat))) : Nat :=
  let one (p : Nat × Nat) : Nat := 3 + s.stepsOf n (8 * sliceHops n p.1 + 24)
  if blk then
    ((parts.flatten.foldl (fun (a : Option Nat × Nat) p => if a.1 = some (p.1 / 32) then a else (some (p.1 / 32), a.2 + one p)) (none, 0)).2)
  else (parts.map (fun l => l.foldl (fun m p => max m (one p)) 0 + (if 1 < l.length then 2 else 0))).sum

/-- Issue a vector access and perform its elements (R98, R123): its issue steps and, for a load, the latency of its result with the crossings, the forced
drain and, on the shared cast window, an actual latency within the bound; an unbounded access has none. -/
def State.vmemRun (s : State) (n : Nat) (kind : VMemKind) (isStore masked : Bool) (vd rs1 eew fill : Nat) : VOut :=
  let c := s.core n
  let vt := c.csrv C.vtype
  let base := c.rx rs1
  let els := c.vmemElems kind masked vd rs1 eew
  let regs := vmemRegs kind vt vd eew
  let reads := vmemReads kind masked vt rs1 eew
  let parts := s.elemParts n isStore els
  let cross := if vmemBlocks kind then 0 else (parts.filter (fun l => decide (1 < l.length))).length
  let b := vmemSteps kind vt base eew
  if isStore then
    let s1 := s.issueAt n fill { srcs := reads ++ regs, steps := b + cross, mem := true }
    match s1.runStores n (vmemBlocks kind) { next := (s1.core n).slack.step } els with
    | .done s2 =>
      let k := if c.isSlack then vmemPad kind base else 0
      let q := s2.beginEntries n k { next := (s2.core n).slack.hold - k }
      if q.1 then .done (q.2.2.modCore n (fun c => (List.range k).foldl (fun c i => c.pushPiece true 0 [] (q.2.1.next + i)) c))
      else .wait q.2.2 els.length
    | .trap s2 i t => .trap s2 i t
    | .poison s2 i a => .poison s2 i a
    | .wait s2 i => .wait s2 i
  else
    let j := overlapDepth c.stores parts.flatten
    let cls := parts.flatten.foldl (fun m p => max m (s.accClass n .load p.1)) 0
    let q := if c.isSlack && cls == 1 then s.choose (s.vmemBound n (vmemBlocks kind) parts + 1)
      else if c.isSlack && cls == 2 then s.choose (2 ^ 32) else (0, s)
    let s1 := q.2.issueAt n fill { srcs := reads, dsts := regs, steps := b + 2 * cross, lat := max (b + 2 + 2 * cross) q.1 + 2 * j, mem := true }
    let d := s1.forcedDrain n j
    if d.1 then d.2.runLoads n els else .wait d.2 (c.csrv C.vstart).toNat

/-- The injection's triggers at the active elements of a vector access (R559), each element's access as a scalar one. -/
def State.injectElems (s : State) (n : Nat) (k : AccKind) (els : List VElem) : State :=
  if s.armed then els.foldl (fun s e => if e.act then s.injectAccess n k e.va e.w else s) s else s

/-- VECTOR_MEMORY_ACCESS (R98, R123): elements one after another; a trap leaves vstart at its element with the elements before it complete; a
fault-only-first load trims vl at a fault after element 0. An access whose next element cannot be performed yet waits: vstart names it. One without the
vector unit, or one that its settings or operands make illegal, raises 0x02 (R8, R97). -/
def execVectorMemoryAccess (core : Nat) (kind : VMemKind) (isStore masked : Bool) (vd rs1 eew : Nat) (enc : Word) (fill : Nat) (s : State) : Res :=
  .next (s.inst core 4 (fun s0 =>
    let c := s0.core core
    let vt := c.csrv C.vtype
    if !s0.fuse.vec || !vmemLegal kind isStore masked vt vd eew then s0.raise core 0x02 enc 0
    else
      let els := c.vmemElems kind masked vd rs1 eew
      let parts := (s0.elemParts core isStore els).flatten
      let k := if isStore then AccKind.store else .load
      let shared := !isStore && parts.any (fun p => s0.accClass core k p.1 == 1)
      let unb := parts.any (fun p => s0.accClass core k p.1 == 2)
      if c.blockedBy (vmemReads kind masked vt rs1 eew ++ vmemRegs kind vt vd eew) false shared || (!s0.mayInject core && parts.any (fun p => s0.needsNet core p.1)) then s0
      else
        match (s0.injectElems core k els).vmemRun core kind isStore masked vd rs1 eew fill with
        | .done s2 => (s2.modCore core (fun c => (((c.setCsr C.vstart 0).accessEvents false unb).adv 4).retire 1)).pump core
        | .trap s2 i t =>
          if vmemFf kind && i != 0 then
            s2.modCore core (fun c => ((((c.setCsr C.vl (BitVec.ofNat 64 i)).setCsr C.vstart 0).accessEvents false unb).adv 4).retire 1)
          else (s2.modCore core (·.setCsr C.vstart (BitVec.ofNat 64 i))).raiseT core t
        | .poison s2 i a => (s2.modCore core (·.setCsr C.vstart (BitVec.ofNat 64 i))).machineCheck core 1 true (some a) c.part c.pc
        | .wait s2 i => s2.modCore core (fun d => { (d.setCsr C.vstart (BitVec.ofNat 64 i)) with slack := c.slack })))

/-! ### FENCE, FENCE.I, ECALL, EBREAK -/

/-- FENCE (R129, R267): it completes once older stores have left and been acknowledged; until then it waits. -/
def execFence (core : Nat) (s : State) : Res :=
  .next (s.inst core 4 (fun s =>
    let c := s.core core
    if !c.stores.isEmpty || c.castAcks != 0 || c.blockedBy [] true false then s
    else s.modCore core (fun c => ({ c with slack := { c.slack with hold := max c.slack.hold (if c.isSlack then c.slack.lastLeft + 1 else 0) } }.issue
      { alone := true, clear := true, lat := 0 }).seq 4)))

/-- FENCE.I (R92): stores drain, the L1I is invalidated, younger instructions are fetched again. It waits for a store whose line the L2 must obtain. -/
def execFenceI (core : Nat) (s : State) : Res :=
  .next (s.inst core 4 (fun s =>
    let c := s.core core
    if c.isStrict then s.raiseT core strictTrap
    else if c.blockedBy [] true false then s
    else
      let q := s.drainN core c.stores.length
      if q.1 then q.2.modCore core (fun c => ((({ c with l1i := [] }.discard).issue { alone := true, lat := 0 }).accessEvents false c.isSlack).seq 4)
      else q.2))

/-- ECALL (R167): the environment-call cause of the current level. -/
def execEcall (core : Nat) (s : State) : Res :=
  .next (s.inst core 4 (fun s => s.raise core (8 + (s.core core).level.num) 0 0))

/-- EBREAK (R167): TVAL is the EBREAK's address. -/
def execEbreak (core : Nat) (s : State) : Res :=
  .next (s.inst core 4 (fun s => s.raise core 3 (s.core core).pc 0))

end Sys2Proof.Machine
end

