-- ==== Sys2Proof/Machine/Pace.lean ====
section
/-!
DEFINITION. Pace (chapter 02): the pace generator's events, the pace switch, slips, paired mode; and CSR_INSTRUCTION with the CSR writes that do more than
set fields (R57, R58, R59, R69, R95, R150, R158 to R161).
-/
namespace Sys2Proof.Machine

/-! ### The pace generator (R46 to R55) -/

/-- The conditions of R46 and R53 under which stream B runs at 1.250 GHz. -/
def State.fastWanted (s : State) : Bool :=
  s.flag Reg.CHIP_PACECFG F.CHIP_PACECFG_FASTEN && s.flag Reg.CHIP_PACESTAT F.CHIP_PACESTAT_FASTOK &&
  !s.flag Reg.CHIP_PACESTAT F.CHIP_PACESTAT_FELL && s.flag Reg.CHIP_PACESTAT F.CHIP_PACESTAT_LOCKB && s.flag Reg.CHIP_PACESTAT F.CHIP_PACESTAT_LOCKA

/-- FASTOK takes its new value; a fall with FASTEN and AUTOFALL set sets FELL (R47, R48). -/
def State.setFastok (s : State) (ok : Bool) : State :=
  let was := s.flag Reg.CHIP_PACESTAT F.CHIP_PACESTAT_FASTOK
  let s1 := s.setFlag Reg.CHIP_PACESTAT F.CHIP_PACESTAT_FASTOK ok
  if was && !ok && s.flag Reg.CHIP_PACECFG F.CHIP_PACECFG_FASTEN && s.flag Reg.CHIP_PACECFG F.CHIP_PACECFG_AUTOFALL then
    s1.setFlag Reg.CHIP_PACESTAT F.CHIP_PACESTAT_FELL true
  else s1

/-- FASTOK from a sample, with the guard bands and hysteresis of R47. `mv`: lowest VDD_CORE reading in mV; `hot`: highest temperature in 0.25 °C. -/
def State.fastokNext (s : State) (mv : Nat) (hot : Int) : Bool :=
  if s.flag Reg.CHIP_PACESTAT F.CHIP_PACESTAT_FASTOK then decide (810 ≤ mv) && decide (hot ≤ 492)
  else decide (820 ≤ mv) && decide (hot ≤ 480)

/-- STREAM_B_SWITCH (R48, R49): at a coincidence token stream B takes the rate that the conditions give; it needs stream A's tokens to coincide with. -/
def execStreamBSwitch (s : State) : Res :=
  .next (if s.flag Reg.CHIP_PACESTAT F.CHIP_PACESTAT_LOCKA then s.setFlag Reg.CHIP_PACESTAT F.CHIP_PACESTAT_BFAST s.fastWanted else s)

/-- SYNTH_LOCK (R53, R55): a synthesiser locks; `b`: stream B's. The phase of a restarted stream A is not defined: a free choice. -/
def execSynthLock (b : Bool) (s : State) : Res :=
  let s1 := s.setFlag Reg.CHIP_PACESTAT (if b then F.CHIP_PACESTAT_LOCKB else F.CHIP_PACESTAT_LOCKA) true
  .next (if !b && !s.flag Reg.CHIP_PACESTAT F.CHIP_PACESTAT_LOCKA then
    let q := s1.choose 4
    { q.2 with time := { q.2.time with cophase := q.1 } }
  else s1)

/-- The machine check of KIND 0x04 that an ended stream brings (R55). Both cores of an active pair have lost their stream: paired mode ends and each takes
its own (R544). -/
def State.streamMc (s : State) (n : Nat) : State :=
  let c := s.core n
  if c.paired then
    let m := n - n % 2 + (1 - n % 2)
    let s1 := (s.setFld (Reg.CORE_PACESTAT m) F.CORE_PACESTAT_MODE 0).endPair (n / 2)
    let s2 := s1.modCore m (fun d => { d with slack := {}, resv := none })
    let d := s2.core m
    (s2.takeMc n (mkMc c 4 false none c.level c.part) c.pc 0).takeMc m (mkMc d 4 false none d.level d.part) d.pc 0
  else s.machineCheck n 4 false none c.part c.pc

/-- A slack-water core whose stream ended is forced to flood with a machine check of KIND 0x04 (R55). A core in a pace switch completes it into flood
(PACE_SWITCH_COMPLETE). -/
def State.forceFlood (s : State) (n : Nat) : State :=
  let c := s.core n
  match c.switch with
  | some w => s.setCore n { c with switch := some { w with lost := true } }
  | none =>
    if c.isSlack then
      let s1 := (s.setCore n { (c.setCsrF C.pacectl 0 1 0) with slack := {}, resv := none, pred := c.pred.clearHist }).setFld
        (Reg.CORE_PACESTAT n) F.CORE_PACESTAT_MODE 0
      s1.streamMc n
    else s

/-- The cores a loss affects (R55): in slack water on the stream, or in a switch. -/
def State.paceLoss (s : State) (onlyB : Bool) : State :=
  let hit (c : Core) : Bool := (c.isSlack || c.switch.isSome) && (!onlyB || c.csrBit C.pacectl 1 || (match c.switch with | some w => w.rateB | none => false))
  (s.cores.filter (fun e => hit e.2 && !e.2.csrBit C.pairctl 3)).foldl (fun s e => s.forceFlood e.1) s

/-- SYNTH_LOSS_OF_LOCK (R55): LOST is set and the event logged (severity 10); the effect on the streams depends on which of them was being generated. -/
def execSynthLossOfLock (b : Bool) (s : State) : Res :=
  let a := Reg.CHIP_PACESTAT
  let fast := s.flag a F.CHIP_PACESTAT_BFAST
  let s1 := (s.setFlag a F.CHIP_PACESTAT_LOST true).detect { unit := unitPace, sev := some 10, detail := 0 }
  .next (if b then
    let s2 := (s1.setFlag a F.CHIP_PACESTAT_LOCKB false).setFlag a F.CHIP_PACESTAT_BFAST false
    if fast then s2.paceLoss true else s2
  else ((s1.setFlag a F.CHIP_PACESTAT_LOCKA false).setFlag a F.CHIP_PACESTAT_BFAST false).paceLoss false)

/-- FELL_CLEAR (R49): a W1C write to FELL clears it only while FASTOK is 1; LOST, in the same register, is W1C (R52). -/
def execFellClear (value : Word) (s : State) : Res :=
  let a := Reg.CHIP_PACESTAT
  let s1 := if getF value F.CHIP_PACESTAT_FELL = 1 ∧ s.flag a F.CHIP_PACESTAT_FASTOK = true then s.setFlag a F.CHIP_PACESTAT_FELL false else s
  .next (if getF value F.CHIP_PACESTAT_LOST = 1 then s1.setFlag a F.CHIP_PACESTAT_LOST false else s1)

/-! ### The pace switch (R59 to R61) -/

/-- A PACECTL write that changes MODE or RATE (R59): STRICT, WARNFILL and WARNIE take effect at once, MODE and RATE when the switch completes. It ends
the reservation (R85). -/
def State.startSwitch (s : State) (n : Nat) (v : Word) : State :=
  let c := s.core n
  let old := c.csrv C.pacectl
  let keep := (v &&& 0x3F04) ||| (old &&& 3)
  let sw : PaceSw := { slack := getB v 0, rateB := getB v 1 }
  (s.setCore n { (c.setCsr C.pacectl keep).discard with switch := some sw, resv := none }).setFlag
    (Reg.CORE_PACESTAT n) F.CORE_PACESTAT_SWITCHING true |>.setFld (Reg.CORE_PACESTAT n) F.CORE_PACESTAT_MODE 0

/-- A PACECTL write (R58, R59). -/
def State.writePacectl (s : State) (n : Nat) (v : Word) : State :=
  let c := s.core n
  if (v ^^^ c.csrv C.pacectl) &&& 3 = 0 then s.modCore n (·.csrWrite C.pacectl v) else s.startSwitch n v

/-- PACE_SWITCH_COMPLETE (R59 to R61, R152): every store has drained and a token of the selected stream arrives; a stream that delivers none completes the
switch into flood with KIND 0x04 (R55). Stores still waiting for their lines hold it. -/
def execPaceSwitchComplete (core : Nat) (mcStore : Option Nat) (s : State) : Res :=
  let c := s.core core
  .next (match c.switch with
    | none => s
    | some w =>
      let q := s.drainN core c.stores.length
      if !q.1 then q.2
      else
        let dead := w.lost || !s.flag Reg.CHIP_PACESTAT F.CHIP_PACESTAT_LOCKA
        let d := q.2.core core
        let m := w.slack && !dead
        let d1 := ((d.setCsrF C.pacectl 0 1 (b2n m)).setCsrF C.pacectl 1 1 (b2n w.rateB))
        let a := Reg.CORE_PACESTAT core
        let s1 := q.2.setCore core { d1 with switch := none, slack := {}, pred := d1.pred.clearHist }
        let s2 := ((s1.setFlag a F.CORE_PACESTAT_SWITCHING false).setFld a F.CORE_PACESTAT_MODE (b2n m)).setFld a F.CORE_PACESTAT_RATE (b2n w.rateB)
        let s3 := match mcStore with
          | some p => s2.machineCheck core 3 false (some p) d.part d.pc
          | none => s2
        let s4 := if dead then s3.machineCheck core 4 false none d.part d.pc else s3
        match (s4.core core).mcPending with
        | some i => s4.takeMc core i d.pc 0
        | none => s4)

/-- PACE_SLIP (R66, R67): the lost tokens are counted, PEAKFILL records 17, and 0x15 follows at the next boundary unless its handler runs. A slip in
either core of a pair is a slip of both (R72). -/
def State.slip (s : State) (n lost : Nat) : State :=
  let a := Reg.CORE_PACESTAT n
  let c := s.core n
  if c.isSlack && c.run == .run then
    let s1 := (s.bump a F.CORE_PACESTAT_SLIPCNT lost).setFld a F.CORE_PACESTAT_PEAKFILL 17
    let s2 := s1.modCore n (fun c => { (c.addCycles lost) with slipPending := c.slipPending || c.slipDepth.isNone })
    if c.warnFill < 17 then s2.setFlag a F.CORE_PACESTAT_WARN true else s2
  else s

/-- PACE_SLIP (R66). -/
def execPaceSlip (core lost : Nat) (s : State) : Res :=
  .next (if (s.core core).paired then (s.slip (core - core % 2) lost).slip (core - core % 2 + 1) lost else s.slip core lost)

/-! ### Paired mode (R69 to R73) -/

/-- The conditions of R70 on the pair of tile `t`. -/
def State.pairReady (s : State) (t : Nat) : Bool :=
  let l := s.core (2 * t)
  let r := s.core (2 * t + 1)
  l.isSlack && r.isSlack && (l.csrv C.pacectl &&& 6) == (r.csrv C.pacectl &&& 6) &&
  s.fld (Reg.TILE_LCAST t) F.TILE_LCAST_CUR == s.fld (Reg.TILE_RCAST t) F.TILE_LCAST_CUR && r.run == .halt

/-- A PAIRCTL write (R8, R69, R71, R73): none without paired mode, none of EN on the right core; EN = 1 starts pair entry where R70 holds; EN = 0 ends
paired mode and halts the right core. The instruction has issued. -/
def State.writePairctl (s : State) (n : Nat) (en : Bool) : State :=
  let c := s.core n
  if !s.fuse.pair || n % 2 = 1 then s
  else if en then
    (if c.csrBit C.pairctl 0 then s else s.setCore n { (c.setCsr C.pairctl 5) with pairCopy := some {} })
  else if c.paired then
    let s1 := s.endPair (n / 2)
    s1.modCore (n + 1) (fun r => { r with run := .halt })
  else s

/-- Whether a PAIRCTL write of EN = 1 is refused with 0x02 (R70). -/
def State.pairRefused (s : State) (n : Nat) (en : Bool) : Bool :=
  s.fuse.pair && n % 2 == 0 && en && !(s.core n).csrBit C.pairctl 0 && !s.pairReady (n / 2)

/-- PAIR_ENTRY (R70, R71). -/
def execPairEntry (core : Nat) (s : State) : Res :=
  .next (s.inst core 4 (fun s =>
    match levelTrap .h (s.core core).level with
    | some k => s.raiseCsr core C.pairctl k
    | none =>
      if (s.core core).blockedBy [] true false then s
      else if s.pairRefused core true then s.raiseCsr core C.pairctl 0x02
      else (s.modCore core (fun c => (c.issue { alone := true, clear := true, steps := 2, lat := 2 }).seq 4)).writePairctl core true))

/-- PAIR_ENTRY_COMPLETE (R71): 256 steps plus one per cast line after the drain, both cores issue their next instruction on the same token. -/
def execPairEntryComplete (tile : Nat) (s : State) : Res :=
  let l := s.core (2 * tile)
  .next (if l.pairCopy.isSome then
    let q := s.drainN (2 * tile) l.stores.length
    if !q.1 then q.2
    else
      let ways := s.fld (Reg.TILE_LCAST tile) F.TILE_LCAST_CUR
      let d := ({ q.2.core (2 * tile) with pairCopy := none }.setCsr C.pairctl 3).passSteps (256 + 1024 * ways)
      let r := (q.2.core (2 * tile + 1)).takeFrom d
      let s1 := q.2.setCore (2 * tile) d
      let s2 := s1.setCore (2 * tile + 1) ({ r with run := .run, slack := d.slack }.setCsr C.pairctl 0xA)
      let s3 := s2.copyRange (castBase (2 * tile)) (castBase (2 * tile + 1)) (ways * 0x1_0000)
      match (s3.core (2 * tile)).mcPending with
      | some i => s3.takeMc (2 * tile) i d.pc 0
      | none => s3
  else s)

/-- PAIR_EXIT (R73). -/
def execPairExit (core : Nat) (s : State) : Res := .next (s.devCsr core C.pairctl (·.writePairctl core false))

/-- H_SPECCTL_WRITE (R95): instructions in flight are discarded. -/
def execHSpecctlWrite (core : Nat) (value : Word) (s : State) : Res :=
  .next (s.devCsr core C.hSpecctl (·.modCore core (fun c => (c.csrWrite C.hSpecctl value).discard)))

/-! ### CSR_INSTRUCTION (R157 to R161) -/

/-- Whether a CSR instruction writes (published rule: set and clear forms with x0 or an immediate of 0 do not). -/
def csrWrites (op : CsrOp) (rs1 : Nat) : Bool :=
  match op with
  | .rw => true | .rwi => true | .rs => rs1 != 0 | .rc => rs1 != 0 | .rsi => rs1 != 0 | .rci => rs1 != 0

/-- The value written. -/
def csrNew (op : CsrOp) (old src : Word) : Word :=
  match op with
  | .rw => src | .rwi => src | .rs => old ||| src | .rsi => old ||| src | .rc => old &&& ~~~ src | .rci => old &&& ~~~ src

/-- The source operand. -/
def Core.csrSrc (c : Core) (op : CsrOp) (rs1 : Nat) : Word :=
  match op with
  | .rw => c.rx rs1 | .rs => c.rx rs1 | .rc => c.rx rs1
  | .rwi => BitVec.ofNat 64 (rs1 % 32) | .rsi => BitVec.ofNat 64 (rs1 % 32) | .rci => BitVec.ofNat 64 (rs1 % 32)

/-- The write, once checks have passed. -/
def State.csrPerform (s : State) (n csr : Nat) (v : Word) : State :=
  if csr = C.pacectl then s.writePacectl n v
  else if csr = C.pairctl then s.writePairctl n (getB v 0)
  else if csr = C.predctl then
    let s1 := s.modCore n (fun c => (c.csrWrite C.predctl v).discard)
    let s2 := if getB v 2 then s1.predInval n else s1
    if getB v 3 then s2.predRegen n else s2
  else if csr = C.hSpecctl ∨ csr = C.hTransctl ∨ csr = C.sAsid then s.modCore n (fun c => (c.csrWrite csr v).discard)
  else s.modCore n (·.csrWrite csr v)

/-- The trap a CSR instruction raises before it does anything (R8, R157, R160, R161, R70, R73). -/
def State.csrTrap (s : State) (n : Nat) (csr : Nat) (w : Bool) (v : Word) (enc : Word) : Option TrapInfo :=
  let c := s.core n
  let t (k : Nat) : Option TrapInfo := some ⟨k, enc, 0, false⟩
  if !csrExists s.fuse.vec csr then t 0x02
  else match levelTrap (if w then csrWriteLevel csr else csrReadLevel csr) c.level with
    | some k => t k
    | none => match c.counterTrap c.level csr with
      | some k => t k
      | none =>
        if w && csrPublishedRo csr then t 0x02
        else if w && csr == C.pacectl && c.paired && ((v ^^^ c.csrv C.pacectl) &&& 3) != 0 then some strictTrap
        else if w && csr == C.pairctl && s.pairRefused n (getB v 0) then t 0x02
        else none

/-- A CSR instruction. -/
def State.csrInst (s : State) (n : Nat) (op : CsrOp) (csr rd rs1 : Nat) : State :=
  let c := s.core n
  let old := s.csrRead n csr
  let w := csrWrites op rs1
  let v := csrNew op old (c.csrSrc op rs1)
  match s.csrTrap n csr w v (csrEnc op csr rd rs1) with
  | some t => s.raiseT n t
  | none =>
    if c.blockedBy [] true false then s
    else
      let src := match op with | .rw => [rs1] | .rs => [rs1] | .rc => [rs1] | _ => []
      let s1 := s.modCore n (fun c => ((c.issue { srcs := src, dsts := [rd], alone := true, clear := true, steps := 2, lat := 2 }).seq 4))
      -- `cycle` and the counters are read as the instruction issues
      let r := if csrHome csr = C.cycle then s1.csrRead n csr else old
      let s2 := if w then s1.csrPerform n csr v else s1
      s2.modCore n (·.wx rd r)

/-- CSR_INSTRUCTION (R158, R160). -/
def execCsrInstruction (core : Nat) (op : CsrOp) (csr rd rs1 : Nat) (s : State) : Res :=
  .next (s.inst core 4 (fun s => s.csrInst core op csr rd rs1))

/-- PACE_SWITCH (R59): a CSR instruction on PACECTL that changes MODE or RATE. -/
def execPaceSwitch (core : Nat) (op : CsrOp) (rd rs1 : Nat) (s : State) : Res :=
  .next (s.inst core 4 (fun s => s.csrInst core op C.pacectl rd rs1))

end Sys2Proof.Machine
end

