-- ==== Sys2Proof/Machine/Tlb.lean ====
section
/-!
DEFINITION. The translation instructions (R182, R201 to R207), TLBIB and its receipts (R205, R206, R213 to R215), and the instructions HLT, PAUSE.SLACK and
TRET (R181, R184, R185).
-/
namespace Sys2Proof.Machine

/-! ### Encodings and levels (R182, R183) -/

/-- The word of a device-specific instruction (R182): custom-0 where `c1` is false, custom-1 where it is true. -/
def encR (c1 : Bool) (f7 rd rs1 rs2 : Nat) : Word :=
  BitVec.ofNat 64 ((if c1 then 0x2B else 0x0B) + 128 * (rd % 32) + 32768 * (rs1 % 32) + 2 ^ 20 * (rs2 % 32) + 2 ^ 25 * (f7 % 128))

/-- Run a device-specific instruction at its lowest level or above (R157, R182). `bad`: a reserved operand bit is not zero (R201); `low`: it is an instruction
that raises 0x18 at S for what it asks (R202, R204, R206). -/
def State.sysInst (s : State) (n : Nat) (need : Level) (enc : Word) (bad low : Bool) (strict : Bool) (f : State → State) : State :=
  s.inst n 4 (fun s =>
    let c := s.core n
    match levelTrap need c.level with
    | some k => s.raise n k enc 0
    | none =>
      if bad then s.raise n 0x02 enc 0
      else if low && c.level == .s then s.raise n 0x18 enc 0
      else if strict && c.isStrict then s.raiseT n strictTrap
      else f s)

/-- Issue and finish an instruction of this chapter (R107, R113, R201): it issues alone, and younger instructions are fetched again after it. -/
def State.sysDone (s : State) (n : Nat) (info : IssueInfo) : State :=
  s.modCore n (fun c => ((c.issue { info with alone := true }).discard).seq 4)

/-! ### The tags an operand names (R202, R204, R205) -/

/-- Owner and ASID that TLBW and TLBP name: bit 3 selects the guest at H and F. -/
def Core.tlbTag (c : Core) (guest : Bool) : Owner × Nat :=
  if c.level == .s || guest then (.part c.pid, c.csrF C.sAsid 0 16) else (.hyp, c.csrF C.hTransctl 16 16)

/-- The stage-1 entry that TLBW's operands describe (R199, R202). -/
def mkTlbE (o : Owner × Nat) (r1 r2 : Word) : TlbE :=
  let size := getF r1 ⟨0, 2⟩
  { owner := o.1, asid := o.2, g := getB r2 5, size := size, vpn := r1.toNat % 2 ^ 48 / 2 ^ pageShift size,
    r := getB r2 1, w := getB r2 2, x := getB r2 3, u := getB r2 4, d := getB r2 7, ppn := getF r2 ⟨12, 36⟩, lock := getB r1 2 }

/-- The stage-2 entry that S2W's operands describe (R199, R203). -/
def mkS2E (p : Nat) (r1 r2 : Word) : S2E :=
  let size := getF r1 ⟨0, 2⟩
  { part := p, size := size, gpn := r1.toNat % 2 ^ 48 / 2 ^ pageShift size, r := getB r2 1, w := getB r2 2, x := getB r2 3,
    ppn := getF r2 ⟨12, 36⟩, lock := getB r1 2 }

/-- Entries of one tag (R194): owner, ASID, G, page size and page number. -/
def sameTag (a b : TlbE) : Bool := a.owner == b.owner && a.asid == b.asid && a.g == b.g && a.size == b.size && a.vpn == b.vpn
def sameTag2 (a b : S2E) : Bool := a.part == b.part && a.size == b.size && a.gpn == b.gpn

/-- The key of the entry with the same tag. -/
def Core.tlbSame (c : Core) (e : TlbE) : Option Nat :=
  let base := 8 * (e.vpn % 256)
  ((List.range 8).find? (fun w => match c.tlbAt (base + w) with | some x => sameTag x e | none => false)).map (base + ·)
def Core.s2Same (c : Core) (e : S2E) : Option Nat :=
  let base := 4 * (e.gpn % 128)
  ((List.range 4).find? (fun w => match c.s2At (base + w) with | some x => sameTag2 x e | none => false)).map (base + ·)

/-- Locked entries outside way `k`, in the buffer and in one set (R196). -/
def Core.locks (c : Core) (k : Option Nat) (set : Nat) : Nat × Nat :=
  let l := c.tlb.filter (fun e => (match e.2 with | some x => x.lock | none => false) && k != some e.1)
  (l.length, (l.filter (fun e => e.1 / 8 == set)).length)
def Core.locks2 (c : Core) (k : Option Nat) (set : Nat) : Nat × Nat :=
  let l := c.s2.filter (fun e => (match e.2 with | some x => x.lock | none => false) && k != some e.1)
  (l.length, (l.filter (fun e => e.1 / 4 == set)).length)

/-- The way a new entry takes (R196): that of the same tag, the lowest invalid one, or an unlocked one that the pseudo-LRU state (a free choice) selects. -/
def State.tlbWay (s : State) (n : Nat) (e : TlbE) : Nat × State :=
  let c := s.core n
  let base := 8 * (e.vpn % 256)
  match c.tlbSame e with
  | some k => (k, s)
  | none => match (List.range 8).find? (fun w => (c.tlbAt (base + w)).isNone) with
    | some w => (base + w, s)
    | none =>
      let free := (List.range 8).filter (fun w => match c.tlbAt (base + w) with | some x => !x.lock | none => true)
      let q := s.choose free.length
      (base + free.getD q.1 0, q.2)
def State.s2Way (s : State) (n : Nat) (e : S2E) : Nat × State :=
  let c := s.core n
  let base := 4 * (e.gpn % 128)
  match c.s2Same e with
  | some k => (k, s)
  | none => match (List.range 4).find? (fun w => (c.s2At (base + w)).isNone) with
    | some w => (base + w, s)
    | none =>
      let free := (List.range 4).filter (fun w => match c.s2At (base + w) with | some x => !x.lock | none => true)
      let q := s.choose free.length
      (base + free.getD q.1 0, q.2)

/-- Install an entry; the copies of what stood there go (R197). -/
def State.tlbInstall (s : State) (n : Nat) (e : TlbE) : State :=
  let q := s.tlbWay n e
  q.2.modCore n (fun c => (c.dropCopies1 q.1).setTlb q.1 (some e))
def State.s2Install (s : State) (n : Nat) (e : S2E) : State :=
  let q := s.s2Way n e
  q.2.modCore n (fun c => (c.dropCopies2 q.1).setS2 q.1 (some e))

/-! ### TLBW, S2W, TLBP -/

/-- TLBW (R202). -/
def execTlbw (core rs1 rs2 : Nat) (s : State) : Res :=
  let c0 := s.core core
  let r1 := c0.rx rs1
  let r2 := c0.rx rs2
  let enc := encR false 0 0 rs1 rs2
  let e := mkTlbE (c0.tlbTag (getB r1 3)) r1 r2
  let same := c0.tlbSame e
  let hitsLocked := match same with | some k => (match c0.tlbAt k with | some x => x.lock | none => false) | none => false
  .next (s.sysInst core .s enc (getF r1 ⟨4, 8⟩ != 0) (e.lock || hitsLocked) false (fun s =>
    let c := s.core core
    let info : IssueInfo := { srcs := [rs1, rs2], steps := 4, lat := 0 }
    let lim := c.locks same (e.vpn % 256)
    let guest := match e.owner with | .part _ => true | .hyp => false
    if c.blockedBy [rs1, rs2] false false then s
    else if !getB r2 0 then
      (match same with | some k => s.dropTlb core k | none => s).sysDone core info
    else if e.lock && (decide (64 ≤ lim.1) || decide (7 ≤ lim.2)) then s.raise core 0x02 enc 0
    else if guest && c.stage2 .s && (c.s2Lookup c.pid (e.ppn * 4096)).isNone then
      s.raiseT core ⟨0x10, BitVec.ofNat 64 (e.ppn * 4096), tinfo 2 (sizeLevel e.size) 4 false, false⟩
    else (s.tlbInstall core e).sysDone core info))

/-- S2W (R203). -/
def execS2w (core rs1 rs2 : Nat) (s : State) : Res :=
  let c0 := s.core core
  let r1 := c0.rx rs1
  let r2 := c0.rx rs2
  let enc := encR false 5 0 rs1 rs2
  .next (s.sysInst core .h enc (getF r1 ⟨3, 9⟩ != 0) false false (fun s =>
    let c := s.core core
    let e := mkS2E c.pid r1 r2
    let same := c.s2Same e
    let info : IssueInfo := { srcs := [rs1, rs2], steps := 4, lat := 0 }
    let lim := c.locks2 same (e.gpn % 128)
    if c.blockedBy [rs1, rs2] false false then s
    else if !getB r2 0 then (match same with | some k => s.dropS2 core k | none => s).sysDone core info
    else if e.lock && (decide (32 ≤ lim.1) || decide (3 ≤ lim.2)) then s.raise core 0x02 enc 0
    else (s.s2Install core e).sysDone core info))

/-- The result word of TLBP (R204). -/
def tlbpWord (e : TlbE) : Word :=
  fieldW 0 1 1 ||| fieldW 1 1 (b2n e.r) ||| fieldW 2 1 (b2n e.w) ||| fieldW 3 1 (b2n e.x) ||| fieldW 4 1 (b2n e.u) ||| fieldW 5 1 (b2n e.g) |||
  fieldW 7 1 (b2n e.d) ||| fieldW 8 1 (b2n e.lock) ||| fieldW 9 2 e.size ||| fieldW 12 36 e.ppn
def tlbpWord2 (e : S2E) : Word :=
  fieldW 0 1 1 ||| fieldW 1 1 (b2n e.r) ||| fieldW 2 1 (b2n e.w) ||| fieldW 3 1 (b2n e.x) |||
  fieldW 8 1 (b2n e.lock) ||| fieldW 9 2 e.size ||| fieldW 12 36 e.ppn

/-- TLBP (R204). -/
def execTlbp (core rd rs1 : Nat) (s : State) : Res :=
  let r1 := (s.core core).rx rs1
  let bad := getF r1 ⟨0, 3⟩ != 0 || getF r1 ⟨5, 7⟩ != 0
  .next (s.sysInst core .s (encR false 1 rd rs1 0) bad (getB r1 4) false (fun s =>
    let c := s.core core
    let a := r1.toNat % 2 ^ 48 / 4096 * 4096
    let v : Word :=
      if getB r1 4 then match c.s2Lookup c.pid a with
        | some k => (match c.s2At k with | some e => tlbpWord2 e | none => 0)
        | none => 0
      else
        let t := c.tlbTag (getB r1 3)
        match c.tlbLookup t.1 t.2 a with
        | some k => (match c.tlbAt k with | some e => tlbpWord e | none => 0)
        | none => 0
    if c.blockedBy [rs1, rd] false false then s
    else (s.sysDone core { srcs := [rs1], dsts := [rd], steps := 3, lat := 3 }).modCore core (·.wx rd v)))

/-! ### TLBI and TLBIB (R205, R206, R213 to R215) -/

/-- The invalidation that the operands ask of every core: the owner is the one the selector names at the issuing core. -/
def Core.mkInv (c : Core) (n : Nat) (r1 r2 : Word) : TlbInv :=
  { rs1 := r1, rs2 := r2, owner := if c.level == .s || getB r2 5 then .part c.pid else .hyp, issuer := n }

/-- Whether a page of `size` at page number `pn` has a byte in the range of an invalidation (R206). -/
def invInRange (i : TlbInv) (size pn : Nat) : Bool :=
  let lo := i.rs1.toNat % 2 ^ 48 / 4096 * 4096
  let hi := lo + getF i.rs2 ⟨32, 16⟩ * 4096
  decide (pn * 2 ^ pageShift size < hi) && decide (lo < (pn + 1) * 2 ^ pageShift size)

/-- Whether a stage-1 entry is invalidated (R205). Scopes 0 and 2 take entries tagged with the ASID and G = 0; 1 and 3 take the global ones too. -/
def invHits (i : TlbInv) (e : TlbE) : Bool :=
  let sc := getF i.rs2 ⟨0, 3⟩
  let asid := getF i.rs2 ⟨16, 16⟩
  !getB i.rs2 3 && (getB i.rs2 4 || !e.lock) &&
  (match sc with
   | 0 => e.owner == i.owner && e.asid == asid && !e.g && invInRange i e.size e.vpn
   | 1 => e.owner == i.owner && invInRange i e.size e.vpn
   | 2 => e.owner == i.owner && e.asid == asid && !e.g
   | 3 => e.owner == i.owner
   | 4 => true
   | _ => false)

/-- Whether a stage-2 entry is invalidated (R205). -/
def invHits2 (i : TlbInv) (e : S2E) : Bool :=
  let sc := getF i.rs2 ⟨0, 3⟩
  let own := i.owner == .part e.part
  getB i.rs2 3 && (getB i.rs2 4 || !e.lock) &&
  (match sc with
   | 0 => own && invInRange i e.size e.gpn
   | 1 => own && invInRange i e.size e.gpn
   | 2 => own
   | 3 => own
   | 4 => true
   | _ => false)

/-- Remove the stage-1 and stage-2 entries that tests pick, with their L1 copies (R197, R206). -/
def Core.tlbRemove (c : Core) (p1 : TlbE → Bool) (p2 : S2E → Bool) : Core :=
  let d1 := (c.tlb.filter (fun e => match e.2 with | some x => p1 x | none => false)).map (·.1)
  let d2 := (c.s2.filter (fun e => match e.2 with | some x => p2 x | none => false)).map (·.1)
  let c1 := d1.foldl (fun c k => (c.setTlb k none).dropCopies1 k) c
  d2.foldl (fun c k => (c.setS2 k none).dropCopies2 k) c1

/-- Invalidate at one core. -/
def Core.invalidate (c : Core) (i : TlbInv) : Core := c.tlbRemove (invHits i) (invHits2 i)

/-- Reserved bits and scopes of the selector (R201, R205), and what S may not ask (R206). -/
def invBad (r2 : Word) : Bool := getF r2 ⟨6, 10⟩ != 0 || getF r2 ⟨48, 16⟩ != 0 || decide (5 ≤ getF r2 ⟨0, 3⟩)
def invLow (r2 : Word) : Bool := getB r2 3 || getF r2 ⟨0, 3⟩ == 4 || getB r2 4

/-- TLBI (R206). -/
def execTlbi (core rs1 rs2 : Nat) (s : State) : Res :=
  let r1 := (s.core core).rx rs1
  let r2 := (s.core core).rx rs2
  .next (s.sysInst core .s (encR false 2 0 rs1 rs2) (invBad r2) (invLow r2) false (fun s =>
    let c := s.core core
    if c.blockedBy [rs1, rs2] false false then s
    else (s.setCore core (c.invalidate (c.mkInv core r1 r2))).sysDone core { srcs := [rs1, rs2], steps := 4, lat := 0 }))

/-- The cores a TLBIB goes to: every present one (R213). -/
def State.presentCores (s : State) : List Nat := (List.range 128).filter s.hasCore

/-- A core that answers for itself: the breakwater acknowledges for one that is off or in retention, or whose endpoint is fenced, dead or behind a FAILED link
(R214, R289). -/
def State.coreAnswers (s : State) (r k : Nat) : Bool :=
  s.canReach r (epCore k) && s.answers (epCore k) && (match (s.core k).run with | .off => false | .retain => false | _ => true)

/-- TLBIB (R213): its stores drain, then the invalidation goes to every present core. -/
def execTlbib (core rs1 rs2 : Nat) (s : State) : Res :=
  let r1 := (s.core core).rx rs1
  let r2 := (s.core core).rx rs2
  .next (s.sysInst core .s (encR false 3 0 rs1 rs2) (invBad r2) (invLow r2) true (fun s =>
    let c := s.core core
    if c.blockedBy [rs1, rs2] false false || !s.mayInject core || c.castAcks != 0 then s
    else
      let q := s.drainN core c.stores.length
      if !q.1 then q.2
      else
        let i := c.mkInv core r1 r2
        let all := s.presentCores
        let s1 := q.2.modCore core (fun c => { (c.issue { srcs := [rs1, rs2], alone := true, lat := 0 }) with tlbib := some { waiting := all } })
        s1.sendAll (all.map (fun k => if s.coreAnswers (coreRouter core) k then Msg.tlbib k i else Msg.tlbibAck core k))))

/-- TLBIB_RECEIPT (R213 to R215): matching entries and copies go at once; the acknowledgement is sent when the stores retired before the receipt have drained
and the accesses under way have been performed. A core in HALT or checkstopped acknowledges by itself. -/
def execTlbibReceipt (core : Nat) (inv : TlbInv) (s : State) : Res :=
  let s1 := s.recv (.tlbib core inv)
  .next ((s1.modCore core (fun c => { (c.invalidate inv) with tlbRecv := c.tlbRecv ++ [inv] })).ackTlb core)

/-- TLBIB_COMPLETE (R213): an acknowledgement arrives; with the last one the TLBIB completes and retires. -/
def execTlbibComplete (core acker : Nat) (s : State) : Res :=
  let s1 := s.recv (.tlbibAck core acker)
  .next (s1.modCore core (fun c => match c.tlbib with
    | none => c
    | some w =>
      let left := w.waiting.filter (· != acker)
      if left.isEmpty then
        let c1 : Core := { c with tlbib := none, slack := { c.slack with hold := max c.slack.hold (c.slack.step + 3) } }
        ((c1.accessEvents false c.isSlack).discard).seq 4
      else { c with tlbib := some { waiting := left } }))

/-! ### TWP (R207) -/

/-- The entry's address, and whether stage 2 translates it. -/
def Core.twpAddr (c : Core) (r1 r2 : Word) : Nat × Bool :=
  let lv := getF r2 ⟨0, 2⟩
  let idx := r2.toNat / 2 ^ (12 + 9 * lv) % 512
  (r1.toNat / 4096 * 4096 + 8 * idx, if c.level == .s then c.stage2 .s else getB r2 2)

/-- The checks of R207 in order: a trap, or the physical address. An address that is not 48 bits wide breaks R190. -/
def State.twpCheck (s : State) (n : Nat) (r1 r2 : Word) : Except TrapInfo Nat :=
  let c := s.core n
  let q := c.twpAddr r1 r2
  let lv := getF r2 ⟨0, 2⟩
  let st := if q.2 then 2 else 1
  let fin (pa : Nat) : Except TrapInfo Nat :=
    if isDevice (regionOf pa) then .error ⟨0x12, BitVec.ofNat 64 pa, tinfo st lv 3 false, false⟩
    else if !s.populated pa 8 then .error ⟨0x05, BitVec.ofNat 64 pa, tinfo st lv 3 false, false⟩
    else if regionOf pa == .coreCast (s.ownWindow n) || (s.reachable (coreRouter n) pa && s.memAnswers (coreRouter n) pa) then .ok pa
    else .error ⟨0x05, BitVec.ofNat 64 pa, tinfo st lv 3 false, true⟩
  if q.1 / 2 ^ 48 ≠ 0 then .error ⟨0x05, BitVec.ofNat 64 q.1, if q.2 then tinfo 2 3 3 false else tinfo 0 0 3 false, false⟩
  else if q.2 then
    match c.s2Lookup c.pid q.1 with
    | none => .error ⟨0x10, BitVec.ofNat 64 q.1, tinfo 2 lv 3 false, false⟩
    | some k => match c.s2At k with
      | none => .error ⟨0x10, BitVec.ofNat 64 q.1, tinfo 2 lv 3 false, false⟩
      | some e => if e.r then fin (frameAddr e.ppn e.size q.1) else .error ⟨0x13, BitVec.ofNat 64 q.1, tinfo 2 lv 3 false, false⟩
  else fin q.1

/-- Eight bytes of memory, coherently, allocating nothing (R207). -/
def State.coherentRead (s : State) (pa n : Nat) : List Byte × List Bool :=
  match regionOf pa with
  | .dram => let q := s.newest (pa / 64); (lineSlice q.1 (pa % 64) n, poisonAt q.2 (pa % 64) n)
  | _ => (s.bytes pa n, (List.range n).map (fun i => s.isPoison (pa + i)))

/-- TWP (R207): `bad` is an uncorrectable error of the read. Older stores of the core to the entry are seen, since TWP is the oldest instruction (R201) and
stores drain before it reads. -/
def execTwp (core rd rs1 rs2 : Nat) (bad : Bool) (s : State) : Res :=
  let r1 := (s.core core).rx rs1
  let r2 := (s.core core).rx rs2
  .next (s.sysInst core .s (encR false 4 rd rs1 rs2) (getF r2 ⟨3, 9⟩ != 0) false true (fun s =>
    let c := s.core core
    if c.blockedBy [rd, rs1, rs2] false false then s
    else match s.twpCheck core r1 r2 with
      | .error t => s.raiseT core t
      | .ok pa =>
        let local_ := regionOf pa == .coreCast (s.ownWindow core)
        if !local_ && (!s.mayInject core || (regionOf pa == .dram && s.homesHeld)) then s
        else if !local_ && s.ebbRefused core then s.raiseT core ⟨0x05, BitVec.ofNat 64 pa, tinfo (if (c.twpAddr r1 r2).2 then 2 else 1) (getF r2 ⟨0, 2⟩) 3 false, true⟩
        else
          let q := s.drainN core (overlapDepth c.stores [(pa, 8)])
          if !q.1 then q.2
          else
            let v := q.2.coherentRead pa 8
            if bad || v.2.any id then q.2.machineCheck core 2 true (some pa) c.part c.pc
            else
              let f := if c.isSlack then q.2.choose (2 ^ 32) else (0, q.2)
              let s1 := f.2.modCore core (fun c => (c.issue { srcs := [rs1, rs2], dsts := [rd], steps := 1 + f.1, lat := f.1 + 3, alone := true }).discard)
              s1.modCore core (fun c => ((c.wx rd (BitVec.ofNat 64 (leWord v.1))).accessEvents false true).seq 4)))

/-! ### PAUSE.SLACK, HLT and TRET -/

/-- PAUSE.SLACK (R113, R185): it waits for older instructions and for the stores to drain. -/
def execPauseSlack (core : Nat) (s : State) : Res :=
  .next (s.inst core 4 (fun s =>
    let c := s.core core
    if !c.stores.isEmpty || c.blockedBy [] true false then s
    else s.modCore core (fun c => (c.issue { alone := true, clear := true, lat := 0 }).seq 4)))

/-- HLT's effect (R113, R184): once the store buffer is empty the core is in HALT; an interrupt that is already pending wakes it at once. -/
def State.hlt (s : State) (core : Nat) : State :=
  s.sysInst core .h (encR true 2 0 0 0) false false false (fun s =>
    let c := s.core core
    if !c.stores.isEmpty then s
    else (s.modCore core (fun c => { ((c.issue { alone := true, lat := 0 }).seq 4) with run := .halt })).wakeHalt core)

/-- The offset of the slot TRET returns through (R181). -/
def Core.tretOff (c : Core) : Word := c.rx 2 - c.csrv (c.level.base + 9)

/-- The slot of TRET lies in the populated part of the own cast window (R26, R181). -/
def State.tretPop (s : State) (n : Nat) : Bool := decide ((s.core n).tretOff.toNat + 256 ≤ s.corePop (s.ownWindow n))

/-- The checks of R181, in order: the offset, the PLV of the slot's STATUS word, the populated part of the own cast window. `free` is the PLV that an
unpopulated slot is read as. -/
def State.tretCheck (s : State) (n free : Nat) : Option TrapInfo :=
  let c := s.core n
  let b := c.level.base
  let f := c.tretOff.toNat
  let w := castBase (s.ownWindow n) + f
  let enc := encR true 1 0 0 0
  if f % 256 ≠ 0 ∨ f < (c.csrv (b + 8)).toNat ∨ (c.csrv (b + 7)).toNat < f + 256 then some ⟨0x02, enc, 0, false⟩
  else if c.level.num < (if s.tretPop n then getF (s.word (w + 8)) ⟨1, 2⟩ else free) then some ⟨0x02, enc, 0, false⟩
  else if !s.tretPop n then some ⟨0x05, c.csrv (b + 9) + c.tretOff, tinfo 0 0 1 false, false⟩
  else none

/-- STATUS as TRET restores it: the writable bits, MCA only at F (R162, R181). -/
def restoreStatus (l : Level) (w : Word) : Word := w &&& (if l = .f then 0x1_3F07 else 0x3F07)

/-- The restored state (R173, R181). The partition in effect follows from the level (R156); a change of level, and so of context, follows R146. The
handler of 0x15 ends where its slot returns (R67). -/
def Core.tretRestore (c : Core) (epc st : Word) (regs : List Word) : Core :=
  let l := c.level
  let c1 := (frameRegs.zip regs).foldl (fun c q => c.wx q.1 q.2) (c.setCsr l.base (restoreStatus l st))
  let d := match c.slipDepth with | some 0 => none | some 1 => none | some (k + 2) => some (k + 1) | none => none
  { c1 with pc := epc &&& ~~~ 1, level := levelOf (getF st ⟨1, 2⟩), slipDepth := d, resv := none, resvAge := 0 }.discard.contextFrom c

/-- TRET (R113, R181, R535). -/
def execTret (core : Nat) (s : State) : Res :=
  .next (s.sysInst core .s (encR true 1 0 0 0) false false false (fun s =>
    let c := s.core core
    if !c.stores.isEmpty || c.blockedBy [] true false then s
    else
      -- the STATUS word of a slot that is not populated has no content: its PLV is free
      let q := if s.tretPop core then (0, s) else s.draw 2
      match q.2.tretCheck core q.1.toNat with
      | some t => q.2.raiseT core t
      | none =>
        let w := castBase (s.ownWindow core) + c.tretOff.toNat
        let read := [0, 8] ++ (List.range 13).map (fun i => 0x28 + 8 * i)
        match (read.flatMap (fun o => (List.range 8).map (fun i => w + o + i))).find? s.isPoison with
        | some a => s.machineCheck core 1 true (some a) c.part c.pc
        | none =>
          let regs := (List.range 13).map (fun i => s.word (w + 0x28 + 8 * i))
          s.modCore core (fun c => ((c.issue { alone := true, clear := true, steps := 12, lat := 0 }).retire 1).tretRestore
            (s.word w) (s.word (w + 8)) regs)))

end Sys2Proof.Machine
end

