-- ==== Sys2Proof/Machine/Entry.lean ====
section
/-!
DEFINITION. Recognition of interrupts and the steps of an entry (R130, R170 to R180, R184): the takeover window, the point of no return with the slot's
check and write, and the completion that starts the handler.
-/
namespace Sys2Proof.Machine

/-- Whether a core can recognise an interrupt, a waiting machine check or a waiting slip now (R130, R180). -/
def State.atBoundary (s : State) (n : Nat) : Bool :=
  let c := s.core n
  s.hasCore n && (c.run == .run || c.run == .halt) && c.entry.isNone && c.switch.isNone && c.pairCopy.isNone && !c.csrBit C.pairctl 3 && !c.midway

/-- INTERRUPT_RECOGNITION (R130, R170, R171, R184): a waiting machine check comes first, then a waiting 0x15, then the interrupt that R171 selects. -/
def execInterruptRecognition (core : Nat) (s : State) : Res :=
  let c := s.core core
  .next (if !s.atBoundary core then s
  else match c.mcPending with
    | some i => s.takeMc core i c.pc 0
    | none =>
      if c.slipPending then s.raise core 0x15 0 0
      else if c.run = .halt then s.wakeHalt core
      else match s.selectInt core c.level with
        | some q => s.startEntry core (c.intEntry c.level c.pc [] q)
        | none => s)

/-- TIMER_COMPARE_REACHED (R164, R184): the timer's interrupt is pending from now on; a core in HALT for which it suffices wakes. -/
def execTimerCompareReached (core : Nat) (h : Bool) (s : State) : Res :=
  let cmp := (s.core core).csrv (if h then C.hTimecmp else C.sTimecmp)
  .next (if cmp.toNat ≤ s.now then s.wakeHalt core else s)

/-- ENTRY_TAKEOVER (R177): before the point of no return a waiting machine check takes over any entry, and an interrupt that R171 places first, judged at the
level the entry started from, takes over an entry for an interrupt. -/
def execEntryTakeover (core : Nat) (s : State) : Res :=
  let c := s.core core
  .next (match c.entry with
    | none => s
    | some e =>
      if e.slot.isSome then s
      else match c.mcPending with
        | some i => s.takeMc core i e.epc 0
        | none => match e.kind with
          | .interrupt code src num => match s.selectInt core e.from_ with
            | some q => if c.before q (code, e.prio, src, num) then s.setCore core { c with entry := some (c.intEntry e.from_ e.epc e.late q) } else s
            | none => s
          | .exception => s
          | .machineCheck => s)

/-- Accept the interrupt of an entry (R178, R486): for codes 0x05 and 0x06 the acceptance is sent and the offer is gone. -/
def State.accept (s : State) (n : Nat) (k : EntryKind) : State :=
  match k with
  | .interrupt code src num =>
    if code = 5 ∨ code = 6 then
      (s.modCore n (fun c => { c with offers := c.offers.filter (fun o => !(o.code == code && o.src == src && o.num == num)) })).send (.acceptance n code src num)
    else s
  | .exception => s
  | .machineCheck => s

/-- ENTRY_POINT_OF_NO_RETURN (R172 to R179): the slot is chosen and checked, the interrupt accepted, the slot written; stores that had left the buffer since
step 0 and lie in the slot are performed after it. An invalid slot gives KIND 0x05, at F a checkstop. -/
def execEntryPointOfNoReturn (core : Nat) (s : State) : Res :=
  let c := s.core core
  .next (match c.entry with
    | none => s
    | some e =>
      if e.slot.isSome then s
      else
        let top := c.slotTop e.target e.from_
        let own := castBase (s.ownWindow core)
        if !s.slotValid core e.target top then
          if e.target = .f then s.checkstop core
          else
            let s1 := s.modCore core (·.passSteps 21)
            let a := (BitVec.ofNat 64 (own + top) - 256).toNat
            s1.takeMc core (mkMc c 5 false (some a) e.target c.part) e.epc 0
        else
          let off := top - 256
          let s1 := (s.accept core e.kind).setWords (own + off) (c.slotWords e)
          let s2 := s1.castTouched (some core) (own + off) 144
          let late := e.late.filter (fun x => x.overlaps (own + off) 144)
          let s3 := late.foldl (fun s x => s.performStore core x) s2
          s3.modCore core (fun c => { c with entry := some { e with slot := some off, late := [] } }))

/-- T_STATUS after an entry (R174). -/
def entryStatus (st : Word) (e : EntrySt) : Word :=
  let s1 := setF st ⟨1, 2⟩ e.from_.num
  match e.kind with
  | .interrupt _ _ _ => setF s1 ⟨8, 6⟩ e.prio
  | .machineCheck => setB s1 16 true
  | .exception => s1

/-- F_MCINFO (R186). -/
def mcinfoWord (i : McInfo) : Word :=
  fieldW 0 8 i.kind ||| fieldW 8 1 (b2n i.sync) ||| fieldW 9 1 (b2n i.addrv) ||| fieldW 10 2 i.level ||| fieldW 12 2 i.scope ||| fieldW 16 6 i.part

/-- What the core holds when the first handler instruction issues (R174). -/
def Core.enter (c : Core) (e : EntrySt) (off : Nat) : Core :=
  let b := e.target.base
  let sp := c.csrv (b + 9) + BitVec.ofNat 64 off
  let c1 := ((((c.setCsr (b + 2) e.epc).setCsr (b + 1) e.cause).setCsr (b + 3) e.tval).setCsr (b + 4) e.tinfo).setCsr b (entryStatus (c.csrv b) e)
  let c2 := match e.mc with
    | some i => (c1.setCsr C.fMcinfo (mcinfoWord i)).setCsr C.fMcaddr (BitVec.ofNat 64 i.addr)
    | none => c1
  let c3 := (((c2.wx 2 sp).wx 10 sp).wx 11 e.cause).wx 12 e.tval
  let pc := if e.kind = .machineCheck then c.csrv C.fMcvec else c.csrv (b + 5)
  { c3 with level := e.target, pc := pc, entry := none, slipDepth := c.slipDepth.map (· + 1) }.discard.contextFrom c

/-- ENTRY_COMPLETE (R174, R176): step 23. -/
def execEntryComplete (core : Nat) (s : State) : Res :=
  let c := s.core core
  .next (match c.entry with
    | none => s
    | some e => match e.slot with
      | none => s
      | some off => s.setCore core ((c.enter e off).passSteps 24))

end Sys2Proof.Machine
end

