-- ==== Sys2Proof/Machine/Errors.lean ====
section
/-!
DEFINITION. The error aggregator (chapter 20): leaky buckets (R547, R548), unit logs (R550), the chip log (R551 to R554), its lines (R556), the run-time
self-test (R558) and error injection (R559, R560).
-/
namespace Sys2Proof.Machine

/-! ### Units (R548, R549) -/

/-- The bucket classes of a unit (R548): how many, from class 0. -/
def unitClasses (u : Nat) : Nat :=
  if u < 0x80 then 6 else if u < 0xC0 then 4 else if u < 0xCC then 2 else if u < 0xCE then 1
  else if 0xD0 ≤ u ∧ u < 0xD4 then 1 else if u = unitHif ∨ u = unitSvc then 1
  else if 0x100 ≤ u ∧ u < 0x130 then 1 else if 0x140 ≤ u ∧ u < 0x190 then 4 else 0

/-- Whether a unit is present (R4, R549). -/
def State.unitPresent (s : State) (u : Nat) : Bool :=
  if u < 0x80 then s.hasCore u else if u < 0xC0 then s.hasTile (u - 0x80) else if u < 0xCC then s.hasMc (u - 0xC0)
  else if u < 0xCE then s.hasFe (u - 0xCC) else if 0xD0 ≤ u ∧ u < 0xD4 then s.hasLdl (u - 0xD0)
  else if u = unitHif ∨ u = unitSvc ∨ u = unitPace then true
  else if 0x100 ≤ u ∧ u < 0x130 then s.hasQuad ((u - 0x100) / 4)
  else decide (0x140 ≤ u ∧ u < 0x190)

/-- The endpoints of a unit (R274), and its power domain (R564). -/
def unitEps (u : Nat) : List Nat :=
  if u < 0x80 then [epCore u] else if u < 0xC0 then [epSlice (u - 0x80)] else if u < 0xCC then [epMc (u - 0xC0)]
  else if u < 0xCE then [epFe (u - 0xCC)] else if 0xD0 ≤ u ∧ u < 0xD4 then [epLdl (u - 0xD0)]
  else if u = unitHif then [epHif] else if u = unitSvc then [epSvc] else []
def unitDom (u : Nat) : Nat :=
  if u < 0x80 then u else if u < 0xC0 then 128 + (u - 0x80) else if u < 0xCC then 192 + (u - 0xC0)
  else if u < 0xCE then 216 + (u - 0xCC) else if 0xD0 ≤ u ∧ u < 0xD4 then 218 + (u - 0xD0)
  else if u = unitHif then 222 else if 0x100 ≤ u ∧ u < 0x130 then 204 + (u - 0x100) / 4
  else if u = unitSvc then 224 else 223

/-! ### Records (R551 to R554, R556) -/

/-- The four words of a record (R553). -/
def mkRec (e : ErrEvent) (sev detail : Nat) : LogRec :=
  { w0 := BitVec.ofNat 64 e.time,
    w1 := fieldW 0 9 e.unit ||| fieldW 16 3 e.cls ||| fieldW 24 8 sev ||| fieldW 32 6 (e.part.getD 0) ||| fieldW 38 1 (b2n e.part.isSome) |||
          fieldW 39 1 (b2n e.inj) ||| fieldW 40 8 e.kind ||| fieldW 48 16 detail,
    w2 := BitVec.ofNat 64 (e.addr % 2 ^ 48), w3 := BitVec.ofNat 64 e.loc }

/-- The aggregator line that a severity sets (R556); severity 0 sets line 0 only where IE = 1. -/
def sevLine (sev : Nat) : Option Nat :=
  match sev with
  | 1 => some 1 | 2 => some 2 | 3 => some 3 | 4 => some 3 | 5 => some 4 | 7 => some 4 | 10 => some 4 | 6 => some 5
  | _ => none

/-- Set the event bit of a line. -/
def State.setLine (s : State) (k : Nat) : State := s.setBit Reg.ERR_LINESTAT k true

/-- Records written and not consumed (R551). -/
def State.logFill (s : State) : Nat := diff32 (s.reg Reg.ERR_LOGHEAD).toNat (s.reg Reg.ERR_LOGTAIL).toNat

/-- Append a record: dropped and counted, with line 6, when 128 are unread (R551). -/
def State.appendRec (s : State) (r : LogRec) : State :=
  if s.logFill = 128 then (s.bump Reg.ERR_LOGDROP ⟨0, 32⟩ 1).setLine 6
  else
    let h := (s.reg Reg.ERR_LOGHEAD).toNat
    ({ s with errlog := Tbl.set (fun _ => {}) s.errlog (h % 128) r }).setReg Reg.ERR_LOGHEAD (BitVec.ofNat 64 ((h + 1) % 2 ^ 32))

/-- A corrected event in its bucket (R547): COUNT and TOTAL rise, CE is set, and passing THRESH sets OVER and writes a record of severity 0. A class that the
unit does not have never counts (R548). -/
def State.bucketEvent (s : State) (e : ErrEvent) : State :=
  if unitClasses e.unit ≤ e.cls then s
  else
    let a := Reg.ERR_BKT e.unit e.cls
    let s1 := ((s.bump a F.ERR_BKT_COUNT 1).bump a F.ERR_BKT_TOTAL 1).setFlag (Reg.ERR_USTAT e.unit) F.ERR_USTAT_CE true
    let n := s1.fld a F.ERR_BKT_COUNT
    if s1.fld a F.ERR_BKT_THRESH < n ∧ s1.flag a F.ERR_BKT_OVER = false then
      let s2 := (s1.setFlag a F.ERR_BKT_OVER true).appendRec (mkRec e 0 n)
      if s2.flag a F.ERR_BKT_IE then s2.setLine 0 else s2
    else s1

/-- An uncorrectable or failure event in the unit log (R550): the first after UE was cleared freezes the details, a later one sets MULTI. -/
def State.ueEvent (s : State) (e : ErrEvent) (sev : Nat) : State :=
  let a := Reg.ERR_USTAT e.unit
  let s1 := s.bump (Reg.ERR_UCNT e.unit) F.ERR_UCNT_UE 1
  if s.flag a F.ERR_USTAT_UE then s1.setFlag a F.ERR_USTAT_MULTI true
  else
    let r0 := s1.reg a
    let r1 := setF (setF (setF (setF (setF (setF r0 F.ERR_USTAT_UE 1) F.ERR_USTAT_CLASS e.cls) F.ERR_USTAT_SEV sev) F.ERR_USTAT_PART (e.part.getD 0))
      F.ERR_USTAT_SCOPE (if sev = 2 then e.scope else 0)) F.ERR_USTAT_INJ (b2n e.inj)
    ((s1.setReg a r1).setReg (a + 8) (BitVec.ofNat 64 (e.addr % 2 ^ 48))).setReg (a + 16) (BitVec.ofNat 64 e.time)

/-- An event of a severity (R550, R554, R556). Severity 6 sets STFAIL; 7 and 8 have counts of their own in the unit log; the others are the unit's
uncorrectable and failure events. -/
def State.sevEvent (s : State) (e : ErrEvent) (v : Nat) : State :=
  let s1 :=
    if v = 6 then s.setFlag (Reg.ERR_USTAT e.unit) F.ERR_USTAT_STFAIL true
    else if v = 7 then s
    else if v = 8 then s.bump (Reg.ERR_UCNT e.unit) F.ERR_UCNT_PEBB 1
    else s.ueEvent e v
  let s2 := s1.appendRec (mkRec e v e.detail)
  match sevLine v with
  | some k => s2.setLine k
  | none => s2

/-- An event reaches its bucket, unit log and the chip log. -/
def State.recordEvent (s : State) (e : ErrEvent) : State :=
  match e.sev with
  | none => s.bucketEvent e
  | some v => s.sevEvent e v

/-- An uncorrectable byte that a checker finds is rewritten as poisoned where it stands (R530): in a core's L2 or cast ways, in a slice's line or cast ways. -/
def State.foundPoison (s : State) (u c : Nat) (sev : Option Nat) (addr : Nat) : State :=
  if sev ≠ some 1 then s
  else if u < 0x80 then
    (match c, regionOf addr with
     | 3, .dram => s.poisonByte u addr
     | 4, .coreCast k => if k = u then s.poisonByte u addr else s
     | _, _ => s)
  else if u < 0xC0 then
    (match c, regionOf addr with
     | 0, .dram => s.modSlice (u - 0x80) (fun x => match x.find (addr / 64) with
         | some v => x.place (addr / 64) (some { v with poison := setB v.poison (addr % 64) true })
         | none => x)
     | 2, .sharedCast t => if t = u - 0x80 then s.poisonByte u addr else s
     | _, _ => s)
  else s

/-- ERROR_RECORD (R552): events of one instant are recorded in ascending unit number, so an event waits for those before it. -/
def execErrorRecord (occ : ErrOcc) (s : State) : Res :=
  .next (match occ with
    | .queued i => match s.errq[i]? with
      | none => s
      | some e =>
        if s.errq.any (fun x => x.time == e.time && decide (x.unit < e.unit)) then s
        else { s with errq := s.errq.eraseIdx i }.recordEvent e
    | .found u c sev part addr loc detail =>
      if s.unitPresent u then
        (s.foundPoison u c sev addr).recordEvent { time := s.now, unit := u, cls := c, sev := sev, part := part, addr := addr, loc := loc, detail := detail }
      else s)

/-- BUCKET_LEAK (R547). -/
def execBucketLeak (unit cls : Nat) (s : State) : Res :=
  .next (if cls < unitClasses unit then
    let a := Reg.ERR_BKT unit cls
    s.setFld a F.ERR_BKT_COUNT (s.fld a F.ERR_BKT_COUNT - 1)
  else s)

/-- ERR_LOGTAIL_WRITE (R551): a value outside [old TAIL, HEAD] is ignored. -/
def execErrLogtailWrite (value : Word) (s : State) : Res :=
  let v := value.toNat % 2 ^ 32
  let old := (s.reg Reg.ERR_LOGTAIL).toNat
  .next (if diff32 v old ≤ s.logFill then s.setReg Reg.ERR_LOGTAIL (BitVec.ofNat 64 v) else s)

/-! ### Error injection (R559, R560) -/

/-- Whether a unit has a structure of a class and kind (R527, R548, R560). -/
def State.injectable (s : State) (u c k : Nat) : Bool :=
  s.unitPresent u &&
  (if k = 6 then decide (u < 0x80) && u % 2 == 0 && s.fuse.pair
   else if u < 0x80 then (if c < 3 then k == 3 else c < 6 && k < 3)
   else if u < 0xC0 then (if c = 0 ∨ c = 2 then k < 3 else c < 4 && k == 3)
   else if u < 0xCC then c == 0 && (k == 7 || k == 8)
   else if u < 0xD4 then c == 0 && k < 3
   else if u = unitSvc then c == 0 && k < 3
   else decide (0x140 ≤ u) && c < 4 && (k == 4 || k == 5))

/-- The code that refuses an ARM, in the order of R560. -/
def State.injRefusal (s : State) (v : Word) : Option Nat :=
  let k := getF v F.ERR_INJCTL_KIND
  let u := getF v F.ERR_INJCTL_UNIT
  if s.flag Reg.ERR_INJCTL F.ERR_INJCTL_LOCK then some 1
  else if s.unitPresent u = false ∨ (k ≤ 8 ∧ s.injectable u (getF v F.ERR_INJCTL_CLASS) k = false) then some 2
  else if s.armed then some 3
  else if getF v F.ERR_INJCTL_COUNT = 0 ∨ 8 < k ∨ getF v F.ERR_INJCTL_TRIG = 3 then some 4
  else none

/-- ERR_INJ_ARM (R560): accepted, the write's fields take effect and the injection is armed with no trigger made; refused, only REJ and REJCODE change. -/
def execErrInjArm (value : Word) (s : State) : Res :=
  let a := Reg.ERR_INJCTL
  .next (match s.injRefusal value with
    | some k => (s.setFlag a F.ERR_INJCTL_REJ true).setFld a F.ERR_INJCTL_REJCODE k
    | none => (((s.writeReg a 8 value).setFlag a F.ERR_INJCTL_ARM true).setFlag Reg.ERR_INJSTAT F.ERR_INJSTAT_ARMED true).setFld
        Reg.ERR_INJSTAT F.ERR_INJSTAT_MADE 0)

/-- ERR_INJ_CANCEL (R560). -/
def execErrInjCancel (s : State) : Res := .next s.disarm

/-! ### Run-time self-test (R558) -/

/-- Whether GO for a unit is refused. A unit that the numbering leaves out or that is absent has no checker to test. -/
def State.stRefused (s : State) (u : Nat) : Bool :=
  decide (0x140 ≤ u) || u == unitSvc || u == unitPace || !s.unitPresent u ||
  (unitEps u).any (fun k => s.epState k != epFenced) || !s.domRun (unitDom u) || s.flag Reg.ERR_STCTL F.ERR_STCTL_GO

/-- SELF_TEST_GO (R558): GO reads 1 while the test runs. -/
def execSelfTestGo (unit : Nat) (s : State) : Res :=
  let a := Reg.ERR_STCTL
  .next (if s.stRefused unit then s.setFlag a F.ERR_STCTL_REJ true
    else (s.setFld a F.ERR_STCTL_UNIT unit).setFlag a F.ERR_STCTL_GO true)

/-- SELF_TEST_COMPLETE (R557, R558). -/
def execSelfTestComplete (failing : Option Nat) (s : State) : Res :=
  let a := Reg.ERR_STCTL
  let u := s.fld a F.ERR_STCTL_UNIT
  .next (if s.flag a F.ERR_STCTL_GO then
    let s1 := (s.setFlag a F.ERR_STCTL_GO false).setFlag Reg.ERR_STSTAT F.ERR_STSTAT_DONE true
    match failing with
    | none => (s1.setFlag Reg.ERR_STSTAT F.ERR_STSTAT_PASS true).setFlag (Reg.ERR_USTAT u) F.ERR_USTAT_STFAIL false
    | some i => (s1.setFlag Reg.ERR_STSTAT F.ERR_STSTAT_PASS false).detect { unit := u, sev := some 6, detail := i }
  else s)

end Sys2Proof.Machine
end

