-- ==== Sys2Proof/Machine/Cast.lean ====
section
/-!
DEFINITION. Casting (R222 to R228) and the range maintenance engines (R230 to R237).
-/
namespace Sys2Proof.Machine

/-! ### Casting -/

/-- The address of a cast-count register, its largest count, the size of its ways, and the base of its window (R222 to R224). -/
def castAddr : CastReg → Nat
  | .left t => Reg.TILE_LCAST t | .right t => Reg.TILE_RCAST t | .slc t => Reg.SLC_CAST t
def castMax : CastReg → Nat
  | .left _ => 6 | .right _ => 6 | .slc _ => 8
def castWay : CastReg → Nat
  | .left _ => 0x1_0000 | .right _ => 0x1_0000 | .slc _ => 0x2_0000
def castWindow : CastReg → Nat
  | .left t => castBase (2 * t) | .right t => castBase (2 * t + 1) | .slc t => slcCastBase t
def castTile : CastReg → Nat
  | .left t => t | .right t => t | .slc t => t
def castCore : CastReg → Option Nat
  | .left t => some (2 * t) | .right t => some (2 * t + 1) | .slc _ => none

/-- The rejection of a write that would change the count (R225), none where it is accepted. -/
def State.castReject (s : State) (r : CastReg) (w : Nat) : Option Nat :=
  if castMax r < w then some 1
  else if (match castCore r with | some n => (s.core n).isSlack || (s.core n).paired | none => false) then some 2
  else if s.flag (castAddr r) F.TILE_LCAST_BUSY then some 3
  else none

/-- CAST_COUNT_WRITE (R225 to R227): the change starts, or REJ and REJCODE are set. -/
def execCastCountWrite (reg : CastReg) (value : Word) (s : State) : Res :=
  let a := castAddr reg
  let w := getF value F.TILE_LCAST_WAYS
  .next (if !s.hasTile (castTile reg) then s
  else
    let s1 := if getF value F.TILE_LCAST_REJ = 1 then s.setFlag a F.TILE_LCAST_REJ false else s
    if w = s.fld a F.TILE_LCAST_WAYS then s1
    else match s.castReject reg w with
      | some k => (s1.setFlag a F.TILE_LCAST_REJ true).setFld a F.TILE_LCAST_REJCODE k
      | none => (s1.setFld a F.TILE_LCAST_WAYS w).setFlag a F.TILE_LCAST_BUSY true)

/-- Announce and remove the lines of core `n`'s L2 that stand in ways `[lo, hi)` (R226). -/
def State.emptyL2Ways (s : State) (n lo hi : Nat) : State :=
  ((s.core n).l2.filter (fun e => e.2.st != .i && decide (lo ≤ e.2.way) && decide (e.2.way < hi))).foldl
    (fun s e => (s.flushLine n e.1 e.2).modCore n (fun c => (c.setL2 e.1 {}).dropL1 e.1)) s

/-- Write back and remove the lines of slice `t` in ways `[lo, hi)`. -/
def State.emptySliceWays (s : State) (t lo hi : Nat) : State :=
  (s.slice t).lines.foldl (fun s e => match e.2 with
    | some v => if lo ≤ v.way ∧ v.way < hi then s.sliceDrop t e.1 true else s
    | none => s) s

/-- CAST_CHANGE_COMPLETE (R226, R227): lines evicted, the ways zeroed, CUR takes the count. -/
def execCastChangeComplete (reg : CastReg) (s : State) : Res :=
  let a := castAddr reg
  let c := s.fld a F.TILE_LCAST_CUR
  let w := s.fld a F.TILE_LCAST_WAYS
  .next (if s.flag a F.TILE_LCAST_BUSY then
    let s1 := if c < w then (match reg with
        | .left t => s.emptyL2Ways (2 * t) c w
        | .right t => s.emptyL2Ways (2 * t + 1) c w
        | .slc t => s.emptySliceWays t c w) else s
    let s2 := s1.zeroRange (castWindow reg + min c w * castWay reg) ((max c w - min c w) * castWay reg)
    (s2.setFld a F.TILE_LCAST_CUR w).setFlag a F.TILE_LCAST_BUSY false
  else s)

/-! ### Maintenance engines -/

/-- The registers of an engine stand at the same distances from MNTADDR for both kinds (R231). -/
def mntBase (slice : Bool) (t : Nat) : Nat := if slice then Reg.SLC_MNTADDR t else Reg.TILE_MNTADDR t
def mntStat (slice : Bool) (t : Nat) : Nat := mntBase slice t + 0x18
def mntCnt (slice : Bool) (t : Nat) : Nat := mntBase slice t + 0x20
def mntErr (slice : Bool) (t : Nat) : Nat := mntBase slice t + 0x28

/-- The queue of an engine. -/
def State.mntQ (s : State) (slice : Bool) (t : Nat) : List MntReq :=
  if slice then (s.slice t).mnt else Tbl.get (fun _ => []) s.tileMnt t

/-- Replace the queue; BUSY and QDEPTH follow (R233). -/
def State.setMntQ (s : State) (slice : Bool) (t : Nat) (q : List MntReq) : State :=
  let s1 := if slice then s.modSlice t (fun x => { x with mnt := q }) else { s with tileMnt := Tbl.set (fun _ => []) s.tileMnt t q }
  (s1.setFlag (mntStat slice t) F.TILE_MNTSTAT_BUSY (!q.isEmpty)).setFld (mntStat slice t) F.TILE_MNTSTAT_QDEPTH q.length

/-- Record an error: the details are frozen while ERROR = 1 (R233, R237). -/
def State.mntError (s : State) (slice : Bool) (t code tag addr : Nat) : State :=
  let a := mntStat slice t
  if s.flag a F.TILE_MNTSTAT_ERROR then s
  else (((s.setFlag a F.TILE_MNTSTAT_ERROR true).setFld a F.TILE_MNTSTAT_ECODE code).setFld a F.TILE_MNTSTAT_ERRTAG tag).setReg (mntErr slice t)
    (BitVec.ofNat 64 (addr / 64 * 64 % 2 ^ 48))

/-- A completion: DONE, LASTTAG, MNTCNT (R233, R234). -/
def State.mntDone (s : State) (slice : Bool) (t tag : Nat) : State :=
  ((s.setFlag (mntStat slice t) F.TILE_MNTSTAT_DONE true).setFld (mntStat slice t) F.TILE_MNTSTAT_LASTTAG tag).bump (mntCnt slice t) ⟨0, 16⟩ 1

/-- The region of R24 as the rule on spanning counts them (R237): the windows of all slices are one region, and so are those of all cores. -/
def regionKind (a : Nat) : Nat :=
  match regionOf a with
  | .dram => 0 | .pcie => 1 | .sharedCast _ => 2 | .coreCast _ => 3 | .mailbox _ => 4 | .control => 5 | .undecoded => 6

/-- A submission (R232, R234, R237). -/
def State.mntSubmit (s : State) (slice : Bool) (t op tag : Nat) : State :=
  let addr := (s.reg (mntBase slice t)).toNat % 2 ^ 48
  let len := (s.reg (mntBase slice t + 8)).toNat % 2 ^ 43
  let q := s.mntQ slice t
  if !s.hasTile t then s
  else if 3 < op then s.mntError slice t 4 tag 0
  else if len = 0 then s.mntDone slice t tag
  else if 2 ^ 48 < addr + len ∨ regionKind addr ≠ regionKind (addr + len - 1) then s.mntError slice t 2 tag 0
  else if 4 ≤ q.length then s.setFlag (mntStat slice t) F.TILE_MNTSTAT_OVF true
  else s.setMntQ slice t (q ++ [{ op := op, tag := tag, addr := addr, len := len }])

def execMntClean (slice : Bool) (t tag : Nat) (s : State) : Res := .next (s.mntSubmit slice t 0 (tag % 256))
def execMntInvalidate (slice : Bool) (t tag : Nat) (s : State) : Res := .next (s.mntSubmit slice t 1 (tag % 256))
def execMntCleanAndInvalidate (slice : Bool) (t tag : Nat) (s : State) : Res := .next (s.mntSubmit slice t 2 (tag % 256))
def execMntZero (slice : Bool) (t tag : Nat) (s : State) : Res := .next (s.mntSubmit slice t 3 (tag % 256))

/-- The end of a run of populated DRAM from `p`, at most `hi`: whole decode regions that follow one another (R307). -/
def State.dramRun (s : State) (hi : Nat) : Nat → Nat → Nat
  | 0, p => p
  | n + 1, p =>
    if hi ≤ p then p
    else match s.regions.find? (fun g => covering g && decide (rgnLo g ≤ p) && decide (p < rgnHi g)) with
      | some g => s.dramRun hi n (rgnHi g)
      | none => p

/-- The end of what the engine accepts of `[lo, hi)` (R230, R236, R237): below `hi` there is an error of code 0x1 there. -/
def State.mntAccept (s : State) (slice : Bool) (t op lo hi : Nat) : Nat :=
  match regionOf lo with
  | .dram => if slice = false ∧ op = 3 then lo else min hi (s.dramRun hi 9 lo)
  | .sharedCast u => if slice = true ∧ u = t then max lo (min hi (slcCastBase t + s.slicePop t)) else lo
  | .coreCast n =>
    if slice = true ∨ n / 2 ≠ t then lo
    else
      -- the windows of the tile's cores stand next to each other; the left one's populated part ends the run below its end
      max lo (min hi (castBase n + s.corePop n))
  | _ => lo

/-- What a maintenance operation has met: the first poisoned line, and the line whose write-back the breakwater refused. -/
structure MntRun where
  s : State
  poison : Option Nat := none
  refused : Option Nat := none

/-- One operation on one L2 line of core `n` by the tile engine: clean writes it back and keeps it, invalidate discards it. -/
def mntL2Line (clean inval : Bool) (r : MntRun) (n l : Nat) : MntRun :=
  let s := r.s
  let v := (s.core n).l2line l
  if v.st = .i ∨ r.refused.isSome = true then r
  else if clean && v.st == .m && !(s.canReach (coreRouter n) (epSlice (s.home l)) && s.answers (epSlice (s.home l))) then { r with refused := some l }
  else
    let s1 := if clean && v.st == .m then
        (s.sliceFill (s.home l) l 0 v.data v.poison true).modCore n (·.setL2 l { v with st := .e }) else s
    let s2 := if inval then (s1.flushLine n l { v with st := .s }).modCore n (fun c => (c.setL2 l {}).dropL1 l) else s1
    { r with s := s2, poison := if clean && v.st == .m && v.poison != 0 && r.poison.isNone then some l else r.poison }

/-- One operation on one line homed at slice `t`, in every cache (R230). -/
def mntHomeLine (clean inval : Bool) (t : Nat) (r : MntRun) (l : Nat) : MntRun :=
  let s := r.s
  let q := s.newest l
  if r.refused.isSome then r else
  let dirtyL2 := s.cores.any (fun e => (e.2.l2line l).st == .m || (match e.2.ev l with | some x => x.dirty && !x.superseded | none => false))
  let dirtySl := match (s.slice t).find l with | some v => v.dirty | none => false
  if clean && (dirtyL2 || dirtySl) && !s.dramBoth (tileRouter t) (64 * l) then { r with refused := some l } else
  let s1 := if clean && (dirtyL2 || dirtySl) then
      let s2 := s.mapCores (fun _ c => let v := c.l2line l; if v.st = .m then c.setL2 l { v with st := .e } else c)
      let s3 := s2.modSlice t (fun x => match x.find l with | some v => x.place l (some { v with dirty := false, data := q.1, poison := q.2 }) | none => x)
      (s3.dramWrite l q.1 q.2).countWb t
    else s
  let s2 := if inval then (s1.purge l).modSlice t (·.place l none) else s1
  { r with s := s2, poison := if clean && (dirtyL2 || dirtySl) && q.2 != 0 && r.poison.isNone then some l else r.poison }

/-- Zero on one DRAM line, where it is homed at slice `t` (R230). -/
def mntZeroLine (t : Nat) (r : MntRun) (l : Nat) : MntRun :=
  if r.s.home l ≠ t ∨ r.refused.isSome = true then r
  else if !r.s.dramBoth (tileRouter t) (64 * l) then { r with refused := some l }
  else { r with s := (((r.s.purge l).modSlice t (·.place l none)).dramWrite l 0 0).countWb t }

/-- Lines that any cache of the chip lists, in `[lo, hi)` of line numbers, in rising order. -/
def State.cachedLines (s : State) (cores : List Nat) (slices : List Nat) (lo hi : Nat) : List Nat :=
  let a := cores.flatMap (fun n => (s.core n).l2.map (·.1) ++ (s.core n).evb.map (·.1))
  let b := slices.flatMap (fun t => (s.slice t).lines.map (·.1))
  (((a ++ b).filter (fun l => decide (lo ≤ l) && decide (l < hi))).mergeSort).eraseDups

/-- Run a request over the accepted lines (R230, R235). -/
def State.mntRun (s : State) (slice : Bool) (t : Nat) (q : MntReq) (lo hi : Nat) : MntRun :=
  let clean := q.op == 0 || q.op == 2
  let inval := q.op == 1 || q.op == 2
  match regionOf (64 * lo) with
  | .dram =>
    if slice then
      if q.op = 3 then
        ((List.range (hi - lo)).map (lo + ·)).foldl (fun (r : MntRun) l => mntZeroLine t r l) { s := s }
      else
        ((s.cachedLines (s.cores.map (·.1)) [t] lo hi).filter (fun l => s.home l == t)).foldl (fun r l => mntHomeLine clean inval t r l) { s := s }
    else
      (s.cachedLines [2 * t, 2 * t + 1] [] lo hi).foldl (fun r l => mntL2Line clean inval (mntL2Line clean inval r (2 * t) l) (2 * t + 1) l) { s := s }
  | _ => if q.op = 3 then { s := (s.zeroRange (64 * lo) (64 * (hi - lo))).castTouched none (64 * lo) (64 * (hi - lo)) } else { s := s }

/-- MNT_REQUEST_COMPLETE (R234 to R237): the oldest request of the engine is carried out and ends. -/
def execMntRequestComplete (slice : Bool) (t : Nat) (s : State) : Res :=
  .next (match s.mntQ slice t with
    | [] => s
    | q :: rest =>
      let lo := q.addr / 64
      let hi := (q.addr + q.len + 63) / 64
      let acc := s.mntAccept slice t q.op (64 * lo) (64 * hi) / 64
      let r := s.mntRun slice t q lo acc
      let s1 := match r.refused with
        | some l => r.s.mntError slice t 5 q.tag (64 * l)
        | none =>
          if acc < hi then r.s.mntError slice t 1 q.tag (64 * acc)
          else match r.poison with
            | some l => r.s.mntError slice t 3 q.tag (64 * l)
            | none => r.s
      (s1.setMntQ slice t rest).mntDone slice t q.tag)

end Sys2Proof.Machine
end

