-- ==== Sys2Proof/Machine/Home.lean ====
section
/-!
DEFINITION. The home slices: requests, snoops, transactions, victimisation, retry and promotion, broadcast mode and rebuild, device accesses (R248 to R266),
and the change of the home set (R244 to R247).
-/
namespace Sys2Proof.Machine

/-! ### Small parts -/

def grantedState : Granted → Mesif
  | .e => .e | .f => .f | .m => .m
def stateGranted (g : Mesif) : Mesif := g

/-- Send a snoop to core `c`; the breakwater answers with InvAck for a core that is off, in retention, fenced or dead (R214, R258, R297). -/
def State.snoop (s : State) (k : Snp) (h l q c : Nat) : State :=
  if s.coreAnswers (tileRouter h) c then s.send (.snp k h l c q) else s.send (.invAck h l c)

/-- Snoop each core of a list. -/
def State.snoopAll (s : State) (k : Snp) (h l q : Nat) (cs : List Nat) : State := cs.foldl (fun s c => s.snoop k h l q c) s

/-- Change the open transaction of a line. -/
def State.modTxn (s : State) (h l : Nat) (f : Txn → Txn) : State :=
  s.modSlice h (fun x => match x.txn l with | some t => x.setTxn l (some (f t)) | none => x)

/-- The entry of a directory key (16 × set + way). -/
def Slice.dirAt (x : Slice) (key : Nat) : Option DirE := Tbl.get (fun _ => none) x.dir key

/-- An entry is idle when its line has no open transaction (R250, R260). -/
def Slice.idle (x : Slice) (key : Nat) : Bool := match x.dirAt key with | some e => (x.txn e.line).isNone | none => true

/-- The free way that a new entry takes: the lowest-numbered one, way 15 only while unclaimed (R251, R260, R262). -/
def Slice.freeWay (x : Slice) (set : Nat) : Option Nat :=
  ((List.range 16).filter (fun w => w != 15 || !x.claims.contains set)).find? (fun w => (x.dirAt (16 * set + w)).isNone)

/-- The idle entries that may be victimised (R260). -/
def Slice.victims (x : Slice) (set : Nat) : List Nat :=
  (List.range 16).filter (fun w => (w != 15 || !x.claims.contains set) && (x.dirAt (16 * set + w)).isSome && x.idle (16 * set + w))

/-! ### Opening a transaction -/

/-- A new entry for the request of a core in a free way: the core is its owner, and takes the line in E for a read, in M otherwise (R254, row Free). -/
def State.openFresh (s : State) (h l key : Nat) (req : HomeReq) : State :=
  match req with
  | .core k c _ _ => s.modSlice h (fun x =>
      (x.setDir (key / 16) (key % 16) (some { line := l, em := true, sharers := addSharer 0 c, fcore := none })).setTxn l
        (some { req := req, give := if k = .rds then .e else .m }))
  | .devRd _ => s
  | .devWr _ _ _ _ _ => s

/-- Victimise the entry at `key` for a new line (R260): snoops go to its holders, and the new line's request waits. -/
def State.victimise (s : State) (h key l : Nat) (req : HomeReq) : State :=
  match (s.slice h).dirAt key with
  | none => s.openFresh h l key req
  | some e =>
    let hs := sharersOf e.sharers
    let own := if e.em then hs.head? else none
    let t : Txn := { req := req, await := hs, needData := e.em, owner := own, victimFor := some (key, l, req) }
    let s1 := (s.modSlice h (fun x => (x.setTxn e.line (some t)).setTxn l (some { req := req, waitsWay := true }))).bump (Reg.DIR_VICTCNT h) ⟨0, 32⟩ 1
    s1.snoopAll (if e.em then .r else .i) h e.line 0 hs

/-- A request that finds no way: Retry with its hint, or, promoted, a claim on way 15 (R261, R262). -/
def State.refuseReq (s : State) (h l : Nat) (req : HomeReq) : State :=
  match req with
  | .core _ c n _ =>
    let x := s.slice h
    if 8 ≤ n ∧ x.promo.length < 16 then
      let cl := if x.claims.contains (dirSet l) then x.claims else x.claims ++ [dirSet l]
      s.setSlice h { x with promo := x.promo ++ [{ line := l, req := req }], claims := cl }
    else (s.send (.retry c l (min n 7))).bump (Reg.DIR_RETRYCNT h) ⟨0, 32⟩ 1
  | .devRd _ => s
  | .devWr _ _ _ _ _ => s

/-- A core's request for a line without an entry (R260). -/
def State.openNew (s : State) (h l : Nat) (req : HomeReq) : State :=
  let x := s.slice h
  let set := dirSet l
  match x.freeWay set with
  | some w => s.openFresh h l (16 * set + w) req
  | none =>
    let v := x.victims set
    if v.isEmpty then s.refuseReq h l req
    else let q := s.choose v.length; q.2.victimise h (16 * set + v.getD q.1 0) l req

/-- A core's request for a line with an entry (R254). -/
def State.openHeld (s : State) (h l : Nat) (req : HomeReq) (k : ReqKind) (c w : Nat) (e : DirE) : State :=
  let hs := sharersOf e.sharers
  let others := hs.filter (· != c)
  let put (d : DirE) (t : Txn) (s : State) : State := s.modSlice h (fun x => (x.setDir (dirSet l) w (some d)).setTxn l (some t))
  if e.em then
    match others with
    | o :: _ =>
      if k = .rds then
        (put { e with em := false, sharers := addSharer e.sharers c, fcore := some c } { req := req, fwd := some o, owner := some o, give := .f } s).snoop .f h l c o
      else (put { e with sharers := addSharer 0 c } { req := req, fwd := some o, owner := some o } s).snoop .x h l c o
    | [] => put e { req := req, give := if k = .rds then .e else .m } s
  else
    let f := match e.fcore with | some f => if f = c then none else some f | none => none
    match k with
    | .rds =>
      let d := { e with sharers := addSharer e.sharers c, fcore := some c }
      match f with
      | some f => (put d { req := req, fwd := some f, give := .f } s).snoop .f h l c f
      | none => put d { req := req, give := .f } s
    | _ =>
      let d : DirE := { e with em := true, sharers := addSharer 0 c, fcore := none }
      if k = .upg ∧ hs.contains c = true then (put d { req := req, await := others, grant := true } s).snoopAll .i h l c others
      else match f with
        | some f =>
          let rest := others.filter (· != f)
          ((put d { req := req, await := rest, fwd := some f } s).snoopAll .i h l c rest).snoop .x h l c f
        | none => (put d { req := req, await := others } s).snoopAll .i h l c others

/-- A device request (R254, R263). -/
def State.openDev (s : State) (h l : Nat) (req : HomeReq) (write : Bool) : State :=
  match (s.slice h).dirOf l with
  | none => s.modSlice h (·.setTxn l (some { req := req }))
  | some (w, e) =>
    let hs := sharersOf e.sharers
    if write then
      let own := if e.em then hs.head? else none
      (s.modSlice h (fun x => (x.setDir (dirSet l) w none).setTxn l (some { req := req, await := hs, needData := e.em, owner := own }))).snoopAll
        (if e.em then .r else .i) h l 0 hs
    else if e.em then
      (s.modSlice h (fun x => (x.setDir (dirSet l) w (some { e with em := false, fcore := hs.head? })).setTxn l
        (some { req := req, await := hs, needData := true, owner := hs.head? }))).snoopAll .d h l 0 hs
    else s.modSlice h (·.setTxn l (some { req := req }))

/-- A request in broadcast mode: its snoop goes to every present core but the requester (R264). -/
def State.openBcast (s : State) (h l : Nat) (req : HomeReq) : State :=
  let all := s.presentCores
  let go (k : Snp) (q : Nat) (t : Txn) (cs : List Nat) : State :=
    (((s.modSlice h (·.setTxn l (some { t with await := cs, bcast := true }))).snoopAll k h l q cs).bump (Reg.DIR_BCASTCNT h) ⟨0, 32⟩ 1)
  match req with
  | .core k c _ _ => go (if k = .rds then .f else .x) c { req := req, give := if k = .rds then .f else .m } (all.filter (· != c))
  | .devRd _ => go .d 0 { req := req } all
  | .devWr _ _ _ _ _ => go .r 0 { req := req } all

/-- Open a transaction for a request whose line has none. -/
def State.openReq (s : State) (h l : Nat) (req : HomeReq) : State :=
  let x := s.slice h
  let set := dirSet l
  if x.bcast.contains set || x.failed.contains set then s.openBcast h l req
  else match req with
    | .core k c _ _ => match x.dirOf l with
      | some (w, e) => s.openHeld h l req k c w e
      | none => s.openNew h l req
    | .devRd _ => s.openDev h l req false
    | .devWr _ _ _ _ _ => s.openDev h l req true

/-! ### Closing -/

/-- Replace the bytes that a mask names. -/
def maskWrite (d nd : Line) (p np mask : Word) : Line × Word :=
  (List.range 64).foldl (fun q i => if getB mask i then lineWrite q.1 q.2 i [lineByte nd i] [getB np i] else q) (d, p)

/-- The holders that the answers of a broadcast have shown (R264): the L2s that hold the line now. -/
def State.holders (s : State) (l : Nat) : List (Nat × Mesif) :=
  s.cores.filterMap (fun e => let v := e.2.l2line l; if v.st = .i then none else some (e.1, v.st))

/-- The directory entry that a set of holders makes. -/
def entryOf (l : Nat) (hs : List (Nat × Mesif)) : Option DirE :=
  if hs.isEmpty then none
  else
    let f := (hs.find? (fun x => x.2 == .f)).map (·.1)
    some { line := l, em := hs.any (fun x => x.2 == .e || x.2 == .m), sharers := hs.foldl (fun v x => addSharer v x.1) 0, fcore := f }

/-- After a broadcast the home forms the entry, where the set has a way for it. -/
def State.formEntry (s : State) (h l : Nat) : State :=
  s.modSlice h (fun x =>
    let e := entryOf l (s.holders l)
    match x.dirOf l with
    | some (w, _) => x.setDir (dirSet l) w e
    | none => match x.freeWay (dirSet l) with
      | some w => x.setDir (dirSet l) w e
      | none => x)

/-- Whether every answer of a transaction is in. -/
def Txn.answered (t : Txn) : Bool := t.await.isEmpty && !t.needData && t.fwd.isNone && !t.waitsWay

/-- What happens once the answers are in: true where the transaction has closed; the lines to look at next. -/
def State.finishTxn (s : State) (h l : Nat) (t : Txn) : Bool × List Nat × State :=
  let close (s : State) : State := s.modSlice h (·.setTxn l none)
  match t.victimFor with
  | some (key, l2, req2) =>
    -- the way is given to the new request
    (true, [l, l2], (close (s.modSlice h (fun x => (x.setDir (key / 16) (key % 16) none).setTxn l2 none))).openFresh h l2 key req2)
  | none => match t.req with
    | .core _ c _ p =>
      if t.got then (true, [l], let s1 := close s; if t.bcast then s1.formEntry h l else s1)
      else if t.sent then (false, [], s)
      else if t.grant then (false, [], (s.modTxn h l (fun t => { t with sent := true })).send (.grant c l))
      else
        let q := s.homeData h l p
        (false, [], (q.2.2.modTxn h l (fun t => { t with sent := true })).send (.data c l t.give q.1 q.2.1))
    | .devRd src =>
      let q := s.homeData h l 0
      (true, [l], let s1 := close (q.2.2.send (.dataDev src l q.1 q.2.1)); if t.bcast then s1.formEntry h l else s1)
    | .devWr src mask d po p =>
      let q := match (s.slice h).find l with
        | some v => (v.data, v.poison)
        | none => s.dramLine l
      let w := maskWrite q.1 d q.2 po mask
      (true, [l], let s1 := close ((s.sliceFill h l p w.1 w.2 true).send (.ackDev src l)); if t.bcast then s1.formEntry h l else s1)

/-- Serve the oldest promoted request of a set whose way 15 is free or idle (R262). -/
def State.servePromo (s : State) (h set : Nat) : Option (Nat × State) :=
  let x := s.slice h
  if !x.claims.contains set || !x.idle (16 * set + 15) then none
  else match x.promo.find? (fun p => dirSet p.line == set) with
    | none => none
    | some p =>
      let rest := x.promo.erase p
      let x1 := { x with promo := rest, claims := if rest.any (fun q => dirSet q.line == set) then x.claims else x.claims.erase set }
      let s1 := (s.setSlice h x1).bump (Reg.DIR_PROMOCNT h) ⟨0, 32⟩ 1
      if (x.txn p.line).isSome then some (p.line, s1.modSlice h (fun y => { y with waitq := y.waitq ++ [p] }))
      else if (x.dirOf p.line).isSome then some (p.line, s1.openReq h p.line p.req)
      else some (p.line, s1.victimise h (16 * set + 15) p.line p.req)

/-- Bring the transactions of a list of lines forward until each waits for an answer: close what is answered, then serve a promoted request, then the
oldest request waiting for the line (R256, R262). `fuel` bounds the requests served. -/
def State.advance (s : State) (h : Nat) : Nat → List Nat → State
  | 0, _ => s
  | _, [] => s
  | fuel + 1, l :: ls =>
    match (s.slice h).txn l with
    | some t =>
      if t.answered then
        let r := s.finishTxn h l t
        r.2.2.advance h fuel (if r.1 then r.2.1 ++ ls else ls)
      else s.advance h fuel ls
    | none => match s.servePromo h (dirSet l) with
      | some q => q.2.advance h fuel (q.1 :: l :: ls)
      | none => match (s.slice h).waitq.find? (fun w => w.line == l) with
        | some w => ((s.modSlice h (fun x => { x with waitq := x.waitq.erase w })).openReq h l w.req).advance h fuel (l :: ls)
        | none => s.advance h fuel ls

/-- Fuel enough for every request that waits at a home. -/
def State.homeFuel (s : State) (h : Nat) : Nat := 4 * ((s.slice h).waitq.length + (s.slice h).promo.length + (s.slice h).txns.length) + 16

/-- Bring one line forward. -/
def State.runLine (s : State) (h l : Nat) : State := s.advance h (s.homeFuel h) [l]

/-! ### Directory failure and rebuild (R264 to R266) -/

/-- Start the rebuild of a set: Prb to every present core. -/
def State.startRebuild (s : State) (h set : Nat) : State :=
  let all := s.presentCores
  let s1 := s.modSlice h (fun x => { x with rebuild := some (set, all) })
  let s2 := ((s1.setFlag (Reg.DIR_STAT h) F.DIR_STAT_REBUILDING true).setFld (Reg.DIR_STAT h) F.DIR_STAT_SET set).bump (Reg.DIR_REBUILDCNT h) ⟨0, 16⟩ 1
  s2.sendAll (all.map (fun c => if s.coreAnswers (tileRouter h) c then Msg.prb h set c else Msg.prbReport h set c))

/-- The entry of a line fails its check at lookup: it is discarded and its set enters broadcast mode; a second failure before the rebuild is complete marks
the set failed (R264 to R266). -/
def State.dirFailure (s : State) (h l : Nat) : State :=
  let set := dirSet l
  let s1 := (s.modSlice h (·.updDir l none)).corrected (unitSlice h) 1
  let x := s1.slice h
  if x.failed.contains set then s1
  else if x.bcast.contains set then
    let s2 := s1.modSlice h (fun x => { x with failed := x.failed ++ [set] })
    ((s2.setFlag (Reg.DIR_STAT h) F.DIR_STAT_FAILED true).bump (Reg.DIR_STAT h) F.DIR_STAT_NFAILED 1).detect
      { unit := unitSlice h, cls := 1, sev := some 5, loc := set }
  else
    let s2 := s1.modSlice h (fun x => { x with bcast := x.bcast ++ [set] })
    if x.rebuild.isSome then s2.modSlice h (fun x => { x with rebuildQ := x.rebuildQ ++ [set] }) else s2.startRebuild h set

/-- The combinations of R266 that are impossible: two E or M copies, one beside any other copy, two F copies. -/
def impossible (hs : List (Nat × Mesif)) : Bool :=
  let em := (hs.filter (fun x => x.2 == .e || x.2 == .m)).length
  decide (1 < em) || (em == 1 && decide (1 < hs.length)) || decide (1 < (hs.filter (fun x => x.2 == .f)).length)

/-- Recompute the entries of a set (R265, R266): impossible lines are poisoned at their home and invalidated; lines beyond 16 are victimised. -/
def State.recompute (s : State) (h set : Nat) : State :=
  let lines := ((s.cores.flatMap (fun e => e.2.l2.map (·.1))).filter (fun l => dirSet l == set && s.home l == h)).mergeSort.eraseDups
  let s0 := s.modSlice h (fun x => { x with dir := x.dir.filter (fun e => e.1 / 16 != set) })
  let r := lines.foldl (fun (q : Nat × State) l =>
    let hs := q.2.holders l
    if hs.isEmpty then q
    else if impossible hs then
      let v := q.2.newest l
      (q.1, (((q.2.purge l).sliceFill h l 0 v.1 0xFFFF_FFFF_FFFF_FFFF true)).failure (unitSlice h) 1 none (64 * l) 0)
    else if q.1 < 16 then (q.1 + 1, q.2.modSlice h (·.setDir set q.1 (entryOf l hs)))
    else
      let v := q.2.newest l
      let dirty := hs.any (fun x => x.2 == .m)
      let s1 := (q.2.purge l).bump (Reg.DIR_VICTCNT h) ⟨0, 32⟩ 1
      (q.1, if dirty then s1.sliceFill h l 0 v.1 v.2 true else s1)) (0, s0)
  r.2

/-- HOME_PRB_REPORT (R265): with the last report the entries are recomputed, the set leaves broadcast mode unless it has failed, and the next rebuild starts. -/
def execHomePrbReport (h set core : Nat) (s : State) : Res :=
  let s0 := s.recv (.prbReport h set core)
  .next (match (s0.slice h).rebuild with
    | none => s0
    | some (st, left) =>
      if st ≠ set then s0
      else
        let rest := left.filter (· != core)
        if !rest.isEmpty then s0.modSlice h (fun x => { x with rebuild := some (st, rest) })
        else
          let s1 := s0.recompute h set
          let s2 := s1.modSlice h (fun x => { x with rebuild := none, bcast := x.bcast.filter (fun y => y != set || x.failed.contains set) })
          let s3 := s2.setFlag (Reg.DIR_STAT h) F.DIR_STAT_REBUILDING false
          match (s3.slice h).rebuildQ with
          | n :: q => (s3.modSlice h (fun x => { x with rebuildQ := q })).startRebuild h n
          | [] => s3)

/-! ### Requests and notices at the home -/

/-- Slice tag copies that fail (R532): one is rewritten from the other; both lose the way's data, severity 5 where it was dirty. -/
def State.tagCheck (s : State) (h l k : Nat) : State :=
  if k = 0 then s
  else if k = 1 then s.corrected (unitSlice h) 3
  else match (s.slice h).find l with
    | none => s
    | some v =>
      let s1 := s.modSlice h (·.place l none)
      if v.dirty then s1.detect { unit := unitSlice h, cls := 3, sev := some 5, loc := dirSet l + 65536 * v.way } else s1

/-- The triggers of an armed injection at a lookup of the home (R548, R559): class 3 a tag copy, class 1 the line's directory entry, class 0 the line's data
in the slice. -/
def State.injectHome (s : State) (h l : Nat) : State :=
  if s.armed then
    let u := unitSlice h
    let s1 := if s.injKind u 3 (some (64 * l)) = some 3 then (s.markInj (s.tagCheck h l 1)).injTriggered else s
    let s2 := if s1.injKind u 1 (some (64 * l)) = some 3 ∧ ((s1.slice h).dirOf l).isSome ∧ ((s1.slice h).txn l).isNone
      then (s1.markInj (s1.dirFailure h l)).injTriggered else s1
    match (s2.slice h).find l, s2.injKind u 0 (some (64 * l)) with
    | some v, some k => s2.injectOwner u 0 (64 * l) none k (fun s => s.modSlice h (·.place l (some { v with poison := setB v.poison 0 true })))
    | _, _ => s2
  else s

/-- A request reaches its home: checks of the lookup, then it waits for an open transaction or opens one (R254, R256). -/
def State.homeReq (s : State) (h l : Nat) (req : HomeReq) (env : HomeEnv) : State :=
  if s.home l ≠ h ∨ s.hasTile h = false then s
  else
    let s1 := (s.tagCheck h l env.tagFail).injectHome h l
    let s2 := if env.dirFail && ((s1.slice h).txn l).isNone then s1.dirFailure h l else s1
    if ((s2.slice h).txn l).isSome then s2.modSlice h (fun x => { x with waitq := x.waitq ++ [{ line := l, req := req }] })
    else (s2.openReq h l req).runLine h l

def execHomeRds (h line core n part : Nat) (env : HomeEnv) (s : State) : Res :=
  .next ((s.recv (.req h line core .rds n part)).homeReq h line (.core .rds core n part) env)
def execHomeRdx (h line core n part : Nat) (env : HomeEnv) (s : State) : Res :=
  .next ((s.recv (.req h line core .rdx n part)).homeReq h line (.core .rdx core n part) env)
def execHomeUpg (h line core n part : Nat) (env : HomeEnv) (s : State) : Res :=
  .next ((s.recv (.req h line core .upg n part)).homeReq h line (.core .upg core n part) env)
def execHomeDevrd (h line src part : Nat) (env : HomeEnv) (s : State) : Res :=
  .next ((s.recv (.devRd h line src part)).homeReq h line (.devRd src) env)
def execHomeDevwr (h line src : Nat) (mask : Word) (data : Line) (poison : Word) (part : Nat) (env : HomeEnv) (s : State) : Res :=
  .next ((s.recv (.devWr h line src mask data poison part)).homeReq h line (.devWr src mask data poison part) env)

/-- Remove a core from an entry; the entry is freed with its last sharer (R254). -/
def dirDrop (d : DirE) (c : Nat) : Option DirE :=
  let sh := delSharer d.sharers c
  if sh = 0 then none else some { d with sharers := sh, fcore := if d.fcore = some c then none else d.fcore }

/-- HOME_EVC (R254, R256): the sender leaves an entry that lists it; EvictAck either way. -/
def execHomeEvc (h line core : Nat) (s : State) : Res :=
  let s0 := s.recv (.evc h line core)
  let s1 := s0.modSlice h (fun x => match x.dirOf line with
    | some (w, d) => if (sharersOf d.sharers).contains core && !(d.em && (x.txn line).isSome) then x.setDir (dirSet line) w (dirDrop d core) else x
    | none => x)
  .next (s1.send (.evictAck core line))

/-- HOME_EVD (R254, R256, R259): the owner's data goes into the slice and the entry is freed; a sender that the entry does not name as owner gets EvictAck
only, and its data is discarded. -/
def execHomeEvd (h line core : Nat) (data : Line) (poison : Word) (s : State) : Res :=
  let s0 := s.recv (.evd h line core data poison)
  let s1 := match (s0.slice h).dirOf line with
    | some (w, d) =>
      let owner := d.em && (sharersOf d.sharers).contains core
      let mine := match (s0.slice h).txn line with | some t => t.victimFor.isSome | none => true
      if owner && mine then (s0.sliceFill h line (s0.core core).part data poison true).modSlice h (·.setDir (dirSet line) w none) else s0
    | none => s0
  .next (s1.send (.evictAck core line))

/-- HOME_INVACK (R254, R255, R258): the answer is taken off the list; where a forward was asked of its sender the home supplies the data itself, poisoned
where the sender owned the line and its tile is dead. -/
def execHomeInvack (h line core : Nat) (s : State) : Res :=
  let s0 := s.recv (.invAck h line core)
  .next (match (s0.slice h).txn line with
    | none => s0
    | some t =>
      let own := t.owner == some core
      let dead := own && s0.epState (epCore core) == epDead
      let s1 := if dead then
          (s0.sliceFill h line 0 (s0.newest line).1 0xFFFF_FFFF_FFFF_FFFF true).failure (unitSlice h) 1 none (64 * line) 0 else s0
      let upd (t : Txn) : Txn :=
        let f := if t.fwd = some core then none else t.fwd
        { t with await := t.await.erase core, fwd := f, needData := t.needData && !own }
      (s1.modTxn h line upd).runLine h line)

/-- HOME_DATA (R254): data of a downgrade, a recall or a forwarded M copy reaches the home and is written into the slice. -/
def execHomeData (h line core : Nat) (data : Line) (poison : Word) (dirty : Bool) (s : State) : Res :=
  let s0 := s.recv (.dataHome h line core data poison dirty)
  .next (match (s0.slice h).txn line with
    | none => s0
    | some _ =>
      let s1 := s0.sliceFill h line (s0.core core).part data poison dirty
      (s1.modTxn h line (fun t => { t with await := t.await.erase core, needData := false })).runLine h line)

/-! ### Snoops at an L2 (R252, R259) -/

/-- Snoops to a reserved line wait until the SC executes or 16 instructions have retired (R85). -/
def Core.defers (c : Core) (l : Nat) : Bool := c.resv == some l && decide (c.resvAge < 16)

/-- A line of the eviction buffer has answered a snoop: its notice is superseded (R259). -/
def Core.supersede (c : Core) (l : Nat) : Core :=
  match c.ev l with | some x => c.setEv l (some { x with superseded := true }) | none => c

/-- An L2 supplies the requester: the home counts a forward, and waits for the data of a dirty copy of a shared read too (R252, R273). -/
def State.supply (s : State) (h l c q : Nat) (g : Mesif) (d : Line) (p : Word) (home : Bool) : State :=
  let s1 := (s.send (.data q l g d p)).bump (Reg.SLC_FWDCNT h) ⟨0, 32⟩ 1
  let s2 := if home then s1.send (.dataHome h l c d p true) else s1
  s2.modTxn h l (fun t =>
    let aw := if t.bcast then t.await.erase c else t.await
    { t with sent := true, needData := t.needData || home, await := aw })

/-- A forward snoop (SnpF where `x` is false, SnpX where it is true). -/
def State.fwdSnoop (s : State) (h l c q : Nat) (x lost : Bool) : State :=
  let k := s.core c
  let v := k.l2line l
  let g : Mesif := if x then .m else .f
  let toI (c : Core) : Core := (c.setL2 l {}).dropL1 l
  let down (c : Core) : Core := if x then toI c else c.setL2 l { v with st := .s }
  match v.st with
  | .i => match k.ev l with
    | some e =>
      let s1 := s.setCore c (k.supersede l)
      if e.dirty then s1.supply h l c q g e.data e.poison (!x) else s1.send (.invAck h l c)
    | none => if lost then s.supply h l c q g 0 0xFFFF_FFFF_FFFF_FFFF false else s.send (.invAck h l c)
  | .s => (s.setCore c (if x then toI k else k)).send (.invAck h l c)
  | .f => (s.setCore c (down k)).supply h l c q g v.data v.poison false
  | .e => (s.setCore c (down k)).supply h l c q g v.data v.poison false
  | .m => (s.setCore c (down k)).supply h l c q g v.data v.poison (!x)

/-- L2_SNPF (R252): an L2 that defers the snoop leaves it in flight. -/
def execL2Snpf (h line core req : Nat) (lost : Bool) (s : State) : Res :=
  .next (if (s.core core).defers line then s else (s.recv (.snp .f h line core req)).fwdSnoop h line core req false lost)

/-- L2_SNPX (R252). -/
def execL2Snpx (h line core req : Nat) (lost : Bool) (s : State) : Res :=
  .next (if (s.core core).defers line then s else (s.recv (.snp .x h line core req)).fwdSnoop h line core req true lost)

/-- L2_SNPI (R252): the copy and the L1 copies go. -/
def execL2Snpi (h line core : Nat) (s : State) : Res :=
  .next (if (s.core core).defers line then s
  else
    let q := match s.net.find? (fun m => match m with | .snp .i h' l' c' _ => h' == h && l' == line && c' == core | _ => false) with
      | some m => s.recv m | none => s
    (q.modCore core (fun c => ((c.setL2 line {}).dropL1 line).supersede line)).send (.invAck h line core))

/-- A snoop that asks for the data at the home (SnpD keeps a copy in F, SnpR none). -/
def State.homeSnoop (s : State) (h l c : Nat) (keep lost : Bool) : State :=
  let k := s.core c
  let v := k.l2line l
  match v.st with
  | .i => match k.ev l with
    | some e =>
      let s1 := s.setCore c (k.supersede l)
      if e.dirty then s1.send (.dataHome h l c e.data e.poison true) else s1.send (.invAck h l c)
    | none => if lost then s.send (.dataHome h l c 0 0xFFFF_FFFF_FFFF_FFFF true) else s.send (.invAck h l c)
  | .s => (s.setCore c (if keep then k else (k.setL2 l {}).dropL1 l)).send (.invAck h l c)
  | _ =>
    let k1 := if keep then k.setL2 l { v with st := .f } else (k.setL2 l {}).dropL1 l
    (s.setCore c k1).send (.dataHome h l c v.data v.poison (v.st == .m))

/-- L2_SNPD and L2_SNPR (R252). -/
def execL2Snpd (h line core : Nat) (lost : Bool) (s : State) : Res :=
  .next (if (s.core core).defers line then s else (s.recv (.snp .d h line core 0)).homeSnoop h line core true lost)
def execL2Snpr (h line core : Nat) (lost : Bool) (s : State) : Res :=
  .next (if (s.core core).defers line then s else (s.recv (.snp .r h line core 0)).homeSnoop h line core false lost)

/-- L2_PRB (R265): the L2 scans its tags and reports. What it reports is read at the home from the line states (`recompute`). -/
def execL2Prb (h set core : Nat) (s : State) : Res := .next ((s.recv (.prb h set core)).send (.prbReport h set core))

/-! ### Answers at the requester -/

/-- The open transaction in which core `c` is the requester of a line. -/
def State.myTxn (s : State) (c l : Nat) : Option Txn :=
  match (s.slice (s.home l)).txn l with
  | some t => (match t.req with | .core _ k _ _ => if k = c then some t else none | .devRd _ => none | .devWr _ _ _ _ _ => none)
  | none => none

/-- The requester has its answer: the home's transaction goes on, accesses that waited for the line are performed, and further requests are sent. -/
def State.answered (s : State) (c l : Nat) : State :=
  let h := s.home l
  let s1 := match s.myTxn c l with
    | some _ => (s.modTxn h l (fun t => { t with got := true, sent := true, fwd := none })).runLine h l
    | none => s
  (s1.finishAmos c).pump c

/-- L2_DATA (R252, R255, R257): the line is filled in the granted state. M is entered only when every other sharer has acknowledged; an L2 whose eviction
buffer is full makes no fill that needs a victim. -/
def execL2Data (core line : Nat) (granted : Granted) (data : Line) (poison : Word) (s : State) : Res :=
  let c := s.core core
  let g := grantedState granted
  let acks := match s.myTxn core line with | some t => t.await.isEmpty | none => true
  .next (if (c.reqOf line).isNone || !c.evRoom || (g == .m && !acks) then s
  else
    let s1 := (s.recv (.data core line g data poison)).l2Fill core line g data poison
    (s1.modCore core (·.setReq line none)).answered core line)

/-- L2_GRANT (R252, R255). -/
def execL2Grant (core line : Nat) (s : State) : Res :=
  let c := s.core core
  let v := c.l2line line
  .next (if (c.reqOf line).isNone || v.st == .i then s
  else
    let s1 := s.recv (.grant core line)
    (s1.setCore core ((c.setL2 line { v with st := .m }).setReq line none)).answered core line)

/-- L2_EVICTACK (R257, R259): the buffer entry is free; requests for its line may be sent. -/
def execL2Evictack (core line : Nat) (s : State) : Res :=
  .next (((s.recv (.evictAck core line)).modCore core (·.setEv line none)).pump core)

/-- L2_RETRY (R261). -/
def execL2Retry (core line hint : Nat) (s : State) : Res :=
  .next ((s.recv (.retry core line hint)).modCore core (fun c => match c.reqOf line with
    | some r => c.setReq line (some { r with backoff := some hint })
    | none => c))

/-- RETRY_RESEND (R261): the backoff has passed; a request resent with n = 8 or more is promoted. -/
def execRetryResend (core line : Nat) (s : State) : Res :=
  let c := s.core core
  .next (match c.reqOf line with
    | none => s
    | some r =>
      if r.backoff.isNone || s.homesHeld then s
      else (s.setCore core (c.setReq line (some { r with n := r.n + 1, backoff := none }))).send
        (.req (s.home line) line core r.kind (r.n + 1) c.part))

/-! ### The home set (R244 to R247) -/

/-- The rejection of an APPLY (R245). -/
def State.homesetReject (s : State) : Option Nat :=
  let h := s.homeWanted
  if h = 0 then some 1
  else if (bitsOf h 64).any (fun t => !s.domRun (128 + t)) then some 2
  else if s.homesHeld then some 3 else none

/-- HOMESET_APPLY (R245, R246). -/
def execHomesetApply (s : State) : Res :=
  let a := Reg.CHIP_HOMECTL
  .next (match s.homesetReject with
    | some k => (s.setFlag a F.CHIP_HOMECTL_REJ true).setFld a F.CHIP_HOMECTL_REJCODE k
    | none => s.setFlag a F.CHIP_HOMECTL_APPLY true)

/-- Coherence messages under way: an open transaction is not complete while one is in flight. -/
def isCoherent : Msg → Bool
  | .req _ _ _ _ _ _ => true | .evc _ _ _ => true | .evd _ _ _ _ _ => true | .snp _ _ _ _ _ => true | .data _ _ _ _ _ => true
  | .dataHome _ _ _ _ _ _ => true | .invAck _ _ _ => true | .grant _ _ => true | .prb _ _ _ => true | .prbReport _ _ _ => true
  | .devRd _ _ _ _ => true | .devWr _ _ _ _ _ _ _ => true
  | _ => false

/-- HOMESET_CHANGE_COMPLETE (R246): once every transaction is complete, every cache is flushed, directories are emptied, and the new set takes over. -/
def execHomesetChangeComplete (s : State) : Res :=
  .next (if !s.homesHeld || s.net.any isCoherent || s.slices.any (fun e => !e.2.txns.isEmpty) then s
  else
    let s1 := s.cores.foldl (fun s e => s.flushCore e.1) s
    let s2 := s1.slices.foldl (fun s e => s.flushSlice e.1) s1
    let s3 : State := { s2 with slices := Tbl.mapAll (fun _ => {}) (fun _ x => { x with dir := [] }) s2.slices }
    let s4 := (s3.setReg Reg.CHIP_HOMECUR s3.homeWanted).setFlag Reg.CHIP_HOMECTL F.CHIP_HOMECTL_APPLY false
    s4.cores.foldl (fun s e => s.pump e.1) s4)

end Sys2Proof.Machine
end

