-- ==== Sys2Proof/Machine/Wake.lean ====
section
/-!
DEFINITION. Wake events of a core domain (R571 to R573) and the sources of the cyclic class (R380, R572).
-/
namespace Sys2Proof.Machine

/-- A fast-station input source of a field engine (R380). -/
def isFastSrc (k : Nat) : Bool := (288 ≤ k && k < 312) || (672 ≤ k && k < 696)

/-- A source of the cyclic class: the fast-station inputs and the tide events of a field engine (R572). -/
def isCyclicSrc (k : Nat) : Bool := isFastSrc k || (384 ≤ k && k < 640) || (768 ≤ k && k < 1024)

/-- A wake event of core `n` (R572, R573): with AUTOWAKE = 1, in RETAIN it starts the exit; during an entry it is latched, a cyclic one with the tide time
of the first, and the point of no return or the end of the entry decides. The requester of a chip state has AUTOWAKE treated as 0 (R575). -/
def State.coreWake (s : State) (n : Nat) (cyclic : Bool) : State :=
  let a := Reg.PWR_DOM n
  let st := s.domState n
  if s.flag a F.PWR_DOM_AUTOWAKE && (s.pwr.phase == .run || s.pwr.requester != n) && (st == 3 || st == 4) then
    let l := Reg.AON_CYCLATCH (n / 64)
    let s1 := if cyclic && !getB (s.reg l) (n % 64) then (s.setBit l (n % 64) true).setReg (Reg.AON_CYCTIME n) (BitVec.ofNat 64 s.now) else s
    if st == 4 then s1.setFld a F.PWR_DOM_STATE 5
    else if cyclic && !s1.pwr.past.contains n || s1.pwr.exits.contains n then s1
    else { s1 with pwr := { s1.pwr with exits := s1.pwr.exits ++ [n] } }
  else s

end Sys2Proof.Machine
end

