-- ==== Sys2Proof/Machine/Irq.lean ====
section
/-!
DEFINITION. The interrupt distributor (chapter 18): offers, withdraws and acceptances (R483 to R487), direct messages'
edge numbers (R489, R490), virtual cores and postings (R491 to R494), retargeting (R495), discards (R497) and send pages (R498).
-/
namespace Sys2Proof.Machine

/-! ### Deliverability (R483) -/

/-- Whether a source is deliverable (R483). -/
def State.deliverable (s : State) (k : Nat) : Bool :=
  (s.src k).enable && s.flag Reg.IRQ_CTL F.IRQ_CTL_EN && s.srcPending k

/-- The effective priority (R483, R513). -/
def State.effPrio (s : State) (k : Nat) : Nat :=
  let x := s.src k
  if x.tkind then max x.prio (s.fld (Reg.PRT_PCFG x.part) F.PRT_PCFG_CEIL) else x.prio

/-! ### Residency and choice (R484, R491) -/

/-- Whether virtual core `v` of partition `p` is resident on core `n`. -/
def State.residentOn (s : State) (n p v : Nat) : Bool :=
  let r := s.reg (Reg.IRQ_VCORE n)
  getF r F.IRQ_VCORE_VALID == 1 && getF r F.IRQ_VCORE_PART == p && getF r F.IRQ_VCORE_VCORE == v

/-- The core a virtual core is resident on. -/
def State.residence (s : State) (p v : Nat) : Option Nat := (List.range 128).find? (fun n => s.residentOn n p v)

/-- The physical core a source is offered to, and the code of the offer. -/
def State.destOf (s : State) (k : Nat) : Option (Nat × Nat) :=
  let x := s.src k
  if x.tkind then (s.residence x.part x.vcore).map (fun n => (n, 6)) else some (x.core, 5)

/-- The first of a list of sources by priority and then by number (rows 3 and 5 of R171). -/
def State.firstSrc (s : State) : List Nat → Option Nat
  | [] => none
  | a :: r => match s.firstSrc r with
    | none => some a
    | some b => if s.effPrio b < s.effPrio a ∨ (s.effPrio b = s.effPrio a ∧ b < a) then some b else some a

/-- The sources that may be offered now, with where they go. A source that is moving is offered to no core (R495). -/
def State.offerable (s : State) : List (Nat × Nat × Nat) :=
  s.dist.srcs.filterMap (fun e =>
    if s.deliverable e.1 && !(s.src e.1).moving then (s.destOf e.1).map (fun d => (e.1, d.1, d.2)) else none)

/-! ### Sending to a core (R485) -/

/-- A message of the distributor to a core about a source: TC0 for the fast-station input sources, TC3 for every other. -/
def State.toCore (s : State) (n k : Nat) (m : Msg) : State :=
  if isFastSrc k then s.sendTc0 epSvc { flits := 1, src := svcRouter, dst := coreRouter n, msg := m } else s.send m

/-- Send an offer; for a fast-station input source it carries LASTNUM (R489). -/
def State.sendOffer (s : State) (n code k : Nat) : State :=
  s.toCore n k (.offer n code k (s.effPrio k) (if isFastSrc k then (s.src k).lastnum else 0) false)

/-- Send a withdraw. -/
def State.sendWithdraw (s : State) (n k : Nat) : State :=
  (s.modSrc k (fun x => { x with wd := x.wd + 1 })).toCore n k (.withdraw n k)

/-! ### Settling (R484, R487) -/

/-- One of the two offers of a core follows the source it should name. -/
def State.settleOffer (s : State) (n code : Nat) (want : Option Nat) : State :=
  let d := s.distCore n
  let have_ := if code = 5 then d.off5 else d.off6
  let new := want.map (fun k => (k, s.effPrio k))
  if have_ = new then s
  else
    let s1 := s.setDistCore n (if code = 5 then { d with off5 := new } else { d with off6 := new })
    match new with
    | some q => s1.sendOffer n code q.1
    | none => match have_ with | some q => s1.sendWithdraw n q.1 | none => s1

/-- Both offers of core `n`. After a refusal nothing is sent until the fence map shows the endpoint OPEN (R487). -/
def State.settleCore (s : State) (l : List (Nat × Nat × Nat)) (n : Nat) : State :=
  let d := s.distCore n
  if d.refused && s.mapped svcRouter (epCore n) != epOpen then s
  else
    let s0 := if d.refused then s.setDistCore n { d with refused := false } else s
    let pick (code : Nat) : Option Nat := s.firstSrc ((l.filter (fun x => x.2.1 == n && x.2.2 == code)).map (·.1))
    (s0.settleOffer n 5 (pick 5)).settleOffer n 6 (pick 6)

/-! ### Postings (R492, R493) -/

def State.post (s : State) (p : Nat) : Posting := Tbl.get (fun _ => {}) s.dist.posts p
def State.setPost (s : State) (p : Nat) (x : Posting) : State := { s with dist := { s.dist with posts := Tbl.set (fun _ => {}) s.dist.posts p x } }

/-- Whether partition `p`'s ring has EN = 1 and a free entry. -/
def State.ringFree (s : State) (p : Nat) : Bool :=
  let b := s.reg (Reg.IRQ_PTBASE p)
  getF b F.IRQ_PTBASE_EN == 1 &&
    decide (diff32 (s.reg (Reg.IRQ_PTHEAD p)).toNat (s.reg (Reg.IRQ_PTTAIL p)).toNat < 2 ^ getF b F.IRQ_PTBASE_LOG2SIZE)

/-- The posting entry (R494). -/
def State.postEntry (s : State) (p k : Nat) : Word :=
  fieldW 0 13 k ||| fieldW 16 7 (s.src k).vcore ||| fieldW 24 5 (s.effPrio k) ||| fieldW 32 32 (s.reg (Reg.IRQ_PTHEAD p)).toNat

/-- The address of the next entry (R492). -/
def State.postAddr (s : State) (p : Nat) : Nat :=
  let b := s.reg (Reg.IRQ_PTBASE p)
  64 * getF b F.IRQ_PTBASE_BASE + 8 * ((s.reg (Reg.IRQ_PTHEAD p)).toNat % 2 ^ getF b F.IRQ_PTBASE_LOG2SIZE)

/-- Send the next posting write of a partition, or hold it (R493). -/
def State.postNext (s : State) (p : Nat) : State :=
  let x := s.post p
  match x.waiting, x.inFlight with
  | k :: rest, none =>
    if s.ringFree p then (s.setPost p { x with waiting := rest, inFlight := some k }).send (.posting p (s.postAddr p) (s.postEntry p k))
    else (s.setFlag (Reg.IRQ_PTSTAT p) F.IRQ_PTSTAT_HELD true).setBit Reg.IRQ_POSTFLAG p true
  | _, _ => s

/-- A deliverable source whose virtual core is resident nowhere is posted once while it stays pending (R492); POSTED clears when it stops being pending. -/
def State.settlePost (s : State) (k : Nat) : State :=
  let x := s.src k
  if !s.srcPending k then (if x.posted then s.setSrc k { x with posted := false } else s)
  else if x.tkind && !x.posted && !x.moving && s.deliverable k && (s.residence x.part x.vcore).isNone then
    let q := s.post x.part
    ((s.setSrc k { x with posted := true }).setPost x.part { q with waiting := ((q.waiting ++ [k]).mergeSort) }).postNext x.part
  else s

/-- Bring offers and postings into line with the sources, after every event (R484, R492). Nothing is offered while the working state is off (R499). -/
def State.settle (s : State) : State :=
  if s.dist.workOff then s else
  let s1 := s.dist.srcs.foldl (fun s e => s.settlePost e.1) s
  let l := s1.offerable
  if l.isEmpty && s1.dist.cores.isEmpty then s1 else (List.range 128).foldl (fun s n => s.settleCore l n) s1

/-! ### Edges and lines (R482, R499) -/

/-- An edge of a source: it sets the edge latch; with the sleep latch open it also sets a bit there, and with the working state off only there. -/
def State.latchEdge (s : State) (k : Nat) : State :=
  let s1 : State := if s.dist.sleepOpen && !s.dist.sleepLatch.contains k then { s with dist := { s.dist with sleepLatch := s.dist.sleepLatch ++ [k] } } else s
  if s.dist.workOff then s1 else s1.modSrc k (fun x => { x with edge := true })

/-- A message edge of an edge-sense source. -/
def State.raiseEdge (s : State) (k : Nat) : State :=
  if k < 8192 ∧ isReservedSrc k = false ∧ 2 ≤ s.sense k then (s.latchEdge k).settle else s

/-- The trigger of an armed injection at the distributor's state, which an edge reads and writes (R527, R548, R559). -/
def State.injectSvc (s : State) : State :=
  match s.injKind unitSvc 0 none with
  | some k => s.injectOwner unitSvc 0 0 none k (fun s => s)
  | none => s

/-- SOURCE_EDGE (R481, R482). -/
def execSourceEdge (src : Nat) (s : State) : Res := .next (((s.recv (.sourceEdge src)).injectSvc).raiseEdge src)

/-- SOURCE_LINE_CHANGE (R480, R482): the line of a source has changed; for a pin the new level is recorded, and an edge that its sense qualifies sets the
latch. -/
def execSourceLineChange (src : Nat) (level : Bool) (s : State) : Res :=
  .next (if src < 8 then
    let before := s.irqLine src
    let s1 := s.modSrc src (fun x => { x with pin := level })
    let after := s1.irqLine src
    let k := s1.sense src
    let edge := (k == 2 && !before && after) || (k == 3 && before && !after) || (k == 4 && before != after)
    (if edge then s1.latchEdge src else s1).settle
  else if src < 8192 ∧ isReservedSrc src = false then s.settle else s)

/-! ### Software access (R482, R483, R490, R495) -/

/-- The sources that a write of the enable and pending words names (R500). -/
def wordSrcs (w : Nat) (mask : Word) (width : Nat) : List Nat :=
  ((bitsOf mask (8 * min width 8)).map (32 * w + ·)).filter (· < 8192)

/-- A PENDCLR, ENCLR, retarget or discard of a fast-station input source sends a withdraw to the core that may hold it (R490); a distributor offer that names
the source is withdrawn with it. -/
def State.fastWithdraw (s : State) (k : Nat) : State :=
  if isFastSrc k && !(s.src k).tkind then
    let n := (s.src k).core
    let d := s.distCore n
    let held := match d.off5 with | some q => q.1 == k | none => false
    (if held then s.setDistCore n { d with off5 := none } else s).sendWithdraw n k
  else s

def execIrqPendset (w : Nat) (mask : Word) (width : Nat) (s : State) : Res :=
  .next ((((wordSrcs w mask width).filter (fun k => !isReservedSrc k)).foldl (fun s k => s.modSrc k (fun x => { x with soft := true })) s).settle)

def execIrqPendclr (w : Nat) (mask : Word) (width : Nat) (s : State) : Res :=
  .next (((wordSrcs w mask width).foldl (fun s k => (s.modSrc k (fun x => { x with soft := false, edge := false })).fastWithdraw k) s).settle)

def execIrqEnset (w : Nat) (mask : Word) (width : Nat) (s : State) : Res :=
  .next (((wordSrcs w mask width).foldl (fun s k => s.modSrc k (fun x => { x with enable := true })) s).settle)

def execIrqEnclr (w : Nat) (mask : Word) (width : Nat) (s : State) : Res :=
  .next (((wordSrcs w mask width).foldl (fun s k => (s.modSrc k (fun x => { x with enable := false })).fastWithdraw k) s).settle)

/-- IRQ_STAT.REJ with a code: a write was refused and changed nothing (R501). -/
def State.irqReject (s : State) (code : Nat) : State :=
  (s.setFlag Reg.IRQ_STAT F.IRQ_STAT_REJ true).setFld Reg.IRQ_STAT F.IRQ_STAT_REJCODE code

/-- The core that holds a distributor offer for a source. -/
def State.offeredAt (s : State) (k : Nat) : Option Nat :=
  (s.dist.cores.find? (fun e => (match e.2.off5 with | some q => q.1 == k | none => false) || (match e.2.off6 with | some q => q.1 == k | none => false))).map (·.1)

/-- IRQ_CFG_WRITE (R481, R495, R501): refused for a reserved SENSE of a pin or an absent CORE; a change of target moves a pending source, at once where no
offer is out for it, otherwise through a withdraw. -/
def execIrqCfgWrite (src : Nat) (value : Word) (s : State) : Res :=
  let x := s.src src
  let g (f : Fld) : Nat := getF value f
  .next (if 8192 ≤ src then s
  else if src < 8 ∧ 4 < g F.IRQ_CFG_SENSE then s.irqReject 1
  else if !s.hasCore (g F.IRQ_CFG_CORE) then s.irqReject 2
  else
    let sn := if src < 8 then g F.IRQ_CFG_SENSE else x.sense
    let y : Src := { x with sense := sn, wake := g F.IRQ_CFG_WAKE == 1, prio := g F.IRQ_CFG_PRIO, tkind := g F.IRQ_CFG_TKIND == 1,
                            core := g F.IRQ_CFG_CORE, part := g F.IRQ_CFG_PART, vcore := g F.IRQ_CFG_VCORE }
    let same := x.tkind == y.tkind && (if x.tkind then x.part == y.part && x.vcore == y.vcore else x.core == y.core)
    if same then (s.setSrc src y).settle
    else
      let s1 := s.fastWithdraw src
      let z : Src := { y with posted := false, wd := (s1.src src).wd }
      match s.offeredAt src with
      | some n =>
        let d := s1.distCore n
        let o5 := match d.off5 with | some q => if q.1 = src then none else d.off5 | none => none
        let o6 := match d.off6 with | some q => if q.1 = src then none else d.off6 | none => none
        let s2 := (s1.setSrc src { z with moving := true }).setDistCore n { d with off5 := o5, off6 := o6 }
        let s3 := if isFastSrc src && !x.tkind then s2 else s2.sendWithdraw n src
        s3.settle
      | none => (s1.setSrc src { z with moving := x.moving }).settle)

/-- IRQ_CTL_WRITE (R482, R488). -/
def execIrqCtlWrite (value : Word) (s : State) : Res := .next ((s.setFld Reg.IRQ_CTL F.IRQ_CTL_EN (getF value F.IRQ_CTL_EN)).settle)

/-! ### At the core (R484, R486) -/

/-- A core holds a new offer: it replaces the distributor offer of its code, and any offer for the same source (R484); a direct message replaces the direct
offer of its source (R489). A core in HALT may wake (R184). -/
def State.holdOffer (s : State) (n : Nat) (o : Offer) : State :=
  (s.modCore n (fun c => { c with offers := (c.offers.filter (fun x => !(x.code == o.code && (x.src == o.src || (!x.direct && !o.direct))))) ++ [o] })).wakeHalt n

/-- OFFER (R164, R484): an offer that reaches the port of a core which answers; one that does not is refused (OFFER_REFUSED). -/
def execOffer (core code src prio num : Nat) (s : State) : Res :=
  .next (if s.hasCore core && (code == 5 || code == 6) && s.answers (epCore core) then
    (s.recv (.offer core code src prio num false)).holdOffer core { code := code, src := src, prio := prio, num := num }
  else s)

/-- WITHDRAW (R486, R490): every offer for the source goes, and the withdraw is acknowledged; an entry that has begun goes on. -/
def execWithdraw (core src : Nat) (s : State) : Res :=
  .next (((s.recv (.withdraw core src)).modCore core (fun c => { c with offers := c.offers.filter (fun o => o.src != src) })).send (.withdrawAck core src))

/-! ### At the distributor (R486, R489, R495) -/

/-- `a` is newer than `b` as edge numbers go (R489). -/
def newer (a b : Nat) : Bool := let d := subMod 256 a b; decide (1 ≤ d) && decide (d ≤ 127)

/-- The effect of an acceptance on its source: the table of R486, or the edge numbers of R489. -/
def State.acceptSrc (s : State) (k num : Nat) : State :=
  let x := s.src k
  let late (s : State) : State := s.bump Reg.IRQ_LATECNT ⟨0, 32⟩ 1
  if isFastSrc k then
    let fresh := newer num x.accnum
    let y : Src := { x with soft := false, accnum := if fresh then num else x.accnum, edge := x.edge && !(fresh && !newer x.lastnum num) }
    let s1 := s.setSrc k y
    if !x.soft && !fresh then late s1 else s1
  else if !s.srcPending k then late s
  else if 2 ≤ s.sense k then s.setSrc k { x with edge := false, soft := false }
  else s.setSrc k { x with soft := false }

/-- ACCEPTANCE (R486): from now on the core holds no distributor offer of that code. -/
def execAcceptance (core code src num : Nat) (s : State) : Res :=
  let s1 := (s.recv (.acceptance core code src num)).acceptSrc src num
  let d := s1.distCore core
  .next ((s1.setDistCore core (if code = 5 then { d with off5 := none } else { d with off6 := none })).settle)

/-- WITHDRAW_ACKNOWLEDGEMENT (R495, R497): a move is complete when every withdraw of the source is acknowledged; GO of a discard clears with its last. -/
def execWithdrawAcknowledgement (core src : Nat) (s : State) : Res :=
  let s1 := (s.recv (.withdrawAck core src)).modSrc src (fun x => { x with wd := x.wd - 1, moving := x.moving && decide (1 < x.wd) })
  let left := s1.dist.discard.erase (core, src)
  let s2 : State := { s1 with dist := { s1.dist with discard := left } }
  .next ((if left.isEmpty then s2.setFlag Reg.IRQ_PDISC F.IRQ_PDISC_GO false else s2).settle)

/-- EDGE_NOTE (R489): a number newer than ACCNUM sets the latch and LASTNUM. -/
def execEdgeNote (src num : Nat) (s : State) : Res :=
  let s1 := s.recv (.edgeNote src num)
  .next (if isFastSrc src && newer num (s.src src).accnum then
    ((s1.latchEdge src).modSrc src (fun x => if s.dist.workOff then x else { x with lastnum := num % 256 })).settle
  else s1)

/-- OFFER_REFUSED (R289, R297, R487): the breakwater refuses an offer to a core whose endpoint is fenced or dead or behind a FAILED link; the source stays
pending. -/
def execOfferRefused (core code : Nat) (s : State) : Res :=
  let isIt (m : Msg) : Bool := match m with | .offer n c _ _ _ false => n == core && c == code | _ => false
  .next (match s.delivers svcRouter (epCore core) && s.mapped svcRouter (epCore core) == epOpen, s.net.find? isIt with
  | false, some (.offer _ _ src _ _ _) =>
    let d := s.distCore core
    let d1 := if code = 5 then { d with off5 := none } else { d with off6 := none }
    let s1 : State := { s with net := s.net.eraseP isIt }
    ((s1.setDistCore core { d1 with refused := true }).bump Reg.IRQ_REFUSECNT ⟨0, 32⟩ 1).coreWake core (isCyclicSrc src)
  | _, _ => s)

/-- POSTING_WRITE_ACK (R492, R493): the entry is in memory, HEAD advances and the flag is set; a write that fails sets ERR and is not repeated. A write that
a discard has overtaken reaches memory and advances nothing (R497). -/
def execPostingWriteAck (part : Nat) (ok : Bool) (s : State) : Res :=
  let x := s.post part
  let isIt (m : Msg) : Bool := match m with | .posting p _ _ => p == part | _ => false
  let q := match s.net.find? isIt with | some (.posting _ a e) => some (a, e) | _ => none
  let good := ok && (match q with | some m => s.engReach svcRouter m.1 8 | none => true)
  let s1 : State := { s with net := s.net.eraseP isIt }
  let s2 := match q with
    | some m => if good then s1.engWrite 0 m.1 (leBytes 8 m.2.toNat) [] else if s.engReach svcRouter m.1 8 then s1 else s1.engRefused svcRouter 0 m.1 8 true
    | none => s1
  let s3 := if good then s2 else s2.setFlag (Reg.IRQ_PTSTAT part) F.IRQ_PTSTAT_ERR true
  .next (if x.stale ≠ 0 then (s3.setPost part { x with stale := x.stale - 1 }).settle
  else match x.inFlight with
    | none => s
    | some _ =>
      let s4 := s3.setPost part { x with inFlight := none }
      let s5 :=
        if good then
          (s4.setReg (Reg.IRQ_PTHEAD part) (BitVec.ofNat 64 (((s.reg (Reg.IRQ_PTHEAD part)).toNat + 1) % 2 ^ 32))).setBit Reg.IRQ_POSTFLAG part true
        else s4
      (s5.postNext part).settle)

/-- The virtual core resident on a core changes: the offer of code 0x06 is withdrawn (R491). -/
def State.vcoreLeaves (s : State) (core : Nat) (value : Word) : State :=
  let stays := getF value F.IRQ_VCORE_VALID == 1 && s.residentOn core (getF value F.IRQ_VCORE_PART) (getF value F.IRQ_VCORE_VCORE)
  let d := s.distCore core
  match stays, d.off6 with
  | false, some q => (s.setDistCore core { d with off6 := none }).sendWithdraw core q.1
  | _, _ => s

/-- IRQ_VCORE_WRITE (R491): refused where the virtual core is resident on another core; otherwise residency changes, offers of code 0x06 and postings
follow. -/
def execIrqVcoreWrite (core : Nat) (value : Word) (s : State) : Res :=
  let p := getF value F.IRQ_VCORE_PART
  let v := getF value F.IRQ_VCORE_VCORE
  .next (if !s.hasCore core then s
  else if getF value F.IRQ_VCORE_VALID = 1 ∧ (List.range 128).any (fun n => n != core && s.residentOn n p v) = true then s.irqReject 3
  else ((s.vcoreLeaves core value).setReg (Reg.IRQ_VCORE core) (value &&& 0x7F_3F01)).settle)

/-- IRQ_PDISC (R497). -/
def execIrqPdisc (part : Nat) (s : State) : Res :=
  let mine := (s.dist.srcs.filter (fun e => e.2.tkind && e.2.part == part)).map (·.1)
  let s1 := mine.foldl (fun s k => s.modSrc k (fun x => { x with soft := false, edge := false, posted := false })) s
  let held := mine.filterMap (fun k => (s.offeredAt k).map (fun n => (n, k)))
  let s2 := held.foldl (fun s q =>
    let d := s.distCore q.1
    (s.setDistCore q.1 { d with off6 := match d.off6 with | some o => if o.1 = q.2 then none else some o | none => none }).sendWithdraw q.1 q.2) s1
  let s3 : State := { s2 with dist := { s2.dist with discard := s2.dist.discard ++ held } }
  let x := s3.post part
  let y : Posting := { stale := x.stale + (if x.inFlight.isSome then 1 else 0) }
  let s4 := ((s3.setPost part y).setReg (Reg.IRQ_PTHEAD part) (s3.reg (Reg.IRQ_PTTAIL part))).setBit Reg.IRQ_POSTFLAG part false
  let s5 := (s4.setFlag (Reg.IRQ_PTSTAT part) F.IRQ_PTSTAT_HELD false).setFld Reg.IRQ_PDISC F.IRQ_PDISC_PART part
  .next ((s5.setFlag Reg.IRQ_PDISC F.IRQ_PDISC_GO (!s5.dist.discard.isEmpty)).settle)

/-- IRQ_SWSEND (R498): one edge for each set bit of the low four. The page of an absent core ignores it (R7). -/
def execIrqSwsend (page : Nat) (value : Word) (s : State) : Res :=
  .next (if s.hasCore page then ((bitsOf value 4).foldl (fun s v => s.latchEdge (2560 + 4 * page + v)) s).settle else s)

/-- IRQ_PTTAIL_WRITE (R501): outside [old TAIL, HEAD] it is ignored with REJCODE 5. -/
def execIrqPttailWrite (part : Nat) (value : Word) (s : State) : Res :=
  let t := (s.reg (Reg.IRQ_PTTAIL part)).toNat
  let h := (s.reg (Reg.IRQ_PTHEAD part)).toNat
  let v := value.toNat % 2 ^ 32
  .next (if diff32 v t ≤ diff32 h t then ((s.setReg (Reg.IRQ_PTTAIL part) (BitVec.ofNat 64 v)).postNext part).settle else s.irqReject 5)

/-- Whether `n` bytes at `a` lie wholly within DRAM, the shared cast window or one core's cast window (R24). -/
def oneMemRegion (a n : Nat) : Bool :=
  match regionOf a with
  | .dram => regionOf (a + n - 1) == .dram
  | .sharedCast _ => (match regionOf (a + n - 1) with | .sharedCast _ => true | _ => false)
  | .coreCast c => regionOf (a + n - 1) == .coreCast c
  | _ => false

/-- IRQ_PTBASE_WRITE (R501): a write that sets EN is checked; while EN = 1 only a write that clears it is accepted. -/
def execIrqPtbaseWrite (part : Nat) (value : Word) (s : State) : Res :=
  let a := Reg.IRQ_PTBASE part
  let lg := getF value F.IRQ_PTBASE_LOG2SIZE
  let v : Word := value &&& 0xFFFF_FFFF_FFFF
  .next (if s.flag a F.IRQ_PTBASE_EN then
    (if getF value F.IRQ_PTBASE_EN = 0 then s.setReg a v else s.setFlag Reg.IRQ_STAT F.IRQ_STAT_REJ true)
  else if getF value F.IRQ_PTBASE_EN = 1 ∧ (lg < 4 ∨ 12 < lg ∨ oneMemRegion (64 * getF value F.IRQ_PTBASE_BASE) (8 * 2 ^ lg) = false) then s.irqReject 4
  else ((s.setReg a v).postNext part).settle)

end Sys2Proof.Machine
end

