-- ==== Sys2Proof/Machine/Tideway.lean ====
section
/-!
DEFINITION. Links, replay and TC0 admission of the Tideway (R283 to R289). The ebb handshake stands in Ebb.lean.
-/
namespace Sys2Proof.Machine

/-! ### Link CRC and replay (R287 to R289) -/

/-- The neighbour on link `l` of router `r` (R274). -/
def neighbour (r l : Nat) : Nat :=
  let x := r % 8
  let y := r / 8
  match l with
  | 0 => 8 * y + (x + 1) % 8
  | 1 => 8 * y + (x + 7) % 8
  | 2 => 8 * ((y + 1) % 10) + x
  | _ => 8 * ((y + 9) % 10) + x

/-- The number that a link has at its receiver: the opposite direction (R274). -/
def inputLink (l : Nat) : Nat := if l % 2 = 0 then l + 1 else l - 1

/-- The receiver of link `l` of router `r` finds a failed check: the row of R288 for the link's state. A failed data check in ESCALATED is no header
failure: the flit travels on poisoned. -/
def State.linkFail (s : State) (r l : Nat) (headerBad : Bool) (inj : Bool) : State :=
  let k := 4 * r + l
  let q := neighbour r l
  let x := s.link k
  match s.linkState k with
  | 0 => (((s.setLinkState k 1).bump (Reg.RTR_LINKERR r l) F.RTR_LINKERR_REPLAYS 1).correctedI (unitRouter q) (inputLink l) inj).send (.nak r l)
  | 1 =>
    let s1 := s.setLink k { x with replay := x.replay.map (fun f => { f with poison := true }) }
    (((s1.setLinkState k 2).bump (Reg.RTR_LINKERR r l) F.RTR_LINKERR_ESCALATIONS 1).failureI (unitRouter q) (inputLink l) 1 none 0 0 inj).send (.nak r l)
  | 2 =>
    if headerBad then
      let s1 := s.setLink k { x with replay := [], resend := 0 }
      ((s1.setLinkState k 3).setBit (Reg.RTR_STAT r) (4 + l) true).failureI (unitRouter r) l 5 none 0 0 inj
    else s.setLink k { x with replay := x.replay.tail, resend := x.resend - 1 }
  | _ => s

/-- FLIT_RECEIVE (R287, R288, R559): the flit's checks pass and its place in the replay buffer is acknowledged, or they fail. An armed injection fails
one flit (KIND 4) or the flit and its replay (KIND 5). A FAILED link carries nothing. -/
def execFlitReceive (r l cls : Nat) (headerOk dataOk : Bool) (s : State) : Res :=
  let k := 4 * r + l
  let q := neighbour r l
  .next (if 80 ≤ r ∨ 4 ≤ l ∨ 4 ≤ cls ∨ s.linkState k = 3 then s
  else
    let s1 := s.bump (Reg.RTR_FLITCNT r l cls) ⟨0, 48⟩ 1
    match s1.injKind (unitRouter q) (inputLink l) none with
    | some 4 => (s1.linkFail r l false true).injTriggered
    | some 5 => ((s1.linkFail r l false true).linkFail r l false true).injTriggered
    | _ =>
      if headerOk && dataOk then
        let x := s1.link k
        s1.setLink k { x with replay := x.replay.tail, resend := x.resend - 1 }
      else s1.linkFail r l (!headerOk) false)

/-- LINK_NAK (R287): the sender sends again from the named flit, the oldest that is not acknowledged. -/
def execLinkNak (r l : Nat) (s : State) : Res :=
  let s1 := s.recv (.nak r l)
  let x := s1.link (4 * r + l)
  .next (if s1.linkState (4 * r + l) = 3 then s1 else s1.setLink (4 * r + l) { x with resend := x.replay.length })

/-- RETRY_WINDOW_CLOSE (R288): the replay is acknowledged and the link returns to UP. -/
def execRetryWindowClose (r l : Nat) (s : State) : Res :=
  let k := 4 * r + l
  .next (if s.linkState k = 1 ∨ s.linkState k = 2 then
    let x := s.link k
    (s.setLink k { x with replay := [], resend := 0 }).setLinkState k 0
  else s)

/-! ### TC0 admission (R283 to R286) -/

/-- Stream A delivers tokens (R55, R283). -/
def State.streamA (s : State) : Bool := s.flag Reg.CHIP_PACESTAT F.CHIP_PACESTAT_LOCKA

/-- Depth and rate of an endpoint's injection bucket. -/
def State.tc0Depth (s : State) (k : Nat) : Nat := s.fld (Reg.RTR_TC0BKT (k / 4) (k % 4)) F.RTR_TC0BKT_DEPTH
def State.tc0Rate (s : State) (k : Nat) : Nat := s.fld (Reg.RTR_TC0BKT (k / 4) (k % 4)) F.RTR_TC0BKT_RATE

/-- Set the tokens of an endpoint's bucket. -/
def State.setTokens (s : State) (k n : Nat) : State := s.setEp k { s.ep k with tokens := n }

/-- INJECTION_BUCKET_ACCRUAL (R283): every bucket gains RATE tokens for a µs of stream A, up to DEPTH. -/
def execInjectionBucketAccrual (s : State) : Res :=
  .next (if s.streamA then
    (List.range 320).foldl (fun s k => s.setTokens k (min (s.tc0Depth k) ((s.ep k).tokens + s.tc0Rate k))) s
  else s)

/-- LINK_MONITOR_ACCRUAL (R284): CAP × 8 tokens for a µs of stream A, up to 8. -/
def execLinkMonitorAccrual (s : State) : Res :=
  .next (if s.streamA then
    (List.range 320).foldl (fun s k => let x := s.link k; s.setLink k { x with tokens := min 8 (x.tokens + s.linkCap k * 8) }) s
  else s)

/-- RTR_TC0BKT_WRITE (R286): effective at the write; tokens above the new DEPTH are discarded. -/
def execRtrTc0bktWrite (r e : Nat) (value : Word) (s : State) : Res :=
  let k := 4 * r + e
  .next (if 80 ≤ r ∨ 4 ≤ e then s
  else
    let s1 := s.writeReg (Reg.RTR_TC0BKT r e) 8 value
    s1.setTokens k (min (s1.tc0Depth k) (s1.ep k).tokens))

/-- RTR_TC0CAP_WRITE (R284): effective at the write; tokens held are kept. -/
def execRtrTc0capWrite (r : Nat) (value : Word) (s : State) : Res :=
  .next (if 80 ≤ r then s else s.writeReg (Reg.RTR_TC0CAP r) 8 value)

/-! ### Opening a port (R283, R291) -/

/-- The power domain of an endpoint (R564). -/
def epDom (k : Nat) : Nat :=
  if epKind (k / 4) (k % 4) = 3 then 223 else unitDom (unitOfEp k)

/-- REOPEN: a FENCED port whose domain is RUN becomes OPEN, its injection bucket is filled and the change broadcast (R283, R290, R291). -/
def State.reopen (s : State) (k : Nat) : State :=
  if s.epPresent k && s.epState k == epFenced && s.domRun (epDom k) then
    (((s.setEpState k epOpen).setTokens k (s.tc0Depth k))).broadcast k epOpen
  else s

end Sys2Proof.Machine
end

