-- ==== Sys2Proof/Machine/Mc.lean ====
section
/-!
DEFINITION. Memory controllers (chapter 11): training and self-refresh (R303 to R306, R324 to R326), the decode's APPLY (R309), reads, writes and scrubs
(R310 to R316), sparing, mirroring and repair (R317 to R319), the TC0 service window (R320 to R322), and the class tokens a request is charged (R509, R510).
-/
namespace Sys2Proof.Machine

def State.chan (s : State) (m : Nat) : Chan := Tbl.get (fun _ => {}) s.chans m
def State.setChan (s : State) (m : Nat) (x : Chan) : State := { s with chans := Tbl.set (fun _ => {}) s.chans m x }
def State.modChan (s : State) (m : Nat) (f : Chan → Chan) : State := s.setChan m (f (s.chan m))

/-- States of MC_STAT.STATE (R328). -/
def mcDisabled : Nat := 0
def mcUntrained : Nat := 1
def mcTraining : Nat := 2
def mcReady : Nat := 3
def mcSelfref : Nat := 4
def mcFailed : Nat := 5
def mcResuming : Nat := 6
def State.setMc (s : State) (m v : Nat) : State := s.setFld (Reg.MC_STAT m) F.MC_STAT_STATE v

/-! ### Training (R304, R305, R324, R325) -/

/-- The DIMM slot is filled: present with a size other than 0. -/
def dimmFilled (d : Word) : Bool := getF d F.MC_DIMM_PRESENT == 1 && getF d F.MC_DIMM_SIZE != 0

/-- A DIMM that R305 case 2 refuses. -/
def dimmBad (d : Word) : Bool :=
  getF d F.MC_DIMM_PRESENT == 1 &&
    (getF d F.MC_DIMM_RDIMM == 0 || getF d F.MC_DIMM_X4 == 0 || decide (256 < getF d F.MC_DIMM_SIZE) || decide (8 < getF d F.MC_DIMM_RANKS))

/-- The population check of R305: the case that refuses it. -/
def State.populationRefusal (s : State) (m : Nat) : Option Nat :=
  let a := s.reg (Reg.MC_DIMM m 0)
  let b := s.reg (Reg.MC_DIMM m 1)
  let two := getF a F.MC_DIMM_PRESENT == 1 && getF b F.MC_DIMM_PRESENT == 1
  let sp := s.fld (Reg.MC_CFG m) F.MC_CFG_SPEED
  if !dimmFilled a && !dimmFilled b then some 1
  else if dimmBad a || dimmBad b then some 2
  else if two && (getF a F.MC_DIMM_SIZE != getF b F.MC_DIMM_SIZE || getF a F.MC_DIMM_RANKS != getF b F.MC_DIMM_RANKS) then some 3
  else if decide (3 < sp) || (two && decide (1 < sp)) then some 4
  else none

/-- Training or resume ends: RESULT, DONE and the next state. -/
def State.trainEnd (s : State) (m st result : Nat) : State :=
  ((s.setMc m st).setFld (Reg.MC_TRAIN m) F.MC_TRAIN_RESULT result).setFlag (Reg.MC_TRAIN m) F.MC_TRAIN_DONE true

/-- Serial numbers of the DIMMs as firmware described them. -/
def State.dimmSerials (s : State) (m : Nat) : Nat × Nat :=
  (s.fld (Reg.MC_DIMM m 0) F.MC_DIMM_SERIAL, s.fld (Reg.MC_DIMM m 1) F.MC_DIMM_SERIAL)

/-- The saved set goes (R325). -/
def State.dropSaved (s : State) (m : Nat) : State :=
  (s.modChan m (fun x => { x with serials := none })).setFlag (Reg.MC_TRAIN m) F.MC_TRAIN_SAVEDV false

/-- The trained values are saved in the always-on domain (R324, R326). -/
def State.saveSet (s : State) (m : Nat) : State :=
  (s.modChan m (fun x => { x with serials := some (s.dimmSerials m) })).setFlag (Reg.MC_TRAIN m) F.MC_TRAIN_SAVEDV true

/-- START with MODE = full (R305, R306, R324): ignored unless UNTRAINED; a refused population disables the channel at once. -/
def State.trainFull (s : State) (m : Nat) : State :=
  if s.hasMc m && s.mcState m == mcUntrained then
    let s1 := s.setFld (Reg.MC_TRAIN m) F.MC_TRAIN_MODE 0
    match s.populationRefusal m with
    | some c => s1.trainEnd m mcDisabled c
    | none => ((s1.dropSaved m).modChan m (fun x => { x with ret := false })).setMc m mcTraining
  else s

/-- TRAIN_FULL. -/
def execTrainFull (m : Nat) (s : State) : Res := .next (s.trainFull m)

/-- Every byte of a channel loses its contents: it reads as memory that nothing has written (R324). -/
def State.loseChannel (s : State) (m : Nat) : State := (s.zeroRange (dramKey m 0) (2 ^ 48)).modChan m (fun x => { x with alt := [] })

/-- Training ends (R306, R324). -/
def State.trainingEnds (s : State) (m : Nat) (ok : Bool) : State :=
  if s.mcState m = mcTraining then
    let s1 := s.loseChannel m
    if ok then (s1.saveSet m).trainEnd m mcReady 0 else s1.trainEnd m mcDisabled 5
  else s

/-- TRAINING_COMPLETE. -/
def execTrainingComplete (m : Nat) (ok : Bool) (s : State) : Res := .next (s.trainingEnds m ok)

/-- START with MODE = resume (R306, R325): ignored unless UNTRAINED. -/
def State.trainResume (s : State) (m : Nat) : State :=
  if s.hasMc m && s.mcState m == mcUntrained then (s.setFld (Reg.MC_TRAIN m) F.MC_TRAIN_MODE 1).setMc m mcResuming else s

/-- TRAIN_RESUME. -/
def execTrainResume (m : Nat) (s : State) : Res := .next (s.trainResume m)

/-- A resume ends (R325, R326): the saved set must match the DIMMs and the check pass. A controller that comes out of self-refresh has its port
reopened by the power controller. -/
def State.resumeComplete (s : State) (m : Nat) (ok : Bool) : State :=
  if s.mcState m = mcResuming then
    let sr := s.flag (Reg.MC_PWRCTL m) F.MC_PWRCTL_SRACK
    let s0 := s.setFlag (Reg.MC_PWRCTL m) F.MC_PWRCTL_SRACK false
    let usable := s.flag (Reg.MC_TRAIN m) F.MC_TRAIN_SAVEDV && (s.chan m).serials == some (s.dimmSerials m)
    if !usable then s0.trainEnd m mcUntrained 7
    else if !ok then s0.trainEnd m mcUntrained 6
    else
      let s1 := (s0.modChan m (fun x => { x with ret := false })).trainEnd m mcReady 0
      if sr || (s.pwr.standby && s.pwr.phase == .restoring) then s1.reopen (epMc m) else s1
  else s

/-- DISCARD (R325); with the controller's domain not RUN it also ends the retention of the pins, and the channel's contents are lost (R651). -/
def State.discardSaved (s : State) (m : Nat) : State :=
  let s1 := s.dropSaved m
  if (s.chan m).ret && !s.domRun (192 + m) then (s1.modChan m (fun x => { x with ret := false })).loseChannel m else s1

/-- TRAIN_DISCARD (R325, R651). -/
def execTrainDiscard (m : Nat) (s : State) : Res := .next (if s.hasMc m then s.discardSaved m else s)

/-! ### Self-refresh (R326) -/

/-- SRREQ_SET (R306, R326): ignored while the endpoint is OPEN. -/
def execSrreqSet (m : Nat) (s : State) : Res :=
  .next (if s.hasMc m && s.epState (epMc m) == epFenced then s.setFlag (Reg.MC_PWRCTL m) F.MC_PWRCTL_SRREQ true else s)

/-- Self-refresh is entered (R306, R323, R326): from READY with the request made and no window open; queued scrub writes have been written. -/
def State.selfRefresh (s : State) (m : Nat) : State :=
  if s.mcState m == mcReady && s.flag (Reg.MC_PWRCTL m) F.MC_PWRCTL_SRREQ && s.epState (epMc m) == epFenced && (s.chan m).window.isNone then
    (((s.modChan m (fun x => { x with recov := [], ret := true })).saveSet m).setMc m mcSelfref).setFlag (Reg.MC_PWRCTL m) F.MC_PWRCTL_SRACK true
  else s

/-- SRREQ = 0 (R306, R326). -/
def State.srreqClear (s : State) (m : Nat) : State :=
  let s1 := s.setFlag (Reg.MC_PWRCTL m) F.MC_PWRCTL_SRREQ false
  if s.mcState m = mcSelfref then s1.setMc m mcResuming else s1

/-- SRREQ_CLEAR (R306, R326). -/
def execSrreqClear (m : Nat) (s : State) : Res := .next (if s.hasMc m then s.srreqClear m else s)

/-! ### The decode (R309, R314) -/

/-- Logical ranks of a channel. -/
def State.ranks (s : State) (m : Nat) : Nat :=
  [0, 1].foldl (fun n d => let x := s.reg (Reg.MC_DIMM m d); if dimmFilled x then n + getF x F.MC_DIMM_RANKS else n) 0

/-- Size of the DIMMs of a channel, bytes. -/
def State.dimmBytes (s : State) (m : Nat) : Nat :=
  [0, 1].foldl (fun n d => let x := s.reg (Reg.MC_DIMM m d); if dimmFilled x then n + getF x F.MC_DIMM_SIZE * gib else n) 0

/-- Usable capacity of a channel in bytes (R314): its DIMMs less the spare rank. -/
def State.usable (s : State) (m : Nat) : Nat :=
  let n := s.dimmBytes m
  if s.flag (Reg.MC_SPARE m) F.MC_SPARE_EN && s.ranks m != 0 then n - n / s.ranks m else n

/-- The region registers as firmware has written them. -/
def State.rgnRegs (s : State) (i : Nat) : Word × Word := (s.reg (Reg.CHIP_DRAMRGN i), s.reg (Reg.CHIP_DRAMMAP i))

/-- Channels that hold data of a region: all of CHANS. -/
def rgnAll (g : Word × Word) : List Nat := bitsOf (BitVec.ofNat 64 (getF g.2 F.CHIP_DRAMMAP_CHANS)) 12

/-- The span of a region on each of its channels, in bytes: start and end. -/
def rgnSpan (g : Word × Word) : Nat × Nat :=
  let lo := getF g.2 F.CHIP_DRAMMAP_CHANOFF * gib
  (lo, lo + getF g.1 F.CHIP_DRAMRGN_SIZE * gib / (rgnChans g).length)

/-- Two ranges overlap. -/
def overlaps (a b : Nat × Nat) : Bool := decide (a.1 < b.2) && decide (b.1 < a.2)

/-- Some pair of distinct regions of a list satisfies a test. -/
def anyPair (p : Word × Word → Word × Word → Bool) : List (Word × Word) → Bool
  | [] => false
  | g :: r => r.any (p g) || anyPair p r

/-- The code that rejects an APPLY (R309), lowest first. -/
def State.applyReject (s : State) : Option Nat :=
  let gs := ((List.range 8).map s.rgnRegs).filter covering
  if anyPair (fun a b => overlaps (rgnLo a, rgnHi a) (rgnLo b, rgnHi b)) gs then some 1
  else if gs.any (fun g => decide (98304 * gib < rgnHi g)) then some 2
  else if gs.any (fun g => (rgnAll g).isEmpty || (rgnAll g).any (fun m => !s.hasMc m || s.mcState m != mcReady)) then some 3
  else if gs.any (fun g => getF g.1 F.CHIP_DRAMRGN_SIZE % (rgnChans g).length != 0) then some 4
  else if anyPair (fun a b => (rgnAll a).any (fun m => (rgnAll b).contains m) && overlaps (rgnSpan a) (rgnSpan b)) gs ||
    gs.any (fun g => (rgnAll g).any (fun m => decide (s.usable m < (rgnSpan g).2))) then some 5
  else if gs.any (fun g => getF g.1 F.CHIP_DRAMRGN_MIRROR == 1 &&
    (List.range 6).any (fun m => (rgnAll g).contains m != (rgnAll g).contains (m + 6))) then some 6
  else none

/-- DRAMCTL_APPLY (R309). -/
def execDramctlApply (s : State) : Res :=
  .next (match s.applyReject with
    | some c => (s.setFlag Reg.CHIP_DRAMCTL F.CHIP_DRAMCTL_REJ true).setFld Reg.CHIP_DRAMCTL F.CHIP_DRAMCTL_REJCODE c
    | none => { s with decode := (List.range 8).foldl (fun t i => Tbl.set (fun _ => (0, 0)) t i (s.rgnRegs i)) s.decode })

/-! ### Errors of an ECC word (R311, R312, R315, R318) -/

/-- MC_ERRLOC of a word. -/
def locWord (l : DramLoc) (dev : Nat) : Word :=
  fieldW 0 4 l.rank ||| fieldW 4 3 l.bg ||| fieldW 8 2 l.bank ||| fieldW 10 1 l.sub ||| fieldW 11 4 dev ||| fieldW 32 18 l.row

/-- The word at a channel address is poisoned. -/
def State.wordPoisoned (s : State) (m a : Nat) : Bool := s.anyPoison (dramKey m a) 64

/-- Write the poison syndrome into a word (R312). -/
def State.poisonWord (s : State) (m a : Nat) : State :=
  s.setBytesP (dramKey m a) (s.bytes (dramKey m a) 64) (List.replicate 64 true)

/-- Sparing may start: the spare rank reserved, two ranks, none spared yet (R317). -/
def State.spareReady (s : State) (m : Nat) : Bool :=
  s.flag (Reg.MC_SPARE m) F.MC_SPARE_EN && decide (2 ≤ s.ranks m) && s.fld (Reg.MC_SPARE m) F.MC_SPARE_STATE == 0

/-- Sparing of rank `src` starts. -/
def State.startSparing (s : State) (m src : Nat) : State :=
  if s.spareReady m then (s.setFld (Reg.MC_SPARE m) F.MC_SPARE_SRC src).setFld (Reg.MC_SPARE m) F.MC_SPARE_STATE 1 else s

/-- A corrected word: the counts of R312, and automatic sparing (R317). -/
def State.correctedWord (s : State) (m dev : Nat) (loc : DramLoc) (inj : Bool) : State :=
  let e := Reg.MC_ERRSTAT m
  let s1 := (s.bump (Reg.MC_CECNT m) F.MC_CECNT_CE 1).bump (Reg.MC_RANKCE m (loc.rank % 16)) ⟨0, 32⟩ 1
  let s2 := ((s1.setFlag e F.MC_ERRSTAT_CE true).setFld e F.MC_ERRSTAT_DEV dev).correctedI (unitMc m) 0 inj
  let sp := Reg.MC_SPARE m
  if s2.flag sp F.MC_SPARE_AUTO && decide (2 ^ s2.fld sp F.MC_SPARE_THRESH < s2.fld (Reg.MC_RANKCE m (loc.rank % 16)) ⟨0, 32⟩) then
    s2.startSparing m (loc.rank % 16)
  else s2

/-- A word has been written whole: it leaves recovery, and an injected alteration is overwritten (R315, R559). -/
def Chan.rewritten (x : Chan) (a : Nat) : Chan := { x with recov := x.recov.filter (fun r => r.1 != a), alt := x.alt.filter (· != a) }

/-- An uncorrectable word: logged, counted and poisoned (R312). -/
def State.badWord (s : State) (m a : Nat) (loc : DramLoc) (part : Option Nat) (inj : Bool) : State :=
  let e := Reg.MC_ERRSTAT m
  -- which of its devices DEV names is open (notes/assumptions/3.md)
  let q := s.choose 10
  let s1 := q.2.bump (Reg.MC_CECNT m) F.MC_CECNT_UE 1
  let s2 := if s.flag e F.MC_ERRSTAT_UE then s1
    else ((s1.setReg (Reg.MC_ERRADDR m) (BitVec.ofNat 64 (a / 64 * 64 % 2 ^ 39))).setReg (Reg.MC_ERRLOC m) (locWord loc q.1)).setFlag e F.MC_ERRSTAT_UE true
  let s3 := s2.modChan m (·.rewritten a)
  (s3.failureI (unitMc m) 0 1 part a (locWord loc q.1).toNat inj).poisonWord m a

/-- Whether a primary's channel address belongs to a mirrored region whose secondary serves (R308, R318). -/
def State.mirrored (s : State) (m a : Nat) : Bool :=
  decide (m < 6) && s.mcState (m + 6) == mcReady && (s.survivor m).isNone &&
  s.regions.any (fun g => covering g && getF g.1 F.CHIP_DRAMRGN_MIRROR == 1 && (rgnAll g).contains m &&
    decide ((rgnSpan g).1 ≤ a) && decide (a < (rgnSpan g).2))

/-- What a read of a word finds: a poisoned word stays poisoned and logs nothing new; an error in a different device of a word in recovery escalates
(R311, R312, R315); an uncorrectable primary of a mirrored region waits for the secondary (R318). -/
def State.wordFound (s : State) (m a : Nat) (err : DramErr) (loc : DramLoc) (part : Option Nat) (inj : Bool) : State :=
  let bad : State := if s.mirrored m a then s.modChan m (fun x => { x with mirrorQ := x.mirrorQ ++ [(a, part)] }) else s.badWord m a loc part inj
  if s.wordPoisoned m a then s
  else match err with
    | .good => s
    | .bad => bad
    | .one dev => match (s.chan m).recov.find? (fun r => r.1 == a) with
      | some r => if r.2 = dev then s.correctedWord m dev loc inj else bad
      | none =>
        let s1 := s.correctedWord m dev loc inj
        if s.flag (Reg.MC_CFG m) F.MC_CFG_DEMAND then s1.modChan m (fun x => { x with recov := x.recov ++ [(a, dev)] }) else s1

/-- What the decoder finds in a word that an injection has altered in device 0, beside what the cells give (R559: the alteration stays until it is overwritten). -/
def State.altered (s : State) (m a : Nat) (err : DramErr) : DramErr :=
  if (s.chan m).alt.contains a then
    match err with
    | .good => .one 0
    | .one d => if d = 0 then .one 0 else .bad
    | .bad => .bad
  else err

/-- A read performed: an armed injection alters one device of the word (KIND 7) or two (KIND 8) (R559). -/
def State.mcReadNow (s : State) (m a : Nat) (err : DramErr) (loc : DramLoc) (part : Option Nat) : State :=
  match s.injKind (unitMc m) 0 (some a) with
  | some 7 =>
    let s1 := s.modChan m (fun x => { x with alt := x.alt.filter (· != a) ++ [a] })
    (s1.wordFound m a (s1.altered m a err) loc part true).injTriggered
  | some 8 => (s.wordFound m a .bad loc part true).injTriggered
  | _ => s.wordFound m a (s.altered m a err) loc part false

/-- A line written, to the partner too where it is mirrored; the word leaves recovery and its queued scrub write is dropped (R310, R311, R315, R318). -/
def State.mcWriteNow (s : State) (m a : Nat) (d : Line) (p : Word) : State :=
  let one (s : State) (m : Nat) : State := (s.chanWrite m a d p).modChan m (·.rewritten a)
  if s.mirrored m a then one (one s m) (m + 6) else one s m

/-! ### Class tokens (R509, R510) -/

/-- Key of the bucket of controller `m` and class `k`. -/
def tokKey (m k : Nat) : Nat := 16 * m + k
def State.memTokens (s : State) (k : Nat) : Nat := Tbl.get (fun _ => 0) s.memTok k
def State.setMemTokens (s : State) (k n : Nat) : State := { s with memTok := Tbl.set (fun _ => 0) s.memTok k n }

/-- A charged request may be scheduled: its class is unlimited, has a token, or borrows (a request whose class holds a token never waits, so nothing that
holds one is waiting). Answers the state with the token taken. -/
def State.takeToken (s : State) (m k : Nat) : Option State :=
  let r := s.reg (Reg.PRT_MEMTOK m k)
  let n := s.memTokens (tokKey m k)
  if getF r F.PRT_MEMTOK_LIMIT = 0 then some s
  else if 0 < n then some (s.setMemTokens (tokKey m k) (n - 1))
  else if getF r F.PRT_MEMTOK_BORROW = 1 then some s
  else none

/-- The class of a waiting request. -/
def McReq.cls : McReq → Nat
  | .read _ _ _ _ k => k
  | .write _ _ _ k => k

/-- Perform a waiting request. -/
def State.runReq (s : State) (m : Nat) : McReq → State
  | .read a e l p _ => s.mcReadNow m a e l (some p)
  | .write a d po _ => s.mcWriteNow m a d po

/-- A request waits for a token, counted once (R509). -/
def State.holdReq (s : State) (m : Nat) (q : McReq) : State :=
  (s.modChan m (fun x => { x with held := x.held ++ [q] })).bump (Reg.PRT_MEMHELD m) ⟨0, 64⟩ 1

/-- A charged request: performed when a token allows, behind older requests of its class. -/
def State.charged (s : State) (m : Nat) (q : McReq) : State :=
  if (s.chan m).held.any (fun h => h.cls == q.cls) then s.holdReq m q
  else match s.takeToken m q.cls with
    | some s1 => s1.runReq m q
    | none => s.holdReq m q

/-- Waiting requests that tokens now allow, oldest first; one that still waits keeps its class waiting. -/
def State.serveHeld (s : State) (m : Nat) : List McReq → List Nat → State
  | [], _ => s
  | q :: r, blocked =>
    if blocked.contains (q.cls) then s.serveHeld m r blocked
    else match s.takeToken m q.cls with
      | some s1 => ((s1.modChan m (fun x => { x with held := x.held.erase q })).runReq m q).serveHeld m r blocked
      | none => s.serveHeld m r (q.cls :: blocked)

/-! ### Reads and writes -/

/-- A controller that serves: READY, and no warm entry has closed it (R591). -/
def State.mcServes (s : State) (m : Nat) : Bool := s.hasMc m && s.mcState m == mcReady && s.pwr.warm.isNone

/-- MC_READ (R312, R315, R320 to R322, R509, R510): a cyclic read among the first CAP of an open window is bounded, counted in IN and not charged; any other
cyclic read is an ordinary read counted in OVER. -/
def execMcRead (m addr : Nat) (err : DramErr) (loc : DramLoc) (charge : Option Nat) (cyclic : Bool) (s : State) : Res :=
  let a := addr / 64 * 64
  .next (if s.mcServes m then
    let s0 := s.modChan m (fun x => { x with retries := 0 })
    let plain (s : State) : State := match charge with
      | some p => s.charged m (.read a err loc p (s.cosOf p))
      | none => s.mcReadNow m a err loc none
    if cyclic then
      match (s0.chan m).window with
      | some (n + 1) => (((s0.modChan m (fun x => { x with window := some n })).bump (Reg.MC_TC0CNT m) F.MC_TC0CNT_IN 1)).mcReadNow m a err loc charge
      | _ => plain (s0.bump (Reg.MC_TC0CNT m) F.MC_TC0CNT_OVER 1)
    else plain s0
  else s)

/-- MIRROR_SECONDARY_READ (R318): a good secondary copy is written back to the primary and the event counts as corrected; with both bad the word is
poisoned and MIRRORFAIL set. The correction names no device: DEV stays. -/
def execMirrorSecondaryRead (m addr : Nat) (err : DramErr) (loc : DramLoc) (s : State) : Res :=
  let a := addr / 64 * 64
  .next (match (s.chan m).mirrorQ.find? (fun q => q.1 == a) with
    | none => s
    | some q =>
      let s1 := s.modChan m (fun x => { x with mirrorQ := x.mirrorQ.erase q })
      let s2 := s1.wordFound (m + 6) a (s1.altered (m + 6) a err) loc q.2 false
      if s2.wordPoisoned (m + 6) a then (s2.badWord m a loc q.2 false).setFlag (Reg.MC_ERRSTAT m) F.MC_ERRSTAT_MIRRORFAIL true
      else ((s2.chanWrite m a (lineOfBytes (s2.bytes (dramKey (m + 6) a) 64)) 0).modChan m (·.rewritten a)).correctedWord m (s2.fld (Reg.MC_ERRSTAT m) F.MC_ERRSTAT_DEV) loc false)

/-- MC_WRITE (R310, R311, R510). -/
def execMcWrite (m addr : Nat) (data : Line) (poison : Word) (charge : Option Nat) (s : State) : Res :=
  let a := addr / 64 * 64
  .next (if s.mcServes m then
    let s0 := s.modChan m (fun x => { x with retries := 0 })
    match charge with
    | some p => s0.charged m (.write a data poison (s.cosOf p))
    | none => s0.mcWriteNow m a data poison
  else s)

/-- DEMAND_SCRUB_WRITE (R315): the corrected line is written and the word leaves recovery. -/
def execDemandScrubWrite (m addr : Nat) (s : State) : Res :=
  .next (if s.mcServes m then s.modChan m (·.rewritten (addr / 64 * 64)) else s)

/-- PATROL_READ (R316): the next word of the channel, in address order, outside TC0 windows; each pass counts. -/
def execPatrolRead (m : Nat) (err : DramErr) (loc : DramLoc) (s : State) : Res :=
  let x := s.chan m
  .next (if s.mcServes m && s.flag (Reg.MC_SCRUB m) F.MC_SCRUB_PATROL && x.window.isNone then
    let words := s.dimmBytes m / 64
    let s1 := s.mcReadNow m (64 * x.patrol) err loc none
    if words ≤ x.patrol + 1 then (s1.modChan m (fun x => { x with patrol := 0 })).bump (Reg.MC_SCRUB m) F.MC_SCRUB_PASSES 1
    else s1.modChan m (fun x => { x with patrol := x.patrol + 1 })
  else s)

/-- REFRESH (R303): an all-bank refresh keeps the cells' contents; nothing that software can see changes. -/
def execRefresh (_m : Nat) (s : State) : Res := .next s

/-! ### Sparing and repair (R317, R319) -/

/-- SPARING_START (R317). -/
def execSparingStart (m src : Nat) (s : State) : Res := .next (if s.hasMc m then s.startSparing m src else s)

/-- SPARING_COPY_COMPLETE (R317, R320): the last word is copied, outside a window. -/
def execSparingCopyComplete (m : Nat) (s : State) : Res :=
  .next (if s.fld (Reg.MC_SPARE m) F.MC_SPARE_STATE = 1 ∧ (s.chan m).window = none then
    (s.setFld (Reg.MC_SPARE m) F.MC_SPARE_STATE 2).setFlag (Reg.MC_STAT m) F.MC_STAT_SPARED true
  else s)

/-- The case that refuses a repair (R319), lowest first. The spare rank is the highest-numbered one. -/
def State.pprRefusal (s : State) (m rank : Nat) (hard noSpare outside : Bool) : Option Nat :=
  let sp := Reg.MC_SPARE m
  if noSpare then some 1
  else if hard && s.mcState m != mcTraining then some 2
  else if s.fld sp F.MC_SPARE_STATE == 1 && (rank == s.fld sp F.MC_SPARE_SRC || rank + 1 == s.ranks m) then some 3
  else if outside || decide (s.ranks m ≤ rank) then some 4
  else none

/-- GO of MC_PPRCTL. A soft repair outside READY has no case and no effect. -/
def State.startPpr (s : State) (m rank : Nat) (hard noSpare outside : Bool) : State :=
  let a := Reg.MC_PPRCTL m
  let s1 := (s.setFlag a F.MC_PPRCTL_KIND hard).setFld a F.MC_PPRCTL_RANK rank
  match s.pprRefusal m rank hard noSpare outside with
  | some c => (s1.setFld a F.MC_PPRCTL_RESULT c).setFlag a F.MC_PPRCTL_DONE true
  | none => if !hard && s.mcState m != mcReady then s1 else s1.modChan m (fun x => { x with ppr := some hard })

def execSppr (m rank : Nat) (noSpare outside : Bool) (s : State) : Res :=
  .next (if s.hasMc m then s.startPpr m rank false noSpare outside else s)
def execHppr (m rank : Nat) (noSpare outside : Bool) (s : State) : Res :=
  .next (if s.hasMc m then s.startPpr m rank true noSpare outside else s)

/-- PPR_COMPLETE (R319, R320): never inside a window; a soft repair keeps the row's words; a hard one runs in TRAINING, whose end loses the channel's contents. -/
def execPprComplete (m : Nat) (s : State) : Res :=
  .next (match (s.chan m).ppr, (s.chan m).window with
    | none, _ => s
    | some _, some _ => s
    | some _, none => ((s.modChan m (fun x => { x with ppr := none })).setFld (Reg.MC_PPRCTL m) F.MC_PPRCTL_RESULT 0).setFlag
        (Reg.MC_PPRCTL m) F.MC_PPRCTL_DONE true)

/-! ### The TC0 service window (R320 to R323) -/

/-- CAP; above 64 it acts as 64. -/
def State.winCap (s : State) (m : Nat) : Nat := min 64 (s.fld (Reg.MC_TC0CTL m) F.MC_TC0CTL_CAP)

/-- TC0_WINDOW_OPEN (R320, R321, R323): the CAP in force at the opening bounds this window. -/
def execTc0WindowOpen (m : Nat) (s : State) : Res :=
  .next (if s.mcServes m && s.flag (Reg.MC_TC0CTL m) F.MC_TC0CTL_EN then s.modChan m (fun x => { x with window := some (s.winCap m) }) else s)

/-- TC0_WINDOW_CLOSE (R320). -/
def execTc0WindowClose (m : Nat) (s : State) : Res := .next (s.modChan m (fun x => { x with window := none }))

/-- The checks of R320 on a configuration. -/
def winBad (period offset len : Nat) : Bool :=
  len == 0 || decide (7500 < len) || decide (period < 31250) || decide (period ≤ offset) || decide (period - len < 4000)

/-- MC_TC0CTL_WRITE (R320, R321, R328). -/
def execMcTc0ctlWrite (m : Nat) (value : Word) (s : State) : Res :=
  let a := Reg.MC_TC0CTL m
  let w := s.reg (Reg.MC_TC0WIN m)
  let len := getF value F.MC_TC0CTL_LEN
  let en := getF value F.MC_TC0CTL_EN == 1
  .next (if s.hasMc m then
    let s0 := if getF value F.MC_TC0CTL_WRREJ = 1 then s.setFlag a F.MC_TC0CTL_WRREJ false else s
    let s1 := s0.setFld a F.MC_TC0CTL_CAP (getF value F.MC_TC0CTL_CAP)
    if s.flag a F.MC_TC0CTL_EN && en then
      (if len = s.fld a F.MC_TC0CTL_LEN then s1 else s1.setFlag a F.MC_TC0CTL_WRREJ true)
    else
      let s2 := s1.setFld a F.MC_TC0CTL_LEN len
      let bad := en && winBad (getF w F.MC_TC0WIN_PERIOD) (getF w F.MC_TC0WIN_OFFSET) len
      (s2.setFlag a F.MC_TC0CTL_EN (en && !bad)).setFlag a F.MC_TC0CTL_BADCFG bad
  else s)

/-! ### Command and write failures (R313) -/

/-- A mirror partner is lost: both controllers of a pair with a mirrored region that remain present set DEGRADED (R318). -/
def State.degrade (s : State) (m : Nat) : State :=
  let p := m % 6
  if s.regions.any (fun g => covering g && getF g.1 F.CHIP_DRAMRGN_MIRROR == 1 && (rgnAll g).contains p) then
    (s.setFlag (Reg.MC_STAT p) F.MC_STAT_DEGRADED true).setFlag (Reg.MC_STAT (p + 6)) F.MC_STAT_DEGRADED true
  else s

/-- One failed attempt; the fourth in a row fails the controller, whose endpoint is declared DEAD. -/
def State.mcRetry (s : State) (m writes : Nat) : State :=
  let n := (s.chan m).retries + 1
  let s1 := ((s.modChan m (fun x => { x with retries := n })).bump (Reg.MC_RETRYCNT m) F.MC_RETRYCNT_RETRIES 1).corrected (unitMc m) 1
  if n < 4 then s1
  else
    let lost := writes + (s.chan m).recov.length
    let s2 := ((s1.setFlag (Reg.MC_ERRSTAT m) F.MC_ERRSTAT_RETRYFAIL true).setMc m mcFailed).bump (Reg.MC_RETRYCNT m) F.MC_RETRYCNT_LOST lost
    ((s2.modChan m (fun x => { x with recov := [], mirrorQ := [], held := [], window := none })).kill (epMc m) 3).degrade m

/-- ALERT_N (R313): with CAPAR = 1. -/
def execAlertN (m writes : Nat) (s : State) : Res :=
  .next (if s.mcServes m && s.flag (Reg.MC_CFG m) F.MC_CFG_CAPAR then s.mcRetry m writes else s)

/-- WRITE_CRC_ERROR (R313): with WRCRC = 1. -/
def execWriteCrcError (m writes : Nat) (s : State) : Res :=
  .next (if s.mcServes m && s.flag (Reg.MC_CFG m) F.MC_CFG_WRCRC then s.mcRetry m writes else s)

end Sys2Proof.Machine
end

