-- ==== Sys2Proof/Machine/Time.lean ====
section
/-!
DEFINITION. Tide time (R343 to R347): the time keeper, steps and slews, the servo, the pulse input and output, and the system reference (R55, R344).
-/
namespace Sys2Proof.Machine

/-- The clamp of R343, in units of 2^-32. -/
def ttClamp : Int := 2147483

/-- A value limited to the clamp. -/
def clampRate (v : Int) : Int := if ttClamp < v then ttClamp else if v < -ttClamp then -ttClamp else v

/-- A low field as a signed number. -/
def signed (w v : Nat) : Int := if 2 ^ (w - 1) ≤ v % 2 ^ w then (v % 2 ^ w : Int) - 2 ^ w else (v % 2 ^ w : Nat)

/-- The effective RATE. -/
def State.rate (s : State) : Int := clampRate (signed 32 (s.fld Reg.CHIP_TTRATE F.CHIP_TTRATE_RATE))

/-- The room that the clamp leaves a slew in its own direction (R347), units per ns of the reference. -/
def State.slewRoom (s : State) : Nat :=
  (if 0 ≤ s.time.slew then ttClamp - s.rate else ttClamp + s.rate).toNat

/-- Set tide time. -/
def State.setNow (s : State) (t : Nat) : State := s.setReg Reg.CHIP_TTNOW (BitVec.ofNat 64 t)

/-- `n` ns of the system reference pass (R343): tide time gains its rate and what the slew's room allows of the slew. -/
def State.passTime (s : State) (n : Nat) : State :=
  if !s.time.refOn then s
  else
    let part : Nat := min s.time.slew.natAbs (n * s.slewRoom)
    let step : Int := if 0 ≤ s.time.slew then part else -(part : Int)
    let total : Int := (s.now : Int) * 2 ^ 32 + s.time.frac + n * (2 ^ 32 + s.rate) + step
    let rest := s.time.slew - step
    let s1 := { s with time := { s.time with frac := (total % 2 ^ 32).toNat, slew := rest } }
    let s2 := s1.setNow (total / 2 ^ 32).toNat
    if rest = 0 then s2.setFlag Reg.CHIP_TTSTAT F.CHIP_TTSTAT_SLEWING false else s2

/-- Tokens that a stream delivers in the nanosecond that begins `ph` ns after a coincidence (R46, R48, R55): none while stream A's synthesiser is not
locked; stream B at 1.250 GHz has five in four nanoseconds, two of them in the first; otherwise one. -/
def State.tokensIn (s : State) (rateB : Bool) (ph : Nat) : Nat :=
  if !s.flag Reg.CHIP_PACESTAT F.CHIP_PACESTAT_LOCKA then 0
  else if rateB && s.flag Reg.CHIP_PACESTAT F.CHIP_PACESTAT_BFAST && ph == 0 then 2
  else 1

/-- `cycle` of the flood-mode cores that are not halted gains the tokens of a nanosecond (R63). A slack-water core's tokens are counted as its
instructions issue (notes/assumptions/15.md). -/
def State.countCycles (s : State) : State :=
  s.mapCores (fun _ c => if c.run = .run ∧ c.isSlack = false then c.addCycles (s.tokensIn (c.csrBit C.pacectl 1) s.time.cophase) else c)

/-- One nanosecond of the reference: what a step does when no command waits (notes/assumptions/15.md). -/
def State.tick (s : State) : State :=
  if s.time.refOn then
    let s1 := s.countCycles
    ({ s1 with time := { s1.time with cophase := (s1.time.cophase + 1) % 4 } }).passTime 1
  else s

/-- Some tide table of a present field engine is ARMED, RUNNING or STOPPING. -/
def State.tablesActive (s : State) : Bool :=
  [0, 1].any (fun e => s.hasFe e && (List.range 8).any (fun k => s.fld (Reg.FE_TTSTAT e k) F.FE_TTSTAT_STATE != 0))

/-- Tide time is stepped by a signed amount, in one instant; cores whose compares it reaches may wake (R184, R347). -/
def State.stepTime (s : State) (d : Int) : State :=
  let s1 := s.setNow (((s.now : Int) + d) % 2 ^ 64).toNat
  s1.cores.foldl (fun s e => s.wakeHalt e.1) s1

/-- ROLE of CHIP_TTCTL. -/
def State.ttRole (s : State) : Nat := s.fld Reg.CHIP_TTCTL F.CHIP_TTCTL_ROLE

/-- The REJCODE that refuses an adjustment (R347), in the order of the rule. -/
def State.adjRefusal (s : State) (step : Bool) : Option Nat :=
  if s.ttRole = 1 ∨ s.ttRole = 3 then some 2
  else if step && s.tablesActive then some 1
  else if s.flag Reg.CHIP_TTSTAT F.CHIP_TTSTAT_SLEWING then some 3
  else none

/-- A CHIP_TTADJ write acts (R347); an OFFSET of 0 applies and refuses nothing. The staged lower half is cleared. -/
def State.ttAdjust (s : State) (offset : Nat) (step : Bool) : State :=
  let s0 := { s with time := { s.time with stage := 0 } }
  let d := signed 48 offset
  if d = 0 then s0
  else match s0.adjRefusal step with
    | some c => (s0.setFlag Reg.CHIP_TTSTAT F.CHIP_TTSTAT_REJ true).setFld Reg.CHIP_TTSTAT F.CHIP_TTSTAT_REJCODE c
    | none =>
      if step then s0.stepTime d
      else { s0 with time := { s0.time with slew := d * 2 ^ 32 } }.setFlag Reg.CHIP_TTSTAT F.CHIP_TTSTAT_SLEWING true

/-- TTADJ_STEP, TTADJ_SLEW, TTADJ_LOWER_HALF (R347). -/
def execTtadjStep (offset : Nat) (s : State) : Res := .next (s.ttAdjust offset true)
def execTtadjSlew (offset : Nat) (s : State) : Res := .next (s.ttAdjust offset false)
def execTtadjLowerHalf (value : Nat) (s : State) : Res := .next { s with time := { s.time with stage := value % 2 ^ 32 } }

/-- SLEW_END (R347): the time that the rest of the slew takes passes; a slew with no room makes no progress. -/
def execSlewEnd (s : State) : Res :=
  .next (if s.time.slew ≠ 0 ∧ 0 < s.slewRoom then s.passTime ((s.time.slew.natAbs + s.slewRoom - 1) / s.slewRoom) else s)

/-! ### The servo (R345, R346) -/

/-- The servo's states. -/
def svFree : Nat := 0
def svAcquire : Nat := 1
def svLocked : Nat := 2
def svHoldover : Nat := 3
def State.servo (s : State) : Nat := s.fld Reg.CHIP_TTSTAT F.CHIP_TTSTAT_STATE

/-- The servo enters a state; a change sets CHG. -/
def State.setServo (s : State) (v : Nat) : State :=
  if s.servo = v then s
  else ({ s with time := { s.time with good := 0, missing := 0 } }.setFld Reg.CHIP_TTSTAT F.CHIP_TTSTAT_STATE v).setFlag
    Reg.CHIP_TTSTAT F.CHIP_TTSTAT_CHG true

/-- LOCKTHR; 0 acts as 1. -/
def State.lockThr (s : State) : Nat := max 1 (s.fld Reg.CHIP_TTSERVO F.CHIP_TTSERVO_LOCKTHR)

/-- The state row of R346 for a measurement. -/
def State.servoNext (s : State) (off : Int) : State :=
  let n := off.natAbs
  if s.servo = svFree ∨ s.servo = svHoldover then s.setServo svAcquire
  else if s.servo = svAcquire then
    let g := if n < s.lockThr then s.time.good + 1 else 0
    let s1 := { s with time := { s.time with good := g } }
    if 16 ≤ g then s1.setServo svLocked else s1
  else if 4 * s.lockThr ≤ n then s.setServo svAcquire
  else s

/-- A measurement: the offset is recorded, the state follows R346, and the offset is removed by one step where that is allowed, else by a new RATE. The
law's arithmetic is not stated beyond its gains and its clamp: RATE is a free value within the clamp (notes/assumptions/3.md). -/
def State.measure (s : State) (off : Int) : State :=
  let s0 := { s with time := { s.time with missing := 0 } }.setReg Reg.CHIP_TTOFFSET (BitVec.ofInt 64 off)
  let s1 := s0.servoNext off
  if s1.servo = svAcquire ∧ 1000 * s1.fld Reg.CHIP_TTSERVO F.CHIP_TTSERVO_STEPTHR < off.natAbs ∧ s1.tablesActive = false then s1.stepTime (-off)
  else
    let q := s1.draw 32
    q.2.setFld Reg.CHIP_TTRATE F.CHIP_TTRATE_RATE (BitVec.ofInt 32 (clampRate (signed 32 q.1.toNat))).toNat

/-- SERVO_MEASUREMENT (R345, R346, R352): ROLE 1, on the follower lane, whose port is a slave port. -/
def execServoMeasurement (lane : Nat) (offset : Int) (s : State) : Res :=
  .next (if s.ttRole = 1 ∧ s.fld Reg.CHIP_TTPORT F.CHIP_TTPORT_LANE = lane ∧
      s.fld (Reg.FLN_PTPCTL (lane / 24) (lane % 24)) F.FLN_PTPCTL_ROLE = 2 ∧
      s.fld (Reg.FLN_STAT (lane / 24) (lane % 24)) F.FLN_STAT_STATE = 5 then s.measure offset else s)

/-- PPS_EDGE (R345, R657): in role 3 the pulse is a whole second of tide time. -/
def execPpsEdge (s : State) : Res :=
  .next (if s.ttRole = 3 ∧ s.flag Reg.CHIP_TTPPS F.CHIP_TTPPS_PPSIN = true then
    s.measure ((((s.now + 500000000) % 1000000000 : Nat) : Int) - 500000000)
  else s)

/-- The servo has lost its source: HOLDOVER from ACQUIRE or LOCKED. -/
def State.holdover (s : State) : State :=
  if s.servo = svAcquire ∨ s.servo = svLocked then s.setServo svHoldover else s

/-- MEASUREMENT_MISSING (R346): HOLDN of them in a row; 0 acts as 1. -/
def execMeasurementMissing (s : State) : Res :=
  .next (if (s.ttRole = 1 ∨ s.ttRole = 3) ∧ (s.servo = svAcquire ∨ s.servo = svLocked) then
    let n := s.time.missing + 1
    let s1 := { s with time := { s.time with missing := n } }
    if max 1 (s.fld Reg.CHIP_TTSERVO F.CHIP_TTSERVO_HOLDN) ≤ n then s1.holdover else s1
  else s)

/-- TTCTL_ROLE_WRITE (R346). -/
def execTtctlRoleWrite (value : Word) (s : State) : Res :=
  .next ((s.writeReg Reg.CHIP_TTCTL 8 value).setServo svFree)

/-- PPS_OUTPUT (R345, R657): high for 100 µs from a whole second of tide time. -/
def execPpsOutput (s : State) : Res :=
  .next (if s.flag Reg.CHIP_TTPPS F.CHIP_TTPPS_PPSOUT then { s with time := { s.time with ppsEnd := s.now + 100000 } } else s)

/-! ### The system reference (R55, R344) -/

/-- SYSTEM_REFERENCE_STOP (R55, R344, R554): the streams end and tide time stops. -/
def execSystemReferenceStop (s : State) : Res :=
  let a := Reg.CHIP_PACESTAT
  .next (if s.time.refOn then
    let s1 := (((s.setFlag a F.CHIP_PACESTAT_LOST true).setFlag a F.CHIP_PACESTAT_LOCKA false).setFlag a F.CHIP_PACESTAT_LOCKB false).setFlag
      a F.CHIP_PACESTAT_BFAST false
    let s2 := (s1.detect { unit := unitPace, sev := some 10, detail := 0 }).detect { unit := unitPace, sev := some 10, detail := 1 }
    let s3 := { s2 with time := { s2.time with refOn := false } }.setFlag Reg.CHIP_TTSTAT F.CHIP_TTSTAT_LOST true
    (s3.setServo svFree).paceLoss false
  else s)

/-- SYSTEM_REFERENCE_RETURN (R344): tide time goes on from the stopped value. -/
def execSystemReferenceReturn (s : State) : Res :=
  .next (if s.time.refOn then s else { s with time := { s.time with refOn := true } }.setServo svFree)

end Sys2Proof.Machine
end

