-- ==== Sys2Proof/Machine/Dirty.lean ====
section
/-!
DEFINITION. Partitions (chapter 19): the dirty log (R514 to R517), the classes' registers (R507, R513), memory tokens (R509), and the PART reset (R520).
-/
namespace Sys2Proof.Machine

/-! ### The dirty log -/

/-- The log of partition `p` is on. -/
def State.logging (s : State) (p : Nat) : Bool := s.flag (Reg.PRT_DLCFG p) F.PRT_DLCFG_EN

/-- The base of the current buffer (R515). -/
def State.logBase (s : State) (p : Nat) : Nat :=
  4096 * getF (s.reg (if s.flag (Reg.PRT_DLCFG p) F.PRT_DLCFG_CUR then Reg.PRT_DLBUF1 p else Reg.PRT_DLBUF0 p)) ⟨12, 36⟩

/-- The indivisible OR that marks page `g` (R515), from router `r`: outside the log it sets OUT, where it fails it sets ERR. No partition ebb refuses it
(R524). -/
def State.logPage (s : State) (r p g : Nat) : State :=
  if !s.logging p then s
  else if 2 ^ s.fld (Reg.PRT_DLCFG p) F.PRT_DLCFG_LOG2PAGES ≤ g then s.setFlag (Reg.PRT_DLCFG p) F.PRT_DLCFG_OUT true
  else
    let a := s.logBase p + g / 8
    if s.engReach r a 1 then
      let q := s.engRead p a 1
      q.2.2.engWrite p a (q.1.map (fun b => b ||| ((1 : Byte) <<< (g % 8)))) q.2.1
    else s.setFlag (Reg.PRT_DLCFG p) F.PRT_DLCFG_ERR true

/-- The 4 KiB pages that `n` bytes at `a` touch. -/
def pagesOf (a n : Nat) : List Nat := if n = 0 then [] else (List.range ((a + n - 1) / 4096 - a / 4096 + 1)).map (a / 4096 + ·)

/-- Log a write by guest-physical address (R514). -/
def State.logGpa (s : State) (r p a n : Nat) : State := (pagesOf a n).foldl (fun s g => s.logPage r p g) s

/-- Log a field engine's write by physical address, into DRAM only (R514). -/
def State.logPa (s : State) (r p a n : Nat) : State :=
  if regionOf a = .dram ∧ s.logging p = true then
    let o := getF (s.reg (Reg.PRT_DLPOFF p)) ⟨12, 36⟩
    (pagesOf a n).foldl (fun s g => if g < o then s.setFlag (Reg.PRT_DLCFG p) F.PRT_DLCFG_OUT true else s.logPage r p (g - o)) s
  else s

/-- DIRTY_LOG_UPDATE (R515): an update of one page reaches its home, or fails. -/
def execDirtyLogUpdate (part page : Nat) (ok : Bool) (s : State) : Res :=
  .next (if 64 ≤ part then s
  else if ok then s.logPage svcRouter part page
  else if s.logging part then s.setFlag (Reg.PRT_DLCFG part) F.PRT_DLCFG_ERR true else s)

/-- SWAP (R516): every update is performed with its write, so none is left for the old buffer and SWAP reads 0 at once. -/
def State.logSwap (s : State) (p : Nat) : State :=
  if s.logging p then s.setFlag (Reg.PRT_DLCFG p) F.PRT_DLCFG_CUR (!s.flag (Reg.PRT_DLCFG p) F.PRT_DLCFG_CUR) else s

/-- DIRTY_LOG_SWAP (R516). -/
def execDirtyLogSwap (part : Nat) (s : State) : Res := .next (if part < 64 then s.logSwap part else s)

/-- The checks of R517 on a log of `lg` pages. -/
def State.logRefused (s : State) (p lg : Nat) : Bool :=
  let n := 2 ^ (lg - 3)
  let b0 := (s.reg (Reg.PRT_DLBUF0 p)).toNat
  let b1 := (s.reg (Reg.PRT_DLBUF1 p)).toNat
  let inDram (b : Nat) : Bool := regionOf b == .dram && regionOf (b + n - 1) == .dram
  decide (lg < 12) || decide (31 < lg) || b0 % 4096 != 0 || b1 % 4096 != 0 || !inDram b0 || !inDram b1 || overlaps (b0, b0 + n) (b1, b1 + n)

/-- A write of PRT_DLCFG (R517, R526): its W1C bits, then EN with its checks; LOG2PAGES keeps its value while EN = 1. -/
def State.writeDlcfg (s : State) (p : Nat) (v : Word) : State :=
  let a := Reg.PRT_DLCFG p
  let on := s.logging p
  let s1 := s.setReg a (s.reg a &&& ~~~ (v &&& 0x38))
  let lg := getF v F.PRT_DLCFG_LOG2PAGES
  let s2 := if on then s1 else s1.setFld a F.PRT_DLCFG_LOG2PAGES lg
  let s3 := if getF v F.PRT_DLCFG_EN = 0 then s2.setFlag a F.PRT_DLCFG_EN false
    else if on then s2
    else if s2.logRefused p lg then s2.setFlag a F.PRT_DLCFG_REJ true
    else s2.setFlag a F.PRT_DLCFG_EN true
  if getF v F.PRT_DLCFG_SWAP = 1 ∧ on = true then s3.logSwap p else s3

/-- DIRTY_LOG_ENABLE (R517). -/
def execDirtyLogEnable (part : Nat) (value : Word) (s : State) : Res := .next (if part < 64 then s.writeDlcfg part value else s)

/-! ### Classes and tokens -/

/-- PRT_PCFG_WRITE (R507, R513): every copy is updated; a changed CEIL evaluates the offers of the partition's sources again. -/
def execPrtPcfgWrite (part : Nat) (value : Word) (s : State) : Res :=
  .next (if part < 64 then (s.writeReg (Reg.PRT_PCFG part) 8 value).settle else s)

/-- DEPTH of a class bucket; 0 acts as 1 (R526). -/
def State.memDepth (s : State) (m k : Nat) : Nat := max 1 (s.fld (Reg.PRT_MEMTOK m k) F.PRT_MEMTOK_DEPTH)

/-- MEMORY_TOKEN_ACCRUAL (R509): every class bucket gains RATE tokens up to DEPTH, then waiting requests are scheduled. -/
def execMemoryTokenAccrual (m : Nat) (s : State) : Res :=
  .next (if s.hasMc m then
    let s1 := (List.range 16).foldl (fun s k =>
      s.setMemTokens (tokKey m k) (min (s.memDepth m k) (s.memTokens (tokKey m k) + s.fld (Reg.PRT_MEMTOK m k) F.PRT_MEMTOK_RATE))) s
    s1.serveHeld m (s1.chan m).held []
  else s)

/-- A write of PRT_MEMTOK (R524): tokens held are kept up to the new DEPTH; waiting requests follow the new values. -/
def State.writeMemtok (s : State) (m k width : Nat) (v : Word) : State :=
  let s1 := s.writeReg (Reg.PRT_MEMTOK m k) width v
  let s2 := s1.setMemTokens (tokKey m k) (min (s1.memDepth m k) (s1.memTokens (tokKey m k)))
  s2.serveHeld m (s2.chan m).held []

/-! ### PART reset (R520) -/

/-- A core is asked now; one in RETAIN through its always-on path, one whose domain is OFF or whose endpoint is fenced or dead is answered for (R214). -/
def State.coreHears (s : State) (k : Nat) : Bool :=
  s.coreAnswers svcRouter k || (s.core k).run == .retain

/-- The requests of a PART reset. -/
def State.partReset (s : State) (p : Nat) : State :=
  s.sendAll (s.presentCores.map (fun k => if s.coreHears k then Msg.partReset p k else Msg.partResetAck p k))

/-- PRT_PRST (R520): a GO while GO reads 1 is ignored. -/
def execPrtPrst (value : Word) (s : State) : Res :=
  let a := Reg.PRT_PRST
  let s1 := if getF value F.PRT_PRST_DONE = 1 then s.setFlag a F.PRT_PRST_DONE false else s
  .next (if s.flag a F.PRT_PRST_GO then s1
  else
    let p := getF value F.PRT_PRST_PART
    let s2 := s1.setFld a F.PRT_PRST_PART p
    if getF value F.PRT_PRST_GO = 1 then (s2.setFlag a F.PRT_PRST_GO true).partReset p else s2)

/-- A core applies a PART reset: the partition's entries go, locked ones and copies included, and its four keys are regenerated (R147, R216). -/
def State.applyPartReset (s : State) (n p : Nat) : State :=
  let mine (o : Owner) : Bool := match o with | .part q => q == p | _ => false
  (s.modCore n (fun c => c.tlbRemove (fun e => mine e.owner) (fun e => e.part == p))).regenKeys n (partKeys p)

/-- PART_RESET_RECEIPT (R520): a core in RETAIN holds the request until it leaves RETAIN (RETAIN_RESTORED), and its always-on path acknowledges. -/
def execPartResetReceipt (part core : Nat) (s : State) : Res :=
  .next (if !s.hasCore core then s
  else
    let s1 := (s.recv (.partReset part core)).send (.partResetAck part core)
    if (s.core core).run = .retain then { s1 with retainPrst := s1.retainPrst ++ [(core, part)] } else s1.applyPartReset core part)

/-- PART_RESET_DONE (R520): an acknowledgement arrives; with the last one GO reads 0 and DONE is set. -/
def execPartResetDone (core : Nat) (s : State) : Res :=
  let p := s.fld Reg.PRT_PRST F.PRT_PRST_PART
  let s1 := s.recv (.partResetAck p core)
  .next (if !s.flag Reg.PRT_PRST F.PRT_PRST_GO then s1
  else if s1.net.any (fun m => match m with | .partReset q _ => q == p | .partResetAck q _ => q == p | _ => false) then s1
  else (s1.setFlag Reg.PRT_PRST F.PRT_PRST_GO false).setFlag Reg.PRT_PRST F.PRT_PRST_DONE true)

end Sys2Proof.Machine
end

