-- ==== Sys2Proof/Machine/Lane.lean ====
section
/-!
DEFINITION. Field lanes (chapter 12): lane states (R329 to R331, R342), the transmit queues with gates and preemption (R334 to R339), gPTP ports (R348,
R349), and the transmit equaliser (R669). A lane is named by its global number.
-/
namespace Sys2Proof.Machine

/-! ### Names -/

/-- Registers of a lane and of its quad. -/
def lnCtl (l : Nat) : Nat := Reg.FLN_CTL (l / 24) (l % 24)
def lnStat (l : Nat) : Nat := Reg.FLN_STAT (l / 24) (l % 24)
def lnQcfg (l : Nat) : Nat := Reg.FLN_QCFG (l / 24) (l % 24)
def lnGclctl (l : Nat) : Nat := Reg.FLN_GCLCTL (l / 24) (l % 24)
def qdCtl (q : Nat) : Nat := Reg.FLN_QCTL (q / 6) (q % 6)
def qdStat (q : Nat) : Nat := Reg.FLN_QSTAT (q / 6) (q % 6)

def State.lane (s : State) (l : Nat) : Lane := Tbl.get (fun _ => {}) s.lanes l
def State.setLane (s : State) (l : Nat) (x : Lane) : State := { s with lanes := Tbl.set (fun _ => {}) s.lanes l x }
def State.modLane (s : State) (l : Nat) (f : Lane → Lane) : State := s.setLane l (f (s.lane l))
def State.fastSt (s : State) (l : Nat) : FastSt := Tbl.get (fun _ => {}) s.fast l
def State.setFast (s : State) (l : Nat) (x : FastSt) : State := { s with fast := Tbl.set (fun _ => {}) s.fast l x }
def State.modFast (s : State) (l : Nat) (f : FastSt → FastSt) : State := s.setFast l (f (s.fastSt l))
def State.fn (s : State) (k : Nat) : Fn := Tbl.get (fun _ => {}) s.fns k
def State.setFn (s : State) (k : Nat) (x : Fn) : State := { s with fns := Tbl.set (fun _ => {}) s.fns k x }
def State.modFn (s : State) (k : Nat) (f : Fn → Fn) : State := s.setFn k (f (s.fn k))

/-- Whether a lane exists: its quad is present. -/
def State.hasLane (s : State) (l : Nat) : Bool := s.hasQuad (l / 4)

/-- Lane states (R342): 0 DISABLED, 1 AN, 2 TRAIN, 3 ACQ, 4 HOLD, 5 UP. -/
def State.lnState (s : State) (l : Nat) : Nat := s.fld (lnStat l) F.FLN_STAT_STATE
def State.laneUp (s : State) (l : Nat) : Bool := s.lnState l == 5
/-- Mode of a quad: 0 N, 1 K, 2 L. -/
def State.quadMode (s : State) (q : Nat) : Nat := s.fld (qdCtl q) F.FLN_QCTL_MODE
def State.preact (s : State) (l : Nat) : Bool := s.flag (lnStat l) F.FLN_STAT_PREACT
def State.fastLane (s : State) (l : Nat) : Bool := s.flag (lnStat l) F.FLN_STAT_FAST
/-- Pair A or B of a lane is active (R341). -/
def State.paired (s : State) (l : Nat) : Bool :=
  s.flag (qdCtl (l / 4)) (if l % 4 < 2 then F.FLN_QCTL_PAIRA else F.FLN_QCTL_PAIRB)
/-- MAXFRAME; values outside 64 to 2,000 act as the nearer limit (R352). -/
def State.maxFrame (s : State) (l : Nat) : Nat := max 64 (min 2000 (s.fld (lnCtl l) F.FLN_CTL_MAXFRAME))

/-! ### Completion of a frame's owner -/

/-- A bulk frame has ended: its completions wait to be written (R401). -/
def State.bulkEnd (s : State) (l : Nat) (f : TxFrame) (code sent tstamp : Nat) : State :=
  match f.body with
  | .bulk fn descs => s.modFn (128 * (l / 24) + fn) (fun x => { x with fin := x.fin ++ [{ descs := descs, code := code, sent := sent, tstamp := tstamp }] })
  | _ => s

/-- A frame is discarded because its lane is not in UP (R342): counted, a bulk frame with LINKDOWN. -/
def State.dropFrame (s : State) (l : Nat) (f : TxFrame) : State :=
  (s.bump (Reg.FLN_TXDROP (l / 24) (l % 24)) ⟨0, 32⟩ 1).bulkEnd l f 4 0 0

/-! ### Holding, gates and preemption (R334 to R339) -/

/-- A fast-station output. -/
def isFastOut (f : TxFrame) : Bool := match f.body with | .tide _ true => true | _ => false

/-- A frame that a fast lane without active preemption holds (R339). -/
def State.holds (s : State) (l : Nat) (f : TxFrame) : Bool :=
  s.fastLane l && !s.preact l && !isFastOut f && decide (123 < f.len)

/-- Count the frames that have come to be held, once each. -/
def State.noteHeld (s : State) (l : Nat) : State :=
  let x := s.lane l
  let n := (x.queue.filter (fun f => s.holds l f && !f.held)).length
  if n = 0 then s
  else (s.setLane l { x with queue := x.queue.map (fun f => { f with held := f.held || s.holds l f }) }).bump
    (Reg.FLN_HELD (l / 24) (l % 24)) ⟨0, 32⟩ n

/-- Queue a frame on a lane; a lane that is not in UP discards it. -/
def State.enqueue (s : State) (l : Nat) (f : TxFrame) : State :=
  if s.laneUp l then (s.modLane l (fun x => { x with queue := x.queue ++ [f] })).noteHeld l else s.dropFrame l f

/-- The order in which the transmitter serves a frame's queue (R334). -/
def txClass (f : TxFrame) : Nat :=
  match f.body with
  | .tide _ true => 0
  | .tide _ false => 1
  | .marker => 1
  | .ptp _ => 2
  | .bulk _ _ => 10 - min 7 f.q

/-- Whether a frame is sent preemptable (R338, R339). -/
def State.preemptable (s : State) (l : Nat) (f : TxFrame) : Bool :=
  s.preact l &&
    (if s.fastLane l then !isFastOut f
     else match f.body with
       | .bulk _ _ => getB (s.reg (lnQcfg l)) (24 + min 7 f.q)
       | _ => false)

/-- Entries of the operating bank: gates and interval (R353). -/
def State.gclEntries (s : State) (l : Nat) (g : Gcl) : List (Nat × Nat) :=
  let b := s.flag (lnGclctl l) F.FLN_GCLCTL_OPERBANK
  (List.range (min 128 g.len)).map (fun n =>
    let w := s.reg (if b then Reg.FLN_GCL1 (l / 24) (l % 24) n else Reg.FLN_GCL0 (l / 24) (l % 24) n)
    (getF w ⟨0, 8⟩, getF w ⟨32, 32⟩))

/-- The intervals of a list within its cycle: gates, start, end (R336). Entries of interval 0 are skipped, the list is cut at the end of the cycle. -/
def gclSpans (cycle : Nat) : Nat → List (Nat × Nat) → List (Nat × Nat × Nat)
  | _, [] => []
  | t, (g, i) :: r =>
    if cycle ≤ t then []
    else if i = 0 then gclSpans cycle t r
    else (g, t, min cycle (t + i)) :: gclSpans cycle (t + i) r

/-- The last interval is extended to the end of the cycle. -/
def extendLast (cycle : Nat) : List (Nat × Nat × Nat) → List (Nat × Nat × Nat)
  | [] => []
  | [(g, a, _)] => [(g, a, cycle)]
  | x :: r => x :: extendLast cycle r

def State.spans (s : State) (l : Nat) (g : Gcl) : List (Nat × Nat × Nat) := extendLast g.cycle (gclSpans g.cycle 0 (s.gclEntries l g))

/-- Gates in force: all open unless FLN_GCLCTL.EN and an operating list. -/
def State.gateOpen (s : State) (l q : Nat) : Bool :=
  !s.flag (lnGclctl l) F.FLN_GCLCTL_EN || (s.lane l).oper.isNone || bitAt (s.lane l).gates q

/-- When the open gate of queue `q` closes next, as tide time; none where it stays open. -/
def State.gateCloses (s : State) (l q : Nat) : Option Nat :=
  let x := s.lane l
  match x.oper with
  | none => none
  | some g =>
    if !s.flag (lnGclctl l) F.FLN_GCLCTL_EN then none
    else
      let sp := s.spans l g
      let closed (p : Nat × Nat × Nat) : Bool := !bitAt p.1 q
      match (sp.drop (x.entry + 1)).find? closed with
      | some p => some (x.cycleStart + p.2.1)
      | none => (sp.find? closed).map (fun p => x.cycleStart + g.cycle + p.2.1)

/-- Time on the wire of a frame with its preamble, ns: 0.8 ns a byte, 8 ns in mode L. -/
def State.wireTime (s : State) (l n : Nat) : Nat :=
  if s.quadMode (l / 4) = 2 then 8 * (n + 8) else ((n + 8) * 8 + 9) / 10

/-- A frame may start at `stamp`: not held, its gate open, and its end before the gate closes. -/
def State.maySend (s : State) (l stamp : Nat) (f : TxFrame) : Bool :=
  !s.holds l f &&
    (match f.body with
     | .bulk _ _ => s.gateOpen l (min 7 f.q) &&
         (match s.gateCloses l (min 7 f.q) with | some t => decide (stamp + s.wireTime l f.len ≤ t) | none => true)
     | _ => true)

/-- The heads of the queues: of each class the first frame that is not held. -/
def State.heads (s : State) (l : Nat) : List TxFrame → List Nat → List TxFrame
  | [], _ => []
  | f :: r, seen =>
    if s.holds l f || seen.contains (txClass f) then s.heads l r seen else f :: s.heads l r (txClass f :: seen)

/-- The first of a list of frames by class. -/
def firstClass : List TxFrame → Option TxFrame
  | [] => none
  | f :: r => match firstClass r with
    | none => some f
    | some g => if txClass g < txClass f then some g else some f

/-- The frame that the transmitter picks; `express`: among express frames only. -/
def State.pickFrame (s : State) (l stamp : Nat) (express : Bool) : Option TxFrame :=
  firstClass ((s.heads l (s.lane l).queue []).filter (fun f => s.maySend l stamp f && !(express && s.preemptable l f)))

/-- A measured loop (R432): LAST, MAX, LOOPS, and OVER against LIMIT. The first lane of a pair measures it. -/
def State.measureLoop (s : State) (slot inStamp outStamp : Nat) : State :=
  let x := s.fastSt slot
  if x.last = some inStamp then s
  else
    let e := slot / 24
    let i := slot % 24
    let t := min 0xFFFF (outStamp - inStamp)
    let a := Reg.FE_FSLOOP e i
    let s1 := (s.setFast slot { x with last := some inStamp }).setFld a F.FE_FSLOOP_LAST t
    let s2 := (s1.setFld a F.FE_FSLOOP_MAX (max t (s1.fld a F.FE_FSLOOP_MAX))).bump (Reg.FE_FSCNT e i) F.FE_FSCNT_LOOPS 1
    let lim := s2.fld (Reg.FE_FSCFG e i) F.FE_FSCFG_LIMIT
    if lim ≠ 0 ∧ lim < t then
      (s2.setFlag (Reg.FE_FSSTAT e i) F.FE_FSSTAT_OVER true).bump (Reg.FE_FSCNT e i) F.FE_FSCNT_OVERCNT 1
    else s2

/-- The slot of a station: the lane its entry names. -/
def State.stnLane (s : State) (e st : Nat) : Nat := getF (s.reg (Reg.STN_SLOT e st 0)) ⟨8, 8⟩

/-- A frame begins transmission. -/
def State.startFrame (s : State) (l stamp : Nat) (f : TxFrame) : State :=
  let s1 := s.modLane l (fun x => { x with queue := x.queue.erase f, cur := some { f with first := stamp } })
  match f.body, f.meas with
  | .tide st true, some t => s1.measureLoop (s.stnLane (l / 24) st) t stamp
  | _, _ => s1

/-- The transmitter picks again: with a frame preempted, an express frame or the rest of that frame. -/
def State.pickNext (s : State) (l stamp : Nat) : State :=
  let s0 := s.noteHeld l
  match (s0.lane l).susp with
  | some p => match s0.pickFrame l stamp true with
    | some f => s0.startFrame l stamp f
    | none => s0.modLane l (fun x => { x with susp := none, cur := some p })
  | none => match s0.pickFrame l stamp false with
    | some f => s0.startFrame l stamp f
    | none => s0

/-- FRAME_TRANSMIT_END (R334, R338, R342, R401): a frame has left, or a fragment of a preemptable frame that an express frame cuts; the next begins. -/
def execFrameTransmitEnd (lane stamp : Nat) (fragment : Bool) (s : State) : Res :=
  let x := s.lane lane
  let cnt := Reg.FLN_TXCNT (lane / 24) (lane % 24)
  .next (if !s.laneUp lane then s
  else match x.cur with
    | none => s.pickNext lane stamp
    | some c =>
      if fragment && s.preemptable lane c && (s.pickFrame lane stamp true).isSome then
        ((s.setLane lane { x with cur := none, susp := some { c with frag := true } }).bump cnt F.FLN_TXCNT_FRAG 1).pickNext lane stamp
      else
        let s1 := (s.setLane lane { x with cur := none }).bump cnt F.FLN_TXCNT_TX 1
        let s2 := if c.frag then s1.bump cnt F.FLN_TXCNT_FRAG 1 else s1
        (s2.bulkEnd lane c 0 c.len c.first).pickNext lane stamp)

/-! ### Gate control lists (R336, R337) -/

/-- Begin interval `k` of the operating list of a lane. A list with no interval gives no gates: they are a free value. -/
def State.enterSpan (s : State) (l k : Nat) (start : Nat) (g : Gcl) : State :=
  match (s.spans l g)[k]? with
  | some p => s.modLane l (fun x => { x with entry := k, gates := p.1, gateEnd := p.2.2, cycleStart := start })
  | none =>
    let q := s.draw 8
    q.2.modLane l (fun x => { x with entry := 0, gates := q.1.toNat, gateEnd := g.cycle, cycleStart := start })

/-- GATE_INTERVAL_END (R336): the operating list runs on while EN = 0, with every gate open. -/
def execGateIntervalEnd (lane : Nat) (s : State) : Res :=
  let x := s.lane lane
  .next (match x.oper with
    | none => s
    | some g =>
      if x.entry + 1 < (s.spans lane g).length then s.enterSpan lane (x.entry + 1) x.cycleStart g
      else s.enterSpan lane 0 (x.cycleStart + g.cycle) g)

/-- The first boundary of the running cycle at or after a time; the time itself where no list runs. -/
def Lane.boundaryAfter (x : Lane) (t : Nat) : Nat :=
  match x.oper with
  | none => t
  | some g => if t ≤ x.cycleStart then x.cycleStart else x.cycleStart + (t - x.cycleStart + g.cycle - 1) / g.cycle * g.cycle

/-- The instant at which a captured list takes over (R337). -/
def Lane.takeover (x : Lane) (now base cycle : Nat) : Nat :=
  if now ≤ base then x.boundaryAfter base
  else base + (x.boundaryAfter now - base + cycle - 1) / cycle * cycle

/-- GCL_SWAP (R337). -/
def execGclSwap (lane : Nat) (s : State) : Res :=
  let a := lnGclctl lane
  let len := s.fld a F.FLN_GCLCTL_LEN
  let cyc := s.fld (Reg.FLN_GCLCYCLE (lane / 24) (lane % 24)) ⟨0, 30⟩
  let base := (s.reg (Reg.FLN_GCLBASE (lane / 24) (lane % 24))).toNat
  .next (if !s.hasLane lane then s
  else if len = 0 ∨ cyc < 31250 ∨ 1000000000 < cyc ∨ s.flag a F.FLN_GCLCTL_SWAP = true then s.setFlag a F.FLN_GCLCTL_ERR true
  else (s.modLane lane (fun x => { x with next := some ⟨len, cyc, x.takeover s.now base cyc⟩ })).setFlag a F.FLN_GCLCTL_SWAP true)

/-- GCL_TAKEOVER (R337): the captured list runs from its takeover instant. -/
def execGclTakeover (lane : Nat) (s : State) : Res :=
  let a := lnGclctl lane
  .next (match (s.lane lane).next with
    | none => s
    | some g =>
      let s1 := s.modLane lane (fun x => { x with oper := some g, next := none })
      let s2 := (s1.setFlag a F.FLN_GCLCTL_OPERBANK (!s.flag a F.FLN_GCLCTL_OPERBANK)).setFlag a F.FLN_GCLCTL_SWAP false
      s2.enterSpan lane 0 g.base g)

/-! ### Preemption (R338) -/

/-- PREACT takes a value; a change sets PREVCHG. -/
def State.setPreact (s : State) (l : Nat) (v : Bool) : State :=
  if s.preact l = v then s else (s.setFlag (lnStat l) F.FLN_STAT_PREACT v).setFlag (lnStat l) F.FLN_STAT_PREVCHG true

/-- VERIFY_COMPLETE (R338): the partner has answered, or not. -/
def execVerifyComplete (lane : Nat) (ok : Bool) (s : State) : Res :=
  .next (if s.laneUp lane && s.flag (lnQcfg lane) F.FLN_QCFG_PREEN then s.setPreact lane ok else s)

/-- What FLN_QCFG asks of preemption after a write: off with PREEN = 0, on at once with VERIFYDIS = 1. -/
def State.preemptCfg (s : State) (l : Nat) : State :=
  if !s.flag (lnQcfg l) F.FLN_QCFG_PREEN then s.setPreact l false
  else if s.flag (lnQcfg l) F.FLN_QCFG_VERIFYDIS && s.laneUp l then s.setPreact l true
  else s

/-! ### Lane state (R342) -/

/-- Every output lane of the fast station on a slot has left UP: its open loop closes unmeasured (R437). -/
def State.closeLoopIfDown (s : State) (l : Nat) : State :=
  if !s.fastLane l then s
  else
    let slot := s.stnLane (l / 24) (s.fld (Reg.FE_FSSTAT (l / 24) (l % 24)) F.FE_FSSTAT_STATION)
    if s.laneUp slot || (s.paired slot && s.laneUp (slot + 1)) then s else s.modFast slot (fun x => { x with loop := none })

/-- A lane leaves UP: what it holds is discarded or cut off, preemption ends, and a follower lane leaves the servo without its source (R342, R346). -/
def State.leaveUp (s : State) (l st : Nat) : State :=
  let x := s.lane l
  let all := x.cur.toList ++ x.susp.toList ++ x.queue
  let s1 := s.setLane l { x with queue := [], cur := none, susp := none }
  let s2 := all.foldl (fun s f => s.dropFrame l f) s1
  let a := lnStat l
  let s3 := (((s2.setFld a F.FLN_STAT_STATE st).setFlag a F.FLN_STAT_UPCHG true).setFlag a F.FLN_STAT_RFAULT false).setPreact l false
  let s4 := (s3.setFlag (Reg.FLN_PTPSTAT (l / 24) (l % 24)) F.FLN_PTPSTAT_ASCAP false).closeLoopIfDown l
  if s4.ttRole = 1 ∧ s4.fld Reg.CHIP_TTPORT F.CHIP_TTPORT_LANE = l then s4.holdover else s4

/-- A lane enters a state. -/
def State.enterLane (s : State) (l st : Nat) : State :=
  if s.lnState l = st then s
  else if s.laneUp l then s.leaveUp l st
  else
    let s1 := s.setFld (lnStat l) F.FLN_STAT_STATE st
    if st = 5 then (s1.setFlag (lnStat l) F.FLN_STAT_UPCHG true).preemptCfg l else s1

/-- Whether a lane may leave DISABLED: enabled, its quad powered and its reference good (R331, R342). -/
def State.laneLive (s : State) (l : Nat) : Bool :=
  s.hasLane l && s.flag (lnCtl l) F.FLN_CTL_EN && s.domRun (204 + l / 4) && s.flag (qdStat (l / 4)) F.FLN_QSTAT_REFOK

/-- The first two rows of R342. -/
def State.laneEval (s : State) (l : Nat) : State :=
  if !s.laneLive l then s.enterLane l 0
  else if s.lnState l = 0 then s.enterLane l (if s.quadMode (l / 4) = 1 then 1 else 3)
  else s

/-- All lanes of a quad. -/
def State.quadEval (s : State) (q : Nat) : State := (List.range 4).foldl (fun s i => s.laneEval (4 * q + i)) s

/-- QUAD_REFERENCE_CHANGE (R331). -/
def execQuadReferenceChange (quad : Nat) (ok : Bool) (s : State) : Res :=
  .next (if s.hasQuad quad then (s.setFlag (qdStat quad) F.FLN_QSTAT_REFOK ok).quadEval quad else s)

/-- The code that refuses a write of FLN_QCTL (R330). -/
def State.qctlRefusal (s : State) (q : Nat) (v : Word) : Option Nat :=
  if (v ^^^ s.reg (qdCtl q)) &&& 0xF = 0 then none
  else if (List.range 4).any (fun i => s.flag (lnCtl (4 * q + i)) F.FLN_CTL_EN) then some 1
  else if getF v F.FLN_QCTL_MODE = 2 ∧ (getF v F.FLN_QCTL_PAIRA = 1 ∨ getF v F.FLN_QCTL_PAIRB = 1) then some 2
  else if getF v F.FLN_QCTL_MODE = 3 then some 3
  else none

/-- FLN_QCTL_WRITE (R330): a refused write changes no field but REJ and REJCODE. -/
def execFlnQctlWrite (quad : Nat) (value : Word) (s : State) : Res :=
  let a := qdCtl quad
  .next (if !s.hasQuad quad then s
  else match s.qctlRefusal quad value with
    | some c => (s.setFlag a F.FLN_QCTL_REJ true).setFld a F.FLN_QCTL_REJCODE c
    | none => s.writeReg a 8 value)

/-- FLN_CTL_WRITE (R339, R342, R352). -/
def execFlnCtlWrite (lane : Nat) (value : Word) (s : State) : Res :=
  let a := lnCtl lane
  let rej (c : Nat) : State := (s.setFlag a F.FLN_CTL_REJ true).setFld a F.FLN_CTL_REJCODE c
  .next (if !s.hasLane lane then s
  else if getF value F.FLN_CTL_FEC = 1 ∧ s.fastLane lane = true then rej 1
  else if getF value F.FLN_CTL_FEC = 1 ∧ s.quadMode (lane / 4) = 2 then rej 2
  else (s.writeReg a 8 value).laneEval lane)

/-- FLN_TXEQ_WRITE (R669): ignored in mode K; out of range, refused with REJCODE 3. -/
def execFlnTxeqWrite (lane : Nat) (value : Word) (s : State) : Res :=
  let pre := getF value F.FLN_TXEQ_PRE
  let main := getF value F.FLN_TXEQ_MAIN
  let post := getF value F.FLN_TXEQ_POST
  .next (if !s.hasLane lane ∨ s.quadMode (lane / 4) = 1 then s
  else if 15 < pre ∨ main < 20 ∨ 48 < main ∨ 31 < post ∨ 48 < pre + main + post then
    (s.setFlag (lnCtl lane) F.FLN_CTL_REJ true).setFld (lnCtl lane) F.FLN_CTL_REJCODE 3
  else s.writeReg (Reg.FLN_TXEQ (lane / 24) (lane % 24)) 8 value)

/-- AN_RESOLVE (R342). -/
def execAnResolve (lane : Nat) (ok : Bool) (s : State) : Res :=
  .next (if s.lnState lane = 1 then
    (if ok then (s.setFlag (lnStat lane) F.FLN_STAT_NOAN false).enterLane lane 2 else s.setFlag (lnStat lane) F.FLN_STAT_NOAN true)
  else s)

/-- LINK_TRAINING_COMPLETE, LINK_TRAINING_TIMEOUT, BLOCK_LOCK, HOLD_EXPIRE (R342). -/
def execLinkTrainingComplete (lane : Nat) (s : State) : Res := .next (if s.lnState lane = 2 then s.enterLane lane 3 else s)
def execLinkTrainingTimeout (lane : Nat) (s : State) : Res := .next (if s.lnState lane = 2 then s.enterLane lane 1 else s)
def execBlockLock (lane : Nat) (s : State) : Res := .next (if s.lnState lane = 3 then s.enterLane lane 4 else s)
def execHoldExpire (lane : Nat) (s : State) : Res := .next (if s.lnState lane = 4 then s.enterLane lane 5 else s)

/-- LOCK_LOSS (R342, R548): FAULTEV, one count in the lane's bucket, and the state row. A DISABLED lane loses nothing, and
hi_ber in HOLD only starts its 1 ms again. -/
def execLockLoss (lane : Nat) (cause : LaneLoss) (s : State) : Res :=
  .next (if s.hasLane lane && s.lnState lane != 0 then
    let s1 := (s.setFlag (lnStat lane) F.FLN_STAT_FAULTEV true).corrected (unitLane lane) 0
    let s2 := if cause = .hiBer then s1.bump (Reg.FLN_PCSERR (lane / 24) (lane % 24)) F.FLN_PCSERR_HIBER 1 else s1
    if s2.lnState lane = 5 then s2.enterLane lane (if s2.quadMode (lane / 4) = 1 then 1 else 3)
    else if s2.lnState lane = 4 ∧ cause = .lock then s2.enterLane lane 3
    else s2
  else s)

/-- REMOTE_FAULT (R342). -/
def execRemoteFault (lane : Nat) (on : Bool) (s : State) : Res :=
  .next (if s.laneUp lane then s.setFlag (lnStat lane) F.FLN_STAT_RFAULT on else s)

/-! ### gPTP ports (R348, R349) -/

/-- ROLE of a port: 0 disabled, 1 master, 2 slave, 3 passive. -/
def State.ptpRole (s : State) (l : Nat) : Nat := s.fld (Reg.FLN_PTPCTL (l / 24) (l % 24)) F.FLN_PTPCTL_ROLE

/-- Length of a gPTP message's frame, destination address to FCS (message sizes of 802.1AS-2020: notes/assumptions/16.md). -/
def ptpLen : PtpKind → Nat
  | .sync => 64
  | .followUp => 94
  | _ => 72

/-- Queue a gPTP message. -/
def State.sendPtp (s : State) (l : Nat) (k : PtpKind) : State := s.enqueue l { body := .ptp k, len := ptpLen k }

/-- SYNC_TRANSMIT (R348): on a master port in UP. -/
def execSyncTransmit (lane : Nat) (s : State) : Res :=
  .next (if s.laneUp lane ∧ s.ptpRole lane = 1 then (s.sendPtp lane .sync).sendPtp lane .followUp else s)

/-- PDELAY_REQ_TRANSMIT (R348). -/
def execPdelayReqTransmit (lane : Nat) (s : State) : Res :=
  .next (if s.laneUp lane ∧ s.ptpRole lane ≠ 0 then s.sendPtp lane .pdelayReq else s)

/-- GPTP_MESSAGE_RECEIVE (R346, R348, R349): a Pdelay_Req is answered; a completed path measurement sets MLD, NRRDEV and asCapable. Sync and Follow_Up
reach the servo with SERVO_MEASUREMENT. -/
def execGptpMessageReceive (lane : Nat) (msg : PtpMsg) (s : State) : Res :=
  let a := Reg.FLN_PTPSTAT (lane / 24) (lane % 24)
  .next (if s.laneUp lane ∧ s.ptpRole lane ≠ 0 then
    match msg with
    | .pdelayReq => (s.sendPtp lane .pdelayResp).sendPtp lane .pdelayRespFollowUp
    | .pdelayRespFollowUp mld nrr =>
      let ok := decide (mld ≤ s.fld (Reg.FLN_PTPCTL (lane / 24) (lane % 24)) F.FLN_PTPCTL_NPDTHR)
      let s1 := ((s.setFld a F.FLN_PTPSTAT_MLD (min mld 0xFFFF)).setFld a F.FLN_PTPSTAT_NRRDEV (BitVec.ofInt 32 nrr).toNat).setFlag
        a F.FLN_PTPSTAT_ASCAP ok
      if !ok && s.flag a F.FLN_PTPSTAT_ASCAP && s.ttRole == 1 && s.fld Reg.CHIP_TTPORT F.CHIP_TTPORT_LANE == lane then s1.holdover else s1
    | _ => s
  else s)

end Sys2Proof.Machine
end

