-- ==== Sys2Proof/Machine/Tide.lean ====
section
/-!
DEFINITION. Stations (chapter 13): entries and commits (R356 to R359), tide frames (R354, R355), inputs and their writes (R361 to R365, R417 to R420),
outputs and substitution (R371, R382, R384). Fast loops share the input write and the frame builder.
-/
namespace Sys2Proof.Machine

/-! ### Stations, images and tables -/

def State.stn (s : State) (k : Nat) : Stn := Tbl.get (fun _ => {}) s.stns k
def State.setStn (s : State) (k : Nat) (x : Stn) : State := { s with stns := Tbl.set (fun _ => {}) s.stns k x }
def State.modStn (s : State) (k : Nat) (f : Stn → Stn) : State := s.setStn k (f (s.stn k))
def State.img (s : State) (k : Nat) : Img := Tbl.get (fun _ => {}) s.imgs k
def State.setImg (s : State) (k : Nat) (x : Img) : State := { s with imgs := Tbl.set (fun _ => {}) s.imgs k x }
def State.modImg (s : State) (k : Nat) (f : Img → Img) : State := s.setImg k (f (s.img k))
def State.tab (s : State) (k : Nat) : TideTab := Tbl.get (fun _ => {}) s.tabs k
def State.setTab (s : State) (k : Nat) (x : TideTab) : State := { s with tabs := Tbl.set (fun _ => {}) s.tabs k x }
def State.fe (s : State) (e : Nat) : FeSt := Tbl.get (fun _ => {}) s.fes e
def State.setFe (s : State) (e : Nat) (x : FeSt) : State := { s with fes := Tbl.set (fun _ => {}) s.fes e x }
def State.modFe (s : State) (e : Nat) (f : FeSt → FeSt) : State := s.setFe e (f (s.fe e))

/-- Key of local station `st` of engine `e` among `stns` (its global number, R5). -/
def stnKey (e st : Nat) : Nat := 2048 * e + st
/-- Key of an image among `imgs`, of a table among `tabs`. -/
def imgKey (e i : Nat) : Nat := 16 * e + i
def tabKey (e k : Nat) : Nat := 8 * e + k

/-- The lanes of an entry: one, or both of its pair. -/
def StnEnt.lanes (x : StnEnt) : List Nat := if x.pair then [x.lane - x.lane % 2, x.lane - x.lane % 2 + 1] else [x.lane]

/-- Station states of STN_STATE (R386). -/
def stEmpty : Nat := 0
def stMissing : Nat := 1
def stAlive : Nat := 2
def stLost : Nat := 3
def State.stnState (s : State) (e st : Nat) : Nat := s.fld (Reg.STN_STATE e st) F.STN_STATE_STATE
def State.setStnState (s : State) (e st v missed : Nat) : State :=
  (s.setFld (Reg.STN_STATE e st) F.STN_STATE_STATE v).setFld (Reg.STN_STATE e st) F.STN_STATE_MISSED missed

/-! ### Images (R366 to R368) -/

def State.imgOn (s : State) (e i : Nat) : Bool := s.flag (Reg.FE_IMGCFG e i) F.FE_IMGCFG_EN
def State.imgOwner (s : State) (e i : Nat) : Nat := s.fld (Reg.FE_IMGCFG e i) F.FE_IMGCFG_OWNER
def State.insize (s : State) (e i : Nat) : Nat := 64 * s.fld (Reg.FE_IMGSIZE e i) F.FE_IMGSIZE_INSIZE
def State.outsize (s : State) (e i : Nat) : Nat := 64 * s.fld (Reg.FE_IMGSIZE e i) F.FE_IMGSIZE_OUTSIZE
/-- The input bank that fills and the output bank that is sent (R367). -/
def State.inBank (s : State) (e i : Nat) : Nat :=
  (s.reg (Reg.FE_IMGIN e i)).toNat + s.fld (Reg.FE_IMGSTAT e i) F.FE_IMGSTAT_CURIN * s.insize e i
def State.outBank (s : State) (e i : Nat) : Nat :=
  (s.reg (Reg.FE_IMGOUT e i)).toNat + s.fld (Reg.FE_IMGSTAT e i) F.FE_IMGSTAT_CUROUT * s.outsize e i

/-- Bytes of an input block: the payload rounded up to 8 and the header (R362). -/
def blockLen (inlen : Nat) : Nat := 8 * ((inlen + 7) / 8) + 8

/-! ### Commits (R357 to R359) -/

/-- STATION_COMMIT (R357): the staged entry and the station number are captured; a GO while BUSY = 1 is ignored. -/
def execStationCommit (e station : Nat) (s : State) : Res :=
  let st := Reg.STN_CMDSTAT e
  .next (if !s.hasFe e then s
  else if s.flag st F.STN_CMDSTAT_BUSY then s.setFlag st F.STN_CMDSTAT_REJ true
  else
    let ws := (List.range 8).map (fun j => s.reg (Reg.STN_STAGE e j))
    let s1 := (s.setFld (Reg.STN_CMD e) F.STN_CMD_STATION station).setFlag (Reg.STN_CMD e) F.STN_CMD_GO true
    (s1.modFe e (fun x => { x with commit := some (station % 2048, ws) })).setFlag st F.STN_CMDSTAT_BUSY true)

/-- Unit of a swap code in bytes (R384). -/
def swapUnit (c : Nat) : Nat := 2 ^ c

/-- The RESULT that refuses a commit (R358, R385), the first of the table. -/
def State.commitRefusal (s : State) (e st : Nat) (ws : List Word) : Option Nat :=
  let v := stnNum ws
  let x := parseStn ws
  let q := x.lane / 4
  let imgBad (i : Nat) : Bool := !s.imgOn e i || s.imgOwner e i != x.part
  let fast (f : Nat → Bool) : Bool := x.fast && x.lanes.any f
  if x.fmt = 3 ∨ stnReserved v ∨ x.inoff % 8 ≠ 0 ∨ x.outoff % 8 ≠ 0 ∨ x.subptr % 8 ≠ 0 then some 1
  else if x.lane / 24 ≠ e ∨ s.hasQuad q = false then some 2
  else if x.fast ∧ s.quadMode q = 2 then some 3
  else if fast (fun l => s.flag (lnCtl l) F.FLN_CTL_FEC) then some 4
  else if fast (fun l => s.fastLane l && s.fld (Reg.FE_FSSTAT (l / 24) (l % 24)) F.FE_FSSTAT_STATION != st) then some 5
  else if 1488 < max x.inlen x.outlen ∨ (x.fast ∧ 256 < max x.inlen x.outlen) then some 6
  else if x.pair ∧ (x.lane % 2 = 1 ∨ s.paired x.lane = false) then some 7
  else if (x.fmt = 1 ∧ s.quadMode q ≠ 2) ∨ (x.fmt = 2 ∧ s.quadMode q = 2) then some 8
  else if x.inlen % swapUnit x.swapIn ≠ 0 ∨ x.outlen % swapUnit x.swapOut ≠ 0 ∨
      (x.fmt = 1 ∧ (x.inlen % 2 = 1 ∨ x.outlen % 2 = 1 ∨ 1 < x.swapIn ∨ 1 < x.swapOut)) then some 9
  else if !x.fast ∧ (imgBad x.inimg ∨ imgBad x.outimg ∨ s.insize e x.inimg < x.inoff + blockLen x.inlen ∨
      s.outsize e x.outimg < x.outoff + x.outlen) then some 10
  else if x.fast ∧ (s.hasCore x.fcore = false ∨ 0x10_0000 < x.inoff + blockLen x.inlen) then some 11
  else none

/-- Lanes become fast, or stop being fast (R339, R435). -/
def State.setFastLanes (s : State) (st : Nat) (on : Bool) (ls : List Nat) : State :=
  ls.foldl (fun s l =>
    let a := Reg.FE_FSSTAT (l / 24) (l % 24)
    let s1 := (s.setFlag (lnStat l) F.FLN_STAT_FAST on).setFlag a F.FE_FSSTAT_ACTIVE on
    s1.setFld a F.FE_FSSTAT_STATION (if on then st else 0)) s

/-- The slot is replaced as one unit (R357, R359, R360, R437). -/
def State.replaceStn (s : State) (e st : Nat) (ws : List Word) : State :=
  let old := s.stnEnt e st
  let new := parseStn ws
  let k := stnKey e st
  let kept := old.fmt ≠ 0 ∧ new.fmt ≠ 0 ∧ old.mac = new.mac ∧ old.lane = new.lane ∧ old.pair = new.pair ∧ old.fmt = new.fmt ∧ old.inlen = new.inlen
  let s1 := if old.fmt ≠ 0 ∧ old.fast then s.setFastLanes st false old.lanes else s
  let s2 := (List.range 8).foldl (fun s j => s.setReg (Reg.STN_SLOT e st j) (if new.fmt = 0 then 0 else ws.getD j 0)) s1
  let s3 := if new.fmt ≠ 0 ∧ new.fast then s2.setFastLanes st true new.lanes else s2
  if kept then s3.modStn k (fun x => { x with expected := false })
  else
    -- the counts of header writes and output frames go on (R341, R363)
    let s4 := (s3.modStn k (fun x => { wseq := x.wseq, txSeq := x.txSeq })).setReg (Reg.STN_STATE e st) 0
    let s5 := s4.setStnState e st (if new.fmt = 0 then stEmpty else if new.inlen = 0 then stAlive else stMissing) 0
    let clear (x : StnEnt) (s : State) : State :=
      if x.fmt ≠ 0 ∧ x.fast then s.modFast x.lane (fun y => { y with loop := none, sends := 0 }) else s
    clear new (clear old s5)

/-- STATION_COMMIT_COMPLETE (R358): the checks are made in this instant. -/
def execStationCommitComplete (e : Nat) (s : State) : Res :=
  let a := Reg.STN_CMDSTAT e
  .next (match (s.fe e).commit with
    | none => s
    | some (st, ws) =>
      let s1 := ((s.modFe e (fun x => { x with commit := none })).setFlag a F.STN_CMDSTAT_BUSY false).setFlag (Reg.STN_CMD e) F.STN_CMD_GO false
      let s2 := (s1.setFlag a F.STN_CMDSTAT_DONE true).setFld a F.STN_CMDSTAT_STATION st
      if (parseStn ws).fmt = 0 then (s2.replaceStn e st ws).setFld a F.STN_CMDSTAT_RESULT 0
      else match s.commitRefusal e st ws with
        | some c => s2.setFld a F.STN_CMDSTAT_RESULT c
        | none => (s2.replaceStn e st ws).setFld a F.STN_CMDSTAT_RESULT 0)

/-! ### Engine accesses -/

/-- A field engine's write by physical address, with its dirty-log bits (R364, R514). -/
def State.feWriteP (s : State) (e p a : Nat) (bs : List Byte) (ps : List Bool) : State := (s.engWrite p a bs ps).logPa (feRouter e) p a bs.length
def State.feWrite (s : State) (e p a : Nat) (bs : List Byte) : State := s.feWriteP e p a bs []

/-! ### Input writes (R362 to R364, R417 to R420) -/

/-- The monitor's register of a lane counts only while the lane has a fast station (R434). -/
def State.fsBump (s : State) (l a : Nat) (f : Fld) : State := if s.fastLane l then s.bump a f 1 else s

/-- INDIRECT of FE_FSSTAT and a count of FE_FSDROP (R435). -/
def State.fsFault (s : State) (l : Nat) (f : Fld) : State :=
  (s.fsBump l (Reg.FE_FSDROP (l / 24) (l % 24)) f).setFlag (Reg.FE_FSSTAT (l / 24) (l % 24)) F.FE_FSSTAT_INDIRECT true

/-- A refused input write counts, and the input counts as not accepted (R364, R419). -/
def State.inputRefused (s : State) (e st : Nat) : State :=
  let x := s.stnEnt e st
  let s1 := s.modStn (stnKey e st) (fun y => { y with accepted := false })
  if x.fmt = 0 then s1
  else if x.fast then s1.fsFault x.lane F.FE_FSDROP_REFUSED
  else s1.bump (Reg.FE_IMGERR e x.inimg) F.FE_IMGERR_IN 1

/-- The interrupt source of the fast station on lane `l` (R380). -/
def fastSrc (l : Nat) : Nat := 256 + 384 * (l / 24) + 32 + l % 24

/-- A direct message qualifies (R418, R488). -/
def State.directOk (s : State) (l fcore : Nat) : Bool :=
  let x := s.src (fastSrc l)
  !x.tkind && x.core == fcore && x.enable && s.flag Reg.IRQ_CTL F.IRQ_CTL_EN

/-- The input's edge: its number, the note to the distributor, and the direct message behind a block that was written (R418, R489, R573). -/
def State.inputEdge (s : State) (l : Nat) (b : InputBlk) (written : Bool) : State :=
  let k := fastSrc l
  let n := ((s.src k).edgenum + 1) % 256
  let s1 := (s.modSrc k (fun x => { x with edgenum := n })).send (.edgeNote k n)
  if b.direct && written then s1.send (.offer b.core 5 k (s.effPrio k) n true) else s1

/-- A loop opens when its block has been written; one still open is missed (R432). -/
def State.openLoop (s : State) (l stamp : Nat) : State :=
  let s1 := if (s.fastSt l).loop.isSome then
      (s.fsBump l (Reg.FE_FSMISS (l / 24) (l % 24)) F.FE_FSMISS_MISSED).setFlag (Reg.FE_FSSTAT (l / 24) (l % 24)) F.FE_FSSTAT_MISSED true
    else s
  s1.modFast l (fun x => { x with loop := some stamp })

/-- The address an input block or header goes to now (R362, R367, R369, R417). -/
def State.inputAddr (s : State) (e : Nat) (b : InputBlk) : Nat :=
  match b.img with
  | some i => s.inBank e i + b.off
  | none => castBase b.core + b.off

/-- The last byte of a header takes the write's WSEQ (R363). -/
def patchWseq (bs : List Byte) (w : Nat) : List Byte := bs.dropLast ++ [BitVec.ofNat 8 w]

/-- A core whose cast window a refused TC0 delivery was for (R572). -/
def windowCore (a : Nat) : Option Nat := match regionOf a with | .coreCast c => some c | _ => none

/-- An injected input write reaches its target: it is performed with its WSEQ, or refused. -/
def State.arriveInput (s : State) (e : Nat) (b : InputBlk) : State :=
  let k := stnKey e b.station
  let a := s.inputAddr e b
  let l := (s.stnEnt e b.station).lane
  let r := feRouter e
  let on := match b.img with | some i => s.imgOn e i | none => true
  if on && s.engOk r b.part a b.bytes.length then
    let w := ((s.stn k).wseq + 1) % 256
    let s1 := (s.modStn k (fun x => { x with wseq := w })).feWriteP e b.part a (patchWseq b.bytes w) b.poison
    if b.img.isNone && !b.header then (s1.openLoop l b.stamp).inputEdge l b true else s1
  else
    let s0 := if on then s.engRefused r b.part a b.bytes.length true else s
    let s1 := if b.header && b.img.isNone then s0 else s0.send (.inputRefused e b.station)
    let s2 := match windowCore a with
      | some c => if s.mapped r (epCore c) == epFenced then s1.coreWake c true else s1
      | none => s1
    if b.img.isNone && !b.header then s2.inputEdge l b false else s2

/-- A bank word reaches its target: written, or absorbed (R297, R370). -/
def State.bankArrive (s : State) (e a p : Nat) (bs : List Byte) : State :=
  if s.engOk (feRouter e) p a bs.length then s.feWrite e p a bs else s.engRefused (feRouter e) p a bs.length true

/-- A read is injected: the breakwater takes or refuses it, and its answer is outstanding (R297, R298, R371). -/
def State.issueRead (s : State) (e : Nat) (r : SendRd) : State :=
  let p := (s.stnEnt e r.station).part
  let ok := s.engOk (feRouter e) p r.addr r.len
  (if ok then s else s.engRefused (feRouter e) p r.addr r.len false).modFe e (fun y => { y with reads := y.reads ++ [{ r with refused := !ok }] })

/-- An injected packet: the write of an input or a bank word is performed at once, a read of cast memory waits for its data, any other message is on its way. -/
def State.arrive (s : State) (m : Msg) : State :=
  match m with
  | .input e b => s.arriveInput e b
  | .sendRead e r => s.issueRead e r
  | .bankWord e a p bs => s.bankArrive e a p bs
  | _ => s.send m

/-- A field engine's TC0 request into cast memory: injected where its tokens suffice and nothing waits before it, otherwise it waits (R283). -/
def State.feTc0 (s : State) (e : Nat) (p : Tc0Pkt) : State :=
  if s.tc0Ready (epFe e) p.flits then (s.takeTc0 (epFe e) p.flits p.src p.dst).arrive p.msg else s.waitTc0 (epFe e) p

/-- The router of the unit that holds a cast address. -/
def castRouter (a : Nat) : Nat :=
  match regionOf a with
  | .sharedCast t => tileRouter t
  | .coreCast c => coreRouter c
  | _ => svcRouter

/-- The engine sends an input write: TC0 into cast memory, with the message's flit behind a fast station's block, TC3 into DRAM (R34, R364, R417, R418). -/
def State.sendInput (s : State) (e : Nat) (b : InputBlk) : State :=
  let a := s.inputAddr e b
  if regionOf a = .dram then s.arriveInput e b
  else
    let f := (b.bytes.length + 63) / 64 + (if b.direct then 1 else 0)
    let l := (s.stnEnt e b.station).lane
    let p := s.ep (epFe e)
    let waits := !(p.tc0q.isEmpty && decide (f ≤ p.tokens))
    let s1 := if waits && b.img.isNone && !b.header then s.fsFault l F.FE_FSDROP_TOKWAIT else s
    s1.feTc0 e { flits := f, src := feRouter e, dst := castRouter a, msg := .input e b }

/-- TC0_ADMIT (R283): the oldest waiting transfer of an endpoint is injected when its tokens suffice for the whole packet; where a link of its route has
FAILED meanwhile it takes no token and what receives the message refuses it (R289). -/
def execTc0Admit (ep : Nat) (s : State) : Res :=
  let e := s.ep ep
  .next (match e.tc0q with
    | p :: rest =>
      if p.flits ≤ e.tokens then
        let s1 := s.setEp ep { e with tc0q := rest }
        (if s.routeUp p.src p.dst then s1.takeTc0 ep p.flits p.src p.dst else s1).arrive p.msg
      else s
    | [] => s)

/-- INPUT_WRITE_REFUSED (R364, R419). -/
def execInputWriteRefused (e station : Nat) (s : State) : Res :=
  .next (if s.hasFe e then (s.recv (.inputRefused e station)).inputRefused e station else s)

/-- The input header (R363); WSEQ is filled in at the write. -/
def State.inHeader (s : State) (e st status : Nat) : List Byte :=
  let x := s.stn (stnKey e st)
  leBytes 4 (if x.seqOk then s.fld (Reg.STN_STATE e st) F.STN_STATE_SEQ else 0) ++ leBytes 1 status ++ leBytes 1 x.flags ++ leBytes 1 x.lane ++ [0]

/-- A MISSING or LOST header is written alone (R363, R420). -/
def State.writeHeader (s : State) (e st status : Nat) : State :=
  let x := s.stnEnt e st
  let b : InputBlk := { station := st, img := if x.fast then none else some x.inimg, core := x.fcore, off := x.inoff + 8 * ((x.inlen + 7) / 8),
                        part := x.part, bytes := s.inHeader e st status, header := true }
  if !x.fast && !s.imgOn e x.inimg then s.inputRefused e st else s.sendInput e b

/-! ### Byte swapping (R384) -/

/-- Reverse the bytes within each group of `u`. -/
def swapFuel (u : Nat) : Nat → List Byte → List Byte
  | 0, bs => bs
  | n + 1, bs => if bs.isEmpty then [] else (bs.take u).reverse ++ swapFuel u n (bs.drop u)
def swapBytes (code : Nat) (bs : List Byte) : List Byte := if code = 0 then bs else swapFuel (swapUnit code) bs.length bs

/-! ### Frames (R354, R355) -/

/-- A received frame's parts: 802.1Q tag, R-tag, EtherType, and what follows it. -/
structure FrmParts where
  dst : Nat
  src : Nat
  tci : Option Nat
  rtag : Option Nat
  etype : Nat
  rest : List Byte
  deriving DecidableEq, Repr

/-- A 16-bit big-endian field of a frame. -/
def be16 (bs : List Byte) (o : Nat) : Nat := beWord ((bs.drop o).take 2)

/-- Walk the tags of a frame: 802.1Q tags (0x8100, 0x88A8), of which the first counts, and R-tags (0xF1C1), whose sequence number is in their last two
bytes (R341, R354). Answers the bytes from the EtherType on. -/
def skipTags : Nat → Option Nat → Option Nat → List Byte → Option Nat × Option Nat × List Byte
  | 0, t, r, bs => (t, r, bs)
  | n + 1, t, r, bs =>
    let y := be16 bs 0
    if y = 0x8100 ∨ y = 0x88A8 then skipTags n (t.or (some (be16 bs 2))) r (bs.drop 4)
    else if y = 0xF1C1 then skipTags n t (r.or (some (be16 bs 4))) (bs.drop 6)
    else (t, r, bs)

/-- Take a frame apart. -/
def parseFrame (bs : List Byte) : FrmParts :=
  let t := skipTags 8 none none (bs.drop 12)
  { dst := leWord (bs.take 6), src := leWord ((bs.drop 6).take 6), tci := t.1, rtag := t.2.1, etype := be16 t.2.2 0, rest := t.2.2.drop 2 }

/-- EtherType of tide frames. -/
def State.tideType (s : State) (e : Nat) : Nat := s.fld (Reg.FE_CFG e) F.FE_CFG_ETYPE

/-- The tide header (R355). -/
def tideHeader (ver kind flags station cycle len stamp : Nat) : List Byte :=
  leBytes 1 (ver + 16 * kind) ++ leBytes 1 flags ++ leBytes 2 station ++ leBytes 4 cycle ++ leBytes 2 len ++ leBytes 2 0 ++ leBytes 4 stamp

/-- Two big-endian bytes of a number. -/
def be2 (v : Nat) : List Byte := (leBytes 2 v).reverse

/-- Pad a frame to 60 bytes, the minimum without FCS. -/
def pad60 (bs : List Byte) : List Byte := bs ++ List.replicate (60 - bs.length) 0

/-- The six bytes of a lane's FLN_MACADDR in wire order: the first octet is bits [47:40] (PRESUMED, notes/assumptions/17.md). -/
def State.laneMac (s : State) (l : Nat) : List Byte := (leBytes 6 (s.reg (Reg.FLN_MACADDR (l / 24) (l % 24))).toNat).reverse

/-- An output frame of a station on lane `l` (R354, R355). -/
def State.outFrame (s : State) (e st l : Nat) (x : StnEnt) (seq cycle stamp : Nat) (subst : Bool) (payload : List Byte) : List Byte :=
  let tag := if x.tagged then be2 0x8100 ++ be2 (x.pcp * 8192 + x.vid) else []
  let rtag := if x.pair && s.paired l then be2 0xF1C1 ++ be2 0 ++ be2 seq else []
  pad60 (leBytes 6 x.mac ++ s.laneMac l ++ tag ++ rtag ++ be2 (s.tideType e) ++
    tideHeader x.fmt 1 (b2n subst) (2048 * e + st) cycle payload.length stamp ++ payload)

/-- Replace the queued fast-station frame of a station on a lane, in its place, keeping the measurement it carries (R430). Answers whether there was one. -/
def State.replaceFast (s : State) (l st : Nat) (f : TxFrame) : Bool × State :=
  let mine (g : TxFrame) : Bool := g.body == .tide st true
  let x := s.lane l
  if x.queue.any mine then
    (true, s.setLane l { x with queue := x.queue.map (fun g => if mine g then { f with meas := f.meas.or g.meas } else g) })
  else (false, s)

/-- Queue an output frame on the cyclic queue of each of its lanes (R334, R341, R429, R430); `count`: a superseded frame counts. -/
def State.queueOut (s : State) (e st cycle stamp : Nat) (subst : Bool) (payload : List Byte) (meas : Option Nat) (count : Bool) : State :=
  let x := s.stnEnt e st
  let k := stnKey e st
  let seq := (s.stn k).txSeq
  let pairOn := x.pair && s.paired x.lane
  let ls := if pairOn then x.lanes else [x.lane]
  let s0 := if pairOn then s.modStn k (fun y => { y with txSeq := (seq + 1) % 65536 }) else s
  let r := ls.foldl (fun (r : Bool × State) l =>
    let bs := s.outFrame e st l x seq cycle stamp subst (swapBytes x.swapOut payload)
    let f : TxFrame := { body := .tide st x.fast, bytes := bs, len := bs.length + 4, meas := meas }
    if x.fast then
      let q := r.2.replaceFast l st f
      if q.1 then (true, q.2) else (r.1, r.2.enqueue l f)
    else (r.1, r.2.enqueue l f)) (false, s0)
  if r.1 && count then r.2.fsBump x.lane (Reg.FE_FSMISS e (x.lane % 24)) F.FE_FSMISS_SUPERSEDED else r.2

/-! ### Substitution (R382) -/


/-- The engine reads output or substitute bytes: over TC0 from cast memory, where the request takes a token (R283, R371), over TC3 from DRAM. -/
def State.sendRead (s : State) (e : Nat) (r : SendRd) : State :=
  match regionOf r.addr with
  | .sharedCast _ => s.feTc0 e { flits := 1, src := feRouter e, dst := castRouter r.addr, msg := .sendRead e r }
  | .coreCast _ => s.feTc0 e { flits := 1, src := feRouter e, dst := castRouter r.addr, msg := .sendRead e r }
  | _ => s.issueRead e r

/-- The frame that SUBMODE selects: none in mode 1, zeros in mode 2 and where SUBPTR = 0, else a read of SUBPTR. -/
def State.substFrame (s : State) (e st cycle stamp : Nat) (meas : Option Nat) (count : Bool) : State :=
  let x := s.stnEnt e st
  if x.submode = 1 then s
  else if x.submode = 2 ∨ x.subptr = 0 ∨ x.outlen = 0 then s.queueOut e st cycle stamp true (List.replicate x.outlen 0) meas count
  else
    let r : SendRd := { station := st, cycle := cycle, stamp := stamp, addr := x.subptr, len := x.outlen, subst := true, fast := count, meas := meas }
    s.sendRead e r

/-- An output of a station that is not FAST, at a SEND entry (R371, R374). -/
def State.sendOut (s : State) (e st cycle stamp : Nat) : State :=
  let x := s.stnEnt e st
  if s.inSubst e x then s.substFrame e st cycle stamp none false
  else if !s.imgOn e x.outimg then (s.bump (Reg.FE_IMGERR e x.outimg) F.FE_IMGERR_OUT 1).substFrame e st cycle stamp none false
  else if x.outlen = 0 then s.queueOut e st cycle stamp false [] none false
  else
    let r : SendRd := { station := st, cycle := cycle, stamp := stamp, addr := s.outBank e x.outimg + x.outoff, len := x.outlen, subst := false }
    s.sendRead e r

/-- SEND_OUTPUT_READ_RETURN (R371, R382): the oldest read returns. A failed output read sends the substitute frame for this send only; a failed substitute
read gives zeros. -/
def execSendOutputReadReturn (e : Nat) (bad : Bool) (s : State) : Res :=
  .next (match (s.fe e).reads with
    | [] => s
    | r :: rest =>
      let x := s.stnEnt e r.station
      let s1 := s.modFe e (fun y => { y with reads := rest })
      if x.fmt = 0 then s1
      else
        let ok := !bad && !r.refused && s1.engAnswers (feRouter e) r.addr r.len
        let q := if ok then s1.engRead x.part r.addr r.len else ([], [], s1)
        let good := ok && q.2.1.all (fun p => !p)
        if good then q.2.2.queueOut e r.station r.cycle r.stamp r.subst q.1 r.meas r.fast
        else
          let s2 := if x.fast then q.2.2 else q.2.2.bump (Reg.FE_IMGERR e x.outimg) F.FE_IMGERR_OUT 1
          if r.subst then s2.queueOut e r.station r.cycle r.stamp true (List.replicate r.len 0) r.meas r.fast
          else s2.substFrame e r.station r.cycle r.stamp none false)

/-! ### Receiving inputs (R341, R361 to R365) -/

/-- Fields of a received tide header. -/
structure TideHdr where
  ver : Nat
  kind : Nat
  flags : Nat
  station : Nat
  cycle : Nat
  len : Nat
  deriving DecidableEq, Repr

def parseTide (bs : List Byte) : TideHdr :=
  let v := leWord (bs.take 16)
  { ver := bitsAt v 0 4, kind := bitsAt v 4 4, flags := bitsAt v 8 8, station := bitsAt v 16 16, cycle := bitsAt v 32 32, len := bitsAt v 64 16 }

/-- The first failing check of R361 before reason 7. -/
def State.tideReason (s : State) (e lane : Nat) (f : FrmParts) (h : TideHdr) : Option Nat :=
  let st := h.station - 2048 * e
  let x := s.stnEnt e st
  if h.station / 2048 ≠ e ∨ x.fmt = 0 then some 1
  else if x.lanes.contains lane = false then some 2
  else if f.src ≠ x.mac ∨ (match f.tci with | some t => !x.tagged || t % 4096 != x.vid | none => x.tagged) = true then some 3
  else if h.ver ≠ x.fmt then some 4
  else if h.kind ≠ 0 then some 5
  else if h.len ≠ x.inlen ∨ f.rest.length < 16 + h.len then some 6
  else none

/-- Counts of FLN_FRERCNT (R341). -/
def State.frerDup (s : State) (l : Nat) : State := s.bump (Reg.FLN_FRERCNT (l / 24) (l % 24)) F.FLN_FRERCNT_DUP 1
def State.frerLost (s : State) (l n : Nat) : State := s.bump (Reg.FLN_FRERCNT (l / 24) (l % 24)) F.FLN_FRERCNT_LOST n

/-- Positions of a history of 32 that fall off in a shift by `d` without having been received. -/
def lostBits (h : BitVec 32) (d : Nat) : Nat := ((List.range 32).filter (fun i => 32 ≤ i + d && !h.getLsbD i)).length + (d - 32)

/-- Elimination on an active pair by the vector recovery algorithm with a history of 32 (R341): whether the copy is passed on. -/
def State.eliminate (s : State) (k lane seq : Nat) : Bool × State :=
  let x := s.stn k
  match x.recov with
  | none => (true, s.setStn k { x with recov := some (seq, 1) })
  | some (n, h) =>
    let d := (seq + 65536 - n % 65536) % 65536
    if d = 0 ∨ 32768 ≤ d then
      let b := (65536 - d) % 65536
      if 32 ≤ b then (false, s)
      else if h.getLsbD b then (false, s.frerDup lane)
      else (true, s.setStn k { x with recov := some (n, h ||| (1 <<< b)) })
    else if 32 ≤ d then (false, s)
    else (true, (s.setStn k { x with recov := some (seq, (h <<< d) ||| 1) }).frerLost (lane - lane % 2) (lostBits h d))

/-- A frame is dropped (R361). -/
def State.tideDrop (s : State) (e reason : Nat) : State :=
  (s.bump (Reg.FE_TIDEDROP e) ⟨0, 32⟩ 1).setFld (Reg.FE_TIDEDROP e) ⟨32, 4⟩ reason

/-- What reading the payload out of the receive buffer finds: `bad` names the bytes that are uncorrectable, logged with severity 1 (R530, R536); an armed
injection alters the first byte (R559). -/
def State.readBuffer (s : State) (e part : Nat) (payload : List Byte) (bad : List Nat) : List Nat × State :=
  if payload.isEmpty then ([], s)
  else
    let s1 := if bad.isEmpty then s else s.failureI (unitFe e) 0 1 (some part) 0 0 false
    match s1.injKind (unitFe e) 0 none with
    | some 0 => (bad, (s1.correctedI (unitFe e) 0 true).injTriggered)
    | some 1 => (0 :: bad, (s1.failureI (unitFe e) 0 1 (some part) 0 0 true).injTriggered)
    | some 2 => (0 :: bad, s1.injTriggered)
    | _ => (bad, s1)

/-- The poison marks of a payload whose bytes `bad` are uncorrectable, swapped with it. -/
def badMarks (swap_ : Nat) (n : Nat) (bad : List Nat) : List Bool :=
  (swapBytes swap_ ((List.range n).map (fun i => if bad.contains i then (1 : Byte) else 0))).map (· != 0)

/-- An accepted input: state row, sequence number, surplus, and its write, an uncorrectable byte carrying poison (R360, R362, R363, R365, R418, R536). -/
def State.acceptInput (s0 : State) (e st lane stamp : Nat) (h : TideHdr) (payload : List Byte) (bad0 : List Nat) : State :=
  let r := s0.readBuffer e (s0.stnEnt e st).part payload bad0
  let s := r.2
  let x := s.stnEnt e st
  let k := stnKey e st
  let y := s.stn k
  let s1 := if y.accepted && y.expected then s.bump (Reg.FE_SURPLUS e) ⟨0, 32⟩ 1 else s
  let s2 := (s1.setStn k { y with seqOk := true, accepted := true, flags := h.flags, lane := lane }).setFld (Reg.STN_STATE e st) F.STN_STATE_SEQ h.cycle
  let s3 := s2.setStnState e st stAlive 0
  let body := swapBytes x.swapIn payload ++ List.replicate ((8 - x.inlen % 8) % 8) 0
  let direct := x.fast && s.directOk x.lane x.fcore
  let b : InputBlk := { station := st, img := if x.fast then none else some x.inimg, core := x.fcore, off := x.inoff, part := x.part,
                        bytes := body ++ s3.inHeader e st 0, poison := badMarks x.swapIn payload.length r.1, stamp := stamp, direct := direct }
  if !x.fast && !s3.imgOn e x.inimg then s3.inputRefused e st
  else if x.fast && !direct then (s3.fsFault x.lane F.FE_FSDROP_INDIRECT).sendInput e b
  else s3.sendInput e b

/-- TIDE_FRAME_INPUT (R361): a frame that a lane's MAC accepted is checked; `bad` names the bytes of its payload that the receive buffer
cannot correct, `stamp` is the lane timestamp of its last bit. -/
def execTideFrameInput (lane : Nat) (bytes : List Byte) (bad : List Nat) (stamp : Nat) (s : State) : Res :=
  let e := lane / 24
  let f := parseFrame bytes
  let h := parseTide f.rest
  let st := h.station - 2048 * e
  let k := stnKey e st
  let s0 := s.recv (.rxTide lane bytes)
  .next (if !s.hasLane lane ∨ f.etype ≠ s.tideType e then s0
  else match s0.tideReason e lane f h with
    | some r => s0.tideDrop e r
    | none =>
      let q := match f.rtag with
        | some n => if (s0.stnEnt e st).pair && s0.paired lane then s0.eliminate k lane n else (true, s0)
        | none => (true, s0)
      if !q.1 then q.2
      else
        let d := diff32 h.cycle (q.2.fld (Reg.STN_STATE e st) F.STN_STATE_SEQ)
        if (q.2.stn k).seqOk && (d == 0 || decide (2 ^ 31 ≤ d)) then q.2.tideDrop e 7
        else q.2.acceptInput e st lane stamp h ((f.rest.drop 16).take h.len) bad)

end Sys2Proof.Machine
end

