-- ==== Sys2Proof/Machine/Tables.lean ====
section
/-!
DEFINITION. Tide tables (R372 to R380), flips and bank words (R369, R370), life signs and RESUME (R381, R383), and image registers (R366, R367).
-/
namespace Sys2Proof.Machine

/-! ### Table registers and entries (R372 to R374) -/

/-- Table states: 0 STOPPED, 1 ARMED, 2 RUNNING, 3 STOPPING. -/
def State.ttState (s : State) (e k : Nat) : Nat := s.fld (Reg.FE_TTSTAT e k) F.FE_TTSTAT_STATE
def State.setTtState (s : State) (e k v : Nat) : State := s.setFld (Reg.FE_TTSTAT e k) F.FE_TTSTAT_STATE v
def State.ttCycle (s : State) (e k : Nat) : Nat := s.fld (Reg.FE_TTSTAT e k) F.FE_TTSTAT_CYCLE
def State.ttPeriod (s : State) (e k : Nat) : Nat := s.fld (Reg.FE_TTPERIOD e k) ⟨0, 30⟩
def State.ttLen (s : State) (e k : Nat) : Nat := s.fld (Reg.FE_TTLEN e k) ⟨0, 14⟩
/-- The two words of entry `n`. -/
def State.ttEntry (s : State) (e k n : Nat) : Word × Word := (s.reg (Reg.TT_ENTRY e k (2 * n)), s.reg (Reg.TT_ENTRY e k (2 * n + 1)))
def entOffset (w : Word × Word) : Nat := getF w.1 ⟨0, 32⟩
def entAction (w : Word × Word) : Nat := getF w.1 ⟨32, 8⟩

/-- Operand bits that an action lists (R374). -/
def operandMask (act : Nat) : Word :=
  match act with
  | 1 => 0x7FF
  | 2 => 0x7FF
  | 3 => 0x3F
  | 4 => 0x3F
  | 5 => 0x30F
  | 6 => 0xFF_FFFF
  | _ => 0

/-- The code of R376 that entry `n` fails, codes 3 to 6. -/
def State.entryCode (s : State) (e k n : Nat) : Option Nat :=
  let w := s.ttEntry e k n
  let act := entAction w
  if s.ttPeriod e k ≤ entOffset w then some 3
  else if 0 < n ∧ entOffset w < entOffset (s.ttEntry e k (n - 1)) then some 4
  else if 6 < act ∨ getF w.1 ⟨40, 24⟩ ≠ 0 ∨ w.2 &&& ~~~ operandMask act ≠ 0 then some 5
  else if act = 6 ∧ (bitsOf w.2 24).any (fun i => !s.hasLane (24 * e + i)) then some 6
  else if act = 4 ∧ s.hasLdl (2 * e + w.2.toNat / 32) = false then some 6
  else none

/-- The first entry that fails, with its code. -/
def State.firstBadEntry (s : State) (e k : Nat) : Option (Nat × Nat) :=
  (List.range (s.ttLen e k)).findSome? (fun n => (s.entryCode e k n).map (fun c => (c, n)))

/-- The ERRCODE and ERRIDX of a START check (R376). -/
def State.ttRefusal (s : State) (e k : Nat) : Option (Nat × Nat) :=
  if s.ttState e k ≠ 0 then some (7, 0)
  else if s.ttPeriod e k < 31250 ∨ 1000000000 < s.ttPeriod e k then some (1, 0)
  else if 8192 < s.ttLen e k then some (2, 0)
  else s.firstBadEntry e k

/-- A write of FE_TTCTL (R375, R379): BEV, then START, then ABORT before STOP. -/
def State.writeTtctl (s : State) (e k : Nat) (v : Word) : State :=
  let a := Reg.FE_TTCTL e k
  let s1 := s.setFld a F.FE_TTCTL_BEV (getF v F.FE_TTCTL_BEV)
  let s2 := if getF v F.FE_TTCTL_REJ = 1 then s1.setFlag a F.FE_TTCTL_REJ false else s1
  let s3 := if getF v F.FE_TTCTL_START = 1 then s2.setFlag a F.FE_TTCTL_START true else s2
  if getF v F.FE_TTCTL_ABORT = 1 then
    (((s3.setTtState e k 0).setFlag a F.FE_TTCTL_STOP false)).setFlag a F.FE_TTCTL_START false
  else if getF v F.FE_TTCTL_STOP = 1 then
    match s3.ttState e k with
    | 0 => s3.setFlag a F.FE_TTCTL_START false
    | 1 => s3.setTtState e k 0
    | 2 => (s3.setTtState e k 3).setFlag a F.FE_TTCTL_STOP true
    | _ => s3
  else s3

/-- The word of a FE_TTCTL write with one command bit and BEV; REJ is kept. -/
def ttctlWord (bit : Nat) (bev : Bool) : Word := bitW bit ||| (if bev then 8 else 0)

/-- TT_START, TT_STOP, TT_ABORT (R375). -/
def execTtStart (e k : Nat) (bev : Bool) (s : State) : Res := .next (if s.hasFe e ∧ k < 8 then s.writeTtctl e k (ttctlWord 0 bev) else s)
def execTtStop (e k : Nat) (bev : Bool) (s : State) : Res := .next (if s.hasFe e ∧ k < 8 then s.writeTtctl e k (ttctlWord 1 bev) else s)
def execTtAbort (e k : Nat) (bev : Bool) (s : State) : Res := .next (if s.hasFe e ∧ k < 8 then s.writeTtctl e k (ttctlWord 2 bev) else s)

/-- TT_START_CHECK_DONE (R375, R376): refused, or ARMED with the first boundary at or after this instant. -/
def execTtStartCheckDone (e k : Nat) (s : State) : Res :=
  let a := Reg.FE_TTCTL e k
  .next (if !(s.hasFe e && decide (k < 8) && s.flag a F.FE_TTCTL_START) then s
  else
    let s1 := s.setFlag a F.FE_TTCTL_START false
    match s.ttRefusal e k with
    | some (c, n) => ((s1.setFlag a F.FE_TTCTL_REJ true).setFld a F.FE_TTCTL_ERRCODE c).setFld a F.FE_TTCTL_ERRIDX n
    | none =>
      let b := (s.reg (Reg.FE_TTBASE e k)).toNat
      let p := s.ttPeriod e k
      let first := if s.now ≤ b then b else b + (s.now - b + p - 1) / p * p
      (s1.setTab (tabKey e k) { start := first, next := 0 }).setTtState e k 1)

/-! ### The sequencer (R378) -/

/-- The instant at which the sequencer can start something due at a time. -/
def State.startAt (s : State) (e due : Nat) : Nat := match (s.fe e).lastStart with | some t => max due (t + 4) | none => due

/-- `n` entries are skipped. -/
def State.ttSkip (s : State) (e k n : Nat) : State :=
  if n = 0 then s
  else (s.bump (Reg.FE_TTLATE e k) F.FE_TTLATE_SKIPPED n).setFlag (Reg.FE_STAT e) F.FE_STAT_TFAULT true

/-- The sequencer comes to the next entry of a table, where its action is `act`: its operand and due time if it starts, none if it is skipped. -/
def State.ttNext (s : State) (e k act : Nat) : Option (Word × Nat) × State :=
  let t := s.tab (tabKey e k)
  let st := s.ttState e k
  let w := s.ttEntry e k t.next
  if !(s.hasFe e && decide (k < 8) && (st == 2 || st == 3) && decide (t.next < s.ttLen e k) && entAction w == act) then (none, s)
  else
    let due := t.start + entOffset w
    let at_ := s.startAt e due
    let s1 := s.setTab (tabKey e k) { t with next := t.next + 1 }
    if t.start + s.ttPeriod e k ≤ at_ then (none, s1.ttSkip e k 1)
    else
      let a := Reg.FE_TTLATE e k
      let s2 := s1.modFe e (fun x => { x with lastStart := some at_ })
      (some (w.2, due), s2.setFld a F.FE_TTLATE_LATEMAX (max (s2.fld a F.FE_TTLATE_LATEMAX) (min 0xFFFF (at_ - due))))

/-- An entry that does nothing (R374). -/
def State.seqIgnored (s : State) (e : Nat) : State := s.bump (Reg.FE_SEQIGN e) ⟨0, 32⟩ 1

/-- A raise meets the waits of the engine's ladle channels for it (R475). -/
def State.ldlTide (s : State) (e k v : Nat) : State :=
  { s with ldls := Tbl.mapAll (fun _ => {}) (fun c x => match x.wait with
      | some (.tide j w _) => if c / 64 = e ∧ j = k ∧ w = v then { x with met := true } else x
      | _ => x) s.ldls }

/-- Raise tide event `v` of table `k` (R380). -/
def State.tideEvent (s : State) (e k v : Nat) : State :=
  let s1 := (s.setBit (Reg.FE_TEVFLAG e k) v true).ldlTide e k v
  if v < 32 then s1.raiseEdge (256 + 384 * e + 128 + 32 * k + v) else s1

/-- TT_SEND (R371, R374, R382). -/
def execTtSend (e k : Nat) (s : State) : Res :=
  let q := s.ttNext e k 1
  .next (match q.1 with
    | none => q.2
    | some (op, due) =>
      let st := op.toNat % 2048
      let x := q.2.stnEnt e st
      if x.fmt = 0 ∨ x.fast then q.2.seqIgnored e
      else q.2.sendOut e st (q.2.ttCycle e k) (due % 2 ^ 32))

/-- An EXPECT for a station (R360, R365): the state table's rows. -/
def State.expect (s : State) (e st : Nat) : State :=
  let x := s.stnEnt e st
  let k := stnKey e st
  let y := s.stn k
  let s1 := s.setStn k { y with accepted := false, expected := true }
  if x.inlen = 0 ∨ y.accepted then s1
  else
    let m := s.fld (Reg.STN_STATE e st) F.STN_STATE_MISSED + 1
    if s.stnState e st = stLost then s1.writeHeader e st 2
    else if m < max 1 x.timeout then (s1.setStnState e st stMissing m).writeHeader e st 1
    else
      let s2 := (s1.setStnState e st stLost (min 255 m)).setFlag (Reg.FE_STAT e) F.FE_STAT_LOSTEV true
      (s2.modStn k (fun z => { z with recov := none })).writeHeader e st 2

/-- TT_EXPECT (R360, R363, R374). -/
def execTtExpect (e k : Nat) (s : State) : Res :=
  let q := s.ttNext e k 2
  .next (match q.1 with
    | none => q.2
    | some (op, _) =>
      let st := op.toNat % 2048
      if (q.2.stnEnt e st).fmt = 0 then q.2.seqIgnored e else (q.2.expect e st).settle)

/-- TT_EVENT (R380). -/
def execTtEvent (e k : Nat) (s : State) : Res :=
  let q := s.ttNext e k 3
  .next (match q.1 with | none => q.2 | some (op, _) => q.2.tideEvent e k (op.toNat % 64))

/-- A flip of one side begins (R369). -/
def State.beginFlip (s : State) (e i : Nat) (input : Bool) : State :=
  let c := s.ttCycle e (s.fld (Reg.FE_IMGCFG e i) F.FE_IMGCFG_TABLE)
  s.modImg (imgKey e i) (fun x => { x with flips := x.flips ++ [(input, c)] })

/-- TT_FLIP (R369, R374). -/
def execTtFlip (e k : Nat) (s : State) : Res :=
  let q := s.ttNext e k 5
  .next (match q.1 with
    | none => q.2
    | some (op, _) =>
      let i := op.toNat % 16
      if !q.2.imgOn e i then q.2.seqIgnored e
      else
        let s1 := if getB op 8 then q.2.beginFlip e i true else q.2
        if getB op 9 then s1.beginFlip e i false else s1)

/-- The bank word (R370) is written at FE_IMGBW, unless that is 0, in the class of its region: over TC0 into cast memory (R34). A write that is refused is
absorbed by the breakwater (R297). -/
def State.writeBankWord (s : State) (e i cycle : Nat) : State :=
  let a := (s.reg (Reg.FE_IMGBW e i)).toNat
  if a = 0 then s
  else
    let p := s.imgOwner e i
    let st := s.reg (Reg.FE_IMGSTAT e i)
    let bs := leBytes 4 cycle ++ leBytes 1 (getF st ⟨0, 2⟩) ++ leBytes 1 (s.img (imgKey e i)).fseq ++ leBytes 2 0
    if regionOf a = .dram then s.bankArrive e a p bs
    else s.feTc0 e { flits := 1, src := feRouter e, dst := castRouter a, msg := .bankWord e a p bs }

/-- FLIP_COMPLETE (R369, R370): the input writes injected before the flip are acknowledged, the bit inverts, the bank word is written. -/
def execFlipComplete (e image : Nat) (s : State) : Res :=
  let k := imgKey e image
  .next (match (s.img k).flips with
    | [] => s
    | (input, cycle) :: rest =>
      let s1 := s.modImg k (fun x => { x with flips := rest, fseq := (x.fseq + 1) % 256 })
      let f := if input then F.FE_IMGSTAT_CURIN else F.FE_IMGSTAT_CUROUT
      let a := Reg.FE_IMGSTAT e image
      (s1.setFlag a f (!s.flag a f)).writeBankWord e image cycle)

/-- A sync marker on local lane `i` (R355, R374). -/
def State.syncMarker (s : State) (e i cycle due : Nat) : State :=
  let l := 24 * e + i
  let ver := if s.quadMode (l / 4) = 2 then 1 else 2
  let bs := pad60 (List.replicate 6 0xFF ++ s.laneMac l ++ be2 (s.tideType e) ++ tideHeader ver 2 0 0 cycle 8 0 ++ leBytes 8 due)
  s.enqueue l { body := .marker, bytes := bs, len := bs.length + 4 }

/-- TT_SYNC (R374). -/
def execTtSync (e k : Nat) (s : State) : Res :=
  let q := s.ttNext e k 6
  .next (match q.1 with
    | none => q.2
    | some (op, due) => (bitsOf op 24).foldl (fun s i => s.syncMarker e i (s.ttCycle e k) due) q.2)

/-- TT_NOP (R374). -/
def execTtNop (e k : Nat) (s : State) : Res := .next (s.ttNext e k 0).2

/-! ### Cycle boundaries (R375, R377) -/

/-- The life-sign count of an image advances; reaching LSLIMIT expires it (R381). -/
def State.lifeCount (s : State) (e i : Nat) : State :=
  let a := Reg.FE_IMGSTAT e i
  let lim := s.fld (Reg.FE_IMGCFG e i) F.FE_IMGCFG_LSLIMIT
  let n := min 255 (s.fld a F.FE_IMGSTAT_LSCNT + 1)
  let s1 := s.setFld a F.FE_IMGSTAT_LSCNT n
  if lim ≠ 0 ∧ (n = lim ∨ (lim < n ∧ s.flag a F.FE_IMGSTAT_LSEXP = false)) then
    ((s1.setFlag a F.FE_IMGSTAT_LSEXP true).setFlag (Reg.FE_STAT e) F.FE_STAT_LSEV true).modImg (imgKey e i) (fun x => { x with fresh := false })
  else s1

/-- A pending RESUME is judged (R383). -/
def State.judgeResume (s : State) (e i : Nat) : State :=
  let a := Reg.FE_IMGSTAT e i
  let c := Reg.FE_IMGCTL e i
  if !s.flag c F.FE_IMGCTL_RESUME then s
  else
    let s1 := s.setFlag c F.FE_IMGCTL_RESUME false
    if !s.flag a F.FE_IMGSTAT_LSEXP then s1
    else if (s.img (imgKey e i)).fresh then (s1.setFlag a F.FE_IMGSTAT_LSEXP false).setFld a F.FE_IMGSTAT_LSCNT 0
    else s1.setFlag a F.FE_IMGSTAT_RESUMEREJ true

/-- The enabled images bound to a table. -/
def State.boundImages (s : State) (e k : Nat) : List Nat :=
  (List.range 16).filter (fun i => s.imgOn e i && s.fld (Reg.FE_IMGCFG e i) F.FE_IMGCFG_TABLE == k)

/-- The boundary events of a table (R377), in their order. -/
def State.boundaryEvents (s : State) (e k : Nat) : State :=
  let is := s.boundImages e k
  let flip (s : State) (i : Nat) : State :=
    let c := s.reg (Reg.FE_IMGCFG e i)
    let s1 := if getF c F.FE_IMGCFG_AUTOIN = 1 then s.beginFlip e i true else s
    if getF c F.FE_IMGCFG_AUTOOUT = 1 then s1.beginFlip e i false else s1
  let s1 := is.foldl flip s
  let s2 := is.foldl (fun s i => s.lifeCount e i) s1
  let s3 := is.foldl (fun s i => s.judgeResume e i) s2
  if s3.flag (Reg.FE_TTCTL e k) F.FE_TTCTL_BEV then s3.tideEvent e k 63 else s3

/-- TT_BOUNDARY (R375, R377, R378): entries of the cycle that have not started are skipped; a STOPPING table stops with no boundary event. -/
def execTtBoundary (e k : Nat) (s : State) : Res :=
  let st := s.ttState e k
  let t := s.tab (tabKey e k)
  .next (if !(s.hasFe e && decide (k < 8)) || st == 0 then s
  else
    let s1 := if st = 1 then s else s.ttSkip e k (s.ttLen e k - t.next)
    if st = 3 then (s1.setTtState e k 0).setFlag (Reg.FE_TTCTL e k) F.FE_TTCTL_STOP false
    else
      let start := if st = 1 then t.start else t.start + s.ttPeriod e k
      let cyc := if st = 1 then 0 else (s.ttCycle e k + 1) % 2 ^ 32
      let s2 := (s1.setTab (tabKey e k) { start := start, next := 0 }).setTtState e k 2
      let s3 := s2.setFld (Reg.FE_TTSTAT e k) F.FE_TTSTAT_CYCLE cyc
      let at_ := s3.startAt e start
      ((s3.modFe e (fun x => { x with lastStart := some at_ })).boundaryEvents e k).settle)

/-! ### Image registers (R366, R367, R381, R383) -/

/-- A bank of an image lies wholly within one memory region. -/
def bankOk (a n : Nat) : Bool := n == 0 || oneMemRegion a n

/-- The checks of EN = 1 (R366). -/
def State.imgRefused (s : State) (e i : Nat) : Bool :=
  let ins := s.insize e i
  let outs := s.outsize e i
  let a := (s.reg (Reg.FE_IMGIN e i)).toNat
  let b := (s.reg (Reg.FE_IMGOUT e i)).toNat
  let w := (s.reg (Reg.FE_IMGBW e i)).toNat
  !bankOk a ins || !bankOk (a + ins) ins || !bankOk b outs || !bankOk (b + outs) outs || (w != 0 && !oneMemRegion w 8) ||
    (ins == 0 && outs == 0) || decide (0x10_0000 < ins) || decide (0x10_0000 < outs)

/-- A pending RESUME of an image that is disabled is dropped (R383). -/
def State.dropResume (s : State) (e i : Nat) : State :=
  if s.flag (Reg.FE_IMGCTL e i) F.FE_IMGCTL_RESUME then
    (s.setFlag (Reg.FE_IMGCTL e i) F.FE_IMGCTL_RESUME false).setFlag (Reg.FE_IMGSTAT e i) F.FE_IMGSTAT_RESUMEREJ true
  else s

/-- A write of FE_IMGCFG (R366, R367, R381). -/
def State.writeImgcfg (s : State) (e i : Nat) (v : Word) : State :=
  let a := Reg.FE_IMGCFG e i
  let g (f : Fld) : Nat := getF v f
  let s1 := ((s.setFld a F.FE_IMGCFG_AUTOIN (g F.FE_IMGCFG_AUTOIN)).setFld a F.FE_IMGCFG_AUTOOUT (g F.FE_IMGCFG_AUTOOUT)).setFld
    a F.FE_IMGCFG_LSLIMIT (g F.FE_IMGCFG_LSLIMIT)
  if s.imgOn e i then
    let s2 := if g F.FE_IMGCFG_TABLE ≠ s.fld a F.FE_IMGCFG_TABLE ∨ g F.FE_IMGCFG_OWNER ≠ s.fld a F.FE_IMGCFG_OWNER
      then s1.setFlag (Reg.FE_STAT e) F.FE_STAT_WRREJ true else s1
    if g F.FE_IMGCFG_EN = 1 then s2 else (s2.setFlag a F.FE_IMGCFG_EN false).dropResume e i
  else
    let s2 := (s1.setFld a F.FE_IMGCFG_TABLE (g F.FE_IMGCFG_TABLE)).setFld a F.FE_IMGCFG_OWNER (g F.FE_IMGCFG_OWNER)
    if g F.FE_IMGCFG_EN = 0 then s2.dropResume e i
    else if s2.imgRefused e i then s2.setFlag (Reg.FE_IMGSTAT e i) F.FE_IMGSTAT_CFGREJ true
    else
      let t := Reg.FE_IMGSTAT e i
      let s3 := ((s2.setFlag t F.FE_IMGSTAT_CURIN false).setFlag t F.FE_IMGSTAT_CUROUT false).setFld t F.FE_IMGSTAT_LSCNT 0
      (s3.modImg (imgKey e i) (fun x => { x with life := none, flips := [] })).setFlag a F.FE_IMGCFG_EN true

/-- IMAGE_ENABLE (R366). -/
def execImageEnable (e image : Nat) (value : Word) (s : State) : Res :=
  .next (if s.hasFe e ∧ image < 16 then s.writeImgcfg e image value else s)

/-- IMAGE_RESUME (R383): one written while one is pending is ignored. -/
def execImageResume (e image : Nat) (s : State) : Res :=
  .next (if s.hasFe e ∧ image < 16 then s.setFlag (Reg.FE_IMGCTL e image) F.FE_IMGCTL_RESUME true else s)

/-- SUBFORCE_WRITE (R382). -/
def execSubforceWrite (e : Nat) (value : Word) (s : State) : Res := .next (if s.hasFe e then s.setReg (Reg.FE_SUBFORCE e) value else s)

/-- A store to a life-sign page (R381). -/
def State.lifeStore (s : State) (e i off width : Nat) (v : Word) (part : Nat) : State :=
  if off = 0 ∧ width = 8 ∧ part = s.imgOwner e i ∧ s.imgOn e i = true ∧ (s.img (imgKey e i)).life ≠ some v then
    (s.modImg (imgKey e i) (fun x => { x with life := some v, fresh := true })).setFld (Reg.FE_IMGSTAT e i) F.FE_IMGSTAT_LSCNT 0
  else s.bump (Reg.FE_LSDROP e) ⟨0, 32⟩ 1

end Sys2Proof.Machine
end

