-- ==== Sys2Proof/Machine/Fast.lean ====
section
/-!
DEFINITION. Fast loops (chapter 15): mailbox slots and SEND (R426 to R430), the deadline (R433), direct messages (R418, R489). The input side of a fast
station stands in Tide.lean, the measurement of a loop in Lane.lean.
-/
namespace Sys2Proof.Machine

/-- A store of FE_MBDATA: a word, or the half its offset names (R427). -/
def storeMb (old v : Word) (off width : Nat) : Word :=
  let m := accessMask off width
  (old &&& ~~~ m) ||| (placeValue off width v &&& m)

/-- The staged payload (R429). -/
def FastSt.payload (x : FastSt) (n : Nat) : List Byte :=
  (((List.range 32).map (fun w => leBytes 8 (Tbl.get (fun _ => (0 : Word)) x.data w).toNat)).flatten).take n

/-- The engine produces an output frame of a fast station (R429, R433): SENDS counts it, and CYCLE carries the count. -/
def State.fastOut (s : State) (e st : Nat) (subst : Bool) (meas : Option Nat) (count : Bool) : State :=
  let x := s.stnEnt e st
  if subst && x.submode == 1 then s
  else
    let n := ((s.fastSt x.lane).sends + 1) % 2 ^ 32
    let s1 := s.modFast x.lane (fun y => { y with sends := n })
    let t := s.now % 2 ^ 32
    if subst then s1.substFrame e st n t meas count
    else s1.queueOut e st n t false ((s.fastSt x.lane).payload x.outlen) meas count

/-- A SEND store is received (R429, R432): it closes the open loop, measured when a frame is produced; with no loop open it counts in LATE. -/
def State.mbSend (s : State) (e st : Nat) (sub : Bool) : State :=
  let x := s.stnEnt e st
  let lp := (s.fastSt x.lane).loop
  let s1 := s.modFast x.lane (fun y => { y with loop := none })
  let s2 := if lp.isNone then s1.fsBump x.lane (Reg.FE_FSMISS e (x.lane % 24)) F.FE_FSMISS_LATE else s1
  s2.fastOut e st (sub || s.inSubst e x) lp true

/-- A store to the mailbox slot of local lane `i` (R426 to R428). -/
def State.slotStore (s : State) (e i off width : Nat) (v : Word) (part : Nat) : State :=
  let l := 24 * e + i
  let drop : State := s.fsBump l (Reg.FE_FSDROP e i) F.FE_FSDROP_DROPPED
  match s.slotOwner e i with
  | none => drop
  | some st =>
    if (s.stnEnt e st).part ≠ part then drop
    else if off < 0x100 then s.modFast l (fun y => { y with data := Tbl.mod (fun _ => 0) y.data (off / 8) (fun w => storeMb w v off width) })
    else if off = 0x100 ∧ v &&& ~~~ (3 : Word) = 0 then (if getB v 0 then s.mbSend e st (getB v 1) else s)
    else drop

/-- A store to the field mailbox space of an engine arrives (R268, R381, R426): by its offset, to a slot, a life-sign page, or a reserved offset. An engine that
does not answer loses it (R294). -/
def State.mailboxArrive (s : State) (e core off width : Nat) (v : Word) (part : Nat) : State :=
  let s1 := (s.recv (.mailbox e core off width v part)).modCore core (fun c => { c with mbxSent := c.mbxSent.erase e })
  if !s.answers (epFe e) then s1.dropWrite (coreRouter core) (epFe e)
  else if off < 0x1_8000 then s1.slotStore e (off / 0x1000) (off % 0x1000) width v part
  else if 0x7F_0000 ≤ off ∧ off < 0x80_0000 then s1.lifeStore e ((off - 0x7F_0000) / 0x1000) (off % 0x1000) width v part
  else s1.bump (Reg.FE_LSDROP e) ⟨32, 32⟩ 1

/-- MAILBOX_DATA_STORE (R426, R427). -/
def execMailboxDataStore (e core off width : Nat) (value : Word) (part : Nat) (s : State) : Res :=
  .next (if s.hasFe e then s.mailboxArrive e core off width value part else s)

/-- MAILBOX_SEND (R429): a store of FE_MBSEND of local lane `lane`. -/
def execMailboxSend (e core lane : Nat) (value : Word) (part : Nat) (s : State) : Res :=
  .next (if s.hasFe e ∧ lane < 24 then s.mailboxArrive e core (0x1000 * lane + 0x100) 8 value part else s)

/-- LIFE_SIGN (R381). -/
def execLifeSign (e core image off width : Nat) (value : Word) (part : Nat) (s : State) : Res :=
  .next (if s.hasFe e ∧ image < 16 then s.mailboxArrive e core (0x7F_0000 + 0x1000 * image + off % 0x1000) width value part else s)

/-- DEADLINE_EXPIRE (R433): an open loop closes with the substitute frame. -/
def execDeadlineExpire (lane : Nat) (s : State) : Res :=
  let e := lane / 24
  let i := lane % 24
  .next (match s.slotOwner e i, (s.fastSt lane).loop with
    | some st, some _ =>
      if s.fld (Reg.FE_FSCFG e i) F.FE_FSCFG_DEADLINE = 0 then s
      else
        let s1 := (s.modFast lane (fun y => { y with loop := none })).setFlag (Reg.FE_FSSTAT e i) F.FE_FSSTAT_DLEXP true
        ((s1.fsBump lane (Reg.FE_FSMISS e i) F.FE_FSMISS_DLSUB).fastOut e st true none false).settle
    | _, _ => s)

/-- DIRECT_MESSAGE (R418, R489): the core holds it as a direct offer; one the breakwater refuses is lost with its block. -/
def execDirectMessage (core src prio num : Nat) (s : State) : Res :=
  .next (if s.hasCore core then
    if !s.answers (epCore core) then s.recv (.offer core 5 src prio num true)
    else (s.recv (.offer core 5 src prio num true)).holdOffer core { code := 5, src := src, prio := prio, num := num, direct := true }
  else s)

end Sys2Proof.Machine
end

