-- ==== Sys2Proof/Machine/Func.lean ====
section
/-!
DEFINITION. Field functions (chapter 14): set-up and states (R391 to R394), doorbells (R395, R396), transmit (R397 to R401, R409), receive (R402 to R407),
interrupts (R408), quiescing (R411), and the MAC's receive side (R332). A function is named by engine and local number.
-/
namespace Sys2Proof.Machine

/-! ### Names -/

def fnKey (e f : Nat) : Nat := 128 * e + f
/-- Function states (R392): 0 DISABLED, 1 RUN, 2 QUIESCING, 3 QUIESCED, 4 ERROR. -/
def State.fnState (s : State) (e f : Nat) : Nat := s.fld (Reg.FE_FNSTAT e f) F.FE_FNSTAT_STATE
def State.setFnState (s : State) (e f v : Nat) : State := s.setFld (Reg.FE_FNSTAT e f) F.FE_FNSTAT_STATE v
def State.fnRun (s : State) (e f : Nat) : Bool := s.hasFe e && decide (f < 128) && s.fnState e f == 1
def State.fnOwner (s : State) (e f : Nat) : Nat := s.fld (Reg.FE_FNCFG e f) F.FE_FNCFG_OWNER

/-- The register of a ring: 0 TX, 1 to 4 RX ring 0 to 3. -/
def ringReg (e f r : Nat) : Nat := if r = 0 then Reg.FE_FNTXRING e f else Reg.FE_FNRXRING e f (r - 1)
def tailReg (e f r : Nat) : Nat := if r = 0 then Reg.FE_DBTXTAIL e f else Reg.FE_DBRXTAIL e f (r - 1)
def headReg (e f r : Nat) : Nat := if r = 0 then Reg.FE_DBTXHEAD e f else Reg.FE_DBRXHEAD e f (r - 1)
def ringCfg (e f r : Nat) : Nat := if r = 0 then Reg.FE_DBTXCFG e f else Reg.FE_DBRXCFG e f (r - 1)
def State.ringLog (s : State) (e f r : Nat) : Nat := s.fld (ringReg e f r) F.FE_FNTXRING_LOG2SIZE
def State.ringSize (s : State) (e f r : Nat) : Nat := let n := s.ringLog e f r; if n = 0 then 0 else 2 ^ n
/-- A ring in use: the TX ring always. -/
def State.ringUsed (s : State) (e f r : Nat) : Bool := r == 0 || s.flag (ringReg e f r) F.FE_FNRXRING_USE
/-- Guest-physical address of a ring, and of descriptor `i`. -/
def State.ringBase (s : State) (e f r : Nat) : Nat := 64 * s.fld (ringReg e f r) F.FE_FNTXRING_BASE
def State.descAddr (s : State) (e f r i : Nat) : Nat := s.ringBase e f r + 32 * (i % max 1 (s.ringSize e f r))
def State.ringTail (s : State) (e f r : Nat) : Nat := s.fld (tailReg e f r) ⟨0, 32⟩
def State.ringHead (s : State) (e f r : Nat) : Nat := s.fld (headReg e f r) ⟨0, 32⟩

/-! ### Address windows (R390) -/

/-- Window `w`: guest base, physical base, size; none where it is not enabled. -/
def State.fnWin (s : State) (e f w : Nat) : Option (Nat × Nat × Nat) :=
  let b := s.reg (Reg.FE_FNWINBASE e f w)
  if getB b 0 then some (4096 * getF b ⟨12, 36⟩, 4096 * s.fld (Reg.FE_FNWINPA e f w) ⟨12, 36⟩, 4096 * s.fld (Reg.FE_FNWINSIZE e f w) ⟨12, 36⟩)
  else none

/-- The physical address of an access whose every byte lies in one enabled window. -/
def State.fnXlate (s : State) (e f a n : Nat) : Option Nat :=
  (List.range 4).findSome? (fun w => match s.fnWin e f w with
    | some (g, p, z) => if g ≤ a ∧ a + n ≤ g + z then some (p + (a - g)) else none
    | none => none)

/-- A read of guest-physical memory: none where the window check or the Tideway fails it. -/
def State.fnRead (s : State) (e f a n : Nat) (bad : Bool) : Option (List Byte) × State :=
  match s.fnXlate e f a n with
  | none => (none, s)
  | some p =>
    if !s.engOk (feRouter e) (s.fnOwner e f) p n then (none, s.engRefused (feRouter e) (s.fnOwner e f) p n false)
    else if bad then (none, s)
    else
      let q := s.engRead (s.fnOwner e f) p n
      (if q.2.1.any id then none else some q.1, q.2.2)

/-- A write of guest-physical memory with its dirty-log bits (R413): whether it was performed. -/
def State.fnWrite (s : State) (e f a : Nat) (bs : List Byte) (bad : Bool) : Bool × State :=
  let o := s.fnOwner e f
  match s.fnXlate e f a bs.length with
  | none => (false, s)
  | some p =>
    if !s.engOk (feRouter e) o p bs.length then (false, s.engRefused (feRouter e) o p bs.length true)
    else if bad then (false, s) else (true, (s.engWrite o p bs []).logGpa (feRouter e) o a bs.length)

/-! ### Buckets (R406, R409) -/

/-- Depth of a bucket in thousandths of a byte; BURST below 2,048 acts as 2,048. -/
def burst (r : Word) : Nat := 1000 * max 2048 (getF r F.FE_FNTXSHAPE_BURST)
/-- Tokens now: RATE bytes for a µs of tide time. -/
def tokensAt (r : Word) (tok at_ now : Nat) : Nat := min (burst r) (tok + getF r F.FE_FNTXSHAPE_RATE * (now - at_))
def State.txTokens (s : State) (e f : Nat) : Nat := let x := s.fn (fnKey e f); tokensAt (s.reg (Reg.FE_FNTXSHAPE e f)) x.txTok x.txAt s.now
def State.rxTokens (s : State) (e f : Nat) : Nat := let x := s.fn (fnKey e f); tokensAt (s.reg (Reg.FE_FNRXSHAPE e f)) x.rxTok x.rxAt s.now

/-- A write of a shaping register (R412): tokens held are kept up to the new BURST, the new RATE applies from the write. -/
def State.writeShape (s : State) (e f : Nat) (tx : Bool) (width : Nat) (v : Word) : State :=
  let t := if tx then s.txTokens e f else s.rxTokens e f
  let a := if tx then Reg.FE_FNTXSHAPE e f else Reg.FE_FNRXSHAPE e f
  let s1 := s.writeReg a width v
  let n := min (burst (s1.reg a)) t
  s1.modFn (fnKey e f) (fun x => if tx then { x with txTok := n, txAt := s.now } else { x with rxTok := n, rxAt := s.now })

/-! ### Vectors (R388, R408) -/

/-- Raise vector `v` of a function: held in IPEND while masked. -/
def State.fnVector (s : State) (e f v : Nat) : State :=
  if getB (s.reg (Reg.FE_DBIMSET e f)) v then s.setBit (Reg.FE_DBIPEND e f) v true
  else s.raiseEdge (1536 + 4 * fnKey e f + v)

/-- A ring signals: its vector is raised and its count starts again. -/
def State.ringSignal (s : State) (e f r : Nat) : State :=
  (s.modFn (fnKey e f) (fun x => { x with cnt := Tbl.set (fun _ => 0) x.cnt r 0 })).fnVector e f (s.fld (ringCfg e f r) F.FE_DBTXCFG_VEC)

/-- `n` completions of a ring have been written; `now_`: one of them asks to be signalled at once. None raises a vector outside RUN. -/
def State.ringCount (s : State) (e f r n : Nat) (now_ : Bool) : State :=
  let k := fnKey e f
  let c := Tbl.get (fun _ => 0) (s.fn k).cnt r + n
  let s1 := s.modFn k (fun x => { x with cnt := Tbl.set (fun _ => 0) x.cnt r c })
  let cfg := s.reg (ringCfg e f r)
  if s.fnRun e f && getF cfg F.FE_DBTXCFG_IE == 1 && decide (0 < n) && (decide (max 1 (getF cfg F.FE_DBTXCFG_ITHR) ≤ c) || now_)
  then s1.ringSignal e f r else s1

/-- RING_INTERRUPT_TIMER (R408). -/
def execRingInterruptTimer (e f ring : Nat) (s : State) : Res :=
  let cfg := s.reg (ringCfg e f ring)
  .next (if s.fnRun e f && decide (ring < 5) && getF cfg F.FE_DBTXCFG_IE == 1 && getF cfg F.FE_DBTXCFG_ITIME != 0 &&
      Tbl.get (fun _ => 0) (s.fn (fnKey e f)).cnt ring != 0
    then s.ringSignal e f ring else s)

/-- Clear mask bits of a function: a cleared bit whose IPEND is set sends the edge (R408). -/
def State.fnUnmask (s : State) (e f : Nat) (m : Word) : State :=
  (bitsOf m 4).foldl (fun s v =>
    let on := getB (s.reg (Reg.FE_DBIMSET e f)) v
    let s1 := s.setBit (Reg.FE_DBIMSET e f) v false
    if on && getB (s.reg (Reg.FE_DBIPEND e f)) v then (s1.setBit (Reg.FE_DBIPEND e f) v false).fnVector e f v else s1) s

/-! ### States (R393, R394, R411) -/

/-- Whether two enabled windows overlap. -/
def State.winOverlap (s : State) (e f : Nat) : Bool :=
  (List.range 4).any (fun w => (List.range w).any (fun v => match s.fnWin e f w, s.fnWin e f v with
    | some (g, _, z), some (h, _, y) => overlaps (g, g + z) (h, h + y)
    | _, _ => false))

/-- The CFGERR that refuses EN = 1 (R393). -/
def State.fnRefusal (s : State) (e f : Nat) : Option Nat :=
  let rings := List.range 5
  let badLog (r : Nat) : Bool := let n := s.ringLog e f r; (decide (1 ≤ n) && decide (n ≤ 3)) || decide (17 ≤ n)
  if s.ringLog e f 0 = 0 then some 1
  else if rings.any (fun r => s.ringUsed e f r && s.ringLog e f r == 0) then some 2
  else if rings.any (fun r => s.ringUsed e f r && badLog r) then some 3
  else if (List.range 4).any (fun w => match s.fnWin e f w with | some (_, p, z) => z == 0 || !oneMemRegion p z | none => false) then some 4
  else if s.winOverlap e f then some 5
  else if rings.any (fun r => s.ringUsed e f r && (s.fnXlate e f (s.ringBase e f r) (32 * s.ringSize e f r)).isNone) then some 6
  else if (bitsOf (s.reg (Reg.FE_FNLANES e f)) 24).any (fun i => !s.hasLane (24 * e + i)) then some 7
  else none

/-- EN = 1 in DISABLED (R393). -/
def State.fnEnable (s : State) (e f : Nat) : State :=
  let a := Reg.FE_FNSTAT e f
  match s.fnRefusal e f with
  | some c => (s.setFlag a F.FE_FNSTAT_REJ true).setFld a F.FE_FNSTAT_CFGERR c
  | none =>
    let s1 := (List.range 5).foldl (fun s r => (s.setReg (tailReg e f r) 0).setReg (headReg e f r) 0) s
    let x : Fn := { txTok := burst (s.reg (Reg.FE_FNTXSHAPE e f)), txAt := s.now, rxTok := burst (s.reg (Reg.FE_FNRXSHAPE e f)), rxAt := s.now }
    ((s1.setFn (fnKey e f) x).setFlag (Reg.FE_FNCFG e f) F.FE_FNCFG_EN true).setFnState e f 1

/-- A frame of local function `f`. -/
def isFnFrame (f : Nat) (x : TxFrame) : Bool := match x.body with | .bulk g _ => g == f | _ => false

/-- Frames of a function that wait in a lane's queues are removed; their descriptors receive FLUSHED (R411, Seq 2). -/
def State.flushLane (s : State) (f l : Nat) : State :=
  let x := s.lane l
  (x.queue.filter (isFnFrame f)).foldl (fun s g => s.bulkEnd l g 9 0 0) (s.setLane l { x with queue := x.queue.filter (fun g => !isFnFrame f g) })

/-- Seq 1 to 4 of a quiesce (R411), also carried out on entry to ERROR (R394). -/
def State.fnStop (s : State) (e f : Nat) : State :=
  let s1 := (List.range 24).foldl (fun s i => s.flushLane f (24 * e + i)) s
  let k := fnKey e f
  let x := s1.fn k
  let gone := x.rxf.tail
  let held := gone.flatMap (·.descs) ++ x.rxq
  let rings := [1, 2, 3, 4].filter (fun r => held.any (fun d => d.ring == r))
  let fl : List RxFrm := rings.map (fun r => { ring := r, descs := held.filter (fun d => d.ring == r), flush := true })
  let txd : List TxDone := if x.txq.isEmpty then [] else [{ descs := x.txq, code := 9 }]
  let y : Fn := { x with txq := [], segs := [], rxq := [], fin := x.fin ++ txd, rxf := x.rxf.take 1 ++ fl }
  let s2 := (s1.setFn k y).bump (Reg.FE_DBRXDROP e f) F.FE_DBRXDROP_ENGBUF gone.length
  s2.bump (Reg.FE_FNRXCNT e f) F.FE_FNRXCNT_DROP gone.length

/-- A quiesce starts. -/
def State.fnQuiesce (s : State) (e f : Nat) (disable : Bool) : State :=
  let s1 := (s.setFnState e f 2).setFlag (Reg.FE_FNCFG e f) F.FE_FNCFG_QUIESCE true
  (s1.modFn (fnKey e f) (fun x => { x with disable := disable })).fnStop e f

/-- Entry to ERROR from RUN (R394). -/
def State.fnError (s : State) (e f code : Nat) : State :=
  if !s.fnRun e f then s
  else
    let c := s.reg (Reg.FE_DBCFG e f)
    let s1 := if getF c F.FE_DBCFG_ERRIE = 1 then s.fnVector e f (getF c F.FE_DBCFG_ERRVEC) else s
    ((s1.setFnState e f 4).setFld (Reg.FE_FNSTAT e f) F.FE_FNSTAT_ERRCODE code).fnStop e f

/-- DISABLED. -/
def State.fnOff (s : State) (e f : Nat) : State :=
  ((s.setFnState e f 0).setFlag (Reg.FE_FNCFG e f) F.FE_FNCFG_EN false).setFlag (Reg.FE_FNCFG e f) F.FE_FNCFG_QUIESCE false

/-- Fields of FE_FNCFG that only DISABLED lets change (R391): OWNER, SRCOK, PTPOK, VID, VIDFORCE. -/
def fnCfgMask : Word := 0x7FFF_3F00

/-- A write of FE_FNCFG (R391, R394, R411). -/
def State.writeFncfg (s : State) (e f : Nat) (v : Word) : State :=
  let a := Reg.FE_FNCFG e f
  let rej (s : State) : State := s.setFlag (Reg.FE_FNSTAT e f) F.FE_FNSTAT_WRREJ true
  let en := getF v F.FE_FNCFG_EN
  if s.fnState e f = 0 then
    let s1 := s.setReg a ((s.reg a &&& ~~~ fnCfgMask) ||| (v &&& fnCfgMask))
    if en = 1 then s1.fnEnable e f else s1
  else
    let s1 := if (v ^^^ s.reg a) &&& fnCfgMask = 0 then s else rej s
    match s.fnState e f with
    | 1 => if en = 0 then (s1.setFlag a F.FE_FNCFG_EN false).fnQuiesce e f true else if getF v F.FE_FNCFG_QUIESCE = 1 then s1.fnQuiesce e f false else s1
    | 2 => s1
    | _ => if en = 0 then s1.fnOff e f else rej s1

/-- FUNCTION_ENABLE, FUNCTION_QUIESCE, FUNCTION_DISABLE (R391, R393, R394, R411): writes of FE_FNCFG. -/
def execFunctionEnable (e f : Nat) (value : Word) (s : State) : Res := .next (if s.hasFe e ∧ f < 128 then s.writeFncfg e f value else s)
def execFunctionQuiesce (e f : Nat) (value : Word) (s : State) : Res := .next (if s.hasFe e ∧ f < 128 then s.writeFncfg e f value else s)
def execFunctionDisable (e f : Nat) (value : Word) (s : State) : Res := .next (if s.hasFe e ∧ f < 128 then s.writeFncfg e f value else s)

/-- A frame of the function is in transmission or preempted on some lane of the engine. -/
def State.fnOnWire (s : State) (e f : Nat) : Bool :=
  (List.range 24).any (fun i => let x := s.lane (24 * e + i); (x.cur.toList ++ x.susp.toList).any (isFnFrame f))

/-- QUIESCE_COMPLETE (R394, R411): every write is acknowledged and no frame is left in transmission. -/
def execQuiesceComplete (e f : Nat) (s : State) : Res :=
  let x := s.fn (fnKey e f)
  .next (if s.hasFe e ∧ f < 128 ∧ s.fnState e f = 2 ∧ x.fin = [] ∧ x.rxf = [] ∧ s.fnOnWire e f = false then
    (if x.disable then s.fnOff e f else (s.setFnState e f 3).setFlag (Reg.FE_FNCFG e f) F.FE_FNCFG_QUIESCE false)
  else s)

/-! ### Doorbells (R396) -/

/-- A tail write. -/
def State.writeTail (s : State) (e f r v : Nat) : State :=
  let a := Reg.FE_DBSTAT e f
  let t := v % 2 ^ 32
  let old := s.ringTail e f r
  let room := diff32 (s.ringHead e f r + s.ringSize e f r) old
  if s.fnRun e f && s.ringUsed e f r && decide (diff32 t old ≤ room) then s.setReg (tailReg e f r) (BitVec.ofNat 64 t)
  else (s.setFlag a F.FE_DBSTAT_DBERR true).setFld a F.FE_DBSTAT_DBRING r

/-- TX_TAIL_WRITE, RX_TAIL_WRITE (R396). -/
def execTxTailWrite (e f value : Nat) (s : State) : Res := .next (if s.hasFe e ∧ f < 128 then s.writeTail e f 0 value else s)
def execRxTailWrite (e f ring value : Nat) (s : State) : Res :=
  .next (if s.hasFe e ∧ f < 128 ∧ ring < 4 then s.writeTail e f (ring + 1) value else s)

/-! ### Descriptors (R397, R398, R405) -/

def parseTxDesc (idx : Nat) (bs : List Byte) : TxDesc :=
  let v := leWord (bs.take 16)
  { idx := idx, addr := bitsAt v 0 64, len := bitsAt v 64 16, eop := bitAt v 80, tagins := bitAt v 81, qvalid := bitAt v 82, irq := bitAt v 83,
    lane := bitsAt v 88 8, tci := bitsAt v 96 16, queue := bitsAt v 112 3 }

/-- Read the next posted TX descriptor. -/
def State.readTxDesc (s : State) (e f : Nat) (bad : Bool) : State :=
  let k := fnKey e f
  let i := (s.fn k).txRead
  if i = s.ringTail e f 0 then s
  else
    let q := s.fnRead e f (s.descAddr e f 0 i) 24 bad
    match q.1 with
    | none => q.2.fnError e f 1
    | some bs => q.2.modFn k (fun x => { x with txRead := (i + 1) % 2 ^ 32, txq := x.txq ++ [parseTxDesc i bs] })

def Fn.rxNext (x : Fn) (r : Nat) : Nat := Tbl.get (fun _ => 0) x.rxRead r

/-- Read the next posted RX descriptor of ring `r` (1 to 4); answers whether one was read. -/
def State.readRxDesc (s : State) (e f r : Nat) (bad : Bool) : Bool × State :=
  let k := fnKey e f
  let i := (s.fn k).rxNext r
  if i = s.ringTail e f r then (false, s)
  else
    let q := s.fnRead e f (s.descAddr e f r i) 24 bad
    match q.1 with
    | none => (false, q.2.fnError e f 1)
    | some bs =>
      let v := leWord (bs.take 16)
      let d : RxDesc := { ring := r, idx := i, addr := bitsAt v 0 64, size := bitsAt v 64 16 }
      (true, q.2.modFn k (fun x => { x with rxRead := Tbl.set (fun _ => 0) x.rxRead r ((i + 1) % 2 ^ 32), rxq := x.rxq ++ [d] }))

/-- DESCRIPTOR_READ (R394, R397): the read of the next posted descriptor of a ring returns, good or with poison or an error status. -/
def execDescriptorRead (e f ring : Nat) (bad : Bool) (s : State) : Res :=
  .next (if !s.fnRun e f ∨ 5 ≤ ring ∨ s.ringUsed e f ring = false then s
  else if ring = 0 then s.readTxDesc e f bad else (s.readRxDesc e f ring bad).2)

/-! ### Transmit (R398 to R401, R409) -/

/-- The descriptors of the head frame up to its EOP, at most 16; whether EOP is among them. -/
def headDescs : Nat → List TxDesc → List TxDesc × Bool
  | 0, _ => ([], false)
  | _, [] => ([], false)
  | n + 1, d :: r => if d.eop then ([d], true) else let q := headDescs n r; (d :: q.1, q.2)

/-- Check code 5: a segment outside every enabled window. -/
def State.segBad (s : State) (e f : Nat) (d : TxDesc) : Bool := d.len != 0 && (s.fnXlate e f d.addr d.len).isNone

/-- TX_SEGMENT_READ_RETURN (R400): the read of the head frame's next segment returns; a segment of 0 bytes or outside the windows is not read. -/
def execTxSegmentReadReturn (e f : Nat) (bad : Bool) (s : State) : Res :=
  let k := fnKey e f
  let x := s.fn k
  let ds := (headDescs 16 x.txq).1
  .next (if !s.fnRun e f then s
  else match ds[x.segs.length]? with
    | none => s
    | some d =>
      if d.len = 0 ∨ s.segBad e f d = true then s.setFn k { x with segs := x.segs ++ [if d.len = 0 then some [] else none] }
      else
        let q := s.fnRead e f d.addr d.len bad
        q.2.modFn k (fun x => { x with segs := x.segs ++ [q.1] }))

/-- The frame that the engine builds from the data (R399): tag, source address, padding. -/
def State.buildTx (s : State) (e f l : Nat) (d : TxDesc) (data : List Byte) : List Byte :=
  let c := s.reg (Reg.FE_FNCFG e f)
  let src := if getF c F.FE_FNCFG_SRCOK = 1 then (data.drop 6).take 6 else s.laneMac l
  let tag := if getF c F.FE_FNCFG_VIDFORCE = 1 then be2 0x8100 ++ be2 (d.tci / 4096 * 4096 + getF c F.FE_FNCFG_VID)
    else if d.tagins then be2 0x8100 ++ be2 d.tci else []
  pad60 (data.take 6 ++ src ++ tag ++ data.drop 12)

/-- The bulk queue of a frame (R334): the descriptor's, or PCPMAP of its tag; queue 0 for an untagged frame that names none (notes/assumptions/18.md). -/
def State.bulkQueue (s : State) (l : Nat) (d : TxDesc) (p : FrmParts) : Nat :=
  if d.qvalid then d.queue
  else match p.tci with
    | some t => getF (s.reg (lnQcfg l)) ⟨3 * (t / 8192), 3⟩
    | none => 0

/-- The head frame has failed: its descriptors receive a code. -/
def State.txFail (s : State) (e f code n : Nat) : State :=
  s.modFn (fnKey e f) (fun x => { x with txq := x.txq.drop n, segs := [], fin := x.fin ++ [{ descs := x.txq.take n, code := code }] })

/-- The checks of R400 that need no data, for a frame of descriptors `ds`. -/
def State.txCheck (s : State) (e f : Nat) (ds : List TxDesc) (eop : Bool) : Option Nat :=
  let d := ds.headD { idx := 0 }
  let total := (ds.map (·.len)).sum
  let l := 24 * e + d.lane
  let c := s.reg (Reg.FE_FNCFG e f)
  let tag := if getF c F.FE_FNCFG_VIDFORCE = 1 ∨ d.tagins = true then 4 else 0
  if eop ∧ total = 0 then some 1
  else if !eop then some 8
  else if 23 < d.lane ∨ getB (s.reg (Reg.FE_FNLANES e f)) d.lane = false ∨ s.hasLane l = false then some 3
  else if ds.any (s.segBad e f) then some 5
  else if s.maxFrame l < total + tag + 4 then some 2
  else none

/-- Check 7: an EtherType that only the engine sends, or a second tag under VIDFORCE. -/
def State.txForbidden (s : State) (e f : Nat) (p : FrmParts) : Bool :=
  let c := s.reg (Reg.FE_FNCFG e f)
  p.etype == s.tideType e || p.etype == 0x8808 || (p.etype == 0x88F7 && getF c F.FE_FNCFG_PTPOK == 0) ||
    (getF c F.FE_FNCFG_VIDFORCE == 1 && p.tci.isSome)

/-- TX_FRAME_ADMIT (R399 to R401, R409): the head frame of the TX ring is checked, and admitted when the bucket and its queue allow; at RATE = 0 it is neither
sent nor failed. The EtherType is read from the bytes before the first segment whose read failed. -/
def execTxFrameAdmit (e f : Nat) (s : State) : Res :=
  let k := fnKey e f
  let x := s.fn k
  let h := headDescs 16 x.txq
  let n := h.1.length
  let d := h.1.headD { idx := 0 }
  let l := 24 * e + d.lane
  let sh := s.reg (Reg.FE_FNTXSHAPE e f)
  .next (if !s.fnRun e f ∨ getF sh F.FE_FNTXSHAPE_RATE = 0 ∨ n = 0 ∨ (h.2 = false ∧ n < 16) then s
  else match s.txCheck e f h.1 h.2 with
    | some c => s.txFail e f c n
    | none =>
      if x.segs.length < n then s
      else
        let data := (x.segs.map (fun o => o.getD [])).flatten
        let start := ((x.segs.takeWhile (·.isSome)).map (fun o => o.getD [])).flatten
        if decide (14 ≤ start.length) && s.txForbidden e f (parseFrame start) then s.txFail e f 7 n
        else if x.segs.any (·.isNone) then s.txFail e f 6 n
        else
          let bs := s.buildTx e f l d data
          let q := s.bulkQueue l d (parseFrame bs)
          let size := 1000 * (bs.length + 4)
          let tok := s.txTokens e f
          let inQ := ((s.lane l).queue.filter (fun g => match g.body with | .bulk _ _ => g.q == q | _ => false)).length
          if 64 ≤ inQ ∨ tok < min size (burst sh) then s
          else
            let s1 := s.modFn k (fun x => { x with txq := x.txq.drop n, segs := [], txTok := tok - size, txAt := s.now })
            s1.enqueue l { body := .bulk f h.1, bytes := bs, len := bs.length + 4, q := q })

/-- HEAD advances over the completed descriptors that follow it (R396). -/
def advanceHead : Nat → Nat → List Nat → Nat × List Nat
  | 0, h, l => (h, l)
  | n + 1, h, l => if l.contains h then advanceHead n ((h + 1) % 2 ^ 32) (l.filter (· != h)) else (h, l)

/-- Write the completions of a list of descriptors: index and the eight bytes 24 to 31. Answers whether all were performed. -/
def State.writeCompl (s : State) (e f r : Nat) (bad : Bool) : List (Nat × List Byte) → Bool × State
  | [] => (true, s)
  | (i, bs) :: rest =>
    let q := s.fnWrite e f (s.descAddr e f r i + 24) bs bad
    if q.1 then q.2.writeCompl e f r bad rest else (false, q.2)

/-- TX_FRAME_COMPLETE (R400, R401, R407): the oldest ended frame's completions are written, HEAD advances, and the ring may signal. -/
def execTxFrameComplete (e f : Nat) (bad : Bool) (s : State) : Res :=
  let k := fnKey e f
  let x := s.fn k
  .next (if !(s.hasFe e && decide (f < 128)) || s.fnState e f == 0 then s
  else match x.fin with
    | [] => s
    | t :: rest =>
      let s1 := s.setFn k { x with fin := rest }
      let bs := leBytes 1 (128 + t.code) ++ leBytes 1 0 ++ leBytes 2 (if t.code = 0 then t.sent else 0) ++ leBytes 4 (if t.code = 0 then t.tstamp else 0)
      let q := s1.writeCompl e f 0 bad (t.descs.map (fun d => (d.idx, bs)))
      if !q.1 then q.2.fnError e f 2
      else
        let done := x.txDone ++ t.descs.map (·.idx)
        let h := advanceHead (done.length + 1) (s.ringHead e f 0) done
        let s2 := (q.2.modFn k (fun y => { y with txDone := h.2 })).setReg (headReg e f 0) (BitVec.ofNat 64 h.1)
        let s3 := s2.bump (Reg.FE_FNTXCNT e f) (if t.code = 0 then F.FE_FNTXCNT_SENT else F.FE_FNTXCNT_BAD) 1
        s3.ringCount e f 0 t.descs.length (t.descs.any (·.irq)))

/-! ### Receive (R332, R402 to R407) -/

/-- FILTER_WRITE (R404): for frames classified after it. -/
def execFilterWrite (e f k : Nat) (value : Word) (s : State) : Res :=
  .next (if s.hasFe e ∧ f < 128 ∧ k < 8 then s.writeReg (Reg.FE_FNFILT e f k) 8 value else s)

/-- A filter matches a frame (R404). -/
def State.filterHit (s : State) (e f lane : Nat) (p : FrmParts) (w : Word) : Bool :=
  let v := getF w ⟨32, 16⟩
  getB w 0 && s.ringUsed e f (getF w ⟨3, 2⟩ + 1) && getB w (8 + lane % 24) &&
    (match getF w ⟨1, 2⟩ with
     | 0 => true
     | 1 => (match p.tci with | some t => t % 4096 == v % 4096 | none => v % 4096 == 0)
     | 2 => p.etype == v
     | _ => let x := s.stnEnt e (v % 2048); x.fmt != 0 && p.src == x.mac && x.lanes.contains lane)

/-- The lowest-numbered matching filter of a function. -/
def State.filterOf (s : State) (e f lane : Nat) (p : FrmParts) : Option Nat :=
  (List.range 8).find? (fun k => s.filterHit e f lane p (s.reg (Reg.FE_FNFILT e f k)))

/-- The descriptors that a frame of `n` bytes takes from a ring's descriptors, up to 16 not counting those of size 0; none where they cannot hold it. -/
def takeDescs : Nat → Nat → List RxDesc → Option (List RxDesc)
  | _, _, [] => none
  | k, n, d :: r =>
    if d.size = 0 then (takeDescs k n r).map (d :: ·)
    else if k = 0 then none
    else if n ≤ d.size then some [d]
    else (takeDescs (k - 1) (n - d.size) r).map (d :: ·)

/-- Read descriptors until a frame fits or none is left to read; `fuel` bounds the reads. -/
def State.fetchRx (s : State) (e f r n : Nat) : Nat → State
  | 0 => s
  | m + 1 =>
    if (takeDescs 16 n ((s.fn (fnKey e f)).rxq.filter (fun d => d.ring == r))).isSome then s
    else let q := s.readRxDesc e f r false; if q.1 then q.2.fetchRx e f r n m else q.2

/-- Bytes of bulk frames in an engine's receive buffer (R407). -/
def State.bulkBuffered (s : State) (e : Nat) : Nat :=
  (s.fns.map (fun y => if y.1 / 128 = e then (y.2.rxf.map (fun r => r.bytes.length)).sum else 0)).sum

/-- A copy of a frame is dropped by a function. -/
def State.rxDrop (s : State) (e f : Nat) (why : Fld) : State :=
  (s.bump (Reg.FE_DBRXDROP e f) why 1).bump (Reg.FE_FNRXCNT e f) F.FE_FNRXCNT_DROP 1

/-- Remove the first tag of a frame. -/
def stripTag (bs : List Byte) : List Byte := bs.take 12 ++ bs.drop 16

/-- A function takes a copy of a frame (R406). -/
def State.rxCopy (s : State) (e f lane k : Nat) (bytes : List Byte) (p : FrmParts) : State :=
  let r := getF (s.reg (Reg.FE_FNFILT e f k)) ⟨3, 2⟩ + 1
  let strip := getF (s.reg (ringCfg e f r)) F.FE_DBRXCFG_STRIP == 1 && p.tci.isSome
  let bs := if strip then stripTag bytes else bytes
  let n := bs.length
  let tok := s.rxTokens e f
  if getF (s.reg (Reg.FE_FNRXSHAPE e f)) F.FE_FNTXSHAPE_RATE = 0 ∨ tok < 1000 * n then s.rxDrop e f F.FE_DBRXDROP_ADMIT
  else
    let s1 := s.fetchRx e f r n (s.ringSize e f r)
    let x := s1.fn (fnKey e f)
    if !s1.fnRun e f then s1
    else match takeDescs 16 n (x.rxq.filter (fun d => d.ring == r)) with
      | none => s1.rxDrop e f F.FE_DBRXDROP_NOBUF
      | some ds =>
        if 384 * 1024 < s1.bulkBuffered e + n then
          (s1.rxDrop e f F.FE_DBRXDROP_ENGBUF).bump (Reg.FE_RXNOBUF e) ⟨0, 32⟩ 1
        else
          let bc := p.dst == 2 ^ 48 - 1
          let fr : RxFrm := { ring := r, filter := k, lane := lane % 24, bytes := bs, tagged := strip, mc := p.dst % 2 == 1 && !bc, bc := bc,
                              tci := if strip then p.tci.getD 0 else 0, descs := ds }
          let y : Fn := { x with rxq := x.rxq.filter (fun d => !ds.contains d), rxf := x.rxf ++ [fr], rxTok := tok - 1000 * n, rxAt := s.now }
          s1.setFn (fnKey e f) y

/-- Classify a frame to the field functions (R403). -/
def State.classify (s : State) (lane : Nat) (bytes : List Byte) (p : FrmParts) : State :=
  let e := lane / 24
  let hits := (List.range 128).filterMap (fun f => if s.fnRun e f then (s.filterOf e f lane p).map (fun k => (f, k)) else none)
  if hits.isEmpty then s.bump (Reg.FE_RXNOMATCH e) ⟨0, 32⟩ 1
  else hits.foldl (fun s h => s.rxCopy e h.1 lane h.2 bytes p) s

/-- gPTP messages that the hardware consumes (R348, R402): Sync, Pdelay_Req, Pdelay_Resp, Follow_Up, Pdelay_Resp_Follow_Up. -/
def ptpConsumed (p : FrmParts) : Bool :=
  p.etype == 0x88F7 && [0, 2, 3, 8, 10].contains ((p.rest.headD 0).toNat % 16)

/-- FRAME_RECEIVE (R332, R361, R402): the MAC's checks, then the tide path, the hardware's own messages, or the field functions. -/
def execFrameReceive (lane : Nat) (bytes : List Byte) (fcsOk : Bool) (s : State) : Res :=
  let cnt := Reg.FLN_RXCNT (lane / 24) (lane % 24)
  let p := parseFrame bytes
  let n := bytes.length + 4
  let mine := p.dst % 2 == 1 || p.dst == leWord (s.laneMac lane)
  .next (if !s.hasLane lane || !s.laneUp lane then s
  else
    let s1 := s.bump cnt F.FLN_RXCNT_RX 1
    if !fcsOk ∨ n < 64 ∨ s.maxFrame lane < n ∨ mine = false ∨ p.etype = 0x8808 then s1.bump cnt F.FLN_RXCNT_BAD 1
    else if p.etype = s.tideType (lane / 24) then s1.send (.rxTide lane bytes)
    else if ptpConsumed p then s1
    else s1.classify lane bytes p)

/-- Write a frame's data over its buffers (R405): the code and, for each descriptor, the bytes placed. -/
def State.writeData (s : State) (e f : Nat) (bad : Bool) : List RxDesc → List Byte → Nat × List (RxDesc × Nat) × State
  | [], _ => (0, [], s)
  | d :: r, bs =>
    if d.size = 0 then let q := s.writeData e f bad r bs; (q.1, (d, 0) :: q.2.1, q.2.2)
    else
      let part := bs.take d.size
      if (s.fnXlate e f d.addr d.size).isNone then (5, (d, 0) :: r.map (fun d => (d, 0)), s)
      else
        let w := s.fnWrite e f d.addr part bad
        if !w.1 then (6, (d, 0) :: r.map (fun d => (d, 0)), s)
        else let q := w.2.writeData e f bad r (bs.drop d.size); (q.1, (d, part.length) :: q.2.1, q.2.2)

/-- Bytes 24 to 31 of an RX completion (R405). -/
def rxCompl (fr : RxFrm) (code : Nat) (last : Bool) (d : RxDesc) (n : Nat) : List Byte :=
  let st := if fr.flush then 9 else if d.size = 0 then 1 else code
  let used := !fr.flush && d.size != 0
  let flags := if used then b2n last + 2 * b2n fr.tagged + 4 * b2n fr.mc + 8 * b2n fr.bc else 0
  leBytes 1 (128 + st) ++ leBytes 1 flags ++ leBytes 2 n ++ leBytes 2 (if used then fr.tci else 0) ++ leBytes 1 (if used then fr.lane else 0) ++
    leBytes 1 (if used then fr.filter else 0)

/-- RX_FRAME_WRITE_COMPLETE (R406, R407): the oldest frame's data is written and acknowledged, then its completions, then HEAD advances and the ring may
signal. -/
def execRxFrameWriteComplete (e f : Nat) (bad : Bool) (s : State) : Res :=
  let k := fnKey e f
  let x := s.fn k
  .next (if !(s.hasFe e && decide (f < 128)) || s.fnState e f == 0 then s
  else match x.rxf with
    | [] => s
    | fr :: rest =>
      let s1 := s.setFn k { x with rxf := rest }
      let w := if fr.flush then (0, fr.descs.map (fun d => (d, 0)), s1) else s1.writeData e f bad fr.descs fr.bytes
      let m := w.2.1.length
      let compl := (List.range m).map (fun i => let q := w.2.1.getD i ({ ring := fr.ring, idx := 0 }, 0)
        (q.1.idx, rxCompl fr w.1 (i + 1 == m) q.1 q.2))
      let q := w.2.2.writeCompl e f fr.ring false compl
      let cnt := Reg.FE_FNRXCNT e f
      if !q.1 then q.2.fnError e f 2
      else
        let s2 := q.2.setReg (headReg e f fr.ring) (BitVec.ofNat 64 ((s.ringHead e f fr.ring + m) % 2 ^ 32))
        let s3 := if fr.flush then s2
          else if w.1 = 0 then s2.bump cnt F.FE_FNRXCNT_RX 1
          else s2.rxDrop e f F.FE_DBRXDROP_ERR
        s3.ringCount e f fr.ring m false)

end Sys2Proof.Machine
end

