-- ==== Sys2Proof/Machine/Ladle.lean ====
section
/-!
DEFINITION. Ladle engines and programs (chapters 16 and 17): channel states and doorbells (R445 to R454), flags (R455, R478), fetching (R462), the
instructions (R465 to R477), errors (R456), aborts (R453). A channel is named by its engine and its local number.
-/
namespace Sys2Proof.Machine

/-! ### Names -/

def ldlKey (l c : Nat) : Nat := 32 * l + c
def State.ldl (s : State) (k : Nat) : LdlCh := Tbl.get (fun _ => {}) s.ldls k
def State.setLdl (s : State) (k : Nat) (x : LdlCh) : State := { s with ldls := Tbl.set (fun _ => {}) s.ldls k x }
def State.modLdl (s : State) (k : Nat) (f : LdlCh → LdlCh) : State := s.setLdl k (f (s.ldl k))
def State.eng (s : State) (l : Nat) : LdlEng := Tbl.get (fun _ => {}) s.ldlEngs l
def State.setEng (s : State) (l : Nat) (x : LdlEng) : State := { s with ldlEngs := Tbl.set (fun _ => {}) s.ldlEngs l x }

/-- Channel states (R446). -/
def chDisabled : Nat := 0
def chIdle : Nat := 1
def chRunning : Nat := 2
def chWaiting : Nat := 3
def chStopping : Nat := 4
def chAborting : Nat := 5
def chStopped : Nat := 6
def chError : Nat := 7
def State.chState (s : State) (l c : Nat) : Nat := s.fld (Reg.LDL_CHSTAT l c) F.LDL_CHSTAT_STATE
def State.setCh (s : State) (l c v : Nat) : State := s.setFld (Reg.LDL_CHSTAT l c) F.LDL_CHSTAT_STATE v
def State.hasCh (s : State) (l c : Nat) : Bool := s.hasLdl l && decide (c < 32)
def State.chOwner (s : State) (l c : Nat) : Nat := s.fld (Reg.LDL_CHCFG l c) F.LDL_CHCFG_OWNER
def State.chPc (s : State) (l c : Nat) : Nat := (s.reg (Reg.LDL_CHPC l c)).toNat
def State.setChPc (s : State) (l c a : Nat) : State := s.setReg (Reg.LDL_CHPC l c) (BitVec.ofNat 64 (a % 2 ^ 48))
def State.cr (s : State) (l c r : Nat) : Word := s.reg (Reg.LDL_DBREG l c r)
def State.setCr (s : State) (l c r : Nat) (v : Word) : State := s.setReg (Reg.LDL_DBREG l c r) v
/-- Router of engine `l`. -/
def ldlRouter (l : Nat) : Nat := feRouter (l / 2)

/-! ### Windows and accesses (R444, R457) -/

def State.chWin (s : State) (l c w : Nat) : Option (Nat × Nat × Nat) :=
  let b := s.reg (Reg.LDL_CHWINBASE l c w)
  if getB b 0 then some (4096 * getF b ⟨12, 36⟩, 4096 * s.fld (Reg.LDL_CHWINPA l c w) ⟨12, 36⟩, 4096 * s.fld (Reg.LDL_CHWINSIZE l c w) ⟨12, 36⟩)
  else none

/-- The physical address of an access whose every byte lies in one enabled window. -/
def State.chXlate (s : State) (l c a n : Nat) : Option Nat :=
  (List.range 4).findSome? (fun w => match s.chWin l c w with
    | some (g, p, z) => if g ≤ a ∧ a + n ≤ g + z then some (p + (a - g)) else none
    | none => none)

/-- An access of a channel at a physical address is answered OK. -/
def State.chOk (s : State) (l c p n : Nat) : Bool := s.engOk (ldlRouter l) (s.chOwner l c) p n

/-- An access within a window that the breakwater answers counts there (R297). -/
def State.chMiss (s : State) (l c a n : Nat) (write : Bool) : State :=
  match s.chXlate l c a n with
  | some p => if s.chOk l c p n then s else s.engRefused (ldlRouter l) (s.chOwner l c) p n write
  | none => s

/-! ### Vectors (R458) -/

def State.ldlVector (s : State) (l c v : Nat) : State :=
  if getB (s.reg (Reg.LDL_DBIMSET l c)) v then s.setBit (Reg.LDL_DBIPEND l c) v true
  else s.raiseEdge (1024 + 4 * ldlKey l c + v)

def State.ldlUnmask (s : State) (l c : Nat) (m : Word) : State :=
  (bitsOf m 4).foldl (fun s v =>
    let on := getB (s.reg (Reg.LDL_DBIMSET l c)) v
    let s1 := s.setBit (Reg.LDL_DBIMSET l c) v false
    if on && getB (s.reg (Reg.LDL_DBIPEND l c)) v then (s1.setBit (Reg.LDL_DBIPEND l c) v false).ldlVector l c v else s1) s

/-- VECTOR_UNMASK (R408, R458): of a field function or of a ladle channel. -/
def execVectorUnmask (ladle : Bool) (e n : Nat) (mask : Word) (s : State) : Res :=
  .next (if ladle then (if s.hasCh e n then s.ldlUnmask e n mask else s)
  else if s.hasFe e ∧ n < 128 then s.fnUnmask e n mask else s)

/-! ### Flight (R441) -/

/-- A channel leaves flight, or stops waiting for it. -/
def State.leaveFlight (s : State) (l c : Nat) : State :=
  let g := s.eng l
  s.setEng l { flight := g.flight.filter (· != c), waitq := g.waitq.filter (· != c) }

/-- A channel that needs its first crucible line enters flight, or waits behind those that wait. -/
def State.wantFlight (s : State) (l c : Nat) : State :=
  let g := s.eng l
  if g.flight.length < 16 ∧ g.waitq = [] then s.setEng l { g with flight := g.flight ++ [c] } else s.setEng l { g with waitq := g.waitq ++ [c] }

/-- CHANNEL_ENTER_FLIGHT (R441): in the order in which the channels began to wait. -/
def execChannelEnterFlight (l : Nat) (s : State) : Res :=
  let g := s.eng l
  .next (match g.waitq with
    | c :: r => if g.flight.length < 16 then s.setEng l { flight := g.flight ++ [c], waitq := r } else s
    | [] => s)

/-! ### Transitions (R451 to R453, R456, R479) -/

/-- The fetch buffer is discarded and no instruction or wait is under way. -/
def State.chClear (s : State) (l c : Nat) : State :=
  (s.modLdl (ldlKey l c) (fun x => { x with buf := none, cur := none, wait := none, met := false, mgrStop := false })).leaveFlight l c

/-- The stop request ends. -/
def State.stopDone (s : State) (l c : Nat) : State := s.setFlag (Reg.LDL_CHCFG l c) F.LDL_CHCFG_STOP false

/-- RUNNING at an address: START and a tide start empty the loop stack, RESUME keeps it; leaving STOPPED clears ABORTED. -/
def State.chRun (s : State) (l c a : Nat) (fresh : Bool) : State :=
  let s1 := if s.chState l c = chStopped then (s.chClear l c).setFlag (Reg.LDL_CHSTAT l c) F.LDL_CHSTAT_ABORTED false else s.chClear l c
  let s2 := if fresh then s1.modLdl (ldlKey l c) (fun x => { x with stack := [] }) else s1
  (s2.setChPc l c a).setCh l c chRunning

/-- STOPPED at a stop point. -/
def State.chStop (s : State) (l c : Nat) : State := ((s.chClear l c).setCh l c chStopped).stopDone l c

/-- A failure (R456). -/
def State.chFail (s : State) (l c code addr : Nat) : State :=
  let s1 := ((s.chClear l c).setCh l c chError).stopDone l c
  let s2 := (s1.setFld (Reg.LDL_CHSTAT l c) F.LDL_CHSTAT_ERRCODE code).setReg (Reg.LDL_CHERRADDR l c) (BitVec.ofNat 64 (addr % 2 ^ 48))
  let d := s2.reg (Reg.LDL_DBCFG l c)
  if getF d F.LDL_DBCFG_ERRIE = 1 then s2.ldlVector l c (getF d F.LDL_DBCFG_ERRVEC) else s2

/-- An abort starts (R453): no further read or fetch; `disable`: started by EN = 0. -/
def State.chAbort (s : State) (l c : Nat) (disable : Bool) : State :=
  let st := s.chState l c
  if st = chRunning ∨ st = chWaiting ∨ st = chStopping then
    (s.modLdl (ldlKey l c) (fun x => { x with buf := none, wait := none, met := false, disable := disable })).setCh l c chAborting
  else s

/-- A stop request (R451, R452): at a stop point it is taken at once, otherwise when the current instruction completes. -/
def State.chStopReq (s : State) (l c : Nat) (mgr : Bool) : State :=
  let x := s.ldl (ldlKey l c)
  let st := s.chState l c
  if st = chWaiting then (if x.met then (s.setChPc l c (s.chPc l c + 16)).chStop l c else s.chStop l c)
  else if st = chRunning ∧ x.cur.isNone then s.chStop l c
  else if st = chRunning ∨ st = chStopping then
    let s1 := (s.modLdl (ldlKey l c) (fun x => { x with mgrStop := x.mgrStop || mgr })).setCh l c chStopping
    if mgr then s1.setFlag (Reg.LDL_CHCFG l c) F.LDL_CHCFG_STOP true else s1
  else s

/-- DISABLED. -/
def State.chOff (s : State) (l c : Nat) : State :=
  let s1 := (s.chClear l c).modLdl (ldlKey l c) (fun x => { x with stack := [], disable := false })
  let s2 := ((s1.setCh l c chDisabled).stopDone l c).setFld (Reg.LDL_CHSTAT l c) F.LDL_CHSTAT_ERRCODE 0
  (s2.setFlag (Reg.LDL_CHCFG l c) F.LDL_CHCFG_EN false).setFlag (Reg.LDL_CHCFG l c) F.LDL_CHCFG_ABORT false

/-- Two enabled windows overlap. -/
def State.chOverlap (s : State) (l c : Nat) : Bool :=
  (List.range 4).any (fun w => (List.range w).any (fun v => match s.chWin l c w, s.chWin l c v with
    | some (g, _, z), some (h, _, y) => overlaps (g, g + z) (h, h + y)
    | _, _ => false))

/-- The CFGERR that refuses EN = 1 (R447). -/
def State.chRefusal (s : State) (l c : Nat) : Option Nat :=
  if (List.range 4).all (fun w => (s.chWin l c w).isNone) then some 1
  else if (List.range 4).any (fun w => match s.chWin l c w with | some (_, p, z) => z == 0 || !oneMemRegion p z | none => false) then some 2
  else if s.chOverlap l c then some 3
  else none

/-- Fields of LDL_CHCFG: OWNER, CYCLIC and CRUMAX change in DISABLED only; WEIGHT, TIDE and STOPTMO at once (R445). -/
def chCfgFixed : Word := 0xFF20_3F00
def chCfgFree : Word := 0xF_001F_0000

/-- A write of LDL_CHCFG (R445 to R447, R451, R459). -/
def State.writeChcfg (s : State) (l c : Nat) (v : Word) : State :=
  let a := Reg.LDL_CHCFG l c
  let st := Reg.LDL_CHSTAT l c
  let old := s.reg a
  let s1 := s.setReg a ((old &&& ~~~ chCfgFree) ||| (v &&& chCfgFree))
  let en := getF v F.LDL_CHCFG_EN
  if s.chState l c = chDisabled then
    let s2 := s1.setReg a ((s1.reg a &&& ~~~ chCfgFixed) ||| (v &&& chCfgFixed))
    if en = 0 then s2
    else match s2.chRefusal l c with
      | some k => (s2.setFlag st F.LDL_CHSTAT_REJ true).setFld st F.LDL_CHSTAT_CFGERR k
      | none => (s2.setFlag a F.LDL_CHCFG_EN true).setCh l c chIdle
  else
    let s2 := if (v ^^^ old) &&& chCfgFixed = 0 then s1 else s1.setFlag st F.LDL_CHSTAT_WRREJ true
    let k := s.chState l c
    if en = 0 then
      (if k = chIdle ∨ k = chStopped ∨ k = chError then s2.chOff l c
       else
         let s3 := s2.setFlag a F.LDL_CHCFG_EN false
         if k = chAborting then s3.modLdl (ldlKey l c) (fun x => { x with disable := true }) else s3.chAbort l c true)
    else if getF v F.LDL_CHCFG_ABORT = 1 then
      let s3 := s2.chAbort l c false
      if s3.chState l c = chAborting then s3.setFlag a F.LDL_CHCFG_ABORT true else s3
    else if getF v F.LDL_CHCFG_STOP = 1 then s2.chStopReq l c true
    else s2

/-- CHANNEL_ENABLE, CHANNEL_DISABLE, MANAGER_STOP, CHANNEL_ABORT: writes of LDL_CHCFG (R446, R447, R451, R453). -/
def execChannelEnable (l c : Nat) (value : Word) (s : State) : Res := .next (if s.hasCh l c then s.writeChcfg l c value else s)
def execChannelDisable (l c : Nat) (value : Word) (s : State) : Res := .next (if s.hasCh l c then s.writeChcfg l c value else s)
def execManagerStop (l c : Nat) (value : Word) (s : State) : Res := .next (if s.hasCh l c then s.writeChcfg l c value else s)
def execChannelAbort (l c : Nat) (value : Word) (s : State) : Res := .next (if s.hasCh l c then s.writeChcfg l c value else s)

/-- STOPTMO_EXPIRE (R446): a manager STOP that has not been reached becomes an abort; STOPTMO 15 never does. -/
def execStoptmoExpire (l c : Nat) (s : State) : Res :=
  .next (if s.hasCh l c && s.chState l c == chStopping && (s.ldl (ldlKey l c)).mgrStop && s.fld (Reg.LDL_CHCFG l c) F.LDL_CHCFG_STOPTMO != 15
    then s.chAbort l c false else s)

/-! ### Doorbells (R449 to R451) -/

/-- A doorbell write is ignored. -/
def State.dbErr (s : State) (l c code : Nat) : State :=
  (s.setFlag (Reg.LDL_DBSTAT l c) F.LDL_DBSTAT_DBERR true).setFld (Reg.LDL_DBSTAT l c) F.LDL_DBSTAT_DBCODE code

/-- A write of LDL_DBCMD. -/
def State.writeDbcmd (s : State) (l c : Nat) (v : Word) : State :=
  let st := s.chState l c
  let n := popcount v 4
  if n = 0 then s
  else if st = chDisabled then s.dbErr l c 4
  else if 1 < n then s.dbErr l c 5
  else if getB v 0 then
    (if st = chIdle ∨ st = chStopped then
      (s.chRun l c (16 * getF (s.reg (Reg.LDL_DBPROG l c)) ⟨4, 44⟩) true).setFlag (Reg.LDL_CHSTAT l c) F.LDL_CHSTAT_TIDERUN false
    else s.dbErr l c 1)
  else if getB v 1 then s.chStopReq l c false
  else if getB v 2 then (if st = chStopped then s.chRun l c (s.chPc l c) false else s.dbErr l c 2)
  else if st = chError then
    ((s.setCh l c chIdle).setFld (Reg.LDL_CHSTAT l c) F.LDL_CHSTAT_ERRCODE 0).modLdl (ldlKey l c) (fun x => { x with stack := [] })
  else s.dbErr l c 3

/-- DOORBELL_START, DOORBELL_STOP, DOORBELL_RESUME, DOORBELL_CLEAR (R450, R451). -/
def execDoorbellStart (l c : Nat) (s : State) : Res := .next (if s.hasCh l c then s.writeDbcmd l c 1 else s)
def execDoorbellStop (l c : Nat) (s : State) : Res := .next (if s.hasCh l c then s.writeDbcmd l c 2 else s)
def execDoorbellResume (l c : Nat) (s : State) : Res := .next (if s.hasCh l c then s.writeDbcmd l c 4 else s)
def execDoorbellClear (l c : Nat) (s : State) : Res := .next (if s.hasCh l c then s.writeDbcmd l c 8 else s)

/-- A write of LDL_DBREG (R450). -/
def State.writeDbreg (s : State) (l c r width : Nat) (v : Word) : State :=
  let st := s.chState l c
  if st = chRunning ∨ st = chWaiting ∨ st = chStopping ∨ st = chAborting then s.dbErr l c 6
  else
    let a := Reg.LDL_DBREG l c r
    let m := accessMask (if width = 4 then r % 2 * 4 else 0) width
    s.setReg a (if width = 8 then v else (s.reg a &&& ~~~ m) ||| (v &&& m))

/-- DBREG_WRITE (R450): a whole register, or with `width` 4 its lower half. -/
def execDbregWrite (l c r width : Nat) (value : Word) (s : State) : Res :=
  .next (if s.hasCh l c ∧ r < 8 then
    (if width = 8 then s.writeDbreg l c r 8 value
     else s.writeDbreg l c r 8 ((s.cr l c r &&& 0xFFFF_FFFF_0000_0000) ||| (value &&& 0xFFFF_FFFF)))
  else s)

/-! ### Event flags (R455, R478) -/

/-- Flags live in LDL_EVSET. -/
def State.evFlag (s : State) (l f : Nat) : Bool := getB (s.reg (Reg.LDL_EVSET l)) f

/-- The flags of a partition's enabled groups. -/
def State.ownedFlags (s : State) (l p : Nat) : Word :=
  (List.range 8).foldl (fun w g =>
    let b := getF (s.reg (Reg.LDL_EVGRP l)) ⟨8 * g, 8⟩
    if bitAt b 7 && b % 64 == p then w ||| (0xFF <<< (8 * g)) else w) 0

/-- A channel may use a flag. -/
def State.flagOk (s : State) (l c f : Nat) : Bool := getB (s.ownedFlags l (s.chOwner l c)) f

/-- Waiting channels test the flags, in ascending order (R478, order 3). -/
def State.testFlags (s : State) (l : Nat) : State :=
  (List.range 32).foldl (fun s c =>
    let k := ldlKey l c
    let x := s.ldl k
    match x.wait with
    | some (.flag f clr) =>
      if s.chState l c = chWaiting ∧ x.met = false ∧ s.evFlag l f then
        let s1 := s.setLdl k { x with met := true }
        if clr then s1.setBit (Reg.LDL_EVSET l) f false else s1
      else s
    | _ => s) s

/-- Set or clear flags, then test. -/
def State.setFlags (s : State) (l : Nat) (clr : Bool) (m : Word) : State :=
  let a := Reg.LDL_EVSET l
  (s.setReg a (if clr then s.reg a &&& ~~~ m else s.reg a ||| m)).testFlags l

/-- EVENT_FLAG_WRITE (R445, R448, R478): through the engine's registers, or a doorbell page, which reaches its owner's groups only. -/
def execEventFlagWrite (l : Nat) (page : Option Nat) (clr : Bool) (mask : Word) (s : State) : Res :=
  .next (match page with
    | none => if s.hasLdl l then s.setFlags l clr mask else s
    | some c => if s.hasCh l c then s.setFlags l clr (mask &&& s.ownedFlags l (s.chOwner l c)) else s)

/-! ### Instructions (R462, R465 to R467) -/

/-- Fields of an instruction, a 128-bit number. -/
def iOp (v : Nat) : Nat := bitsAt v 0 4
def iRd (v : Nat) : Nat := bitsAt v 8 3
def iRs (v : Nat) : Nat := bitsAt v 12 3
def iRl (v : Nat) : Nat := bitsAt v 16 3
def iMod (v : Nat) : Nat := bitsAt v 24 8
def iW32 (v : Nat) : Nat := bitsAt v 32 32
def iExt (v : Nat) : Nat := bitsAt v 64 64
def iB8 (v : Nat) : Nat := bitsAt v 64 8
def iB9 (v : Nat) : Nat := bitsAt v 72 8

/-- A bit that R465 or the instruction's own table requires to be 0 is not, or the opcode or MODE is invalid (R467). -/
def ldlInvalid (v : Nat) : Bool :=
  let m := iMod v
  let z (lo w : Nat) : Bool := bitsAt v lo w != 0
  z 4 4 || z 11 1 || z 15 1 || z 19 5 ||
  (match iOp v with
   | 1 => z 28 4 || (bitAt m 0 && iW32 v != 0) || (!bitAt m 0 && iRl v != 0) || (!bitAt m 2 && z 64 24) || (!bitAt m 3 && z 88 24) || z 118 2 ||
          (!bitAt m 1 && z 112 8) || z 120 8
   | 2 => z 28 4 || bitAt m 2 || (bitAt m 0 && iW32 v != 0) || (!bitAt m 0 && iRl v != 0) || z 64 24 || (!bitAt m 3 && z 88 24) || z 118 2 ||
          (!bitAt m 1 && z 112 8) || z 120 8
   | 3 => z 25 7 || z 8 3 || z 12 3 || (bitAt m 0 && iW32 v != 0) || (!bitAt m 0 && iRl v != 0) || bitsAt v 64 16 == 0 || z 80 48
   | 4 => z 8 120
   | 5 => z 28 4 || z 8 3 || iRl v != 0 || (m % 4 != 2 && iRs v != 0) || (bitAt m 2 && m % 4 != 0) || (bitAt m 3 && m % 4 != 1) ||
          (m % 4 != 3 && iW32 v != 0) ||
          (match m % 4 with | 0 => z 70 2 || z 72 8 | 1 => z 67 5 || z 78 2 | _ => z 64 16) || z 80 48
   | 6 => z 26 6 || iRl v != 0 || z 72 56 ||
          (match m % 4 with
           | 3 => z 64 8
           | 2 => z 66 6 || z 8 3 || z 12 3 || iW32 v != 0
           | _ => z 70 2 || z 8 3 || z 12 3 || iW32 v != 0)
   | 7 => z 27 1 || z 30 2 || iRl v != 0 || decide (5 ≤ m % 8) || (m % 8 != 2 && (z 28 2 || iW32 v != 0)) || (m % 8 == 0 && iRs v != 0) ||
          (m % 8 == 2 && iExt v != 0)
   | 8 => z 8 120
   | _ => true)

/-- The buffered instruction at LDL_CHPC. -/
def State.chInstr (s : State) (l c : Nat) : Option Nat :=
  let pc := s.chPc l c
  match (s.ldl (ldlKey l c)).buf with
  | some (a, bs) => if a = pc / 64 * 64 then some (leWord ((bs.drop (pc % 64)).take 16)) else none
  | none => none

/-- PROGRAM_FETCH (R443, R462): the line of the next instruction returns to the fetch buffer. -/
def execProgramFetch (l c : Nat) (bad : Bool) (s : State) : Res :=
  let k := ldlKey l c
  let a := s.chPc l c / 64 * 64
  .next (if !s.hasCh l c || s.chState l c != chRunning || (s.ldl k).cur.isSome || (s.chInstr l c).isSome then s
  else match s.chXlate l c a 64 with
    | none => s.chFail l c 1 a
    | some p =>
      if bad || !s.chOk l c p 64 then (s.chMiss l c a 64 false).chFail l c 4 a
      else
        let q := s.engRead (s.chOwner l c) p 64
        if q.2.1.any id then q.2.2.chFail l c 4 a else q.2.2.modLdl k (fun x => { x with buf := some (a, q.1) }))

/-- The instruction begins where the channel is RUNNING at it and it is of opcode `op` with a modifier that `sel` accepts; an invalid encoding fails
with PROGERR (R467). -/
def State.ldlBegin (s : State) (l c op : Nat) (sel : Nat → Bool) (f : Nat → State) : State :=
  if !s.hasCh l c || s.chState l c != chRunning || (s.ldl (ldlKey l c)).cur.isSome then s
  else match s.chInstr l c with
    | none => s
    | some v =>
      if ldlInvalid v && (iOp v == op || iOp v == 0 || decide (8 < iOp v) || bitsAt v 4 4 != 0) then s.chFail l c 5 0
      else if iOp v == op && sel (iMod v) then f v
      else s

/-- The channel continues at an address; a transfer of control discards the fetch buffer. -/
def State.chNext (s : State) (l c : Nat) : State := s.setChPc l c (s.chPc l c + 16)
def State.chJump (s : State) (l c a : Nat) : State := (s.modLdl (ldlKey l c) (fun x => { x with buf := none })).setChPc l c a

/-- The length of a MOVE or FILL and the count of a LOOP: from W32, or a register whose upper half must be 0. -/
def State.ldlCount (s : State) (l c v : Nat) : Option Nat :=
  if bitAt (iMod v) 0 then
    let r := (s.cr l c (iRl v)).toNat
    if r < 2 ^ 32 then some r else none
  else some (iW32 v)

/-- A signed 24-bit step. -/
def step24 (v lo : Nat) : Word := sext 24 (bitsAt v lo 24)

/-- Completion of a MOVE or FILL: its steps, then its flag (R469). -/
def State.applySteps (s : State) (l c v : Nat) : State :=
  let m := iMod v
  let s1 := if bitAt m 2 then s.setCr l c (iRs v) (s.cr l c (iRs v) + step24 v 64) else s
  let s2 := if bitAt m 3 then s1.setCr l c (iRd v) (s1.cr l c (iRd v) + step24 v 88) else s1
  if bitAt m 1 then s2.setFlags l false (bitW (bitsAt v 112 6)) else s2

/-- The instruction completes: at a stop point a stop request takes effect (R452). -/
def State.ldlDone (s : State) (l c : Nat) : State :=
  let s1 := (s.modLdl (ldlKey l c) (fun x => { x with cur := none })).leaveFlight l c
  let s2 := s1.chNext l c
  if s.chState l c = chStopping then s2.chStop l c else s2

/-- Step 2 of R469: a range lies wholly within one enabled window and below 2^48. -/
def State.rangeBad (s : State) (l c : Nat) (r : Word) (n : Nat) : Bool :=
  decide (2 ^ 48 < r.toNat + n) || (s.chXlate l c r.toNat n).isNone

/-- MOVE and FILL begin: flag, ranges, flight (R441, R469, R471). -/
def State.beginCopy (s : State) (l c v : Nat) (src : Bool) : State :=
  let S := s.cr l c (iRs v)
  let D := s.cr l c (iRd v)
  match s.ldlCount l c v with
  | none => s.chFail l c 5 0
  | some n =>
    if bitAt (iMod v) 1 && !s.flagOk l c (bitsAt v 112 6) then s.chFail l c 6 0
    else if n = 0 then (s.applySteps l c v).ldlDone l c
    else if src && s.rangeBad l c S n then s.chFail l c 1 S.toNat
    else if s.rangeBad l c D n then s.chFail l c 1 D.toNat
    else (s.modLdl (ldlKey l c) (fun x => { x with cur := some v })).wantFlight l c

/-- MOVE (R468, R469), FILL (R471). -/
def execMove (l c : Nat) (s : State) : Res := .next (s.ldlBegin l c 1 (fun _ => true) (fun v => s.beginCopy l c v true))
def execFill (l c : Nat) (s : State) : Res := .next (s.ldlBegin l c 2 (fun _ => true) (fun v => s.beginCopy l c v false))

/-- LOOP (R472, R473). -/
def execLoop (l c : Nat) (s : State) : Res :=
  .next (s.ldlBegin l c 3 (fun _ => true) (fun v =>
    let pc := s.chPc l c
    let nx := pc + 16 * bitsAt v 64 16
    let x := s.ldl (ldlKey l c)
    match s.ldlCount l c v with
    | none => s.chFail l c 5 0
    | some 0 => s.chJump l c (nx + 16)
    | some n =>
      if 4 ≤ x.stack.length then s.chFail l c 5 0
      else (s.setLdl (ldlKey l c) { x with stack := (nx, pc + 16, n) :: x.stack }).chNext l c))

/-- NEXT (R473). -/
def execNext (l c : Nat) (s : State) : Res :=
  .next (s.ldlBegin l c 4 (fun _ => true) (fun _ =>
    let x := s.ldl (ldlKey l c)
    match x.stack with
    | (nx, body, n) :: r =>
      if nx % 2 ^ 48 ≠ s.chPc l c then s.chFail l c 5 0
      else if 1 < n then (s.setLdl (ldlKey l c) { x with stack := (nx, body, n - 1) :: r }).chJump l c body
      else (s.setLdl (ldlKey l c) { x with stack := r }).chNext l c
    | [] => s.chFail l c 5 0))

/-- What a WAIT waits for. -/
def State.waitOf (s : State) (l c v : Nat) : LdlWt :=
  match iMod v % 4 with
  | 0 => .flag (iB8 v % 64) (bitAt (iMod v) 2)
  | 1 => .tide (iB8 v % 8) (iB9 v % 64) (bitAt (iMod v) 3)
  | 2 => .time (s.cr l c (iRs v)).toNat
  | _ => .time (s.now + iW32 v)

/-- A wait is met now (R475); an EDGE wait is met by a raise only. -/
def State.waitMet (s : State) (l : Nat) : LdlWt → Bool
  | .flag f _ => s.evFlag l f
  | .tide k v edge => !edge && getB (s.reg (Reg.FE_TEVFLAG (l / 2) k)) v
  | .time t => decide (t ≤ s.now)

/-- WAIT (R474, R475): met at once, or WAITING. -/
def execWait (l c : Nat) (s : State) : Res :=
  .next (s.ldlBegin l c 5 (fun _ => true) (fun v =>
    let w := s.waitOf l c v
    let clr (s : State) : State := match w with | .flag f true => s.setBit (Reg.LDL_EVSET l) f false | _ => s
    let owned := match w with | .flag f _ => s.flagOk l c f | _ => true
    if !owned then s.chFail l c 6 0
    else if s.waitMet l w then (clr s).chNext l c
    else (s.modLdl (ldlKey l c) (fun x => { x with wait := some w, met := false })).setCh l c chWaiting))

/-- WAIT_MET (R451, R475): the channel goes on at the next instruction. -/
def execWaitMet (l c : Nat) (s : State) : Res :=
  let k := ldlKey l c
  .next (match (s.ldl k).wait with
    | none => s
    | some w =>
      let ok := (s.ldl k).met || (match w with | .flag _ _ => false | _ => s.waitMet l w)
      if s.hasCh l c && s.chState l c == chWaiting && ok then
        ((s.modLdl k (fun x => { x with wait := none, met := false })).setCh l c chRunning).chNext l c
      else s)

/-- SIGNAL SETF and CLRF (R476). -/
def State.signalFlag (s : State) (l c v : Nat) (clr : Bool) : State :=
  let f := iB8 v % 64
  if s.flagOk l c f then (s.setFlags l clr (bitW f)).chNext l c else s.chFail l c 6 0
def execSignalSetf (l c : Nat) (s : State) : Res := .next (s.ldlBegin l c 6 (fun m => m % 4 == 0) (fun v => s.signalFlag l c v false))
def execSignalClrf (l c : Nat) (s : State) : Res := .next (s.ldlBegin l c 6 (fun m => m % 4 == 1) (fun v => s.signalFlag l c v true))

/-- SIGNAL VECTOR (R458, R476). -/
def execSignalVector (l c : Nat) (s : State) : Res :=
  .next (s.ldlBegin l c 6 (fun m => m % 4 == 2) (fun v => (s.ldlVector l c (iB8 v % 4)).chNext l c))

/-- The address of a SIGNAL WRITE or SET LOAD: a register plus the signed offset (R476, R477). -/
def State.memAddr (s : State) (l c r v : Nat) : Word := s.cr l c r + sext 32 (iW32 v)

/-- An access of `n` bytes begins: the address is below 2^48, a multiple of its size, and within one enabled window. -/
def State.beginAccess (s : State) (l c v : Nat) (a : Word) (n : Nat) : State :=
  if a.toNat % n ≠ 0 ∨ s.rangeBad l c a n then s.chFail l c 1 a.toNat
  else s.modLdl (ldlKey l c) (fun x => { x with cur := some v })

/-- SIGNAL WRITE (R476) and SET LOAD (R477): the access is issued; it ends with LADLE_INSTRUCTION_COMPLETE. -/
def execSignalWrite (l c : Nat) (s : State) : Res :=
  .next (s.ldlBegin l c 6 (fun m => m % 4 == 3) (fun v =>
    if 2 ^ 48 ≤ (s.cr l c (iRd v)).toNat then s.chFail l c 1 (s.cr l c (iRd v)).toNat else s.beginAccess l c v (s.memAddr l c (iRd v) v) 8))
def execSetLoad (l c : Nat) (s : State) : Res :=
  .next (s.ldlBegin l c 7 (fun m => m % 8 == 2) (fun v =>
    if 2 ^ 48 ≤ (s.cr l c (iRs v)).toNat then s.chFail l c 1 (s.cr l c (iRs v)).toNat
    else s.beginAccess l c v (s.memAddr l c (iRs v) v) (2 ^ (iMod v / 16 % 4))))

/-- SET IMM, ADD, AND, XOR (R477). -/
def State.setReg2 (s : State) (l c v : Nat) (x : Word) : State := (s.setCr l c (iRd v) x).chNext l c
def imm64 (v : Nat) : Word := BitVec.ofNat 64 (iExt v)
def execSetImm (l c : Nat) (s : State) : Res := .next (s.ldlBegin l c 7 (fun m => m % 8 == 0) (fun v => s.setReg2 l c v (imm64 v)))
def execSetAdd (l c : Nat) (s : State) : Res :=
  .next (s.ldlBegin l c 7 (fun m => m % 8 == 1) (fun v => s.setReg2 l c v (s.cr l c (iRs v) + imm64 v)))
def execSetAnd (l c : Nat) (s : State) : Res :=
  .next (s.ldlBegin l c 7 (fun m => m % 8 == 3) (fun v => s.setReg2 l c v (s.cr l c (iRs v) &&& imm64 v)))
def execSetXor (l c : Nat) (s : State) : Res :=
  .next (s.ldlBegin l c 7 (fun m => m % 8 == 4) (fun v => s.setReg2 l c v (s.cr l c (iRs v) ^^^ imm64 v)))

/-- END (R451, R477): IDLE, one more run, the loop stack empty. -/
def execEndProgram (l c : Nat) (s : State) : Res :=
  .next (s.ldlBegin l c 8 (fun _ => true) (fun _ =>
    let s1 := ((s.chClear l c).modLdl (ldlKey l c) (fun x => { x with stack := [] })).setCh l c chIdle
    let runs := (s.fld (Reg.LDL_DBSTAT l c) F.LDL_DBSTAT_RUNS + 1) % 2 ^ 32
    (s1.setFld (Reg.LDL_DBSTAT l c) F.LDL_DBSTAT_RUNS runs).bump (Reg.LDL_CHCNT l c) F.LDL_CHCNT_PROGS 1))

/-! ### The accesses of an instruction (R440, R442, R452, R469 to R471) -/

/-- The bytes of a transfer of `n` bytes to `d` that go to one destination line each: position and length. -/
def chunksFuel (d n : Nat) : Nat → Nat → List (Nat × Nat)
  | 0, _ => []
  | m + 1, i => if n ≤ i then [] else let k := min (64 - (d + i) % 64) (n - i); (i, k) :: chunksFuel d n m (i + k)
def chunks (d n : Nat) : List (Nat × Nat) := chunksFuel d n (n / 64 + 2) 0

/-- Bytes written count in LDL_CHCNT, in units of 64. -/
def State.chWrote (s : State) (l c n : Nat) : State :=
  let k := ldlKey l c
  let t := (s.ldl k).rem + n
  (s.modLdl k (fun x => { x with rem := t % 64 })).bump (Reg.LDL_CHCNT l c) F.LDL_CHCNT_LINES (t / 64)

/-- A line leaves the crucible with poison (R442). -/
def State.cruPoison (s : State) (l c : Nat) : State :=
  ((s.setFlag (Reg.LDL_CHSTAT l c) F.LDL_CHSTAT_POISON true).bump (Reg.LDL_CRUERR l) F.LDL_CRUERR_POISON 1).corrected (unitLdl l) 0

/-- Write one destination line's bytes: none where the write is refused. -/
def State.cruWrite (s : State) (l c a : Nat) (bs : List Byte) (ps : List Bool) : Option State :=
  match s.chXlate l c a bs.length with
  | none => none
  | some p =>
    if s.chOk l c p bs.length then
      let o := s.chOwner l c
      let s1 := ((s.engWrite o p bs ps).logGpa (ldlRouter l) o a bs.length).chWrote l c bs.length
      some (if ps.any id then s1.cruPoison l c else s1)
    else none

/-- Corrected crucible bytes count (R442). -/
def State.cruCorrected (s : State) (l : Nat) (ks : List (Nat × Bool)) : State :=
  ks.foldl (fun s k => if k.2 then (s.bump (Reg.LDL_CRUERR l) F.LDL_CRUERR_CE 1).corrected (unitLdl l) 0 else s) s

/-- The source bytes of one chunk as they are read now: none where the read fails. -/
def State.cruRead (s : State) (l c a n : Nat) : Option (List Byte × List Bool × State) :=
  match s.chXlate l c a n with
  | none => none
  | some p => if s.chOk l c p n then some (s.engRead (s.chOwner l c) p n) else none

/-- Read the source of a MOVE, line by line: the bytes up to the first line that fails. -/
def State.moveRead (s : State) (l c S : Nat) : List (Nat × Nat) → List (Byte × Bool) × State
  | [] => ([], s)
  | (i, k) :: r =>
    match s.cruRead l c (S + i) k with
    | none => ([], s.chMiss l c (S + i) k false)
    | some (bs, ps, s1) => let q := s1.moveRead l c S r; (bs.zip ps ++ q.1, q.2)

/-- The bytes a MOVE writes (R470). `off` is D - S where the destination lies above the source: a byte whose source byte the MOVE itself has written
(`acc`, newest first) takes either value, by a free bit. -/
def movePick (off fresh : Nat) : List (Byte × Bool) → Nat → List (Byte × Bool) → List (Byte × Bool)
  | [], _, acc => acc.reverse
  | b :: r, i, acc =>
    let v := match off, acc[off - 1]? with
      | 0, _ => b
      | _, none => b
      | _, some w => if Config.free 1 (fresh + i) = 1 then w else b
    movePick off fresh r (i + 1) (v :: acc)

/-- Write destination lines in ascending order (R440, R443): the state, and the address of the first write that was refused. -/
def State.cruWrites (s : State) (l c D : Nat) (bs : List (Byte × Bool)) : List (Nat × Nat) → State × Option Nat
  | [] => (s, none)
  | (i, k) :: r =>
    let b := (bs.drop i).take k
    match s.cruWrite l c (D + i) (b.map (·.1)) (b.map (·.2)) with
    | none => (s.chMiss l c (D + i) k true, some (D + i))
    | some s1 => s1.cruWrites l c D bs r

/-- Bytes whose crucible check failed beyond correction carry poison (R442). -/
def cruMark (ks : List (Nat × Bool)) (bs : List (Byte × Bool)) : List (Byte × Bool) :=
  bs.zipIdx.map (fun b => (b.1.1, b.1.2 || ks.contains (b.2, false)))

/-- The bytes of a MOVE or FILL of `n` bytes, those that could be obtained. -/
def State.copyData (s : State) (l c v n : Nat) : List (Byte × Bool) × State :=
  let S := (s.cr l c (iRs v)).toNat
  let D := (s.cr l c (iRd v)).toNat
  if iOp v = 2 then ((List.range n).map (fun i => (BitVec.ofNat 8 (S / 2 ^ (8 * ((D + i) % 8))), false)), s)
  else
    let q := s.moveRead l c S (chunks S n)
    let off := if S < D ∧ D < S + n then D - S else 0
    let m := movePick off q.2.fresh q.1 0 []
    (m, { q.2 with fresh := q.2.fresh + (if off = 0 then 0 else n) })

/-- The accesses of a MOVE or FILL up to `limit` bytes: the state, and the failure that ended it, code and address. -/
def State.copyRun (s : State) (l c v n limit : Nat) (cru : List (Nat × Bool)) : State × Option (Nat × Nat) :=
  let S := (s.cr l c (iRs v)).toNat
  let D := (s.cr l c (iRd v)).toNat
  let q := s.copyData l c v n
  let have_ := min limit q.1.length
  let s1 := q.2.cruCorrected l (cru.filter (fun k => decide (k.1 < have_)))
  let w := s1.cruWrites l c D (cruMark cru q.1) ((chunks D n).filter (fun k => decide (k.1 + k.2 ≤ have_)))
  (w.1, match w.2 with
    | some a => some (3, a)
    | none => if q.1.length < n ∧ q.1.length ≤ limit then some (2, S + q.1.length) else none)

/-- What an armed injection does to the first byte of a transfer as it leaves the crucible: corrected where true, else poisoned (R442, R559). -/
def State.cruInject (s : State) (l : Nat) : Option Bool :=
  match s.injKind (unitLdl l) 0 none with
  | some 0 => some true
  | some 1 => some false
  | some 2 => some false
  | _ => none

/-- A MOVE or FILL in flight is carried out (R469, R471). -/
def State.ldlCopyNow (s : State) (l c v : Nat) (env : LdlEnv) : State :=
  let n := (s.ldlCount l c v).getD 0
  let q := s.copyRun l c v n (match env.fail with | some f => f.1 | none => n) env.crucible
  match q.2, env.fail with
  | some f, _ => q.1.chFail l c f.1 f.2
  | none, some (k, rd) =>
    if rd && iOp v == 1 then q.1.chFail l c 2 ((s.cr l c (iRs v)).toNat + k) else q.1.chFail l c 3 ((s.cr l c (iRd v)).toNat + k)
  | none, none => (q.1.applySteps l c v).ldlDone l c

/-- The same under an injection, whose first byte it alters. -/
def State.ldlCopy (s : State) (l c v : Nat) (env : LdlEnv) : State :=
  match s.cruInject l with
  | none => s.ldlCopyNow l c v env
  | some ok => (s.markInj (s.ldlCopyNow l c v { env with crucible := (0, ok) :: env.crucible })).injTriggered

/-- A SIGNAL WRITE is acknowledged or refused (R476). -/
def State.ldlWrite (s : State) (l c v : Nat) (env : LdlEnv) : State :=
  let a := (s.memAddr l c (iRd v) v).toNat
  match env.fail, s.cruWrite l c a (leBytes 8 (s.cr l c (iRs v)).toNat) [] with
  | none, some s1 => s1.ldlDone l c
  | _, _ => (s.chMiss l c a 8 true).chFail l c 3 a

/-- A SET LOAD's read returns (R477). -/
def State.ldlLoad (s : State) (l c v : Nat) (env : LdlEnv) : State :=
  let a := (s.memAddr l c (iRs v) v).toNat
  match env.fail, s.cruRead l c a (2 ^ (iMod v / 16 % 4)) with
  | none, some (bs, ps, s1) => if ps.any id then s1.chFail l c 2 a else (s1.setCr l c (iRd v) (BitVec.ofNat 64 (leWord bs))).ldlDone l c
  | _, _ => (s.chMiss l c a (2 ^ (iMod v / 16 % 4)) false).chFail l c 2 a

/-- LADLE_INSTRUCTION_COMPLETE (R452): every read has returned and every write has been acknowledged. -/
def execLadleInstructionComplete (l c : Nat) (env : LdlEnv) (s : State) : Res :=
  let st := s.chState l c
  .next (match (s.ldl (ldlKey l c)).cur with
  | none => s
  | some v =>
    if !s.hasCh l c || !(st == chRunning || st == chStopping) then s
    else if iOp v = 6 then s.ldlWrite l c v env
    else if iOp v = 7 then s.ldlLoad l c v env
    else if (s.eng l).flight.contains c then s.ldlCopy l c v env else s)

/-- ABORT_COMPLETE (R453, R479): issued writes have completed, the other lines are discarded. -/
def execAbortComplete (l c written : Nat) (s : State) : Res :=
  let x := s.ldl (ldlKey l c)
  .next (if !s.hasCh l c || s.chState l c != chAborting then s
  else
    let s1 := match x.cur with
      | some v => if iOp v = 1 ∨ iOp v = 2 then (s.copyRun l c v ((s.ldlCount l c v).getD 0) written []).1
          else if iOp v = 6 ∧ 8 ≤ written then (s.cruWrite l c (s.memAddr l c (iRd v) v).toNat (leBytes 8 (s.cr l c (iRs v)).toNat) []).getD s
          else s
      | none => s
    if x.disable then (s1.chOff l c).setFlag (Reg.LDL_CHSTAT l c) F.LDL_CHSTAT_ABORTED true
    else
      let s2 := ((s1.chStop l c).setFlag (Reg.LDL_CHSTAT l c) F.LDL_CHSTAT_ABORTED true)
      s2.setFlag (Reg.LDL_CHCFG l c) F.LDL_CHCFG_ABORT false)

/-- The ebb of an engine's endpoint aborts its channels (R461). -/
def State.ldlAbortAll (s : State) (l : Nat) : State := (List.range 32).foldl (fun s c => s.chAbort l c false) s

/-- TT_LADLE (R374, R378, R454). -/
def execTtLadle (e k : Nat) (s : State) : Res :=
  let q := s.ttNext e k 4
  .next (match q.1 with
  | none => q.2
  | some x =>
    let s1 := q.2
    let j := x.1.toNat % 64
    let l := 2 * e + j / 32
    let c := j % 32
    if !s1.hasLdl l || !s1.domRun (218 + l) || s1.fld (Reg.LDL_CHCFG l c) F.LDL_CHCFG_TIDE = 0 then s1.seqIgnored e
    else if s1.chState l c = chIdle then
      (s1.chRun l c (16 * getF (s1.reg (Reg.LDL_DBTPROG l c)) ⟨4, 44⟩) true).setFlag (Reg.LDL_CHSTAT l c) F.LDL_CHSTAT_TIDERUN true
    else s1.bump (Reg.LDL_DBTIDEMISS l c) ⟨0, 32⟩ 1)

end Sys2Proof.Machine
end

