-- ==== Sys2Proof/Machine/Ebb.lean ====
section
/-!
DEFINITION. The ebb handshake and its ends (R290 to R295), and the partition ebb (R298, R299).
-/
namespace Sys2Proof.Machine

/-! ### Starting and draining (R292) -/

/-- Everything the endpoint's unit must complete before the fence-map change is done (Seq 2). A core that its power domain takes down drains once it no
longer executes (R569, R575). -/
def State.ebbDrained (s : State) (k : Nat) : Bool :=
  let u := unitOfEp k
  match epKind (k / 4) (k % 4) with
  | 1 =>
    let c := s.core u
    c.stores.isEmpty && c.loads.isEmpty && c.amos.isEmpty && c.devs.isEmpty && c.castAcks == 0 && c.mbxSent.isEmpty && c.tlbib.isNone &&
    c.tlbRecv.isEmpty && c.req.isEmpty && c.entry.isNone && !(s.domState u == 3 && c.run == .run)
  | 2 => let x := s.slice (u - 0x080); x.txns.isEmpty && x.waitq.isEmpty && x.promo.isEmpty && x.mnt.isEmpty
  | 3 => (s.mntQ false (k / 4 - 8)).isEmpty
  | 4 => let x := s.chan (u - 0x0C0); x.held.isEmpty && x.mirrorQ.isEmpty
  | 5 => let x := s.fe (u - 0x0CC); x.reads.isEmpty && x.commit.isNone
  | 6 => let l := u - 0x0D0; (s.eng l).flight.isEmpty && (List.range 32).all (fun c => !(s.chState l c == chAborting))
  | 7 => s.hif.queue.isEmpty
  | _ => true

/-- Write-backs that the unit requires (R238, R239). -/
def State.ebbFlush (s : State) (k : Nat) : State :=
  let u := unitOfEp k
  match epKind (k / 4) (k % 4) with
  | 1 => s.flushCore u
  | 2 => s.flushSlice (u - 0x080)
  | _ => s

/-- Seq 2 and Seq 3: once the unit has drained, its write-backs are made and the change is broadcast. -/
def State.ebbAdvance (s : State) (k : Nat) : State :=
  let x := s.ep k
  if s.epState k == epEbbing && !x.fenceSent && s.ebbDrained k then
    ((s.ebbFlush k).setEp k { x with fenceSent := true }).broadcast k epFenced
  else s

/-- The endpoint may not be ebbed: the service block's, or a slice that is a home (R295). -/
def State.ebbBarred (s : State) (k : Nat) : Bool :=
  match epKind (k / 4) (k % 4) with
  | 8 => true
  | 2 => getB s.homeSet (k / 4 - 8)
  | _ => false

/-- Seq 1: an OPEN endpoint starts to ebb; a ladle engine's channels are aborted (R461). -/
def State.startEbb (s : State) (k : Nat) : State :=
  if !s.epPresent k then s
  else if s.ebbBarred k then s.setFlag (epctl k) F.RTR_EPCTL_REJ true
  else if s.epState k != epOpen then s
  else
    let s1 := ((s.setEpState k epEbbing).setFlag (epctl k) F.RTR_EPCTL_EBB true).setEp k { s.ep k with markers := 0, fenceSent := false }
    let s2 := if epKind (k / 4) (k % 4) = 6 then s1.ldlAbortAll (unitOfEp k - 0x0D0) else s1
    s2.ebbAdvance k

/-- EBB (R292, R295). -/
def execEbb (ep : Nat) (s : State) : Res := .next (s.startEbb ep)

/-- REOPEN (R291, R302). -/
def execReopen (ep : Nat) (s : State) : Res := .next (s.reopen ep)

/-- The death of an endpoint, with what its unit's death brings: a lost mirror partner (R318). -/
def State.killUnit (s : State) (k cause : Nat) : State :=
  let s1 := s.kill k cause
  if epKind (k / 4) (k % 4) = 4 then s1.degrade (unitOfEp k - 0x0C0) else s1

/-- DECLARE (R291, R302). -/
def execDeclare (ep : Nat) (s : State) : Res := .next (if s.epPresent ep && s.epState ep != epDead then s.killUnit ep 3 else s)

/-! ### Changes of the fence map and markers (R290, R292) -/

/-- FENCE_MAP_BROADCAST (R290, R292): router `r` applies a change that was sent to it, and owes markers for a closing fence. Naming the router that owns an
ebbing endpoint with FENCED also lets a drained endpoint broadcast its change (Seq 2, Seq 3). The distributor sits at router 79. -/
def execFenceMapBroadcast (r ep state : Nat) (s : State) : Res :=
  let m := Msg.fenceMap r ep state
  .next (if s.net.contains m then
    let x := s.router r
    let owes := if state = epFenced ∧ s.epState ep = epEbbing then x.owes ++ [ep] else x.owes
    let s1 := (s.recv m).setRouter r { x with map := Tbl.set (fun k => epResetState (k / 4) (k % 4)) x.map ep state, owes := owes }
    if r = svcRouter then s1.settle else s1
  else if r = ep / 4 ∧ state = epFenced then s.ebbAdvance ep else s)

/-- The endpoint that a core's access to a physical address goes to over the Tideway; none for DRAM, whose homes are never ebbed (R295), and for the core's
own cast ways. -/
def State.epOfAccess (s : State) (n pa : Nat) : Option Nat :=
  match regionOf pa with
  | .coreCast c => if c = s.ownWindow n then none else some (epCore c)
  | .sharedCast t => some (epSlice t)
  | .control => some (epOfOff (pa - ctlBase))
  | .mailbox e => some (epFe e)
  | .pcie => some epHif
  | _ => none

/-- The engine that owns a fast-station input source. -/
def feOfFastSrc (k : Nat) : Nat := (k - 256) / 384

/-- Source router, destination endpoint and class of a request on its way to an endpoint (R34). -/
def Msg.way : Msg → Option (Nat × Nat × Nat)
  | .snp _ h _ c _ => some (tileRouter h, epCore c, 1)
  | .prb h _ c => some (tileRouter h, epCore c, 1)
  | .offer c _ k _ _ direct => some (if direct then feRouter (feOfFastSrc k) else svcRouter, epCore c, if isFastSrc k then 0 else 3)
  | .withdraw c k => some (svcRouter, epCore c, if isFastSrc k then 0 else 3)
  | .mailbox e c _ _ _ _ => some (coreRouter c, epFe e, 0)
  | _ => none

/-- Router `r` still holds an access to endpoint `k` that passed the fence check: a packet that waits for tokens, or a store, load or AMO of one of its
cores (R292, Seq 4). -/
def State.holdsFor (s : State) (r k : Nat) : Bool :=
  [0, 1, 2, 3].any (fun e => (s.ep (4 * r + e)).tc0q.any (fun p => match p.msg.way with | some w => w.2.1 == k | none => p.dst == k / 4)) ||
  [0, 1].any (fun e => match epCoreOf (4 * r + e) with
    | some n =>
      let c := s.core n
      c.stores.any (fun x => s.epOfAccess n x.pa == some k) || c.loads.any (fun x => s.epOfAccess n x.pa == some k) ||
      c.amos.any (fun x => s.epOfAccess n x.pa == some k) || c.devs.any (fun x => s.epOfAccess n x.pa == some k)
    | none => false)

/-- MARKER_SEND (R292, Seq 4): one marker in each class, once nothing that passed the fence check waits at the router's endpoints. -/
def execMarkerSend (r ep : Nat) (s : State) : Res :=
  let x := s.router r
  .next (if x.owes.contains ep && !s.holdsFor r ep then
    (s.setRouter r { x with owes := x.owes.erase ep }).sendAll ([0, 1, 2, 3].map (fun c => Msg.marker r ep c))
  else s)

/-- A request of the same router, endpoint and class went before a marker and has not arrived (R278). -/
def State.behind (s : State) (r ep cls : Nat) : Bool :=
  (s.net.takeWhile (fun x => x != .marker r ep cls)).any (fun x => x.way == some (r, ep, cls))

/-- MARKER_ARRIVE (R278, R292, Seq 5 and Seq 6): no marker overtakes a request of its class; the 320th closes the fence. -/
def execMarkerArrive (r ep cls : Nat) (s : State) : Res :=
  let m := Msg.marker r ep cls
  .next (if s.net.contains m && !s.behind r ep cls then
    let s1 := s.recv m
    let x := s1.ep ep
    if s1.epState ep != epEbbing then s1
    else if x.markers + 1 < 320 then s1.setEp ep { x with markers := x.markers + 1 }
    else ((s1.setEp ep { x with markers := 0, fenceSent := false }).setEpState ep epFenced).setFlag (epctl ep) F.RTR_EPCTL_EBB false
  else s)

/-- EBB_TIMEOUT (R293): a drain that is complete wins. -/
def execEbbTimeout (ep : Nat) (s : State) : Res := .next (if s.epPresent ep && s.epState ep == epEbbing then s.killUnit ep 1 else s)

/-- RESPONSE_TIMEOUT (R293, R302): RSPTMO 15 disables it. -/
def execResponseTimeout (ep : Nat) (s : State) : Res :=
  .next (if s.epPresent ep && (s.epState ep == epOpen || s.epState ep == epEbbing) && s.fld (epctl ep) F.RTR_EPCTL_RSPTMO != 15 then s.killUnit ep 2 else s)

/-! ### Partition ebb (R298, R299) -/

/-- The unit that injected a request and the partition tag it carries; none for what a partition ebb never refuses. -/
def Msg.tagged : Msg → Option (Nat × Nat)
  | .req _ _ c _ _ p => some (unitCore c, p)
  | .devRd _ _ u p => some (u, p)
  | .devWr _ _ u _ _ _ p => some (u, p)
  | .mailbox _ c _ _ _ p => some (unitCore c, p)
  | .input e b => some (unitFe e, b.part)
  | _ => none

/-- The unit that injected a request its home has received, and the request's tag. -/
def HomeReq.tagged : HomeReq → Option (Nat × Nat)
  | .core _ c _ p => some (unitCore c, p)
  | .devRd _ => none
  | .devWr u _ _ _ p => some (u, p)

/-- Requests tagged `p` that have no response or delivery acknowledgement, as their units. -/
def State.taggedOut (s : State) (p : Nat) : List Nat :=
  let mine (q : Option (Nat × Nat)) : Option Nat := match q with | some (u, q) => if q = p then some u else none | none => none
  s.slices.flatMap (fun e => e.2.txns.filterMap (fun t => match t.2 with | some x => mine x.req.tagged | none => none) ++
    e.2.waitq.filterMap (fun w => mine w.req.tagged)) ++
  s.cores.flatMap (fun e => if e.2.part = p then e.2.loads.filterMap (fun x => if (s.epOfAccess e.1 x.pa).isSome then some (unitCore e.1) else none) else []) ++
  s.fes.flatMap (fun e => e.2.reads.filterMap (fun r => if !r.refused && (s.stnEnt e.1 r.station).part == p then some (unitFe e.1) else none)) ++
  s.net.filterMap (fun m => match m.tagged with | some (u, q) => if q = p then some u else none | none => none) ++
  s.cores.flatMap (fun e => if e.2.part = p then List.replicate (e.2.castAcks + e.2.devs.length) (unitCore e.1) else []) ++
  s.hif.queue.filterMap (fun i => match i with
    | .read _ _ k _ _ _ => if s.fld (Reg.HIF_RQCFG k) F.HIF_RQCFG_OWNER = p then some unitHif else none
    | .write _ _ k _ _ _ _ => if s.fld (Reg.HIF_RQCFG k) F.HIF_RQCFG_OWNER = p then some unitHif else none
    | _ => none)

/-- A START of a partition ebb: ignored while one is in progress. -/
def State.startPebb (s : State) (p : Nat) : State :=
  let a := Reg.CHIP_PEBB
  if s.flag a F.CHIP_PEBB_START then s
  else { (s.setFld a F.CHIP_PEBB_PART p).setFlag a F.CHIP_PEBB_START true with partEbb := some ⟨p % 64⟩ }

/-- PARTITION_EBB_START. -/
def execPartitionEbbStart (part : Nat) (s : State) : Res := .next (s.startPebb part)

/-- The refusal ends, with DONE or TMO. -/
def State.endPebb (s : State) (f : Fld) : State :=
  { (s.setFlag Reg.CHIP_PEBB F.CHIP_PEBB_START false).setFlag Reg.CHIP_PEBB f true with partEbb := none }

/-- PARTITION_EBB_DONE: every endpoint has reported. -/
def execPartitionEbbDone (s : State) : Res :=
  .next (match s.partEbb with
    | some q => if (s.taggedOut q.part).isEmpty then s.endPebb F.CHIP_PEBB_DONE else s
    | none => s)

/-- PARTITION_EBB_TIMEOUT: a record of severity 8 for each unit that still had requests outstanding, with their number (R554). -/
def execPartitionEbbTimeout (s : State) : Res :=
  .next (match s.partEbb with
    | some q =>
      let us := s.taggedOut q.part
      us.eraseDups.foldl (fun s u => s.detect { unit := u, sev := some 8, part := some q.part, detail := min 0xFFFF (us.count u) })
        (s.endPebb F.CHIP_PEBB_TMO)
    | none => s)

end Sys2Proof.Machine
end

