-- ==== Sys2Proof/Machine/Survive.lean ====
section
/-!
DEFINITION. What survives (R610, R611): what the DOM of each domain and a CHIP reset return to their reset values. The registers of a unit are the
ranges of control space that its block holds (R30 to R32).
-/
namespace Sys2Proof.Machine

/-- A range of keys, its end not included. -/
abbrev Span := Nat × Nat
def Span.has (r : Span) (k : Nat) : Bool := decide (r.1 ≤ k) && decide (k < r.2)

/-- The registers of some ranges return to their reset values. -/
def State.clearRegs (s : State) (rs : List Span) : State := { s with regs := s.regs.filter (fun e => !(rs.any (·.has e.1))) }

/-- Entries of a table whose keys lie in a range return to their defaults. -/
def Tbl.drop {α : Type} (t : Tbl α) (lo n : Nat) : Tbl α := t.filter (fun e => !(decide (lo ≤ e.1) && decide (e.1 < lo + n)))

/-- A register as a range. -/
def oneReg (a : Nat) : Span := (a, a + 8)
/-- `n` bytes of control space. -/
def block (a n : Nat) : Span := (a, a + n)

/-- Bases of the blocks of R30 and R31. -/
def tileBlk (t : Nat) : Nat := 0x0100_0000 + t * 0x1_0000
def mcBlk (m : Nat) : Nat := 0x0200_0000 + m * 0x10_0000
def feBlk (e : Nat) : Nat := 0x0300_0000 + e * 0x100_0000
def ldlBlk (l : Nat) : Nat := 0x0500_0000 + l * 0x10_0000

/-- The registers of a domain's units. -/
def domSpans (d : Nat) : List Span :=
  if d < 128 then
    let b := tileBlk (d / 2)
    [block (b + 0x1000 * (1 + d % 2)) 0x1000, block (b + 0x1000 * (3 + d % 2)) 0x1000, oneReg (castReg d)]
  else if d < 192 then [block (tileBlk (d - 128) + 0x5000) 0x2000]
  else if d < 204 then [block (mcBlk (d - 192)) 0x10_0000]
  else if d < 216 then
    let q := d - 204
    [block (feBlk (q / 6) + 0x10_0000 + 0x1000 * (q % 6)) 0x1000, block (feBlk (q / 6) + 0x20_0000 + 0x4000 * (q % 6)) 0x4000]
  else if d < 218 then
    let b := feBlk (d - 216)
    [block b 0x10_0000, (b + 0x10_6000, b + 0x20_0000), (b + 0x21_8000, b + 0x100_0000)]
  else if d < 222 then [block (ldlBlk (d - 218)) 0x10_0000]
  else if d = 222 then [block 0x0800_0000 0x100_0000, block 0x1000_0000 0x1000_0000]
  else if d = 223 then (0x40_0000, 0x45_0000) :: oneReg Reg.CHIP_PEBB :: (List.range 64).map (fun t => (tileBlk t + 0x10, tileBlk t + 0x1000))
  else []

/-- The endpoints of a domain's units (R274): a lane quad has none of its own; the tile fabric has the tile-control endpoints. -/
def domEps (d : Nat) : List Nat :=
  if d < 128 then [epCore d] else if d < 192 then [epSlice (d - 128)] else if d < 204 then [epMc (d - 192)]
  else if d < 216 then [] else if d < 218 then [epFe (d - 216)] else if d < 222 then [epLdl (d - 218)] else if d = 222 then [epHif] else []

/-- The unit of the error aggregator whose domain `d` is; a quad's are its four lanes. -/
def domUnits (d : Nat) : List Nat :=
  if d < 128 then [unitCore d] else if d < 192 then [unitSlice (d - 128)] else if d < 204 then [unitMc (d - 192)]
  else if d < 216 then (List.range 4).map (fun i => unitLane (4 * (d - 204) + i)) else if d < 218 then [unitFe (d - 216)]
  else if d < 222 then [unitLdl (d - 218)] else if d = 222 then [unitHif] else []

/-- The unit of a domain is present (R564). -/
def State.hasDom (s : State) (d : Nat) : Bool :=
  if d < 128 then s.hasCore d else if d < 192 then s.hasTile (d - 128) else if d < 204 then s.hasMc (d - 192)
  else if d < 216 then s.hasQuad (d - 204) else if d < 218 then s.hasFe (d - 216) else if d < 222 then s.hasLdl (d - 218) else decide (d < 225)

/-- All 256 keys of a core. -/
def allKeys : List Nat := List.range 256

/-- The state of a domain's units outside their registers returns to its reset values; cast contents go; a core's keys are regenerated and it is held (R147, R597). -/
def State.resetUnit (s : State) (d : Nat) : State :=
  if d < 128 then
    (({ s with cores := Tbl.drop s.cores d 1, dist := { s.dist with cores := Tbl.drop s.dist.cores d 1 },
               retainPrst := s.retainPrst.filter (fun q => q.1 != d) }).zeroRange (castBase d) 0x10_0000).regenKeys d allKeys
  else if d < 192 then ({ s with slices := Tbl.drop s.slices (d - 128) 1 }).zeroRange (slcCastBase (d - 128)) 0x40_0000
  else if d < 204 then
    let m := d - 192
    let x := s.chan m
    let s1 := s.setChan m { serials := x.serials, ret := x.ret, alt := x.alt }
    if x.ret then s1 else s1.loseChannel m
  else if d < 216 then { s with lanes := Tbl.drop s.lanes (4 * (d - 204)) 4 }
  else if d < 218 then
    let e := d - 216
    { s with stns := Tbl.drop s.stns (2048 * e) 2048, imgs := Tbl.drop s.imgs (16 * e) 16, tabs := Tbl.drop s.tabs (8 * e) 8, fes := Tbl.drop s.fes e 1,
             fns := Tbl.drop s.fns (128 * e) 128, fast := Tbl.drop s.fast (24 * e) 24 }
  else if d < 222 then
    let l := d - 218
    { s with ldls := Tbl.drop s.ldls (32 * l) 32, ldlEngs := Tbl.drop s.ldlEngs l 1 }
  else if d = 222 then { s with hif := {} }
  else if d = 223 then { s with endpoints := [], links := [], routers := [], tileMnt := [], partEbb := none }
  else s

/-- What a memory controller's DOM keeps of MC_TRAIN: SAVEDV (R325, R611). -/
def State.keepSaved (s : State) (before : State) (m : Nat) : State :=
  s.setFlag (Reg.MC_TRAIN m) F.MC_TRAIN_SAVEDV (before.flag (Reg.MC_TRAIN m) F.MC_TRAIN_SAVEDV)

/-- The DOM of a domain (R565, R611): its units return to their reset values, its endpoints become FENCED (R291), DEAD in its units' logs is cleared
(R555). -/
def State.domReset (s : State) (d : Nat) : State :=
  let s1 := (s.clearRegs (domSpans d)).resetUnit d
  let s2 := if 192 ≤ d ∧ d < 204 then s1.keepSaved s (d - 192) else s1
  let s3 := (domEps d).foldl (fun s k => ((s.setEp k {}).setEpState k epFenced).setFlag (epctl k) F.RTR_EPCTL_EBB false) s2
  (domUnits d).foldl (fun s u => s.setFlag (Reg.ERR_USTAT u) F.ERR_USTAT_DEAD false) s3

/-! ### The CHIP reset -/

/-- Registers that a CHIP reset keeps whole (R555, R561, R586, R593, R611): tide time, the reset causes, the AON block, the aggregator's logs and buckets. -/
def chipKeeps (a : Nat) : Bool :=
  a == Reg.CHIP_TTNOW || a == Reg.SVC_RSTCAUSE || (0x0780_0000 ≤ a && a < 0x0800_0000) ||
  a == Reg.ERR_LINESTAT || a == Reg.ERR_LOGHEAD || a == Reg.ERR_LOGTAIL || a == Reg.ERR_LOGDROP || (0x0901_0000 ≤ a && a < 0x0A00_0000)

/-- Whether a memory key survives a CHIP reset: DRAM after a warm reset, and the channels in self-refresh after any (R590, R611). -/
def State.keyKept (s : State) (cold : Bool) (k : Nat) : Bool :=
  decide (2 ^ 48 ≤ k) && (!cold || (s.chan (k / 2 ^ 48 - 1)).ret)

/-- The state of R589 Seq 4: what the CHIP column keeps, everything else as at PWR. Messages in flight vanish; the pins keep the levels the board gives them. -/
def State.chipClear (s : State) (cold : Bool) : State :=
  let s1 : State :=
    { fuse := s.fuse, fresh := s.fresh, regs := s.regs.filter (fun e => chipKeeps e.1), mem := s.mem.filter (fun e => s.keyKept cold e.1),
      memPoison := s.memPoison.filter (fun e => s.keyKept cold e.1), chans := Tbl.mapAll (fun _ => {}) (fun _ x => { serials := x.serials, ret := x.ret, alt := if x.ret then x.alt else [] }) s.chans,
      time := { frac := s.time.frac, refOn := s.time.refOn },
      dist := { srcs := Tbl.mapAll (fun _ => {}) (fun _ x => { pin := x.pin }) s.dist.srcs },
      errq := s.errq, errlog := s.errlog, ident := { s.ident with chal := none }, tap := s.tap, pending := s.pending }
  let s2 := (List.range 12).foldl (fun t m => t.keepSaved s m) s1
  s2.setFlag Reg.PWR_THSTAT F.PWR_THSTAT_HALTED (s.flag Reg.PWR_THSTAT F.PWR_THSTAT_HALTED)

/-- A fuse command that a CHIP reset cuts off (R588, R609): OP 1 leaves nothing, data without PROG, which makes the slot BAD, or the whole slot; OP 2 and OP 3
are done or not. Which of them is free. -/
def State.cutFuse (s : State) (done : Nat → Nat → List Word → Fuses → Fuses) : State :=
  match s.svc.fuse with
  | none => s
  | some (op, slot, data) =>
    let q := s.choose 3
    let bad (f : Fuses) : Fuses := { f with slots := f.slots.modify slot (fun x => { x with bad := true }) }
    if q.1 = 0 then q.2
    else if op = 1 ∧ q.1 = 1 then { q.2 with fuse := bad q.2.fuse }
    else { q.2 with fuse := done op slot data q.2.fuse }

end Sys2Proof.Machine
end

