-- ==== Sys2Proof/Machine/Power.lean ====
section
/-!
DEFINITION. Power domains and low-power states (chapter 21): domains (R565 to R567), core states (R568 to R573), NEAP and STANDBY (R574 to R578), wake pins
and the alarm (R579), AVSBus (R580), temperature (R47, R581 to R583).
-/
namespace Sys2Proof.Machine

def State.setDom (s : State) (d v : Nat) : State := s.setFld (Reg.PWR_DOM d) F.PWR_DOM_STATE v
def domOff : Nat := 0
def domUp : Nat := 1
def domRunning : Nat := 2
def domDown : Nat := 3
def domRetain : Nat := 4
def domResume : Nat := 5

/-! ### Domains (R565, R567) -/

/-- A core that may be taken down: in HALT, in RETAIN, or checkstopped (R567 code 5). -/
def RunState.stopped : RunState → Bool
  | .halt => true | .retain => true | .checkstop => true | .pairHalt => true
  | .run => false | .held => false | .off => false | .resetting => false

/-- A field engine that may not be switched off (R567 code 7). -/
def State.feBusy (s : State) (e : Nat) : Bool :=
  (List.range 8).any (fun k => s.ttState e k != 0) || (List.range 128).any (fun f => s.fnState e f != 0) ||
  (List.range 6).any (fun j => s.hasQuad (6 * e + j) && s.domState (204 + 6 * e + j) != domOff)

/-- The code that refuses a REQ (R567): the first case that applies. -/
def State.domRefusal (s : State) (d req : Nat) : Option Nat :=
  let st := s.domState d
  if st = domUp ∨ st = domDown ∨ st = domResume then some 1
  else if d = 223 ∨ d = 224 then some 2
  else if req = 1 ∧ (s.domRun 223 = false ∨ (204 ≤ d ∧ d < 216 ∧ s.domRun (216 + (d - 204) / 6) = false)) then some 3
  else if req = 3 ∨ (req = 2 ∧ 128 ≤ d) then some 4
  else if d < 128 ∧ req ≠ 1 ∧ ((s.core d).run.stopped = false ∨ (s.core d).csrBit C.pairctl 1 = true) then some 5
  else if req = 0 ∧ 128 ≤ d ∧ d < 192 ∧ getB s.homeSet (d - 128) = true then some 6
  else if req = 0 ∧ 192 ≤ d ∧ d < 204 ∧ s.regions.any (fun g => covering g && (rgnAll g).contains (d - 192)) = true then some 7
  else if req = 0 ∧ 216 ≤ d ∧ d < 218 ∧ s.feBusy (d - 216) = true then some 7
  else none

/-- DOWN (R565, R569 Seq 1, Seq 2): a core's latch is cleared and armed; the lanes of a quad are DISABLED (R331, R342); the controller starts the ebb of every
endpoint. -/
def State.startDown (s : State) (d : Nat) : State :=
  let s1 := s.setDom d domDown
  let s2 : State := if d < 128 then (s1.setBit (Reg.AON_CYCLATCH (d / 64)) (d % 64) false).setReg (Reg.AON_CYCTIME d) 0 else s1
  let p : Pwr := { s2.pwr with past := s2.pwr.past.filter (· != d), exits := s2.pwr.exits.filter (· != d) }
  let s3 : State := { s2 with pwr := p }
  let s4 := if 204 ≤ d ∧ d < 216 then s3.quadEval (d - 204) else s3
  (domEps d).foldl (fun s k => s.startEbb k) s4

/-- What a domain switched off loses at once; the rest returns to reset values at its DOM. -/
def State.powerOff (s : State) (d : Nat) : State :=
  let s1 := (s.clearRegs (domSpans d)).resetUnit d
  let s2 := if 192 ≤ d ∧ d < 204 then s1.keepSaved s (d - 192) else s1
  let s3 := if d < 128 then s2.modCore d (fun c => { c with run := .off }) else s2
  s3.setDom d domOff

/-- An accepted REQ. -/
def State.domRequest (s : State) (d req : Nat) : State :=
  let s1 := s.setFld (Reg.PWR_DOM d) F.PWR_DOM_REQ req
  let st := s.domState d
  if st = domOff then s1.setDom d domUp
  else if st = domRetain then (if req = 1 then s1.setDom d domResume else s1.powerOff d)
  else s1.startDown d

/-- REQ equals the present state: no effect. -/
def State.domSame (s : State) (d req : Nat) : Bool :=
  let st := s.domState d
  (req == 0 && st == domOff) || (req == 1 && st == domRunning) || (req == 2 && st == domRetain)

/-- A write of PWR_DOM (R565, R567, R585). -/
def State.writeDom (s : State) (d : Nat) (v : Word) : State :=
  let a := Reg.PWR_DOM d
  let req := getF v F.PWR_DOM_REQ
  if !s.hasDom d then s
  else
    let s1 := s.setReg a ((s.reg a &&& ~~~ (v &&& (F.PWR_DOM_REJ.mask ||| F.PWR_DOM_ABORTED.mask))))
    let s2 := s1.setFld a F.PWR_DOM_AUTOWAKE (getF v F.PWR_DOM_AUTOWAKE)
    if s.domSame d req then s2
    else match s.domRefusal d req with
      | some k => (s2.setFlag a F.PWR_DOM_REJ true).setFld a F.PWR_DOM_REJCODE k
      | none => s2.domRequest d req

/-- PWR_DOM_REQ_OFF, PWR_DOM_REQ_RUN, PWR_DOM_REQ_RETAIN: writes of PWR_DOM (R565, R569). -/
def execPwrDomReqOff (d : Nat) (value : Word) (s : State) : Res := .next (s.writeDom d (setF value F.PWR_DOM_REQ 0))
def execPwrDomReqRun (d : Nat) (value : Word) (s : State) : Res := .next (s.writeDom d (setF value F.PWR_DOM_REQ 1))
def execPwrDomReqRetain (d : Nat) (value : Word) (s : State) : Res := .next (s.writeDom d (setF value F.PWR_DOM_REQ 2))

/-! ### Chip states: entry (R574, R575, R577) -/

/-- Units that stay powered (R575 Seq 4, R577). -/
def State.kept (s : State) (d : Nat) : Bool :=
  let io := s.reg Reg.PWR_NEAPKEEPIO
  !s.pwr.standby &&
  (if d < 128 then true else if d < 192 then getB (s.reg Reg.PWR_NEAPKEEP) (d - 128) else if d < 204 then true else if d < 216 then getB io (d - 204)
   else if d < 218 then getB io (12 + (d - 216)) else if d < 222 then getB io (14 + (d - 218)) else if d = 222 then getB io 18 else true)

/-- The domains that Seq 4 switches off. -/
def State.switched (s : State) : List Nat :=
  s.pwr.before.filter (fun d => decide (128 ≤ d) && (decide (d < 192) || decide (204 ≤ d)) && decide (d < 223) && !s.kept d)

/-- Present controllers' endpoints that were powered at the request. -/
def State.poweredMcs (s : State) : List Nat := (List.range 12).filter (fun m => s.pwr.before.contains (192 + m))

/-- A source whose edge or line requests a wake: WAKE = 1, and in the sleep latch or pending (R499, R572). -/
def State.wakeSrc (s : State) (k : Nat) : Bool := (s.src k).wake && (s.dist.sleepLatch.contains k || s.srcPending k)
def State.wakeSrcs (s : State) (cyclic : Bool) : Bool :=
  s.dist.srcs.any (fun e => s.wakeSrc e.1 && isCyclicSrc e.1 == cyclic)

/-- A wake pin active now with its enable (R579). -/
def State.wakePins (s : State) : Bool := (List.range 8).any (fun k => s.irqLine k && getB (s.reg Reg.AON_WAKEEN) k)

/-- The causes that stand when an entry reaches its end (R579, R586). -/
def State.wakeCauses (s : State) : State :=
  let pins := (List.range 8).filter (fun k => s.irqLine k && getB (s.reg Reg.AON_WAKEEN) k)
  let bits := pins ++ (if s.wakeSrcs true then [10] else []) ++ (if s.wakeSrcs false then [11] else [])
  bits.foldl (fun s b => s.setBit Reg.AON_WAKECAUSE b true) s

/-- The exit begins: the wake is recognised (R576 Seq 1). -/
def State.recognise (s : State) : State :=
  let s1 := if s.pwr.timed then s else s.setReg Reg.AON_WAKETIME (BitVec.ofNat 64 s.now)
  { s1.setFld Reg.PWR_CHIPCTL F.PWR_CHIPCTL_STATE 2 with pwr := { s1.pwr with phase := .waking, timed := true } }

/-- The sleep latch is ORed into the edge latches, closed and cleared (R499 Seq 5). -/
def State.closeLatch (s : State) : State :=
  let s1 := s.dist.sleepLatch.foldl (fun s k => s.modSrc k (fun x => { x with edge := true })) s
  { s1 with dist := { s1.dist with sleepOpen := false, sleepLatch := [] } }

/-- Request a VDD_CORE value over AVSBus (R580). -/
def State.avsRequest (s : State) (mv : Nat) : State :=
  { s.setFlag Reg.PWR_AVSSTAT F.PWR_AVSSTAT_BUSY true with pwr := { s.pwr with avs := some mv } }

/-- Seq 6 and Seq 7 (R575, R577): the distributor's working state is saved and switched off; in STANDBY the controllers' domains and the tile fabric follow,
and VDD_CORE is requested at STBYMV. A wake that is there starts the exit at once. -/
def State.fallAsleep (s : State) : State :=
  let s1 : State := { s with dist := { s.dist with workOff := true }, pwr := { s.pwr with phase := .asleep } }
  let s2 := if s.pwr.standby then
      let a := ((s1.poweredMcs.filter (fun m => s.mcState m == mcSelfref)).foldl (fun s m => s.setDom (192 + m) domOff) s1).setDom 223 domOff
      ({ a with net := [] }).avsRequest (s.fld Reg.PWR_AVSCTL F.PWR_AVSCTL_STBYMV)
    else s1
  if s2.pwr.wake || s2.wakePins || s2.wakeSrcs true || s2.wakeSrcs false then s2.wakeCauses.recognise else s2

/-- Past the point of no return: when every unit of Seq 4 is off the controllers' endpoints are ebbed with SRREQ = 1, and when none of them is READY the entry
ends. -/
def State.entryAdvance (s : State) : State :=
  if s.pwr.phase != .committed || s.switched.any (fun d => s.domState d != domOff) then s
  else
    let s1 := s.poweredMcs.foldl (fun s m => (s.startEbb (epMc m)).setFlag (Reg.MC_PWRCTL m) F.MC_PWRCTL_SRREQ true) s
    if s1.poweredMcs.any (fun m => s1.mcState m == mcReady) then s1 else s1.fallAsleep

/-- The code that refuses a chip-state request (R574). -/
def State.chipRefusal (s : State) (n req : Nat) : Option Nat :=
  let io := s.reg Reg.PWR_NEAPKEEPIO
  let others := s.presentCores.filter (· != n)
  if req = 3 then some 5
  else if others.any (fun k => s.domState k != domOff && !(req == 1 && s.domState k == domRetain)) then some 1
  else if (bitsOf s.homeSet 64).any (fun t => req == 2 || !getB (s.reg Reg.PWR_NEAPKEEP) t) then some 2
  else if s.pwr.phase != .run then some 3
  else if req = 1 ∧ ((List.range 12).any (fun q => getB io q && !getB io (12 + q / 6)) ∨ (List.range 4).any (fun l => getB io (14 + l) && !getB io (12 + l / 2))) then some 4
  else none

/-- A write of PWR_CHIPCTL by core `n` (R574, R577, R585): code at F or H requests. -/
def State.writeChipctl (s : State) (n : Nat) (v : Word) : State :=
  let a := Reg.PWR_CHIPCTL
  let req := getF v F.PWR_CHIPCTL_REQ
  let s1 := s.setReg a (s.reg a &&& ~~~ (v &&& (F.PWR_CHIPCTL_REJ.mask ||| F.PWR_CHIPCTL_ABORTED.mask)))
  let l := (s.core n).level
  if req = 0 ∨ s.hasCore n = false ∨ (l ≠ .f ∧ l ≠ .h) then s1
  else match s.chipRefusal n req with
    | some k => (s1.setFlag a F.PWR_CHIPCTL_REJ true).setFld a F.PWR_CHIPCTL_REJCODE k
    | none =>
      let running := (List.range 224).filter (fun d => s.domRun d)
      let p : Pwr := { s1.pwr with phase := .requested, standby := req == 2, requester := n, before := running, cyclic := false, wake := false, timed := false }
      { s1 with pwr := p }

def execNeapRequest (core : Nat) (value : Word) (s : State) : Res := .next (s.writeChipctl core (setF value F.PWR_CHIPCTL_REQ 1))
def execStandbyRequest (core : Nat) (value : Word) (s : State) : Res := .next (s.writeChipctl core (setF value F.PWR_CHIPCTL_REQ 2))

/-- HLT (R113, R184); the requester's HLT starts its own entry (R575 Seq 1). -/
def execHlt (core : Nat) (s : State) : Res :=
  let s1 := s.hlt core
  .next (if s1.pwr.phase = .requested ∧ s1.pwr.requester = core ∧ (s1.core core).run = .halt ∧ s1.domState core = domRunning then s1.startDown core else s1)

/-- CHIP_STATE_POINT_OF_NO_RETURN (R575 Seq 3, R571, R573): a cyclic event aborts the entry, otherwise the units that are not kept go DOWN. -/
def execChipStatePointOfNoReturn (s : State) : Res :=
  let a := Reg.PWR_CHIPCTL
  .next (if s.pwr.phase != .entering then s
  else if s.pwr.cyclic || s.wakeSrcs true then
    let s1 := (s.closeLatch.setBit Reg.AON_WAKECAUSE 10 true).setBit Reg.AON_WAKECAUSE 12 true
    let s2 := (s1.setFlag a F.PWR_CHIPCTL_ABORTED true).setFld a F.PWR_CHIPCTL_STATE 0
    let n := s.pwr.requester
    if s.pwr.standby then
      (s2.setDom 0 (if s2.domState 0 = domOff then domUp else s2.domState 0)).setDom n (if s2.domState n = domOff then domUp else s2.domState n)
        |> fun t => { t with pwr := { t.pwr with phase := .restoring } }
    else { s2.setDom n domResume with pwr := { s2.pwr with phase := .run } }
  else
    let s1 : State := { s with pwr := { s.pwr with phase := .committed } }
    (s1.switched.foldl (fun s d => s.startDown d) s1).entryAdvance)

/-! ### Points of no return and switches (R565, R569, R571) -/

/-- A cyclic-class event is latched for the core or pending at it (R571, R572). -/
def State.cyclicAt (s : State) (n : Nat) : Bool :=
  getB (s.reg (Reg.AON_CYCLATCH (n / 64))) (n % 64) ||
  (s.flag (Reg.PWR_DOM n) F.PWR_DOM_AUTOWAKE && (s.pwr.phase == .run || s.pwr.requester != n) && (s.core n).offers.any (fun o => isCyclicSrc o.src))

/-- POINT_OF_NO_RETURN (R565, R571): with every endpoint FENCED or DEAD, a core's entry is aborted or passes; another domain goes OFF. -/
def execPointOfNoReturn (d : Nat) (s : State) : Res :=
  .next (if s.domState d != domDown || s.pwr.past.contains d || (domEps d).any (fun k => s.epState k != epFenced && s.epState k != epDead) then s
  else if d < 128 then
    (if s.cyclicAt d then
      let s1 := (s.setDom d domRunning).setFlag (Reg.PWR_DOM d) F.PWR_DOM_ABORTED true
      let s2 : State := { s1 with pwr := { s1.pwr with exits := s1.pwr.exits.filter (· != d) } }
      (s2.reopen (epCore d)).wakeHalt d
    else { s with pwr := { s.pwr with past := s.pwr.past ++ [d] } })
  else (s.powerOff d).entryAdvance)

/-- RETENTION_SWITCH (R569 Seq 5): STATE becomes RETAIN or OFF; an event latched meanwhile starts the exit at once (R573). The requester of a chip state opens
the sleep latch (R575 Seq 2). -/
def execRetentionSwitch (n : Nat) (s : State) : Res :=
  let chip := s.pwr.phase == .requested && s.pwr.requester == n
  let retain := if chip then !s.pwr.standby else s.fld (Reg.PWR_DOM n) F.PWR_DOM_REQ == 2
  .next (if !s.pwr.past.contains n then s
  else
    let c := s.core n
    let stopped := if retain && (c.run == .checkstop || c.run == .pairHalt) then s.pwr.stopped ++ [(n, c.run)] else s.pwr.stopped
    let p : Pwr := { s.pwr with past := s.pwr.past.filter (· != n), exits := s.pwr.exits.filter (· != n), stopped := stopped }
    let s1 : State := { s with pwr := p }
    let s2 := if retain then (s1.modCore n (fun c => { c with run := .retain })).setDom n (if s.pwr.exits.contains n then domResume else domRetain)
      else s1.powerOff n
    if chip then { s2.setFld Reg.PWR_CHIPCTL F.PWR_CHIPCTL_STATE 1 with dist := { s2.dist with sleepOpen := true }, pwr := { s2.pwr with phase := .entering } }
    else s2)

/-- RETAIN_RESTORED (R568, R570, R520): translation buffers invalid, held PART resets applied, the endpoint reopened, the core in HALT. -/
def execRetainRestored (n : Nat) (s : State) : Res :=
  .next (if s.domState n != domResume then s
  else
    let st := match s.pwr.stopped.find? (fun q => q.1 == n) with | some q => q.2 | none => RunState.halt
    let s1 := s.modCore n (fun c => { c with run := st, tlb := [], s2 := [], itlb := [], dtlb := [] })
    let s2 := (s.retainPrst.filter (fun q => q.1 == n)).foldl (fun s q => s.applyPartReset n q.2) s1
    let back := s2.pwr.phase == .restoring && s2.pwr.requester == n
    let p : Pwr := { s2.pwr with stopped := s2.pwr.stopped.filter (fun q => q.1 != n), phase := if back then .run else s2.pwr.phase }
    let s3 : State := { s2 with pwr := p, retainPrst := s2.retainPrst.filter (fun q => q.1 != n) }
    let s4 := if back then s3.setFld Reg.PWR_CHIPCTL F.PWR_CHIPCTL_STATE 0 else s3
    ((s4.setDom n domRunning).reopen (epCore n)).wakeHalt n)

/-! ### Chip states: exit (R576, R578) -/

/-- Core 0 begins in flood mode at level F at an address (R596, R605). -/
def State.releaseAt (s : State) (n : Nat) (pc : Word) : State := s.modCore n (fun c => { c with run := .run, level := .f, pc := pc })

/-- The registers a released core 0 finds after a CHIP reset (R605). -/
def State.releaseBoot (s : State) : State :=
  let pc := BitVec.ofNat 64 (castBase 0 + s.svc.fentry)
  (s.releaseAt 0 pc).modCore 0 (fun c => (c.wx 10 (BitVec.ofNat 64 (castBase 0 + 0x5_0000))).wx 11 (s.reg Reg.SVC_BOOTSTAT))

/-- STANDBY's end (R578, R586): core 0 is released at AON_RESUMEPC, or as at a CHIP reset where that is 0. -/
def State.standbyRelease (s : State) : State :=
  let r := s.reg Reg.AON_RESUMEPC
  let s1 := if r = 0 then s.releaseBoot else s.releaseAt 0 r
  { s1.setFld Reg.PWR_CHIPCTL F.PWR_CHIPCTL_STATE 0 with pwr := { s1.pwr with phase := .run } }

/-- The distributor is restored (R499 Seq 4 to Seq 6): residency and offers do not return. -/
def State.restoreDist (s : State) : State :=
  if s.dist.workOff then
    let s1 : State := { s with dist := { s.dist with workOff := false, cores := [] } }
    let s2 := ((s1.clearRegs [block (Reg.IRQ_VCORE 0) 0x400]).mapCores (fun _ c => { c with offers := [] })).closeLatch
    s2.settle
  else s

/-- Domains that the exit waits for: in STANDBY the controllers' and slices' of R578 and core 0's. -/
def State.awaited (s : State) : List Nat :=
  if s.pwr.standby then 0 :: s.pwr.before.filter (fun d => decide (128 ≤ d) && decide (d < 204))
  else s.pwr.before.filter (fun d => decide (128 ≤ d))

/-- The exit goes on once memory has resumed and the awaited domains run (R576 Seq 4, Seq 5; R578). -/
def State.exitAdvance (s : State) : State :=
  if s.pwr.phase != .restoring || s.awaited.any (fun d => s.hasDom d && s.domState d != domRunning) ||
     (List.range 12).any (fun m => s.mcState m == mcResuming) then s
  else
    let s1 := s.restoreDist
    if s1.pwr.standby then s1.standbyRelease else s1.setDom s1.pwr.requester domResume

/-- What STANDBY saves of a controller's registers (R611): configuration, DIMMs, sparing, scrub, service window; and SAVEDV. -/
def mcSavedRegs (m : Nat) : List Nat :=
  [Reg.MC_CFG m, Reg.MC_DIMM m 0, Reg.MC_DIMM m 1, Reg.MC_SPARE m, Reg.MC_SCRUB m, Reg.MC_TC0WIN m, Reg.MC_TC0CTL m]

/-- The DOM of a controller that returns from STANDBY, and its resume. -/
def State.mcStandbyUp (s : State) (m : Nat) : State :=
  let s1 := (mcSavedRegs m).foldl (fun t a => t.setReg a (s.reg a)) (s.domReset (192 + m))
  let s2 := s1.setFlag (Reg.MC_STAT m) F.MC_STAT_SPARED (s.flag (Reg.MC_STAT m) F.MC_STAT_SPARED)
  if s2.flag (Reg.MC_TRAIN m) F.MC_TRAIN_SAVEDV then s2.setMc m mcResuming else s2

/-- CHIP_WAKE (R576, R578): controllers leave self-refresh and the switched domains are powered up. After STANDBY VDD_CORE is raised to TARGET and the tile
fabric, with the pace configuration, has been reset. -/
def execChipWake (s : State) : Res :=
  .next (if s.pwr.phase != .waking then s
  else
    let s0 : State := { s with pwr := { s.pwr with phase := .restoring } }
    let s1 := if s.pwr.standby then
        let t := s.fld Reg.PWR_AVSCTL F.PWR_AVSCTL_TARGET
        let a := ((if t = 0 then s0 else s0.avsRequest t).domReset 223).setDom 223 domRunning
        a.clearRegs [oneReg Reg.CHIP_PACECFG, oneReg Reg.CHIP_PACESTAT]
      else (List.range 12).foldl (fun s m => if s.mcState m = mcSelfref then s.srreqClear m else s) s0
    let up := (if s.pwr.standby then [0] else []) ++ s.pwr.before
    (up.foldl (fun s d => if s.hasDom d && s.domState d == domOff then s.setDom d domUp else s) s1).exitAdvance)

/-- DOMAIN_POWER_GOOD (R565): the unit has been reset and is in RUN; its endpoints are reopened. -/
def execDomainPowerGood (d : Nat) (s : State) : Res :=
  .next (if s.domState d != domUp then s
  else
    let mc := decide (192 ≤ d) && decide (d < 204)
    let s1 := if mc && s.pwr.phase == .restoring && s.pwr.standby then s.mcStandbyUp (d - 192) else s.domReset d
    let s2 := s1.setDom d domRunning
    ((domEps d).foldl (fun s k => if mc && s.mcState (d - 192) == mcResuming then s else s.reopen k) s2).exitAdvance)

/-- RESUME_COMPLETE (R325, R326), and what a chip state's exit waits for. -/
def execResumeComplete (m : Nat) (ok : Bool) (s : State) : Res := .next (s.resumeComplete m ok).exitAdvance

/-- SELF_REFRESH_ENTERED (R326), and what a chip state's entry waits for. -/
def execSelfRefreshEntered (m : Nat) (s : State) : Res := .next (s.selfRefresh m).entryAdvance

/-! ### Wake events (R572, R573, R579) -/

/-- A wake event of the chip, with its bit of AON_WAKECAUSE. -/
def State.chipEvent (s : State) (bit : Nat) (cyclic : Bool) : State :=
  let mark (s : State) : State := s.setBit Reg.AON_WAKECAUSE bit true
  let timed (s : State) : State :=
    if s.pwr.timed then s else { s.setReg Reg.AON_WAKETIME (BitVec.ofNat 64 s.now) with pwr := { s.pwr with timed := true } }
  let latch (s : State) : State := { s with pwr := { s.pwr with cyclic := s.pwr.cyclic || cyclic, wake := true } }
  match s.pwr.phase with
  | .run => s
  | .requested => latch (mark s)
  | .entering => latch (mark s)
  | .committed => latch (timed (mark s))
  | .asleep => (timed (mark s)).recognise
  | .waking => s
  | .restoring => s

/-- WAKE_EVENT (R572, R573): an event of one core's domain, a distributor source with WAKE = 1, or a management request. -/
def execWakeEvent (w : WakeEv) (s : State) : Res :=
  .next (match w with
    | .core n cyclic => s.coreWake n cyclic
    | .source k => if (s.src k).wake then s.chipEvent (if isCyclicSrc k then 10 else 11) (isCyclicSrc k) else s
    | .management => if s.fld Reg.AON_WAKEEN ⟨9, 1⟩ = 1 then s.chipEvent 9 false else s)

/-- WAKE_PIN (R579): the corrected pin has been active for at least 1 µs. -/
def execWakePin (k : Nat) (level : Bool) (s : State) : Res :=
  .next (if k < 8 ∧ getB (s.reg Reg.AON_WAKEEN) k = true ∧ level ≠ getB (s.reg Reg.AON_WAKEPOL) k then s.chipEvent k false else s)

/-- ALARM (R579): tide time reaches AON_ALARM; 0 sets none. -/
def execAlarm (s : State) : Res :=
  .next (if s.reg Reg.AON_ALARM ≠ 0 ∧ getB (s.reg Reg.AON_WAKEEN) 8 = true then s.chipEvent 8 false else s)

/-! ### AVSBus (R580) -/

/-- A write of PWR_AVSCTL (R580): a value out of range is refused and nothing is sent. -/
def State.writeAvsctl (s : State) (v : Word) : State :=
  let a := Reg.PWR_AVSCTL
  let t := getF v F.PWR_AVSCTL_TARGET
  let b := getF v F.PWR_AVSCTL_STBYMV
  if t < 720 ∨ 950 < t ∨ b < 600 ∨ 720 < b then s.setFlag Reg.PWR_AVSSTAT F.PWR_AVSSTAT_REJ true
  else
    let s1 := (s.setFld a F.PWR_AVSCTL_TARGET t).setFld a F.PWR_AVSCTL_STBYMV b
    if getF v F.PWR_AVSCTL_GO = 1 then s1.avsRequest t else s1

/-- AVS_GO. -/
def execAvsGo (value : Word) (s : State) : Res := .next (s.writeAvsctl (setF value F.PWR_AVSCTL_GO 1))

/-- AVS_VOUT_READ: within 10 mV of the value requested BUSY clears. -/
def execAvsVoutRead (mv : Nat) (s : State) : Res :=
  let a := Reg.PWR_AVSSTAT
  .next (match s.pwr.avs with
    | none => s
    | some t =>
      let s1 := s.setFld a F.PWR_AVSSTAT_VOUT mv
      if t ≤ mv + 10 ∧ mv ≤ t + 10 then { s1.setFlag a F.PWR_AVSSTAT_BUSY false with pwr := { s1.pwr with avs := none } } else s1)

/-- AVS_TIMEOUT: 10 ms have passed, or Status reports a fault. -/
def execAvsTimeout (s : State) : Res :=
  let a := Reg.PWR_AVSSTAT
  .next (match s.pwr.avs with
    | none => s
    | some _ => { (s.setFlag a F.PWR_AVSSTAT_ERR true).setFlag a F.PWR_AVSSTAT_BUSY false with pwr := { s.pwr with avs := none } })

/-! ### Temperature (R47, R581 to R583) -/

/-- A flag that asserts at its threshold and deasserts HYST below it: values above 159 act as 159, HYST 0 as 1. `hot` in 0.25 °C. -/
def thermFlag (was : Bool) (hot : Int) (thr hyst : Nat) : Bool :=
  let t : Int := 4 * (min 159 thr : Nat)
  let h : Int := 4 * (max 1 hyst : Nat)
  if was then decide (t - h < hot) else decide (t ≤ hot)

/-- The thermal halt (R583): every domain but the always-on one goes off with no ebb, every TRIP is released, and the part holds itself in reset. -/
def State.thermalHalt (s : State) : State :=
  let s1 := (List.range 224).foldl (fun s d => s.powerOff d) s
  let s2 := (s1.setReg Reg.CHIP_TRIPPERMIT 0).setFlag Reg.PWR_THSTAT F.PWR_THSTAT_HALTED true
  ({ s2 with net := [], svc := { s2.svc with health := none }, pwr := { halt := true } }).detect { unit := unitSvc, sev := some 5, detail := 1 }

/-- MONITOR_SAMPLE (R47, R581 to R583): `mv` the lowest VDD_CORE reading, `hot` the highest temperature in 0.25 °C, `router` of the hottest tile. A pin
reset of a part in thermal halt goes on once every sensor reads below 140 °C (R592). -/
def execMonitorSample (mv : Nat) (hot : Int) (router : Nat) (s : State) : Res :=
  let a := Reg.PWR_THSTAT
  let g := s.reg Reg.PWR_THCFG
  let hy := getF g F.PWR_THCFG_HYST
  let fl (f : Fld) (thr : Fld) : Bool := thermFlag (s.flag a f) hot (getF g thr) hy
  .next (
    let s1 := s.setFastok (s.fastokNext mv hot)
    let s2 := (s1.setFld a F.PWR_THSTAT_TMAX (BitVec.ofInt 16 hot).toNat).setFld a F.PWR_THSTAT_TROUTER router
    let s3 := (s2.setFlag a F.PWR_THSTAT_WARN (fl F.PWR_THSTAT_WARN F.PWR_THCFG_WARN)).setFlag a F.PWR_THSTAT_CRIT (fl F.PWR_THSTAT_CRIT F.PWR_THCFG_CRIT)
    let s4 := s3.setFlag a F.PWR_THSTAT_THROT (getF g F.PWR_THCFG_AUTOTHROT == 1 && fl F.PWR_THSTAT_THROT F.PWR_THCFG_THROT)
    if s.pwr.haltReset ∧ hot < 560 then s4.chipClear true
    else if 640 ≤ hot ∧ s.pwr.halt = false then s4.thermalHalt else s4)

end Sys2Proof.Machine
end

