-- ==== Sys2Proof/Machine/Ident.lean ====
section
/-!
DEFINITION. Identity and heat marks (chapter 24): heat-mark areas and commands (R637 to R642), the challenge (R635), SMBus access (R643).
-/
namespace Sys2Proof.Machine

/-! ### Areas (R637) -/

/-- The size of an area; none where its number is unassigned. -/
def areaSize (a : Nat) : Option Nat :=
  if a < 0x0CE then some 16
  else if 0x0D0 ≤ a ∧ a < 0x0D4 then some 16
  else if a = 0x0D5 then some 64
  else if 0x0E0 ≤ a ∧ a < 0x0EC then some 16
  else none

/-- The unit of an assigned area is present. -/
def State.areaPresent (s : State) (a : Nat) : Bool :=
  if a < 0x080 then s.hasCore a else if a < 0x0C0 then s.hasTile (a - 0x080) else if a < 0x0CC then s.hasMc (a - 0x0C0)
  else if a < 0x0CE then s.hasFe (a - 0x0CC) else if a < 0x0D4 then s.hasLdl (a - 0x0D0) else if a < 0x0E0 then true else s.hasQuad (a - 0x0E0)

/-- A byte of an area; an absent unit's read zero. -/
def State.markByte (s : State) (a k : Nat) : Byte := if s.areaPresent a then Tbl.get (fun _ => 0) s.ident.marks (64 * a + k) else 0

/-- The assigned areas in ascending order. -/
def areas : List Nat := (List.range 0x0EC).filter (fun a => (areaSize a).isSome)

/-- Every area at its full size: 3616 bytes (R635). -/
def State.allMarks (s : State) : List Byte :=
  areas.flatMap (fun a => (List.range ((areaSize a).getD 0)).map (s.markByte a))

/-- Bytes found uncorrectable read as zero (R641). -/
def zeroAt (ue : List Nat) (from_ : Nat) (bs : List Byte) : List Byte := bs.mapIdx (fun i b => if ue.contains (from_ + i) then 0 else b)

/-- HMSTAT.UE and the record (R641). -/
def State.markUe (s : State) : State := (s.setFlag Reg.ID_HMSTAT F.ID_HMSTAT_UE true).failure unitSvc 1 none 0 0

/-! ### Commands (R639, R640) -/

/-- The refusal of a command (R639): the first case that applies. -/
def State.markRefusal (s : State) (c : HmCmd) : Option Nat :=
  if c.len = 0 then some 1
  else match areaSize c.area with
    | some n =>
      if n < c.off + c.len then some 2
      else if c.data.isSome && s.flag Reg.ID_HMCTL F.ID_HMCTL_LOCK then some 4
      else if !c.smb && s.ident.waiting.any (fun w => !w.smb) then some 5
      else none
    | none => some 3

/-- Bytes `0 … 63` of ID_HMDATA. -/
def State.hmData (s : State) : List Byte := (List.range 8).flatMap (fun j => leBytes 8 (s.reg (Reg.ID_HMDATA j)).toNat)

/-- Load consecutive registers with bytes, byte 0 lowest. -/
def State.loadRegs (s : State) (r : Nat → Nat) (n : Nat) (bs : List Byte) : State :=
  (List.range n).foldl (fun s j => s.setReg (r j) (BitVec.ofNat 64 (leWord ((bs.drop (8 * j)).take 8)))) s

/-- Perform an accepted command. -/
def State.runMark (s : State) (c : HmCmd) : State :=
  match c.data with
  | some bs =>
    let m := if s.areaPresent c.area then Tbl.setMany (fun _ => 0) s.ident.marks (64 * c.area + c.off) (bs.take c.len) else s.ident.marks
    let s1 : State := { s with ident := { s.ident with marks := m } }
    if c.smb then { s1 with ident := { s1.ident with smb := [0] } } else s1.setFlag Reg.ID_HMSTAT F.ID_HMSTAT_DONE true
  | none =>
    let bs := zeroAt c.ue c.off ((List.range c.len).map (fun i => s.markByte c.area (c.off + i)))
    let bad := c.ue.any (fun k => decide (c.off ≤ k) && decide (k < c.off + c.len))
    let s1 := if bad then s.markUe else s
    if c.smb then { s1 with ident := { s1.ident with smb := 0 :: bs } } else (s1.loadRegs Reg.ID_HMDATA 8 bs).setFlag Reg.ID_HMSTAT F.ID_HMSTAT_DONE true

/-- A command waits behind waiting ones, and a write behind a challenge (R640). -/
def State.markWaits (s : State) (c : HmCmd) : Bool := !s.ident.waiting.isEmpty || (c.data.isSome && s.ident.chal.isSome)

/-- Take in a command: refuse it, let it wait, or perform it. -/
def State.submitMark (s : State) (c : HmCmd) : State :=
  match s.markRefusal c with
  | some k =>
    if c.smb then { s with ident := { s.ident with smb := [BitVec.ofNat 8 k] } }
    else (s.setFlag Reg.ID_HMSTAT F.ID_HMSTAT_REJ true).setFld Reg.ID_HMSTAT F.ID_HMSTAT_REJCODE k
  | none => if s.markWaits c then { s with ident := { s.ident with waiting := s.ident.waiting ++ [c] } } else s.runMark c

/-- A write of ID_HMCMD. -/
def State.writeHmcmd (s : State) (v : Word) (ue : List Nat) : State :=
  let a := Reg.ID_HMCMD
  let g (f : Fld) : Nat := getF v f
  let set (s : State) (f : Fld) : State := s.setFld a f (g f)
  let s1 := set (set (set (set s F.ID_HMCMD_AREA) F.ID_HMCMD_OFFSET) F.ID_HMCMD_LEN) F.ID_HMCMD_WRITE
  if g F.ID_HMCMD_GO = 0 then s1
  else
    let data := if g F.ID_HMCMD_WRITE = 1 then some (s.hmData.take (g F.ID_HMCMD_LEN)) else none
    s1.submitMark { smb := false, area := g F.ID_HMCMD_AREA, off := g F.ID_HMCMD_OFFSET, data := data, len := g F.ID_HMCMD_LEN, ue := ue }

/-- HEAT_MARK_READ and HEAT_MARK_WRITE: a write of ID_HMCMD with GO = 1. -/
def execHeatMarkRead (value : Word) (ue : List Nat) (s : State) : Res :=
  .next (s.writeHmcmd (setF (setF value F.ID_HMCMD_WRITE 0) F.ID_HMCMD_GO 1) ue)
def execHeatMarkWrite (value : Word) (s : State) : Res := .next (s.writeHmcmd (setF (setF value F.ID_HMCMD_WRITE 1) F.ID_HMCMD_GO 1) [])

/-- HEAT_MARK_LOCK (R642). -/
def execHeatMarkLock (s : State) : Res := .next (s.setFlag Reg.ID_HMCTL F.ID_HMCTL_LOCK true)

/-- The waiting commands are performed in their order of arrival. -/
def State.runMarks (s : State) : State :=
  s.ident.waiting.foldl (fun s c => s.runMark c) { s with ident := { s.ident with waiting := [] } }

/-- What a CHIP reset does here: accepted writes complete, everything else that waits is dropped (R635, R640). -/
def State.cutMarks (s : State) : State :=
  (s.ident.waiting.filter (fun c => c.data.isSome)).foldl (fun s c => s.runMark c) { s with ident := { s.ident with waiting := [], chal := none } }

/-! ### Challenge (R635) -/

/-- CHIP_ID (R36). -/
def State.chipId (s : State) : Word := fieldW 0 16 s.fuse.part ||| fieldW 16 8 s.fuse.stepping

/-- The factory identity, little-endian (R632). -/
def State.identity (s : State) : List Byte := leBytes 8 s.fuse.factid0.toNat ++ leBytes 8 s.fuse.factid1.toNat

/-- The message that is signed. `ue`: bytes of the 3616 found uncorrectable. -/
def State.challengeMsg (s : State) (ue : List Nat) : List Byte :=
  (List.range 6).flatMap (fun j => leBytes 8 (s.reg (Reg.ID_CHAL j)).toNat) ++ s.identity ++ leBytes 8 s.chipId.toNat ++ sha384 (zeroAt ue 0 s.allMarks)

/-- A write of ID_CHALCMD. -/
def State.writeChalcmd (s : State) (v : Word) (ue : List Nat) : State :=
  let a := Reg.ID_CHALCMD
  let s1 := s.setReg a (s.reg a &&& ~~~ (v &&& (F.ID_CHALCMD_DONE.mask ||| F.ID_CHALCMD_REJ.mask)))
  if getF v F.ID_CHALCMD_GO = 0 then s1
  else if s.ident.chal.isSome then s1.setFlag a F.ID_CHALCMD_REJ true
  else
    let s2 := if ue.isEmpty then s1 else s1.markUe
    { s2.setFlag a F.ID_CHALCMD_BUSY true with ident := { s2.ident with chal := some (s.challengeMsg ue) } }

/-- CHALLENGE: GO. -/
def execChallenge (ue : List Nat) (s : State) : Res := .next (s.writeChalcmd (setF 0 F.ID_CHALCMD_GO 1) ue)

/-- CHALLENGE_COMPLETE: steps 3 to 5, and the writes that waited. -/
def execChallengeComplete (s : State) : Res :=
  .next (match s.ident.chal with
    | none => s
    | some m =>
      let sg := Config.sign (sha384 m) s.fresh
      let half (x : Nat) : List Byte := (leBytes 48 x).reverse
      let rs := half (sg.toNat % 2 ^ 384) ++ half (sg.toNat / 2 ^ 384)
      let s1 : State := { s with fresh := s.fresh + 1, ident := { s.ident with chal := none } }
      let s2 := (s1.loadRegs Reg.ID_RESP 12 rs).loadRegs Reg.ID_RESPDIG 6 (m.drop 72)
      ((s2.setFlag Reg.ID_CHALCMD F.ID_CHALCMD_BUSY false).setFlag Reg.ID_CHALCMD F.ID_CHALCMD_DONE true).runMarks)

/-! ### SMBus (R643) -/

/-- The answer to the last SMBus command. -/
def State.smbReply (s : State) (bs : List Byte) : State := { s with ident := { s.ident with smb := bs } }

/-- SMB_READ_IDENTITY, command 0x10. -/
def execSmbReadIdentity (s : State) : Res := .next (s.smbReply (0 :: s.identity))

/-- SMB_HEAT_MARK_READ, command 0x11. -/
def execSmbHeatMarkRead (area off len : Nat) (ue : List Nat) (s : State) : Res :=
  .next (s.submitMark { smb := true, area := area, off := off, data := none, len := len, ue := ue })

/-- SMB_HEAT_MARK_WRITE, command 0x12. -/
def execSmbHeatMarkWrite (area off len : Nat) (data : List Byte) (s : State) : Res :=
  .next (s.submitMark { smb := true, area := area, off := off, data := some (data.take len), len := len })

/-- SMB_CHALLENGE, command 0x13. R639 gives a challenge no REJCODE: the status byte of one refused is a free value. -/
def execSmbChallenge (nonce : List Byte) (ue : List Nat) (s : State) : Res :=
  let s1 := s.loadRegs Reg.ID_CHAL 6 nonce
  let q := s1.draw 8
  .next (if s.ident.chal.isSome then (q.2.writeChalcmd (setF 0 F.ID_CHALCMD_GO 1) []).smbReply [q.1]
  else (s1.writeChalcmd (setF 0 F.ID_CHALCMD_GO 1) ue).smbReply [0])

/-- SMB_RESPONSE, command 0x14: the status, r, s and HMDIGEST as the registers hold them. -/
def execSmbResponse (s : State) : Res :=
  let st : Byte := if s.ident.chal.isSome then 1 else 0
  let regs (r : Nat → Nat) (n : Nat) : List Byte := (List.range n).flatMap (fun j => leBytes 8 (s.reg (r j)).toNat)
  .next (s.smbReply (0 :: st :: (regs Reg.ID_RESP 12 ++ regs Reg.ID_RESPDIG 6)))

/-- Byte `k` of the certificate store; unused bytes read zero. -/
def State.certByte (s : State) (k : Nat) : Byte := s.fuse.cert.getD k 0

/-- SMB_CERTIFICATE, command 0x15: at most 240 bytes. -/
def execSmbCertificate (off len : Nat) (s : State) : Res := .next (s.smbReply (0 :: (List.range (min 240 len)).map (fun i => s.certByte (off + i))))

end Sys2Proof.Machine
end

