-- ==== Sys2Proof/Machine/Reset.lean ====
section
/-!
DEFINITION. Resets (R587 to R593), the boot (R600 to R606), the watchdog (R598, R599), CORE resets and releases (R594 to R597), flash and fuse commands
(R607 to R609).
-/
namespace Sys2Proof.Machine

/-! ### Fuse commands (R603, R609) -/

/-- What a completed fuse command leaves. -/
def applyFuse (op slot : Nat) (data : List Word) (f : Fuses) : Fuses :=
  if op = 1 then { f with slots := f.slots.modify slot (fun x => { x with data := data.flatMap (fun w => leBytes 8 w.toNat), prog := true }) }
  else if op = 2 then { f with slots := f.slots.modify slot (fun x => { x with revoked := true }) }
  else match (List.range 64).find? (fun k => !getB f.svn k) with
    | some k => { f with svn := setB f.svn k true }
    | none => f

/-- Slots that accept a key. -/
def KeySlot.live (x : KeySlot) : Bool := x.prog && !x.revoked && !x.bad

/-- The refusal of a fuse command; an OP that the table does not name does nothing. -/
def State.fuseRefusal (s : State) (op slot : Nat) : Option Nat :=
  let x := s.fuse.slots.getD slot {}
  let others := (s.fuse.slots.eraseIdx slot).any KeySlot.live
  if op = 1 ∧ (x.prog || x.bad) = true then some 1
  else if op = 2 ∧ (!x.prog || !others) = true then some 2
  else if op = 3 ∧ popcount s.fuse.svn 64 = 64 then some 3
  else none

/-- A write of SVC_FUSECMD (R609); GO while a command runs does nothing. -/
def State.writeFusecmd (s : State) (v : Word) : State :=
  let a := Reg.SVC_FUSECMD
  let op := getF v F.SVC_FUSECMD_OP
  let slot := getF v F.SVC_FUSECMD_SLOT
  let s1 := s.setReg a (s.reg a &&& ~~~ (v &&& (F.SVC_FUSECMD_DONE.mask ||| F.SVC_FUSECMD_ERR.mask)))
  if s.svc.fuse.isSome then s1
  else
    let s2 := (s1.setFld a F.SVC_FUSECMD_OP op).setFld a F.SVC_FUSECMD_SLOT slot
    if getF v F.SVC_FUSECMD_GO = 0 ∨ op = 0 then s2
    else match s.fuseRefusal op slot with
      | some k => (s2.setFlag a F.SVC_FUSECMD_ERR true).setFld a F.SVC_FUSECMD_ERRCODE k
      | none => { s2 with svc := { s2.svc with fuse := some (op, slot, (List.range 6).map (fun j => s.reg (Reg.SVC_FUSEDATA j))) } }

def fuseCmd (value : Word) (op : Nat) : Word := setF (setF value F.SVC_FUSECMD_OP op) F.SVC_FUSECMD_GO 1

/-- FUSE_PROGRAM_SLOT, FUSE_REVOKE_SLOT, FUSE_SET_SVN (R609). -/
def execFuseProgramSlot (value : Word) (s : State) : Res := .next (s.writeFusecmd (fuseCmd value 1))
def execFuseRevokeSlot (value : Word) (s : State) : Res := .next (s.writeFusecmd (fuseCmd value 2))
def execFuseSetSvn (value : Word) (s : State) : Res := .next (s.writeFusecmd (fuseCmd value 3))

/-- FUSE_COMMAND_COMPLETE (R609). -/
def execFuseCommandComplete (s : State) : Res :=
  .next (match s.svc.fuse with
    | none => s
    | some (op, slot, data) =>
      let s1 := s.setFlag Reg.SVC_FUSECMD F.SVC_FUSECMD_DONE true
      { s1 with fuse := applyFuse op slot data s1.fuse, svc := { s1.svc with fuse := none } })

/-! ### Triggers of a CHIP reset (R587 to R593) -/

/-- SVC_RSTCAUSE (R593). -/
def State.noteCause (s : State) (k : Nat) : State :=
  let a := Reg.SVC_RSTCAUSE
  ((s.setFld a F.SVC_RSTCAUSE_LAST k).setBit a (8 + k - 1) true).bump a F.SVC_RSTCAUSE_CHIPCNT 1

/-- What the trigger does at once (R588, R589 Seq 2): commands in progress are abandoned, the trip outputs and HEALTH go to their reset states. -/
def State.trigger (s : State) (k : Nat) : State :=
  let s1 := (((s.noteCause k).cutMarks).cutFuse applyFuse).clearRegs
    [oneReg Reg.SVC_FLCMD, oneReg Reg.SVC_WDCTL, oneReg Reg.SVC_WDSTAT, block Reg.CHIP_TRIPPERMIT 0x18]
  { s1 with svc := {} }

/-- A cold CHIP reset (R589). -/
def State.coldReset (s : State) (k : Nat) : State := (s.trigger k).chipClear true

/-- A warm CHIP reset begins (R591). -/
def State.warmReset (s : State) (k : Nat) : State := let s1 := s.trigger k; { s1 with pwr := { s1.pwr with warm := some k } }

/-- A pin reset of a part in thermal halt: recorded and held (R587, R592). -/
def State.haltedReset (s : State) : State :=
  if s.pwr.haltReset then s else let s1 := s.trigger 6; { s1 with pwr := { s1.pwr with haltReset := true } }

/-- PWR_RESET (R587, R611). What the board drives on the interrupt pins, and fuses, remain. -/
def execPwrReset (s : State) : Res :=
  let s1 := s.cutFuse applyFuse
  .next { State.reset with fuse := s1.fuse, fresh := s1.fresh, pending := s1.pending,
                           dist := { srcs := Tbl.mapAll (fun _ => {}) (fun _ x => { pin := x.pin }) s1.dist.srcs } }

/-- COLD_RST_N (R587 to R589). -/
def execColdRstN (s : State) : Res := .next (if s.pwr.halt then s.haltedReset else s.coldReset 2)

/-- WARM_RST_N (R587 to R591). -/
def execWarmRstN (s : State) : Res :=
  .next (if s.pwr.halt then s.haltedReset else if s.pwr.warm.isSome then s else s.warmReset 3)

/-- A READY controller's share of the warm entry (R591): accepted writes complete, reads are discarded, the trained values are saved, every rank enters
self-refresh under retention. -/
def State.warmChannel (s : State) (m : Nat) : State :=
  if s.mcState m != mcReady then s
  else
    let ws := (s.chan m).held.filter (fun q => match q with | .write _ _ _ _ => true | .read _ _ _ _ _ => false)
    ((ws.foldl (fun s q => s.runReq m q) s).saveSet m).modChan m (fun x => { x with held := [], ret := true })

/-- WARM_ENTRY_COMPLETE (R589 Seq 3, R591). -/
def execWarmEntryComplete (s : State) : Res :=
  .next (if s.pwr.warm.isNone then s else ((List.range 12).foldl (fun s m => s.warmChannel m) s).cutMarks.chipClear false)

/-! ### The watchdog and HEALTH (R598, R599) -/

/-- The watchdog is not counting: reset or thermal halt in progress, or a chip state past its point of no return and not yet left. -/
def State.wdPaused (s : State) : Bool :=
  s.pwr.halt || s.pwr.warm.isSome ||
  (match s.pwr.phase with
   | .run => false | .requested => false | .entering => false | .committed => true | .asleep => true | .waking => true | .restoring => true)

/-- A write of SVC_WDCTL (R598): the fields are writable while EN = 0, also by the write that sets EN. -/
def State.writeWdctl (s : State) (v : Word) : State :=
  let a := Reg.SVC_WDCTL
  if s.flag a F.SVC_WDCTL_EN || s.pwr.warm.isSome then s
  else
    let set (s : State) (f : Fld) : State := s.setFld a f (getF v f)
    let s1 := set (set (set (set s F.SVC_WDCTL_T1) F.SVC_WDCTL_T2) F.SVC_WDCTL_ACTION) F.SVC_WDCTL_SUBF
    if getF v F.SVC_WDCTL_EN = 0 then s1
    else { (s1.setFlag a F.SVC_WDCTL_EN true).setFld Reg.SVC_WDSTAT F.SVC_WDSTAT_STAGE 0 with svc := { s1.svc with health := some true } }

/-- WATCHDOG_ENABLE. -/
def execWatchdogEnable (value : Word) (s : State) : Res := .next (s.writeWdctl (setF value F.SVC_WDCTL_EN 1))

/-- A write of SVC_WDKICK: 0xA5 then 0x5A is a kick; a write that is no part of one sets BADKICK. -/
def State.writeWdkick (s : State) (v : Word) : State :=
  let k := getF v ⟨0, 8⟩
  let bad (s : State) : State := s.setFlag Reg.SVC_WDSTAT F.SVC_WDSTAT_BADKICK true
  let half (s : State) (b : Bool) : State := { s with svc := { s.svc with kick := b } }
  if s.svc.kick then
    (if k = 0x5A then
      let s1 := half s false
      if s.fld Reg.SVC_WDSTAT F.SVC_WDSTAT_STAGE < 2 then s1.setFld Reg.SVC_WDSTAT F.SVC_WDSTAT_STAGE 0 else s1
    else half (bad s) (k == 0xA5))
  else if k = 0xA5 then half s true
  else bad s

/-- WATCHDOG_KICK. -/
def execWatchdogKick (value : Word) (s : State) : Res := .next (s.writeWdkick value)

/-- Every trip output is released by the watchdog (R654). -/
def State.tripRelease (s : State) : State :=
  if s.flag Reg.CHIP_TRIPCFG F.CHIP_TRIPCFG_WDLINK then
    ((s.setReg Reg.CHIP_TRIPPERMIT 0).setFlag Reg.CHIP_TRIPSTAT F.CHIP_TRIPSTAT_WDREL true).setFlag Reg.CHIP_TRIPSTAT F.CHIP_TRIPSTAT_HOLD true
  else s

/-- WATCHDOG_STAGE_1 (R598, R654). -/
def execWatchdogStage1 (s : State) : Res :=
  let a := Reg.SVC_WDSTAT
  .next (if s.flag Reg.SVC_WDCTL F.SVC_WDCTL_EN && !s.wdPaused && s.fld a F.SVC_WDSTAT_STAGE == 0 then
    let s1 := (s.setFld a F.SVC_WDSTAT_STAGE 1).bump a F.SVC_WDSTAT_EXPCNT 1
    let s2 := if s.flag Reg.SVC_WDCTL F.SVC_WDCTL_SUBF then
        [0, 1].foldl (fun s e => if s.hasFe e then s.setReg (Reg.FE_SUBFORCE e) (ones 64) else s) s1
      else s1
    { s2.tripRelease with svc := { s2.svc with health := some false } }
  else s)

/-- WATCHDOG_STAGE_2 (R587, R598). -/
def execWatchdogStage2 (s : State) : Res :=
  let a := Reg.SVC_WDSTAT
  let act := s.fld Reg.SVC_WDCTL F.SVC_WDCTL_ACTION
  .next (if s.flag Reg.SVC_WDCTL F.SVC_WDCTL_EN && !s.wdPaused && s.fld a F.SVC_WDSTAT_STAGE == 1 then
    (if act = 0 then s.setFld a F.SVC_WDSTAT_STAGE 2 else if act = 1 then s.warmReset 4 else s.coldReset 5)
  else s)

/-! ### CORE reset and release (R594 to R597) -/

/-- A refused write of SVC_CORECTL. -/
def State.corectlRefuse (s : State) (n k : Nat) : State :=
  (s.setFlag (Reg.SVC_CORECTL n) F.SVC_CORECTL_REJ true).setFld (Reg.SVC_CORECTL n) F.SVC_CORECTL_REJCODE k

/-- A pair that runs (R594). -/
def State.activePair (s : State) (n : Nat) : Bool := (s.core n).paired && (s.core n).run != .pairHalt

/-- RESET = 1 (R594, R595 Seq 1 to Seq 3): an entry before its step 20 is abandoned, its offer kept. -/
def State.coreReset (s : State) (n : Nat) : State :=
  let a := Reg.SVC_CORECTL n
  if s.flag a F.SVC_CORECTL_RESET then s
  else if !s.domRun n then s.corectlRefuse n 1
  else if s.activePair n then s.corectlRefuse n 2
  else
    let c := (s.core n).discard
    let e := match c.entry with | some e => if e.slot.isSome then some e else none | none => none
    let s1 := s.setCore n { c with run := .resetting, loads := [], amos := [], entry := e, resv := none, resvAge := 0 }
    (s1.setFlag a F.SVC_CORECTL_RESET true).startEbb (epCore n)

/-- RELEASE = 1 (R596). -/
def State.coreRelease (s : State) (n : Nat) : State :=
  if !s.domRun n then s.corectlRefuse n 1
  else if (s.core n).run != .held then s.corectlRefuse n 3
  else s.releaseAt n (s.reg (Reg.SVC_COREPC n) &&& ~~~ 3#64)

/-- A write of SVC_CORECTL. -/
def State.writeCorectl (s : State) (n : Nat) (v : Word) : State :=
  let a := Reg.SVC_CORECTL n
  if !s.hasCore n then s
  else
    let s1 := s.setReg a (s.reg a &&& ~~~ (v &&& F.SVC_CORECTL_REJ.mask))
    let s2 := if getF v F.SVC_CORECTL_RESET = 1 then s1.coreReset n else s1
    if getF v F.SVC_CORECTL_RELEASE = 1 then s2.coreRelease n else s2

/-- CORE_RESET and CORE_RELEASE. -/
def execCoreReset (n : Nat) (value : Word) (s : State) : Res :=
  .next (s.writeCorectl n (setF (setF value F.SVC_CORECTL_RESET 1) F.SVC_CORECTL_RELEASE 0))
def execCoreRelease (n : Nat) (value : Word) (s : State) : Res :=
  .next (s.writeCorectl n (setF (setF value F.SVC_CORECTL_RESET 0) F.SVC_CORECTL_RELEASE 1))

/-- The keys a core holds once a waiting one has taken effect. -/
def Pred.settledKeys (p : Pred) : Tbl (BitVec 24) :=
  match p.newKey with | some (k, v, _) => Tbl.set Config.startKey p.keys k v | none => p.keys

/-- CORE_RESET_COMPLETE (R595 Seq 4, Seq 5; the CORE column of R611): cast ways, keys and offers remain. -/
def execCoreResetComplete (n : Nat) (s : State) : Res :=
  let c := s.core n
  let st := s.epState (epCore n)
  .next (if c.run != .resetting || (st != epFenced && st != epDead) || c.entry.isSome || c.switch.isSome || c.pairCopy.isSome then s
  else
    let s1 := s.setCore n { pred := { keys := c.pred.settledKeys }, offers := c.offers }
    let s2 := (s1.clearRegs [oneReg (Reg.CORE_PACESTAT n)]).setFlag (Reg.SVC_CORECTL n) F.SVC_CORECTL_RESET false
    s2.reopen (epCore n))

/-! ### Flash commands (R607, R608) -/

/-- Load SVC_FLHASH. -/
def State.setFlhash (s : State) (bs : List Byte) : State := s.loadRegs Reg.SVC_FLHASH 6 (sha384 bs)

/-- An operation completes: DONE and source 8. -/
def State.flashDone (s : State) : State :=
  ((s.setFlag Reg.SVC_FLCMD F.SVC_FLCMD_GO false).setFlag Reg.SVC_FLCMD F.SVC_FLCMD_DONE true).raiseEdge 8

/-- An operation ends with ERR, and source 8. -/
def State.flashErr (s : State) (k : Nat) : State :=
  let a := Reg.SVC_FLCMD
  (((s.setFlag a F.SVC_FLCMD_GO false).setFlag a F.SVC_FLCMD_ERR true).setFld a F.SVC_FLCMD_ERRCODE k).raiseEdge 8

/-- A write of SVC_FLCMD: GO while an operation runs is ignored; with FLLEN = 0 the operation completes at once. -/
def State.writeFlcmd (s : State) (v : Word) : State :=
  let a := Reg.SVC_FLCMD
  let s1 := s.setReg a (s.reg a &&& ~~~ (v &&& (F.SVC_FLCMD_DONE.mask ||| F.SVC_FLCMD_ERR.mask)))
  if s.flag a F.SVC_FLCMD_GO then s1
  else
    let s2 := s1.setFld a F.SVC_FLCMD_OP (getF v F.SVC_FLCMD_OP)
    if getF v F.SVC_FLCMD_GO = 0 then s2
    else if s.reg Reg.SVC_FLLEN = 0 then (s2.setFlhash []).flashDone
    else s2.setFlag a F.SVC_FLCMD_GO true

def flashCmd (value : Word) (op : Nat) : Word := setF (setF value F.SVC_FLCMD_OP op) F.SVC_FLCMD_GO 1

/-- FLASH_COPY, FLASH_PROGRAM, FLASH_ERASE (R607). -/
def execFlashCopy (value : Word) (s : State) : Res := .next (s.writeFlcmd (flashCmd value 0))
def execFlashProgram (value : Word) (s : State) : Res := .next (s.writeFlcmd (flashCmd value 1))
def execFlashErase (value : Word) (s : State) : Res := .next (s.writeFlcmd (flashCmd value 2))

/-- FLASH_OPERATION_COMPLETE (R607): the first error of the table that applies, alignment before what the flash itself does; then the operation's effect. A
copy that times out keeps the bytes already copied. -/
def execFlashOperationComplete (size : Nat) (data : List Byte) (timeout : Bool) (s : State) : Res :=
  let op := s.fld Reg.SVC_FLCMD F.SVC_FLCMD_OP
  let off := s.fld Reg.SVC_FLSRC F.SVC_FLSRC_OFF
  let len := (s.reg Reg.SVC_FLLEN).toNat
  let a := (s.reg Reg.SVC_FLMEM).toNat
  let mem := op == 0 || op == 1
  let unit := if op = 1 then 256 else if op = 2 then 0x1_0000 else 1
  .next (if !s.flag Reg.SVC_FLCMD F.SVC_FLCMD_GO then s
  else if size < off + len then s.flashErr 1
  else if mem && !s.engOk svcRouter 0 a len then (s.engRefused svcRouter 0 a len (op == 0)).flashErr 2
  else if off % unit ≠ 0 ∨ len % unit ≠ 0 then s.flashErr 4
  else
    let bs := data.take len
    let put (s : State) : State := s.engWrite 0 a bs (bs.map (fun _ => false))
    if timeout then (if op = 0 then put s else s).flashErr 3
    else if op = 0 then ((put s).setFlhash bs).flashDone
    else if op = 1 then let q := s.engRead 0 a len; (q.2.2.setFlhash q.1).flashDone
    else s.flashDone)

/-! ### Images (R602, R603) -/

/-- A little-endian number of a header. -/
def hdr (h : List Byte) (lo n : Nat) : Nat := leWord ((h.drop lo).take n)
def hdrBytes (h : List Byte) (lo n : Nat) : List Byte := (h.drop lo).take n
def upTo4k (n : Nat) : Nat := (n + 4095) / 4096 * 4096

/-- Lengths, FENTRY, the reserved bytes, and the segments' place in the flash (R602, code 4). -/
def imgFormOk (i : BootImg) (uart : Bool) : Bool :=
  let h := i.header
  let sp := hdr h 12 4
  let f := hdr h 16 4
  let e := hdr h 24 4
  decide (1 ≤ sp ∧ sp ≤ 196608 ∧ 1 ≤ f ∧ f ≤ 327680 ∧ e % 4 = 0 ∧ e < f) &&
  (hdrBytes h 28 4 ++ hdrBytes h 368 144).all (· == 0) && decide (hdr h 6 2 < 2) && (uart || decide (upTo4k (0x1000 + sp) + f ≤ i.size))

/-- The public key is accepted (R603). -/
def State.keyOk (s : State) (i : BootImg) : Bool :=
  if s.fuse.slots.any (·.prog) then s.fuse.slots.any (fun x => x.live && x.data == sha384 (hdrBytes i.header 176 96)) else i.romKey

/-- The code of an image: the first failing check in the table's order, a timeout where the reading it stops comes (R603). -/
def State.imageCode (s : State) (uart : Bool) : Option BootImg → Nat
  | none => 2
  | some i =>
    let h := i.header
    if i.headerTimeout then 10
    else if hdr h 0 4 ≠ 0x4F43_5331 ∨ hdr h 4 2 ≠ 1 then 3
    else if !imgFormOk i uart then 4
    else if !s.keyOk i then 5
    else if !i.sigOk then 6
    else if hdr h 8 4 < popcount s.fuse.svn 64 then 7
    else if i.segTimeout then 10
    else if sha384 (i.sp.take (hdr h 12 4)) ≠ hdrBytes h 32 48 then 8
    else if sha384 (i.f.take (hdr h 16 4)) ≠ hdrBytes h 80 48 then 9
    else 1

/-- The places tried, in order: 0 flash A, 1 flash B, 2 UART (R600). -/
def bootOrder (src : Nat) : List Nat :=
  if src = 0 then [0, 1] else if src = 1 then [1, 0] else if src = 2 then [0] else [2]

def bootAt (e : BootEnv) (k : Nat) : Option BootImg := if k = 0 then e.a else if k = 1 then e.b else e.uart

/-- Try images until one is accepted, recording ERRA and ERRB; answers the source and the image. -/
def State.tryImages (s : State) (e : BootEnv) : List Nat → Option (Nat × BootImg) × State
  | [] => (none, s)
  | k :: r =>
    let c := s.imageCode (k == 2) (bootAt e k)
    let s1 := if k = 0 then s.setFld Reg.SVC_BOOTSTAT F.SVC_BOOTSTAT_ERRA c
      else if k = 1 then s.setFld Reg.SVC_BOOTSTAT F.SVC_BOOTSTAT_ERRB c else s
    match bootAt e k with
    | some i => if c = 1 then (some (k, i), s1) else s1.tryImages e r
    | none => s1.tryImages e r

/-! ### The boot (R604 to R606) -/

def State.setPhase (s : State) (k : Nat) : State := s.setFld Reg.SVC_BOOTSTAT F.SVC_BOOTSTAT_PHASE k

/-- Seq 1 to Seq 3. The strap pins act as GPIO from here on, and with the reset pins released the TAP drives nothing (R658). -/
def State.bootStart (s : State) (e : BootEnv) : State :=
  let s1 := (s.setFld Reg.SVC_STRAPS F.SVC_STRAPS_BOOTSRC e.src).setFld Reg.PWR_AVSCTL F.PWR_AVSCTL_TARGET 850
  let s2 := s1.setFld Reg.PWR_AVSSTAT F.PWR_AVSSTAT_VOUT e.vout
  let s3 := if e.vout ≤ 860 ∧ 840 ≤ e.vout then s2 else s2.setFlag Reg.PWR_AVSSTAT F.PWR_AVSSTAT_ERR true
  let s4 := (s3.setFlag Reg.CHIP_PACESTAT F.CHIP_PACESTAT_LOCKA true).setFlag Reg.CHIP_PACESTAT F.CHIP_PACESTAT_LOCKB true
  { s4 with tap := match s4.tap with | .extest => .bypass | .clamp => .bypass | .highz => .bypass | .bypass => .bypass | .idcode => .idcode | .sample => .sample }

/-- Seq 5: every present domain has passed UP and is in RUN; its endpoints are OPEN in every router's map. -/
def State.bootPower (s : State) : State :=
  let ds := (List.range 223).filter s.hasDom
  let s1 := ds.foldl (fun s d => ((s.domReset d).setFld (Reg.PWR_DOM d) F.PWR_DOM_REQ 1).setDom d domRunning) s
  let ks := (List.range 320).filter s.epPresent
  let s2 := ks.foldl (fun s k => s.setEpState k epOpen) s1
  let map := (ks.filter (fun k => epResetState (k / 4) (k % 4) != epOpen)).map (fun k => (k, epOpen))
  (List.range 80).foldl (fun s r => s.setRouter r { s.router r with map := map }) s2

/-- Units whose failing checker stops the boot: the SVC tile's, the tile fabric's, tile 0's and core 0 (R557, R564, R606). -/
def stopsBoot (u : Nat) : Bool := u == unitSvc || u == unitPace || u == unitSlice 0 || u == unitCore 0 || (decide (unitRouter 0 ≤ u) && decide (u < unitRouter 80))

/-- Seq 6 (R557): a passing unit's STFAIL clears; each failing one has a record. -/
def State.bootTest (s : State) (fails : List (Nat × Nat)) : State :=
  let s1 := s.setFld Reg.ERR_STSTAT F.ERR_STSTAT_FAILS (fails.map (·.1)).eraseDups.length
  let pass := (List.range 0x190).filter (fun u => !(fails.any (fun q => q.1 == u)) && s.flag (Reg.ERR_USTAT u) F.ERR_USTAT_STFAIL)
  let s2 := pass.foldl (fun s u => s.setFlag (Reg.ERR_USTAT u) F.ERR_USTAT_STFAIL false) s1
  fails.foldl (fun s q => s.detect { unit := q.1, sev := some 6, detail := q.2 }) s2

/-- Seq 7 for one channel: resumed where its saved set matches and it kept self-refresh or RESUMEOK allows it, otherwise trained in full. -/
def State.bootChannel (s : State) (resumeOk : Bool) (q : Nat × Word × Word × Bool) : State :=
  let m := q.1
  if !s.hasMc m then s
  else
    let s1 := (s.setReg (Reg.MC_DIMM m 0) q.2.1).setReg (Reg.MC_DIMM m 1) q.2.2.1
    let saved := s1.flag (Reg.MC_TRAIN m) F.MC_TRAIN_SAVEDV && (s1.chan m).serials == some (s1.dimmSerials m)
    if saved && ((s1.chan m).ret || resumeOk) then (s1.trainResume m).resumeComplete m q.2.2.2
    else (s1.trainFull m).trainingEnds m q.2.2.2

/-- Seq 7: every present channel; one with no entry has no DIMM. -/
def State.bootMemory (s : State) (e : BootEnv) (resumeOk : Bool) : State :=
  (List.range 12).foldl (fun s m => s.bootChannel resumeOk (match e.dimms.find? (fun q => q.1 == m) with | some q => q | none => (m, 0, 0, false))) s

/-- Seq 8 and Seq 9 (R605). -/
def State.bootRelease (s : State) (i : BootImg) : State :=
  let a := Reg.TILE_LCAST 0
  let s1 := (s.setFld a F.TILE_LCAST_WAYS 6).setFld a F.TILE_LCAST_CUR 6
  let s2 := (s1.setBytes (castBase 0) (i.f.take (hdr i.header 16 4))).setBytes (castBase 0 + 0x5_0000) (i.header.take 512)
  ({ s2 with svc := { s2.svc with fentry := hdr i.header 24 4 } }.setPhase 4).releaseBoot

/-- The boot from an accepted image. -/
def State.bootImage (s : State) (e : BootEnv) (k : Nat) (i : BootImg) : State :=
  let a := Reg.SVC_BOOTSTAT
  let s1 := (((s.setFld a F.SVC_BOOTSTAT_SRC k).setFld a F.SVC_BOOTSTAT_SVN (hdr i.header 8 4)).setPhase 1).bootPower
  let s2 := (s1.bootTest e.failing).setPhase 2
  if e.failing.any (fun q => stopsBoot q.1) then (s2.setFlag a F.SVC_BOOTSTAT_STOPCHK true).setPhase 15
  else ((s2.bootMemory e (hdr i.header 6 2 % 2 == 1)).setPhase 3).bootRelease i

/-- BOOT (R604): from the end of a CHIP or PWR reset to the release of core 0, or to the stop of R606. -/
def execBoot (env : BootEnv) (s : State) : Res :=
  .next (if s.pwr.halt || s.pwr.warm.isSome || s.fld Reg.SVC_BOOTSTAT F.SVC_BOOTSTAT_PHASE != 0 then s
  else
    let q := (s.bootStart env).tryImages env (bootOrder (env.src % 4))
    match q.1 with
    | none => q.2.setPhase 15
    | some (k, i) => q.2.bootImage env k i)

end Sys2Proof.Machine
end

