-- ==== Sys2Proof/Machine/Hif.lean ====
section
/-!
DEFINITION. The host interface (chapter 23): root-port control and containment (R615, R628), completions of core loads (R617, R625), configuration requests
(R619), requester contexts and inbound requests (R620 to R622), message writes (R623, R624).
-/
namespace Sys2Proof.Machine

/-! ### Loads of cores that wait for a root port (R625, R628) -/

/-- Loads of core `n` that wait for root port `p`, by place. -/
def State.portLoads (s : State) (n p : Nat) : List Nat :=
  (List.range (s.core n).loads.length).filter (fun i => match (s.core n).loads[i]? with
    | some w => regionOf w.pa == .pcie && s.portOf w.pa == some p
    | none => false)

/-- A load ends with the precise fault 0x05; no breakwater absorbed it. -/
def State.loadFault (s : State) (n idx : Nat) (w : LdWait) : State :=
  let s1 := s.modCore n (fun c => { c with loads := c.loads.eraseIdx idx, pc := w.pc })
  s1.raiseT n ⟨5, w.va, tinfo 0 0 1 false, false⟩

/-- The oldest load of core `n` to a contained port faults as UR (R628); the trap discards the younger ones. -/
def State.faultPort (s : State) (p n : Nat) : State :=
  match s.portLoads n p with
  | [] => s
  | i :: _ => match (s.core n).loads[i]? with
    | some w => s.loadFault n i w
    | none => s

/-- Containment (R628), with CONTAINEN = 1; a contained port stays as it is. -/
def State.contain (s : State) (p : Nat) : State :=
  if s.flag (Reg.HIF_PCTL p) F.HIF_PCTL_CONTAINEN && !s.flag (Reg.HIF_PSTAT p) F.HIF_PSTAT_CONTAINED then
    let s1 := (s.setFlag (Reg.HIF_PSTAT p) F.HIF_PSTAT_CONTAINED true).failure unitHif 5 none 0 p
    s1.presentCores.foldl (fun s n => s.faultPort p n) s1
  else s

/-- RELEASE (R628): only while no core load to the port is outstanding. -/
def State.releasePort (s : State) (p : Nat) : State :=
  if s.presentCores.all (fun n => (s.portLoads n p).isEmpty) then s.setFlag (Reg.HIF_PSTAT p) F.HIF_PSTAT_CONTAINED false else s

/-! ### Root-port registers (R615, R631, R652) -/

/-- A write of HIF_PCTL: a port that is no root port ignores it. -/
def State.writePctl (s : State) (p : Nat) (v : Word) : State :=
  if !s.isRoot p then s
  else
    let a := Reg.HIF_PCTL p
    let set (s : State) (f : Fld) : State := s.setFld a f (getF v f)
    let s1 := set (set (set (set (set (set s F.HIF_PCTL_MAXRATE) F.HIF_PCTL_ENABLE) F.HIF_PCTL_CTO) F.HIF_PCTL_CONTAINEN) F.HIF_PCTL_LINKIE) F.HIF_PCTL_ERRIE
    if getF v F.HIF_PCTL_RELEASE = 1 then s1.releasePort p else s1

/-- PORT_ENABLE (R652): PERST follows ENABLE (`State.perst`). -/
def execPortEnable (p : Nat) (value : Word) (s : State) : Res := .next (s.writePctl p value)

/-- CONTAINMENT_RELEASE. -/
def execContainmentRelease (p : Nat) (value : Word) (s : State) : Res := .next (s.writePctl p (setF value F.HIF_PCTL_RELEASE 1))

/-- The bits of HIF_BIFCFG whose ports are present. -/
def State.bifMask (s : State) : Word :=
  let on (f : Fld) (ps : List Nat) : Word := if ps.all s.hasPort then f.mask else 0
  on F.HIF_BIFCFG_PAIR0 [0, 1] ||| on F.HIF_BIFCFG_PAIR2 [2, 3] ||| on F.HIF_BIFCFG_PAIR4 [4, 5] ||| on F.HIF_BIFCFG_PAIR6 [6, 7] |||
  on F.HIF_BIFCFG_QUAD0 [0, 1, 2, 3] ||| on F.HIF_BIFCFG_QUAD4 [4, 5, 6, 7]

/-- A write of HIF_BIFCFG (R615). -/
def State.writeBifcfg (s : State) (v : Word) : State :=
  let a := Reg.HIF_BIFCFG
  if s.flag a F.HIF_BIFCFG_LOCK || (List.range 8).any (fun p => s.flag (Reg.HIF_PCTL p) F.HIF_PCTL_ENABLE) then s
  else s.setReg a (v &&& (s.bifMask ||| F.HIF_BIFCFG_LOCK.mask))

/-- BIFCFG_WRITE. -/
def execBifcfgWrite (value : Word) (s : State) : Res := .next (s.writeBifcfg value)

/-- The highest rate that MAXRATE allows. -/
def State.maxRate (s : State) (p : Nat) : Nat := let r := s.fld (Reg.HIF_PCTL p) F.HIF_PCTL_MAXRATE; if r = 0 ∨ 5 < r then 5 else r

/-- DLUP_CHANGE (R626, R628): a link comes up only with ENABLE = 1. -/
def execDlupChange (p : Nat) (up : Bool) (rate width : Nat) (surprise : Bool) (s : State) : Res :=
  let a := Reg.HIF_PSTAT p
  .next (if !s.isRoot p || s.flag a F.HIF_PSTAT_DLUP == up || (up && !s.flag (Reg.HIF_PCTL p) F.HIF_PCTL_ENABLE) then s
  else
    let s1 := (s.setFlag a F.HIF_PSTAT_DLUP up).setFlag a F.HIF_PSTAT_LINKCHG true
    let s2 := (s1.setFld a F.HIF_PSTAT_RATE (if up then min (s.maxRate p) rate else 0)).setFld a F.HIF_PSTAT_WIDTH (if up then width else 0)
    if !up && surprise then s2.contain p else s2)

/-- UNCORRECTABLE_ERROR_DETECTED (R626, R628): AER's severity bit tells whether it is fatal. -/
def execUncorrectableErrorDetected (p bit : Nat) (s : State) : Res :=
  .next (if !s.isRoot p || decide (32 ≤ bit) then s
  else
    let s1 := (s.setHdrDword p 0x104 (s.hdrStored p 0x104 ||| 2 ^ bit)).setFlag (Reg.HIF_PSTAT p) F.HIF_PSTAT_ERREV true
    if bitAt (s.hdrStored p 0x10C) bit then s1.contain p else s1)

/-- CORRECTABLE_LINK_OR_TLP_ERROR (R625, R548). -/
def execCorrectableLinkOrTlpError (p bit : Nat) (s : State) : Res :=
  .next (if !s.isRoot p || decide (32 ≤ bit) then s
  else (s.setHdrDword p 0x110 (s.hdrStored p 0x110 ||| 2 ^ bit)).corrected unitHif 0)

/-! ### Configuration and completions (R617, R619, R625) -/

/-- CONFIGURATION_REQUEST (R618, R619): a write reaches a root port's header or leaves on a link; a read answers, or is retried by the root port. -/
def execConfigurationRequest (off width : Nat) (data : Option Word) (reply : CfgReply) (s : State) : Res :=
  .next (if !ecamOff off then s
  else match data with
    | some v => s.cfgWrite off width v
    | none => match s.cfgRead off width reply with
      | some v => { s with hif := { s.hif with cfg := v } }
      | none => s)

/-- The load of core `n` at place `idx` that waits for a root port, with the port. -/
def State.portLoad (s : State) (n idx : Nat) : Option (LdWait × Nat) :=
  match (s.core n).loads[idx]? with
  | none => none
  | some w =>
    if (s.core n).run != .run || (s.core n).entry.isSome then none
    else if regionOf w.pa = .pcie then (s.portOf w.pa).map (fun p => (w, p))
    else if regionOf w.pa = .control ∧ ecamOff (w.pa - ctlBase) = true then (s.busPort (ecamBus (w.pa - ctlBase))).map (fun p => (w, p))
    else none

/-- COMPLETION_RECEIVE (R617, R625). -/
def execCompletionReceive (core idx : Nat) (status : CplStatus) (s : State) : Res :=
  .next (match s.portLoad core idx with
    | none => s
    | some (w, p) =>
      if regionOf w.pa ≠ .pcie then s
      else match status with
        | .ok v ep =>
          let s1 := s.modCore core (fun c => { c with loads := c.loads.eraseIdx idx })
          (s1.finishLoad core w (leBytes w.width v.toNat) (List.replicate w.width ep) w.issued).ackTlb core
        | .ur => (s.bump (Reg.HIF_PCNT p) F.HIF_PCNT_URCA 1).loadFault core idx w
        | .ca => (s.bump (Reg.HIF_PCNT p) F.HIF_PCNT_URCA 1).loadFault core idx w)

/-- COMPLETION_TIMEOUT (R625): also for a configuration read that the root port retries (R619). -/
def execCompletionTimeout (core idx : Nat) (s : State) : Res :=
  .next (match s.portLoad core idx with
    | none => s
    | some (w, p) => (s.bump (Reg.HIF_PCNT p) F.HIF_PCNT_CTO 1).loadFault core idx w)

/-! ### Requester contexts (R620, R621) -/

def State.rqEn (s : State) (k : Nat) : Bool := s.flag (Reg.HIF_RQCFG k) F.HIF_RQCFG_EN
def State.rqOwner (s : State) (k : Nat) : Nat := s.fld (Reg.HIF_RQCFG k) F.HIF_RQCFG_OWNER

/-- Enabled windows of a context: guest base, physical base, size. -/
def State.rqWins (s : State) (k : Nat) : List (Nat × Nat × Nat) :=
  (List.range 8).filterMap (fun w =>
    let b := s.reg (Reg.HIF_RQWINBASE k w)
    if getB b 0 then some (4096 * getF b ⟨12, 36⟩, 4096 * s.fld (Reg.HIF_RQWINPA k w) ⟨12, 36⟩, 4096 * s.fld (Reg.HIF_RQWINSIZE k w) ⟨12, 36⟩) else none)

/-- `[p, p + z)` lies within DRAM, the shared cast window or one core cast window (R24). -/
def memoryRange (p z : Nat) : Bool :=
  match regionOf p, regionOf (p + z - 1) with
  | .dram, .dram => true
  | .sharedCast _, .sharedCast _ => true
  | .coreCast a, .coreCast b => a == b
  | _, _ => false

/-- Two ranges meet. -/
def meet (a n b m : Nat) : Bool := decide (a < b + m) && decide (b < a + n)

/-- Two windows of a list overlap in bus address. -/
def winsMeet : List (Nat × Nat × Nat) → Bool
  | [] => false
  | w :: r => r.any (fun x => meet w.1 w.2.2 x.1 x.2.2) || winsMeet r

def msgBase : Nat := 0xFEE0_0000

/-- The refusal of EN = 1 (R621): the first case that applies, on the fields as written. -/
def State.rqRefusal (s : State) (k : Nat) : Option Nat :=
  let lo (j : Nat) : Nat := s.fld (Reg.HIF_RQCFG j) F.HIF_RQCFG_RIDFIRST
  let hi (j : Nat) : Nat := s.fld (Reg.HIF_RQCFG j) F.HIF_RQCFG_RIDLAST
  let ws := s.rqWins k
  if hi k < lo k then some 1
  else if (List.range 256).any (fun j => j != k && s.rqEn j && decide (lo j ≤ hi k) && decide (lo k ≤ hi j)) then some 2
  else if ws.isEmpty || ws.any (fun w => w.2.2 == 0) then some 3
  else if ws.any (fun w => !memoryRange w.2.1 w.2.2) then some 4
  else if winsMeet ws || ws.any (fun w => meet w.1 w.2.2 msgBase 0x1000) then some 5
  else none

/-- A write of HIF_RQCFG. -/
def State.writeRqcfg (s : State) (k : Nat) (v : Word) : State :=
  let a := Reg.HIF_RQCFG k
  if 256 ≤ k then s
  else
    let s1 := s.setReg a (s.reg a &&& ~~~ (v &&& F.HIF_RQCFG_REJ.mask))
    let en := getF v F.HIF_RQCFG_EN == 1
    if s.rqEn k then (if en then s1 else s1.setFlag a F.HIF_RQCFG_EN false)
    else
      let set (s : State) (f : Fld) : State := s.setFld a f (getF v f)
      let s2 := set (set (set s1 F.HIF_RQCFG_RIDFIRST) F.HIF_RQCFG_RIDLAST) F.HIF_RQCFG_OWNER
      if !en then s2
      else match s2.rqRefusal k with
        | some c => (s2.setFlag a F.HIF_RQCFG_REJ true).setFld a F.HIF_RQCFG_CFGERR c
        | none => s2.setFlag a F.HIF_RQCFG_EN true

/-- RQCFG_ENABLE and RQCFG_DISABLE. -/
def execRqcfgEnable (k : Nat) (value : Word) (s : State) : Res := .next (s.writeRqcfg k (setF value F.HIF_RQCFG_EN 1))
def execRqcfgDisable (k : Nat) (value : Word) (s : State) : Res := .next (s.writeRqcfg k (setF value F.HIF_RQCFG_EN 0))

/-! ### Inbound requests (R620, R622, R625) -/

/-- The enabled context of a requester. -/
def State.rqOf (s : State) (rid : Nat) : Option Nat :=
  (List.range 256).find? (fun k => s.rqEn k && decide (s.fld (Reg.HIF_RQCFG k) F.HIF_RQCFG_RIDFIRST ≤ rid) &&
    decide (rid ≤ s.fld (Reg.HIF_RQCFG k) F.HIF_RQCFG_RIDLAST))

/-- The context and physical address of an access, or the code that faults it (R625). -/
def State.rqXlate (s : State) (rid a n : Nat) : Except Nat (Nat × Nat) :=
  match s.rqOf rid with
  | none => .error 1
  | some k => match (s.rqWins k).find? (fun w => decide (w.1 ≤ a) && decide (a + n ≤ w.1 + w.2.2)) with
    | some w => .ok (k, w.2.1 + (a - w.1))
    | none => .error 2

/-- An inbound fault (R630, R631): the first freezes the fields. -/
def State.inFault (s : State) (p rid a code : Nat) : State :=
  let r := Reg.HIF_FAULTSTAT
  let s1 := s.bump Reg.HIF_FAULTCNT ⟨0, 32⟩ 1
  if s.flag r F.HIF_FAULTSTAT_VALID then s1
  else
    let s2 := ((s1.setFld r F.HIF_FAULTSTAT_RID rid).setFld r F.HIF_FAULTSTAT_CODE code).setFld r F.HIF_FAULTSTAT_PORT p
    (s2.setFlag r F.HIF_FAULTSTAT_VALID true).setReg Reg.HIF_FAULTADDR (BitVec.ofNat 64 a)

/-- The requester of an item, and whether it is a posted write not yet performed. -/
def HifItem.rid : HifItem → Nat
  | .read _ r _ _ _ _ => r
  | .answered _ r _ _ _ _ => r
  | .write _ r _ _ _ _ _ => r
  | .edge r _ => r
def HifItem.isWrite : HifItem → Bool
  | .write _ _ _ _ _ _ _ => true
  | .read _ _ _ _ _ _ => false
  | .answered _ _ _ _ _ _ => false
  | .edge _ _ => false

/-- Send what no earlier write of its requester holds back (R622, R624): completions in order, and message edges. `held` are the requesters of the
writes met so far. -/
def State.hifFlush (s : State) : List HifItem → List Nat → List HifItem × List HifCpl × State
  | [], _ => ([], [], s)
  | i :: r, held =>
    if i.isWrite then let q := s.hifFlush r (i.rid :: held); (i :: q.1, q.2)
    else if held.contains i.rid then let q := s.hifFlush r held; (i :: q.1, q.2)
    else match i with
      | .answered _ rid _ bs po ref =>
        let q := s.hifFlush r held
        (q.1, { rid := rid, status := if ref then 2 else 0, ep := po, bytes := bs } :: q.2.1, q.2.2)
      | .edge _ v => (s.raiseEdge (4096 + v)).hifFlush r held
      | .read _ _ _ _ _ _ => let q := s.hifFlush r held; (i :: q.1, q.2)
      | .write _ _ _ _ _ _ _ => let q := s.hifFlush r held; (i :: q.1, q.2)

/-- Put back a queue after sending what may be sent. -/
def State.hifQueue (s : State) (l : List HifItem) : State :=
  let q := s.hifFlush l []
  let s1 := q.2.2
  { s1 with hif := { s1.hif with queue := q.1, sent := if q.2.1.isEmpty then s1.hif.sent else q.2.1 } }

/-- A read that faults in translation completes as UR (R625). -/
def State.sendCpl (s : State) (c : HifCpl) : State := { s with hif := { s.hif with sent := [c] } }

/-- A message write (R623, R624): it raises its source once the requester's earlier writes are performed, or is dropped and counted. -/
def State.messageWrite (s : State) (rid addr : Nat) (bytes : List Byte) : State :=
  let d := leWord bytes
  let m := s.reg (Reg.HIF_MSIMAP d)
  if bytes.length = 4 ∧ addr % 4 = 0 ∧ d < 4096 ∧ getF m F.HIF_MSIMAP_EN = 1 ∧ getF m F.HIF_MSIMAP_RID = rid then
    s.hifQueue (s.hif.queue ++ [.edge rid d])
  else s.bump Reg.HIF_MSGCNT F.HIF_MSGCNT_MSI 1

/-- An address in the message range. -/
def inMsgRange (a : Nat) : Bool := decide (msgBase ≤ a) && decide (a < msgBase + 0x1000)

/-- A root port takes in requests: its link is up and the host interface's endpoint is OPEN. -/
def State.takesIn (s : State) (p : Nat) : Bool := s.isRoot p && s.flag (Reg.HIF_PSTAT p) F.HIF_PSTAT_DLUP && s.epState epHif == epOpen

/-- INBOUND_REQUEST (R614, R620, R625, R628): a contained port discards it. The breakwater refuses at injection (code 3). -/
def execInboundRequest (p rid : Nat) (req : InReq) (s : State) : Res :=
  .next (if !s.takesIn p then s
  else if s.flag (Reg.HIF_PSTAT p) F.HIF_PSTAT_CONTAINED then s.bump (Reg.HIF_PCNT p) F.HIF_PCNT_DROP 1
  else match req with
    | .intx => s.bump Reg.HIF_MSGCNT F.HIF_MSGCNT_INTX 1
    | .unsupported => s.sendCpl { rid := rid, status := 1 }
    | .read a n => match s.rqXlate rid a n with
      | .error c => (s.inFault p rid a c).sendCpl { rid := rid, status := 1 }
      | .ok (k, pa) =>
        if s.engOk hifRouter (s.rqOwner k) pa n then { s with hif := { s.hif with queue := s.hif.queue ++ [.read p rid k a pa n] } }
        else ((s.engRefused hifRouter (s.rqOwner k) pa n false).inFault p rid a 3).hifQueue (s.hif.queue ++ [.answered p rid k [] false true])
    | .write a bs ep =>
      if inMsgRange a then s.messageWrite rid a bs
      else match s.rqXlate rid a bs.length with
        | .error c => s.inFault p rid a c
        | .ok (k, pa) =>
          if s.engOk hifRouter (s.rqOwner k) pa bs.length then { s with hif := { s.hif with queue := s.hif.queue ++ [.write p rid k a pa bs ep] } }
          else (s.engRefused hifRouter (s.rqOwner k) pa bs.length true).inFault p rid a 3)

/-- INBOUND_REQUEST_PERFORMED (R622, R625): the item at a place; a write only when no earlier write of its requester waits. It is logged at its bus address
in the owner's dirty log, DRAM or cast (R514, R622). -/
def execInboundRequestPerformed (idx : Nat) (s : State) : Res :=
  let l := s.hif.queue
  .next (match l[idx]? with
    | some (.read p rid k gpa pa n) =>
      if s.engAnswers hifRouter pa n then
        let q := s.engRead (s.rqOwner k) pa n
        q.2.2.hifQueue (l.set idx (.answered p rid k q.1 (q.2.1.any id) false))
      else ((s.bwLate hifRouter pa false).inFault p rid gpa 3).hifQueue (l.set idx (.answered p rid k [] false true))
    | some (.write p rid k gpa pa bs ep) =>
      if (l.take idx).any (fun i => i.isWrite && i.rid == rid) then s
      else if s.engAnswers hifRouter pa bs.length then
        let o := s.rqOwner k
        ((s.engWrite o pa bs (bs.map (fun _ => ep))).logGpa hifRouter o gpa bs.length).hifQueue (l.eraseIdx idx)
      else ((s.bwLate hifRouter pa true).inFault p rid gpa 3).hifQueue (l.eraseIdx idx)
    | _ => s)

/-- MESSAGE_WRITE (R623, R624). -/
def execMessageWrite (p rid addr : Nat) (bytes : List Byte) (s : State) : Res :=
  .next (if !s.takesIn p || !inMsgRange addr then s
  else if s.flag (Reg.HIF_PSTAT p) F.HIF_PSTAT_CONTAINED then s.bump (Reg.HIF_PCNT p) F.HIF_PCNT_DROP 1
  else s.messageWrite rid addr bytes)

end Sys2Proof.Machine
end

