-- ==== Sys2Proof/Machine/Package.lean ====
section
/-!
DEFINITION. Pins (chapter 25): trip outputs (R653 to R656), GPIO (R657), JTAG (R658), and the levels that the part drives on its control pins (R599, R649, R652).
-/
namespace Sys2Proof.Machine

/-! ### Levels of the pins -/

/-- The part is in reset: thermal halt, or a CHIP reset whose boot has not begun to act. -/
def State.inReset (s : State) : Bool := s.pwr.halt || s.pwr.warm.isSome

/-- TRIPk is driven low, permissive (R653); otherwise it is released. -/
def State.tripLow (s : State) (k : Nat) : Bool := decide (k < 16) && getB (s.reg Reg.CHIP_TRIPPERMIT) k

/-- PCIE_PERST_N of ×4 port `p`: some level while it is driven, none while high-impedance (R652). -/
def State.perst (s : State) (p : Nat) : Option Bool :=
  if s.hasPort p && s.domRun 222 && !s.inReset then some (s.flag (Reg.HIF_PCTL (rootOf (s.reg Reg.HIF_BIFCFG) p)) F.HIF_PCTL_ENABLE) else none

/-- The level the part drives on GPIOi; none for an input, and in reset (R649). GPIO14 is the pulse input and GPIO15 the pulse output while CHIP_TTPPS says so (R345, R657). -/
def State.gpioDriven (s : State) (i : Nat) : Option Bool :=
  if s.inReset = true then none
  else if i = 14 ∧ s.flag Reg.CHIP_TTPPS F.CHIP_TTPPS_PPSIN = true then none
  else if i = 15 ∧ s.flag Reg.CHIP_TTPPS F.CHIP_TTPPS_PPSOUT = true then some (decide (s.now < s.time.ppsEnd))
  else if getB (s.reg Reg.CHIP_GPIODIR) i then some (getB (s.reg Reg.CHIP_GPIOOUT) i)
  else none

/-- The IDCODE (R658). -/
def State.idcode (s : State) : Nat := s.fuse.stepping % 16 * 2 ^ 28 + s.fuse.part % 2 ^ 16 * 2 ^ 12 + 0x07A * 2 + 1

/-! ### Commands -/

/-- A write of CHIP_TRIPPERMIT (R653, R654): ignored while HOLD = 1 or a reset releases the outputs. -/
def State.writePermit (s : State) (off width : Nat) (v : Word) : State :=
  if s.flag Reg.CHIP_TRIPSTAT F.CHIP_TRIPSTAT_HOLD || s.inReset then s else s.writeReg off width v

/-- TRIPPERMIT_WRITE. -/
def execTrippermitWrite (value : Word) (s : State) : Res := .next (s.writePermit Reg.CHIP_TRIPPERMIT 8 value)

/-- TRIP_LAPSE (R654): TMO 15 never lapses. -/
def execTripLapse (s : State) : Res :=
  .next (if s.fld Reg.CHIP_TRIPCFG F.CHIP_TRIPCFG_TMO = 15 ∨ s.inReset = true then s
  else (s.setReg Reg.CHIP_TRIPPERMIT 0).setFlag Reg.CHIP_TRIPSTAT F.CHIP_TRIPSTAT_LAPSED true)

/-- TAP_INSTRUCTION (R658): the last three act as BYPASS unless COLD_RST_N is held low. -/
def execTapInstruction (mode : TapMode) (coldLow : Bool) (s : State) : Res :=
  .next { s with tap := match mode with
    | .extest => if coldLow then .extest else .bypass
    | .clamp => if coldLow then .clamp else .bypass
    | .highz => if coldLow then .highz else .bypass
    | .bypass => .bypass
    | .idcode => .idcode
    | .sample => .sample }

end Sys2Proof.Machine
end

