-- ==== Sys2Proof/Machine/Regs.lean ====
section
/-!
DEFINITION. Writes and reads of registers as commands of their own (R14 to R17). REGISTER_WRITE sets a register's fields by their access codes; where a
write of the register is a row of the table, or starts something, the write does what that row does.
-/
namespace Sys2Proof.Machine

/-- The state that a meaning leads to. -/
def orSame (s : State) (r : Res) : State := match r with | .next t => t | _ => s

/-- The bits of a register that a write which does not cover them keeps: those of its RW and RWL fields. -/
def keepMask : List FieldSpec → Word
  | [] => 0
  | f :: fs => (match f.acc with | .rw => f.fld.mask | .rwl => f.fld.mask | _ => 0) ||| keepMask fs

/-- The whole register value that a write brings to the register's own rule: the half it does not cover keeps its RW fields and writes 0 to the others. -/
def State.fullValue (s : State) (off width : Nat) (v : Word) : Word :=
  let a := off - off % 8
  if width = 4 then
    placeValue off 4 v ||| (s.reg a &&& ~~~ accessMask off 4 &&& (match regDef a with | some d => keepMask d.fields | none => 0))
  else v

/-- A bit of a value. -/
def has (v : Word) (f : Fld) : Bool := getF v f == 1

/-- A write that is ignored and noted in a bit: `bit` of register `r` is set. -/
def State.ignore (s : State) (r : Nat) (f : Fld) : State := s.setFlag r f true

/-! ### The chip, service, identity and partition blocks

Each takes the state after the write by access codes where the register follows them too, and answers `none` where the write by access codes is all. -/

/-- CHIP_TTADJ (R347): a 64-bit write, or one of the upper half, acts with the staged lower half; a write of the lower half stages it. -/
def State.writeTtadj (s : State) (off width : Nat) (v : Word) : State :=
  if width = 4 ∧ off % 8 = 0 then orSame s (execTtadjLowerHalf v.toNat s)
  else
    let full := if width = 4 then (v.toNat % 2 ^ 32) * 2 ^ 32 + s.time.stage else v.toNat
    s.ttAdjust (full % 2 ^ 48) (full / 2 ^ 48 % 2 == 1)

def State.hookChip (s g : State) (a off width : Nat) (v : Word) : State :=
  if a = Reg.CHIP_PACESTAT then orSame s (execFellClear v s)
  else if a = Reg.CHIP_HOMECTL then (if has v F.CHIP_HOMECTL_APPLY then orSame g (execHomesetApply g) else g)
  else if a = Reg.CHIP_PEBB then (if has v F.CHIP_PEBB_START then g.startPebb (getF v F.CHIP_PEBB_PART) else g)
  else if a = Reg.CHIP_DRAMCTL then (if has v F.CHIP_DRAMCTL_APPLY then orSame g (execDramctlApply g) else g)
  else if a = Reg.CHIP_TTCTL then (if width = 4 ∧ off % 8 = 4 then g else orSame s (execTtctlRoleWrite v s))
  else if a = Reg.CHIP_TTADJ then s.writeTtadj off width v
  else if a = Reg.CHIP_TTRATE then (if s.ttRole = 1 ∨ s.ttRole = 3 then s else g)
  else if a = Reg.CHIP_TRIPPERMIT then s.writePermit off width v
  else g

def State.hookSvc (s g : State) (a : Nat) (v : Word) : State :=
  if a = Reg.SVC_WDCTL then s.writeWdctl v
  else if a = Reg.SVC_WDKICK then s.writeWdkick v
  else if a = Reg.SVC_FLCMD then s.writeFlcmd v
  else if a = Reg.SVC_FUSECMD then s.writeFusecmd v
  else if Reg.SVC_CORECTL 0 ≤ a ∧ a < Reg.SVC_CORECTL 128 then s.writeCorectl ((a - Reg.SVC_CORECTL 0) / 8) v
  else g

def State.hookId (s g : State) (a : Nat) (v : Word) : State :=
  if a = Reg.ID_HMCMD then s.writeHmcmd v [] else if a = Reg.ID_CHALCMD then s.writeChalcmd v [] else g

def State.hookPrt (s g : State) (a off width : Nat) (v : Word) : State :=
  if a < 0x3_0800 then orSame s (execPrtPcfgWrite ((a - 0x3_0000) / 8) v s)
  else if a < 0x3_1000 then
    let p := (a - 0x3_0800) / 0x20
    if a % 0x20 = 0 then s.writeDlcfg p v else if s.flag (Reg.PRT_DLCFG p) F.PRT_DLCFG_EN then s else g
  else if a < 0x3_1600 then s.writeMemtok ((a - 0x3_1000) / 0x80) ((a - 0x3_1000) % 0x80 / 8) (if width = 4 ∧ off % 8 = 0 then 4 else 8) v
  else if a = Reg.PRT_PRST then orSame s (execPrtPrst v s)
  else g

/-! ### Routers, tiles and memory controllers -/

def State.hookRtr (s g : State) (a : Nat) (v : Word) : State :=
  let r := (a - 0x40_0000) / 0x1000
  let b := a % 0x1000
  if b = 0x18 then orSame s (execRtrTc0capWrite r v s)
  else if 0x100 ≤ b ∧ b < 0x120 then
    let k := 4 * r + (b - 0x100) / 8
    let g1 := if has v F.RTR_EPCTL_EBB then g.startEbb k else g
    let g2 := if has v F.RTR_EPCTL_REOPEN then g1.reopen k else g1
    if has v F.RTR_EPCTL_DECLARE then orSame g2 (execDeclare k g2) else g2
  else if 0x140 ≤ b ∧ b < 0x160 then orSame s (execRtrTc0bktWrite r ((b - 0x140) / 8) v s)
  else g

def State.hookTile (s g : State) (a : Nat) (v : Word) : State :=
  let t := (a - 0x0100_0000) / 0x1_0000
  let b := a % 0x1_0000
  if b = 0 then orSame s (execCastCountWrite (.left t) v s)
  else if b = 8 then orSame s (execCastCountWrite (.right t) v s)
  else if b = 0x5000 then orSame s (execCastCountWrite (.slc t) v s)
  else if b = 0x110 then g.mntSubmit false t (getF v F.TILE_MNTCMD_OP) (getF v F.TILE_MNTCMD_TAG)
  else if b = 0x5110 then g.mntSubmit true t (getF v F.SLC_MNTCMD_OP) (getF v F.SLC_MNTCMD_TAG)
  else g

/-- A GO of MC_PPRCTL (R319): whether the bank has a spare row left, and whether the row lies in the DIMM, the DIMM decides: free choices. -/
def State.pprGo (s : State) (m : Nat) (v : Word) : State :=
  let q := s.choose 2
  let p := q.2.choose 2
  p.2.startPpr m (getF v F.MC_PPRCTL_RANK) (has v F.MC_PPRCTL_KIND) (q.1 == 1) (p.1 == 1)

def State.hookMc (s g : State) (a : Nat) (v : Word) : State :=
  let m := (a - 0x0200_0000) / 0x10_0000
  let b := a % 0x10_0000
  if b = 0x20 then
    let g1 := if has v F.MC_TRAIN_DISCARD then g.discardSaved m else g
    if has v F.MC_TRAIN_START then (if has v F.MC_TRAIN_MODE then g1.trainResume m else g1.trainFull m) else g1
  else if b = 0x30 then (if has v F.MC_SPARE_START then g.startSparing m (getF v F.MC_SPARE_SRC) else g)
  else if b = 0x38 then (if has v F.MC_PPRCTL_GO then g.pprGo m v else g)
  else if b = 0x48 then (if s.flag (Reg.MC_TC0CTL m) F.MC_TC0CTL_EN then s.ignore (Reg.MC_TC0CTL m) F.MC_TC0CTL_WRREJ else g)
  else if b = 0x50 then orSame s (execMcTc0ctlWrite m v s)
  else if b = 0x60 then
    let was := s.flag (Reg.MC_PWRCTL m) F.MC_PWRCTL_SRREQ
    if has v F.MC_PWRCTL_SRREQ then (if was then s else orSame s (execSrreqSet m s))
    else if was then orSame s (execSrreqClear m s) else s
  else g

/-! ### Field engines -/

/-- The lanes' registers: `i` the local lane, `o` the offset in its block. -/
def State.hookLane (s g : State) (e i o : Nat) (v : Word) : State :=
  let l := 24 * e + i
  if o = 0 then orSame s (execFlnCtlWrite l v s)
  else if o = 0x18 then g.preemptCfg l
  else if o = 0x20 then (if has v F.FLN_GCLCTL_SWAP then orSame g (execGclSwap l g) else g)
  else if o = 0x130 then orSame s (execFlnTxeqWrite l v s)
  else g

/-- Tide table `k` may not be written now (R375). -/
def State.ttBusy (s : State) (e k : Nat) : Bool := s.ttState e k != 0 || s.flag (Reg.FE_TTCTL e k) F.FE_TTCTL_START

/-- FE_IMGIN, FE_IMGOUT, FE_IMGSIZE and FE_IMGBW while EN = 1 (R366): a write that would change them is ignored and noted. -/
def State.imgFixed (s g : State) (e i a : Nat) : State :=
  if s.imgOn e i then (if g.reg a = s.reg a then s else s.ignore (Reg.FE_STAT e) F.FE_STAT_WRREJ) else g

/-- The engine's own registers, images, stations and tables: `b` the offset in the engine's block. -/
def State.hookTide (s g : State) (e b a : Nat) (v : Word) : State :=
  let fix (k : Nat) : State := if s.ttBusy e k then s.ignore (Reg.FE_STAT e) F.FE_STAT_WRREJ else g
  if b = 0x10 then orSame s (execSubforceWrite e v s)
  else if 0x100 ≤ b ∧ b < 0x300 then
    let k := (b - 0x100) / 0x40
    let o := b % 0x40
    if o = 0 then s.writeTtctl e k v else if o < 0x20 then fix k else g
  else if 0x400 ≤ b ∧ b < 0x800 then
    let i := (b - 0x400) / 0x40
    let o := b % 0x40
    if o = 0 then s.writeImgcfg e i v
    else if o < 0x28 then s.imgFixed g e i a
    else if o = 0x30 then (if has v F.FE_IMGCTL_RESUME then orSame s (execImageResume e i s) else s)
    else g
  else if b = 0x32_0040 then (if has v F.STN_CMD_GO then orSame s (execStationCommit e (getF v F.STN_CMD_STATION) s) else g)
  else if 0x40_0000 ≤ b ∧ b < 0x50_0000 then fix ((b - 0x40_0000) / 0x2_0000)
  else g

/-- The set-up registers of local function `f` (R391): `o` the offset in its block. -/
def State.hookFn (s g : State) (e f o width off : Nat) (v : Word) : State :=
  let w := if width = 4 ∧ off % 8 = 0 then 4 else 8
  if o = 0 then s.writeFncfg e f v
  else if o = 0x18 then s.writeShape e f true w v
  else if o = 0x20 then s.writeShape e f false w v
  else if o = 0x10 ∨ (0x28 ≤ o ∧ o < 0x50) ∨ (0x60 ≤ o ∧ o < 0xC0) then
    (if s.fnState e f = 0 then g else s.ignore (Reg.FE_FNSTAT e f) F.FE_FNSTAT_WRREJ)
  else if 0xC0 ≤ o then orSame s (execFilterWrite e f ((o - 0xC0) / 8) v s)
  else g

/-- The doorbell page of local function `f` (R395): `o` the offset in it. -/
def State.hookFnPage (s g : State) (e f o : Nat) (v : Word) : State :=
  if o = 0 then s.writeTail e f 0 v.toNat
  else if 0x40 ≤ o ∧ o < 0xC0 ∧ o % 0x20 = 0 then s.writeTail e f ((o - 0x40) / 0x20 + 1) v.toNat
  else if o = 0x118 then s.fnUnmask e f v
  else g

def State.hookFe (s g : State) (a off width : Nat) (v : Word) : State :=
  let e := (a - 0x0300_0000) / 0x100_0000
  let b := a % 0x100_0000
  if 0x10_0000 ≤ b ∧ b < 0x10_6000 then
    (if b % 0x1000 = 0 then orSame s (execFlnQctlWrite (6 * e + (b - 0x10_0000) / 0x1000) v s) else g)
  else if 0x20_0000 ≤ b ∧ b < 0x21_8000 then s.hookLane g e ((b - 0x20_0000) / 0x1000) (b % 0x1000) v
  else if 0x60_0000 ≤ b ∧ b < 0x60_8000 then s.hookFn g e ((b - 0x60_0000) / 0x100) (b % 0x100) width off v
  else if 0x80_0000 ≤ b ∧ b < 0x88_0000 then s.hookFnPage g e ((b - 0x80_0000) / 0x1000) (b % 0x1000) v
  else s.hookTide g e b a v

/-! ### Ladle engines -/

/-- LDL_DBSTAT (R449): POISON clears in both copies. -/
def State.writeDbstat (s : State) (l c : Nat) (v : Word) : State :=
  let s1 := if has v F.LDL_DBSTAT_DBERR then s.setFlag (Reg.LDL_DBSTAT l c) F.LDL_DBSTAT_DBERR false else s
  if has v F.LDL_DBSTAT_POISON then s1.setFlag (Reg.LDL_CHSTAT l c) F.LDL_CHSTAT_POISON false else s1

def State.hookLdl (s g : State) (a : Nat) (v : Word) : State :=
  let l := (a - 0x0500_0000) / 0x10_0000
  let b := a % 0x10_0000
  if b = 0x08 then orSame s (execEventFlagWrite l none false v s)
  else if b = 0x10 then orSame s (execEventFlagWrite l none true v s)
  else if 0x1000 ≤ b ∧ b < 0x3000 then
    let c := (b - 0x1000) / 0x100
    let o := b % 0x100
    if o = 0 then s.writeChcfg l c v
    else if 0x40 ≤ o ∧ o < 0xA0 then (if s.chState l c = chDisabled then g else s.ignore (Reg.LDL_CHSTAT l c) F.LDL_CHSTAT_WRREJ)
    else g
  else if 0x8_0000 ≤ b ∧ b < 0xA_0000 then
    let c := (b - 0x8_0000) / 0x1000
    let o := b % 0x1000
    if o = 0x08 then s.writeDbcmd l c v
    else if o = 0x10 then s.writeDbstat l c v
    else if o = 0x40 then s.ldlUnmask l c v
    else if o = 0x50 then orSame s (execEventFlagWrite l (some c) false v s)
    else if o = 0x58 then orSame s (execEventFlagWrite l (some c) true v s)
    else if 0x80 ≤ o ∧ o < 0xC0 then s.writeDbreg l c ((o - 0x80) / 8) 8 v
    else g
  else g

/-! ### The distributor, power, host interface and error blocks -/

def State.hookIrq (s g : State) (a : Nat) (v : Word) : State :=
  let b := a - 0x0600_0000
  if b = 0 then orSame s (execIrqCtlWrite v s)
  else if b = 0x28 then (if has v F.IRQ_PDISC_GO then orSame s (execIrqPdisc (getF v F.IRQ_PDISC_PART) s) else g)
  else if 0x1000 ≤ b ∧ b < 0x1400 then orSame s (execIrqEnset ((b - 0x1000) / 4) v 8 s)
  else if 0x1400 ≤ b ∧ b < 0x1800 then orSame s (execIrqEnclr ((b - 0x1400) / 4) v 8 s)
  else if 0x1800 ≤ b ∧ b < 0x1C00 then orSame s (execIrqPendset ((b - 0x1800) / 4) v 8 s)
  else if 0x1C00 ≤ b ∧ b < 0x2000 then orSame s (execIrqPendclr ((b - 0x1C00) / 4) v 8 s)
  else if 0x2000 ≤ b ∧ b < 0x2400 then orSame s (execIrqVcoreWrite ((b - 0x2000) / 8) v s)
  else if 0x2800 ≤ b ∧ b < 0x3000 then
    let p := (b - 0x2800) / 0x20
    (match b % 0x20 with
     | 0 => orSame s (execIrqPtbaseWrite p v s)
     | 0x10 => orSame s (execIrqPttailWrite p v s)
     | _ => g)
  else if 0x10_0000 ≤ b ∧ b < 0x11_0000 then orSame s (execIrqCfgWrite ((b - 0x10_0000) / 8) v s)
  else if 0x80_0000 ≤ b ∧ b < 0x88_0000 ∧ b % 0x1000 = 0 then orSame s (execIrqSwsend ((b - 0x80_0000) / 0x1000) v s)
  else g

/-- PWR_CHIPCTL here takes its W1C fields; a REQ comes from a core and has rows of its own. -/
def State.hookPwr (s g : State) (a : Nat) (v : Word) : State :=
  if a = Reg.PWR_AVSCTL then s.writeAvsctl v
  else if 0x0700_1000 ≤ a ∧ a < 0x0700_1708 then s.writeDom ((a - 0x0700_1000) / 8) v
  else g

def State.hookHif (s g : State) (a : Nat) (v : Word) : State :=
  let b := a - 0x0800_0000
  if b = 0 then s.writeBifcfg v
  else if 0x1000 ≤ b ∧ b < 0x1800 then
    let p := (b - 0x1000) / 0x100
    if !s.isRoot p then s else if b % 0x100 = 0 then s.writePctl p v else g
  else if 0x1_0000 ≤ b ∧ b < 0x2_0000 then
    let k := (b - 0x1_0000) / 0x100
    if b % 0x100 = 0 then s.writeRqcfg k v else if s.flag (Reg.HIF_RQCFG k) F.HIF_RQCFG_EN then s else g
  else g

def State.hookErr (s g : State) (a : Nat) (v : Word) : State :=
  if a = Reg.ERR_LOGTAIL then orSame s (execErrLogtailWrite v s)
  else if a = Reg.ERR_STCTL then (if has v F.ERR_STCTL_GO then orSame g (execSelfTestGo (getF v F.ERR_STCTL_UNIT) g) else g)
  else if a = Reg.ERR_INJCTL then
    let g1 := if has v F.ERR_INJCTL_CANCEL then g.disarm else g
    if has v F.ERR_INJCTL_ARM then orSame s (execErrInjArm v (if has v F.ERR_INJCTL_CANCEL then s.disarm else s)) else g1
  else g

/-! ### The two commands -/

/-- A write that has reached its register. -/
def State.ctlWrite (s : State) (off width : Nat) (v : Word) : State :=
  let a := off - off % 8
  let g := s.writeReg off width v
  let f := s.fullValue off width v
  if a < 0x1_0000 then s.hookChip g a off width (if a = Reg.CHIP_TTADJ ∨ a = Reg.CHIP_TRIPPERMIT then v else f)
  else if a < 0x2_0000 then s.hookSvc g a f
  else if a < 0x3_0000 then s.hookId g a f
  else if a < 0x40_0000 then s.hookPrt g a off width f
  else if a < 0x45_0000 then s.hookRtr g a f
  else if a < 0x0100_0000 then g
  else if a < 0x0200_0000 then s.hookTile g a f
  else if a < 0x0300_0000 then s.hookMc g a f
  else if a < 0x0500_0000 then s.hookFe g a off width f
  else if a < 0x0600_0000 then s.hookLdl g a f
  else if a < 0x0700_0000 then s.hookIrq g a f
  else if a < 0x0800_0000 then s.hookPwr g a f
  else if a < 0x0900_0000 then s.hookHif g a f
  else if a < 0x1000_0000 then s.hookErr g a f
  else s.cfgWrite off width v

/-- Whether an access of a width reaches a register at an offset (R7, R28, R33): the unit is present and answers, and the access has a width and place that
control space takes. -/
def State.ctlReached (s : State) (off width : Nat) : Bool :=
  (width == 4 || width == 8) && off % width == 0 && s.offPresent off &&
    (alwaysUp off || s.answers (epOfOff off)) && s.quadUp off

/-- REGISTER_WRITE (R14): the write of a control-space register, or of a CSR that the core may write. A write to an absent unit, or that the breakwater
absorbs, changes nothing (R7, R33); so does one to a reserved offset (R17). -/
def execRegisterWrite (target : WriteTo) (value : Word) (s : State) : Res :=
  match target with
  | .control off width =>
    if offDecoded off then .next (if s.ctlReached off width then s.ctlWrite off width value else s)
    else .fault (.undecoded off)
  | .csr core num =>
    .next (if s.hasCore core && (s.core core).run == .run && (s.csrTrap core num true value 0).isNone then s.csrPerform core num value else s)

/-- RC_COUNTER_READ (R14, R15): the value is returned and the RC fields that the read covers are cleared. Events that come in the same instant are counted
once: in the value returned or in the value that remains, a free choice. -/
def execRcCounterRead (off width lo concurrent : Nat) (s : State) : Res :=
  if offDecoded off then
    .next (if s.ctlReached off width then
      let a := off - off % 8
      let f : Option FieldSpec := (match regDef a with | some d => d.fields.find? (fun f => f.fld.lo == lo && f.acc == .rc) | none => none)
      let q := s.choose 2
      let inc (s : State) : State := match f with | some f => if concurrent = 0 then s else s.bump a f.fld concurrent | none => s
      let early := f.isSome && concurrent != 0 && q.1 == 0
      let s0 := if f.isSome && concurrent != 0 then q.2 else s
      let r := (if early then inc s0 else s0).readCtl off width
      let s1 := if early then r.2 else inc r.2
      { s1 with lastRead := r.1 }
    else s)
  else .fault (.undecoded off)

end Sys2Proof.Machine
end

