-- ==== Sys2Proof/Machine/Dispatch.lean ====
section
/-!
DEFINITION. The dispatch: one arm per command, each a direct call of its meaning.
-/
namespace Sys2Proof.Machine

def exec (i : Instr) (s : State) : Host.Outcome State Fault Refusal :=
  match i with
  | .registerWrite target value => Sys2Proof.Machine.execRegisterWrite target value s
  | .rcCounterRead off width lo concurrent => Sys2Proof.Machine.execRcCounterRead off width lo concurrent s
  | .instructionIssue core op len env => Sys2Proof.Machine.execInstructionIssue core op len env s
  | .load core dest rs1 off width sx len fill checks => Sys2Proof.Machine.execLoad core dest rs1 off width sx len fill checks s
  | .loadComplete core idx ans step => Sys2Proof.Machine.execLoadComplete core idx ans step s
  | .store core rs1 rs2 fp off width len fill checks => Sys2Proof.Machine.execStore core rs1 rs2 fp off width len fill checks s
  | .storeDrain core => Sys2Proof.Machine.execStoreDrain core s
  | .storeBufferEntryLeave core badBytes => Sys2Proof.Machine.execStoreBufferEntryLeave core badBytes s
  | .deviceStoreAcknowledge core => Sys2Proof.Machine.execDeviceStoreAcknowledge core s
  | .amo core op rd rs1 rs2 width fill => Sys2Proof.Machine.execAmo core op rd rs1 rs2 width fill s
  | .lr core rd rs1 width fill => Sys2Proof.Machine.execLr core rd rs1 width fill s
  | .sc core rd rs1 rs2 width fill => Sys2Proof.Machine.execSc core rd rs1 rs2 width fill s
  | .vectorMemoryAccess core kind isStore masked vd rs1 eew enc fill => Sys2Proof.Machine.execVectorMemoryAccess core kind isStore masked vd rs1 eew enc fill s
  | .fence core => Sys2Proof.Machine.execFence core s
  | .fenceI core => Sys2Proof.Machine.execFenceI core s
  | .ecall core => Sys2Proof.Machine.execEcall core s
  | .ebreak core => Sys2Proof.Machine.execEbreak core s
  | .csrInstruction core op csr rd rs1 => Sys2Proof.Machine.execCsrInstruction core op csr rd rs1 s
  | .tret core => Sys2Proof.Machine.execTret core s
  | .hlt core => Sys2Proof.Machine.execHlt core s
  | .pauseSlack core => Sys2Proof.Machine.execPauseSlack core s
  | .tlbw core rs1 rs2 => Sys2Proof.Machine.execTlbw core rs1 rs2 s
  | .tlbp core rd rs1 => Sys2Proof.Machine.execTlbp core rd rs1 s
  | .tlbi core rs1 rs2 => Sys2Proof.Machine.execTlbi core rs1 rs2 s
  | .tlbib core rs1 rs2 => Sys2Proof.Machine.execTlbib core rs1 rs2 s
  | .tlbibReceipt core inv => Sys2Proof.Machine.execTlbibReceipt core inv s
  | .tlbibComplete core acker => Sys2Proof.Machine.execTlbibComplete core acker s
  | .twp core rd rs1 rs2 bad => Sys2Proof.Machine.execTwp core rd rs1 rs2 bad s
  | .s2w core rs1 rs2 => Sys2Proof.Machine.execS2w core rs1 rs2 s
  | .monitorSample mv hot router => Sys2Proof.Machine.execMonitorSample mv hot router s
  | .streamBSwitch => Sys2Proof.Machine.execStreamBSwitch s
  | .synthLock b => Sys2Proof.Machine.execSynthLock b s
  | .synthLossOfLock b => Sys2Proof.Machine.execSynthLossOfLock b s
  | .systemReferenceStop => Sys2Proof.Machine.execSystemReferenceStop s
  | .systemReferenceReturn => Sys2Proof.Machine.execSystemReferenceReturn s
  | .fellClear value => Sys2Proof.Machine.execFellClear value s
  | .paceSwitch core op rd rs1 => Sys2Proof.Machine.execPaceSwitch core op rd rs1 s
  | .paceSwitchComplete core mcStore => Sys2Proof.Machine.execPaceSwitchComplete core mcStore s
  | .paceSlip core lost => Sys2Proof.Machine.execPaceSlip core lost s
  | .pairEntry core => Sys2Proof.Machine.execPairEntry core s
  | .pairEntryComplete tile => Sys2Proof.Machine.execPairEntryComplete tile s
  | .pairExit core => Sys2Proof.Machine.execPairExit core s
  | .hSpecctlWrite core value => Sys2Proof.Machine.execHSpecctlWrite core value s
  | .predctlInval core => Sys2Proof.Machine.execPredctlInval core s
  | .predctlInvalComplete core => Sys2Proof.Machine.execPredctlInvalComplete core s
  | .predctlRegen core => Sys2Proof.Machine.execPredctlRegen core s
  | .regenintExpire core => Sys2Proof.Machine.execRegenintExpire core s
  | .keyRegenerationEffect core => Sys2Proof.Machine.execKeyRegenerationEffect core s
  | .timerCompareReached core h => Sys2Proof.Machine.execTimerCompareReached core h s
  | .interruptRecognition core => Sys2Proof.Machine.execInterruptRecognition core s
  | .entryTakeover core => Sys2Proof.Machine.execEntryTakeover core s
  | .entryPointOfNoReturn core => Sys2Proof.Machine.execEntryPointOfNoReturn core s
  | .entryComplete core => Sys2Proof.Machine.execEntryComplete core s
  | .castCountWrite reg value => Sys2Proof.Machine.execCastCountWrite reg value s
  | .castChangeComplete reg => Sys2Proof.Machine.execCastChangeComplete reg s
  | .mntClean slice t tag => Sys2Proof.Machine.execMntClean slice t tag s
  | .mntInvalidate slice t tag => Sys2Proof.Machine.execMntInvalidate slice t tag s
  | .mntCleanAndInvalidate slice t tag => Sys2Proof.Machine.execMntCleanAndInvalidate slice t tag s
  | .mntZero slice t tag => Sys2Proof.Machine.execMntZero slice t tag s
  | .mntRequestComplete slice t => Sys2Proof.Machine.execMntRequestComplete slice t s
  | .homeRds h line core n part env => Sys2Proof.Machine.execHomeRds h line core n part env s
  | .homeRdx h line core n part env => Sys2Proof.Machine.execHomeRdx h line core n part env s
  | .homeUpg h line core n part env => Sys2Proof.Machine.execHomeUpg h line core n part env s
  | .homeEvc h line core => Sys2Proof.Machine.execHomeEvc h line core s
  | .homeEvd h line core data poison => Sys2Proof.Machine.execHomeEvd h line core data poison s
  | .homeDevrd h line src part env => Sys2Proof.Machine.execHomeDevrd h line src part env s
  | .homeDevwr h line src mask data poison part env => Sys2Proof.Machine.execHomeDevwr h line src mask data poison part env s
  | .homeInvack h line core => Sys2Proof.Machine.execHomeInvack h line core s
  | .homeData h line core data poison dirty => Sys2Proof.Machine.execHomeData h line core data poison dirty s
  | .homePrbReport h set core => Sys2Proof.Machine.execHomePrbReport h set core s
  | .l2Snpf h line core req lost => Sys2Proof.Machine.execL2Snpf h line core req lost s
  | .l2Snpx h line core req lost => Sys2Proof.Machine.execL2Snpx h line core req lost s
  | .l2Snpi h line core => Sys2Proof.Machine.execL2Snpi h line core s
  | .l2Snpd h line core lost => Sys2Proof.Machine.execL2Snpd h line core lost s
  | .l2Snpr h line core lost => Sys2Proof.Machine.execL2Snpr h line core lost s
  | .l2Prb h set core => Sys2Proof.Machine.execL2Prb h set core s
  | .l2Data core line granted data poison => Sys2Proof.Machine.execL2Data core line granted data poison s
  | .l2Grant core line => Sys2Proof.Machine.execL2Grant core line s
  | .l2Evictack core line => Sys2Proof.Machine.execL2Evictack core line s
  | .l2Retry core line hint => Sys2Proof.Machine.execL2Retry core line hint s
  | .retryResend core line => Sys2Proof.Machine.execRetryResend core line s
  | .homesetApply => Sys2Proof.Machine.execHomesetApply s
  | .homesetChangeComplete => Sys2Proof.Machine.execHomesetChangeComplete s
  | .flitReceive r l cls headerOk dataOk => Sys2Proof.Machine.execFlitReceive r l cls headerOk dataOk s
  | .linkNak r l => Sys2Proof.Machine.execLinkNak r l s
  | .retryWindowClose r l => Sys2Proof.Machine.execRetryWindowClose r l s
  | .injectionBucketAccrual => Sys2Proof.Machine.execInjectionBucketAccrual s
  | .tc0Admit ep => Sys2Proof.Machine.execTc0Admit ep s
  | .linkMonitorAccrual => Sys2Proof.Machine.execLinkMonitorAccrual s
  | .rtrTc0bktWrite r e value => Sys2Proof.Machine.execRtrTc0bktWrite r e value s
  | .rtrTc0capWrite r value => Sys2Proof.Machine.execRtrTc0capWrite r value s
  | .ebb ep => Sys2Proof.Machine.execEbb ep s
  | .reopen ep => Sys2Proof.Machine.execReopen ep s
  | .declare ep => Sys2Proof.Machine.execDeclare ep s
  | .fenceMapBroadcast r ep state => Sys2Proof.Machine.execFenceMapBroadcast r ep state s
  | .markerSend r ep => Sys2Proof.Machine.execMarkerSend r ep s
  | .markerArrive r ep cls => Sys2Proof.Machine.execMarkerArrive r ep cls s
  | .ebbTimeout ep => Sys2Proof.Machine.execEbbTimeout ep s
  | .responseTimeout ep => Sys2Proof.Machine.execResponseTimeout ep s
  | .partitionEbbStart part => Sys2Proof.Machine.execPartitionEbbStart part s
  | .partitionEbbDone => Sys2Proof.Machine.execPartitionEbbDone s
  | .partitionEbbTimeout => Sys2Proof.Machine.execPartitionEbbTimeout s
  | .trainFull m => Sys2Proof.Machine.execTrainFull m s
  | .trainResume m => Sys2Proof.Machine.execTrainResume m s
  | .trainDiscard m => Sys2Proof.Machine.execTrainDiscard m s
  | .trainingComplete m ok => Sys2Proof.Machine.execTrainingComplete m ok s
  | .resumeComplete m ok => Sys2Proof.Machine.execResumeComplete m ok s
  | .srreqSet m => Sys2Proof.Machine.execSrreqSet m s
  | .selfRefreshEntered m => Sys2Proof.Machine.execSelfRefreshEntered m s
  | .srreqClear m => Sys2Proof.Machine.execSrreqClear m s
  | .dramctlApply => Sys2Proof.Machine.execDramctlApply s
  | .mcRead m addr err loc charge cyclic => Sys2Proof.Machine.execMcRead m addr err loc charge cyclic s
  | .mirrorSecondaryRead m addr err loc => Sys2Proof.Machine.execMirrorSecondaryRead m addr err loc s
  | .mcWrite m addr data poison charge => Sys2Proof.Machine.execMcWrite m addr data poison charge s
  | .demandScrubWrite m addr => Sys2Proof.Machine.execDemandScrubWrite m addr s
  | .patrolRead m err loc => Sys2Proof.Machine.execPatrolRead m err loc s
  | .refresh m => Sys2Proof.Machine.execRefresh m s
  | .sparingStart m src => Sys2Proof.Machine.execSparingStart m src s
  | .sparingCopyComplete m => Sys2Proof.Machine.execSparingCopyComplete m s
  | .sppr m rank noSpare outside => Sys2Proof.Machine.execSppr m rank noSpare outside s
  | .hppr m rank noSpare outside => Sys2Proof.Machine.execHppr m rank noSpare outside s
  | .pprComplete m => Sys2Proof.Machine.execPprComplete m s
  | .tc0WindowOpen m => Sys2Proof.Machine.execTc0WindowOpen m s
  | .tc0WindowClose m => Sys2Proof.Machine.execTc0WindowClose m s
  | .mcTc0ctlWrite m value => Sys2Proof.Machine.execMcTc0ctlWrite m value s
  | .alertN m writes => Sys2Proof.Machine.execAlertN m writes s
  | .writeCrcError m writes => Sys2Proof.Machine.execWriteCrcError m writes s
  | .flnQctlWrite quad value => Sys2Proof.Machine.execFlnQctlWrite quad value s
  | .flnCtlWrite lane value => Sys2Proof.Machine.execFlnCtlWrite lane value s
  | .quadReferenceChange quad ok => Sys2Proof.Machine.execQuadReferenceChange quad ok s
  | .anResolve lane ok => Sys2Proof.Machine.execAnResolve lane ok s
  | .linkTrainingComplete lane => Sys2Proof.Machine.execLinkTrainingComplete lane s
  | .linkTrainingTimeout lane => Sys2Proof.Machine.execLinkTrainingTimeout lane s
  | .blockLock lane => Sys2Proof.Machine.execBlockLock lane s
  | .holdExpire lane => Sys2Proof.Machine.execHoldExpire lane s
  | .lockLoss lane cause => Sys2Proof.Machine.execLockLoss lane cause s
  | .remoteFault lane on => Sys2Proof.Machine.execRemoteFault lane on s
  | .frameReceive lane bytes fcsOk => Sys2Proof.Machine.execFrameReceive lane bytes fcsOk s
  | .frameTransmitEnd lane stamp fragment => Sys2Proof.Machine.execFrameTransmitEnd lane stamp fragment s
  | .gateIntervalEnd lane => Sys2Proof.Machine.execGateIntervalEnd lane s
  | .gclSwap lane => Sys2Proof.Machine.execGclSwap lane s
  | .gclTakeover lane => Sys2Proof.Machine.execGclTakeover lane s
  | .verifyComplete lane ok => Sys2Proof.Machine.execVerifyComplete lane ok s
  | .flnTxeqWrite lane value => Sys2Proof.Machine.execFlnTxeqWrite lane value s
  | .ttadjStep offset => Sys2Proof.Machine.execTtadjStep offset s
  | .ttadjSlew offset => Sys2Proof.Machine.execTtadjSlew offset s
  | .ttadjLowerHalf value => Sys2Proof.Machine.execTtadjLowerHalf value s
  | .slewEnd => Sys2Proof.Machine.execSlewEnd s
  | .ttctlRoleWrite value => Sys2Proof.Machine.execTtctlRoleWrite value s
  | .servoMeasurement lane offset => Sys2Proof.Machine.execServoMeasurement lane offset s
  | .ppsEdge => Sys2Proof.Machine.execPpsEdge s
  | .measurementMissing => Sys2Proof.Machine.execMeasurementMissing s
  | .ppsOutput => Sys2Proof.Machine.execPpsOutput s
  | .syncTransmit lane => Sys2Proof.Machine.execSyncTransmit lane s
  | .pdelayReqTransmit lane => Sys2Proof.Machine.execPdelayReqTransmit lane s
  | .gptpMessageReceive lane msg => Sys2Proof.Machine.execGptpMessageReceive lane msg s
  | .stationCommit e station => Sys2Proof.Machine.execStationCommit e station s
  | .stationCommitComplete e => Sys2Proof.Machine.execStationCommitComplete e s
  | .tideFrameInput lane bytes bad stamp => Sys2Proof.Machine.execTideFrameInput lane bytes bad stamp s
  | .inputWriteRefused e station => Sys2Proof.Machine.execInputWriteRefused e station s
  | .ttStart e k bev => Sys2Proof.Machine.execTtStart e k bev s
  | .ttStartCheckDone e k => Sys2Proof.Machine.execTtStartCheckDone e k s
  | .ttStop e k bev => Sys2Proof.Machine.execTtStop e k bev s
  | .ttAbort e k bev => Sys2Proof.Machine.execTtAbort e k bev s
  | .ttBoundary e k => Sys2Proof.Machine.execTtBoundary e k s
  | .ttSend e k => Sys2Proof.Machine.execTtSend e k s
  | .sendOutputReadReturn e bad => Sys2Proof.Machine.execSendOutputReadReturn e bad s
  | .ttExpect e k => Sys2Proof.Machine.execTtExpect e k s
  | .ttEvent e k => Sys2Proof.Machine.execTtEvent e k s
  | .ttLadle e k => Sys2Proof.Machine.execTtLadle e k s
  | .ttFlip e k => Sys2Proof.Machine.execTtFlip e k s
  | .flipComplete e image => Sys2Proof.Machine.execFlipComplete e image s
  | .ttSync e k => Sys2Proof.Machine.execTtSync e k s
  | .ttNop e k => Sys2Proof.Machine.execTtNop e k s
  | .lifeSign e core image off width value part => Sys2Proof.Machine.execLifeSign e core image off width value part s
  | .imageResume e image => Sys2Proof.Machine.execImageResume e image s
  | .imageEnable e image value => Sys2Proof.Machine.execImageEnable e image value s
  | .subforceWrite e value => Sys2Proof.Machine.execSubforceWrite e value s
  | .functionEnable e f value => Sys2Proof.Machine.execFunctionEnable e f value s
  | .functionQuiesce e f value => Sys2Proof.Machine.execFunctionQuiesce e f value s
  | .quiesceComplete e f => Sys2Proof.Machine.execQuiesceComplete e f s
  | .functionDisable e f value => Sys2Proof.Machine.execFunctionDisable e f value s
  | .txTailWrite e f value => Sys2Proof.Machine.execTxTailWrite e f value s
  | .rxTailWrite e f ring value => Sys2Proof.Machine.execRxTailWrite e f ring value s
  | .descriptorRead e f ring bad => Sys2Proof.Machine.execDescriptorRead e f ring bad s
  | .txFrameAdmit e f => Sys2Proof.Machine.execTxFrameAdmit e f s
  | .txFrameComplete e f bad => Sys2Proof.Machine.execTxFrameComplete e f bad s
  | .rxFrameWriteComplete e f bad => Sys2Proof.Machine.execRxFrameWriteComplete e f bad s
  | .ringInterruptTimer e f ring => Sys2Proof.Machine.execRingInterruptTimer e f ring s
  | .vectorUnmask ladle e n mask => Sys2Proof.Machine.execVectorUnmask ladle e n mask s
  | .filterWrite e f k value => Sys2Proof.Machine.execFilterWrite e f k value s
  | .directMessage core src prio num => Sys2Proof.Machine.execDirectMessage core src prio num s
  | .mailboxDataStore e core off width value part => Sys2Proof.Machine.execMailboxDataStore e core off width value part s
  | .mailboxSend e core lane value part => Sys2Proof.Machine.execMailboxSend e core lane value part s
  | .deadlineExpire lane => Sys2Proof.Machine.execDeadlineExpire lane s
  | .channelEnable l c value => Sys2Proof.Machine.execChannelEnable l c value s
  | .channelDisable l c value => Sys2Proof.Machine.execChannelDisable l c value s
  | .managerStop l c value => Sys2Proof.Machine.execManagerStop l c value s
  | .channelAbort l c value => Sys2Proof.Machine.execChannelAbort l c value s
  | .stoptmoExpire l c => Sys2Proof.Machine.execStoptmoExpire l c s
  | .abortComplete l c written => Sys2Proof.Machine.execAbortComplete l c written s
  | .doorbellStart l c => Sys2Proof.Machine.execDoorbellStart l c s
  | .doorbellStop l c => Sys2Proof.Machine.execDoorbellStop l c s
  | .doorbellResume l c => Sys2Proof.Machine.execDoorbellResume l c s
  | .doorbellClear l c => Sys2Proof.Machine.execDoorbellClear l c s
  | .dbregWrite l c r width value => Sys2Proof.Machine.execDbregWrite l c r width value s
  | .channelEnterFlight l => Sys2Proof.Machine.execChannelEnterFlight l s
  | .programFetch l c bad => Sys2Proof.Machine.execProgramFetch l c bad s
  | .move l c => Sys2Proof.Machine.execMove l c s
  | .fill l c => Sys2Proof.Machine.execFill l c s
  | .loop l c => Sys2Proof.Machine.execLoop l c s
  | .next l c => Sys2Proof.Machine.execNext l c s
  | .wait l c => Sys2Proof.Machine.execWait l c s
  | .waitMet l c => Sys2Proof.Machine.execWaitMet l c s
  | .signalSetf l c => Sys2Proof.Machine.execSignalSetf l c s
  | .signalClrf l c => Sys2Proof.Machine.execSignalClrf l c s
  | .signalVector l c => Sys2Proof.Machine.execSignalVector l c s
  | .signalWrite l c => Sys2Proof.Machine.execSignalWrite l c s
  | .setImm l c => Sys2Proof.Machine.execSetImm l c s
  | .setAdd l c => Sys2Proof.Machine.execSetAdd l c s
  | .setLoad l c => Sys2Proof.Machine.execSetLoad l c s
  | .setAnd l c => Sys2Proof.Machine.execSetAnd l c s
  | .setXor l c => Sys2Proof.Machine.execSetXor l c s
  | .endProgram l c => Sys2Proof.Machine.execEndProgram l c s
  | .ladleInstructionComplete l c env => Sys2Proof.Machine.execLadleInstructionComplete l c env s
  | .eventFlagWrite l page clr mask => Sys2Proof.Machine.execEventFlagWrite l page clr mask s
  | .sourceEdge src => Sys2Proof.Machine.execSourceEdge src s
  | .sourceLineChange src level => Sys2Proof.Machine.execSourceLineChange src level s
  | .irqPendset w mask width => Sys2Proof.Machine.execIrqPendset w mask width s
  | .irqPendclr w mask width => Sys2Proof.Machine.execIrqPendclr w mask width s
  | .irqEnset w mask width => Sys2Proof.Machine.execIrqEnset w mask width s
  | .irqEnclr w mask width => Sys2Proof.Machine.execIrqEnclr w mask width s
  | .irqCfgWrite src value => Sys2Proof.Machine.execIrqCfgWrite src value s
  | .irqCtlWrite value => Sys2Proof.Machine.execIrqCtlWrite value s
  | .offer core code src prio num => Sys2Proof.Machine.execOffer core code src prio num s
  | .withdraw core src => Sys2Proof.Machine.execWithdraw core src s
  | .acceptance core code src num => Sys2Proof.Machine.execAcceptance core code src num s
  | .withdrawAcknowledgement core src => Sys2Proof.Machine.execWithdrawAcknowledgement core src s
  | .edgeNote src num => Sys2Proof.Machine.execEdgeNote src num s
  | .offerRefused core code => Sys2Proof.Machine.execOfferRefused core code s
  | .postingWriteAck part ok => Sys2Proof.Machine.execPostingWriteAck part ok s
  | .irqVcoreWrite core value => Sys2Proof.Machine.execIrqVcoreWrite core value s
  | .irqPdisc part => Sys2Proof.Machine.execIrqPdisc part s
  | .irqSwsend page value => Sys2Proof.Machine.execIrqSwsend page value s
  | .irqPttailWrite part value => Sys2Proof.Machine.execIrqPttailWrite part value s
  | .irqPtbaseWrite part value => Sys2Proof.Machine.execIrqPtbaseWrite part value s
  | .prtPcfgWrite part value => Sys2Proof.Machine.execPrtPcfgWrite part value s
  | .dirtyLogUpdate part page ok => Sys2Proof.Machine.execDirtyLogUpdate part page ok s
  | .dirtyLogSwap part => Sys2Proof.Machine.execDirtyLogSwap part s
  | .dirtyLogEnable part value => Sys2Proof.Machine.execDirtyLogEnable part value s
  | .prtPrst value => Sys2Proof.Machine.execPrtPrst value s
  | .partResetReceipt part core => Sys2Proof.Machine.execPartResetReceipt part core s
  | .partResetDone core => Sys2Proof.Machine.execPartResetDone core s
  | .memoryTokenAccrual m => Sys2Proof.Machine.execMemoryTokenAccrual m s
  | .bucketLeak unit cls => Sys2Proof.Machine.execBucketLeak unit cls s
  | .errorRecord occ => Sys2Proof.Machine.execErrorRecord occ s
  | .errLogtailWrite value => Sys2Proof.Machine.execErrLogtailWrite value s
  | .errInjArm value => Sys2Proof.Machine.execErrInjArm value s
  | .errInjCancel => Sys2Proof.Machine.execErrInjCancel s
  | .selfTestGo unit => Sys2Proof.Machine.execSelfTestGo unit s
  | .selfTestComplete failing => Sys2Proof.Machine.execSelfTestComplete failing s
  | .pwrDomReqOff d value => Sys2Proof.Machine.execPwrDomReqOff d value s
  | .pwrDomReqRun d value => Sys2Proof.Machine.execPwrDomReqRun d value s
  | .pwrDomReqRetain d value => Sys2Proof.Machine.execPwrDomReqRetain d value s
  | .domainPowerGood d => Sys2Proof.Machine.execDomainPowerGood d s
  | .pointOfNoReturn d => Sys2Proof.Machine.execPointOfNoReturn d s
  | .retentionSwitch n => Sys2Proof.Machine.execRetentionSwitch n s
  | .retainRestored n => Sys2Proof.Machine.execRetainRestored n s
  | .wakeEvent w => Sys2Proof.Machine.execWakeEvent w s
  | .wakePin k level => Sys2Proof.Machine.execWakePin k level s
  | .alarm => Sys2Proof.Machine.execAlarm s
  | .neapRequest core value => Sys2Proof.Machine.execNeapRequest core value s
  | .standbyRequest core value => Sys2Proof.Machine.execStandbyRequest core value s
  | .chipStatePointOfNoReturn => Sys2Proof.Machine.execChipStatePointOfNoReturn s
  | .chipWake => Sys2Proof.Machine.execChipWake s
  | .avsGo value => Sys2Proof.Machine.execAvsGo value s
  | .avsVoutRead mv => Sys2Proof.Machine.execAvsVoutRead mv s
  | .avsTimeout => Sys2Proof.Machine.execAvsTimeout s
  | .pwrReset => Sys2Proof.Machine.execPwrReset s
  | .coldRstN => Sys2Proof.Machine.execColdRstN s
  | .warmRstN => Sys2Proof.Machine.execWarmRstN s
  | .warmEntryComplete => Sys2Proof.Machine.execWarmEntryComplete s
  | .boot env => Sys2Proof.Machine.execBoot env s
  | .watchdogEnable value => Sys2Proof.Machine.execWatchdogEnable value s
  | .watchdogKick value => Sys2Proof.Machine.execWatchdogKick value s
  | .watchdogStage1 => Sys2Proof.Machine.execWatchdogStage1 s
  | .watchdogStage2 => Sys2Proof.Machine.execWatchdogStage2 s
  | .coreReset n value => Sys2Proof.Machine.execCoreReset n value s
  | .coreResetComplete n => Sys2Proof.Machine.execCoreResetComplete n s
  | .coreRelease n value => Sys2Proof.Machine.execCoreRelease n value s
  | .flashCopy value => Sys2Proof.Machine.execFlashCopy value s
  | .flashProgram value => Sys2Proof.Machine.execFlashProgram value s
  | .flashErase value => Sys2Proof.Machine.execFlashErase value s
  | .flashOperationComplete size data timeout => Sys2Proof.Machine.execFlashOperationComplete size data timeout s
  | .fuseProgramSlot value => Sys2Proof.Machine.execFuseProgramSlot value s
  | .fuseRevokeSlot value => Sys2Proof.Machine.execFuseRevokeSlot value s
  | .fuseSetSvn value => Sys2Proof.Machine.execFuseSetSvn value s
  | .fuseCommandComplete => Sys2Proof.Machine.execFuseCommandComplete s
  | .portEnable p value => Sys2Proof.Machine.execPortEnable p value s
  | .bifcfgWrite value => Sys2Proof.Machine.execBifcfgWrite value s
  | .dlupChange p up rate width surprise => Sys2Proof.Machine.execDlupChange p up rate width surprise s
  | .containmentRelease p value => Sys2Proof.Machine.execContainmentRelease p value s
  | .uncorrectableErrorDetected p bit => Sys2Proof.Machine.execUncorrectableErrorDetected p bit s
  | .configurationRequest off width data reply => Sys2Proof.Machine.execConfigurationRequest off width data reply s
  | .completionReceive core idx status => Sys2Proof.Machine.execCompletionReceive core idx status s
  | .completionTimeout core idx => Sys2Proof.Machine.execCompletionTimeout core idx s
  | .inboundRequest p rid req => Sys2Proof.Machine.execInboundRequest p rid req s
  | .messageWrite p rid addr bytes => Sys2Proof.Machine.execMessageWrite p rid addr bytes s
  | .rqcfgEnable k value => Sys2Proof.Machine.execRqcfgEnable k value s
  | .rqcfgDisable k value => Sys2Proof.Machine.execRqcfgDisable k value s
  | .heatMarkRead value ue => Sys2Proof.Machine.execHeatMarkRead value ue s
  | .heatMarkWrite value => Sys2Proof.Machine.execHeatMarkWrite value s
  | .heatMarkLock => Sys2Proof.Machine.execHeatMarkLock s
  | .challenge ue => Sys2Proof.Machine.execChallenge ue s
  | .challengeComplete => Sys2Proof.Machine.execChallengeComplete s
  | .smbReadIdentity => Sys2Proof.Machine.execSmbReadIdentity s
  | .smbHeatMarkRead area off len ue => Sys2Proof.Machine.execSmbHeatMarkRead area off len ue s
  | .smbHeatMarkWrite area off len data => Sys2Proof.Machine.execSmbHeatMarkWrite area off len data s
  | .smbChallenge nonce ue => Sys2Proof.Machine.execSmbChallenge nonce ue s
  | .smbResponse => Sys2Proof.Machine.execSmbResponse s
  | .smbCertificate off len => Sys2Proof.Machine.execSmbCertificate off len s
  | .trippermitWrite value => Sys2Proof.Machine.execTrippermitWrite value s
  | .tripLapse => Sys2Proof.Machine.execTripLapse s
  | .inboundRequestPerformed idx => Sys2Proof.Machine.execInboundRequestPerformed idx s
  | .castStoreAcknowledge core => Sys2Proof.Machine.execCastStoreAcknowledge core s
  | .txSegmentReadReturn e f bad => Sys2Proof.Machine.execTxSegmentReadReturn e f bad s
  | .correctableLinkOrTlpError p bit => Sys2Proof.Machine.execCorrectableLinkOrTlpError p bit s
  | .tapInstruction mode coldLow => Sys2Proof.Machine.execTapInstruction mode coldLow s

end Sys2Proof.Machine
end

