-- ==== Sys2Proof/WellFormed.lean ====
section
/-!
DEFINITION. Well-formed commands: every operand lies in the range that the spec gives what it names. A command that is not well-formed names nothing; its
meaning changes nothing where it finds no unit.
-/
namespace Sys2Proof

/-- Cores 0 to 127 (R20). -/
def okCore (n : Nat) : Bool := n < 128
/-- Tiles and slices 0 to 63 (R20). -/
def okTile (t : Nat) : Bool := t < 64
/-- Registers 0 to 31. -/
def okReg (r : Nat) : Bool := r < 32
/-- Tags of maintenance requests (R232). -/
def okTag (v : Nat) : Bool := v < 256
/-- Line numbers, address bits [46:6] (R272). -/
def okLine (l : Nat) : Bool := l < 2 ^ 41
/-- Partitions 0 to 63 (R502). -/
def okPart (p : Nat) : Bool := p < 64
/-- Endpoint numbers, 4 × router + endpoint (R274). -/
def okEp (k : Nat) : Bool := k < 320
/-- Routers 0 to 79 (R19). -/
def okRouter (r : Nat) : Bool := r < 80
/-- Links and endpoints of a router (R274). -/
def okLink (l : Nat) : Bool := l < 4
/-- Memory controllers 0 to 11. -/
def okMc (m : Nat) : Bool := m < 12
/-- Logical ranks (R328). -/
def okRank (r : Nat) : Bool := r < 16
/-- Lane quads 0 to 11, lanes 0 to 47. -/
def okQuad (q : Nat) : Bool := q < 12
def okLane (l : Nat) : Bool := l < 48
/-- Field engines 0 and 1, local stations, tide tables and filters 0 to 7, images, local functions, RX rings. -/
def okFe (e : Nat) : Bool := e < 2
def okStation (st : Nat) : Bool := st < 2048
def okTable (k : Nat) : Bool := k < 8
def okImage (i : Nat) : Bool := i < 16
def okFn (f : Nat) : Bool := f < 128
def okRing (n : Nat) : Bool := n < 4
/-- Ladle engines 0 to 3 and their channels. -/
def okLdl (l : Nat) : Bool := l < 4
def okCh (c : Nat) : Bool := c < 32
/-- Channel registers (R448). -/
def okDbreg (r : Nat) : Bool := r < 8
/-- Power domains 0 to 224 (R585). -/
def okDom (d : Nat) : Bool := d < 225
/-- PCIe ports 0 to 7. -/
def okPort (p : Nat) : Bool := p < 8
/-- Unit numbers of the error aggregator (R549). -/
def okUnit (u : Nat) : Bool := u < 512
/-- Interrupt sources (R480), 32-source words of the enable and pending registers (R500), codes of offers, priorities, edge numbers (R489). -/
def okSrc (k : Nat) : Bool := k < 8192
def okWord (w : Nat) : Bool := w < 256
def okOfferCode (c : Nat) : Bool := c = 5 || c = 6
def okPrio (p : Nat) : Bool := p < 32
def okNum (n : Nat) : Bool := n < 256
/-- Directory sets (R250). -/
def okSet (k : Nat) : Bool := k < 2048
/-- CSR numbers (R159). -/
def okCsr (n : Nat) : Bool := n < 4096
/-- Instruction lengths in bytes. -/
def okLen (n : Nat) : Bool := n = 2 || n = 4
/-- Access widths of a core, and of control space and atomic accesses (R28). -/
def okWidth (w : Nat) : Bool := w = 1 || w = 2 || w = 4 || w = 8
def okCtlWidth (w : Nat) : Bool := w = 4 || w = 8
/-- Classes of the Tideway (R275) and of buckets (R548). -/
def okClass (c : Nat) : Bool := c < 4
def okErrClass (c : Nat) : Bool := c < 8
/-- Port states of an endpoint (R302). -/
def okPortState (v : Nat) : Bool := 1 ≤ v && v ≤ 4
/-- Requester IDs (R620). -/
def okRid (v : Nat) : Bool := v < 65536
/-- Backoff hints of a Retry (R261). -/
def okHint (b : Nat) : Bool := b < 8
/-- Bits of the PCIe error status registers (R628). -/
def okErrBit (b : Nat) : Bool := b < 32
/-- Destinations of a load. -/
def okDest : LdDest → Bool
  | .x r => okReg r
  | .f r _ => okReg r
/-- Cast-count registers (R222). -/
def okCast : CastReg → Bool
  | .left t => okTile t
  | .right t => okTile t
  | .slc t => okTile t
/-- Targets of a register write (R14, R28). -/
def okTarget : WriteTo → Bool
  | .control off width => okCtlWidth width && off % width == 0 && decide (off < 0x1_0000_0000)
  | .csr core num => okCore core && okCsr num

/-- The operands of a command are in range. -/
def Instr.wf : Instr → Bool
  | .registerWrite target _ => okTarget target
  | .rcCounterRead _ width _ _ => okCtlWidth width
  | .instructionIssue core _ len _ => okCore core && okLen len
  | .load core dest rs1 _ width _ len _ _ => okCore core && okDest dest && okReg rs1 && okWidth width && okLen len
  | .loadComplete core _ _ _ => okCore core
  | .store core rs1 rs2 _ _ width len _ _ => okCore core && okReg rs1 && okReg rs2 && okWidth width && okLen len
  | .storeDrain core => okCore core
  | .storeBufferEntryLeave core _ => okCore core
  | .deviceStoreAcknowledge core => okCore core
  | .amo core _ rd rs1 rs2 width _ => okCore core && okReg rd && okReg rs1 && okReg rs2 && okCtlWidth width
  | .lr core rd rs1 width _ => okCore core && okReg rd && okReg rs1 && okCtlWidth width
  | .sc core rd rs1 rs2 width _ => okCore core && okReg rd && okReg rs1 && okReg rs2 && okCtlWidth width
  | .vectorMemoryAccess core _ _ _ vd rs1 eew _ _ => okCore core && okReg vd && okReg rs1 && okWidth eew
  | .fence core => okCore core
  | .fenceI core => okCore core
  | .ecall core => okCore core
  | .ebreak core => okCore core
  | .csrInstruction core _ csr rd rs1 => okCore core && okCsr csr && okReg rd && okReg rs1
  | .tret core => okCore core
  | .hlt core => okCore core
  | .pauseSlack core => okCore core
  | .tlbw core rs1 rs2 => okCore core && okReg rs1 && okReg rs2
  | .tlbp core rd rs1 => okCore core && okReg rd && okReg rs1
  | .tlbi core rs1 rs2 => okCore core && okReg rs1 && okReg rs2
  | .tlbib core rs1 rs2 => okCore core && okReg rs1 && okReg rs2
  | .tlbibReceipt core _ => okCore core
  | .tlbibComplete core acker => okCore core && okCore acker
  | .twp core rd rs1 rs2 _ => okCore core && okReg rd && okReg rs1 && okReg rs2
  | .s2w core rs1 rs2 => okCore core && okReg rs1 && okReg rs2
  | .monitorSample _ _ _ => true
  | .streamBSwitch => true
  | .synthLock _ => true
  | .synthLossOfLock _ => true
  | .systemReferenceStop => true
  | .systemReferenceReturn => true
  | .fellClear _ => true
  | .paceSwitch core _ rd rs1 => okCore core && okReg rd && okReg rs1
  | .paceSwitchComplete core _ => okCore core
  | .paceSlip core _ => okCore core
  | .pairEntry core => okCore core
  | .pairEntryComplete tile => okTile tile
  | .pairExit core => okCore core
  | .hSpecctlWrite core _ => okCore core
  | .predctlInval core => okCore core
  | .predctlInvalComplete core => okCore core
  | .predctlRegen core => okCore core
  | .regenintExpire core => okCore core
  | .keyRegenerationEffect core => okCore core
  | .timerCompareReached core _ => okCore core
  | .interruptRecognition core => okCore core
  | .entryTakeover core => okCore core
  | .entryPointOfNoReturn core => okCore core
  | .entryComplete core => okCore core
  | .castCountWrite reg _ => okCast reg
  | .castChangeComplete reg => okCast reg
  | .mntClean _ t tag => okTile t && okTag tag
  | .mntInvalidate _ t tag => okTile t && okTag tag
  | .mntCleanAndInvalidate _ t tag => okTile t && okTag tag
  | .mntZero _ t tag => okTile t && okTag tag
  | .mntRequestComplete _ t => okTile t
  | .homeRds h line core _ part _ => okTile h && okLine line && okCore core && okPart part
  | .homeRdx h line core _ part _ => okTile h && okLine line && okCore core && okPart part
  | .homeUpg h line core _ part _ => okTile h && okLine line && okCore core && okPart part
  | .homeEvc h line core => okTile h && okLine line && okCore core
  | .homeEvd h line core _ _ => okTile h && okLine line && okCore core
  | .homeDevrd h line src part _ => okTile h && okLine line && okUnit src && okPart part
  | .homeDevwr h line src _ _ _ part _ => okTile h && okLine line && okUnit src && okPart part
  | .homeInvack h line core => okTile h && okLine line && okCore core
  | .homeData h line core _ _ _ => okTile h && okLine line && okCore core
  | .homePrbReport h set core => okTile h && okSet set && okCore core
  | .l2Snpf h line core req _ => okTile h && okLine line && okCore core && okCore req
  | .l2Snpx h line core req _ => okTile h && okLine line && okCore core && okCore req
  | .l2Snpi h line core => okTile h && okLine line && okCore core
  | .l2Snpd h line core _ => okTile h && okLine line && okCore core
  | .l2Snpr h line core _ => okTile h && okLine line && okCore core
  | .l2Prb h set core => okTile h && okSet set && okCore core
  | .l2Data core line _ _ _ => okCore core && okLine line
  | .l2Grant core line => okCore core && okLine line
  | .l2Evictack core line => okCore core && okLine line
  | .l2Retry core line hint => okCore core && okLine line && okHint hint
  | .retryResend core line => okCore core && okLine line
  | .homesetApply => true
  | .homesetChangeComplete => true
  | .flitReceive r l cls _ _ => okRouter r && okLink l && okClass cls
  | .linkNak r l => okRouter r && okLink l
  | .retryWindowClose r l => okRouter r && okLink l
  | .injectionBucketAccrual => true
  | .tc0Admit ep => okEp ep
  | .linkMonitorAccrual => true
  | .rtrTc0bktWrite r e _ => okRouter r && okLink e
  | .rtrTc0capWrite r _ => okRouter r
  | .ebb ep => okEp ep
  | .reopen ep => okEp ep
  | .declare ep => okEp ep
  | .fenceMapBroadcast r ep state => okRouter r && okEp ep && okPortState state
  | .markerSend r ep => okRouter r && okEp ep
  | .markerArrive r ep cls => okRouter r && okEp ep && okClass cls
  | .ebbTimeout ep => okEp ep
  | .responseTimeout ep => okEp ep
  | .partitionEbbStart part => okPart part
  | .partitionEbbDone => true
  | .partitionEbbTimeout => true
  | .trainFull m => okMc m
  | .trainResume m => okMc m
  | .trainDiscard m => okMc m
  | .trainingComplete m _ => okMc m
  | .resumeComplete m _ => okMc m
  | .srreqSet m => okMc m
  | .selfRefreshEntered m => okMc m
  | .srreqClear m => okMc m
  | .dramctlApply => true
  | .mcRead m _ _ _ _ _ => okMc m
  | .mirrorSecondaryRead m _ _ _ => okMc m
  | .mcWrite m _ _ _ _ => okMc m
  | .demandScrubWrite m _ => okMc m
  | .patrolRead m _ _ => okMc m
  | .refresh m => okMc m
  | .sparingStart m src => okMc m && okRank src
  | .sparingCopyComplete m => okMc m
  | .sppr m rank _ _ => okMc m && okRank rank
  | .hppr m rank _ _ => okMc m && okRank rank
  | .pprComplete m => okMc m
  | .tc0WindowOpen m => okMc m
  | .tc0WindowClose m => okMc m
  | .mcTc0ctlWrite m _ => okMc m
  | .alertN m _ => okMc m
  | .writeCrcError m _ => okMc m
  | .flnQctlWrite quad _ => okQuad quad
  | .flnCtlWrite lane _ => okLane lane
  | .quadReferenceChange quad _ => okQuad quad
  | .anResolve lane _ => okLane lane
  | .linkTrainingComplete lane => okLane lane
  | .linkTrainingTimeout lane => okLane lane
  | .blockLock lane => okLane lane
  | .holdExpire lane => okLane lane
  | .lockLoss lane _ => okLane lane
  | .remoteFault lane _ => okLane lane
  | .frameReceive lane _ _ => okLane lane
  | .frameTransmitEnd lane _ _ => okLane lane
  | .gateIntervalEnd lane => okLane lane
  | .gclSwap lane => okLane lane
  | .gclTakeover lane => okLane lane
  | .verifyComplete lane _ => okLane lane
  | .flnTxeqWrite lane _ => okLane lane
  | .ttadjStep _ => true
  | .ttadjSlew _ => true
  | .ttadjLowerHalf _ => true
  | .slewEnd => true
  | .ttctlRoleWrite _ => true
  | .servoMeasurement lane _ => okLane lane
  | .ppsEdge => true
  | .measurementMissing => true
  | .ppsOutput => true
  | .syncTransmit lane => okLane lane
  | .pdelayReqTransmit lane => okLane lane
  | .gptpMessageReceive lane _ => okLane lane
  | .stationCommit e station => okFe e && okStation station
  | .stationCommitComplete e => okFe e
  | .tideFrameInput lane _ _ _ => okLane lane
  | .inputWriteRefused e station => okFe e && okStation station
  | .ttStart e k _ => okFe e && okTable k
  | .ttStartCheckDone e k => okFe e && okTable k
  | .ttStop e k _ => okFe e && okTable k
  | .ttAbort e k _ => okFe e && okTable k
  | .ttBoundary e k => okFe e && okTable k
  | .ttSend e k => okFe e && okTable k
  | .sendOutputReadReturn e _ => okFe e
  | .ttExpect e k => okFe e && okTable k
  | .ttEvent e k => okFe e && okTable k
  | .ttLadle e k => okFe e && okTable k
  | .ttFlip e k => okFe e && okTable k
  | .flipComplete e image => okFe e && okImage image
  | .ttSync e k => okFe e && okTable k
  | .ttNop e k => okFe e && okTable k
  | .lifeSign e core image _ width _ part => okFe e && okCore core && okImage image && okWidth width && okPart part
  | .imageResume e image => okFe e && okImage image
  | .imageEnable e image _ => okFe e && okImage image
  | .subforceWrite e _ => okFe e
  | .functionEnable e f _ => okFe e && okFn f
  | .functionQuiesce e f _ => okFe e && okFn f
  | .quiesceComplete e f => okFe e && okFn f
  | .functionDisable e f _ => okFe e && okFn f
  | .txTailWrite e f _ => okFe e && okFn f
  | .rxTailWrite e f ring _ => okFe e && okFn f && okRing ring
  | .descriptorRead e f ring _ => okFe e && okFn f && okRing ring
  | .txFrameAdmit e f => okFe e && okFn f
  | .txFrameComplete e f _ => okFe e && okFn f
  | .rxFrameWriteComplete e f _ => okFe e && okFn f
  | .ringInterruptTimer e f ring => okFe e && okFn f && okRing ring
  | .vectorUnmask _ e n _ => okFe e && okFn n
  | .filterWrite e f k _ => okFe e && okFn f && okTable k
  | .directMessage core src prio num => okCore core && okSrc src && okPrio prio && okNum num
  | .mailboxDataStore e core _ width _ part => okFe e && okCore core && okWidth width && okPart part
  | .mailboxSend e core lane _ part => okFe e && okCore core && okLane lane && okPart part
  | .deadlineExpire lane => okLane lane
  | .channelEnable l c _ => okLdl l && okCh c
  | .channelDisable l c _ => okLdl l && okCh c
  | .managerStop l c _ => okLdl l && okCh c
  | .channelAbort l c _ => okLdl l && okCh c
  | .stoptmoExpire l c => okLdl l && okCh c
  | .abortComplete l c _ => okLdl l && okCh c
  | .doorbellStart l c => okLdl l && okCh c
  | .doorbellStop l c => okLdl l && okCh c
  | .doorbellResume l c => okLdl l && okCh c
  | .doorbellClear l c => okLdl l && okCh c
  | .dbregWrite l c r width _ => okLdl l && okCh c && okDbreg r && okWidth width
  | .channelEnterFlight l => okLdl l
  | .programFetch l c _ => okLdl l && okCh c
  | .move l c => okLdl l && okCh c
  | .fill l c => okLdl l && okCh c
  | .loop l c => okLdl l && okCh c
  | .next l c => okLdl l && okCh c
  | .wait l c => okLdl l && okCh c
  | .waitMet l c => okLdl l && okCh c
  | .signalSetf l c => okLdl l && okCh c
  | .signalClrf l c => okLdl l && okCh c
  | .signalVector l c => okLdl l && okCh c
  | .signalWrite l c => okLdl l && okCh c
  | .setImm l c => okLdl l && okCh c
  | .setAdd l c => okLdl l && okCh c
  | .setLoad l c => okLdl l && okCh c
  | .setAnd l c => okLdl l && okCh c
  | .setXor l c => okLdl l && okCh c
  | .endProgram l c => okLdl l && okCh c
  | .ladleInstructionComplete l c _ => okLdl l && okCh c
  | .eventFlagWrite l _ _ _ => okLdl l
  | .sourceEdge src => okSrc src
  | .sourceLineChange src _ => okSrc src
  | .irqPendset w _ width => okWord w && okWidth width
  | .irqPendclr w _ width => okWord w && okWidth width
  | .irqEnset w _ width => okWord w && okWidth width
  | .irqEnclr w _ width => okWord w && okWidth width
  | .irqCfgWrite src _ => okSrc src
  | .irqCtlWrite _ => true
  | .offer core code src prio num => okCore core && okOfferCode code && okSrc src && okPrio prio && okNum num
  | .withdraw core src => okCore core && okSrc src
  | .acceptance core code src num => okCore core && okOfferCode code && okSrc src && okNum num
  | .withdrawAcknowledgement core src => okCore core && okSrc src
  | .edgeNote src num => okSrc src && okNum num
  | .offerRefused core code => okCore core && okOfferCode code
  | .postingWriteAck part _ => okPart part
  | .irqVcoreWrite core _ => okCore core
  | .irqPdisc part => okPart part
  | .irqSwsend page _ => okCore page
  | .irqPttailWrite part _ => okPart part
  | .irqPtbaseWrite part _ => okPart part
  | .prtPcfgWrite part _ => okPart part
  | .dirtyLogUpdate part _ _ => okPart part
  | .dirtyLogSwap part => okPart part
  | .dirtyLogEnable part _ => okPart part
  | .prtPrst _ => true
  | .partResetReceipt part core => okPart part && okCore core
  | .partResetDone core => okCore core
  | .memoryTokenAccrual m => okMc m
  | .bucketLeak unit cls => okUnit unit && okErrClass cls
  | .errorRecord _ => true
  | .errLogtailWrite _ => true
  | .errInjArm _ => true
  | .errInjCancel => true
  | .selfTestGo unit => okUnit unit
  | .selfTestComplete _ => true
  | .pwrDomReqOff d _ => okDom d
  | .pwrDomReqRun d _ => okDom d
  | .pwrDomReqRetain d _ => okDom d
  | .domainPowerGood d => okDom d
  | .pointOfNoReturn d => okDom d
  | .retentionSwitch n => okCore n
  | .retainRestored n => okCore n
  | .wakeEvent _ => true
  | .wakePin k _ => okTable k
  | .alarm => true
  | .neapRequest core _ => okCore core
  | .standbyRequest core _ => okCore core
  | .chipStatePointOfNoReturn => true
  | .chipWake => true
  | .avsGo _ => true
  | .avsVoutRead _ => true
  | .avsTimeout => true
  | .pwrReset => true
  | .coldRstN => true
  | .warmRstN => true
  | .warmEntryComplete => true
  | .boot _ => true
  | .watchdogEnable _ => true
  | .watchdogKick _ => true
  | .watchdogStage1 => true
  | .watchdogStage2 => true
  | .coreReset n _ => okCore n
  | .coreResetComplete n => okCore n
  | .coreRelease n _ => okCore n
  | .flashCopy _ => true
  | .flashProgram _ => true
  | .flashErase _ => true
  | .flashOperationComplete _ _ _ => true
  | .fuseProgramSlot _ => true
  | .fuseRevokeSlot _ => true
  | .fuseSetSvn _ => true
  | .fuseCommandComplete => true
  | .portEnable p _ => okPort p
  | .bifcfgWrite _ => true
  | .dlupChange p _ _ width _ => okPort p && okWidth width
  | .containmentRelease p _ => okPort p
  | .uncorrectableErrorDetected p bit => okPort p && okErrBit bit
  | .configurationRequest _ _ _ _ => true
  | .completionReceive core _ _ => okCore core
  | .completionTimeout core _ => okCore core
  | .inboundRequest p rid _ => okPort p && okRid rid
  | .messageWrite p rid _ _ => okPort p && okRid rid
  | .rqcfgEnable k _ => okTable k
  | .rqcfgDisable k _ => okTable k
  | .heatMarkRead _ _ => true
  | .heatMarkWrite _ => true
  | .heatMarkLock => true
  | .challenge _ => true
  | .challengeComplete => true
  | .smbReadIdentity => true
  | .smbHeatMarkRead _ _ _ _ => true
  | .smbHeatMarkWrite _ _ _ _ => true
  | .smbChallenge _ _ => true
  | .smbResponse => true
  | .smbCertificate _ _ => true
  | .trippermitWrite _ => true
  | .tripLapse => true
  | .inboundRequestPerformed _ => true
  | .castStoreAcknowledge core => okCore core
  | .txSegmentReadReturn e f _ => okFe e && okFn f
  | .correctableLinkOrTlpError p bit => okPort p && okErrBit bit
  | .tapInstruction _ _ => true

end Sys2Proof
end

