-- ==== Sys2Proof/Safety.lean ====
section
/-!
DEFINITION. What counts as a safe run: the canonical forms that a state has and every step must keep, a state whose waiting commands are well formed, and a
step that neither faults nor is refused.
-/
namespace Sys2Proof.Machine

/-- The memory and the registers are in canonical form: keys rise strictly and no entry holds what its key reads as when unlisted. Equal contents are
then equal data. -/
def State.Canonical (s : State) : Prop := Memory.wf s.mem = true ∧ Tbl.wf regReset s.regs = true

/-- Every command that waits is well formed. -/
def State.QueueOk (s : State) : Prop := ∀ i ∈ s.pending, i.wf = true

/-! ### The parts of the state, and what a command leaves alone -/

/-- The parts of the state, one for each of its fields and in their order. -/
inductive Part where
  | fuse | fresh | regs | mem | memPoison | cores | slices | tileMnt | decode | net | endpoints | links
  | routers | partEbb | chans | memTok | time | lanes | fast | stns | imgs | tabs | fes | fns
  | ldls | ldlEngs | pwr | svc | hif | ident | tap | dist | retainPrst | errq | errlog | lastRead
  | pending
  deriving DecidableEq, Repr

/-- The place of a part in that order. -/
def Part.idx : Part → Nat
  | .fuse => 0 | .fresh => 1 | .regs => 2 | .mem => 3 | .memPoison => 4 | .cores => 5 | .slices => 6 | .tileMnt => 7
  | .decode => 8 | .net => 9 | .endpoints => 10 | .links => 11 | .routers => 12 | .partEbb => 13 | .chans => 14 | .memTok => 15
  | .time => 16 | .lanes => 17 | .fast => 18 | .stns => 19 | .imgs => 20 | .tabs => 21 | .fes => 22 | .fns => 23
  | .ldls => 24 | .ldlEngs => 25 | .pwr => 26 | .svc => 27 | .hif => 28 | .ident => 29 | .tap => 30 | .dist => 31
  | .retainPrst => 32 | .errq => 33 | .errlog => 34 | .lastRead => 35 | .pending => 36

/-- Two states agree on a part. -/
def Part.same (s t : State) : Part → Prop
  | .fuse => t.fuse = s.fuse
  | .fresh => t.fresh = s.fresh
  | .regs => t.regs = s.regs
  | .mem => t.mem = s.mem
  | .memPoison => t.memPoison = s.memPoison
  | .cores => t.cores = s.cores
  | .slices => t.slices = s.slices
  | .tileMnt => t.tileMnt = s.tileMnt
  | .decode => t.decode = s.decode
  | .net => t.net = s.net
  | .endpoints => t.endpoints = s.endpoints
  | .links => t.links = s.links
  | .routers => t.routers = s.routers
  | .partEbb => t.partEbb = s.partEbb
  | .chans => t.chans = s.chans
  | .memTok => t.memTok = s.memTok
  | .time => t.time = s.time
  | .lanes => t.lanes = s.lanes
  | .fast => t.fast = s.fast
  | .stns => t.stns = s.stns
  | .imgs => t.imgs = s.imgs
  | .tabs => t.tabs = s.tabs
  | .fes => t.fes = s.fes
  | .fns => t.fns = s.fns
  | .ldls => t.ldls = s.ldls
  | .ldlEngs => t.ldlEngs = s.ldlEngs
  | .pwr => t.pwr = s.pwr
  | .svc => t.svc = s.svc
  | .hif => t.hif = s.hif
  | .ident => t.ident = s.ident
  | .tap => t.tap = s.tap
  | .dist => t.dist = s.dist
  | .retainPrst => t.retainPrst = s.retainPrst
  | .errq => t.errq = s.errq
  | .errlog => t.errlog = s.errlog
  | .lastRead => t.lastRead = s.lastRead
  | .pending => t.pending = s.pending

/-- From `s` to `t` nothing changes but the listed parts. -/
def OnlyChanges (ps : List Part) (s t : State) : Prop := ∀ p, p ∉ ps → p.same s t

/-- The parts that a command can change: its frame. -/
def mayChange : Instr → List Part
  | .registerWrite _ _ =>
    [.fresh, .regs, .mem, .memPoison, .cores, .slices, .tileMnt, .decode, .net, .endpoints, .links, .routers, .partEbb, .chans, .memTok, .time,
    .lanes, .fast, .stns, .imgs, .tabs, .fes, .fns, .ldls, .ldlEngs, .pwr, .svc, .hif, .ident, .dist, .retainPrst, .errq]
  | .rcCounterRead _ _ _ _ =>
    [.fresh, .regs, .lastRead]
  | .instructionIssue _ _ _ _ | .loadComplete _ _ _ _ | .fence _ | .ecall _ | .ebreak _ | .csrInstruction _ _ _ _ _ | .tret _ | .pauseSlack _
  | .tlbw _ _ _ | .tlbp _ _ _ | .tlbi _ _ _ | .s2w _ _ _ | .paceSwitch _ _ _ _ | .pairEntry _ | .pairExit _ | .hSpecctlWrite _ _ | .predctlInval _
  | .predctlRegen _ | .completionReceive _ _ _ =>
    [.fresh, .regs, .mem, .memPoison, .cores, .net, .errq]
  | .load _ _ _ _ _ _ _ _ _ | .store _ _ _ _ _ _ _ _ _ | .amo _ _ _ _ _ _ _ | .lr _ _ _ _ _ | .sc _ _ _ _ _ _ | .vectorMemoryAccess _ _ _ _ _ _ _ _ _
  | .fenceI _ | .tlbib _ _ _ | .twp _ _ _ _ _ =>
    [.fresh, .regs, .mem, .memPoison, .cores, .net, .endpoints, .links, .errq]
  | .storeDrain _ | .storeBufferEntryLeave _ _ | .paceSwitchComplete _ _ | .pairEntryComplete _ | .entryPointOfNoReturn _ =>
    [.regs, .mem, .memPoison, .cores, .net, .endpoints, .links, .errq]
  | .deviceStoreAcknowledge _ =>
    [.regs, .cores, .net]
  | .hlt _ =>
    [.fresh, .regs, .mem, .memPoison, .cores, .slices, .net, .endpoints, .time, .lanes, .fast, .fns, .ldls, .pwr, .errq]
  | .tlbibReceipt _ _ | .tlbibComplete _ _ | .l2Snpi _ _ _ | .l2Snpd _ _ _ _ | .l2Snpr _ _ _ _ | .l2Evictack _ _ | .l2Retry _ _ _ | .retryResend _ _
  | .directMessage _ _ _ _ | .offer _ _ _ _ _ | .withdraw _ _ | .castStoreAcknowledge _ =>
    [.cores, .net]
  | .monitorSample _ _ _ | .warmEntryComplete =>
    [.fresh, .regs, .mem, .memPoison, .cores, .slices, .tileMnt, .decode, .net, .endpoints, .links, .routers, .partEbb, .chans, .memTok, .time,
    .lanes, .fast, .stns, .imgs, .tabs, .fes, .fns, .ldls, .ldlEngs, .pwr, .svc, .hif, .ident, .dist, .retainPrst, .errq, .lastRead]
  | .streamBSwitch | .fellClear _ | .castCountWrite _ _ | .homesetApply | .rtrTc0capWrite _ _ | .trainResume _ | .srreqSet _ | .srreqClear _
  | .sparingStart _ _ | .sparingCopyComplete _ | .mcTc0ctlWrite _ _ | .flnQctlWrite _ _ | .remoteFault _ _ | .verifyComplete _ _ | .flnTxeqWrite _ _
  | .ttStart _ _ _ | .ttStop _ _ _ | .ttAbort _ _ _ | .imageResume _ _ | .subforceWrite _ _ | .quiesceComplete _ _ | .txTailWrite _ _ _
  | .rxTailWrite _ _ _ _ | .filterWrite _ _ _ _ | .dbregWrite _ _ _ _ _ | .dirtyLogSwap _ | .dirtyLogEnable _ _ | .bucketLeak _ _
  | .errLogtailWrite _ | .errInjArm _ | .errInjCancel | .selfTestGo _ | .portEnable _ _ | .bifcfgWrite _ | .containmentRelease _ _ | .rqcfgEnable _ _
  | .rqcfgDisable _ _ | .heatMarkLock | .trippermitWrite _ | .tripLapse =>
    [.regs]
  | .synthLock _ =>
    [.fresh, .regs, .time]
  | .synthLossOfLock _ =>
    [.regs, .mem, .memPoison, .cores, .net, .errq]
  | .systemReferenceStop =>
    [.regs, .mem, .memPoison, .cores, .net, .time, .errq]
  | .systemReferenceReturn | .slewEnd | .ttctlRoleWrite _ | .measurementMissing =>
    [.regs, .time]
  | .paceSlip _ _ | .completionTimeout _ _ =>
    [.regs, .cores]
  | .predctlInvalComplete _ | .keyRegenerationEffect _ | .timerCompareReached _ _ | .entryComplete _ =>
    [.cores]
  | .regenintExpire _ =>
    [.fresh, .cores]
  | .interruptRecognition _ | .entryTakeover _ =>
    [.cores, .net, .errq]
  | .castChangeComplete _ | .dirtyLogUpdate _ _ _ =>
    [.fresh, .regs, .mem, .memPoison, .cores, .slices]
  | .mntClean _ _ _ | .mntInvalidate _ _ _ | .mntCleanAndInvalidate _ _ _ | .mntZero _ _ _ =>
    [.regs, .slices, .tileMnt]
  | .mntRequestComplete _ _ =>
    [.fresh, .regs, .mem, .memPoison, .cores, .slices, .tileMnt]
  | .homeRds _ _ _ _ _ _ | .homeRdx _ _ _ _ _ _ | .homeUpg _ _ _ _ _ _ | .homeDevrd _ _ _ _ _ | .homeDevwr _ _ _ _ _ _ _ _ | .homeInvack _ _ _ =>
    [.fresh, .regs, .mem, .memPoison, .slices, .net, .errq]
  | .homeEvc _ _ _ =>
    [.slices, .net]
  | .homeEvd _ _ _ _ _ | .homeData _ _ _ _ _ _ =>
    [.fresh, .regs, .mem, .memPoison, .slices, .net]
  | .homePrbReport _ _ _ =>
    [.fresh, .regs, .mem, .memPoison, .cores, .slices, .net, .errq]
  | .l2Snpf _ _ _ _ _ | .l2Snpx _ _ _ _ _ =>
    [.regs, .cores, .slices, .net]
  | .l2Prb _ _ _ =>
    [.net]
  | .l2Data _ _ _ _ _ | .l2Grant _ _ =>
    [.fresh, .regs, .mem, .memPoison, .cores, .slices, .net, .endpoints, .links, .errq]
  | .homesetChangeComplete =>
    [.fresh, .regs, .mem, .memPoison, .cores, .slices, .net]
  | .flitReceive _ _ _ _ _ =>
    [.regs, .net, .links, .errq]
  | .linkNak _ _ =>
    [.net, .links]
  | .retryWindowClose _ _ =>
    [.regs, .links]
  | .injectionBucketAccrual =>
    [.endpoints]
  | .tc0Admit _ =>
    [.fresh, .regs, .mem, .memPoison, .cores, .slices, .net, .endpoints, .links, .fast, .stns, .fes, .pwr, .dist]
  | .linkMonitorAccrual =>
    [.links]
  | .rtrTc0bktWrite _ _ _ =>
    [.regs, .endpoints]
  | .ebb _ | .coreReset _ _ | .coreRelease _ _ =>
    [.fresh, .regs, .mem, .memPoison, .cores, .slices, .net, .endpoints, .ldls]
  | .reopen _ | .markerArrive _ _ _ =>
    [.regs, .net, .endpoints]
  | .declare _ | .ebbTimeout _ | .responseTimeout _ =>
    [.regs, .cores, .net, .errq]
  | .fenceMapBroadcast _ _ _ =>
    [.fresh, .regs, .mem, .memPoison, .cores, .slices, .net, .endpoints, .links, .routers, .dist]
  | .markerSend _ _ =>
    [.net, .routers]
  | .partitionEbbStart _ | .partitionEbbDone =>
    [.regs, .partEbb]
  | .partitionEbbTimeout =>
    [.regs, .partEbb, .errq]
  | .trainFull _ | .sppr _ _ _ _ | .hppr _ _ _ _ | .pprComplete _ =>
    [.regs, .chans]
  | .trainDiscard _ | .trainingComplete _ _ =>
    [.regs, .mem, .memPoison, .chans]
  | .resumeComplete _ _ =>
    [.regs, .cores, .net, .endpoints, .links, .chans, .pwr, .dist]
  | .selfRefreshEntered _ =>
    [.fresh, .regs, .mem, .memPoison, .cores, .slices, .net, .endpoints, .chans, .ldls, .pwr, .dist]
  | .dramctlApply =>
    [.regs, .decode]
  | .mcRead _ _ _ _ _ _ | .mcWrite _ _ _ _ _ | .memoryTokenAccrual _ =>
    [.fresh, .regs, .mem, .memPoison, .chans, .memTok, .errq]
  | .mirrorSecondaryRead _ _ _ _ | .patrolRead _ _ _ =>
    [.fresh, .regs, .mem, .memPoison, .chans, .errq]
  | .demandScrubWrite _ _ | .tc0WindowOpen _ | .tc0WindowClose _ =>
    [.chans]
  | .refresh _ =>
    []
  | .alertN _ _ | .writeCrcError _ _ =>
    [.regs, .cores, .net, .chans, .errq]
  | .flnCtlWrite _ _ | .quadReferenceChange _ _ | .anResolve _ _ | .linkTrainingComplete _ | .linkTrainingTimeout _ | .blockLock _ | .holdExpire _ =>
    [.regs, .time, .lanes, .fast, .fns]
  | .lockLoss _ _ =>
    [.regs, .time, .lanes, .fast, .fns, .errq]
  | .frameReceive _ _ _ | .descriptorRead _ _ _ _ | .txFrameComplete _ _ _ | .rxFrameWriteComplete _ _ _ =>
    [.fresh, .regs, .mem, .memPoison, .cores, .slices, .net, .endpoints, .links, .lanes, .fns, .dist]
  | .frameTransmitEnd _ _ _ =>
    [.regs, .lanes, .fast, .fns]
  | .gateIntervalEnd _ =>
    [.fresh, .lanes]
  | .gclSwap _ =>
    [.regs, .lanes]
  | .gclTakeover _ =>
    [.fresh, .regs, .lanes]
  | .ttadjStep _ | .ttadjSlew _ =>
    [.regs, .cores, .time]
  | .ttadjLowerHalf _ | .ppsOutput =>
    [.time]
  | .servoMeasurement _ _ | .ppsEdge =>
    [.fresh, .regs, .cores, .time]
  | .syncTransmit _ | .pdelayReqTransmit _ | .functionEnable _ _ _ | .functionQuiesce _ _ _ | .functionDisable _ _ _ | .txFrameAdmit _ _ =>
    [.regs, .lanes, .fns]
  | .gptpMessageReceive _ _ =>
    [.regs, .time, .lanes, .fns]
  | .stationCommit _ _ =>
    [.regs, .fes]
  | .stationCommitComplete _ =>
    [.regs, .fast, .stns, .fes]
  | .tideFrameInput _ _ _ _ =>
    [.fresh, .regs, .mem, .memPoison, .cores, .slices, .net, .endpoints, .links, .fast, .stns, .fes, .pwr, .dist, .errq]
  | .inputWriteRefused _ _ =>
    [.regs, .net, .stns]
  | .ttStartCheckDone _ _ =>
    [.regs, .tabs]
  | .ttBoundary _ _ =>
    [.regs, .net, .endpoints, .links, .imgs, .tabs, .fes, .ldls, .dist]
  | .ttSend _ _ =>
    [.fresh, .regs, .mem, .memPoison, .cores, .slices, .net, .endpoints, .links, .lanes, .fast, .stns, .tabs, .fes, .fns, .pwr, .dist]
  | .sendOutputReadReturn _ _ | .deadlineExpire _ =>
    [.fresh, .regs, .mem, .memPoison, .cores, .slices, .net, .endpoints, .links, .lanes, .fast, .stns, .fes, .fns, .pwr, .dist]
  | .ttExpect _ _ =>
    [.fresh, .regs, .mem, .memPoison, .cores, .slices, .net, .endpoints, .links, .fast, .stns, .tabs, .fes, .pwr, .dist]
  | .ttEvent _ _ =>
    [.regs, .net, .endpoints, .links, .tabs, .fes, .ldls, .dist]
  | .ttLadle _ _ =>
    [.regs, .tabs, .fes, .ldls, .ldlEngs]
  | .ttFlip _ _ =>
    [.regs, .imgs, .tabs, .fes]
  | .flipComplete _ _ =>
    [.fresh, .regs, .mem, .memPoison, .cores, .slices, .net, .endpoints, .links, .fast, .stns, .imgs, .fes, .pwr, .dist]
  | .ttSync _ _ =>
    [.regs, .lanes, .tabs, .fes, .fns]
  | .ttNop _ _ =>
    [.regs, .tabs, .fes]
  | .lifeSign _ _ _ _ _ _ _ | .mailboxDataStore _ _ _ _ _ _ | .mailboxSend _ _ _ _ _ =>
    [.fresh, .regs, .mem, .memPoison, .cores, .slices, .net, .endpoints, .links, .lanes, .fast, .stns, .imgs, .fes, .fns, .pwr, .dist, .errq]
  | .imageEnable _ _ _ =>
    [.regs, .imgs]
  | .ringInterruptTimer _ _ _ =>
    [.regs, .net, .endpoints, .links, .fns, .dist]
  | .vectorUnmask _ _ _ _ | .sourceLineChange _ _ | .irqPendset _ _ _ | .irqPendclr _ _ _ | .irqEnset _ _ _ | .irqEnclr _ _ _ | .irqCfgWrite _ _
  | .irqCtlWrite _ | .acceptance _ _ _ _ | .withdrawAcknowledgement _ _ | .edgeNote _ _ | .irqVcoreWrite _ _ | .irqPdisc _ | .irqSwsend _ _
  | .irqPttailWrite _ _ | .irqPtbaseWrite _ _ | .prtPcfgWrite _ _ | .flashCopy _ | .flashProgram _ | .flashErase _ =>
    [.regs, .net, .endpoints, .links, .dist]
  | .channelEnable _ _ _ | .channelDisable _ _ _ | .managerStop _ _ _ | .channelAbort _ _ _ | .doorbellStart _ _ | .doorbellStop _ _
  | .doorbellResume _ _ | .doorbellClear _ _ =>
    [.regs, .ldls, .ldlEngs]
  | .stoptmoExpire _ _ | .waitMet _ _ | .eventFlagWrite _ _ _ _ =>
    [.regs, .ldls]
  | .abortComplete _ _ _ =>
    [.fresh, .regs, .mem, .memPoison, .cores, .slices, .ldls, .ldlEngs, .errq]
  | .channelEnterFlight _ =>
    [.ldlEngs]
  | .programFetch _ _ _ =>
    [.fresh, .regs, .mem, .memPoison, .cores, .slices, .net, .endpoints, .links, .ldls, .ldlEngs, .dist]
  | .move _ _ | .fill _ _ | .loop _ _ | .next _ _ | .wait _ _ | .signalSetf _ _ | .signalClrf _ _ | .signalVector _ _ | .signalWrite _ _
  | .setImm _ _ | .setAdd _ _ | .setLoad _ _ | .setAnd _ _ | .setXor _ _ | .endProgram _ _ =>
    [.regs, .net, .endpoints, .links, .ldls, .ldlEngs, .dist]
  | .ladleInstructionComplete _ _ _ =>
    [.fresh, .regs, .mem, .memPoison, .cores, .slices, .net, .endpoints, .links, .ldls, .ldlEngs, .dist, .errq]
  | .sourceEdge _ =>
    [.regs, .net, .endpoints, .links, .dist, .errq]
  | .offerRefused _ _ =>
    [.regs, .net, .pwr, .dist]
  | .postingWriteAck _ _ | .flashOperationComplete _ _ _ =>
    [.fresh, .regs, .mem, .memPoison, .cores, .slices, .net, .endpoints, .links, .dist]
  | .prtPrst _ | .partResetDone _ =>
    [.regs, .net]
  | .partResetReceipt _ _ =>
    [.fresh, .cores, .net, .retainPrst]
  | .errorRecord _ =>
    [.regs, .memPoison, .cores, .slices, .errq, .errlog]
  | .selfTestComplete _ | .correctableLinkOrTlpError _ _ =>
    [.regs, .errq]
  | .pwrDomReqOff _ _ | .pwrDomReqRun _ _ | .pwrDomReqRetain _ _ =>
    [.fresh, .regs, .mem, .memPoison, .cores, .slices, .tileMnt, .net, .endpoints, .links, .routers, .partEbb, .chans, .time, .lanes, .fast, .stns,
    .imgs, .tabs, .fes, .fns, .ldls, .ldlEngs, .pwr, .hif, .dist, .retainPrst]
  | .domainPowerGood _ | .pointOfNoReturn _ | .chipWake =>
    [.fresh, .regs, .mem, .memPoison, .cores, .slices, .tileMnt, .net, .endpoints, .links, .routers, .partEbb, .chans, .lanes, .fast, .stns, .imgs,
    .tabs, .fes, .fns, .ldls, .ldlEngs, .pwr, .hif, .dist, .retainPrst]
  | .retentionSwitch _ =>
    [.fresh, .regs, .mem, .memPoison, .cores, .slices, .tileMnt, .endpoints, .links, .routers, .partEbb, .chans, .lanes, .fast, .stns, .imgs, .tabs,
    .fes, .fns, .ldls, .ldlEngs, .pwr, .hif, .dist, .retainPrst]
  | .retainRestored _ =>
    [.fresh, .regs, .cores, .net, .endpoints, .pwr, .retainPrst]
  | .wakeEvent _ | .wakePin _ _ | .alarm | .neapRequest _ _ | .standbyRequest _ _ | .avsGo _ | .avsVoutRead _ | .avsTimeout =>
    [.regs, .pwr]
  | .chipStatePointOfNoReturn =>
    [.fresh, .regs, .mem, .memPoison, .cores, .slices, .net, .endpoints, .time, .lanes, .fast, .fns, .ldls, .pwr, .dist]
  | .pwrReset =>
    [.fuse, .fresh, .regs, .mem, .memPoison, .cores, .slices, .tileMnt, .decode, .net, .endpoints, .links, .routers, .partEbb, .chans, .memTok,
    .time, .lanes, .fast, .stns, .imgs, .tabs, .fes, .fns, .ldls, .ldlEngs, .pwr, .svc, .hif, .ident, .tap, .dist, .retainPrst, .errq, .errlog,
    .lastRead]
  | .coldRstN | .watchdogStage2 =>
    [.fuse, .fresh, .regs, .mem, .memPoison, .cores, .slices, .tileMnt, .decode, .net, .endpoints, .links, .routers, .partEbb, .chans, .memTok,
    .time, .lanes, .fast, .stns, .imgs, .tabs, .fes, .fns, .ldls, .ldlEngs, .pwr, .svc, .hif, .ident, .dist, .retainPrst, .errq, .lastRead]
  | .warmRstN =>
    [.fuse, .fresh, .regs, .pwr, .svc, .ident, .errq]
  | .boot _ =>
    [.fresh, .regs, .mem, .memPoison, .cores, .slices, .tileMnt, .net, .endpoints, .links, .routers, .partEbb, .chans, .lanes, .fast, .stns, .imgs,
    .tabs, .fes, .fns, .ldls, .ldlEngs, .svc, .hif, .tap, .dist, .retainPrst, .errq]
  | .watchdogEnable _ | .watchdogKick _ | .watchdogStage1 | .fuseProgramSlot _ | .fuseRevokeSlot _ | .fuseSetSvn _ =>
    [.regs, .svc]
  | .coreResetComplete _ =>
    [.regs, .cores, .net, .endpoints]
  | .fuseCommandComplete =>
    [.fuse, .regs, .svc]
  | .dlupChange _ _ _ _ _ | .uncorrectableErrorDetected _ _ =>
    [.regs, .cores, .errq]
  | .configurationRequest _ _ _ _ =>
    [.regs, .hif]
  | .inboundRequest _ _ _ | .messageWrite _ _ _ _ =>
    [.regs, .net, .endpoints, .links, .hif, .dist]
  | .heatMarkRead _ _ | .heatMarkWrite _ | .challenge _ | .smbHeatMarkRead _ _ _ _ | .smbHeatMarkWrite _ _ _ _ =>
    [.regs, .ident, .errq]
  | .challengeComplete | .smbChallenge _ _ =>
    [.fresh, .regs, .ident, .errq]
  | .smbReadIdentity | .smbResponse | .smbCertificate _ _ =>
    [.ident]
  | .inboundRequestPerformed _ =>
    [.fresh, .regs, .mem, .memPoison, .cores, .slices, .net, .endpoints, .links, .hif, .dist]
  | .txSegmentReadReturn _ _ _ =>
    [.fresh, .regs, .mem, .memPoison, .cores, .slices, .fns]
  | .tapInstruction _ _ =>
    [.tap]

/-! ### When an instruction is taken -/

/-- Core `n` takes an instruction of `len` bytes now and runs it: nothing of the core's own is in progress, no machine check and no pace slip waits for the
boundary, and the instruction stands where the fetch finds it at once. -/
def State.takes (s : State) (n len : Nat) : Prop :=
  s.canIssue n = true ∧ (s.core n).mcPending = none ∧ (s.core n).slipPending = false ∧ s.fetchTrap n len = none ∧ s.fetchHit n len = true

/-- Nothing uncorrectable is found with the instruction, and no pair divergence. -/
def envClean (v : IssueEnv) (c : Core) : Prop :=
  v.fetchPoison = false ∧ v.l1crc ≤ 1 ∧ v.regError = false ∧ (v.diverge = true → c.paired = false)

/-- An instruction of INSTRUCTION_ISSUE issues: it is taken, it is clean, and none of its registers waits for a load in flight. -/
def State.issues (s : State) (n : Nat) (op : IssueOp) (len : Nat) (v : IssueEnv) : Prop :=
  s.takes n len ∧ envClean v (s.core n) ∧
  (s.core n).blockedBy (((s.core n).issueInfo op).srcs ++ ((s.core n).issueInfo op).dsts) false false = false

/-- Beside core `n`, its pace register, the errors detected and the free values drawn, nothing changes. -/
def CoreOnly (n : Nat) (s t : State) : Prop :=
  OnlyChanges [.fresh, .regs, .cores, .errq] s t ∧ (∀ m, m ≠ n → t.core m = s.core m) ∧ (∀ a, a ≠ Reg.CORE_PACESTAT n → t.reg a = s.reg a)

/-- As CoreOnly, and in core `n` the floating-point and vector registers and the level stay. -/
def IntegerOnly (n : Nat) (s t : State) : Prop :=
  (t.core n).fr = (s.core n).fr ∧ (t.core n).vr = (s.core n).vr ∧ (t.core n).level = (s.core n).level ∧ CoreOnly n s t

/-- Core `n` has begun the entry for exception `k` with the given TVAL, TINFO and EPC (R167, R169, R174): its level and registers are still those of the
interrupted code. -/
def EntryBegun (n k : Nat) (tval tinfo epc : Word) (s t : State) : Prop :=
  (t.core n).entry = some { kind := .exception, target := (s.core n).excTarget k, from_ := (s.core n).level, cause := BitVec.ofNat 64 k,
                            tval := tval, tinfo := tinfo, epc := epc } ∧
  (t.core n).x = (s.core n).x ∧ (t.core n).fr = (s.core n).fr ∧ (t.core n).vr = (s.core n).vr ∧ (t.core n).level = (s.core n).level ∧
  (t.core n).pc = (s.core n).pc

/-- Nothing delays the trap of an instruction: in slack water no load is in flight (R130). -/
def State.trapsNow (s : State) (n : Nat) : Prop := (s.core n).isSlack = false ∨ (s.core n).loads = []

/-- Core `n` takes a device-specific instruction now, at its lowest level or above (R157, R182). -/
def State.takesAt (s : State) (n : Nat) (need : Level) : Prop := s.takes n 4 ∧ levelTrap need (s.core n).level = none

/-- As IntegerOnly, and the integer registers stay too: no register that an instruction computes with changes. -/
def NoRegister (n : Nat) (s t : State) : Prop := (t.core n).x = (s.core n).x ∧ IntegerOnly n s t

/-- A CSR that is stored under its own number and written by the CSR instruction alone: no counter, no selector of one, and none of PACECTL, PAIRCTL and
PREDCTL, whose writes do more. -/
def csrPlain (csr : Nat) : Prop :=
  csrHome csr < 0xC00 ∧ ¬(0x6D3 ≤ csrHome csr ∧ csrHome csr ≤ 0x6E2) ∧ csr ≠ C.pacectl ∧ csr ≠ C.pairctl ∧ csr ≠ C.predctl

/-- Slice `h` is the home of line `l`, stands ready for a request for it, and its set has a directory that works: no broadcast mode (R241, R256, R264). -/
def State.homeReady (s : State) (h l : Nat) : Prop :=
  s.home l = h ∧ s.hasTile h = true ∧ s.armed = false ∧ (s.slice h).txn l = none ∧ (s.slice h).bcast.contains (dirSet l) = false ∧
  (s.slice h).failed.contains (dirSet l) = false

/-- Nothing of core `n` waits for a line: no load, no AMO and no store. -/
def Core.quiet (c : Core) : Prop := c.loads = [] ∧ c.amos = [] ∧ c.stores = []

/-- The next entry of table `k` of engine `e` is action `act` and the sequencer can start it before its cycle ends (R374, R378). -/
def State.entryDue (s : State) (e k act : Nat) : Prop :=
  s.hasFe e = true ∧ k < 8 ∧ (s.ttState e k = 2 ∨ s.ttState e k = 3) ∧ (s.tab (tabKey e k)).next < s.ttLen e k ∧
  entAction (s.ttEntry e k (s.tab (tabKey e k)).next) = act ∧
  s.startAt e ((s.tab (tabKey e k)).start + entOffset (s.ttEntry e k (s.tab (tabKey e k)).next)) < (s.tab (tabKey e k)).start + s.ttPeriod e k

/-- The operand of that entry. -/
def State.entryOp (s : State) (e k : Nat) : Word := (s.ttEntry e k (s.tab (tabKey e k)).next).2

/-- The table has passed that entry. -/
def State.entryPassed (s t : State) (e k : Nat) : Prop := t.tab (tabKey e k) = { s.tab (tabKey e k) with next := (s.tab (tabKey e k)).next + 1 }

/-- `n` bytes at guest-physical `a` of a function lie in one of its windows, at physical `p`, in cast memory that answers the engine (R33, R390). -/
def State.fnCast (s : State) (e f a n p : Nat) : Prop :=
  s.fnXlate e f a n = some p ∧ s.engOk (feRouter e) (s.fnOwner e f) p n = true ∧ ∃ c, regionOf p = .coreCast c ∨ regionOf p = .sharedCast c

/-- Channel `c` of ladle engine `l` is RUNNING at the valid instruction `v`, which its fetch buffer holds, and nothing of it is under way (R462, R465). -/
def State.ldlAt (s : State) (l c v : Nat) : Prop :=
  s.hasCh l c = true ∧ s.chState l c = chRunning ∧ (s.ldl (ldlKey l c)).cur = none ∧ s.chInstr l c = some v ∧ ldlInvalid v = false

/-- The channel goes on at the next instruction. -/
def State.ldlGoesOn (s t : State) (l c : Nat) : Prop := t.chPc l c = (s.chPc l c + 16) % 2 ^ 48 ∧ t.chState l c = chRunning

/-- The channel has failed with a code (R456). -/
def State.ldlFailed (t : State) (l c code : Nat) : Prop := t.chState l c = chError ∧ t.fld (Reg.LDL_CHSTAT l c) F.LDL_CHSTAT_ERRCODE = code

/-- Every access to part of the `n` bytes at the channel's address `a` goes to cast memory at physical `p` on and is answered (R33, R444, R457). -/
def State.chCast (s : State) (l c a n p : Nat) : Prop :=
  ∀ i k, i + k ≤ n → 0 < k → s.chXlate l c (a + i) k = some (p + i) ∧ s.chOk l c (p + i) k = true ∧
    ∃ d, regionOf (p + i) = .coreCast d ∨ regionOf (p + i) = .sharedCast d

/-- A step that goes on. -/
def Goes (s t : State) : Prop := step s = .next t

/-- A step is safe: it goes on. -/
def SafeStep (s : State) : Prop := ∃ t, Goes s t

/-- `n` steps from `s` all go on and end in `t`. -/
def Runs : Nat → State → State → Prop
  | 0, s, t => s = t
  | n + 1, s, t => ∃ u, Goes s u ∧ Runs n u t

end Sys2Proof.Machine
end

