-- ==== Sys2Proof/Certificates/Slice0/Obligations.lean ====
section
/-!
DEFINITION. The statements for the provers, each a rule of the spec or a property of the whole block. OBLIGATIONS.json lists them.
-/
open Sys2Proof Sys2Proof.Machine

/-- R97, R105, R112: an integer instruction, a jump or a branch that issues writes its result to its destination (a write of x0 is discarded), sets the pc, and
changes nothing else that software holds. The results are those of the published ISA that R97 names (log 8). -/
def Obligations.IntegerInstructionsWriteTheirResult : Prop :=
  ∀ (s : State) (n len : Nat) (v : IssueEnv),
    (∀ o rd rs1 s2, s.issues n (.alu o rd rs1 s2) len v → ∃ t, exec (.instructionIssue n (.alu o rd rs1 s2) len v) s = .next t ∧
      (t.core n).x = ((s.core n).wx rd (aluResult o ((s.core n).rx rs1) ((s.core n).src2 s2))).x ∧
      (t.core n).pc = (s.core n).pc + BitVec.ofNat 64 len ∧ IntegerOnly n s t) ∧
    (∀ rd i, s.issues n (.lui rd i) len v → ∃ t, exec (.instructionIssue n (.lui rd i) len v) s = .next t ∧
      (t.core n).x = ((s.core n).wx rd i).x ∧ (t.core n).pc = (s.core n).pc + BitVec.ofNat 64 len ∧ IntegerOnly n s t) ∧
    (∀ rd i, s.issues n (.auipc rd i) len v → ∃ t, exec (.instructionIssue n (.auipc rd i) len v) s = .next t ∧
      (t.core n).x = ((s.core n).wx rd ((s.core n).pc + i)).x ∧ (t.core n).pc = (s.core n).pc + BitVec.ofNat 64 len ∧ IntegerOnly n s t) ∧
    (s.issues n .hint len v → ∃ t, exec (.instructionIssue n .hint len v) s = .next t ∧
      (t.core n).x = (s.core n).x ∧ (t.core n).pc = (s.core n).pc + BitVec.ofNat 64 len ∧ IntegerOnly n s t) ∧
    (∀ o a b off, s.issues n (.branch o a b off) len v → ∃ t, exec (.instructionIssue n (.branch o a b off) len v) s = .next t ∧
      (t.core n).x = (s.core n).x ∧
      (t.core n).pc = (if branchTaken o ((s.core n).rx a) ((s.core n).rx b) then (s.core n).pc + off else (s.core n).pc + BitVec.ofNat 64 len) ∧
      IntegerOnly n s t) ∧
    (∀ rd off, s.issues n (.jal rd off) len v → ∃ t, exec (.instructionIssue n (.jal rd off) len v) s = .next t ∧
      (t.core n).x = ((s.core n).wx rd ((s.core n).pc + BitVec.ofNat 64 len)).x ∧ (t.core n).pc = (s.core n).pc + off ∧ IntegerOnly n s t) ∧
    (∀ rd rs1 off, s.issues n (.jalr rd rs1 off) len v → ∃ t, exec (.instructionIssue n (.jalr rd rs1 off) len v) s = .next t ∧
      (t.core n).x = ((s.core n).wx rd ((s.core n).pc + BitVec.ofNat 64 len)).x ∧
      (t.core n).pc = (((s.core n).rx rs1 + off) &&& ~~~ 1) ∧ IntegerOnly n s t)

/-- R97 to R99: a floating-point instruction with a rounding mode that exists writes its result and adds its flags to fcsr; one whose rounding mode is
reserved, and an undefined or illegal encoding, begin an illegal-instruction entry (R167). The results are those of the published ISA (log 8).
R98: a legal vector instruction of a core with the vector unit writes its elements or its scalar register (the results are those of published V 1.0,
log 8; an unordered floating-point sum is a free value, log 3), adds its flags, leaves vstart 0 and moves the pc; elements outside its body and masked-off
ones stay undisturbed. vsetvl with a usable setting sets vtype and vl: kept, the request where it is at most VLMAX, VLMAX where it is at least twice that;
with an unusable one it sets vill and clears vl. An illegal one, and each without the vector unit, begins an illegal-instruction entry (R8). -/
def Obligations.FloatingPointAndVectorInstructions : Prop :=
  (∀ (s : State) (n len : Nat) (v : IssueEnv),
     (∀ o dbl rm rd a b d r, s.issues n (.fp o dbl rm rd a b d) len v → (s.core n).rmOf rm = some r →
       let q := fpResult o dbl r ((s.core n).rf a) ((s.core n).rf b) ((s.core n).rf d) ((s.core n).rx a)
       ∃ t, exec (.instructionIssue n (.fp o dbl rm rd a b d) len v) s = .next t ∧
         (t.core n).x = (if fpToX o then (s.core n).wx rd q.1 else s.core n).x ∧
         (t.core n).fr = (if fpToX o then s.core n else (s.core n).wf rd q.1).fr ∧ (t.core n).vr = (s.core n).vr ∧
         (t.core n).csrv C.fcsr = ((s.core n).setFflags q.2).csrv C.fcsr ∧
         (t.core n).pc = (s.core n).pc + BitVec.ofNat 64 len ∧ CoreOnly n s t) ∧
     (∀ o dbl rm rd a b d, s.issues n (.fp o dbl rm rd a b d) len v → (s.core n).rmOf rm = none → s.trapsNow n →
       ∃ t, exec (.instructionIssue n (.fp o dbl rm rd a b d) len v) s = .next t ∧ EntryBegun n 2 v.enc 0 (s.core n).pc s t) ∧
     (∀ enc, s.issues n (.illegal enc) len v → s.trapsNow n →
       ∃ t, exec (.instructionIssue n (.illegal enc) len v) s = .next t ∧ EntryBegun n 2 enc 0 (s.core n).pc s t)) ∧
  (∀ (s : State) (n len : Nat) (v : IssueEnv),
     (∀ o vd vs2 src m, s.issues n (.vec o vd vs2 src m) len v → s.fuse.vec = true → (s.core n).vLegal o vd vs2 src m = true →
       let r := (s.core n).vResult o vd vs2 src m
       let w := (s.core n).vWrite o vd r
       ∃ t, exec (.instructionIssue n (.vec o vd vs2 src m) len v) s = .next t ∧ (t.core n).csrv C.vstart = 0 ∧
         (t.core n).x = w.x ∧ (t.core n).fr = w.fr ∧ (t.core n).pc = (s.core n).pc + BitVec.ofNat 64 len ∧ CoreOnly n s t ∧
         ((s.core n).vUnordered o m = false → (t.core n).vr = w.vr ∧ (t.core n).csrv C.fcsr = w.csrv C.fcsr ∧ (t.core n).csrv C.vcsr = w.csrv C.vcsr ∧
           ∀ i, i ∉ r.els.map Prod.fst → (t.core n).vEl vd r.w i = (s.core n).vEl vd r.w i) ∧
         ((s.core n).vUnordered o m = true → ∀ k, k ≠ vd → (t.core n).rv k = (s.core n).rv k)) ∧
     (∀ rd a keep w, s.issues n (.vset rd a keep w) len v → s.fuse.vec = true → (s.core n).vsetOk keep ((s.core n).src2 w) = true →
       let most := vlmaxOf ((s.core n).src2 w)
       let avl := ((s.core n).src2 a).toNat
       ∃ t, exec (.instructionIssue n (.vset rd a keep w) len v) s = .next t ∧ (t.core n).csrv C.vtype = (s.core n).src2 w ∧
         (t.core n).x = ((s.core n).wx rd ((t.core n).csrv C.vl)).x ∧
         (keep = true → (t.core n).csrv C.vl = (s.core n).csrv C.vl) ∧
         (keep = false → ((t.core n).csrv C.vl).toNat ≤ most ∧ (avl ≤ most → (t.core n).csrv C.vl = (s.core n).src2 a) ∧
           (2 * most ≤ avl → ((t.core n).csrv C.vl).toNat = most)) ∧
         (t.core n).fr = (s.core n).fr ∧ (t.core n).vr = (s.core n).vr ∧ (t.core n).pc = (s.core n).pc + BitVec.ofNat 64 len ∧ CoreOnly n s t) ∧
     (∀ rd a keep w, s.issues n (.vset rd a keep w) len v → s.fuse.vec = true → (s.core n).vsetOk keep ((s.core n).src2 w) = false →
       ∃ t, exec (.instructionIssue n (.vset rd a keep w) len v) s = .next t ∧ (t.core n).x = ((s.core n).wx rd 0).x ∧
         (t.core n).csrv C.vtype = bitW 63 ∧ (t.core n).csrv C.vl = 0 ∧
         (t.core n).fr = (s.core n).fr ∧ (t.core n).vr = (s.core n).vr ∧ (t.core n).pc = (s.core n).pc + BitVec.ofNat 64 len ∧ CoreOnly n s t) ∧
     (∀ op, s.takes n len → envClean v (s.core n) → s.trapsNow n → (needsVec op = true ∧ s.fuse.vec = false ∨ (s.core n).vRejects op = true) →
       ∃ t, exec (.instructionIssue n op len v) s = .next t ∧ EntryBegun n 2 v.enc 0 (s.core n).pc s t))

/-- R76, R85, R217, R221: a load and an LR from the own cast window deliver the bytes there, extended or boxed as the instruction asks, advance the pc and change
no byte of memory; an LR takes its reservation. The load lies in one line, meets no failed check and no poison, and overlaps no older store.
R76, R78, R79: in flood mode a load of a DRAM line that the L2 does not hold waits and asks the home for the line; LOAD_COMPLETE then delivers it from the
line that the L2 holds; an instruction whose own line of code is such a line asks for it and waits in the same way. None changes a byte of memory. -/
def Obligations.LoadsDeliverTheirData : Prop :=
  (∀ (s : State) (n rs1 w fill len : Nat) (k : Checked), regionOf k.pa = .coreCast (s.ownWindow n) → k.w2 = 0 → s.populated k.pa k.w = true →
     s.anyPoison k.pa k.w = false → (∀ e ∈ (s.core n).stores, e.overlaps k.pa k.w = false) →
     (∀ dest off sx ch, s.takes n len → s.meetChecks n .load ((s.core n).rx rs1 + off) w ch = s →
       Check.l1Again ∉ ch → s.checkAccess n .load ((s.core n).rx rs1 + off) w = .ok k → (s.core n).blockedBy [destReg dest, rs1] false false = false →
       ∃ t, exec (.load n dest rs1 off w sx len fill ch) s = .next t ∧
         (t.core n).x = ((s.core n).deliver dest sx (leWord (s.bytes k.pa k.w)) k.w).x ∧
         (t.core n).fr = ((s.core n).deliver dest sx (leWord (s.bytes k.pa k.w)) k.w).fr ∧
         (t.core n).pc = (s.core n).pc + BitVec.ofNat 64 len ∧ t.mem = s.mem ∧ t.memPoison = s.memPoison ∧ (∀ m, m ≠ n → t.core m = s.core m)) ∧
     (∀ rd, s.takes n 4 → (s.core n).isStrict = false → s.checkAccess n .lr ((s.core n).rx rs1) w = .ok k →
       (s.core n).blockedBy [rd, rs1] false false = false →
       ∃ t, exec (.lr n rd rs1 w fill) s = .next t ∧ (t.core n).x = ((s.core n).wx rd (extendLoad true k.w (leWord (s.bytes k.pa k.w)))).x ∧
         (t.core n).resv = some (k.pa / 64) ∧ (t.core n).pc = (s.core n).pc + 4 ∧ t.mem = s.mem ∧ t.memPoison = s.memPoison)) ∧
  ((∀ (s : State) (n rs1 w fill len : Nat) (k : Checked) (dest : LdDest) (off : Word) (sx : Bool) (ch : List Check), s.takes n len →
     (s.core n).isSlack = false → s.meetChecks n .load ((s.core n).rx rs1 + off) w ch = s → Check.l1Again ∉ ch →
     s.checkAccess n .load ((s.core n).rx rs1 + off) w = .ok k → regionOf k.pa = .dram → k.w2 = 0 → (s.core n).has (k.pa / 64) = false →
     (∀ e ∈ (s.core n).stores, e.overlaps k.pa k.w = false) → s.mayInject n = true → s.ebbRefused n = false →
     (s.core n).ev (k.pa / 64) = none → (s.core n).reqOf (k.pa / 64) = none → (s.core n).req.length < 48 → s.homesHeld = false →
     ∃ t, exec (.load n dest rs1 off w sx len fill ch) s = .next t ∧
       (t.core n).loads = (s.core n).loads ++ [{ dest := dest, pa := k.pa, width := k.w, va := (s.core n).rx rs1 + off, sx := sx, pc := (s.core n).pc, len := len }] ∧
       Msg.req (s.home (k.pa / 64)) (k.pa / 64) n .rds 0 (s.core n).part ∈ t.net ∧ (t.core n).pc = (s.core n).pc ∧
       (t.core n).x = (s.core n).x ∧ t.mem = s.mem) ∧
   (∀ (s : State) (n idx step : Nat) (ans : Answer) (w : LdWait), (s.core n).loads[idx]? = some w → (s.core n).run = .run → (s.core n).entry = none →
     (∀ e ∈ (s.core n).stores, e.overlaps w.pa w.width = false) → w.width2 = 0 → regionOf w.pa = .dram → w.lr = false → w.twp = false →
     ((s.core n).l2line (w.pa / 64)).st ≠ .i → ((s.core n).l2line (w.pa / 64)).poison = 0 → (s.core n).isSlack = false →
     let v := leWord (lineSlice ((s.core n).l2line (w.pa / 64)).data (w.pa % 64) w.width)
     ∃ t, exec (.loadComplete n idx ans step) s = .next t ∧ (t.core n).loads = (s.core n).loads.eraseIdx idx ∧
       (t.core n).x = ((s.core n).deliver w.dest w.sx v w.width).x ∧ (t.core n).fr = ((s.core n).deliver w.dest w.sx v w.width).fr ∧
       (t.core n).pc = (s.core n).pc + BitVec.ofNat 64 w.len ∧ t.mem = s.mem) ∧
   (∀ (s : State) (n len : Nat) (op : IssueOp) (env : IssueEnv) (k : Checked), s.canIssue n = true → (s.core n).mcPending = none →
     (s.core n).slipPending = false → s.armed = false → s.fetchTrap n len = none → s.checkAccess n .fetch (s.core n).pc len = .ok k → regionOf k.pa = .dram →
     (s.core n).l1i.contains (k.pa / 64) = false → (s.core n).has (k.pa / 64) = false → s.mayInject n = true → (s.core n).ev (k.pa / 64) = none →
     (s.core n).reqOf (k.pa / 64) = none → (s.core n).req.length < 48 → s.homesHeld = false →
     ∃ t, exec (.instructionIssue n op len env) s = .next t ∧ Msg.req (s.home (k.pa / 64)) (k.pa / 64) n .rds 0 (s.core n).part ∈ t.net ∧
       (t.core n).pc = (s.core n).pc ∧ (t.core n).x = (s.core n).x ∧ (t.core n).fr = (s.core n).fr ∧ t.mem = s.mem))

/-- R78, R79, R87, R125, R268: a store enters the store queue or buffer with its bytes in little-endian order, a store to control space or PCIe space waits for its
target, which it is sent to, and a store to a mailbox with a token is sent; the pc advances past a store that need not wait, and no byte of memory changes yet.
R78, R125, R217: the oldest entry leaves the queue (flood mode, STORE_DRAIN) or the buffer (slack water, STORE_BUFFER_ENTRY_LEAVE) with all its pieces, here
stores to the own cast window: each byte reads as the youngest piece that covers it has it, and every other byte is as before.
R29, R79, R119, R129: an acknowledged device store retires and the pc moves past it; an acknowledged store to a cast window is no longer outstanding. Neither
changes a byte of memory. -/
def Obligations.StoresReachMemory : Prop :=
  (∀ (s : State) (n rs1 rs2 w fill len : Nat) (fp : Bool) (off : Word) (ch : List Check) (k : Checked), s.takes n len →
     s.meetChecks n .store ((s.core n).rx rs1 + off) w ch = s → s.checkAccess n .store ((s.core n).rx rs1 + off) w = .ok k →
     (s.core n).blockedBy [rs1, dataReg fp rs2] false false = false →
     let v := if fp then (s.core n).rf rs2 else (s.core n).rx rs2
     ((regionOf k.pa = .dram ∨ ∃ c, regionOf k.pa = .coreCast c ∨ regionOf k.pa = .sharedCast c) → (s.core n).storeRoom (if k.w2 = 0 then 1 else 2) = true →
       s.ebbRefused n = false →
       ∃ t i, exec (.store n rs1 rs2 fp off w len fill ch) s = .next t ∧
         (t.core n).stores = (s.core n).stores ++ { pa := k.pa, bytes := (leBytes w v.toNat).take k.w, part := (s.core n).part, issued := i } ::
           (if k.w2 = 0 then [] else [{ pa := k.pa2, bytes := (leBytes w v.toNat).drop k.w, part := (s.core n).part, issued := i }]) ∧
         (t.core n).pc = (s.core n).pc + BitVec.ofNat 64 len ∧ (t.core n).x = (s.core n).x ∧ t.mem = s.mem ∧ t.memPoison = s.memPoison) ∧
     ((regionOf k.pa = .control ∨ regionOf k.pa = .pcie) → s.mayInject n = true → s.ebbRefused n = false →
       ∃ t, exec (.store n rs1 rs2 fp off w len fill ch) s = .next t ∧
         (t.core n).devs = (s.core n).devs ++ [{ pa := k.pa, width := w, value := v, va := (s.core n).rx rs1 + off, len := len }] ∧
         t.net = s.net ++ [.devAccess n k.pa w true v] ∧ (t.core n).pc = (s.core n).pc ∧ t.mem = s.mem) ∧
     (∀ e, regionOf k.pa = .mailbox e → s.mayInject n = true → s.ebbRefused n = false → s.tc0Ready (epCore n) 1 = true →
       ∃ t, exec (.store n rs1 rs2 fp off w len fill ch) s = .next t ∧ (t.core n).mbxSent = (s.core n).mbxSent ++ [e] ∧
         (t.core n).pc = (s.core n).pc + BitVec.ofNat 64 len ∧ t.mem = s.mem)) ∧
  (∀ (s : State) (n : Nat) (e : StEnt) (rest : List StEnt), (s.core n).stores = e :: rest → (s.core n).alive = true → (s.core n).entry = none →
     let g := e :: rest.takeWhile (·.cont)
     (∀ d ∈ g, regionOf d.pa = .coreCast (s.ownWindow n) ∧ s.populated d.pa d.bytes.length = true ∧ d.poison = []) →
     let after (a : Nat) : Byte := match g.reverse.find? (fun d => decide (d.pa ≤ a) && decide (a < d.pa + d.bytes.length)) with
       | some d => d.bytes.getD (a - d.pa) 0
       | none => s.byte a
     ((s.core n).isSlack = false →
       ∃ t, exec (.storeDrain n) s = .next t ∧ (t.core n).stores = rest.dropWhile (·.cont) ∧ (t.core n).x = (s.core n).x ∧
         (t.core n).pc = (s.core n).pc ∧ ∀ a, t.byte a = after a) ∧
     ((s.core n).isSlack = true →
       ∃ t, exec (.storeBufferEntryLeave n []) s = .next t ∧ (t.core n).stores = rest.dropWhile (·.cont) ∧ (t.core n).x = (s.core n).x ∧
         (t.core n).pc = (s.core n).pc ∧ (t.core n).slack.lastLeft = max e.issued (s.core n).slack.lastLeft + 2 ∧ ∀ a, t.byte a = after a)) ∧
  ((∀ (s : State) (n : Nat) (d : DevWait) (rest : List DevWait), (s.core n).devs = d :: rest → s.devDelivers n d.pa = true → s.pcieFault d.pa = false →
     ∃ t, exec (.deviceStoreAcknowledge n) s = .next t ∧ (t.core n).devs = rest ∧ (t.core n).pc = (s.core n).pc + BitVec.ofNat 64 d.len ∧
       (t.core n).x = (s.core n).x ∧ t.mem = s.mem ∧ t.regs = s.regs ∧ ∀ m, m ≠ n → t.core m = s.core m) ∧
   (∀ (s : State) (n : Nat), 0 < (s.core n).castAcks →
     ∃ t, exec (.castStoreAcknowledge n) s = .next t ∧ t.core n = { s.core n with castAcks := (s.core n).castAcks - 1 } ∧
       OnlyChanges [.cores, .net] s t ∧ ∀ m, m ≠ n → t.core m = s.core m))

/-- R84, R85: an AMO on the own cast window writes the combined value, returns the old one and moves the pc by 4; an SC whose reservation still holds writes its
register and returns 0; one without it writes nothing and returns 1. Either SC ends the reservation. Bytes outside the word are as before.
R92, R98, R123, R129, R167: a legal vector access whose elements all complete leaves vstart 0 and moves the pc by 4, and an illegal one (log 8) begins an
illegal-instruction entry; FENCE completes once the older stores have left;
FENCE.I also invalidates the L1I; ECALL and EBREAK begin the entries of their causes. -/
def Obligations.AtomicsVectorAccessesAndFences : Prop :=
  (∀ (s : State) (n rd rs1 rs2 w fill : Nat) (k : Checked), s.takes n 4 → regionOf k.pa = .coreCast (s.ownWindow n) → k.w = w →
     s.populated k.pa w = true → s.anyPoison k.pa w = false → (∀ e ∈ (s.core n).stores, e.overlaps k.pa k.w = false) →
     (s.core n).blockedBy [rd, rs1, rs2] false false = false →
     let m : Word := BitVec.ofNat 64 (leWord (s.bytes k.pa w))
     (∀ op, s.checkAccess n .amo ((s.core n).rx rs1) w = .ok k →
       let b := leBytes w (amoResult op w m ((s.core n).rx rs2)).toNat
       ∃ t, exec (.amo n op rd rs1 rs2 w fill) s = .next t ∧ (t.core n).x = ((s.core n).wx rd (if w = 4 then sx32 m else m)).x ∧
         (t.core n).pc = (s.core n).pc + 4 ∧
         ∀ a, t.byte a = if k.pa ≤ a ∧ a < k.pa + b.length then b.getD (a - k.pa) 0 else s.byte a) ∧
     ((s.core n).isStrict = false → s.checkAccess n .sc ((s.core n).rx rs1) w = .ok k → (s.core n).resv = some (k.pa / 64) →
       let b := leBytes w ((s.core n).rx rs2).toNat
       ∃ t, exec (.sc n rd rs1 rs2 w fill) s = .next t ∧ (t.core n).x = ((s.core n).wx rd 0).x ∧ (t.core n).resv = none ∧
         (t.core n).pc = (s.core n).pc + 4 ∧
         ∀ a, t.byte a = if k.pa ≤ a ∧ a < k.pa + b.length then b.getD (a - k.pa) 0 else s.byte a) ∧
     ((s.core n).isStrict = false → s.checkAccess n .sc ((s.core n).rx rs1) w = .ok k → (s.core n).resv ≠ some (k.pa / 64) →
       ∃ t, exec (.sc n rd rs1 rs2 w fill) s = .next t ∧ (t.core n).x = ((s.core n).wx rd 1).x ∧ (t.core n).resv = none ∧
         (t.core n).pc = (s.core n).pc + 4 ∧ t.mem = s.mem)) ∧
  (∀ (s : State) (n : Nat), s.takes n 4 →
     (∀ (kind : VMemKind) (st m : Bool) (vd rs1 eew : Nat) (enc : Word) (fill : Nat), s.fuse.vec = true →
       let c := s.core n
       let vt := c.csrv C.vtype
       let parts := (s.elemParts n st (c.vmemElems kind m vd rs1 eew)).flatten
       (∀ s2, vmemLegal kind st m vt vd eew = true →
         c.blockedBy (vmemReads kind m vt rs1 eew ++ vmemRegs kind vt vd eew) false (!st && parts.any (fun p => s.accClass n .load p.1 == 1)) = false →
         s.mayInject n = true → s.vmemRun n kind st m vd rs1 eew fill = .done s2 →
         ∃ t, exec (.vectorMemoryAccess n kind st m vd rs1 eew enc fill) s = .next t ∧ (t.core n).csrv C.vstart = 0 ∧
           (t.core n).pc = (s2.core n).pc + 4 ∧ (t.core n).vr = (s2.core n).vr ∧ (t.core n).x = (s2.core n).x ∧ t.mem = s2.mem) ∧
       (vmemLegal kind st m vt vd eew = false → s.trapsNow n →
         ∃ t, exec (.vectorMemoryAccess n kind st m vd rs1 eew enc fill) s = .next t ∧ EntryBegun n 2 enc 0 c.pc s t)) ∧
     ((s.core n).stores = [] → (s.core n).castAcks = 0 → (s.core n).blockedBy [] true false = false →
       ∃ t, exec (.fence n) s = .next t ∧ (t.core n).pc = (s.core n).pc + 4 ∧ (t.core n).x = (s.core n).x ∧ OnlyChanges [.cores] s t) ∧
     ((s.core n).stores = [] → (s.core n).isStrict = false → (s.core n).blockedBy [] true false = false →
       ∃ t, exec (.fenceI n) s = .next t ∧ (t.core n).l1i = [] ∧ (t.core n).pc = (s.core n).pc + 4 ∧ (t.core n).x = (s.core n).x ∧ OnlyChanges [.cores] s t) ∧
     (s.trapsNow n → ∃ t, exec (.ecall n) s = .next t ∧ EntryBegun n (8 + (s.core n).level.num) 0 0 (s.core n).pc s t ∧ OnlyChanges [.cores] s t) ∧
     (s.trapsNow n → ∃ t, exec (.ebreak n) s = .next t ∧ EntryBegun n 3 (s.core n).pc 0 (s.core n).pc s t ∧ OnlyChanges [.cores] s t))

/-- R199, R202: TLBW with V = 1 installs the entry that its operands describe, in a way of the set of its page number, and leaves every other entry; with V = 0 it
removes the entry of the same tag. Each moves the pc by 4 and writes no register.
R199, R203: S2W with V = 1 installs the stage-2 entry that its operands describe for the partition of H_PART, in a way of the set of its page number; with
V = 0 it removes the entry of the same tag. Each moves the pc by 4 and writes no register. -/
def Obligations.TranslationBuffersAreWritten : Prop :=
  (∀ (s : State) (n rs1 rs2 : Nat), s.takesAt n .s →
     let c := s.core n
     let r1 := c.rx rs1
     let r2 := c.rx rs2
     let e := mkTlbE (c.tlbTag (getB r1 3)) r1 r2
     getF r1 ⟨4, 8⟩ = 0 → (c.level = .s → e.lock = false ∧ ∀ k x, c.tlbSame e = some k → c.tlbAt k = some x → x.lock = false) →
     c.blockedBy [rs1, rs2] false false = false →
     (getB r2 0 = true → (e.lock = true → (c.locks (c.tlbSame e) (e.vpn % 256)).1 < 64 ∧ (c.locks (c.tlbSame e) (e.vpn % 256)).2 < 7) →
       ((∃ p, e.owner = .part p) → c.stage2 .s = true → (c.s2Lookup c.pid (e.ppn * 4096)).isSome = true) →
       ∃ t k, exec (.tlbw n rs1 rs2) s = .next t ∧ (t.core n).tlbAt k = some e ∧ k / 8 = e.vpn % 256 ∧
         (∀ j, j ≠ k → (t.core n).tlbAt j = c.tlbAt j) ∧ (t.core n).pc = c.pc + 4 ∧ NoRegister n s t) ∧
     (getB r2 0 = false →
       ∃ t, exec (.tlbw n rs1 rs2) s = .next t ∧ (∀ k, c.tlbSame e = some k → (t.core n).tlbAt k = none) ∧
         (∀ j, c.tlbSame e ≠ some j → (t.core n).tlbAt j = c.tlbAt j) ∧ (t.core n).pc = c.pc + 4 ∧ NoRegister n s t)) ∧
  (∀ (s : State) (n rs1 rs2 : Nat), s.takesAt n .h →
     let c := s.core n
     let r1 := c.rx rs1
     let r2 := c.rx rs2
     let e := mkS2E c.pid r1 r2
     getF r1 ⟨3, 9⟩ = 0 → c.blockedBy [rs1, rs2] false false = false →
     (getB r2 0 = true → (e.lock = true → (c.locks2 (c.s2Same e) (e.gpn % 128)).1 < 32 ∧ (c.locks2 (c.s2Same e) (e.gpn % 128)).2 < 3) →
       ∃ t k, exec (.s2w n rs1 rs2) s = .next t ∧ (t.core n).s2At k = some e ∧ k / 4 = e.gpn % 128 ∧
         (∀ j, j ≠ k → (t.core n).s2At j = c.s2At j) ∧ (t.core n).pc = c.pc + 4 ∧ NoRegister n s t) ∧
     (getB r2 0 = false →
       ∃ t, exec (.s2w n rs1 rs2) s = .next t ∧ (∀ k, c.s2Same e = some k → (t.core n).s2At k = none) ∧
         (∀ j, c.s2Same e ≠ some j → (t.core n).s2At j = c.s2At j) ∧ (t.core n).pc = c.pc + 4 ∧ NoRegister n s t))

/-- R204, R205, R206: TLBP writes the word of the entry that matches, or 0; TLBI leaves every entry that its scope does not reach and none that it does, in both
buffers. Each moves the pc by 4.
R213 to R215: TLBIB with drained stores sends its invalidation to every present core and waits; at a receiver its entries go and an acknowledgement follows;
the last acknowledgement retires the TLBIB and moves the pc by 4. -/
def Obligations.TranslationBuffersAreReadAndInvalidated : Prop :=
  (∀ (s : State) (n : Nat), s.takesAt n .s →
     let c := s.core n
     (∀ rd rs1, getF (c.rx rs1) ⟨0, 3⟩ = 0 → getF (c.rx rs1) ⟨5, 7⟩ = 0 → (getB (c.rx rs1) 4 = true → c.level ≠ .s) → c.blockedBy [rs1, rd] false false = false →
       let a := (c.rx rs1).toNat % 2 ^ 48 / 4096 * 4096
       let g := c.tlbTag (getB (c.rx rs1) 3)
       ∃ t, exec (.tlbp n rd rs1) s = .next t ∧ (t.core n).pc = c.pc + 4 ∧ IntegerOnly n s t ∧
         (getB (c.rx rs1) 4 = false → c.tlbLookup g.1 g.2 a = none → (t.core n).x = (c.wx rd 0).x) ∧
         (getB (c.rx rs1) 4 = true → c.s2Lookup c.pid a = none → (t.core n).x = (c.wx rd 0).x) ∧
         (∀ k e, getB (c.rx rs1) 4 = false → c.tlbLookup g.1 g.2 a = some k → c.tlbAt k = some e → (t.core n).x = (c.wx rd (tlbpWord e)).x) ∧
         (∀ k e, getB (c.rx rs1) 4 = true → c.s2Lookup c.pid a = some k → c.s2At k = some e → (t.core n).x = (c.wx rd (tlbpWord2 e)).x)) ∧
     (∀ rs1 rs2, invBad (c.rx rs2) = false → (invLow (c.rx rs2) = true → c.level ≠ .s) → c.blockedBy [rs1, rs2] false false = false →
       let i := c.mkInv n (c.rx rs1) (c.rx rs2)
       ∃ t, exec (.tlbi n rs1 rs2) s = .next t ∧ (t.core n).pc = c.pc + 4 ∧ NoRegister n s t ∧
         (∀ k e, c.tlbAt k = some e → invHits i e = true → (t.core n).tlbAt k = none) ∧
         (∀ k, (∀ e, (k, some e) ∈ c.tlb → invHits i e = false) → (t.core n).tlbAt k = c.tlbAt k) ∧
         (∀ k e, c.s2At k = some e → invHits2 i e = true → (t.core n).s2At k = none) ∧
         (∀ k, (∀ e, (k, some e) ∈ c.s2 → invHits2 i e = false) → (t.core n).s2At k = c.s2At k))) ∧
  ((∀ (s : State) (n rs1 rs2 : Nat), s.takesAt n .s → (s.core n).isStrict = false → invBad ((s.core n).rx rs2) = false →
     (invLow ((s.core n).rx rs2) = true → (s.core n).level ≠ .s) → (s.core n).blockedBy [rs1, rs2] false false = false → s.mayInject n = true →
     (s.core n).castAcks = 0 → (s.core n).stores = [] →
     let i := (s.core n).mkInv n ((s.core n).rx rs1) ((s.core n).rx rs2)
     ∃ t, exec (.tlbib n rs1 rs2) s = .next t ∧ (t.core n).tlbib = some { waiting := s.presentCores } ∧ (t.core n).pc = (s.core n).pc ∧
       (∀ k ∈ s.presentCores, Msg.tlbib k i ∈ t.net ∨ Msg.tlbibAck n k ∈ t.net) ∧ t.mem = s.mem) ∧
   (∀ (s : State) (n : Nat) (i : TlbInv),
     ∃ t, exec (.tlbibReceipt n i) s = .next t ∧ (∀ k e, (s.core n).tlbAt k = some e → invHits i e = true → (t.core n).tlbAt k = none) ∧
       (∀ k, (∀ e, (k, some e) ∈ (s.core n).tlb → invHits i e = false) → (t.core n).tlbAt k = (s.core n).tlbAt k) ∧
       (∀ k e, (s.core n).s2At k = some e → invHits2 i e = true → (t.core n).s2At k = none) ∧
       (∀ k, (∀ e, (k, some e) ∈ (s.core n).s2 → invHits2 i e = false) → (t.core n).s2At k = (s.core n).s2At k) ∧
       ((s.core n).stores = [] → (s.core n).loads = [] → Msg.tlbibAck i.issuer n ∈ t.net) ∧
       (t.core n).x = (s.core n).x ∧ (t.core n).pc = (s.core n).pc ∧ OnlyChanges [.cores, .net] s t) ∧
   (∀ (s : State) (n k : Nat) (w : TlbibWait), (s.core n).tlbib = some w →
     let left := w.waiting.filter (· != k)
     ∃ t, exec (.tlbibComplete n k) s = .next t ∧ (t.core n).x = (s.core n).x ∧ OnlyChanges [.cores, .net] s t ∧
       (left ≠ [] → (t.core n).tlbib = some { waiting := left } ∧ (t.core n).pc = (s.core n).pc) ∧
       (left = [] → (t.core n).tlbib = none ∧ (t.core n).pc = (s.core n).pc + 4)))

/-- R207, R113, R184, R185: TWP returns the eight bytes of the entry that its operands address, here in the own cast window; PAUSE.SLACK waits for the stores and
moves the pc; HLT puts the core into HALT with the pc past it while no enabled interrupt waits. None writes memory.
R173, R181: TRET through a valid slot without poison restores the pc, the status, the level and the thirteen registers that the slot holds; R181's first check
names the slots that it refuses, with an illegal-instruction entry.
R157 to R160: a CSR instruction that meets no trap writes to its destination what it read and to the CSR's writable bits what the operation computes (a set or
clear form without a source writes nothing), moves the pc by 4 and changes no other register; one on a CSR that does not exist raises 0x02. -/
def Obligations.SystemInstructionsAct : Prop :=
  ((∀ (s : State) (n rd rs1 rs2 pa : Nat), s.takesAt n .s → getF ((s.core n).rx rs2) ⟨3, 9⟩ = 0 → (s.core n).isStrict = false →
     (s.core n).blockedBy [rd, rs1, rs2] false false = false → s.twpCheck n ((s.core n).rx rs1) ((s.core n).rx rs2) = .ok pa →
     regionOf pa = .coreCast (s.ownWindow n) → (∀ e ∈ (s.core n).stores, e.overlaps pa 8 = false) → s.anyPoison pa 8 = false →
     ∃ t, exec (.twp n rd rs1 rs2 false) s = .next t ∧ (t.core n).x = ((s.core n).wx rd (s.word pa)).x ∧ (t.core n).pc = (s.core n).pc + 4 ∧
       IntegerOnly n s t) ∧
   (∀ (s : State) (n : Nat), s.takes n 4 → (s.core n).stores = [] → (s.core n).blockedBy [] true false = false →
     ∃ t, exec (.pauseSlack n) s = .next t ∧ (t.core n).pc = (s.core n).pc + 4 ∧ NoRegister n s t) ∧
   (∀ (s : State) (n : Nat), s.takesAt n .h → (s.core n).stores = [] → s.pwr.phase ≠ .requested →
     (∀ q ∈ (3, 24, 0, 0) :: s.pendings n, (s.core n).csrBit (((s.core n).intTarget q.1).base + 0xC) q.1 = false ∨
       (s.core n).ithresh ((s.core n).intTarget q.1) ≤ q.2.1) →
     ∃ t, exec (.hlt n) s = .next t ∧ (t.core n).run = .halt ∧ (t.core n).pc = (s.core n).pc + 4 ∧ (t.core n).x = (s.core n).x ∧
       (t.core n).level = (s.core n).level ∧ t.mem = s.mem)) ∧
  (∀ (s : State) (n : Nat), s.takesAt n .s → (s.core n).stores = [] → (s.core n).blockedBy [] true false = false →
     let c := s.core n
     let w := castBase (s.ownWindow n) + c.tretOff.toNat
     (s.tretCheck n 0 = none → s.anyPoison w 0x90 = false →
       ∃ t, exec (.tret n) s = .next t ∧ (t.core n).pc = (s.word w &&& ~~~ 1) ∧ (t.core n).level = levelOf (getF (s.word (w + 8)) ⟨1, 2⟩) ∧
         (t.core n).csrv c.level.base = restoreStatus c.level (s.word (w + 8)) ∧
         (∀ i, i < 13 → (t.core n).rx (frameRegs.getD i 0) = s.word (w + 0x28 + 8 * i)) ∧
         (∀ r, r ∉ frameRegs → (t.core n).rx r = c.rx r) ∧ (t.core n).fr = c.fr ∧ (t.core n).resv = none ∧ t.mem = s.mem) ∧
     (c.tretOff.toNat % 256 ≠ 0 → s.trapsNow n →
       ∃ t, exec (.tret n) s = .next t ∧ EntryBegun n 2 (encR true 1 0 0 0) 0 c.pc s t)) ∧
  (∀ (s : State) (n csr rd rs1 : Nat) (op : CsrOp), s.takes n 4 →
     let c := s.core n
     let old := s.csrRead n csr
     let v := csrNew op old (c.csrSrc op rs1)
     (csrPlain csr → s.csrTrap n csr (csrWrites op rs1) v (csrEnc op csr rd rs1) = none → c.blockedBy [] true false = false →
       ∃ t, exec (.csrInstruction n op csr rd rs1) s = .next t ∧ (t.core n).x = (c.wx rd old).x ∧ (t.core n).pc = c.pc + 4 ∧ IntegerOnly n s t ∧
         (csrWrites op rs1 = true → (t.core n).csrv (csrHome csr) = (c.csrWrite csr v).csrv (csrHome csr)) ∧
         (csrWrites op rs1 = false → (t.core n).csrv (csrHome csr) = c.csrv (csrHome csr))) ∧
     (csrExists s.fuse.vec csr = false → s.trapsNow n →
       ∃ t, exec (.csrInstruction n op csr rd rs1) s = .next t ∧ EntryBegun n 2 (csrEnc op csr rd rs1) 0 c.pc s t))

/-- R58 to R61, R85: a CSR instruction that changes PACECTL.MODE or RATE starts a pace switch (STRICT, WARNFILL and WARNIE take effect at once, the
reservation ends, PACESTAT shows the switch); once the stores have drained and the stream delivers, the switch completes into the mode and rate asked for;
after a loss it completes into flood.
R66 to R68: a pace slip of an unpaired core in slack water counts its lost tokens, records a fill of 17, sets WARN and, unless the handler of 0x15 runs,
leaves an exception 0x15 to be raised at the next boundary; the core's registers stay. -/
def Obligations.PaceSwitchesAndSlips : Prop :=
  ((∀ (s : State) (n rd rs1 : Nat) (op : CsrOp), s.takes n 4 → csrWrites op rs1 = true → (s.core n).blockedBy [] true false = false →
     let c := s.core n
     let v := csrNew op (c.csrv C.pacectl) (c.csrSrc op rs1)
     s.csrTrap n C.pacectl true v (csrEnc op C.pacectl rd rs1) = none → (v ^^^ c.csrv C.pacectl) &&& 3 ≠ 0 →
     ∃ t, exec (.paceSwitch n op rd rs1) s = .next t ∧ (t.core n).switch = some { slack := getB v 0, rateB := getB v 1 } ∧
       (t.core n).csrv C.pacectl = ((v &&& 0x3F04) ||| (c.csrv C.pacectl &&& 3)) ∧ (t.core n).resv = none ∧
       t.flag (Reg.CORE_PACESTAT n) F.CORE_PACESTAT_SWITCHING = true ∧ t.fld (Reg.CORE_PACESTAT n) F.CORE_PACESTAT_MODE = 0 ∧
       (t.core n).x = (c.wx rd (c.csrv C.pacectl)).x ∧ (t.core n).pc = c.pc + 4 ∧ IntegerOnly n s t) ∧
   (∀ (s : State) (n : Nat) (w : PaceSw), (s.core n).switch = some w → (s.core n).stores = [] → (s.core n).mcPending = none →
     (w.lost = false → s.flag Reg.CHIP_PACESTAT F.CHIP_PACESTAT_LOCKA = true →
       ∃ t, exec (.paceSwitchComplete n none) s = .next t ∧ (t.core n).switch = none ∧ (t.core n).isSlack = w.slack ∧
         (t.core n).csrBit C.pacectl 1 = w.rateB ∧ t.flag (Reg.CORE_PACESTAT n) F.CORE_PACESTAT_SWITCHING = false ∧
         t.fld (Reg.CORE_PACESTAT n) F.CORE_PACESTAT_MODE = b2n w.slack ∧ t.fld (Reg.CORE_PACESTAT n) F.CORE_PACESTAT_RATE = b2n w.rateB ∧ NoRegister n s t ∧
         (t.core n).pc = (s.core n).pc) ∧
     (w.lost = true → (s.core n).paired = false →
       ∃ t, exec (.paceSwitchComplete n none) s = .next t ∧ (t.core n).switch = none ∧ (t.core n).isSlack = false ∧ (t.core n).x = (s.core n).x))) ∧
  (∀ (s : State) (n lost : Nat), (s.core n).paired = false → (s.core n).isSlack = true → (s.core n).run = .run →
     ∃ t, exec (.paceSlip n lost) s = .next t ∧
       t.fld (Reg.CORE_PACESTAT n) F.CORE_PACESTAT_SLIPCNT =
         satAdd (2 ^ F.CORE_PACESTAT_SLIPCNT.w - 1) (s.fld (Reg.CORE_PACESTAT n) F.CORE_PACESTAT_SLIPCNT) lost ∧
       t.fld (Reg.CORE_PACESTAT n) F.CORE_PACESTAT_PEAKFILL = 17 ∧ t.flag (Reg.CORE_PACESTAT n) F.CORE_PACESTAT_WARN = true ∧
       ((s.core n).slipDepth = none → (t.core n).slipPending = true) ∧ ((s.core n).slipDepth ≠ none → (t.core n).slipPending = (s.core n).slipPending) ∧
       (t.core n).pc = (s.core n).pc ∧ NoRegister n s t)

/-- R69 to R73: pair entry where R70 holds sets EN and its progress bit and starts the copy; its completion gives the right core the left core's registers, pc and
cast data and runs both; pair exit gives the right core the left core's state, clears PAIRCTL of both and halts the right core.
R95, R143, R147, R148, R150: a write of H_SPECCTL takes its writable bits; an invalidation holds prediction off until it completes with every table empty; a
regeneration gives each key that it names a value other than the old one, the current context's key when its delay has passed; nothing else of the core that
software computes with changes. -/
def Obligations.PairedModeAndPrediction : Prop :=
  ((∀ (s : State) (n : Nat), s.takesAt n .h → (s.core n).blockedBy [] true false = false → s.fuse.pair = true → n % 2 = 0 →
     (s.core n).csrBit C.pairctl 0 = false → s.pairReady (n / 2) = true →
     ∃ t, exec (.pairEntry n) s = .next t ∧ (t.core n).csrv C.pairctl = 5 ∧ (t.core n).pairCopy = some {} ∧ (t.core n).pc = (s.core n).pc + 4 ∧
       NoRegister n s t) ∧
   (∀ (s : State) (k : Nat), s.Canonical → (s.core (2 * k)).pairCopy.isSome = true → (s.core (2 * k)).stores = [] → (s.core (2 * k)).mcPending = none →
     let l := s.core (2 * k)
     ∃ t, exec (.pairEntryComplete k) s = .next t ∧ (t.core (2 * k)).csrv C.pairctl = 3 ∧ (t.core (2 * k + 1)).csrv C.pairctl = 0xA ∧
       (t.core (2 * k)).pairCopy = none ∧ (t.core (2 * k)).x = l.x ∧ (t.core (2 * k)).pc = l.pc ∧ (t.core (2 * k + 1)).run = .run ∧
       (t.core (2 * k + 1)).x = l.x ∧ (t.core (2 * k + 1)).fr = l.fr ∧ (t.core (2 * k + 1)).vr = l.vr ∧ (t.core (2 * k + 1)).pc = l.pc ∧
       (∀ i, i < s.fld (Reg.TILE_LCAST k) F.TILE_LCAST_CUR * 0x1_0000 → t.byte (castBase (2 * k + 1) + i) = s.byte (castBase (2 * k) + i))) ∧
   (∀ (s : State) (n : Nat), s.Canonical → s.takesAt n .h → (s.core n).blockedBy [] true false = false → s.fuse.pair = true → n % 2 = 0 → (s.core n).paired = true →
     ∃ t, exec (.pairExit n) s = .next t ∧ (t.core n).csrv C.pairctl = 0 ∧ (t.core (n + 1)).csrv C.pairctl = 0 ∧ (t.core (n + 1)).run = .halt ∧
       (t.core n).x = (s.core n).x ∧ (t.core n).pc = (s.core n).pc + 4 ∧ (t.core (n + 1)).x = (s.core n).x ∧ (t.core (n + 1)).pc = (s.core n).pc + 4 ∧
       ∀ i, i < 0x6_0000 → t.byte (castBase (n + 1) + i) = s.byte (castBase n + i))) ∧
  ((∀ (s : State) (n : Nat), s.takesAt n .h → (s.core n).blockedBy [] true false = false → (∀ p ∈ (s.core n).pred.newKey, p.1 = (s.core n).keySlot) →
     (∀ v, ∃ t, exec (.hSpecctlWrite n v) s = .next t ∧ (t.core n).csrv C.hSpecctl = (((s.core n).csrv C.hSpecctl &&& ~~~ 3) ||| (v &&& 3)) ∧
       (t.core n).pc = (s.core n).pc + 4 ∧ NoRegister n s t) ∧
     (∃ t, exec (.predctlInval n) s = .next t ∧ (t.core n).csrBit C.predctl 2 = true ∧ (t.core n).predicts = false ∧
       (t.core n).pc = (s.core n).pc + 4 ∧ NoRegister n s t) ∧
     (let ks := if (s.core n).csrBit C.predctl 4 then List.range 256 else partKeys ((s.core n).csrF C.predctl 8 6)
      let key (c : Core) (k : Nat) := Tbl.get Config.startKey c.pred.keys k
      ∃ t, exec (.predctlRegen n) s = .next t ∧ (∀ k ∈ ks, k ≠ (s.core n).keySlot → key (t.core n) k ≠ key (s.core n) k) ∧
       (∀ k, k ∉ ks ∨ k = (s.core n).keySlot → key (t.core n) k = key (s.core n) k) ∧
       ((s.core n).keySlot ∈ ks → ∃ v, (t.core n).pred.newKey = some ((s.core n).keySlot, v, 64) ∧ v ≠ key (s.core n) (s.core n).keySlot) ∧
       (t.core n).pc = (s.core n).pc + 4 ∧ NoRegister n s t)) ∧
   (∀ (s : State) (n : Nat), (s.core n).csrBit C.predctl 2 = true →
     ∃ t, exec (.predctlInvalComplete n) s = .next t ∧ (t.core n).csrBit C.predctl 2 = false ∧ (t.core n).pred.tagged = [] ∧ (t.core n).pred.base = [] ∧
       (t.core n).pred.btb = [] ∧ (t.core n).pred.rstack = [] ∧ (t.core n).pred.rstackRet = [] ∧ (t.core n).pred.keys = (s.core n).pred.keys ∧ NoRegister n s t) ∧
   (∀ (s : State) (n : Nat), s.hasCore n = true → (s.core n).csrF C.predctl 16 4 ≠ 0 → (∀ p ∈ (s.core n).pred.newKey, p.1 = (s.core n).keySlot) →
     let key (c : Core) (k : Nat) := Tbl.get Config.startKey c.pred.keys k
     ∃ t, exec (.regenintExpire n) s = .next t ∧ NoRegister n s t ∧
       ∀ k, k < 256 → (k ≠ (s.core n).keySlot ∨ (s.core n).run ≠ .run) → key (t.core n) k ≠ key (s.core n) k) ∧
   (∀ (s : State) (n k : Nat) (v : BitVec 24), (s.core n).pred.newKey = some (k, v, 0) →
     ∃ t, exec (.keyRegenerationEffect n) s = .next t ∧ Tbl.get Config.startKey (t.core n).pred.keys k = v ∧ (t.core n).pred.newKey = none ∧ NoRegister n s t))

/-- R46 to R55: stream B takes the rate that the conditions give; a synthesiser that locks shows it; a loss of lock sets LOST, logs an event of severity 10 and,
of stream A, forces every core in slack water into flood; FELL clears on a write only while FASTOK is 1.
R55, R343, R344: while the system reference is stopped tide time does not advance and the streams end, which is logged; when it returns tide time goes on from
the stopped value and the servo is FREE. -/
def Obligations.PaceGeneratorsAndTheSystemReference : Prop :=
  (∀ (s : State),
     let a := Reg.CHIP_PACESTAT
     (s.flag a F.CHIP_PACESTAT_LOCKA = true → ∃ t, exec .streamBSwitch s = .next t ∧ t.flag a F.CHIP_PACESTAT_BFAST = s.fastWanted ∧ OnlyChanges [.regs] s t) ∧
     (∃ t, exec (.synthLock false) s = .next t ∧ t.flag a F.CHIP_PACESTAT_LOCKA = true ∧ OnlyChanges [.fresh, .regs, .time] s t) ∧
     (∃ t, exec (.synthLock true) s = .next t ∧ t.flag a F.CHIP_PACESTAT_LOCKB = true ∧ OnlyChanges [.regs] s t) ∧
     (s.flag a F.CHIP_PACESTAT_BFAST = false →
       ∃ t, exec (.synthLossOfLock true) s = .next t ∧ t.flag a F.CHIP_PACESTAT_LOST = true ∧ t.flag a F.CHIP_PACESTAT_LOCKB = false ∧
         (∃ e ∈ t.errq, e.unit = unitPace ∧ e.sev = some 10) ∧ OnlyChanges [.regs, .errq] s t) ∧
     ((∀ n, (s.core n).csrBit C.pairctl 1 = false) →
       ∃ t, exec (.synthLossOfLock false) s = .next t ∧ t.flag a F.CHIP_PACESTAT_LOST = true ∧ t.flag a F.CHIP_PACESTAT_LOCKA = false ∧
         t.flag a F.CHIP_PACESTAT_BFAST = false ∧ (∃ e ∈ t.errq, e.unit = unitPace ∧ e.sev = some 10) ∧
         ∀ n c, (n, c) ∈ s.cores → s.core n = c → c.isSlack = true → c.switch = none → c.csrBit C.pairctl 3 = false → (t.core n).isSlack = false) ∧
     (∀ v, ∃ t, exec (.fellClear v) s = .next t ∧
       t.flag a F.CHIP_PACESTAT_FELL = (s.flag a F.CHIP_PACESTAT_FELL && !(getF v F.CHIP_PACESTAT_FELL == 1 && s.flag a F.CHIP_PACESTAT_FASTOK)) ∧
       t.flag a F.CHIP_PACESTAT_LOST = (s.flag a F.CHIP_PACESTAT_LOST && !(getF v F.CHIP_PACESTAT_LOST == 1)) ∧ OnlyChanges [.regs] s t)) ∧
  ((∀ (s : State), s.time.refOn = true →
     ∃ t, exec .systemReferenceStop s = .next t ∧ t.time.refOn = false ∧ t.flag Reg.CHIP_TTSTAT F.CHIP_TTSTAT_LOST = true ∧ t.servo = 0 ∧
       t.flag Reg.CHIP_PACESTAT F.CHIP_PACESTAT_LOCKA = false ∧ t.flag Reg.CHIP_PACESTAT F.CHIP_PACESTAT_LOST = true ∧ t.now = s.now ∧
       (∃ e ∈ t.errq, e.unit = unitPace ∧ e.sev = some 10) ∧ t.tick = t) ∧
   (∀ (s : State), s.time.refOn = false →
     ∃ t, exec .systemReferenceReturn s = .next t ∧ t.time.refOn = true ∧ t.now = s.now ∧ t.servo = 0 ∧ t.mem = s.mem ∧ t.cores = s.cores))

/-- R130, R164, R170, R171, R177, R184: at a boundary a core begins the entry for the interrupt that R171 selects; an interrupt that R171 places before the one
whose entry is in its takeover window takes that entry over; a machine check that waits is taken first; a timer that reaches its compare wakes a halted core.
R172 to R179, R188: past the point of no return the slot holds the eighteen words of R173, every other byte of memory is as before, and an accepted pin or
core interrupt is acknowledged; a slot that is not valid stops the core where the entry is taken at F.
R162, R173, R174, R176: a completed entry runs at its target level from that level's vector, with EPC, CAUSE, TVAL, TINFO and STATUS of that level written, sp
and a0 at the slot, a1 the cause and a2 the fault value; every other integer register and the floating-point registers stay. -/
def Obligations.InterruptsAndTheirEntries : Prop :=
  ((∀ (s : State) (n : Nat) (q : Nat × Nat × Nat × Nat), s.atBoundary n = true → (s.core n).mcPending = none → (s.core n).slipPending = false →
     (s.core n).run = .run → s.selectInt n (s.core n).level = some q →
     ∃ t, exec (.interruptRecognition n) s = .next t ∧ (t.core n).entry = some ((s.core n).intEntry (s.core n).level (s.core n).pc [] q) ∧
       (t.core n).resv = none ∧ (t.core n).pc = (s.core n).pc ∧ NoRegister n s t) ∧
   (∀ (s : State) (n : Nat) (i : McInfo), s.atBoundary n = true → (s.core n).mcPending = some i → (s.core n).csrBit 0x7C0 16 = false →
     ∃ t e, exec (.interruptRecognition n) s = .next t ∧ (t.core n).entry = some e ∧ e.kind = .machineCheck ∧ e.target = .f ∧ e.mc = some i ∧
       e.epc = (s.core n).pc ∧ (t.core n).mcPending = none ∧ NoRegister n s t) ∧
   (∀ (s : State) (n : Nat) (e : EntrySt) (code src num : Nat) (q : Nat × Nat × Nat × Nat), (s.core n).entry = some e → e.slot = none →
     (s.core n).mcPending = none → e.kind = .interrupt code src num → s.selectInt n e.from_ = some q → (s.core n).before q (code, e.prio, src, num) = true →
     ∃ t, exec (.entryTakeover n) s = .next t ∧ t.core n = { s.core n with entry := some ((s.core n).intEntry e.from_ e.epc e.late q) } ∧
       OnlyChanges [.cores] s t ∧ ∀ m, m ≠ n → t.core m = s.core m) ∧
   (∀ (s : State) (n : Nat) (h : Bool), ((s.core n).csrv (if h then C.hTimecmp else C.sTimecmp)).toNat ≤ s.now →
     ∃ t, exec (.timerCompareReached n h) s = .next t ∧ (if h then (2, 8, 0, 0) else (1, 16, 0, 0)) ∈ s.pendings n ∧ NoRegister n s t ∧
       ((s.core n).run = .halt → s.domState n ≠ 3 → s.haltWake n = true → (t.core n).run = .run) ∧ ((s.core n).run ≠ .halt → t = s))) ∧
  (∀ (s : State) (n : Nat) (e : EntrySt), (s.core n).entry = some e → e.slot = none →
     let top := (s.core n).slotTop e.target e.from_
     let w := castBase (s.ownWindow n) + (top - 256)
     (s.slotValid n e.target top = true → e.late = [] →
       ∃ t, exec (.entryPointOfNoReturn n) s = .next t ∧ (t.core n).entry = some { e with slot := some (top - 256), late := [] } ∧
         (∀ i, i < 18 → t.word (w + 8 * i) = ((s.core n).slotWords e).getD i 0) ∧ (∀ a, (a < w ∨ w + 144 ≤ a) → t.byte a = s.byte a) ∧
         (∀ code src num, e.kind = .interrupt code src num → (code = 5 ∨ code = 6) → Msg.acceptance n code src num ∈ t.net) ∧ t.regs = s.regs) ∧
     (s.slotValid n e.target top = false → e.target = .f →
       ∃ t, exec (.entryPointOfNoReturn n) s = .next t ∧ (t.core n).run = .checkstop ∧ (t.core n).entry = none ∧ Msg.toService n ∈ t.net ∧ t.mem = s.mem)) ∧
  (∀ (s : State) (n off : Nat) (e : EntrySt), (s.core n).entry = some e → e.slot = some off →
     let c := s.core n
     let b := e.target.base
     let sp := c.csrv (b + 9) + BitVec.ofNat 64 off
     ∃ t, exec (.entryComplete n) s = .next t ∧ (t.core n).level = e.target ∧ (t.core n).entry = none ∧
       (t.core n).pc = (if e.kind = .machineCheck then c.csrv C.fMcvec else c.csrv (b + 5)) ∧
       (t.core n).csrv (b + 2) = e.epc ∧ (t.core n).csrv (b + 1) = e.cause ∧ (t.core n).csrv (b + 3) = e.tval ∧ (t.core n).csrv (b + 4) = e.tinfo ∧
       (t.core n).csrv b = entryStatus (c.csrv b) e ∧
       (∀ i, e.mc = some i → (t.core n).csrv C.fMcinfo = mcinfoWord i ∧ (t.core n).csrv C.fMcaddr = BitVec.ofNat 64 i.addr) ∧
       (t.core n).rx 2 = sp ∧ (t.core n).rx 10 = sp ∧ (t.core n).rx 11 = e.cause ∧ (t.core n).rx 12 = e.tval ∧
       (∀ r, r ∉ [2, 10, 11, 12] → (t.core n).rx r = c.rx r) ∧ (t.core n).fr = c.fr ∧ (t.core n).vr = c.vr ∧
       OnlyChanges [.cores] s t ∧ ∀ m, m ≠ n → t.core m = s.core m)

/-- R14, R16, R17: a write changes each field of a register as its access code says: RW takes the value, RWL too unless its lock is set, W1S sets and W1C clears
where a 1 is written, and RO, RC, WO and SC stay; bits that no field covers stay. It holds for every list of fields that do not overlap. -/
def Obligations.RegisterFieldsFollowTheirAccessCodes : Prop :=
  ∀ (locked : Bool) (m v r : Word) (fs : List FieldSpec), fs.Pairwise (fun f g => f.fld.mask &&& g.fld.mask = 0) →
    (∀ k : Word, (∀ f ∈ fs, f.fld.mask &&& k = 0) → writeFields locked m v fs r &&& k = r &&& k) ∧
    ∀ f ∈ fs,
      let k := f.fld.mask
      let w := writeFields locked m v fs r &&& k
      (f.acc = .rw → w = (r &&& k &&& ~~~ m) ||| (v &&& k &&& m)) ∧
      (f.acc = .rwl → w = if locked then r &&& k else (r &&& k &&& ~~~ m) ||| (v &&& k &&& m)) ∧
      (f.acc = .w1s → w = (r &&& k) ||| (v &&& k &&& m)) ∧
      (f.acc = .w1c → w = (r &&& k) &&& ~~~ (v &&& m)) ∧
      (f.acc = .ro ∨ f.acc = .rc ∨ f.acc = .wo ∨ f.acc = .sc → w = r &&& k)

/-- R7, R14, R17, R28, R30, R33: a register access outside the blocks of control space stops, by name; one whose unit is absent or does not answer changes nothing;
a write of a register of the chip block that starts nothing writes its fields and nothing else; a write of a plain CSR changes its writable bits.
R14, R15: a read of a register returns what the register shows, clears exactly the RC fields that it covers and changes no other field of it; outside control
space it stops, by name. -/
def Obligations.RegistersAreWrittenAndRead : Prop :=
  (∀ (s : State) (off width : Nat) (v : Word),
     (offDecoded off = false → exec (.registerWrite (.control off width) v) s = .fault (.undecoded off)) ∧
     (offDecoded off = true → s.ctlReached off width = false → exec (.registerWrite (.control off width) v) s = .next s) ∧
     (let a := off - off % 8
      a < 0x1_0000 → a ∉ [Reg.CHIP_PACESTAT, Reg.CHIP_HOMECTL, Reg.CHIP_PEBB, Reg.CHIP_DRAMCTL, Reg.CHIP_TTCTL, Reg.CHIP_TTADJ, Reg.CHIP_TTRATE, Reg.CHIP_TRIPPERMIT] →
      s.ctlReached off width = true →
      ∃ t, exec (.registerWrite (.control off width) v) s = .next t ∧ t.reg a = s.written off width v ∧ (∀ b, b ≠ a → t.reg b = s.reg b) ∧
        OnlyChanges [.regs] s t) ∧
     (∀ n num, s.hasCore n = true → (s.core n).run = .run → s.csrTrap n num true v 0 = none → csrPlain num →
       ∃ t, exec (.registerWrite (.csr n num) v) s = .next t ∧ (t.core n).csrv (csrHome num) = ((s.core n).csrWrite num v).csrv (csrHome num) ∧
         (t.core n).pc = (s.core n).pc ∧ NoRegister n s t)) ∧
  (∀ (s : State) (off width lo : Nat),
     (offDecoded off = false → exec (.rcCounterRead off width lo 0) s = .fault (.undecoded off)) ∧
     (offDecoded off = true → s.ctlReached off width = true →
       let a := off - off % 8
       ∃ t, exec (.rcCounterRead off width lo 0) s = .next t ∧ t.lastRead = (s.readCtl off width).1 ∧ OnlyChanges [.fresh, .regs, .lastRead] s t ∧
         ∀ d, regDef a = some d →
           t.reg a &&& (rcMask d.fields &&& accessMask off width) = 0 ∧
           t.reg a &&& ~~~ (rcMask d.fields &&& accessMask off width) = (s.snapshot a).reg a &&& ~~~ (rcMask d.fields &&& accessMask off width)))

/-- R287 to R289: a flit that passes its checks leaves the replay buffer; a first failure asks for a replay, a second one poisons what is sent again, and a failed
header after that fails the link, with a record of severity 5; a link that is not failed sends again from the named flit, and an acknowledged replay returns
it to UP.
R283, R284, R286: while stream A delivers, an accrual gives every injection bucket its RATE up to its DEPTH and every link monitor eight times its CAP up to 8; a
write of a bucket takes effect at once and keeps no token above the new DEPTH; a write of a CAP keeps the tokens. -/
def Obligations.LinksReplayAndEndpointsAdmit : Prop :=
  (∀ (s : State) (r l : Nat), r < 80 → l < 4 →
     let k := 4 * r + l
     let q := neighbour r l
     (∀ cls, cls < 4 → s.linkState k ≠ 3 → s.injKind (unitRouter q) (inputLink l) none = none →
       (∃ t, exec (.flitReceive r l cls true true) s = .next t ∧ t.link k = { s.link k with replay := (s.link k).replay.tail, resend := (s.link k).resend - 1 } ∧
         t.linkState k = s.linkState k ∧ OnlyChanges [.regs, .links] s t) ∧
       (∀ h d, (h && d) = false → s.linkState k = 0 →
         ∃ t, exec (.flitReceive r l cls h d) s = .next t ∧ t.linkState k = 1 ∧ Msg.nak r l ∈ t.net ∧
           (∃ e ∈ t.errq, e.unit = unitRouter q ∧ e.sev = none) ∧ t.links = s.links) ∧
       (∀ h d, (h && d) = false → s.linkState k = 1 →
         ∃ t, exec (.flitReceive r l cls h d) s = .next t ∧ t.linkState k = 2 ∧ Msg.nak r l ∈ t.net ∧ (∀ f ∈ (t.link k).replay, f.poison = true)) ∧
       (∀ d, s.linkState k = 2 →
         ∃ t, exec (.flitReceive r l cls false d) s = .next t ∧ t.linkState k = 3 ∧ (t.link k).replay = [] ∧
           ∃ e ∈ t.errq, e.unit = unitRouter r ∧ e.sev = some 5)) ∧
     (s.linkState k ≠ 3 →
       ∃ t, exec (.linkNak r l) s = .next t ∧ t.link k = { s.link k with resend := (s.link k).replay.length } ∧ OnlyChanges [.net, .links] s t) ∧
     (s.linkState k = 1 ∨ s.linkState k = 2 →
       ∃ t, exec (.retryWindowClose r l) s = .next t ∧ t.linkState k = 0 ∧ (t.link k).replay = [] ∧ OnlyChanges [.regs, .links] s t)) ∧
  (∀ (s : State),
     (s.streamA = true →
       (∃ t, exec .injectionBucketAccrual s = .next t ∧ OnlyChanges [.endpoints] s t ∧
         ∀ k, k < 320 → t.ep k = { s.ep k with tokens := min (s.tc0Depth k) ((s.ep k).tokens + s.tc0Rate k) }) ∧
       (∃ t, exec .linkMonitorAccrual s = .next t ∧ OnlyChanges [.links] s t ∧
         ∀ k, k < 320 → t.link k = { s.link k with tokens := min 8 ((s.link k).tokens + s.linkCap k * 8) })) ∧
     (s.streamA = false → exec .injectionBucketAccrual s = .next s ∧ exec .linkMonitorAccrual s = .next s) ∧
     (∀ r e v, r < 80 → e < 4 →
       ∃ t, exec (.rtrTc0bktWrite r e v) s = .next t ∧ t.reg (Reg.RTR_TC0BKT r e) = s.written (Reg.RTR_TC0BKT r e) 8 v ∧
         (t.ep (4 * r + e)).tokens = min (t.tc0Depth (4 * r + e)) (s.ep (4 * r + e)).tokens ∧ (t.ep (4 * r + e)).tokens ≤ t.tc0Depth (4 * r + e)) ∧
     (∀ r v, r < 80 → ∃ t, exec (.rtrTc0capWrite r v) s = .next t ∧ t.reg (Reg.RTR_TC0CAP r) = s.written (Reg.RTR_TC0CAP r) 8 v ∧ t.links = s.links ∧
       OnlyChanges [.regs] s t))

/-- R290 to R293, R302: an ebb of an open endpoint starts and shows it; REOPEN opens a fenced endpoint whose domain runs, fills its bucket and tells every
router; a declaration, an ebb that runs out of time and a response that does not come make the endpoint DEAD with their cause and a record of severity 5.
R290, R292: a router applies a change of the fence map that reached it; where the change closes an ebbing endpoint it owes four markers, one of each class, which
it sends once nothing that passed the check waits there; a marker does not overtake a request of its class, and the 320th marker that arrives fences the endpoint.
R298, R299: a partition ebb refuses the partition from its start; once nothing of it is outstanding it ends with DONE, and when its time is up it ends with TMO
and a record of severity 8 for each unit that still has requests outstanding. -/
def Obligations.EndpointsAndPartitionsEbb : Prop :=
  (∀ (s : State) (k : Nat), s.epPresent k = true →
     (s.ebbBarred k = false → s.epState k = epOpen →
       ∃ t, exec (.ebb k) s = .next t ∧ t.epState k = epEbbing ∧ t.flag (epctl k) F.RTR_EPCTL_EBB = true) ∧
     (s.ebbBarred k = true →
       ∃ t, exec (.ebb k) s = .next t ∧ t.flag (epctl k) F.RTR_EPCTL_REJ = true ∧ t.epState k = s.epState k ∧ OnlyChanges [.regs] s t) ∧
     (s.epState k = epFenced → s.domRun (epDom k) = true →
       ∃ t, exec (.reopen k) s = .next t ∧ t.epState k = epOpen ∧ (t.ep k).tokens = s.tc0Depth k ∧
         (∀ r, r < 80 → Msg.fenceMap r k epOpen ∈ t.net) ∧ OnlyChanges [.regs, .endpoints, .net] s t) ∧
     (∀ (i : Instr) (cause : Nat),
       (i = .declare k ∧ cause = 3 ∧ s.epState k ≠ epDead) ∨ (i = .ebbTimeout k ∧ cause = 1 ∧ s.epState k = epEbbing) ∨
         (i = .responseTimeout k ∧ cause = 2 ∧ (s.epState k = epOpen ∨ s.epState k = epEbbing) ∧ s.fld (epctl k) F.RTR_EPCTL_RSPTMO ≠ 15) →
       ∃ t, exec i s = .next t ∧ t.epState k = epDead ∧ t.fld (epctl k) F.RTR_EPCTL_CAUSE = cause ∧
         (∀ r, r < 80 → Msg.fenceMap r k epDead ∈ t.net) ∧ (∃ e ∈ t.errq, e.unit = unitOfEp k ∧ e.sev = some 5 ∧ e.detail = cause) ∧ t.mem = s.mem)) ∧
  ((∀ (s : State) (r k st : Nat), Msg.fenceMap r k st ∈ s.net → r ≠ svcRouter →
     ∃ t, exec (.fenceMapBroadcast r k st) s = .next t ∧ t.mapped r k = st ∧ (∀ j, j ≠ k → t.mapped r j = s.mapped r j) ∧
       (∀ q, q ≠ r → t.router q = s.router q) ∧ (st = epFenced → s.epState k = epEbbing → k ∈ (t.router r).owes) ∧ OnlyChanges [.net, .routers] s t) ∧
   (∀ (s : State) (r k : Nat), k ∈ (s.router r).owes → s.holdsFor r k = false →
     ∃ t, exec (.markerSend r k) s = .next t ∧ (∀ c, c < 4 → Msg.marker r k c ∈ t.net) ∧ (t.router r).owes = (s.router r).owes.erase k ∧
       OnlyChanges [.net, .routers] s t) ∧
   (∀ (s : State) (r k c : Nat), Msg.marker r k c ∈ s.net →
     ((∃ m ∈ s.net.takeWhile (fun x => x != .marker r k c), m.way = some (r, k, c)) → exec (.markerArrive r k c) s = .next s) ∧
     ((∀ m ∈ s.net.takeWhile (fun x => x != .marker r k c), m.way ≠ some (r, k, c)) → s.epState k = epEbbing →
     ((s.ep k).markers + 1 < 320 → ∃ t, exec (.markerArrive r k c) s = .next t ∧ t.ep k = { s.ep k with markers := (s.ep k).markers + 1 } ∧
       OnlyChanges [.net, .endpoints] s t) ∧
     (319 ≤ (s.ep k).markers → ∃ t, exec (.markerArrive r k c) s = .next t ∧ t.epState k = epFenced ∧ t.flag (epctl k) F.RTR_EPCTL_EBB = false ∧
       (t.ep k).markers = 0 ∧ OnlyChanges [.net, .endpoints, .regs] s t)))) ∧
  ((∀ (s : State) (p : Nat), p < 64 → s.flag Reg.CHIP_PEBB F.CHIP_PEBB_START = false →
     ∃ t, exec (.partitionEbbStart p) s = .next t ∧ t.partEbb = some ⟨p⟩ ∧ t.flag Reg.CHIP_PEBB F.CHIP_PEBB_START = true ∧
       t.fld Reg.CHIP_PEBB F.CHIP_PEBB_PART = p ∧ OnlyChanges [.regs, .partEbb] s t) ∧
   (∀ (s : State) (q : PartEbb), s.partEbb = some q →
     (s.taggedOut q.part = [] → ∃ t, exec .partitionEbbDone s = .next t ∧ t.partEbb = none ∧ t.flag Reg.CHIP_PEBB F.CHIP_PEBB_START = false ∧
       t.flag Reg.CHIP_PEBB F.CHIP_PEBB_DONE = true ∧ OnlyChanges [.regs, .partEbb] s t) ∧
     (∃ t, exec .partitionEbbTimeout s = .next t ∧ t.partEbb = none ∧ t.flag Reg.CHIP_PEBB F.CHIP_PEBB_START = false ∧
       t.flag Reg.CHIP_PEBB F.CHIP_PEBB_TMO = true ∧ (∀ u ∈ s.taggedOut q.part, ∃ e ∈ t.errq, e.unit = u ∧ e.sev = some 8) ∧
       OnlyChanges [.regs, .partEbb, .errq] s t)))

/-- R225 to R228: an accepted write of a cast count starts the change, a refused one sets REJ with its code and changes no count; the change that completes leaves
the ways that it moves zero, makes the count current, and, where the count falls, changes no other byte.
R230 to R237: a maintenance request that its engine takes enters the queue with its operation, tag, address and length; a request of length 0 completes at once;
a range that leaves the address space is an error; the oldest request that ends reports its tag, and a zeroing of the own cast window leaves its bytes zero and
no other byte changed. -/
def Obligations.CastCountsAndMaintenance : Prop :=
  (∀ (s : State) (r : CastReg),
     let a := castAddr r
     (∀ v, s.hasTile (castTile r) = true → getF v F.TILE_LCAST_WAYS ≠ s.fld a F.TILE_LCAST_WAYS →
       (s.castReject r (getF v F.TILE_LCAST_WAYS) = none →
         ∃ t, exec (.castCountWrite r v) s = .next t ∧ t.fld a F.TILE_LCAST_WAYS = getF v F.TILE_LCAST_WAYS ∧ t.flag a F.TILE_LCAST_BUSY = true ∧
           t.fld a F.TILE_LCAST_CUR = s.fld a F.TILE_LCAST_CUR ∧ OnlyChanges [.regs] s t) ∧
       (∀ k, s.castReject r (getF v F.TILE_LCAST_WAYS) = some k →
         ∃ t, exec (.castCountWrite r v) s = .next t ∧ t.flag a F.TILE_LCAST_REJ = true ∧ t.fld a F.TILE_LCAST_REJCODE = k ∧
           t.fld a F.TILE_LCAST_WAYS = s.fld a F.TILE_LCAST_WAYS ∧ t.fld a F.TILE_LCAST_CUR = s.fld a F.TILE_LCAST_CUR ∧ OnlyChanges [.regs] s t)) ∧
     (s.flag a F.TILE_LCAST_BUSY = true →
       let c := s.fld a F.TILE_LCAST_CUR
       let w := s.fld a F.TILE_LCAST_WAYS
       let lo := castWindow r + min c w * castWay r
       let hi := castWindow r + max c w * castWay r
       ∃ t, exec (.castChangeComplete r) s = .next t ∧ t.fld a F.TILE_LCAST_CUR = w ∧ t.flag a F.TILE_LCAST_BUSY = false ∧
         (∀ k, lo ≤ k → k < hi → t.byte k = 0) ∧ (w ≤ c → ∀ k, (k < lo ∨ hi ≤ k) → t.byte k = s.byte k))) ∧
  ((∀ (s : State) (i : Instr) (sl : Bool) (t op tag : Nat),
     (i = .mntClean sl t tag ∧ op = 0) ∨ (i = .mntInvalidate sl t tag ∧ op = 1) ∨ (i = .mntCleanAndInvalidate sl t tag ∧ op = 2) ∨ (i = .mntZero sl t tag ∧ op = 3) →
     s.hasTile t = true →
     let addr := (s.reg (mntBase sl t)).toNat % 2 ^ 48
     let len := (s.reg (mntBase sl t + 8)).toNat % 2 ^ 43
     (len ≠ 0 → addr + len ≤ 2 ^ 48 → regionKind addr = regionKind (addr + len - 1) → (s.mntQ sl t).length < 4 →
       ∃ u, exec i s = .next u ∧ u.mntQ sl t = s.mntQ sl t ++ [{ op := op, tag := tag % 256, addr := addr, len := len }] ∧
         u.flag (mntStat sl t) F.TILE_MNTSTAT_BUSY = true ∧ u.mem = s.mem) ∧
     (len = 0 → ∃ u, exec i s = .next u ∧ u.flag (mntStat sl t) F.TILE_MNTSTAT_DONE = true ∧ u.fld (mntStat sl t) F.TILE_MNTSTAT_LASTTAG = tag % 256 ∧
       u.mntQ sl t = s.mntQ sl t ∧ OnlyChanges [.regs] s u) ∧
     (len ≠ 0 → 2 ^ 48 < addr + len → s.flag (mntStat sl t) F.TILE_MNTSTAT_ERROR = false →
       ∃ u, exec i s = .next u ∧ u.flag (mntStat sl t) F.TILE_MNTSTAT_ERROR = true ∧ u.fld (mntStat sl t) F.TILE_MNTSTAT_ECODE = 2 ∧ OnlyChanges [.regs] s u)) ∧
   (∀ (s : State) (sl : Bool) (t : Nat) (q : MntReq) (rest : List MntReq), s.mntQ sl t = q :: rest →
     let lo := q.addr / 64 * 64
     let hi := (q.addr + q.len + 63) / 64 * 64
     (∃ u, exec (.mntRequestComplete sl t) s = .next u ∧ u.mntQ sl t = rest ∧ u.flag (mntStat sl t) F.TILE_MNTSTAT_DONE = true ∧
       u.fld (mntStat sl t) F.TILE_MNTSTAT_LASTTAG = q.tag % 256) ∧
     (∀ n, q.op = 3 → regionOf lo = .coreCast n → s.mntAccept sl t 3 lo hi / 64 = hi / 64 →
       ∃ u, exec (.mntRequestComplete sl t) s = .next u ∧ (∀ k, lo ≤ k → k < hi → u.byte k = 0) ∧ (∀ k, (k < lo ∨ hi ≤ k) → u.byte k = s.byte k))))

/-- R507, R509, R514 to R517, R520: the log of a partition is switched on only where its buffers pass the checks, its buffers swap, a page that it marks is written
into the current buffer; classes and tokens follow their registers; a PART reset asks every core, which loses the partition's entries, and ends with the last
answer. -/
def Obligations.PartitionsAndTheirLogs : Prop :=
  (∀ (s : State) (p : Nat) (v : Word), p < 64 →
    let a := Reg.PRT_DLCFG p
    (s.logging p = false → getF v F.PRT_DLCFG_EN = 1 →
      (s.logRefused p (getF v F.PRT_DLCFG_LOG2PAGES) = false →
        ∃ t, exec (.dirtyLogEnable p v) s = .next t ∧ t.logging p = true ∧ t.fld a F.PRT_DLCFG_LOG2PAGES = getF v F.PRT_DLCFG_LOG2PAGES ∧ OnlyChanges [.regs] s t) ∧
      (s.logRefused p (getF v F.PRT_DLCFG_LOG2PAGES) = true →
        ∃ t, exec (.dirtyLogEnable p v) s = .next t ∧ t.logging p = false ∧ t.flag a F.PRT_DLCFG_REJ = true ∧ OnlyChanges [.regs] s t)) ∧
    (s.logging p = true → ∃ t, exec (.dirtyLogSwap p) s = .next t ∧ t.flag a F.PRT_DLCFG_CUR = !s.flag a F.PRT_DLCFG_CUR ∧ OnlyChanges [.regs] s t) ∧
    (∀ g, s.logging p = true →
      (2 ^ s.fld a F.PRT_DLCFG_LOG2PAGES ≤ g → ∃ t, exec (.dirtyLogUpdate p g true) s = .next t ∧ t.flag a F.PRT_DLCFG_OUT = true ∧ OnlyChanges [.regs] s t) ∧
      (∃ t, exec (.dirtyLogUpdate p g false) s = .next t ∧ t.flag a F.PRT_DLCFG_ERR = true ∧ OnlyChanges [.regs] s t) ∧
      (g < 2 ^ s.fld a F.PRT_DLCFG_LOG2PAGES → s.populated (s.logBase p + g / 8) 1 = true →
        let k := s.logBase p + g / 8
        let q := s.engRead p k 1
        exec (.dirtyLogUpdate p g true) s = .next (q.2.2.engWrite p k (q.1.map (fun b => b ||| ((1 : Byte) <<< (g % 8)))) q.2.1)))) ∧
  (∀ (s : State) (p : Nat) (v : Word), p < 64 →
    ∃ t, exec (.prtPcfgWrite p v) s = .next t ∧ t.reg (Reg.PRT_PCFG p) = s.written (Reg.PRT_PCFG p) 8 v ∧ t.mem = s.mem) ∧
  (∀ (s : State) (m : Nat), s.hasMc m = true → (s.chan m).held = [] →
    ∃ t, exec (.memoryTokenAccrual m) s = .next t ∧ t.mem = s.mem ∧ ∀ k, k < 16 →
      t.memTokens (tokKey m k) = min (s.memDepth m k) (s.memTokens (tokKey m k) + s.fld (Reg.PRT_MEMTOK m k) F.PRT_MEMTOK_RATE)) ∧
  (∀ (s : State) (v : Word), s.flag Reg.PRT_PRST F.PRT_PRST_GO = false → getF v F.PRT_PRST_GO = 1 →
    let p := getF v F.PRT_PRST_PART
    ∃ t, exec (.prtPrst v) s = .next t ∧ t.flag Reg.PRT_PRST F.PRT_PRST_GO = true ∧ t.fld Reg.PRT_PRST F.PRT_PRST_PART = p ∧
      (∀ k ∈ s.presentCores, Msg.partReset p k ∈ t.net ∨ Msg.partResetAck p k ∈ t.net) ∧ OnlyChanges [.regs, .net] s t) ∧
  (∀ (s : State) (p n : Nat), s.hasCore n = true →
    ((s.core n).run ≠ .retain →
      ∃ t, exec (.partResetReceipt p n) s = .next t ∧ Msg.partResetAck p n ∈ t.net ∧ (t.core n).x = (s.core n).x ∧
        (∀ k e, (s.core n).tlbAt k = some e → e.owner = .part p → (t.core n).tlbAt k = none) ∧
        (∀ k e, (s.core n).s2At k = some e → e.part = p → (t.core n).s2At k = none) ∧
        OnlyChanges [.fresh, .cores, .net] s t) ∧
    ((s.core n).run = .retain →
      ∃ t, exec (.partResetReceipt p n) s = .next t ∧ Msg.partResetAck p n ∈ t.net ∧ t.retainPrst = s.retainPrst ++ [(n, p)] ∧ t.cores = s.cores)) ∧
  (∀ (s : State) (n : Nat), s.flag Reg.PRT_PRST F.PRT_PRST_GO = true → s.net = [.partResetAck (s.fld Reg.PRT_PRST F.PRT_PRST_PART) n] →
    ∃ t, exec (.partResetDone n) s = .next t ∧ t.flag Reg.PRT_PRST F.PRT_PRST_GO = false ∧ t.flag Reg.PRT_PRST F.PRT_PRST_DONE = true ∧ t.net = [] ∧
      OnlyChanges [.regs, .net] s t)

/-- R480 to R483, R498, R500: software sets and clears pending and enable bits of the sources that its word names and of no other; an edge of an edge source, a send
page's write and a qualifying level of a pin set the edge latch. Offers follow, and memory stays.
R164, R484 to R490, R495: a core holds the offer that it is sent until a withdraw or its acceptance; an acceptance of a pending edge source clears its latch; an
edge note with a newer number sets the latch and LASTNUM; an offer that the breakwater refuses is counted and leaves its source pending. -/
def Obligations.SourcesOffersAndAcceptances : Prop :=
  ((∀ (s : State) (w width : Nat) (mask : Word),
     (∃ t, exec (.irqPendset w mask width) s = .next t ∧ (∀ k ∈ wordSrcs w mask width, isReservedSrc k = false → (t.src k).soft = true) ∧
       (∀ k, k ∉ wordSrcs w mask width → (t.src k).soft = (s.src k).soft) ∧ OnlyChanges [.regs, .net, .endpoints, .links, .dist] s t) ∧
     (∃ t, exec (.irqPendclr w mask width) s = .next t ∧ (∀ k ∈ wordSrcs w mask width, (t.src k).soft = false ∧ (t.src k).edge = false) ∧
       (∀ k, k ∉ wordSrcs w mask width → (t.src k).soft = (s.src k).soft ∧ (t.src k).edge = (s.src k).edge) ∧
       OnlyChanges [.regs, .net, .endpoints, .links, .dist] s t) ∧
     (∃ t, exec (.irqEnset w mask width) s = .next t ∧ (∀ k ∈ wordSrcs w mask width, (t.src k).enable = true) ∧
       (∀ k, k ∉ wordSrcs w mask width → (t.src k).enable = (s.src k).enable) ∧ OnlyChanges [.regs, .net, .endpoints, .links, .dist] s t) ∧
     (∃ t, exec (.irqEnclr w mask width) s = .next t ∧ (∀ k ∈ wordSrcs w mask width, (t.src k).enable = false) ∧
       (∀ k, k ∉ wordSrcs w mask width → (t.src k).enable = (s.src k).enable) ∧ OnlyChanges [.regs, .net, .endpoints, .links, .dist] s t)) ∧
   (∀ (s : State), s.dist.workOff = false →
     (∀ k, k < 8192 → isReservedSrc k = false → 2 ≤ s.sense k →
       s.armed = false → ∃ t, exec (.sourceEdge k) s = .next t ∧ (t.src k).edge = true ∧ (∀ j, j ≠ k → (t.src j).edge = (s.src j).edge) ∧
         OnlyChanges [.regs, .net, .endpoints, .links, .dist] s t) ∧
     (∀ k b, k < 8 → ∃ t, exec (.sourceLineChange k b) s = .next t ∧ (t.src k).pin = b ∧ (s.sense k = 4 → (s.src k).pin ≠ b → (t.src k).edge = true) ∧
       OnlyChanges [.regs, .net, .endpoints, .links, .dist] s t) ∧
     (∀ page v, s.hasCore page = true → ∃ t, exec (.irqSwsend page v) s = .next t ∧
       (∀ j, j < 4 → getB v j = true → (t.src (2560 + 4 * page + j)).edge = true) ∧ OnlyChanges [.regs, .net, .endpoints, .links, .dist] s t)) ∧
   (∀ (s : State) (v : Word),
     ∃ t, exec (.irqCtlWrite v) s = .next t ∧ t.fld Reg.IRQ_CTL F.IRQ_CTL_EN = getF v F.IRQ_CTL_EN ∧ OnlyChanges [.regs, .net, .endpoints, .links, .dist] s t)) ∧
  ((∀ (s : State) (n code k prio num : Nat), s.hasCore n = true → s.answers (epCore n) = true → code = 5 ∨ code = 6 → (s.core n).run ≠ .halt →
     ∃ t, exec (.offer n code k prio num) s = .next t ∧ { code := code, src := k, prio := prio, num := num : Offer } ∈ (t.core n).offers ∧
       (∀ o ∈ (t.core n).offers, o.code = code → o.direct = false → o.src = k) ∧ (t.core n).x = (s.core n).x ∧ (t.core n).pc = (s.core n).pc ∧
       OnlyChanges [.cores, .net] s t) ∧
   (∀ (s : State) (n k : Nat),
     ∃ t, exec (.withdraw n k) s = .next t ∧ (∀ o ∈ (t.core n).offers, o.src ≠ k) ∧ (∀ o ∈ (s.core n).offers, o.src ≠ k → o ∈ (t.core n).offers) ∧
       Msg.withdrawAck n k ∈ t.net ∧ OnlyChanges [.cores, .net] s t) ∧
   (∀ (s : State) (n code k num : Nat), isFastSrc k = false → s.srcPending k = true →
     ∃ t, exec (.acceptance n code k num) s = .next t ∧ (t.src k).soft = false ∧ (2 ≤ s.sense k → (t.src k).edge = false) ∧
       (∀ j, j ≠ k → (t.src j).soft = (s.src j).soft ∧ (t.src j).edge = (s.src j).edge) ∧ OnlyChanges [.regs, .net, .endpoints, .links, .dist] s t) ∧
   (∀ (s : State) (n k : Nat), s.dist.discard = [(n, k)] → (s.src k).wd = 1 →
     ∃ t, exec (.withdrawAcknowledgement n k) s = .next t ∧ (t.src k).moving = false ∧ t.dist.discard = [] ∧ t.flag Reg.IRQ_PDISC F.IRQ_PDISC_GO = false ∧
       OnlyChanges [.regs, .net, .endpoints, .links, .dist] s t) ∧
   (∀ (s : State) (k num : Nat), isFastSrc k = true → s.dist.workOff = false →
     (newer num (s.src k).accnum = true → ∃ t, exec (.edgeNote k num) s = .next t ∧ (t.src k).edge = true ∧ (t.src k).lastnum = num % 256 ∧
       OnlyChanges [.regs, .net, .endpoints, .links, .dist] s t) ∧
     (newer num (s.src k).accnum = false → ∃ t, exec (.edgeNote k num) s = .next t ∧ OnlyChanges [.net] s t)) ∧
   (∀ (s : State) (n code k prio num : Nat), s.answers (epCore n) = false → s.net = [.offer n code k prio num false] →
     ∃ t, exec (.offerRefused n code) s = .next t ∧ (t.distCore n).refused = true ∧ t.net = [] ∧
       t.fld Reg.IRQ_REFUSECNT ⟨0, 32⟩ = satAdd (2 ^ 32 - 1) (s.fld Reg.IRQ_REFUSECNT ⟨0, 32⟩) 1 ∧ (∀ j, (t.src j) = s.src j) ∧ t.cores = s.cores))

/-- R481, R491 to R497, R501: a write of a source's configuration that is not refused takes its fields; residency, posting rings and their tails take the values that
pass their checks, a refused write changes nothing but REJ; a completed posting write advances HEAD and sets the partition's flag; a discard empties the ring and the
latches of the partition's sources. -/
def Obligations.DistributorConfigurationAndPostings : Prop :=
  (∀ (s : State) (k : Nat) (v : Word), k < 8192 → (k < 8 → getF v F.IRQ_CFG_SENSE ≤ 4) →
    (s.hasCore (getF v F.IRQ_CFG_CORE) = true →
      ∃ t, exec (.irqCfgWrite k v) s = .next t ∧ (t.src k).prio = getF v F.IRQ_CFG_PRIO ∧ (t.src k).tkind = (getF v F.IRQ_CFG_TKIND == 1) ∧
        (t.src k).core = getF v F.IRQ_CFG_CORE ∧ (t.src k).part = getF v F.IRQ_CFG_PART ∧ (t.src k).vcore = getF v F.IRQ_CFG_VCORE ∧
        (t.src k).wake = (getF v F.IRQ_CFG_WAKE == 1) ∧ (t.src k).soft = (s.src k).soft ∧ (t.src k).edge = (s.src k).edge ∧
        (t.src k).sense = (if k < 8 then getF v F.IRQ_CFG_SENSE else (s.src k).sense)) ∧
    (s.hasCore (getF v F.IRQ_CFG_CORE) = false →
      ∃ t, exec (.irqCfgWrite k v) s = .next t ∧ t.flag Reg.IRQ_STAT F.IRQ_STAT_REJ = true ∧ t.fld Reg.IRQ_STAT F.IRQ_STAT_REJCODE = 2 ∧ OnlyChanges [.regs] s t)) ∧
  (∀ (s : State) (n : Nat) (v : Word), s.hasCore n = true →
    let taken := getF v F.IRQ_VCORE_VALID = 1 ∧ ∃ m, m < 128 ∧ m ≠ n ∧ s.residentOn m (getF v F.IRQ_VCORE_PART) (getF v F.IRQ_VCORE_VCORE) = true
    (¬taken → ∃ t, exec (.irqVcoreWrite n v) s = .next t ∧ t.reg (Reg.IRQ_VCORE n) = (v &&& 0x7F_3F01)) ∧
    (taken → ∃ t, exec (.irqVcoreWrite n v) s = .next t ∧ t.flag Reg.IRQ_STAT F.IRQ_STAT_REJ = true ∧ t.fld Reg.IRQ_STAT F.IRQ_STAT_REJCODE = 3 ∧
      OnlyChanges [.regs] s t)) ∧
  (∀ (s : State) (p : Nat) (v : Word), p < 64 →
    let h := (s.reg (Reg.IRQ_PTHEAD p)).toNat
    let old := (s.reg (Reg.IRQ_PTTAIL p)).toNat
    (diff32 (v.toNat % 2 ^ 32) old ≤ diff32 h old →
      ∃ t, exec (.irqPttailWrite p v) s = .next t ∧ t.reg (Reg.IRQ_PTTAIL p) = BitVec.ofNat 64 (v.toNat % 2 ^ 32)) ∧
    (diff32 h old < diff32 (v.toNat % 2 ^ 32) old →
      ∃ t, exec (.irqPttailWrite p v) s = .next t ∧ t.reg (Reg.IRQ_PTTAIL p) = s.reg (Reg.IRQ_PTTAIL p) ∧ t.fld Reg.IRQ_STAT F.IRQ_STAT_REJCODE = 5 ∧
        OnlyChanges [.regs] s t)) ∧
  (∀ (s : State) (p : Nat) (v : Word), p < 64 →
    let lg := getF v F.IRQ_PTBASE_LOG2SIZE
    let ok := 4 ≤ lg ∧ lg ≤ 12 ∧ oneMemRegion (64 * getF v F.IRQ_PTBASE_BASE) (8 * 2 ^ lg) = true
    (s.flag (Reg.IRQ_PTBASE p) F.IRQ_PTBASE_EN = false → (getF v F.IRQ_PTBASE_EN = 1 → ok) →
      ∃ t, exec (.irqPtbaseWrite p v) s = .next t ∧ t.reg (Reg.IRQ_PTBASE p) = (v &&& 0xFFFF_FFFF_FFFF)) ∧
    (s.flag (Reg.IRQ_PTBASE p) F.IRQ_PTBASE_EN = false → getF v F.IRQ_PTBASE_EN = 1 → ¬ok →
      ∃ t, exec (.irqPtbaseWrite p v) s = .next t ∧ t.reg (Reg.IRQ_PTBASE p) = s.reg (Reg.IRQ_PTBASE p) ∧ t.fld Reg.IRQ_STAT F.IRQ_STAT_REJCODE = 4 ∧
        OnlyChanges [.regs] s t)) ∧
  (∀ (s : State) (p k : Nat), p < 64 → (s.post p).inFlight = some k →
    (s.post p).stale = 0 →
    ((∀ a e, (∃ q, Msg.posting q a e ∈ s.net) → s.engReach svcRouter a 8 = true) →
      ∃ t, exec (.postingWriteAck p true) s = .next t ∧ t.reg (Reg.IRQ_PTHEAD p) = BitVec.ofNat 64 (((s.reg (Reg.IRQ_PTHEAD p)).toNat + 1) % 2 ^ 32) ∧
      getB (t.reg Reg.IRQ_POSTFLAG) p = true) ∧
    (∃ t, exec (.postingWriteAck p false) s = .next t ∧ t.reg (Reg.IRQ_PTHEAD p) = s.reg (Reg.IRQ_PTHEAD p) ∧ t.flag (Reg.IRQ_PTSTAT p) F.IRQ_PTSTAT_ERR = true ∧
      t.mem = s.mem)) ∧
  (∀ (s : State) (p : Nat), p < 64 →
    ∃ t, exec (.irqPdisc p) s = .next t ∧ t.reg (Reg.IRQ_PTHEAD p) = s.reg (Reg.IRQ_PTTAIL p) ∧ t.fld Reg.IRQ_PDISC F.IRQ_PDISC_PART = p ∧
      (∀ k, (s.src k).tkind = true → (s.src k).part = p → (∃ e ∈ s.dist.srcs, e.1 = k ∧ e.2 = s.src k) → (t.src k).soft = false ∧ (t.src k).edge = false) ∧
      OnlyChanges [.regs, .net, .endpoints, .links, .dist] s t)

/-- R253, R254, R260, R261: a read or a write request for a line that no directory entry covers takes a free way, makes its core the owner and is answered with the
home's data, in E for a read and in M otherwise; where no way is free and none can be freed it is answered with Retry and its hint.
R252, R254: a read of a line that another core owns snoops the owner, which is to supply it; an upgrade of the only sharer is granted at once and makes it
the owner; a write by another core while one core owns the line snoops it to give the line up.
R244 to R247: APPLY of a home set is refused with its code or holds the homes; once every transaction is complete the new set is in force, every directory is
empty and APPLY reads 0. -/
def Obligations.HomesServeRequestsForLines : Prop :=
  (∀ (s : State) (h l c n p : Nat) (i : Instr) (g : Mesif), s.homeReady h l → (s.slice h).dirOf l = none →
     (i = .homeRds h l c n p {} ∧ g = .e) ∨ ((i = .homeRdx h l c n p {} ∨ i = .homeUpg h l c n p {}) ∧ g = .m) →
     (∀ w, (s.slice h).freeWay (dirSet l) = some w →
       ∃ t, exec i s = .next t ∧ Msg.data c l g (s.homeData h l p).1 (s.homeData h l p).2.1 ∈ t.net ∧
         (t.slice h).dirAt (16 * dirSet l + w) = some { line := l, em := true, sharers := addSharer 0 c, fcore := none } ∧
         (∃ x, (t.slice h).txn l = some x ∧ x.sent = true ∧ x.got = false) ∧ t.cores = s.cores) ∧
     ((s.slice h).freeWay (dirSet l) = none → (s.slice h).victims (dirSet l) = [] → n < 8 →
       ∃ t, exec i s = .next t ∧ Msg.retry c l n ∈ t.net ∧ t.cores = s.cores)) ∧
  (∀ (s : State) (h l c n p w : Nat) (e : DirE), s.homeReady h l → (s.slice h).dirOf l = some (w, e) →
     (∀ o r, e.em = true → (sharersOf e.sharers).filter (· != c) = o :: r → s.coreAnswers (tileRouter h) o = true →
       (∃ t, exec (.homeRds h l c n p {}) s = .next t ∧ Msg.snp .f h l o c ∈ t.net ∧
         (t.slice h).dirAt (16 * dirSet l + w) = some { e with em := false, sharers := addSharer e.sharers c, fcore := some c } ∧ t.cores = s.cores ∧ t.mem = s.mem) ∧
       (∃ t, exec (.homeRdx h l c n p {}) s = .next t ∧ Msg.snp .x h l o c ∈ t.net ∧
         (t.slice h).dirAt (16 * dirSet l + w) = some { e with sharers := addSharer 0 c } ∧ t.cores = s.cores ∧ t.mem = s.mem)) ∧
     (e.em = false → sharersOf e.sharers = [c] →
       ∃ t, exec (.homeUpg h l c n p {}) s = .next t ∧ Msg.grant c l ∈ t.net ∧
         (t.slice h).dirAt (16 * dirSet l + w) = some { e with em := true, sharers := addSharer 0 c, fcore := none } ∧ t.cores = s.cores ∧ t.mem = s.mem)) ∧
  (∀ (s : State),
     (s.homesetReject = none → ∃ t, exec .homesetApply s = .next t ∧ t.homesHeld = true ∧ OnlyChanges [.regs] s t) ∧
     (∀ k, s.homesetReject = some k → ∃ t, exec .homesetApply s = .next t ∧ t.flag Reg.CHIP_HOMECTL F.CHIP_HOMECTL_REJ = true ∧
       t.fld Reg.CHIP_HOMECTL F.CHIP_HOMECTL_REJCODE = k ∧ t.homesHeld = s.homesHeld ∧ OnlyChanges [.regs] s t) ∧
     (s.homesHeld = true → s.net.any isCoherent = false → (∀ e ∈ s.slices, e.2.txns = []) →
       ∃ t, exec .homesetChangeComplete s = .next t ∧ t.homeSet = s.homeWanted ∧ t.homesHeld = false ∧
         (∀ h, (t.slice h).dir = []) ∧ (∀ n, (t.core n).l2 = [] ∧ (t.core n).evb = [])) ∧
     (s.net.any isCoherent = true → exec .homesetChangeComplete s = .next s))

/-- R254, R256, R259, R263: a device read of a line that no core holds is answered with the home's data, a device write puts its bytes into the slice's line and is
acknowledged; an eviction notice removes its sender from the entry, dirty data goes into the slice; either is acknowledged.
R254, R255, R264, R265: the last awaited answer lets the home grant an upgrade or send the data that reached it; the last report of a rebuild ends it, and the set
leaves broadcast mode unless it has failed. -/
def Obligations.HomesServeDevicesAndTakeAnswers : Prop :=
  ((∀ (s : State) (h l src p : Nat), s.homeReady h l → (s.slice h).dirOf l = none →
     (∃ t, exec (.homeDevrd h l src p {}) s = .next t ∧ Msg.dataDev src l (s.homeData h l 0).1 (s.homeData h l 0).2.1 ∈ t.net ∧ t.cores = s.cores) ∧
     (∀ m d po v, (s.slice h).waitq = [] → (s.slice h).claims = [] → (s.slice h).find l = some v →
       let q := maskWrite v.data d v.poison po m
       ∃ t, exec (.homeDevwr h l src m d po p {}) s = .next t ∧ Msg.ackDev src l ∈ t.net ∧
         (t.slice h).find l = some { v with data := q.1, poison := q.2, dirty := true } ∧ t.cores = s.cores ∧ t.mem = s.mem)) ∧
   (∀ (s : State) (h l c : Nat),
     (∃ t, exec (.homeEvc h l c) s = .next t ∧ Msg.evictAck c l ∈ t.net ∧ OnlyChanges [.slices, .net] s t) ∧
     (∀ w d, (s.slice h).dirOf l = some (w, d) → (sharersOf d.sharers).contains c = true → (s.slice h).txn l = none →
       (∃ t, exec (.homeEvc h l c) s = .next t ∧ Msg.evictAck c l ∈ t.net ∧ (t.slice h).dirAt (16 * dirSet l + w) = dirDrop d c) ∧
       (∀ v x po, d.em = true → (s.slice h).find l = some v →
         ∃ t, exec (.homeEvd h l c x po) s = .next t ∧ Msg.evictAck c l ∈ t.net ∧ (t.slice h).dirAt (16 * dirSet l + w) = none ∧
           (t.slice h).find l = some { v with data := x, poison := po, dirty := true })) ∧
     (∀ x po, (s.slice h).dirOf l = none →
       ∃ t, exec (.homeEvd h l c x po) s = .next t ∧ Msg.evictAck c l ∈ t.net ∧ t.slices = s.slices))) ∧
  ((∀ (s : State) (h l a c n p : Nat) (k : ReqKind) (x : Txn), (s.slice h).txn l = some x → x.req = .core k c n p → x.await = [a] → x.fwd = none →
     x.waitsWay = false → x.victimFor = none → x.sent = false → x.got = false →
     (x.grant = true → x.needData = false → x.owner = none →
       ∃ t, exec (.homeInvack h l a) s = .next t ∧ Msg.grant c l ∈ t.net ∧ t.cores = s.cores) ∧
     (∀ v d po b, x.grant = false → (s.slice h).find l = some v →
       ∃ t, exec (.homeData h l a d po b) s = .next t ∧ Msg.data c l x.give d po ∈ t.net ∧
         (t.slice h).find l = some { v with data := d, poison := po, dirty := v.dirty || b } ∧ t.cores = s.cores)) ∧
   (∀ (s : State) (h set a : Nat) (left : List Nat), (s.slice h).rebuild = some (set, left) →
     (left.filter (· != a) ≠ [] → ∃ t, exec (.homePrbReport h set a) s = .next t ∧ (t.slice h).rebuild = some (set, left.filter (· != a)) ∧
       OnlyChanges [.slices, .net] s t) ∧
     (left.filter (· != a) = [] → (s.slice h).rebuildQ = [] →
       ∃ t, exec (.homePrbReport h set a) s = .next t ∧ (t.slice h).rebuild = none ∧ t.flag (Reg.DIR_STAT h) F.DIR_STAT_REBUILDING = false ∧
         (set ∉ (s.slice h).failed → set ∉ (t.slice h).bcast))))

/-- R252: what an L2 that holds a line answers to each snoop and in which state it is left; a snoop for a line under reservation waits (R85).
R252, R255, R257, R259, R261: data that reaches its requester fills the line in the granted state, M only when every sharer has acknowledged; a grant makes the
line M; an eviction acknowledgement frees the buffer entry; after a Retry the request waits for its hint and goes again with n one higher. -/
def Obligations.SnoopsAndAnswersAtAnL2 : Prop :=
  (∀ (s : State) (h l c q : Nat) (lost : Bool),
     let v := (s.core c).l2line l
     ((s.core c).defers l = true → exec (.l2Snpf h l c q lost) s = .next s ∧ exec (.l2Snpx h l c q lost) s = .next s ∧ exec (.l2Snpi h l c) s = .next s ∧
       exec (.l2Snpd h l c lost) s = .next s ∧ exec (.l2Snpr h l c lost) s = .next s) ∧
     ((s.core c).defers l = false →
       (v.st = .e ∨ v.st = .m ∨ v.st = .f →
         (∃ t, exec (.l2Snpf h l c q lost) s = .next t ∧ Msg.data q l .f v.data v.poison ∈ t.net ∧ (t.core c).l2line l = { v with st := .s } ∧
           (v.st = .m → Msg.dataHome h l c v.data v.poison true ∈ t.net)) ∧
         (∃ t, exec (.l2Snpx h l c q lost) s = .next t ∧ Msg.data q l .m v.data v.poison ∈ t.net ∧ (t.core c).l2line l = {}) ∧
         (∃ t, exec (.l2Snpd h l c lost) s = .next t ∧ Msg.dataHome h l c v.data v.poison (v.st == .m) ∈ t.net ∧ (t.core c).l2line l = { v with st := .f } ∧
           OnlyChanges [.cores, .net] s t) ∧
         (∃ t, exec (.l2Snpr h l c lost) s = .next t ∧ Msg.dataHome h l c v.data v.poison (v.st == .m) ∈ t.net ∧ (t.core c).l2line l = {} ∧
           OnlyChanges [.cores, .net] s t)) ∧
       (∃ t, exec (.l2Snpi h l c) s = .next t ∧ Msg.invAck h l c ∈ t.net ∧ (t.core c).l2line l = {} ∧ l ∉ (t.core c).l1d ∧ l ∉ (t.core c).l1i ∧
         OnlyChanges [.cores, .net] s t) ∧
       (v.st = .i → (s.core c).ev l = none →
         ∃ t, exec (.l2Snpf h l c q false) s = .next t ∧ Msg.invAck h l c ∈ t.net ∧ t.cores = s.cores)) ∧
     (∀ set, ∃ t, exec (.l2Prb h set c) s = .next t ∧ Msg.prbReport h set c ∈ t.net ∧ OnlyChanges [.net] s t)) ∧
  ((∀ (s : State) (c l : Nat) (g : Granted) (d : Line) (p : Word) (r : L2Req), (s.core c).reqOf l = some r → (s.core c).evRoom = true → (s.core c).quiet →
     (g = .m → ∀ x, s.myTxn c l = some x → x.await = []) → (∀ e ∈ (s.core c).l2, l2Set e.1 = l2Set l → e.1 ≠ l → e.2.st = .i) → s.l2Ways c ≠ [] →
     ∃ t w, exec (.l2Data c l g d p) s = .next t ∧ w ∈ s.l2Ways c ∧ (t.core c).l2line l = { st := grantedState g, way := w, data := d, poison := p } ∧
       (t.core c).reqOf l = none ∧ (t.core c).x = (s.core c).x ∧ ∀ k, k ≠ c → t.core k = s.core k) ∧
   (∀ (s : State) (c l : Nat) (d : Line) (p : Word) (x : Txn), s.myTxn c l = some x → x.await ≠ [] → exec (.l2Data c l .m d p) s = .next s) ∧
   (∀ (s : State) (c l : Nat) (r : L2Req), (s.core c).reqOf l = some r → (s.core c).quiet → ((s.core c).l2line l).st ≠ .i →
     ∃ t, exec (.l2Grant c l) s = .next t ∧ (t.core c).l2line l = { (s.core c).l2line l with st := .m } ∧ (t.core c).reqOf l = none ∧ (t.core c).x = (s.core c).x) ∧
   (∀ (s : State) (c l : Nat),
     ∃ t, exec (.l2Evictack c l) s = .next t ∧ (t.core c).ev l = none ∧ (t.core c).l2 = (s.core c).l2 ∧ OnlyChanges [.cores, .net] s t) ∧
   (∀ (s : State) (c l hint : Nat) (r : L2Req), (s.core c).reqOf l = some r →
     ∃ t, exec (.l2Retry c l hint) s = .next t ∧ (t.core c).reqOf l = some { r with backoff := some hint } ∧ OnlyChanges [.cores, .net] s t) ∧
   (∀ (s : State) (c l b : Nat) (r : L2Req), (s.core c).reqOf l = some r → r.backoff = some b → s.homesHeld = false →
     ∃ t, exec (.retryResend c l) s = .next t ∧ (t.core c).reqOf l = some { r with n := r.n + 1, backoff := none } ∧
       Msg.req (s.home l) l c r.kind (r.n + 1) (s.core c).part ∈ t.net ∧ OnlyChanges [.cores, .net] s t))

/-- R304 to R306, R324, R325: full training of an untrained controller is refused by the first case of the population check or starts and drops the saved set; its end
loses the channel's contents and no other byte, and leaves the controller READY or DISABLED; a resume starts, and a discard drops the saved set.
R306, R309, R326: a self-refresh request is taken only behind a fence; taking it back starts a resume from SELFREF; an APPLY of the decode is refused with the
lowest code that holds or puts the eight regions in force. -/
def Obligations.ControllersTrainAndRest : Prop :=
  ((∀ (s : State) (m : Nat), s.hasMc m = true → s.mcState m = mcUntrained →
     (∀ c, s.populationRefusal m = some c →
       ∃ t, exec (.trainFull m) s = .next t ∧ t.mcState m = mcDisabled ∧ t.fld (Reg.MC_TRAIN m) F.MC_TRAIN_RESULT = c ∧
         t.flag (Reg.MC_TRAIN m) F.MC_TRAIN_DONE = true ∧ OnlyChanges [.regs] s t) ∧
     (s.populationRefusal m = none →
       ∃ t, exec (.trainFull m) s = .next t ∧ t.mcState m = mcTraining ∧ t.flag (Reg.MC_TRAIN m) F.MC_TRAIN_SAVEDV = false ∧ (t.chan m).serials = none ∧
         OnlyChanges [.regs, .chans] s t) ∧
     (∃ t, exec (.trainResume m) s = .next t ∧ t.mcState m = mcResuming ∧ t.fld (Reg.MC_TRAIN m) F.MC_TRAIN_MODE = 1 ∧ OnlyChanges [.regs] s t)) ∧
   (∀ (s : State) (m : Nat) (ok : Bool), s.mcState m = mcTraining →
     ∃ t, exec (.trainingComplete m ok) s = .next t ∧ t.mcState m = (if ok then mcReady else mcDisabled) ∧
       t.fld (Reg.MC_TRAIN m) F.MC_TRAIN_RESULT = (if ok then 0 else 5) ∧ t.flag (Reg.MC_TRAIN m) F.MC_TRAIN_DONE = true ∧
       (ok = true → t.flag (Reg.MC_TRAIN m) F.MC_TRAIN_SAVEDV = true) ∧ (∀ a, a < 2 ^ 48 → t.byte (dramKey m a) = 0) ∧
       (∀ k, (k < dramKey m 0 ∨ dramKey m 0 + 2 ^ 48 ≤ k) → t.byte k = s.byte k)) ∧
   (∀ (s : State) (m : Nat), s.hasMc m = true →
     ∃ t, exec (.trainDiscard m) s = .next t ∧ t.flag (Reg.MC_TRAIN m) F.MC_TRAIN_SAVEDV = false ∧ (t.chan m).serials = none ∧
       (((s.chan m).ret = false ∨ s.domRun (192 + m) = true) → t.mem = s.mem))) ∧
  ((∀ (s : State) (m : Nat), s.hasMc m = true →
     (s.epState (epMc m) = epFenced → ∃ t, exec (.srreqSet m) s = .next t ∧ t.flag (Reg.MC_PWRCTL m) F.MC_PWRCTL_SRREQ = true ∧ OnlyChanges [.regs] s t) ∧
     (s.epState (epMc m) = epOpen → exec (.srreqSet m) s = .next s) ∧
     (∃ t, exec (.srreqClear m) s = .next t ∧ t.flag (Reg.MC_PWRCTL m) F.MC_PWRCTL_SRREQ = false ∧
       t.mcState m = (if s.mcState m = mcSelfref then mcResuming else s.mcState m) ∧ OnlyChanges [.regs] s t)) ∧
   (∀ (s : State),
     (∀ c, s.applyReject = some c → ∃ t, exec .dramctlApply s = .next t ∧ t.flag Reg.CHIP_DRAMCTL F.CHIP_DRAMCTL_REJ = true ∧
       t.fld Reg.CHIP_DRAMCTL F.CHIP_DRAMCTL_REJCODE = c ∧ t.decode = s.decode ∧ OnlyChanges [.regs] s t) ∧
     (s.applyReject = none → ∃ t, exec .dramctlApply s = .next t ∧ (∀ i, i < 8 → t.region i = s.rgnRegs i) ∧ OnlyChanges [.decode] s t)))

/-- R310 to R312, R315, R316, R318: an uncharged write puts its line and poison into the channel and no other byte changes; a good read changes no memory; a read
with one bad device is counted as corrected; one with more poisons the word and counts it as uncorrectable; a good secondary repairs the primary; the patrol goes
on to the next word. -/
def Obligations.ReadsWritesAndScrubs : Prop :=
  ∀ (s : State) (m addr : Nat) (loc : DramLoc),
    let a := addr / 64 * 64
    let k := dramKey m a
    (s.mcServes m = true →
      (∀ d p, s.mirrored m a = false →
        ∃ t, exec (.mcWrite m addr d p none) s = .next t ∧ (∀ i, i < 64 → t.byte (k + i) = lineByte d i ∧ t.isPoison (k + i) = (p != 0)) ∧
          (∀ b, (b < k ∨ k + 64 ≤ b) → t.byte b = s.byte b) ∧ (∀ r ∈ (t.chan m).recov, r.1 ≠ a) ∧ OnlyChanges [.mem, .memPoison, .chans] s t) ∧
      (s.injKind (unitMc m) 0 (some a) = none → a ∉ (s.chan m).alt →
        (∃ t, exec (.mcRead m addr .good loc none false) s = .next t ∧ OnlyChanges [.chans] s t) ∧
        (∀ dev, s.wordPoisoned m a = false → (∀ r ∈ (s.chan m).recov, r.1 ≠ a) →
          ∃ t, exec (.mcRead m addr (.one dev) loc none false) s = .next t ∧ t.flag (Reg.MC_ERRSTAT m) F.MC_ERRSTAT_CE = true ∧
            t.fld (Reg.MC_CECNT m) F.MC_CECNT_CE = satAdd (2 ^ F.MC_CECNT_CE.w - 1) (s.fld (Reg.MC_CECNT m) F.MC_CECNT_CE) 1 ∧ t.mem = s.mem ∧
            t.memPoison = s.memPoison ∧ (s.flag (Reg.MC_CFG m) F.MC_CFG_DEMAND = true → (a, dev) ∈ (t.chan m).recov)) ∧
        (s.wordPoisoned m a = false → s.mirrored m a = false →
          ∃ t, exec (.mcRead m addr .bad loc none false) s = .next t ∧ (∀ i, i < 64 → t.isPoison (k + i) = true) ∧ (∀ b, t.byte b = s.byte b) ∧
            t.flag (Reg.MC_ERRSTAT m) F.MC_ERRSTAT_UE = true ∧ (∃ e ∈ t.errq, e.unit = unitMc m ∧ e.sev = some 1))) ∧
      (∃ t, exec (.demandScrubWrite m addr) s = .next t ∧ (∀ r, r ∈ (t.chan m).recov ↔ r ∈ (s.chan m).recov ∧ r.1 ≠ a) ∧ OnlyChanges [.chans] s t) ∧
      (s.flag (Reg.MC_SCRUB m) F.MC_SCRUB_PATROL = true → (s.chan m).window = none →
        s.injKind (unitMc m) 0 (some (64 * (s.chan m).patrol)) = none → 64 * (s.chan m).patrol ∉ (s.chan m).alt →
        ∃ t, exec (.patrolRead m .good loc) s = .next t ∧ t.mem = s.mem ∧
          (t.chan m).patrol = (if s.dimmBytes m / 64 ≤ (s.chan m).patrol + 1 then 0 else (s.chan m).patrol + 1))) ∧
    (∀ q, (s.chan m).mirrorQ.find? (fun q => q.1 == a) = some q → s.wordPoisoned (m + 6) a = false → a ∉ (s.chan (m + 6)).alt →
      ∃ t, exec (.mirrorSecondaryRead m addr .good loc) s = .next t ∧ (t.chan m).mirrorQ = (s.chan m).mirrorQ.erase q ∧
        (∀ i, i < 64 → t.byte (k + i) = s.byte (dramKey (m + 6) a + i) ∧ t.isPoison (k + i) = false) ∧ t.flag (Reg.MC_ERRSTAT m) F.MC_ERRSTAT_CE = true) ∧
    exec (.refresh m) s = .next s

/-- R320 to R322, R509: a cyclic read in an open window takes one of its bounded reads and is counted there, outside one it is counted as over; a window opens
with its cap, closes, and its configuration is accepted or marked bad; a charged request of a limited class without a token waits and is counted.
R313, R317, R319: sparing starts where a spare rank is ready and its copy ends with the rank spared; a repair that a case refuses ends with its code, another is
in progress until it completes; a failed command is counted and tried again, the fourth in a row fails the controller and its endpoint. -/
def Obligations.ServiceWindowsSparingAndRetries : Prop :=
  (∀ (s : State) (m : Nat),
     (s.mcServes m = true →
       (∀ addr loc p n, s.injKind (unitMc m) 0 (some (addr / 64 * 64)) = none → addr / 64 * 64 ∉ (s.chan m).alt → (s.chan m).window = some (n + 1) →
         ∃ t, exec (.mcRead m addr .good loc p true) s = .next t ∧ (t.chan m).window = some n ∧
           t.fld (Reg.MC_TC0CNT m) F.MC_TC0CNT_IN = satAdd (2 ^ F.MC_TC0CNT_IN.w - 1) (s.fld (Reg.MC_TC0CNT m) F.MC_TC0CNT_IN) 1 ∧ t.mem = s.mem ∧
           t.memTok = s.memTok) ∧
       (∀ addr loc, s.injKind (unitMc m) 0 (some (addr / 64 * 64)) = none → addr / 64 * 64 ∉ (s.chan m).alt → (s.chan m).window = none →
         ∃ t, exec (.mcRead m addr .good loc none true) s = .next t ∧ t.mem = s.mem ∧
           t.fld (Reg.MC_TC0CNT m) F.MC_TC0CNT_OVER = satAdd (2 ^ F.MC_TC0CNT_OVER.w - 1) (s.fld (Reg.MC_TC0CNT m) F.MC_TC0CNT_OVER) 1) ∧
       (∀ addr d po p, let k := s.cosOf p
         s.fld (Reg.PRT_MEMTOK m k) F.PRT_MEMTOK_LIMIT = 1 → s.fld (Reg.PRT_MEMTOK m k) F.PRT_MEMTOK_BORROW = 0 → s.memTokens (tokKey m k) = 0 →
         ∃ t, exec (.mcWrite m addr d po (some p)) s = .next t ∧ (t.chan m).held = (s.chan m).held ++ [.write (addr / 64 * 64) d po k] ∧
           t.fld (Reg.PRT_MEMHELD m) ⟨0, 64⟩ = satAdd (2 ^ 64 - 1) (s.fld (Reg.PRT_MEMHELD m) ⟨0, 64⟩) 1 ∧ t.mem = s.mem) ∧
       (s.flag (Reg.MC_TC0CTL m) F.MC_TC0CTL_EN = true →
         ∃ t, exec (.tc0WindowOpen m) s = .next t ∧ (t.chan m).window = some (s.winCap m) ∧ s.winCap m ≤ 64 ∧ OnlyChanges [.chans] s t)) ∧
     (∃ t, exec (.tc0WindowClose m) s = .next t ∧ (t.chan m).window = none ∧ OnlyChanges [.chans] s t) ∧
     (∀ v, s.hasMc m = true → s.flag (Reg.MC_TC0CTL m) F.MC_TC0CTL_EN = false → getF v F.MC_TC0CTL_EN = 1 →
       let bad := winBad (s.fld (Reg.MC_TC0WIN m) F.MC_TC0WIN_PERIOD) (s.fld (Reg.MC_TC0WIN m) F.MC_TC0WIN_OFFSET) (getF v F.MC_TC0CTL_LEN)
       ∃ t, exec (.mcTc0ctlWrite m v) s = .next t ∧ t.flag (Reg.MC_TC0CTL m) F.MC_TC0CTL_EN = !bad ∧ t.flag (Reg.MC_TC0CTL m) F.MC_TC0CTL_BADCFG = bad ∧
         t.fld (Reg.MC_TC0CTL m) F.MC_TC0CTL_LEN = getF v F.MC_TC0CTL_LEN ∧ OnlyChanges [.regs] s t)) ∧
  (∀ (s : State) (m : Nat), s.hasMc m = true →
     (∀ src, s.spareReady m = true → ∃ t, exec (.sparingStart m src) s = .next t ∧ t.fld (Reg.MC_SPARE m) F.MC_SPARE_STATE = 1 ∧
       t.fld (Reg.MC_SPARE m) F.MC_SPARE_SRC = src % 16 ∧ OnlyChanges [.regs] s t) ∧
     (s.fld (Reg.MC_SPARE m) F.MC_SPARE_STATE = 1 → (s.chan m).window = none → ∃ t, exec (.sparingCopyComplete m) s = .next t ∧ t.fld (Reg.MC_SPARE m) F.MC_SPARE_STATE = 2 ∧
       t.flag (Reg.MC_STAT m) F.MC_STAT_SPARED = true ∧ OnlyChanges [.regs] s t) ∧
     (∀ (i : Instr) (hard : Bool) (rank : Nat) (no out : Bool), (i = .sppr m rank no out ∧ hard = false) ∨ (i = .hppr m rank no out ∧ hard = true) →
       (∀ c, s.pprRefusal m rank hard no out = some c → ∃ t, exec i s = .next t ∧ t.fld (Reg.MC_PPRCTL m) F.MC_PPRCTL_RESULT = c ∧
         t.flag (Reg.MC_PPRCTL m) F.MC_PPRCTL_DONE = true ∧ t.chans = s.chans) ∧
       (s.pprRefusal m rank hard no out = none → (hard = false → s.mcState m = mcReady) →
         ∃ t, exec i s = .next t ∧ (t.chan m).ppr = some hard ∧ OnlyChanges [.regs, .chans] s t)) ∧
     (∀ b, (s.chan m).ppr = some b → (s.chan m).window = none → ∃ t, exec (.pprComplete m) s = .next t ∧ (t.chan m).ppr = none ∧ t.fld (Reg.MC_PPRCTL m) F.MC_PPRCTL_RESULT = 0 ∧
       t.flag (Reg.MC_PPRCTL m) F.MC_PPRCTL_DONE = true ∧ t.mem = s.mem) ∧
     (∀ (i : Instr) (w : Nat), (i = .alertN m w ∧ s.flag (Reg.MC_CFG m) F.MC_CFG_CAPAR = true) ∨ (i = .writeCrcError m w ∧ s.flag (Reg.MC_CFG m) F.MC_CFG_WRCRC = true) →
       s.mcServes m = true →
       ((s.chan m).retries + 1 < 4 → ∃ t, exec i s = .next t ∧ (t.chan m).retries = (s.chan m).retries + 1 ∧ t.mcState m = mcReady ∧ t.mem = s.mem) ∧
       (3 ≤ (s.chan m).retries → ∃ t, exec i s = .next t ∧ t.mcState m = mcFailed ∧ t.flag (Reg.MC_ERRSTAT m) F.MC_ERRSTAT_RETRYFAIL = true ∧
         t.epState (epMc m) = epDead ∧ t.fld (epctl (epMc m)) F.RTR_EPCTL_CAUSE = 3)))

/-- R343, R347: a step sets tide time at once, a slew is carried out without one and ends with nothing left of it, the lower half of an adjustment is staged; an
adjustment that is refused changes tide time in no way and gives its code.
R345, R346: a measurement records its offset, moves the servo as the rule's table says and leaves a rate within the clamp; measurements that stay away bring the
servo to HOLDOVER, a write of the role to FREE; the pulse output is high for 100 µs. -/
def Obligations.TideTimeIsAdjustedAndServoed : Prop :=
  (∀ (s : State) (off : Nat),
     let d := signed 48 off
     (d ≠ 0 → s.adjRefusal true = none → ∃ t, exec (.ttadjStep off) s = .next t ∧ t.now = (((s.now : Int) + d) % 2 ^ 64).toNat ∧ t.mem = s.mem) ∧
     (∀ c, d ≠ 0 → s.adjRefusal true = some c → ∃ t, exec (.ttadjStep off) s = .next t ∧ t.flag Reg.CHIP_TTSTAT F.CHIP_TTSTAT_REJ = true ∧
       t.fld Reg.CHIP_TTSTAT F.CHIP_TTSTAT_REJCODE = c ∧ t.now = s.now ∧ t.time.slew = s.time.slew) ∧
     (d ≠ 0 → s.adjRefusal false = none → ∃ t, exec (.ttadjSlew off) s = .next t ∧ t.flag Reg.CHIP_TTSTAT F.CHIP_TTSTAT_SLEWING = true ∧
       t.time.slew = d * 2 ^ 32 ∧ t.now = s.now ∧ OnlyChanges [.regs, .time] s t) ∧
     (∀ v, ∃ t, exec (.ttadjLowerHalf v) s = .next t ∧ t.time.stage = v % 2 ^ 32 ∧ t.now = s.now ∧ OnlyChanges [.time] s t) ∧
     (s.time.slew ≠ 0 → 0 < s.slewRoom → s.time.refOn = true →
       ∃ t, exec .slewEnd s = .next t ∧ t.time.slew = 0 ∧ t.flag Reg.CHIP_TTSTAT F.CHIP_TTSTAT_SLEWING = false ∧ OnlyChanges [.regs, .time] s t)) ∧
  ((∀ (s : State) (i : Instr) (off : Int),
     (∃ lane, i = .servoMeasurement lane off ∧ s.ttRole = 1 ∧ s.fld Reg.CHIP_TTPORT F.CHIP_TTPORT_LANE = lane ∧
       s.fld (Reg.FLN_PTPCTL (lane / 24) (lane % 24)) F.FLN_PTPCTL_ROLE = 2 ∧ s.fld (Reg.FLN_STAT (lane / 24) (lane % 24)) F.FLN_STAT_STATE = 5) ∨
     (i = .ppsEdge ∧ s.ttRole = 3 ∧ s.flag Reg.CHIP_TTPPS F.CHIP_TTPPS_PPSIN = true ∧
       off = (((s.now + 500000000) % 1000000000 : Nat) : Int) - 500000000) →
     ∃ t, exec i s = .next t ∧ t.reg Reg.CHIP_TTOFFSET = BitVec.ofInt 64 off ∧
       (s.servo = svFree ∨ s.servo = svHoldover → t.servo = svAcquire) ∧
       (s.servo = svLocked → t.servo = if 4 * s.lockThr ≤ off.natAbs then svAcquire else svLocked) ∧
       (s.servo = svAcquire → t.servo = if off.natAbs < s.lockThr ∧ 16 ≤ s.time.good + 1 then svLocked else svAcquire) ∧
       (t.reg Reg.CHIP_TTRATE ≠ s.reg Reg.CHIP_TTRATE →
         -ttClamp ≤ signed 32 (t.fld Reg.CHIP_TTRATE F.CHIP_TTRATE_RATE) ∧ signed 32 (t.fld Reg.CHIP_TTRATE F.CHIP_TTRATE_RATE) ≤ ttClamp)) ∧
   (∀ (s : State), (s.ttRole = 1 ∨ s.ttRole = 3) → (s.servo = svAcquire ∨ s.servo = svLocked) →
     let n := max 1 (s.fld Reg.CHIP_TTSERVO F.CHIP_TTSERVO_HOLDN)
     (n ≤ s.time.missing + 1 → ∃ t, exec .measurementMissing s = .next t ∧ t.servo = svHoldover ∧ OnlyChanges [.regs, .time] s t) ∧
     (s.time.missing + 1 < n → ∃ t, exec .measurementMissing s = .next t ∧ t.servo = s.servo ∧ t.time.missing = s.time.missing + 1 ∧ OnlyChanges [.time] s t)) ∧
   (∀ (s : State) (v : Word), ∃ t, exec (.ttctlRoleWrite v) s = .next t ∧ t.reg Reg.CHIP_TTCTL = s.written Reg.CHIP_TTCTL 8 v ∧ t.servo = svFree ∧
     t.now = s.now ∧ OnlyChanges [.regs, .time] s t) ∧
   (∀ (s : State), s.flag Reg.CHIP_TTPPS F.CHIP_TTPPS_PPSOUT = true →
     ∃ t, exec .ppsOutput s = .next t ∧ t.time.ppsEnd = s.now + 100000 ∧ OnlyChanges [.time] s t))

/-- R547 to R556: a detected event that nothing of its instant precedes is recorded: a corrected one in its bucket, a failure in its unit log and the chip log, which
drops and counts it when it is full; buckets leak, and records are consumed within the log only.
R557 to R560: an injection is armed with no trigger made or refused with the code of the rule's order, and cancelled; a checker test starts only where its unit is
fenced and runs, and ends with DONE and its result. -/
def Obligations.ErrorsAreRecordedAndInjected : Prop :=
  ((∀ (s : State) (i : Nat) (e : ErrEvent), s.errq[i]? = some e → (∀ x ∈ s.errq, x.time = e.time → e.unit ≤ x.unit) →
     (∀ v, e.sev = some v → v ≠ 6 → v ≠ 7 → v ≠ 8 →
       ∃ t, exec (.errorRecord (.queued i)) s = .next t ∧ t.errq = s.errq.eraseIdx i ∧ t.flag (Reg.ERR_USTAT e.unit) F.ERR_USTAT_UE = true ∧
         (s.flag (Reg.ERR_USTAT e.unit) F.ERR_USTAT_UE = true → t.flag (Reg.ERR_USTAT e.unit) F.ERR_USTAT_MULTI = true) ∧
         (s.logFill ≠ 128 → Tbl.get (fun _ => {}) t.errlog ((s.reg Reg.ERR_LOGHEAD).toNat % 128) = mkRec e v e.detail ∧
           t.reg Reg.ERR_LOGHEAD = BitVec.ofNat 64 (((s.reg Reg.ERR_LOGHEAD).toNat + 1) % 2 ^ 32)) ∧
         (s.logFill = 128 → t.errlog = s.errlog ∧ t.reg Reg.ERR_LOGHEAD = s.reg Reg.ERR_LOGHEAD ∧ getB (t.reg Reg.ERR_LINESTAT) 6 = true) ∧
         (∀ k, sevLine v = some k → getB (t.reg Reg.ERR_LINESTAT) k = true) ∧ OnlyChanges [.regs, .errq, .errlog] s t) ∧
     (e.sev = none → e.cls < unitClasses e.unit →
       ∃ t, exec (.errorRecord (.queued i)) s = .next t ∧ t.errq = s.errq.eraseIdx i ∧ t.flag (Reg.ERR_USTAT e.unit) F.ERR_USTAT_CE = true ∧
         t.fld (Reg.ERR_BKT e.unit e.cls) F.ERR_BKT_COUNT =
           satAdd (2 ^ F.ERR_BKT_COUNT.w - 1) (s.fld (Reg.ERR_BKT e.unit e.cls) F.ERR_BKT_COUNT) 1 ∧
         t.fld (Reg.ERR_BKT e.unit e.cls) F.ERR_BKT_TOTAL =
           satAdd (2 ^ F.ERR_BKT_TOTAL.w - 1) (s.fld (Reg.ERR_BKT e.unit e.cls) F.ERR_BKT_TOTAL) 1)) ∧
   (∀ (s : State) (u c : Nat), c < unitClasses u →
     ∃ t, exec (.bucketLeak u c) s = .next t ∧ t.fld (Reg.ERR_BKT u c) F.ERR_BKT_COUNT = s.fld (Reg.ERR_BKT u c) F.ERR_BKT_COUNT - 1 ∧ OnlyChanges [.regs] s t) ∧
   (∀ (s : State) (v : Word),
     let old := (s.reg Reg.ERR_LOGTAIL).toNat
     (diff32 (v.toNat % 2 ^ 32) old ≤ s.logFill →
       ∃ t, exec (.errLogtailWrite v) s = .next t ∧ t.reg Reg.ERR_LOGTAIL = BitVec.ofNat 64 (v.toNat % 2 ^ 32) ∧ OnlyChanges [.regs] s t) ∧
     (s.logFill < diff32 (v.toNat % 2 ^ 32) old → exec (.errLogtailWrite v) s = .next s))) ∧
  (∀ (s : State),
     (∀ v, s.injRefusal v = none → ∃ t, exec (.errInjArm v) s = .next t ∧ t.armed = true ∧ t.fld Reg.ERR_INJSTAT F.ERR_INJSTAT_MADE = 0 ∧
       t.fld Reg.ERR_INJCTL F.ERR_INJCTL_UNIT = getF v F.ERR_INJCTL_UNIT ∧ t.fld Reg.ERR_INJCTL F.ERR_INJCTL_KIND = getF v F.ERR_INJCTL_KIND ∧
       t.fld Reg.ERR_INJCTL F.ERR_INJCTL_COUNT = getF v F.ERR_INJCTL_COUNT ∧ OnlyChanges [.regs] s t) ∧
     (∀ v k, s.injRefusal v = some k → ∃ t, exec (.errInjArm v) s = .next t ∧ t.flag Reg.ERR_INJCTL F.ERR_INJCTL_REJ = true ∧
       t.fld Reg.ERR_INJCTL F.ERR_INJCTL_REJCODE = k ∧ t.armed = s.armed ∧ OnlyChanges [.regs] s t) ∧
     (∃ t, exec .errInjCancel s = .next t ∧ t.armed = false ∧ OnlyChanges [.regs] s t) ∧
     (∀ u, s.stRefused u = false → ∃ t, exec (.selfTestGo u) s = .next t ∧ t.flag Reg.ERR_STCTL F.ERR_STCTL_GO = true ∧
       t.fld Reg.ERR_STCTL F.ERR_STCTL_UNIT = u ∧ OnlyChanges [.regs] s t) ∧
     (∀ u, s.stRefused u = true → ∃ t, exec (.selfTestGo u) s = .next t ∧ t.flag Reg.ERR_STCTL F.ERR_STCTL_REJ = true ∧ OnlyChanges [.regs] s t) ∧
     (s.flag Reg.ERR_STCTL F.ERR_STCTL_GO = true →
       (∃ t, exec (.selfTestComplete none) s = .next t ∧ t.flag Reg.ERR_STCTL F.ERR_STCTL_GO = false ∧ t.flag Reg.ERR_STSTAT F.ERR_STSTAT_DONE = true ∧
         t.flag Reg.ERR_STSTAT F.ERR_STSTAT_PASS = true ∧ OnlyChanges [.regs] s t) ∧
       (∀ i, ∃ t, exec (.selfTestComplete (some i)) s = .next t ∧ t.flag Reg.ERR_STCTL F.ERR_STCTL_GO = false ∧ t.flag Reg.ERR_STSTAT F.ERR_STSTAT_DONE = true ∧
         t.flag Reg.ERR_STSTAT F.ERR_STSTAT_PASS = false ∧ ∃ e ∈ t.errq, e.unit = s.fld Reg.ERR_STCTL F.ERR_STCTL_UNIT ∧ e.sev = some 6 ∧ e.detail = i)))

/-- R330, R331, R342, R352, R669: a refused write of a quad's or a lane's control register changes its REJ and REJCODE alone, an accepted one its fields; a lost
reference puts the lanes of the quad in DISABLED; a lane that is enabled, powered and has its reference leaves it for AN in mode K and for ACQ otherwise.
R342: negotiation, training, lock and hold lead a lane from AN through TRAIN, ACQ and HOLD to UP, each only from the state before it; a lane whose lock is lost
leaves UP, discards and counts every frame that it holds, and ends its preemption; the partner's remote fault shows in UP. -/
def Obligations.LanesAreConfiguredAndComeUp : Prop :=
  ((∀ (s : State) (q : Nat) (v : Word), s.hasQuad q = true →
     (∀ c, s.qctlRefusal q v = some c →
       ∃ t, exec (.flnQctlWrite q v) s = .next t ∧ t.flag (qdCtl q) F.FLN_QCTL_REJ = true ∧ t.fld (qdCtl q) F.FLN_QCTL_REJCODE = c ∧
         t.quadMode q = s.quadMode q ∧ (∀ a, a ≠ qdCtl q → t.reg a = s.reg a) ∧ OnlyChanges [.regs] s t) ∧
     ((∀ i, i < 4 → s.flag (lnCtl (4 * q + i)) F.FLN_CTL_EN = false) → getF v F.FLN_QCTL_MODE < 2 →
       ∃ t, exec (.flnQctlWrite q v) s = .next t ∧ t.reg (qdCtl q) = s.written (qdCtl q) 8 v ∧ (∀ a, a ≠ qdCtl q → t.reg a = s.reg a) ∧
         OnlyChanges [.regs] s t) ∧
     (∃ t, exec (.quadReferenceChange q false) s = .next t ∧ t.flag (qdStat q) F.FLN_QSTAT_REFOK = false ∧ ∀ i, i < 4 → t.lnState (4 * q + i) = 0) ∧
     (∃ t, exec (.quadReferenceChange q true) s = .next t ∧ t.flag (qdStat q) F.FLN_QSTAT_REFOK = true ∧
       ∀ i, i < 4 → s.flag (lnCtl (4 * q + i)) F.FLN_CTL_EN = true → s.domRun (204 + q) = true → s.lnState (4 * q + i) = 0 →
         t.lnState (4 * q + i) = if s.quadMode q = 1 then 1 else 3)) ∧
   (∀ (s : State) (l : Nat) (v : Word), s.hasLane l = true →
     (∀ c, getF v F.FLN_CTL_FEC = 1 → (s.fastLane l = true ∧ c = 1) ∨ (s.fastLane l = false ∧ s.quadMode (l / 4) = 2 ∧ c = 2) →
       ∃ t, exec (.flnCtlWrite l v) s = .next t ∧ t.flag (lnCtl l) F.FLN_CTL_REJ = true ∧ t.fld (lnCtl l) F.FLN_CTL_REJCODE = c ∧
         t.flag (lnCtl l) F.FLN_CTL_EN = s.flag (lnCtl l) F.FLN_CTL_EN ∧ t.lnState l = s.lnState l ∧ OnlyChanges [.regs] s t) ∧
     (getF v F.FLN_CTL_FEC = 0 →
       ∃ t, exec (.flnCtlWrite l v) s = .next t ∧ t.reg (lnCtl l) = s.written (lnCtl l) 8 v ∧
         (t.laneLive l = false → t.lnState l = 0) ∧
         (t.laneLive l = true → s.lnState l = 0 → t.lnState l = if s.quadMode (l / 4) = 1 then 1 else 3)) ∧
     (let a := Reg.FLN_TXEQ (l / 24) (l % 24)
      let pre := getF v F.FLN_TXEQ_PRE
      let main := getF v F.FLN_TXEQ_MAIN
      let post := getF v F.FLN_TXEQ_POST
      (s.quadMode (l / 4) = 1 → exec (.flnTxeqWrite l v) s = .next s) ∧
      (s.quadMode (l / 4) ≠ 1 → pre ≤ 15 → 20 ≤ main → main ≤ 48 → post ≤ 31 → pre + main + post ≤ 48 →
        ∃ t, exec (.flnTxeqWrite l v) s = .next t ∧ t.reg a = s.written a 8 v ∧ (∀ b, b ≠ a → t.reg b = s.reg b) ∧ OnlyChanges [.regs] s t) ∧
      (s.quadMode (l / 4) ≠ 1 → 48 < pre + main + post →
        ∃ t, exec (.flnTxeqWrite l v) s = .next t ∧ t.flag (lnCtl l) F.FLN_CTL_REJ = true ∧ t.fld (lnCtl l) F.FLN_CTL_REJCODE = 3 ∧ t.reg a = s.reg a ∧
          OnlyChanges [.regs] s t)))) ∧
  (∀ (s : State) (l : Nat), s.hasLane l = true →
     (∀ (i : Instr) (a b : Nat),
       (i = .anResolve l true ∧ a = 1 ∧ b = 2) ∨ (i = .linkTrainingComplete l ∧ a = 2 ∧ b = 3) ∨ (i = .linkTrainingTimeout l ∧ a = 2 ∧ b = 1) ∨
         (i = .blockLock l ∧ a = 3 ∧ b = 4) ∨ (i = .holdExpire l ∧ a = 4 ∧ b = 5) →
       (s.lnState l = a → ∃ t, exec i s = .next t ∧ t.lnState l = b ∧
         (b = 5 → t.flag (lnStat l) F.FLN_STAT_UPCHG = true) ∧ OnlyChanges [.regs] s t) ∧
       (s.lnState l ≠ a → exec i s = .next s)) ∧
     (s.lnState l = 1 → ∃ t, exec (.anResolve l false) s = .next t ∧ t.flag (lnStat l) F.FLN_STAT_NOAN = true ∧ t.lnState l = 1 ∧ OnlyChanges [.regs] s t) ∧
     (∀ cause, s.lnState l = 5 →
       let x := s.lane l
       let d := Reg.FLN_TXDROP (l / 24) (l % 24)
       ∃ t, exec (.lockLoss l cause) s = .next t ∧ t.lnState l = (if s.quadMode (l / 4) = 1 then 1 else 3) ∧ t.flag (lnStat l) F.FLN_STAT_FAULTEV = true ∧
         t.flag (lnStat l) F.FLN_STAT_UPCHG = true ∧ t.lane l = { x with queue := [], cur := none, susp := none } ∧
         t.fld d ⟨0, 32⟩ = min (2 ^ 32 - 1) (s.fld d ⟨0, 32⟩ + (x.cur.toList ++ x.susp.toList ++ x.queue).length) ∧
         t.preact l = false ∧ (∃ e ∈ t.errq, e.unit = unitLane l ∧ e.sev = none) ∧ t.mem = s.mem ∧ t.cores = s.cores) ∧
     (∀ on, s.lnState l = 5 →
       ∃ t, exec (.remoteFault l on) s = .next t ∧ t.flag (lnStat l) F.FLN_STAT_RFAULT = on ∧ t.lnState l = 5 ∧ OnlyChanges [.regs] s t))

/-- R334, R336 to R338: a frame that has left is counted, a bulk frame's completion waits to be written, and the transmitter begins the frame that it picks; an express
frame cuts a preemptable one, whose rest waits; an interval's end brings the gates of the next; a captured list takes over with its bank; PREACT follows the
verification.
R348, R349: a master port in UP sends Sync and Follow_Up, a port that is not disabled Pdelay_Req, and it answers a Pdelay_Req with both responses; a completed
measurement of the path stores the delay and makes the port capable where it is within the threshold. Message sizes: log 16. -/
def Obligations.FramesGatesAndGptp : Prop :=
  (∀ (s : State) (l : Nat), s.hasLane l = true →
     (s.lnState l = 5 → ∀ stamp,
       let x := s.lane l
       let cnt := Reg.FLN_TXCNT (l / 24) (l % 24)
       (∀ c, x.cur = some c → x.queue = [] → x.susp = none → c.frag = false →
         ∃ t, exec (.frameTransmitEnd l stamp false) s = .next t ∧ t.lane l = { x with cur := none } ∧
           t.fld cnt F.FLN_TXCNT_TX = min 0xFFFF_FFFF (s.fld cnt F.FLN_TXCNT_TX + 1) ∧ OnlyChanges [.regs, .lanes, .fns] s t ∧
           (∀ fn ds, c.body = .bulk fn ds → (t.fn (128 * (l / 24) + fn)).fin =
             (s.fn (128 * (l / 24) + fn)).fin ++ [{ descs := ds, code := 0, sent := c.len, tstamp := c.first }])) ∧
       (∀ f, x.cur = none → x.susp = none → (∀ g ∈ x.queue, s.holds l g = false) → s.pickFrame l stamp false = some f →
         ∃ t, exec (.frameTransmitEnd l stamp false) s = .next t ∧ t.lane l = { x with queue := x.queue.erase f, cur := some { f with first := stamp } }) ∧
       (∀ c f, x.cur = some c → x.susp = none → s.preemptable l c = true → (∀ g ∈ x.queue, s.holds l g = false) → s.pickFrame l stamp true = some f →
         ∃ t, exec (.frameTransmitEnd l stamp true) s = .next t ∧
           t.lane l = { x with queue := x.queue.erase f, cur := some { f with first := stamp }, susp := some { c with frag := true } })) ∧
     (∀ g, (s.lane l).oper = some g → s.flag (lnGclctl l) F.FLN_GCLCTL_EN = true →
       let x := s.lane l
       (∀ p, x.entry + 1 < (s.spans l g).length → (s.spans l g)[x.entry + 1]? = some p →
         ∃ t, exec (.gateIntervalEnd l) s = .next t ∧ t.lane l = { x with entry := x.entry + 1, gates := p.1, gateEnd := p.2.2 } ∧ OnlyChanges [.lanes] s t) ∧
       (∀ p, (s.spans l g).length ≤ x.entry + 1 → (s.spans l g)[0]? = some p →
         ∃ t, exec (.gateIntervalEnd l) s = .next t ∧
           t.lane l = { x with entry := 0, gates := p.1, gateEnd := p.2.2, cycleStart := x.cycleStart + g.cycle } ∧ OnlyChanges [.lanes] s t)) ∧
     (let len := s.fld (lnGclctl l) F.FLN_GCLCTL_LEN
      let cyc := s.fld (Reg.FLN_GCLCYCLE (l / 24) (l % 24)) ⟨0, 30⟩
      let base := (s.reg (Reg.FLN_GCLBASE (l / 24) (l % 24))).toNat
      (len ≠ 0 → 31250 ≤ cyc → cyc ≤ 1000000000 → s.flag (lnGclctl l) F.FLN_GCLCTL_SWAP = false →
        ∃ t, exec (.gclSwap l) s = .next t ∧ t.flag (lnGclctl l) F.FLN_GCLCTL_SWAP = true ∧
          t.lane l = { s.lane l with next := some ⟨len, cyc, (s.lane l).takeover s.now base cyc⟩ } ∧ OnlyChanges [.regs, .lanes] s t) ∧
      (len = 0 ∨ cyc < 31250 ∨ 1000000000 < cyc ∨ s.flag (lnGclctl l) F.FLN_GCLCTL_SWAP = true →
        ∃ t, exec (.gclSwap l) s = .next t ∧ t.flag (lnGclctl l) F.FLN_GCLCTL_ERR = true ∧ OnlyChanges [.regs] s t)) ∧
     (∀ g, (s.lane l).next = some g →
       ∃ t, exec (.gclTakeover l) s = .next t ∧ (t.lane l).oper = some g ∧ (t.lane l).next = none ∧ (t.lane l).entry = 0 ∧ (t.lane l).cycleStart = g.base ∧
         t.flag (lnGclctl l) F.FLN_GCLCTL_OPERBANK = !s.flag (lnGclctl l) F.FLN_GCLCTL_OPERBANK ∧ t.flag (lnGclctl l) F.FLN_GCLCTL_SWAP = false ∧
         OnlyChanges [.fresh, .regs, .lanes] s t) ∧
     (∀ ok, s.lnState l = 5 → s.flag (lnQcfg l) F.FLN_QCFG_PREEN = true →
       ∃ t, exec (.verifyComplete l ok) s = .next t ∧ t.preact l = ok ∧ (s.preact l ≠ ok → t.flag (lnStat l) F.FLN_STAT_PREVCHG = true) ∧
         OnlyChanges [.regs] s t)) ∧
  (∀ (s : State) (l : Nat), s.hasLane l = true → s.laneUp l = true → s.ptpRole l ≠ 0 →
     let bodies (t : State) := (t.lane l).queue.map TxFrame.body
     (s.ptpRole l = 1 → ∃ t, exec (.syncTransmit l) s = .next t ∧ bodies t = bodies s ++ [.ptp .sync, .ptp .followUp] ∧ OnlyChanges [.regs, .lanes] s t) ∧
     (s.ptpRole l ≠ 1 → exec (.syncTransmit l) s = .next s) ∧
     (∃ t, exec (.pdelayReqTransmit l) s = .next t ∧ bodies t = bodies s ++ [.ptp .pdelayReq] ∧ OnlyChanges [.regs, .lanes] s t) ∧
     (∃ t, exec (.gptpMessageReceive l .pdelayReq) s = .next t ∧ bodies t = bodies s ++ [.ptp .pdelayResp, .ptp .pdelayRespFollowUp] ∧
       OnlyChanges [.regs, .lanes] s t) ∧
     (∀ mld nrr, ∃ t, exec (.gptpMessageReceive l (.pdelayRespFollowUp mld nrr)) s = .next t ∧
       t.fld (Reg.FLN_PTPSTAT (l / 24) (l % 24)) F.FLN_PTPSTAT_MLD = min mld 0xFFFF ∧
       t.flag (Reg.FLN_PTPSTAT (l / 24) (l % 24)) F.FLN_PTPSTAT_ASCAP =
         decide (mld ≤ s.fld (Reg.FLN_PTPCTL (l / 24) (l % 24)) F.FLN_PTPCTL_NPDTHR) ∧ t.lanes = s.lanes ∧ OnlyChanges [.regs, .time] s t))

/-- R357 to R360, R385: a commit captures the staged entry and its station, one while BUSY is turned away with REJ; at its completion an entry that passes every
check replaces the slot whole and its station is MISSING, a zero format empties the slot, and a refused entry changes nothing but the result. -/
def Obligations.StationsAreCommitted : Prop :=
  ∀ (s : State) (e : Nat), s.hasFe e = true →
    let a := Reg.STN_CMDSTAT e
    (∀ st, s.flag a F.STN_CMDSTAT_BUSY = false →
      ∃ t, exec (.stationCommit e st) s = .next t ∧ t.flag a F.STN_CMDSTAT_BUSY = true ∧
        (t.fe e).commit = some (st % 2048, (List.range 8).map (fun j => s.reg (Reg.STN_STAGE e j))) ∧ OnlyChanges [.regs, .fes] s t) ∧
    (∀ st, s.flag a F.STN_CMDSTAT_BUSY = true →
      ∃ t, exec (.stationCommit e st) s = .next t ∧ t.flag a F.STN_CMDSTAT_REJ = true ∧ OnlyChanges [.regs] s t) ∧
    (∀ st ws, (s.fe e).commit = some (st, ws) → st < 2048 →
      let x := parseStn ws
      (x.fmt ≠ 0 → s.commitRefusal e st ws = none →
        ∃ t, exec (.stationCommitComplete e) s = .next t ∧ (∀ j, j < 8 → t.reg (Reg.STN_SLOT e st j) = ws.getD j 0) ∧ t.fld a F.STN_CMDSTAT_RESULT = 0 ∧
          t.flag a F.STN_CMDSTAT_DONE = true ∧ t.flag a F.STN_CMDSTAT_BUSY = false ∧ (t.fe e).commit = none ∧
          ((s.stnEnt e st).fmt = 0 → x.inlen ≠ 0 → t.stnState e st = stMissing ∧ t.stn (stnKey e st) = { wseq := (s.stn (stnKey e st)).wseq, txSeq := (s.stn (stnKey e st)).txSeq }) ∧
          (∀ k, k ≠ stnKey e st → t.stn k = s.stn k) ∧ OnlyChanges [.regs, .fast, .stns, .fes] s t) ∧
      (x.fmt = 0 →
        ∃ t, exec (.stationCommitComplete e) s = .next t ∧ (∀ j, j < 8 → t.reg (Reg.STN_SLOT e st j) = 0) ∧ t.stnState e st = stEmpty ∧
          t.fld a F.STN_CMDSTAT_RESULT = 0 ∧ OnlyChanges [.regs, .fast, .stns, .fes] s t) ∧
      (∀ c, x.fmt ≠ 0 → s.commitRefusal e st ws = some c →
        ∃ t, exec (.stationCommitComplete e) s = .next t ∧ t.flag a F.STN_CMDSTAT_REJ = s.flag a F.STN_CMDSTAT_REJ ∧ t.fld a F.STN_CMDSTAT_RESULT = c ∧
          (∀ j, j < 8 → t.reg (Reg.STN_SLOT e st j) = s.reg (Reg.STN_SLOT e st j)) ∧ t.stns = s.stns ∧ OnlyChanges [.regs, .fes] s t))

/-- R283, R361 to R364, R371, R382, R384, R419: an input frame that fails a check is dropped with its reason; an accepted one makes its station ALIVE, records its
cycle number and writes its block, payload and header, to the bank that fills, and no other byte; a refused write counts; the output that a read returns, or
its substitute, is queued on the station's lane; the oldest TC0 transfer is injected when its tokens suffice. -/
def Obligations.TideInputsAndOutputs : Prop :=
  (∀ (s : State) (l stamp : Nat) (bs : List Byte) (bad : List Nat), s.hasLane l = true →
    let e := l / 24
    let f := parseFrame bs
    let h := parseTide f.rest
    let st := h.station - 2048 * e
    let x := s.stnEnt e st
    f.etype = s.tideType e →
    (∀ r, s.tideReason e l f h = some r →
      ∃ t, exec (.tideFrameInput l bs bad stamp) s = .next t ∧ t.fld (Reg.FE_TIDEDROP e) ⟨32, 4⟩ = r ∧
        t.fld (Reg.FE_TIDEDROP e) ⟨0, 32⟩ = satAdd (2 ^ 32 - 1) (s.fld (Reg.FE_TIDEDROP e) ⟨0, 32⟩) 1 ∧ OnlyChanges [.regs, .net] s t) ∧
    (s.tideReason e l f h = none → x.fast = false → x.pair = false → s.imgOn e x.inimg = true →
      (let d := diff32 h.cycle (s.fld (Reg.STN_STATE e st) F.STN_STATE_SEQ)
       (s.stn (stnKey e st)).seqOk = false ∨ (d ≠ 0 ∧ d < 2 ^ 31)) →
      let a := s.inBank e x.inimg + x.inoff
      let blk := swapBytes x.swapIn ((f.rest.drop 16).take h.len) ++ List.replicate ((8 - x.inlen % 8) % 8) 0 ++ leBytes 4 h.cycle ++ [0] ++
        leBytes 1 h.flags ++ leBytes 1 l ++ [BitVec.ofNat 8 (((s.stn (stnKey e st)).wseq + 1) % 256)]
      (∃ c, regionOf a = .coreCast c ∨ regionOf a = .sharedCast c) → s.engOk (feRouter e) x.part a blk.length = true →
      (s.ep (epFe e)).tc0q = [] → (blk.length + 63) / 64 ≤ (s.ep (epFe e)).tokens → s.armed = false →
      ∃ t, exec (.tideFrameInput l bs bad stamp) s = .next t ∧ t.stnState e st = stAlive ∧ t.fld (Reg.STN_STATE e st) F.STN_STATE_SEQ = h.cycle ∧
        ∀ y, t.byte y = (if a ≤ y ∧ y < a + blk.length then blk.getD (y - a) 0 else s.byte y) ∧
          t.isPoison y = (if a ≤ y ∧ y < a + blk.length then (badMarks x.swapIn h.len bad).getD (y - a) false else s.isPoison y))) ∧
  (∀ (s : State) (e st : Nat), s.hasFe e = true → let x := s.stnEnt e st; x.fmt ≠ 0 →
    ∃ t, exec (.inputWriteRefused e st) s = .next t ∧ (t.stn (stnKey e st)).accepted = false ∧
      (if x.fast then t.flag (Reg.FE_FSSTAT (x.lane / 24) (x.lane % 24)) F.FE_FSSTAT_INDIRECT = true
       else t.fld (Reg.FE_IMGERR e x.inimg) F.FE_IMGERR_IN = satAdd (2 ^ 32 - 1) (s.fld (Reg.FE_IMGERR e x.inimg) F.FE_IMGERR_IN) 1) ∧
      OnlyChanges [.regs, .net, .stns] s t) ∧
  (∀ (s : State) (e : Nat) (r : SendRd) (rest : List SendRd), s.hasFe e = true → (s.fe e).reads = r :: rest →
    let x := s.stnEnt e r.station
    x.fmt ≠ 0 → x.fast = false → x.pair = false → s.laneUp x.lane = true →
    let sent (t : State) := (t.lane x.lane).queue.map (fun f => (f.body, f.bytes))
    let frame (sub : Bool) (p : List Byte) := (TxBody.tide r.station false, s.outFrame e r.station x.lane x (s.stn (stnKey e r.station)).txSeq r.cycle r.stamp
      sub (swapBytes x.swapOut p))
    ((∃ c, regionOf r.addr = .coreCast c ∨ regionOf r.addr = .sharedCast c) → r.refused = false → s.engAnswers (feRouter e) r.addr r.len = true →
      s.anyPoison r.addr r.len = false →
      ∃ t, exec (.sendOutputReadReturn e false) s = .next t ∧ (t.fe e).reads = rest ∧ sent t = sent s ++ [frame r.subst (s.bytes r.addr r.len)] ∧
        t.mem = s.mem) ∧
    (r.subst = false → x.submode = 2 →
      ∃ t, exec (.sendOutputReadReturn e true) s = .next t ∧ (t.fe e).reads = rest ∧ sent t = sent s ++ [frame true (List.replicate x.outlen 0)] ∧
        t.fld (Reg.FE_IMGERR e x.outimg) F.FE_IMGERR_OUT = satAdd (2 ^ 32 - 1) (s.fld (Reg.FE_IMGERR e x.outimg) F.FE_IMGERR_OUT) 1 ∧ t.mem = s.mem)) ∧
  (∀ (s : State) (k : Nat) (p : Tc0Pkt) (rest : List Tc0Pkt), (s.ep k).tc0q = p :: rest →
    ((s.ep k).tokens < p.flits → exec (.tc0Admit k) s = .next s) ∧
    (p.flits ≤ (s.ep k).tokens → (∀ e b, p.msg ≠ .input e b) → (∀ e r, p.msg ≠ .sendRead e r) → (∀ e a q b, p.msg ≠ .bankWord e a q b) →
      s.routeUp p.src p.dst = true →
      ∃ t, exec (.tc0Admit k) s = .next t ∧ t.net = s.net ++ [p.msg] ∧ (t.ep k).tc0q = rest ∧ (t.ep k).tokens = (s.ep k).tokens - p.flits ∧ t.mem = s.mem))

/-- R418, R426 to R433, R489: a store of the owner's partition to a fast lane's mailbox slot stages its bytes, any other is dropped; SEND closes the loop, counts and
queues the staged payload with its count as cycle number; the deadline closes an open loop with the substitute; a direct message is held as an offer. -/
def Obligations.FastLoopsSendAndExpire : Prop :=
  (∀ (s : State) (e i c : Nat) (v : Word) (part : Nat), s.hasFe e = true → s.answers (epFe e) = true → i < 24 →
    let l := 24 * e + i
    let y := s.fastSt l
    (∀ st off w, s.slotOwner e i = some st → (s.stnEnt e st).part = part → off < 0x100 →
      ∃ t, exec (.mailboxDataStore e c (0x1000 * i + off) w v part) s = .next t ∧
        t.fastSt l = { y with data := Tbl.mod (fun _ => 0) y.data (off / 8) (fun u => storeMb u v off w) } ∧ t.lanes = s.lanes ∧
        OnlyChanges [.cores, .net, .fast] s t) ∧
    (∀ st off w, s.slotOwner e i = some st → (s.stnEnt e st).part ≠ part → off < 0x1000 →
      ∃ t, exec (.mailboxDataStore e c (0x1000 * i + off) w v part) s = .next t ∧
        t.fld (Reg.FE_FSDROP e i) F.FE_FSDROP_DROPPED = satAdd (2 ^ 16 - 1) (s.fld (Reg.FE_FSDROP e i) F.FE_FSDROP_DROPPED) 1 ∧
        OnlyChanges [.regs, .cores, .net] s t) ∧
    (∀ st, s.slotOwner e i = some st → let x := s.stnEnt e st; x.part = part → x.pair = false → s.inSubst e x = false → s.laneUp l = true → v = 1 →
      (∀ f ∈ (s.lane l).queue, f.body ≠ .tide st x.fast) → x.fast = true →
      ∃ t, exec (.mailboxSend e c i v part) s = .next t ∧ t.fastSt l = { y with loop := none, sends := (y.sends + 1) % 2 ^ 32 } ∧
        (t.lane l).queue.map (fun f => (f.body, f.bytes, f.meas)) = (s.lane l).queue.map (fun f => (f.body, f.bytes, f.meas)) ++
          [(.tide st true, s.outFrame e st l x (s.stn (stnKey e st)).txSeq ((y.sends + 1) % 2 ^ 32) (s.now % 2 ^ 32) false
              (swapBytes x.swapOut (y.payload x.outlen)), y.loop)] ∧
        (y.loop = none → t.fld (Reg.FE_FSMISS e i) F.FE_FSMISS_LATE = satAdd (2 ^ 16 - 1) (s.fld (Reg.FE_FSMISS e i) F.FE_FSMISS_LATE) 1) ∧
        t.mem = s.mem) ∧
    (∀ st o, s.slotOwner e i = some st → y.loop = some o → s.fld (Reg.FE_FSCFG e i) F.FE_FSCFG_DEADLINE ≠ 0 →
      ∃ t, exec (.deadlineExpire l) s = .next t ∧ (t.fastSt l).loop = none ∧ t.flag (Reg.FE_FSSTAT e i) F.FE_FSSTAT_DLEXP = true ∧
        t.fld (Reg.FE_FSMISS e i) F.FE_FSMISS_DLSUB = satAdd (2 ^ 16 - 1) (s.fld (Reg.FE_FSMISS e i) F.FE_FSMISS_DLSUB) 1 ∧ t.mem = s.mem)) ∧
  (∀ (s : State) (n k prio num : Nat), s.hasCore n = true → s.answers (epCore n) = true → (s.core n).run ≠ .halt →
    ∃ t, exec (.directMessage n k prio num) s = .next t ∧ { code := 5, src := k, prio := prio, num := num, direct := true : Offer } ∈ (t.core n).offers ∧
      (t.core n).x = (s.core n).x ∧ (t.core n).pc = (s.core n).pc ∧ OnlyChanges [.cores, .net] s t)

/-- R375 to R378: START, once its check passes, arms a table at its first boundary, a failed check leaves it with its code and entry; STOP ends an ARMED table at once
and a RUNNING one at its boundary, ABORT at once; a boundary starts the next cycle and skips the entries that the last one has not started. -/
def Obligations.TablesStartAndStop : Prop :=
  ∀ (s : State) (e k : Nat), s.hasFe e = true → k < 8 →
    let c := Reg.FE_TTCTL e k
    let y := s.tab (tabKey e k)
    (∀ bev,
      (∃ t, exec (.ttStart e k bev) s = .next t ∧ t.flag c F.FE_TTCTL_START = true ∧ t.flag c F.FE_TTCTL_BEV = bev ∧ t.ttState e k = s.ttState e k ∧
        OnlyChanges [.regs] s t) ∧
      (∃ t, exec (.ttStop e k bev) s = .next t ∧
        t.ttState e k = (if s.ttState e k = 1 then 0 else if s.ttState e k = 2 then 3 else s.ttState e k) ∧ OnlyChanges [.regs] s t) ∧
      (∃ t, exec (.ttAbort e k bev) s = .next t ∧ t.ttState e k = 0 ∧ t.flag c F.FE_TTCTL_STOP = false ∧ t.flag c F.FE_TTCTL_START = false ∧
        OnlyChanges [.regs] s t)) ∧
    (s.flag c F.FE_TTCTL_START = true →
      (∀ r n, s.ttRefusal e k = some (r, n) →
        ∃ t, exec (.ttStartCheckDone e k) s = .next t ∧ t.flag c F.FE_TTCTL_REJ = true ∧ t.fld c F.FE_TTCTL_ERRCODE = r ∧ t.fld c F.FE_TTCTL_ERRIDX = n ∧
          t.ttState e k = s.ttState e k ∧ OnlyChanges [.regs] s t) ∧
      (s.ttRefusal e k = none →
        let b := (s.reg (Reg.FE_TTBASE e k)).toNat
        let p := s.ttPeriod e k
        ∃ t, exec (.ttStartCheckDone e k) s = .next t ∧ t.ttState e k = 1 ∧ t.flag c F.FE_TTCTL_START = false ∧ (t.tab (tabKey e k)).next = 0 ∧
          (∃ m, (t.tab (tabKey e k)).start = b + m * p) ∧ (s.now ≤ (t.tab (tabKey e k)).start) ∧
          (b < s.now → (t.tab (tabKey e k)).start < s.now + p) ∧ OnlyChanges [.regs, .tabs] s t)) ∧
    (s.ttState e k = 1 → ∃ t, exec (.ttBoundary e k) s = .next t ∧ t.ttState e k = 2 ∧ t.ttCycle e k = 0 ∧ t.tab (tabKey e k) = { y with next := 0 }) ∧
    (s.ttState e k = 2 →
      ∃ t, exec (.ttBoundary e k) s = .next t ∧ t.ttState e k = 2 ∧ t.ttCycle e k = (s.ttCycle e k + 1) % 2 ^ 32 ∧
        t.tab (tabKey e k) = { start := y.start + s.ttPeriod e k, next := 0 } ∧
        t.fld (Reg.FE_TTLATE e k) F.FE_TTLATE_SKIPPED = satAdd (2 ^ 16 - 1) (s.fld (Reg.FE_TTLATE e k) F.FE_TTLATE_SKIPPED) (s.ttLen e k - y.next)) ∧
    (s.ttState e k = 3 → ∃ t, exec (.ttBoundary e k) s = .next t ∧ t.ttState e k = 0 ∧ t.flag c F.FE_TTCTL_STOP = false ∧ OnlyChanges [.regs] s t)

/-- R360, R369, R371, R374, R378, R380, R454: the sequencer's next entry, started before its cycle ends, does what its action says: NOP nothing, SEND the read of an output,
EXPECT the state row of a station without an accepted input, EVENT its flag, LADLE the start of a channel's program, FLIP the flips of an image, SYNC a marker
on each lane named. One that starts too late is skipped and counted. -/
def Obligations.TableEntriesAct : Prop :=
  ∀ (s : State) (e k : Nat), let op := s.entryOp e k
    (s.entryDue e k 0 → ∃ t, exec (.ttNop e k) s = .next t ∧ s.entryPassed t e k ∧ OnlyChanges [.regs, .tabs, .fes] s t) ∧
    (s.entryDue e k 1 → let st := op.toNat % 2048; let x := s.stnEnt e st
      x.fmt ≠ 0 → x.fast = false → s.inSubst e x = false → s.imgOn e x.outimg = true → x.outlen ≠ 0 →
      let a := s.outBank e x.outimg + x.outoff
      let isRead (r : SendRd) := r.station = st ∧ r.cycle = s.ttCycle e k ∧ r.len = x.outlen ∧ r.subst = false ∧ r.addr = a
      (regionOf a = .dram ∨ s.tc0Ready (epFe e) 1 = true →
        ∃ t, exec (.ttSend e k) s = .next t ∧ s.entryPassed t e k ∧ (∃ r : SendRd, (t.fe e).reads = (s.fe e).reads ++ [r] ∧ isRead r) ∧
          OnlyChanges [.regs, .tabs, .fes, .endpoints, .links] s t) ∧
      (∀ c, (regionOf a = .coreCast c ∨ regionOf a = .sharedCast c) → s.tc0Ready (epFe e) 1 = false →
        ∃ t, exec (.ttSend e k) s = .next t ∧ s.entryPassed t e k ∧ t.fes = s.fes ∧
          (∃ (r : SendRd) (p : Tc0Pkt), (t.ep (epFe e)).tc0q = (s.ep (epFe e)).tc0q ++ [p] ∧ p.msg = .sendRead e r ∧ p.flits = 1 ∧ isRead r) ∧
          OnlyChanges [.regs, .tabs, .fes, .endpoints] s t)) ∧
    (s.entryDue e k 2 → let st := op.toNat % 2048; let x := s.stnEnt e st; let y := s.stn (stnKey e st); let m := s.fld (Reg.STN_STATE e st) F.STN_STATE_MISSED + 1
      x.fmt ≠ 0 → x.inlen ≠ 0 →
      (y.accepted = true → ∃ t, exec (.ttExpect e k) s = .next t ∧ s.entryPassed t e k ∧ t.stn (stnKey e st) = { y with accepted := false, expected := true } ∧
        t.reg (Reg.STN_STATE e st) = s.reg (Reg.STN_STATE e st)) ∧
      (y.accepted = false → s.stnState e st ≠ stLost →
        ∃ t, exec (.ttExpect e k) s = .next t ∧ s.entryPassed t e k ∧ t.stnState e st = (if m < max 1 x.timeout then stMissing else stLost) ∧
          t.fld (Reg.STN_STATE e st) F.STN_STATE_MISSED = min 255 m ∧
          (max 1 x.timeout ≤ m → t.flag (Reg.FE_STAT e) F.FE_STAT_LOSTEV = true))) ∧
    (s.entryDue e k 3 → ∃ t, exec (.ttEvent e k) s = .next t ∧ s.entryPassed t e k ∧ getB (t.reg (Reg.FE_TEVFLAG e k)) (op.toNat % 64) = true ∧ t.mem = s.mem) ∧
    (s.entryDue e k 4 → let l := 2 * e + op.toNat % 64 / 32; let c := op.toNat % 32
      s.hasLdl l = true → s.domRun (218 + l) = true → s.fld (Reg.LDL_CHCFG l c) F.LDL_CHCFG_TIDE ≠ 0 →
      (s.chState l c = chIdle → ∃ t, exec (.ttLadle e k) s = .next t ∧ s.entryPassed t e k ∧ t.flag (Reg.LDL_CHSTAT l c) F.LDL_CHSTAT_TIDERUN = true ∧
        t.chState l c ≠ chIdle ∧ t.mem = s.mem) ∧
      (s.chState l c ≠ chIdle → ∃ t, exec (.ttLadle e k) s = .next t ∧ s.entryPassed t e k ∧
        t.fld (Reg.LDL_DBTIDEMISS l c) ⟨0, 32⟩ = satAdd (2 ^ 32 - 1) (s.fld (Reg.LDL_DBTIDEMISS l c) ⟨0, 32⟩) 1 ∧ t.ldls = s.ldls)) ∧
    (s.entryDue e k 5 → let i := op.toNat % 16; let c := s.ttCycle e (s.fld (Reg.FE_IMGCFG e i) F.FE_IMGCFG_TABLE)
      s.imgOn e i = true →
      ∃ t, exec (.ttFlip e k) s = .next t ∧ s.entryPassed t e k ∧ (t.img (imgKey e i)).flips = (s.img (imgKey e i)).flips ++
        (if getB op 8 then [(true, c)] else []) ++ (if getB op 9 then [(false, c)] else []) ∧ OnlyChanges [.regs, .imgs, .tabs, .fes] s t) ∧
    (s.entryDue e k 6 → ∀ i, i < 24 → bitsOf op 24 = [i] → s.laneUp (24 * e + i) = true →
      ∃ t, exec (.ttSync e k) s = .next t ∧ s.entryPassed t e k ∧
        (t.lane (24 * e + i)).queue.map TxFrame.body = (s.lane (24 * e + i)).queue.map TxFrame.body ++ [.marker] ∧ t.mem = s.mem) ∧
    (let y := s.tab (tabKey e k); let w := s.ttEntry e k y.next
     s.hasFe e = true → k < 8 → (s.ttState e k = 2 ∨ s.ttState e k = 3) → y.next < s.ttLen e k → y.start + s.ttPeriod e k ≤ s.startAt e (y.start + entOffset w) →
     ∀ i, (i = .ttNop e k ∧ entAction w = 0) ∨ (i = .ttSend e k ∧ entAction w = 1) ∨ (i = .ttExpect e k ∧ entAction w = 2) ∨
         (i = .ttEvent e k ∧ entAction w = 3) ∨ (i = .ttLadle e k ∧ entAction w = 4) ∨ (i = .ttFlip e k ∧ entAction w = 5) ∨ (i = .ttSync e k ∧ entAction w = 6) →
       ∃ t, exec i s = .next t ∧ s.entryPassed t e k ∧ t.flag (Reg.FE_STAT e) F.FE_STAT_TFAULT = true ∧
         t.fld (Reg.FE_TTLATE e k) F.FE_TTLATE_SKIPPED = satAdd (2 ^ 16 - 1) (s.fld (Reg.FE_TTLATE e k) F.FE_TTLATE_SKIPPED) 1 ∧ OnlyChanges [.regs, .tabs] s t)

/-- R366, R367, R369, R370, R381 to R383: an image whose banks pass their checks is enabled with both banks and its life sign at their start, one whose banks fail stays
off with CFGREJ; a flip inverts its bank bit and counts; RESUME and SUBFORCE take effect; a new life sign of the owner clears the count, any other is dropped. -/
def Obligations.ImagesFlipAndLive : Prop :=
  ∀ (s : State) (e i : Nat), s.hasFe e = true → i < 16 →
    let a := Reg.FE_IMGSTAT e i
    let y := s.img (imgKey e i)
    (∀ v, s.imgOn e i = false → getF v F.FE_IMGCFG_EN = 1 → s.imgRefused e i = false →
      ∃ t, exec (.imageEnable e i v) s = .next t ∧ t.imgOn e i = true ∧ t.flag a F.FE_IMGSTAT_CURIN = false ∧ t.flag a F.FE_IMGSTAT_CUROUT = false ∧
        t.fld a F.FE_IMGSTAT_LSCNT = 0 ∧ t.imgOwner e i = getF v F.FE_IMGCFG_OWNER ∧ t.img (imgKey e i) = { y with life := none, fresh := false, flips := [] } ∧
        OnlyChanges [.regs, .imgs] s t) ∧
    (∀ v, s.imgOn e i = false → getF v F.FE_IMGCFG_EN = 1 → s.imgRefused e i = true →
      ∃ t, exec (.imageEnable e i v) s = .next t ∧ t.imgOn e i = false ∧ t.flag a F.FE_IMGSTAT_CFGREJ = true ∧ OnlyChanges [.regs] s t) ∧
    (∀ v, s.imgOn e i = true → getF v F.FE_IMGCFG_EN = 0 →
      ∃ t, exec (.imageEnable e i v) s = .next t ∧ t.imgOn e i = false ∧ t.imgOwner e i = s.imgOwner e i ∧ OnlyChanges [.regs] s t) ∧
    (∀ inp cyc rest, y.flips = (inp, cyc) :: rest →
      ∃ t, exec (.flipComplete e i) s = .next t ∧ t.img (imgKey e i) = { y with flips := rest, fseq := (y.fseq + 1) % 256 } ∧
        t.flag a F.FE_IMGSTAT_CURIN = (if inp then !s.flag a F.FE_IMGSTAT_CURIN else s.flag a F.FE_IMGSTAT_CURIN) ∧
        t.flag a F.FE_IMGSTAT_CUROUT = (if inp then s.flag a F.FE_IMGSTAT_CUROUT else !s.flag a F.FE_IMGSTAT_CUROUT) ∧
        (s.reg (Reg.FE_IMGBW e i) = 0 → OnlyChanges [.regs, .imgs] s t)) ∧
    (∃ t, exec (.imageResume e i) s = .next t ∧ t.flag (Reg.FE_IMGCTL e i) F.FE_IMGCTL_RESUME = true ∧ OnlyChanges [.regs] s t) ∧
    (∀ v, ∃ t, exec (.subforceWrite e v) s = .next t ∧ t.reg (Reg.FE_SUBFORCE e) = v ∧ (∀ b, b ≠ Reg.FE_SUBFORCE e → t.reg b = s.reg b) ∧ OnlyChanges [.regs] s t) ∧
    (∀ c v part, s.answers (epFe e) = true → s.imgOn e i = true → part = s.imgOwner e i →
      (y.life ≠ some v → ∃ t, exec (.lifeSign e c i 0 8 v part) s = .next t ∧ t.img (imgKey e i) = { y with life := some v, fresh := true } ∧
        t.fld a F.FE_IMGSTAT_LSCNT = 0 ∧ OnlyChanges [.regs, .cores, .net, .imgs] s t) ∧
      (y.life = some v → ∃ t, exec (.lifeSign e c i 0 8 v part) s = .next t ∧ t.imgs = s.imgs ∧
        t.fld (Reg.FE_LSDROP e) F.FE_LSDROP_LS = satAdd (2 ^ 32 - 1) (s.fld (Reg.FE_LSDROP e) F.FE_LSDROP_LS) 1 ∧ OnlyChanges [.regs, .cores, .net] s t))

/-- R391 to R394, R396, R404, R408, R411: EN in DISABLED starts a function whose set-up passes its checks and otherwise leaves its code; QUIESCE and EN = 0 remove its
waiting frames and end in QUIESCED or DISABLED; a tail within the ring is taken, any other noted; filters, the ring timer and unmasking act. -/
def Obligations.FunctionsChangeState : Prop :=
  ∀ (s : State) (e f : Nat), s.hasFe e = true → f < 128 →
    let a := Reg.FE_FNSTAT e f
    let c := Reg.FE_FNCFG e f
    let y := s.fn (fnKey e f)
    (∀ v, s.fnState e f = 0 → getF v F.FE_FNCFG_EN = 1 →
      (s.fnRefusal e f = none →
        ∃ t, exec (.functionEnable e f v) s = .next t ∧ t.fnState e f = 1 ∧ t.flag c F.FE_FNCFG_EN = true ∧ t.fnOwner e f = getF v F.FE_FNCFG_OWNER ∧
          (∀ r, r < 5 → t.ringTail e f r = 0 ∧ t.ringHead e f r = 0) ∧
          t.fn (fnKey e f) = { txTok := burst (s.reg (Reg.FE_FNTXSHAPE e f)), txAt := s.now, rxTok := burst (s.reg (Reg.FE_FNRXSHAPE e f)), rxAt := s.now } ∧
          OnlyChanges [.regs, .fns] s t) ∧
      (∀ k, s.fnRefusal e f = some k →
        ∃ t, exec (.functionEnable e f v) s = .next t ∧ t.fnState e f = 0 ∧ t.flag a F.FE_FNSTAT_REJ = true ∧ t.fld a F.FE_FNSTAT_CFGERR = k ∧
          OnlyChanges [.regs] s t)) ∧
    (∀ i v dis, s.fnState e f = 1 → (i = .functionQuiesce e f v ∧ getF v F.FE_FNCFG_EN = 1 ∧ getF v F.FE_FNCFG_QUIESCE = 1 ∧ dis = false) ∨
        (i = .functionDisable e f v ∧ getF v F.FE_FNCFG_EN = 0 ∧ dis = true) →
      ∃ t, exec i s = .next t ∧ t.fnState e f = 2 ∧ (t.fn (fnKey e f)).disable = dis ∧ (t.fn (fnKey e f)).txq = [] ∧ (t.fn (fnKey e f)).rxq = [] ∧
        (∀ j, j < 24 → ∀ g ∈ (t.lane (24 * e + j)).queue, isFnFrame f g = false) ∧ OnlyChanges [.regs, .lanes, .fns] s t) ∧
    (∀ v, (s.fnState e f = 3 ∨ s.fnState e f = 4) → getF v F.FE_FNCFG_EN = 0 →
      ∃ t, exec (.functionDisable e f v) s = .next t ∧ t.fnState e f = 0 ∧ t.flag c F.FE_FNCFG_EN = false ∧ OnlyChanges [.regs] s t) ∧
    (s.fnState e f = 2 → y.fin = [] → y.rxf = [] → s.fnOnWire e f = false →
      ∃ t, exec (.quiesceComplete e f) s = .next t ∧ t.fnState e f = (if y.disable then 0 else 3) ∧ OnlyChanges [.regs] s t) ∧
    (∀ i r v, (i = .txTailWrite e f v ∧ r = 0) ∨ (∃ q, q < 4 ∧ i = .rxTailWrite e f q v ∧ r = q + 1) →
      let d := Reg.FE_DBSTAT e f
      let ok := s.fnRun e f && s.ringUsed e f r &&
        decide (diff32 (v % 2 ^ 32) (s.ringTail e f r) ≤ diff32 (s.ringHead e f r + s.ringSize e f r) (s.ringTail e f r))
      (ok = true → ∃ t, exec i s = .next t ∧ t.ringTail e f r = v % 2 ^ 32 ∧ OnlyChanges [.regs] s t) ∧
      (ok = false → ∃ t, exec i s = .next t ∧ t.ringTail e f r = s.ringTail e f r ∧ t.flag d F.FE_DBSTAT_DBERR = true ∧ t.fld d F.FE_DBSTAT_DBRING = r ∧
        OnlyChanges [.regs] s t)) ∧
    (∀ k v, k < 8 → ∃ t, exec (.filterWrite e f k v) s = .next t ∧ t.reg (Reg.FE_FNFILT e f k) = s.written (Reg.FE_FNFILT e f k) 8 v ∧
      (∀ b, b ≠ Reg.FE_FNFILT e f k → t.reg b = s.reg b) ∧ OnlyChanges [.regs] s t) ∧
    (∀ r, r < 5 → let g := s.reg (ringCfg e f r)
      let v := getF g F.FE_DBTXCFG_VEC
      s.fnRun e f = true → getF g F.FE_DBTXCFG_IE = 1 → getF g F.FE_DBTXCFG_ITIME ≠ 0 → Tbl.get (fun _ => 0) y.cnt r ≠ 0 →
      ∃ t, exec (.ringInterruptTimer e f r) s = .next t ∧ Tbl.get (fun _ => 0) (t.fn (fnKey e f)).cnt r = 0 ∧
        (getB (s.reg (Reg.FE_DBIMSET e f)) v = true → getB (t.reg (Reg.FE_DBIPEND e f)) v = true) ∧ t.mem = s.mem) ∧
    (∀ m, ∃ t, exec (.vectorUnmask false e f m) s = .next t ∧ t.mem = s.mem ∧ t.cores = s.cores ∧ ∀ v, v < 4 →
      let im (u : State) := getB (u.reg (Reg.FE_DBIMSET e f)) v
      let ip (u : State) := getB (u.reg (Reg.FE_DBIPEND e f)) v
      (getB m v = true → im t = false ∧ (im s = true → ip t = false)) ∧ (getB m v = false → im t = im s ∧ ip t = ip s))

/-- R394, R397 to R401, R405, R409: a posted descriptor whose read returns good joins the function's list, one with an error stops it; the segments of the head frame are
read; a frame that fails a check has its code to be written, one that passes is admitted against the bucket to its lane's bulk queue; a completion's eight
bytes are written, and no others, and HEAD advances. -/
def Obligations.FunctionsTransmit : Prop :=
  ∀ (s : State) (e f : Nat), s.hasFe e = true → f < 128 → s.fnRun e f = true →
    let k := fnKey e f
    let y := s.fn k
    (let i := y.txRead
     ∀ p, i ≠ s.ringTail e f 0 → s.fnCast e f (s.descAddr e f 0 i) 24 p → s.anyPoison p 24 = false →
      ∃ t, exec (.descriptorRead e f 0 false) s = .next t ∧ t.fn k = { y with txRead := (i + 1) % 2 ^ 32, txq := y.txq ++ [parseTxDesc i (s.bytes p 24)] } ∧
        OnlyChanges [.fns] s t) ∧
    (∀ r p, 1 ≤ r → r ≤ 4 → s.ringUsed e f r = true → let i := y.rxNext r
      i ≠ s.ringTail e f r → s.fnCast e f (s.descAddr e f r i) 24 p → s.anyPoison p 24 = false →
      ∃ t, exec (.descriptorRead e f r false) s = .next t ∧ (t.fn k).rxNext r = (i + 1) % 2 ^ 32 ∧ OnlyChanges [.fns] s t ∧
        (t.fn k).rxq = y.rxq ++ [{ ring := r, idx := i, addr := bitsAt (leWord ((s.bytes p 24).take 16)) 0 64, size := bitsAt (leWord ((s.bytes p 24).take 16)) 64 16 }]) ∧
    (y.txRead ≠ s.ringTail e f 0 →
      ∃ t, exec (.descriptorRead e f 0 true) s = .next t ∧ t.fnState e f = 4 ∧ t.fld (Reg.FE_FNSTAT e f) F.FE_FNSTAT_ERRCODE = 1 ∧ t.mem = s.mem) ∧
    (∀ d, (headDescs 16 y.txq).1[y.segs.length]? = some d →
      (d.len = 0 → ∃ t, exec (.txSegmentReadReturn e f false) s = .next t ∧ t.fn k = { y with segs := y.segs ++ [some []] } ∧ OnlyChanges [.fns] s t) ∧
      (∀ p, d.len ≠ 0 → s.fnCast e f d.addr d.len p →
        (s.anyPoison p d.len = false → ∃ t, exec (.txSegmentReadReturn e f false) s = .next t ∧
          t.fn k = { y with segs := y.segs ++ [some (s.bytes p d.len)] } ∧ OnlyChanges [.fns] s t) ∧
        (∃ t, exec (.txSegmentReadReturn e f true) s = .next t ∧ t.fn k = { y with segs := y.segs ++ [none] } ∧ OnlyChanges [.fns] s t))) ∧
    (∀ ds eop, headDescs 16 y.txq = (ds, eop) → ds ≠ [] → eop = true ∨ ds.length = 16 →
      let sh := s.reg (Reg.FE_FNTXSHAPE e f)
      (getF sh F.FE_FNTXSHAPE_RATE = 0 → exec (.txFrameAdmit e f) s = .next s) ∧
      (∀ c, getF sh F.FE_FNTXSHAPE_RATE ≠ 0 → s.txCheck e f ds eop = some c → ∃ t, exec (.txFrameAdmit e f) s = .next t ∧
        t.fn k = { y with txq := y.txq.drop ds.length, segs := [], fin := y.fin ++ [{ descs := y.txq.take ds.length, code := c }] } ∧ OnlyChanges [.fns] s t) ∧
      (∀ segs : List (List Byte), y.segs = segs.map some → segs.length = ds.length → s.txCheck e f ds eop = none →
        let d := ds.headD { idx := 0 }
        let l := 24 * e + d.lane
        let data := segs.flatten
        let bs := s.buildTx e f l d data
        let q := s.bulkQueue l d (parseFrame bs)
        let size := 1000 * (bs.length + 4)
        s.txForbidden e f (parseFrame data) = false → s.laneUp l = true → getF sh F.FE_FNTXSHAPE_RATE ≠ 0 → min size (burst sh) ≤ s.txTokens e f →
        ((s.lane l).queue.filter (fun g => match g.body with | .bulk _ _ => g.q == q | _ => false)).length < 64 →
        ∃ t, exec (.txFrameAdmit e f) s = .next t ∧
          t.fn k = { y with txq := y.txq.drop ds.length, segs := [], txTok := s.txTokens e f - size, txAt := s.now } ∧
          (t.lane l).queue.map (fun g => (g.body, g.bytes, g.q)) = (s.lane l).queue.map (fun g => (g.body, g.bytes, g.q)) ++ [(.bulk f ds, bs, q)] ∧
          OnlyChanges [.regs, .lanes, .fns] s t)) ∧
    (∀ x rest d p, y.fin = x :: rest → x.descs = [d] → y.txDone = [] → d.idx = s.ringHead e f 0 → s.logging (s.fnOwner e f) = false →
      s.fnCast e f (s.descAddr e f 0 d.idx + 24) 8 p →
      let b := leBytes 1 (128 + x.code) ++ leBytes 1 0 ++ leBytes 2 (if x.code = 0 then x.sent else 0) ++ leBytes 4 (if x.code = 0 then x.tstamp else 0)
      ∃ t, exec (.txFrameComplete e f false) s = .next t ∧ t.ringHead e f 0 = (s.ringHead e f 0 + 1) % 2 ^ 32 ∧ (t.fn k).fin = rest ∧
        ∀ z, t.byte z = if p ≤ z ∧ z < p + 8 then b.getD (z - p) 0 else s.byte z) ∧
    (∀ x rest d ds, y.fin = x :: rest → x.descs = d :: ds →
      ∃ t, exec (.txFrameComplete e f true) s = .next t ∧ t.fnState e f = 4 ∧ t.fld (Reg.FE_FNSTAT e f) F.FE_FNSTAT_ERRCODE = 2 ∧ t.mem = s.mem)

/-- R332, R402 to R407: a lane in UP counts a frame, drops and counts one that fails its checks, passes a tide frame on, consumes the gPTP messages that the hardware answers,
and gives any other to each running function of which a filter matches; the frame's data and its completion are written, and no other byte, and HEAD advances. -/
def Obligations.FunctionsReceive : Prop :=
  (∀ (s : State) (l : Nat) (bs : List Byte), s.hasLane l = true →
    let cnt := Reg.FLN_RXCNT (l / 24) (l % 24)
    let e := l / 24
    let p := parseFrame bs
    (s.laneUp l = false → ∀ ok, exec (.frameReceive l bs ok) s = .next s) ∧
    (s.laneUp l = true →
      (∃ t, exec (.frameReceive l bs false) s = .next t ∧ t.fld cnt F.FLN_RXCNT_RX = satAdd (2 ^ 32 - 1) (s.fld cnt F.FLN_RXCNT_RX) 1 ∧
        t.fld cnt F.FLN_RXCNT_BAD = satAdd (2 ^ 32 - 1) (s.fld cnt F.FLN_RXCNT_BAD) 1 ∧ OnlyChanges [.regs] s t) ∧
      (64 ≤ bs.length + 4 → bs.length + 4 ≤ s.maxFrame l → (p.dst % 2 = 1 ∨ p.dst = leWord (s.laneMac l)) → p.etype ≠ 0x8808 →
        (p.etype = s.tideType e → ∃ t, exec (.frameReceive l bs true) s = .next t ∧ t.net = s.net ++ [.rxTide l bs] ∧ OnlyChanges [.regs, .net] s t) ∧
        (p.etype ≠ s.tideType e → ptpConsumed p = true → ∃ t, exec (.frameReceive l bs true) s = .next t ∧
          t.fld cnt F.FLN_RXCNT_RX = satAdd (2 ^ 32 - 1) (s.fld cnt F.FLN_RXCNT_RX) 1 ∧ (∀ b, b ≠ cnt → t.reg b = s.reg b) ∧ OnlyChanges [.regs] s t) ∧
        (p.etype ≠ s.tideType e → ptpConsumed p = false → (∀ g, g < 128 → s.fnRun e g = true → s.filterOf e g l p = none) →
          ∃ t, exec (.frameReceive l bs true) s = .next t ∧
            t.fld (Reg.FE_RXNOMATCH e) ⟨0, 32⟩ = satAdd (2 ^ 32 - 1) (s.fld (Reg.FE_RXNOMATCH e) ⟨0, 32⟩) 1 ∧ OnlyChanges [.regs] s t) ∧
        (∀ f k ds, p.etype ≠ s.tideType e → ptpConsumed p = false → f < 128 → s.fnRun e f = true → s.filterOf e f l p = some k →
          (∀ g, g < 128 → g ≠ f → s.fnRun e g = true → s.filterOf e g l p = none) →
          let r := getF (s.reg (Reg.FE_FNFILT e f k)) ⟨3, 2⟩ + 1
          let y := s.fn (fnKey e f)
          getF (s.reg (ringCfg e f r)) F.FE_DBRXCFG_STRIP = 0 → getF (s.reg (Reg.FE_FNRXSHAPE e f)) F.FE_FNTXSHAPE_RATE ≠ 0 → 1000 * bs.length ≤ s.rxTokens e f → s.bulkBuffered e + bs.length ≤ 384 * 1024 →
          takeDescs 16 bs.length (y.rxq.filter (fun d => d.ring == r)) = some ds →
          ∃ t, exec (.frameReceive l bs true) s = .next t ∧ (∃ fr : RxFrm, (t.fn (fnKey e f)).rxf = y.rxf ++ [fr] ∧ fr.ring = r ∧ fr.bytes = bs ∧ fr.descs = ds ∧
              fr.filter = k ∧ fr.lane = l % 24 ∧ fr.flush = false) ∧
            (t.fn (fnKey e f)).rxTok = s.rxTokens e f - 1000 * bs.length ∧ (∀ d ∈ ds, d ∉ (t.fn (fnKey e f)).rxq) ∧ OnlyChanges [.regs, .fns] s t)))) ∧
  (∀ (s : State) (e f : Nat) (fr : RxFrm) (rest : List RxFrm) (d : RxDesc) (p q : Nat), s.hasFe e = true → f < 128 → s.fnState e f ≠ 0 →
    (s.fn (fnKey e f)).rxf = fr :: rest → fr.flush = false → fr.descs = [d] → d.size ≠ 0 → fr.bytes.length ≤ d.size → s.fnXlate e f d.addr d.size ≠ none →
    s.logging (s.fnOwner e f) = false → 1 ≤ fr.ring → fr.ring ≤ 4 → s.fnCast e f d.addr fr.bytes.length p → s.fnCast e f (s.descAddr e f fr.ring d.idx + 24) 8 q →
    let c := rxCompl fr 0 true d fr.bytes.length
    ∃ t, exec (.rxFrameWriteComplete e f false) s = .next t ∧ t.ringHead e f fr.ring = (s.ringHead e f fr.ring + 1) % 2 ^ 32 ∧ (t.fn (fnKey e f)).rxf = rest ∧
      t.fld (Reg.FE_FNRXCNT e f) F.FE_FNRXCNT_RX = satAdd (2 ^ 32 - 1) (s.fld (Reg.FE_FNRXCNT e f) F.FE_FNRXCNT_RX) 1 ∧
      ∀ z, t.byte z = if q ≤ z ∧ z < q + 8 then c.getD (z - q) 0
        else if p ≤ z ∧ z < p + fr.bytes.length then fr.bytes.getD (z - p) 0 else s.byte z)

/-- R446, R447, R450 to R453, R455, R458: EN starts a channel whose windows pass their checks; doorbells start, resume and clear it where its state allows and are noted
where not; a stop takes effect at a stop point, at once or when the instruction completes; an abort ends in STOPPED or DISABLED. -/
def Obligations.LadleChannelsChangeState : Prop :=
  ∀ (s : State) (l c : Nat), s.hasCh l c = true →
    let a := Reg.LDL_CHSTAT l c
    let d := Reg.LDL_DBSTAT l c
    let y := s.ldl (ldlKey l c)
    let st := s.chState l c
    (∀ v, st = chDisabled → getF v F.LDL_CHCFG_EN = 1 →
      (s.chRefusal l c = none → ∃ t, exec (.channelEnable l c v) s = .next t ∧ t.chState l c = chIdle ∧ t.chOwner l c = getF v F.LDL_CHCFG_OWNER ∧
        t.flag (Reg.LDL_CHCFG l c) F.LDL_CHCFG_EN = true ∧ OnlyChanges [.regs] s t) ∧
      (∀ k, s.chRefusal l c = some k → ∃ t, exec (.channelEnable l c v) s = .next t ∧ t.chState l c = chDisabled ∧ t.flag a F.LDL_CHSTAT_REJ = true ∧
        t.fld a F.LDL_CHSTAT_CFGERR = k ∧ OnlyChanges [.regs] s t)) ∧
    (∀ v, getF v F.LDL_CHCFG_EN = 0 →
      (st = chIdle ∨ st = chStopped ∨ st = chError → ∃ t, exec (.channelDisable l c v) s = .next t ∧ t.chState l c = chDisabled ∧
        t.flag (Reg.LDL_CHCFG l c) F.LDL_CHCFG_EN = false ∧ OnlyChanges [.regs, .ldls, .ldlEngs] s t) ∧
      (st = chRunning ∨ st = chWaiting ∨ st = chStopping → ∃ t, exec (.channelDisable l c v) s = .next t ∧ t.chState l c = chAborting ∧
        (t.ldl (ldlKey l c)).disable = true ∧ OnlyChanges [.regs, .ldls] s t)) ∧
    (∀ v, getF v F.LDL_CHCFG_EN = 1 →
      (getF v F.LDL_CHCFG_ABORT = 0 → getF v F.LDL_CHCFG_STOP = 1 →
        (st = chRunning → y.cur = none → ∃ t, exec (.managerStop l c v) s = .next t ∧ t.chState l c = chStopped ∧ t.chPc l c = s.chPc l c ∧
          OnlyChanges [.regs, .ldls, .ldlEngs] s t) ∧
        (∀ w, st = chRunning → y.cur = some w → ∃ t, exec (.managerStop l c v) s = .next t ∧ t.chState l c = chStopping ∧
          (t.ldl (ldlKey l c)).mgrStop = true ∧ OnlyChanges [.regs, .ldls] s t)) ∧
      (getF v F.LDL_CHCFG_ABORT = 1 → st = chRunning ∨ st = chWaiting ∨ st = chStopping →
        ∃ t, exec (.channelAbort l c v) s = .next t ∧ t.chState l c = chAborting ∧ (t.ldl (ldlKey l c)).disable = false ∧ OnlyChanges [.regs, .ldls] s t)) ∧
    (st = chStopping → y.mgrStop = true →
      (s.fld (Reg.LDL_CHCFG l c) F.LDL_CHCFG_STOPTMO ≠ 15 →
        ∃ t, exec (.stoptmoExpire l c) s = .next t ∧ t.chState l c = chAborting ∧ OnlyChanges [.regs, .ldls] s t) ∧
      (s.fld (Reg.LDL_CHCFG l c) F.LDL_CHCFG_STOPTMO = 15 → exec (.stoptmoExpire l c) s = .next s)) ∧
    (∀ w, st = chAborting → y.cur = none →
      ∃ t, exec (.abortComplete l c w) s = .next t ∧ t.chState l c = (if y.disable then chDisabled else chStopped) ∧
        t.flag a F.LDL_CHSTAT_ABORTED = true ∧ OnlyChanges [.regs, .ldls, .ldlEngs] s t) ∧
    (st = chIdle ∨ st = chStopped → ∃ t, exec (.doorbellStart l c) s = .next t ∧ t.chState l c = chRunning ∧
      t.chPc l c = 16 * getF (s.reg (Reg.LDL_DBPROG l c)) ⟨4, 44⟩ ∧ (t.ldl (ldlKey l c)).stack = [] ∧ OnlyChanges [.regs, .ldls, .ldlEngs] s t) ∧
    (st = chRunning → y.cur = none → ∃ t, exec (.doorbellStop l c) s = .next t ∧ t.chState l c = chStopped ∧ t.chPc l c = s.chPc l c ∧
      OnlyChanges [.regs, .ldls, .ldlEngs] s t) ∧
    (st = chStopped → ∃ t, exec (.doorbellResume l c) s = .next t ∧ t.chState l c = chRunning ∧ t.chPc l c = s.chPc l c % 2 ^ 48 ∧
      (t.ldl (ldlKey l c)).stack = y.stack ∧ OnlyChanges [.regs, .ldls, .ldlEngs] s t) ∧
    (st = chError → ∃ t, exec (.doorbellClear l c) s = .next t ∧ t.chState l c = chIdle ∧ t.fld a F.LDL_CHSTAT_ERRCODE = 0 ∧
      (t.ldl (ldlKey l c)).stack = [] ∧ OnlyChanges [.regs, .ldls] s t) ∧
    (∀ i k, st ≠ chDisabled → (i = .doorbellStart l c ∧ k = 1 ∧ st ≠ chIdle ∧ st ≠ chStopped) ∨ (i = .doorbellResume l c ∧ k = 2 ∧ st ≠ chStopped) ∨
        (i = .doorbellClear l c ∧ k = 3 ∧ st ≠ chError) →
      ∃ t, exec i s = .next t ∧ t.chState l c = st ∧ t.flag d F.LDL_DBSTAT_DBERR = true ∧ t.fld d F.LDL_DBSTAT_DBCODE = k ∧ OnlyChanges [.regs] s t) ∧
    (∀ r v, r < 8 → st ≠ chRunning → st ≠ chWaiting → st ≠ chStopping → st ≠ chAborting →
      ∃ t, exec (.dbregWrite l c r 8 v) s = .next t ∧ t.cr l c r = v ∧ (∀ q, q < 8 → q ≠ r → t.cr l c q = s.cr l c q) ∧ OnlyChanges [.regs] s t) ∧
    (∀ w rest, (s.eng l).waitq = w :: rest → (s.eng l).flight.length < 16 →
      ∃ t, exec (.channelEnterFlight l) s = .next t ∧ t.eng l = { flight := (s.eng l).flight ++ [w], waitq := rest } ∧ OnlyChanges [.ldlEngs] s t) ∧
    (∀ clr m, (∀ j, j < 32 → (s.ldl (ldlKey l j)).wait = none) →
      ∃ t, exec (.eventFlagWrite l none clr m) s = .next t ∧ OnlyChanges [.regs] s t ∧
        t.reg (Reg.LDL_EVSET l) = if clr then s.reg (Reg.LDL_EVSET l) &&& ~~~ m else s.reg (Reg.LDL_EVSET l) ||| m) ∧
    (∀ m, ∃ t, exec (.vectorUnmask true l c m) s = .next t ∧ t.ldls = s.ldls ∧ t.mem = s.mem ∧ ∀ v, v < 4 →
      let im (u : State) := getB (u.reg (Reg.LDL_DBIMSET l c)) v
      let ip (u : State) := getB (u.reg (Reg.LDL_DBIPEND l c)) v
      (getB m v = true → im t = false ∧ (im s = true → ip t = false)) ∧ (getB m v = false → im t = im s ∧ ip t = ip s))

/-- R456, R462, R468, R471 to R477: a channel fetches the line of its next instruction; the register, loop, wait, signal and end instructions do what their encodings say and
the channel goes on, loops, waits or ends; MOVE, FILL, SIGNAL WRITE and SET LOAD begin their accesses once their addresses pass the checks. -/
def Obligations.LadleInstructionsAct : Prop :=
  (∀ (s : State) (l c : Nat), s.hasCh l c = true → s.chState l c = chRunning → (s.ldl (ldlKey l c)).cur = none → s.chInstr l c = none →
    let a := s.chPc l c / 64 * 64
    (∀ p, s.chCast l c a 64 p → s.anyPoison p 64 = false →
      ∃ t, exec (.programFetch l c false) s = .next t ∧ t.ldl (ldlKey l c) = { s.ldl (ldlKey l c) with buf := some (a, s.bytes p 64) } ∧ OnlyChanges [.ldls] s t) ∧
    (s.chXlate l c a 64 ≠ none → ∃ t, exec (.programFetch l c true) s = .next t ∧ t.ldlFailed l c 4 ∧ t.mem = s.mem) ∧
    (s.chXlate l c a 64 = none → ∃ t, exec (.programFetch l c false) s = .next t ∧ t.ldlFailed l c 1 ∧ t.mem = s.mem)) ∧
  ∀ (s : State) (l c v : Nat), s.ldlAt l c v →
    let x := s.ldl (ldlKey l c)
    let pc := s.chPc l c
    let m := iMod v
    (∀ i r, iOp v = 7 → (i = .setImm l c ∧ m % 8 = 0 ∧ r = imm64 v) ∨ (i = .setAdd l c ∧ m % 8 = 1 ∧ r = s.cr l c (iRs v) + imm64 v) ∨
        (i = .setAnd l c ∧ m % 8 = 3 ∧ r = s.cr l c (iRs v) &&& imm64 v) ∨ (i = .setXor l c ∧ m % 8 = 4 ∧ r = s.cr l c (iRs v) ^^^ imm64 v) →
      ∃ t, exec i s = .next t ∧ t.cr l c (iRd v) = r ∧ (∀ q, q < 8 → q ≠ iRd v → t.cr l c q = s.cr l c q) ∧ s.ldlGoesOn t l c ∧ OnlyChanges [.regs] s t) ∧
    (iOp v = 3 →
      (∀ n, s.ldlCount l c v = some n → 0 < n → x.stack.length < 4 → ∃ t, exec (.loop l c) s = .next t ∧
        t.ldl (ldlKey l c) = { x with stack := (pc + 16 * bitsAt v 64 16, pc + 16, n) :: x.stack } ∧ s.ldlGoesOn t l c ∧ OnlyChanges [.regs, .ldls] s t) ∧
      (s.ldlCount l c v = some 0 → ∃ t, exec (.loop l c) s = .next t ∧ t.chPc l c = (pc + 16 * bitsAt v 64 16 + 16) % 2 ^ 48 ∧ t.chState l c = chRunning) ∧
      (∀ n, s.ldlCount l c v = some n → 0 < n → 4 ≤ x.stack.length → ∃ t, exec (.loop l c) s = .next t ∧ t.ldlFailed l c 5)) ∧
    (iOp v = 4 →
      (∀ nx b n r, x.stack = (nx, b, n) :: r → nx % 2 ^ 48 = pc →
        (1 < n → ∃ t, exec (.next l c) s = .next t ∧ (t.ldl (ldlKey l c)).stack = (nx, b, n - 1) :: r ∧ t.chPc l c = b % 2 ^ 48 ∧ OnlyChanges [.regs, .ldls] s t) ∧
        (n ≤ 1 → ∃ t, exec (.next l c) s = .next t ∧ (t.ldl (ldlKey l c)).stack = r ∧ s.ldlGoesOn t l c ∧ OnlyChanges [.regs, .ldls] s t)) ∧
      (x.stack = [] → ∃ t, exec (.next l c) s = .next t ∧ t.ldlFailed l c 5)) ∧
    (iOp v = 5 → let w := s.waitOf l c v
      (∀ f clr, w = .flag f clr → s.flagOk l c f = true) →
      (s.waitMet l w = false → ∃ t, exec (.wait l c) s = .next t ∧ t.chState l c = chWaiting ∧ (t.ldl (ldlKey l c)).wait = some w ∧ t.chPc l c = pc ∧
        OnlyChanges [.regs, .ldls] s t) ∧
      (s.waitMet l w = true → ∃ t, exec (.wait l c) s = .next t ∧ s.ldlGoesOn t l c ∧ (∀ f, w = .flag f true → t.evFlag l f = false) ∧ OnlyChanges [.regs] s t)) ∧
    (iOp v = 6 → ∀ i clr, (i = .signalSetf l c ∧ m % 4 = 0 ∧ clr = false) ∨ (i = .signalClrf l c ∧ m % 4 = 1 ∧ clr = true) →
      let f := iB8 v % 64
      (s.flagOk l c f = true → (∀ j, j < 32 → (s.ldl (ldlKey l j)).wait = none) →
        ∃ t, exec i s = .next t ∧ t.evFlag l f = !clr ∧ (∀ g, g < 64 → g ≠ f → t.evFlag l g = s.evFlag l g) ∧ s.ldlGoesOn t l c ∧ OnlyChanges [.regs] s t) ∧
      (s.flagOk l c f = false → ∃ t, exec i s = .next t ∧ t.ldlFailed l c 6)) ∧
    (iOp v = 6 → m % 4 = 2 → let k := iB8 v % 4
      ∃ t, exec (.signalVector l c) s = .next t ∧ s.ldlGoesOn t l c ∧
        (getB (s.reg (Reg.LDL_DBIMSET l c)) k = true → getB (t.reg (Reg.LDL_DBIPEND l c)) k = true) ∧ t.mem = s.mem) ∧
    (iOp v = 8 → ∃ t, exec (.endProgram l c) s = .next t ∧ t.chState l c = chIdle ∧ (t.ldl (ldlKey l c)).stack = [] ∧
      t.fld (Reg.LDL_DBSTAT l c) F.LDL_DBSTAT_RUNS = (s.fld (Reg.LDL_DBSTAT l c) F.LDL_DBSTAT_RUNS + 1) % 2 ^ 32 ∧ OnlyChanges [.regs, .ldls, .ldlEngs] s t) ∧
    (∀ i n src, (i = .move l c ∧ iOp v = 1 ∧ src = true) ∨ (i = .fill l c ∧ iOp v = 2 ∧ src = false) → s.ldlCount l c v = some n → 0 < n →
      (bitAt m 1 = true → s.flagOk l c (bitsAt v 112 6) = true) →
      ((src = true → s.rangeBad l c (s.cr l c (iRs v)) n = false) → s.rangeBad l c (s.cr l c (iRd v)) n = false →
        ∃ t, exec i s = .next t ∧ (t.ldl (ldlKey l c)).cur = some v ∧ (c ∈ (t.eng l).flight ∨ c ∈ (t.eng l).waitq) ∧ t.chPc l c = pc ∧
          OnlyChanges [.ldls, .ldlEngs] s t) ∧
      (s.rangeBad l c (s.cr l c (iRd v)) n = true → ∃ t, exec i s = .next t ∧ t.ldlFailed l c 1)) ∧
    (∀ i b n, (i = .signalWrite l c ∧ iOp v = 6 ∧ m % 4 = 3 ∧ b = iRd v ∧ n = 8) ∨ (i = .setLoad l c ∧ iOp v = 7 ∧ m % 8 = 2 ∧ b = iRs v ∧ n = 2 ^ (m / 16 % 4)) →
      (s.cr l c b).toNat < 2 ^ 48 → let a := s.memAddr l c b v
      (a.toNat % n = 0 → s.rangeBad l c a n = false → ∃ t, exec i s = .next t ∧ t.ldl (ldlKey l c) = { x with cur := some v } ∧ OnlyChanges [.ldls] s t) ∧
      (a.toNat % n ≠ 0 → ∃ t, exec i s = .next t ∧ t.ldlFailed l c 1))

/-- R452, R469 to R471, R475 to R477: a completed SIGNAL WRITE, FILL or MOVE has written its bytes, and no others; a completed SET LOAD has its register; an access refused with
an error status fails the channel; a met wait goes on. -/
def Obligations.LadleAccessesComplete : Prop :=
  ∀ (s : State) (l c v : Nat), s.hasCh l c = true →
    let k := ldlKey l c
    (∀ w, s.chState l c = chWaiting → (s.ldl k).wait = some w → (s.ldl k).met = true →
      ∃ t, exec (.waitMet l c) s = .next t ∧ s.ldlGoesOn t l c ∧ (t.ldl k).wait = none ∧ OnlyChanges [.regs, .ldls] s t) ∧
    (s.chState l c = chRunning → (s.ldl k).cur = some v → s.logging (s.chOwner l c) = false →
      let S := (s.cr l c (iRs v)).toNat
      let D := (s.cr l c (iRd v)).toNat
      (iOp v = 6 → let a := (s.memAddr l c (iRd v) v).toNat
        (∀ p, s.chCast l c a 8 p → ∃ t, exec (.ladleInstructionComplete l c {}) s = .next t ∧ s.ldlGoesOn t l c ∧ (t.ldl k).cur = none ∧
          ∀ z, t.byte z = if p ≤ z ∧ z < p + 8 then (leBytes 8 S).getD (z - p) 0 else s.byte z) ∧
        (∃ t, exec (.ladleInstructionComplete l c { fail := some (0, false) }) s = .next t ∧ t.ldlFailed l c 3 ∧ t.mem = s.mem)) ∧
      (iOp v = 7 → let a := (s.memAddr l c (iRs v) v).toNat; let n := 2 ^ (iMod v / 16 % 4)
        ∀ p, s.chCast l c a n p → s.anyPoison p n = false →
          ∃ t, exec (.ladleInstructionComplete l c {}) s = .next t ∧ t.cr l c (iRd v) = BitVec.ofNat 64 (leWord (s.bytes p n)) ∧ s.ldlGoesOn t l c ∧ t.mem = s.mem) ∧
      (∀ n p, iOp v = 2 → c ∈ (s.eng l).flight → s.ldlCount l c v = some n → bitAt (iMod v) 1 = false → s.armed = false → s.chCast l c D n p →
        ∃ t, exec (.ladleInstructionComplete l c {}) s = .next t ∧ s.ldlGoesOn t l c ∧ (t.ldl k).cur = none ∧ c ∉ (t.eng l).flight ∧
          ∀ z, t.byte z = if p ≤ z ∧ z < p + n then BitVec.ofNat 8 (S / 2 ^ (8 * ((D + (z - p)) % 8))) else s.byte z) ∧
      (∀ n p q, iOp v = 1 → c ∈ (s.eng l).flight → s.ldlCount l c v = some n → bitAt (iMod v) 1 = false → s.armed = false → s.chCast l c D n p → s.chCast l c S n q →
        s.anyPoison q n = false → D ≤ S ∨ S + n ≤ D →
        ∃ t, exec (.ladleInstructionComplete l c {}) s = .next t ∧ s.ldlGoesOn t l c ∧ (t.ldl k).cur = none ∧ c ∉ (t.eng l).flight ∧
          ∀ z, t.byte z = if p ≤ z ∧ z < p + n then s.byte (q + (z - p)) else s.byte z))

/-- R565, R567 to R573: a request that equals the state has no effect, one that a row refuses leaves its code; an accepted one takes an off domain UP, a retained one to
RESUME or OFF, a running one DOWN; power good makes it run with its endpoints open; behind its point of no return a core enters RETAIN or OFF. -/
def Obligations.DomainsArePowered : Prop :=
  (∀ (s : State) (d : Nat) (v : Word) (i : Instr) (req : Nat), s.hasDom d = true →
    (i = .pwrDomReqOff d v ∧ req = 0) ∨ (i = .pwrDomReqRun d v ∧ req = 1) ∨ (i = .pwrDomReqRetain d v ∧ req = 2) →
    (s.domSame d req = true → ∃ t, exec i s = .next t ∧ t.domState d = s.domState d ∧ OnlyChanges [.regs] s t) ∧
    (∀ k, s.domSame d req = false → s.domRefusal d req = some k →
      ∃ t, exec i s = .next t ∧ t.domState d = s.domState d ∧ t.flag (Reg.PWR_DOM d) F.PWR_DOM_REJ = true ∧ t.fld (Reg.PWR_DOM d) F.PWR_DOM_REJCODE = k ∧
        OnlyChanges [.regs] s t) ∧
    (s.domSame d req = false → s.domRefusal d req = none →
      ∃ t, exec i s = .next t ∧ t.fld (Reg.PWR_DOM d) F.PWR_DOM_REQ = req ∧
        t.domState d = (if s.domState d = domOff then domUp else if s.domState d = domRetain then (if req = 1 then domResume else domOff) else domDown))) ∧
  (∀ (s : State) (d : Nat), s.pwr.phase = .run →
    (s.domState d = domUp → d < 223 →
      ∃ t, exec (.domainPowerGood d) s = .next t ∧ t.domState d = domRunning ∧ (∀ k ∈ domEps d, s.epPresent k = true → t.epState k = epOpen)) ∧
    (s.domState d = domDown → d ∉ s.pwr.past → (∀ k ∈ domEps d, s.epState k = epFenced ∨ s.epState k = epDead) →
      (d < 128 → s.cyclicAt d = false → ∃ t, exec (.pointOfNoReturn d) s = .next t ∧ t.pwr = { s.pwr with past := s.pwr.past ++ [d] } ∧ OnlyChanges [.pwr] s t) ∧
      (d < 128 → s.cyclicAt d = true → ∃ t, exec (.pointOfNoReturn d) s = .next t ∧ t.domState d = domRunning ∧
        t.flag (Reg.PWR_DOM d) F.PWR_DOM_ABORTED = true) ∧
      (128 ≤ d → d < 223 → ∃ t, exec (.pointOfNoReturn d) s = .next t ∧ t.domState d = domOff))) ∧
  (∀ (s : State) (n : Nat), n < 128 → s.pwr.phase = .run →
    (n ∈ s.pwr.past → s.fld (Reg.PWR_DOM n) F.PWR_DOM_REQ = 2 →
      ∃ t, exec (.retentionSwitch n) s = .next t ∧ t.core n = { s.core n with run := .retain } ∧ n ∉ t.pwr.past ∧
        t.domState n = (if n ∈ s.pwr.exits then domResume else domRetain) ∧ OnlyChanges [.regs, .cores, .pwr] s t) ∧
    (n ∈ s.pwr.past → s.fld (Reg.PWR_DOM n) F.PWR_DOM_REQ = 0 →
      ∃ t, exec (.retentionSwitch n) s = .next t ∧ (t.core n).run = .off ∧ t.domState n = domOff ∧
        ∀ a, castBase n ≤ a → a < castBase n + 0x10_0000 → t.byte a = 0) ∧
    (s.domState n = domResume → (∀ q ∈ s.retainPrst, q.1 ≠ n) →
      ∃ t, exec (.retainRestored n) s = .next t ∧ t.domState n = domRunning ∧ (t.core n).tlb = [] ∧ (t.core n).s2 = [] ∧ (t.core n).x = (s.core n).x ∧
        (t.core n).fr = (s.core n).fr ∧ (t.core n).vr = (s.core n).vr ∧ (s.epPresent (epCore n) = true → s.epState (epCore n) = epFenced →
          t.epState (epCore n) = epOpen) ∧ t.mem = s.mem))

/-- R306, R325, R326, R574 to R579: a request for a chip state by code at F or H is refused with its code or noted; a cyclic event before the point of no return ends the entry;
a wake event that is enabled starts the exit of a part that is asleep, with its cause; the exit powers up what the entry switched off; self-refresh and resume. -/
def Obligations.ChipStatesSleepAndWake : Prop :=
  (∀ (s : State) (n : Nat) (v : Word) (i : Instr) (req : Nat), s.hasCore n = true →
    (i = .neapRequest n v ∧ req = 1) ∨ (i = .standbyRequest n v ∧ req = 2) →
    ((s.core n).level = .f ∨ (s.core n).level = .h →
      (∀ k, s.chipRefusal n req = some k → ∃ t, exec i s = .next t ∧ t.flag Reg.PWR_CHIPCTL F.PWR_CHIPCTL_REJ = true ∧
        t.fld Reg.PWR_CHIPCTL F.PWR_CHIPCTL_REJCODE = k ∧ OnlyChanges [.regs] s t) ∧
      (s.chipRefusal n req = none → ∃ t, exec i s = .next t ∧ t.pwr.phase = .requested ∧ t.pwr.standby = (req == 2) ∧ t.pwr.requester = n ∧
        t.pwr.before = (List.range 224).filter (fun d => s.domRun d) ∧ OnlyChanges [.regs, .pwr] s t)) ∧
    ((s.core n).level ≠ .f → (s.core n).level ≠ .h → ∃ t, exec i s = .next t ∧ OnlyChanges [.regs] s t)) ∧
  (∀ (s : State), s.pwr.phase = .entering → s.pwr.requester < 128 →
    (s.pwr.cyclic = true → s.pwr.standby = false → ∃ t, exec .chipStatePointOfNoReturn s = .next t ∧ t.pwr.phase = .run ∧
      t.flag Reg.PWR_CHIPCTL F.PWR_CHIPCTL_ABORTED = true ∧ t.fld Reg.PWR_CHIPCTL F.PWR_CHIPCTL_STATE = 0 ∧ t.domState s.pwr.requester = domResume ∧
      t.dist.sleepOpen = false) ∧
    (s.pwr.cyclic = false → s.wakeSrcs true = false → ∃ t, exec .chipStatePointOfNoReturn s = .next t ∧
      (t.pwr.phase = .committed ∨ (t.dist.workOff = true ∧ (t.pwr.phase = .asleep ∨ t.pwr.phase = .waking))))) ∧
  (∀ (s : State) (i : Instr) (bit : Nat),
    (i = .alarm ∧ bit = 8 ∧ s.reg Reg.AON_ALARM ≠ 0 ∧ getB (s.reg Reg.AON_WAKEEN) 8 = true) ∨
      (∃ k l, k < 8 ∧ i = .wakePin k l ∧ bit = k ∧ getB (s.reg Reg.AON_WAKEEN) k = true ∧ l ≠ getB (s.reg Reg.AON_WAKEPOL) k) ∨
      (∃ k, i = .wakeEvent (.source k) ∧ bit = (if isCyclicSrc k then 10 else 11) ∧ (s.src k).wake = true) ∨
      (i = .wakeEvent .management ∧ bit = 9 ∧ getB (s.reg Reg.AON_WAKEEN) 9 = true) →
    (s.pwr.phase = .asleep → ∃ t, exec i s = .next t ∧ t.pwr.phase = .waking ∧ getB (t.reg Reg.AON_WAKECAUSE) bit = true ∧
      t.fld Reg.PWR_CHIPCTL F.PWR_CHIPCTL_STATE = 2 ∧ OnlyChanges [.regs, .pwr] s t) ∧
    (s.pwr.phase = .run → exec i s = .next s)) ∧
  (∀ (s : State) (n : Nat) (cyc : Bool), s.flag (Reg.PWR_DOM n) F.PWR_DOM_AUTOWAKE = true → s.pwr.phase = .run → s.domState n = domRetain → n < 128 →
    ∃ t, exec (.wakeEvent (.core n cyc)) s = .next t ∧ t.domState n = domResume ∧ OnlyChanges [.regs] s t) ∧
  (∀ (s : State), s.pwr.phase = .waking → s.pwr.standby = false → s.pwr.requester < 128 →
    ∃ t, exec .chipWake s = .next t ∧ t.pwr.phase = .restoring ∧
      ∀ d ∈ s.pwr.before, 128 ≤ d → s.hasDom d = true → s.domState d = domOff → t.domState d = domUp) ∧
  (∀ (s : State) (m : Nat) (ok : Bool), m < 12 → s.pwr.phase = .run → s.mcState m = mcResuming →
    let usable := s.flag (Reg.MC_TRAIN m) F.MC_TRAIN_SAVEDV && (s.chan m).serials == some (s.dimmSerials m)
    ∃ t, exec (.resumeComplete m ok) s = .next t ∧ t.mcState m = (if usable && ok then mcReady else mcUntrained) ∧
      t.fld (Reg.MC_TRAIN m) F.MC_TRAIN_RESULT = (if !usable then 7 else if !ok then 6 else 0) ∧ t.mem = s.mem) ∧
  (∀ (s : State) (m : Nat), m < 12 → s.pwr.phase = .run → s.mcState m = mcReady → s.flag (Reg.MC_PWRCTL m) F.MC_PWRCTL_SRREQ = true →
    s.epState (epMc m) = epFenced → (s.chan m).window = none →
    ∃ t, exec (.selfRefreshEntered m) s = .next t ∧ t.mcState m = mcSelfref ∧ t.flag (Reg.MC_PWRCTL m) F.MC_PWRCTL_SRACK = true ∧ (t.chan m).ret = true ∧
      t.flag (Reg.MC_TRAIN m) F.MC_TRAIN_SAVEDV = true ∧ OnlyChanges [.regs, .chans] s t)

/-- R580 to R583: an AVSBus request within its ranges is sent and BUSY until the voltage read back is within 10 mV or the time is over, one outside is refused; a sample
sets the temperature fields and flags with their hysteresis, and at 160 °C halts the part with every domain off and every trip output released.
R653, R654, R658: TRIPPERMIT is written by its access codes unless the outputs are held or in reset; its lapse releases every output and sets LAPSED, except where
TMO is 15; a TAP instruction that drives the pins acts as BYPASS unless COLD_RST_N is held low. -/
def Obligations.VoltageTemperatureAndTrips : Prop :=
  ((∀ (s : State) (v : Word),
     let a := Reg.PWR_AVSSTAT
     let g := getF v F.PWR_AVSCTL_TARGET
     let b := getF v F.PWR_AVSCTL_STBYMV
     (720 ≤ g → g ≤ 950 → 600 ≤ b → b ≤ 720 → ∃ t, exec (.avsGo v) s = .next t ∧ t.pwr = { s.pwr with avs := some g } ∧ t.flag a F.PWR_AVSSTAT_BUSY = true ∧
       t.fld Reg.PWR_AVSCTL F.PWR_AVSCTL_TARGET = g ∧ t.fld Reg.PWR_AVSCTL F.PWR_AVSCTL_STBYMV = b ∧ OnlyChanges [.regs, .pwr] s t) ∧
     (g < 720 ∨ 950 < g ∨ b < 600 ∨ 720 < b → ∃ t, exec (.avsGo v) s = .next t ∧ t.flag a F.PWR_AVSSTAT_REJ = true ∧ t.reg Reg.PWR_AVSCTL = s.reg Reg.PWR_AVSCTL ∧
       OnlyChanges [.regs] s t) ∧
     (∀ w mv, s.pwr.avs = some w → mv < 4096 →
       ∃ t, exec (.avsVoutRead mv) s = .next t ∧ t.fld a F.PWR_AVSSTAT_VOUT = mv ∧
         (w ≤ mv + 10 → mv ≤ w + 10 → t.flag a F.PWR_AVSSTAT_BUSY = false ∧ t.pwr.avs = none) ∧
         (mv + 10 < w ∨ w + 10 < mv → t.flag a F.PWR_AVSSTAT_BUSY = s.flag a F.PWR_AVSSTAT_BUSY ∧ t.pwr.avs = some w) ∧ OnlyChanges [.regs, .pwr] s t) ∧
     (∀ w, s.pwr.avs = some w → ∃ t, exec .avsTimeout s = .next t ∧ t.flag a F.PWR_AVSSTAT_ERR = true ∧ t.flag a F.PWR_AVSSTAT_BUSY = false ∧ t.pwr.avs = none ∧
       OnlyChanges [.regs, .pwr] s t)) ∧
   (∀ (s : State) (mv : Nat) (hot : Int) (r : Nat), s.pwr.haltReset = false → s.pwr.halt = false → r < 128 →
     let a := Reg.PWR_THSTAT
     let thr : Int := 4 * (min 159 (s.fld Reg.PWR_THCFG F.PWR_THCFG_WARN) : Nat)
     let hys : Int := 4 * (max 1 (s.fld Reg.PWR_THCFG F.PWR_THCFG_HYST) : Nat)
     (hot < 640 → ∃ t, exec (.monitorSample mv hot r) s = .next t ∧ t.fld a F.PWR_THSTAT_TMAX = (BitVec.ofInt 16 hot).toNat ∧ t.fld a F.PWR_THSTAT_TROUTER = r ∧
       (s.flag a F.PWR_THSTAT_WARN = false → t.flag a F.PWR_THSTAT_WARN = decide (thr ≤ hot)) ∧
       (s.flag a F.PWR_THSTAT_WARN = true → t.flag a F.PWR_THSTAT_WARN = decide (thr - hys < hot)) ∧ t.mem = s.mem ∧ t.pwr = s.pwr) ∧
     (640 ≤ hot → ∃ t, exec (.monitorSample mv hot r) s = .next t ∧ t.pwr.halt = true ∧ t.flag a F.PWR_THSTAT_HALTED = true ∧ (∀ k, t.tripLow k = false) ∧
       (∀ d, d < 224 → t.domState d = domOff)))) ∧
  ((∀ (s : State) (v : Word),
     (s.flag Reg.CHIP_TRIPSTAT F.CHIP_TRIPSTAT_HOLD = false → s.inReset = false →
       ∃ t, exec (.trippermitWrite v) s = .next t ∧ t.reg Reg.CHIP_TRIPPERMIT = s.written Reg.CHIP_TRIPPERMIT 8 v ∧ OnlyChanges [.regs] s t) ∧
     (s.flag Reg.CHIP_TRIPSTAT F.CHIP_TRIPSTAT_HOLD = true → exec (.trippermitWrite v) s = .next s)) ∧
   (∀ (s : State),
     (s.fld Reg.CHIP_TRIPCFG F.CHIP_TRIPCFG_TMO ≠ 15 → s.inReset = false →
       ∃ t, exec .tripLapse s = .next t ∧ (∀ k, t.tripLow k = false) ∧ t.flag Reg.CHIP_TRIPSTAT F.CHIP_TRIPSTAT_LAPSED = true ∧ OnlyChanges [.regs] s t) ∧
     (s.fld Reg.CHIP_TRIPCFG F.CHIP_TRIPCFG_TMO = 15 → exec .tripLapse s = .next s)) ∧
   (∀ (s : State) (mode : TapMode) (low : Bool),
     ∃ t, exec (.tapInstruction mode low) s = .next t ∧ OnlyChanges [.tap] s t ∧
       t.tap = (if low = false ∧ (mode = .extest ∨ mode = .clamp ∨ mode = .highz) then .bypass else mode)))

/-- R587 to R593, R600, R604 to R606, R611: a PWR reset leaves the reset state, but for fuses and the levels on the pins; a cold CHIP reset clears every register that its column does not
keep, and cast memory, and records its cause; a warm one first lets its entry complete; a boot without an accepted image stops, with one core 0 starts in it. -/
def Obligations.ResetsAndTheBoot : Prop :=
  (∀ (s : State), s.svc.fuse = none →
    exec .pwrReset s = .next { State.reset with fuse := s.fuse, fresh := s.fresh, pending := s.pending,
                                                dist := { srcs := Tbl.mapAll (fun _ => {}) (fun _ x => { pin := x.pin }) s.dist.srcs } }) ∧
  (∀ (s : State), s.svc.fuse = none → s.pwr.halt = false →
    (∃ t, exec .coldRstN s = .next t ∧ t.fuse = s.fuse ∧ t.cores = [] ∧ t.slices = [] ∧ t.net = [] ∧ t.pwr = {} ∧ t.svc = {} ∧ t.lanes = [] ∧ t.fns = [] ∧ t.ldls = [] ∧
      t.pending = s.pending ∧ t.fld Reg.SVC_RSTCAUSE F.SVC_RSTCAUSE_LAST = 2 ∧
      (∀ a, chipKeeps a = false → a ≠ Reg.PWR_THSTAT → (∀ m, m < 12 → a ≠ Reg.MC_TRAIN m) → t.reg a = regReset a) ∧
      (∀ a, chipKeeps a = true → a ≠ Reg.SVC_RSTCAUSE → t.reg a = s.reg a) ∧ (∀ k, k < 2 ^ 48 → t.byte k = 0)) ∧
    (s.pwr.warm = none → ∃ t, exec .warmRstN s = .next t ∧ t.pwr.warm = some 3 ∧ t.fld Reg.SVC_RSTCAUSE F.SVC_RSTCAUSE_LAST = 3 ∧ t.svc = {} ∧ t.mem = s.mem ∧
      t.cores = s.cores)) ∧
  (∀ (s : State) (k : Nat), s.pwr.warm = some k →
    ∃ t, exec .warmEntryComplete s = .next t ∧ t.pwr = {} ∧ t.cores = [] ∧ t.net = [] ∧ t.pending = s.pending ∧ (∀ k, k < 2 ^ 48 → t.byte k = 0) ∧
      (∀ m, m < 12 → s.mcState m = mcReady → (t.chan m).ret = true ∧ t.flag (Reg.MC_TRAIN m) F.MC_TRAIN_SAVEDV = true)) ∧
  (∀ (s : State) (e : BootEnv), s.pwr.halt = false → s.pwr.warm = none → s.fld Reg.SVC_BOOTSTAT F.SVC_BOOTSTAT_PHASE = 0 →
    ((∀ k ∈ bootOrder (e.src % 4), s.imageCode (k == 2) (bootAt e k) ≠ 1) →
      ∃ t, exec (.boot e) s = .next t ∧ t.fld Reg.SVC_BOOTSTAT F.SVC_BOOTSTAT_PHASE = 15 ∧ t.cores = s.cores ∧ t.mem = s.mem) ∧
    (∀ k r i, bootOrder (e.src % 4) = k :: r → bootAt e k = some i → s.imageCode (k == 2) (some i) = 1 → e.failing = [] →
      ∃ t, exec (.boot e) s = .next t ∧ t.fld Reg.SVC_BOOTSTAT F.SVC_BOOTSTAT_PHASE = 4 ∧ t.fld Reg.SVC_BOOTSTAT F.SVC_BOOTSTAT_SRC = k ∧
        (t.core 0).run = .run ∧ (t.core 0).level = .f ∧ (t.core 0).pc = BitVec.ofNat 64 (castBase 0 + hdr i.header 24 4) ∧
        (t.core 0).rx 10 = BitVec.ofNat 64 (castBase 0 + 0x5_0000) ∧ (t.core 0).rx 11 = t.reg Reg.SVC_BOOTSTAT ∧
        (∀ d, d < 223 → s.hasDom d = true → t.domState d = domRunning)) ∧
    (∀ k r i u f, bootOrder (e.src % 4) = k :: r → bootAt e k = some i → s.imageCode (k == 2) (some i) = 1 → (u, f) ∈ e.failing → stopsBoot u = true →
      ∃ t, exec (.boot e) s = .next t ∧ t.fld Reg.SVC_BOOTSTAT F.SVC_BOOTSTAT_PHASE = 15 ∧ t.flag Reg.SVC_BOOTSTAT F.SVC_BOOTSTAT_STOPCHK = true))

/-- R594 to R599: the watchdog is set up once and counts until its kick of two bytes; its stages show in STAGE, HEALTH and the substitution of stations, and reset the part as
ACTION says; a core's reset and release take effect where its domain runs, and a completed reset leaves it held in its reset state. -/
def Obligations.WatchdogAndCoreResets : Prop :=
  (∀ (s : State),
    let c := Reg.SVC_WDCTL
    let a := Reg.SVC_WDSTAT
    (∀ v, s.flag c F.SVC_WDCTL_EN = false → s.pwr.warm = none → ∃ t, exec (.watchdogEnable v) s = .next t ∧ t.flag c F.SVC_WDCTL_EN = true ∧
      t.fld c F.SVC_WDCTL_T1 = getF v F.SVC_WDCTL_T1 ∧ t.fld c F.SVC_WDCTL_T2 = getF v F.SVC_WDCTL_T2 ∧ t.fld c F.SVC_WDCTL_ACTION = getF v F.SVC_WDCTL_ACTION ∧
      t.fld a F.SVC_WDSTAT_STAGE = 0 ∧ t.svc.health = some true ∧ OnlyChanges [.regs, .svc] s t) ∧
    (∀ v, s.flag c F.SVC_WDCTL_EN = true → exec (.watchdogEnable v) s = .next s) ∧
    (∀ v, getF v ⟨0, 8⟩ = 0xA5 → s.svc.kick = false → ∃ t, exec (.watchdogKick v) s = .next t ∧ t.svc = { s.svc with kick := true } ∧ OnlyChanges [.svc] s t) ∧
    (∀ v, getF v ⟨0, 8⟩ = 0x5A → s.svc.kick = true → s.fld a F.SVC_WDSTAT_STAGE < 2 →
      ∃ t, exec (.watchdogKick v) s = .next t ∧ t.svc.kick = false ∧ t.fld a F.SVC_WDSTAT_STAGE = 0 ∧ OnlyChanges [.regs, .svc] s t) ∧
    (∀ v, getF v ⟨0, 8⟩ ≠ 0xA5 → s.svc.kick = false → ∃ t, exec (.watchdogKick v) s = .next t ∧ t.flag a F.SVC_WDSTAT_BADKICK = true ∧
      t.fld a F.SVC_WDSTAT_STAGE = s.fld a F.SVC_WDSTAT_STAGE ∧ OnlyChanges [.regs] s t) ∧
    (s.flag c F.SVC_WDCTL_EN = true → s.wdPaused = false →
      (s.fld a F.SVC_WDSTAT_STAGE = 0 → ∃ t, exec .watchdogStage1 s = .next t ∧ t.fld a F.SVC_WDSTAT_STAGE = 1 ∧ t.svc.health = some false ∧
        (s.flag c F.SVC_WDCTL_SUBF = true → ∀ e, e < 2 → s.hasFe e = true → t.reg (Reg.FE_SUBFORCE e) = ones 64) ∧ OnlyChanges [.regs, .svc] s t) ∧
      (s.fld a F.SVC_WDSTAT_STAGE = 1 →
        (s.fld c F.SVC_WDCTL_ACTION = 0 → ∃ t, exec .watchdogStage2 s = .next t ∧ t.fld a F.SVC_WDSTAT_STAGE = 2 ∧ OnlyChanges [.regs] s t) ∧
        (s.fld c F.SVC_WDCTL_ACTION = 1 → ∃ t, exec .watchdogStage2 s = .next t ∧ t.pwr.warm = some 4 ∧ t.fld Reg.SVC_RSTCAUSE F.SVC_RSTCAUSE_LAST = 4) ∧
        (2 ≤ s.fld c F.SVC_WDCTL_ACTION → ∃ t, exec .watchdogStage2 s = .next t ∧ t.cores = [] ∧ t.fld Reg.SVC_RSTCAUSE F.SVC_RSTCAUSE_LAST = 5)))) ∧
  (∀ (s : State) (n : Nat) (v : Word), s.hasCore n = true →
    let a := Reg.SVC_CORECTL n
    (s.domRun n = true →
      (s.flag a F.SVC_CORECTL_RESET = false → s.activePair n = false → ∃ t, exec (.coreReset n v) s = .next t ∧ t.flag a F.SVC_CORECTL_RESET = true ∧
        (t.core n).run = .resetting ∧ (t.core n).loads = []) ∧
      (s.flag a F.SVC_CORECTL_RESET = false → s.activePair n = true → ∃ t, exec (.coreReset n v) s = .next t ∧ t.flag a F.SVC_CORECTL_REJ = true ∧
        t.fld a F.SVC_CORECTL_REJCODE = 2 ∧ OnlyChanges [.regs] s t) ∧
      ((s.core n).run = .held → ∃ t, exec (.coreRelease n v) s = .next t ∧
        t.core n = { s.core n with run := .run, level := .f, pc := s.reg (Reg.SVC_COREPC n) &&& ~~~ 3#64 } ∧ OnlyChanges [.regs, .cores] s t) ∧
      ((s.core n).run ≠ .held → ∃ t, exec (.coreRelease n v) s = .next t ∧ t.flag a F.SVC_CORECTL_REJ = true ∧ t.fld a F.SVC_CORECTL_REJCODE = 3 ∧
        OnlyChanges [.regs] s t)) ∧
    ((s.core n).run = .resetting → s.epState (epCore n) = epFenced → (s.core n).entry = none → (s.core n).switch = none → (s.core n).pairCopy = none →
      ∃ t, exec (.coreResetComplete n) s = .next t ∧ t.core n = { pred := { keys := (s.core n).pred.settledKeys }, offers := (s.core n).offers } ∧
        t.flag a F.SVC_CORECTL_RESET = false ∧ (s.epPresent (epCore n) = true → s.domRun (epDom (epCore n)) = true → t.epState (epCore n) = epOpen) ∧ t.mem = s.mem))

/-- R607, R609: a flash or fuse command starts unless one runs or its refusal applies; a completed copy has put the flash's bytes into memory, and no others, an error leaves its
code; a completed fuse command has written, revoked or counted.
R635, R639, R640, R642, R643: a heat-mark command that is refused leaves its code; an accepted read or write of bytes reads or writes them, and no others; a challenge is
BUSY until its response; SMBus commands answer alike: identity, response, certificate. -/
def Obligations.FlashFusesHeatMarksAndChallenges : Prop :=
  ((∀ (s : State) (v : Word),
     let c := Reg.SVC_FLCMD
     (∀ i op, (i = .flashCopy v ∧ op = 0) ∨ (i = .flashProgram v ∧ op = 1) ∨ (i = .flashErase v ∧ op = 2) →
       (s.flag c F.SVC_FLCMD_GO = false → s.reg Reg.SVC_FLLEN ≠ 0 → ∃ t, exec i s = .next t ∧ t.flag c F.SVC_FLCMD_GO = true ∧ t.fld c F.SVC_FLCMD_OP = op ∧
         OnlyChanges [.regs] s t) ∧
       (s.flag c F.SVC_FLCMD_GO = true → ∃ t, exec i s = .next t ∧ t.fld c F.SVC_FLCMD_OP = s.fld c F.SVC_FLCMD_OP ∧ t.flag c F.SVC_FLCMD_GO = true ∧
         OnlyChanges [.regs] s t)) ∧
     (s.flag c F.SVC_FLCMD_GO = true →
       let off := s.fld Reg.SVC_FLSRC F.SVC_FLSRC_OFF
       let len := (s.reg Reg.SVC_FLLEN).toNat
       let a := (s.reg Reg.SVC_FLMEM).toNat
       (∀ size data, size < off + len → ∃ t, exec (.flashOperationComplete size data false) s = .next t ∧ t.flag c F.SVC_FLCMD_ERR = true ∧
         t.fld c F.SVC_FLCMD_ERRCODE = 1 ∧ t.flag c F.SVC_FLCMD_GO = false ∧ t.mem = s.mem) ∧
       (∀ size data, s.fld c F.SVC_FLCMD_OP = 0 → off + len ≤ size → len ≤ data.length → s.engOk svcRouter 0 a len = true →
         (∃ k, regionOf a = .coreCast k ∨ regionOf a = .sharedCast k) →
         ∃ t, exec (.flashOperationComplete size data false) s = .next t ∧ t.flag c F.SVC_FLCMD_DONE = true ∧ t.flag c F.SVC_FLCMD_GO = false ∧
           ∀ z, t.byte z = if a ≤ z ∧ z < a + len then data.getD (z - a) 0 else s.byte z) ∧
       (∀ size data, s.fld c F.SVC_FLCMD_OP = 2 → off + len ≤ size → off % 0x1_0000 = 0 → len % 0x1_0000 = 0 →
         ∃ t, exec (.flashOperationComplete size data false) s = .next t ∧ t.flag c F.SVC_FLCMD_DONE = true ∧ t.mem = s.mem))) ∧
   (∀ (s : State) (v : Word),
     let c := Reg.SVC_FUSECMD
     let slot := getF v F.SVC_FUSECMD_SLOT
     (∀ i op, s.svc.fuse = none → (i = .fuseProgramSlot v ∧ op = 1) ∨ (i = .fuseRevokeSlot v ∧ op = 2) ∨ (i = .fuseSetSvn v ∧ op = 3) →
       (s.fuseRefusal op slot = none → ∃ t, exec i s = .next t ∧ t.svc = { s.svc with fuse := some (op, slot, (List.range 6).map (fun j => s.reg (Reg.SVC_FUSEDATA j))) } ∧
         t.fuse = s.fuse ∧ OnlyChanges [.regs, .svc] s t) ∧
       (∀ k, s.fuseRefusal op slot = some k → ∃ t, exec i s = .next t ∧ t.flag c F.SVC_FUSECMD_ERR = true ∧ t.fld c F.SVC_FUSECMD_ERRCODE = k ∧
         OnlyChanges [.regs] s t)) ∧
     (∀ op sl data, s.svc.fuse = some (op, sl, data) → ∃ t, exec .fuseCommandComplete s = .next t ∧ t.flag c F.SVC_FUSECMD_DONE = true ∧ t.svc.fuse = none ∧
       (op = 1 → ∀ x, s.fuse.slots[sl]? = some x → t.fuse.slots[sl]? = some { x with data := data.flatMap (fun w => leBytes 8 w.toNat), prog := true }) ∧
       (op = 2 → ∀ x, s.fuse.slots[sl]? = some x → t.fuse.slots[sl]? = some { x with revoked := true }) ∧ OnlyChanges [.fuse, .regs, .svc] s t))) ∧
  ((∀ (s : State) (v : Word) (c : HmCmd) (i : Instr),
     let area := getF v F.ID_HMCMD_AREA
     let off := getF v F.ID_HMCMD_OFFSET
     let len := getF v F.ID_HMCMD_LEN
     (i = .heatMarkRead v [] ∧ c = { smb := false, area := area, off := off, data := none, len := len, ue := [] }) ∨
       (i = .heatMarkWrite v ∧ c = { smb := false, area := area, off := off, data := some (s.hmData.take len), len := len, ue := [] }) →
     (∀ k, s.markRefusal c = some k → ∃ t, exec i s = .next t ∧ t.flag Reg.ID_HMSTAT F.ID_HMSTAT_REJ = true ∧ t.fld Reg.ID_HMSTAT F.ID_HMSTAT_REJCODE = k ∧
       t.ident = s.ident ∧ OnlyChanges [.regs] s t) ∧
     (s.markRefusal c = none → s.markWaits c = false →
       ∃ t, exec i s = .next t ∧ t.flag Reg.ID_HMSTAT F.ID_HMSTAT_DONE = true ∧ OnlyChanges [.regs, .ident] s t ∧
         (c.data = none → t.ident = s.ident ∧ ∀ j, j < 8 → t.reg (Reg.ID_HMDATA j) =
           BitVec.ofNat 64 (leWord ((((List.range len).map (fun k => s.markByte area (off + k))).drop (8 * j)).take 8))) ∧
         (∀ bs, c.data = some bs → bs.length = len → s.areaPresent area = true →
           (∀ k, k < len → t.markByte area (off + k) = bs.getD k 0) ∧ (∀ k, k < off ∨ off + len ≤ k → k < 64 → t.markByte area k = s.markByte area k)))) ∧
   (∀ (s : State) (area off len : Nat),
     let rd : HmCmd := { smb := true, area := area, off := off, data := none, len := len, ue := [] }
     let wr (d : List Byte) : HmCmd := { smb := true, area := area, off := off, data := some (d.take len), len := len, ue := [] }
     (s.markRefusal rd = none → s.markWaits rd = false →
       ∃ t, exec (.smbHeatMarkRead area off len []) s = .next t ∧ t.ident = { s.ident with smb := 0 :: (List.range len).map (fun k => s.markByte area (off + k)) } ∧
         OnlyChanges [.ident] s t) ∧
     (∀ d, s.markRefusal (wr d) = none → s.markWaits (wr d) = false → d.length = len → s.areaPresent area = true →
       ∃ t, exec (.smbHeatMarkWrite area off len d) s = .next t ∧ t.ident.smb = [0] ∧ (∀ k, k < len → t.markByte area (off + k) = d.getD k 0) ∧
         OnlyChanges [.ident] s t) ∧
     (∀ k, s.markRefusal rd = some k → ∃ t, exec (.smbHeatMarkRead area off len []) s = .next t ∧ t.ident = { s.ident with smb := [BitVec.ofNat 8 k] } ∧
       OnlyChanges [.ident] s t)) ∧
   (∀ (s : State),
     (∃ t, exec .heatMarkLock s = .next t ∧ t.flag Reg.ID_HMCTL F.ID_HMCTL_LOCK = true ∧ OnlyChanges [.regs] s t) ∧
     (s.ident.chal = none →
       (∃ t, exec (.challenge []) s = .next t ∧ t.flag Reg.ID_CHALCMD F.ID_CHALCMD_BUSY = true ∧ t.ident = { s.ident with chal := some (s.challengeMsg []) } ∧
         OnlyChanges [.regs, .ident] s t) ∧
       (∀ nonce, nonce.length = 48 → ∃ t, exec (.smbChallenge nonce []) s = .next t ∧ t.flag Reg.ID_CHALCMD F.ID_CHALCMD_BUSY = true ∧ t.ident.smb = [0] ∧
         (∃ m, t.ident.chal = some m ∧ m.take 48 = nonce) ∧ OnlyChanges [.regs, .ident] s t)) ∧
     (∀ m, s.ident.chal = some m →
       (∃ t, exec (.challenge []) s = .next t ∧ t.flag Reg.ID_CHALCMD F.ID_CHALCMD_REJ = true ∧ t.ident = s.ident ∧ OnlyChanges [.regs] s t) ∧
       (s.ident.waiting = [] → ∃ t, exec .challengeComplete s = .next t ∧ t.flag Reg.ID_CHALCMD F.ID_CHALCMD_BUSY = false ∧
         t.flag Reg.ID_CHALCMD F.ID_CHALCMD_DONE = true ∧ t.ident = { s.ident with chal := none } ∧
         (∀ j, j < 6 → t.reg (Reg.ID_RESPDIG j) = BitVec.ofNat 64 (leWord (((m.drop 72).drop (8 * j)).take 8))) ∧ OnlyChanges [.fresh, .regs, .ident] s t)) ∧
     (∃ t, exec .smbReadIdentity s = .next t ∧ t.ident = { s.ident with smb := 0 :: s.identity } ∧ OnlyChanges [.ident] s t) ∧
     (∃ t r, exec .smbResponse s = .next t ∧ t.ident = { s.ident with smb := 0 :: (if s.ident.chal.isSome then 1 else 0) :: r } ∧ r.length = 144 ∧
       OnlyChanges [.ident] s t) ∧
     (∀ off len, len ≤ 240 → ∃ t, exec (.smbCertificate off len) s = .next t ∧
       t.ident = { s.ident with smb := 0 :: (List.range len).map (fun k => s.fuse.cert.getD (off + k) 0) } ∧ OnlyChanges [.ident] s t)))

/-- R615, R618 to R621, R625, R626, R628, R652: a root port takes its control fields; the combination of ports is written while no port is enabled and it is not locked; a link comes up
only enabled; a surprise loss of a link and a fatal error contain a port until a release with no load outstanding; a configuration read answers; a requester context
is enabled when its checks pass. -/
def Obligations.PortsContainmentAndContexts : Prop :=
  (∀ (s : State) (p : Nat) (v : Word),
    let c := Reg.HIF_PCTL p
    let a := Reg.HIF_PSTAT p
    let idle := ∀ n, s.hasCore n = true → s.portLoads n p = []
    (s.isRoot p = false → exec (.portEnable p v) s = .next s) ∧
    (s.isRoot p = true →
      (getF v F.HIF_PCTL_RELEASE = 0 → ∃ t, exec (.portEnable p v) s = .next t ∧ t.fld c F.HIF_PCTL_ENABLE = getF v F.HIF_PCTL_ENABLE ∧
        t.fld c F.HIF_PCTL_MAXRATE = getF v F.HIF_PCTL_MAXRATE ∧ t.fld c F.HIF_PCTL_CONTAINEN = getF v F.HIF_PCTL_CONTAINEN ∧
        (∀ b, b ≠ c → t.reg b = s.reg b) ∧ OnlyChanges [.regs] s t) ∧
      ((∀ n, s.hasCore n = true → ∀ w ∈ (s.core n).loads, regionOf w.pa ≠ .pcie) → ∃ t, exec (.containmentRelease p v) s = .next t ∧
        t.flag a F.HIF_PSTAT_CONTAINED = false ∧ OnlyChanges [.regs] s t) ∧
      (¬ idle → ∃ t, exec (.containmentRelease p v) s = .next t ∧ t.flag a F.HIF_PSTAT_CONTAINED = s.flag a F.HIF_PSTAT_CONTAINED ∧ OnlyChanges [.regs] s t) ∧
      (∀ rate w, s.flag a F.HIF_PSTAT_DLUP = false → s.flag c F.HIF_PCTL_ENABLE = true → w < 32 →
        ∃ t, exec (.dlupChange p true rate w false) s = .next t ∧ t.flag a F.HIF_PSTAT_DLUP = true ∧ t.flag a F.HIF_PSTAT_LINKCHG = true ∧
          t.fld a F.HIF_PSTAT_RATE = min (s.maxRate p) rate ∧ OnlyChanges [.regs] s t) ∧
      (∀ rate w, s.flag a F.HIF_PSTAT_DLUP = false → s.flag c F.HIF_PCTL_ENABLE = false → exec (.dlupChange p true rate w false) s = .next s) ∧
      (s.flag a F.HIF_PSTAT_DLUP = true → s.flag c F.HIF_PCTL_CONTAINEN = true → s.flag a F.HIF_PSTAT_CONTAINED = false →
        ∃ t, exec (.dlupChange p false 0 0 true) s = .next t ∧ t.flag a F.HIF_PSTAT_DLUP = false ∧ t.flag a F.HIF_PSTAT_CONTAINED = true ∧
          ∃ e ∈ t.errq, e.unit = unitHif ∧ e.sev = some 5) ∧
      (∀ bit, bit < 32 →
        (∃ t, exec (.uncorrectableErrorDetected p bit) s = .next t ∧ bitAt (t.hdrStored p 0x104) bit = true ∧ t.flag a F.HIF_PSTAT_ERREV = true ∧
          (bitAt (s.hdrStored p 0x10C) bit = true → s.flag c F.HIF_PCTL_CONTAINEN = true → t.flag a F.HIF_PSTAT_CONTAINED = true) ∧
          (bitAt (s.hdrStored p 0x10C) bit = false → t.flag a F.HIF_PSTAT_CONTAINED = s.flag a F.HIF_PSTAT_CONTAINED ∧ OnlyChanges [.regs] s t)) ∧
        (∃ t, exec (.correctableLinkOrTlpError p bit) s = .next t ∧ bitAt (t.hdrStored p 0x110) bit = true ∧
          (∃ e ∈ t.errq, e.unit = unitHif ∧ e.sev = none) ∧ OnlyChanges [.regs, .errq] s t)))) ∧
  (∀ (s : State) (v : Word),
    let barred := s.flag Reg.HIF_BIFCFG F.HIF_BIFCFG_LOCK || (List.range 8).any (fun p => s.flag (Reg.HIF_PCTL p) F.HIF_PCTL_ENABLE)
    (barred = true → exec (.bifcfgWrite v) s = .next s) ∧
    (barred = false → ∃ t, exec (.bifcfgWrite v) s = .next t ∧ t.reg Reg.HIF_BIFCFG = v &&& (s.bifMask ||| F.HIF_BIFCFG_LOCK.mask) ∧
      (∀ b, b ≠ Reg.HIF_BIFCFG → t.reg b = s.reg b) ∧ OnlyChanges [.regs] s t)) ∧
  (∀ (s : State) (off width : Nat) (reply : CfgReply), ecamOff off = true →
    (∀ v, s.cfgRead off width reply = some v → ∃ t, exec (.configurationRequest off width none reply) s = .next t ∧ t.hif = { s.hif with cfg := v } ∧
      OnlyChanges [.hif] s t) ∧
    (∀ v, ¬(ecamBus off = 0 ∧ ecamFn off = 0 ∧ ecamDev off < 8 ∧ s.isRoot (ecamDev off) = true) → exec (.configurationRequest off width (some v) reply) s = .next s) ∧
    (∀ v, ecamBus off = 0 → ecamFn off = 0 → ecamDev off < 8 → s.isRoot (ecamDev off) = true →
      ∃ t, exec (.configurationRequest off 4 (some v) reply) s = .next t ∧ t = s.hdrWrite (ecamDev off) (ecamReg off / 4 * 4) (v.toNat % 2 ^ 32) ∧
        OnlyChanges [.regs] s t)) ∧
  (∀ (s : State) (k : Nat) (v : Word), k < 256 →
    let a := Reg.HIF_RQCFG k
    let u := ((s.setFld a F.HIF_RQCFG_RIDFIRST (getF v F.HIF_RQCFG_RIDFIRST)).setFld a F.HIF_RQCFG_RIDLAST (getF v F.HIF_RQCFG_RIDLAST)).setFld a F.HIF_RQCFG_OWNER
      (getF v F.HIF_RQCFG_OWNER)
    (s.rqEn k = false →
      (u.rqRefusal k = none → ∃ t, exec (.rqcfgEnable k v) s = .next t ∧ t.rqEn k = true ∧ t.rqOwner k = getF v F.HIF_RQCFG_OWNER ∧
        t.fld a F.HIF_RQCFG_RIDFIRST = getF v F.HIF_RQCFG_RIDFIRST ∧ t.fld a F.HIF_RQCFG_RIDLAST = getF v F.HIF_RQCFG_RIDLAST ∧ OnlyChanges [.regs] s t) ∧
      (∀ c, u.rqRefusal k = some c → ∃ t, exec (.rqcfgEnable k v) s = .next t ∧ t.rqEn k = false ∧ t.flag a F.HIF_RQCFG_REJ = true ∧
        t.fld a F.HIF_RQCFG_CFGERR = c ∧ OnlyChanges [.regs] s t)) ∧
    (∃ t, exec (.rqcfgDisable k v) s = .next t ∧ t.rqEn k = false ∧ (∀ b, b ≠ a → t.reg b = s.reg b) ∧ OnlyChanges [.regs] s t))

/-- R617, R620, R622 to R625, R628: a port that takes requests translates each through its requester's context and window, notes the first fault, and queues what its home is to
perform; a performed write has written its bytes, and no others, a performed read is completed with its bytes; a message raises its source or is counted; a load's completion
delivers its data or faults, as its time-out does. -/
def Obligations.InboundAndOutboundRequests : Prop :=
  (∀ (s : State) (p rid : Nat), s.takesIn p = true →
    let cont := s.flag (Reg.HIF_PSTAT p) F.HIF_PSTAT_CONTAINED
    (∀ req, cont = true → ∃ t, exec (.inboundRequest p rid req) s = .next t ∧
      t.fld (Reg.HIF_PCNT p) F.HIF_PCNT_DROP = satAdd (2 ^ F.HIF_PCNT_DROP.w - 1) (s.fld (Reg.HIF_PCNT p) F.HIF_PCNT_DROP) 1 ∧ OnlyChanges [.regs] s t) ∧
    (cont = false →
      (∀ a n k pa, s.rqXlate rid a n = .ok (k, pa) → s.engOk hifRouter (s.rqOwner k) pa n = true →
        ∃ t, exec (.inboundRequest p rid (.read a n)) s = .next t ∧ t.hif = { s.hif with queue := s.hif.queue ++ [.read p rid k a pa n] } ∧ OnlyChanges [.hif] s t) ∧
      (∀ a bs ep k pa, inMsgRange a = false → s.rqXlate rid a bs.length = .ok (k, pa) → s.engOk hifRouter (s.rqOwner k) pa bs.length = true →
        ∃ t, exec (.inboundRequest p rid (.write a bs ep)) s = .next t ∧ t.hif = { s.hif with queue := s.hif.queue ++ [.write p rid k a pa bs ep] } ∧
          OnlyChanges [.hif] s t) ∧
      (∀ a n c, s.rqXlate rid a n = .error c → rid < 2 ^ 16 → s.flag Reg.HIF_FAULTSTAT F.HIF_FAULTSTAT_VALID = false →
        ∃ t, exec (.inboundRequest p rid (.read a n)) s = .next t ∧ t.hif.sent = [{ rid := rid, status := 1 }] ∧ t.hif.queue = s.hif.queue ∧
          t.flag Reg.HIF_FAULTSTAT F.HIF_FAULTSTAT_VALID = true ∧ t.fld Reg.HIF_FAULTSTAT F.HIF_FAULTSTAT_CODE = c ∧
          t.fld Reg.HIF_FAULTSTAT F.HIF_FAULTSTAT_RID = rid ∧ t.reg Reg.HIF_FAULTADDR = BitVec.ofNat 64 a ∧ OnlyChanges [.regs, .hif] s t) ∧
      (∃ t, exec (.inboundRequest p rid .unsupported) s = .next t ∧ t.hif = { s.hif with sent := [{ rid := rid, status := 1 }] } ∧ OnlyChanges [.hif] s t) ∧
      (∃ t, exec (.inboundRequest p rid .intx) s = .next t ∧ t.hif = s.hif ∧
        t.fld Reg.HIF_MSGCNT F.HIF_MSGCNT_INTX = satAdd (2 ^ F.HIF_MSGCNT_INTX.w - 1) (s.fld Reg.HIF_MSGCNT F.HIF_MSGCNT_INTX) 1 ∧ OnlyChanges [.regs] s t) ∧
      (∀ a bs, inMsgRange a = true → let d := leWord bs; let m := s.reg (Reg.HIF_MSIMAP d)
        let good := bs.length = 4 ∧ a % 4 = 0 ∧ d < 4096 ∧ getF m F.HIF_MSIMAP_EN = 1 ∧ getF m F.HIF_MSIMAP_RID = rid
        (good → s.hif.queue = [] → s.dist.workOff = false → isReservedSrc (4096 + d) = false → 2 ≤ s.sense (4096 + d) →
          ∃ t, exec (.messageWrite p rid a bs) s = .next t ∧ (t.src (4096 + d)).edge = true ∧ t.hif.queue = [] ∧ t.mem = s.mem) ∧
        (¬ good → ∃ t, exec (.messageWrite p rid a bs) s = .next t ∧ t.dist = s.dist ∧
          t.fld Reg.HIF_MSGCNT F.HIF_MSGCNT_MSI = satAdd (2 ^ F.HIF_MSGCNT_MSI.w - 1) (s.fld Reg.HIF_MSGCNT F.HIF_MSGCNT_MSI) 1 ∧ OnlyChanges [.regs] s t)))) ∧
  (∀ (s : State) (p rid k gpa pa : Nat), (∃ c, regionOf pa = .coreCast c ∨ regionOf pa = .sharedCast c) →
    (∀ n, s.hif.queue = [.read p rid k gpa pa n] → s.engAnswers hifRouter pa n = true →
      ∃ t, exec (.inboundRequestPerformed 0) s = .next t ∧ t.hif.queue = [] ∧
        t.hif.sent = [{ rid := rid, status := 0, ep := s.anyPoison pa n, bytes := s.bytes pa n }] ∧ OnlyChanges [.hif] s t) ∧
    (∀ bs ep, s.hif.queue = [.write p rid k gpa pa bs ep] → s.engAnswers hifRouter pa bs.length = true → s.logging (s.rqOwner k) = false →
      ∃ t, exec (.inboundRequestPerformed 0) s = .next t ∧ t.hif.queue = [] ∧
        ∀ z, t.byte z = if pa ≤ z ∧ z < pa + bs.length then bs.getD (z - pa) 0 else s.byte z)) ∧
  (∀ (s : State) (n idx p : Nat) (w : LdWait), s.portLoad n idx = some (w, p) → (s.core n).isSlack = false → w.width2 = 0 →
    (regionOf w.pa = .pcie → ∀ v, w.lr = false → w.twp = false →
      ∃ t, exec (.completionReceive n idx (.ok v false)) s = .next t ∧ (t.core n).loads = (s.core n).loads.eraseIdx idx ∧
        (t.core n).x = ((s.core n).deliver w.dest w.sx (leWord (leBytes w.width v.toNat)) w.width).x ∧
        (t.core n).pc = (s.core n).pc + BitVec.ofNat 64 w.len ∧ t.mem = s.mem) ∧
    (∀ i f, (regionOf w.pa = .pcie ∧ (i = .completionReceive n idx .ur ∨ i = .completionReceive n idx .ca) ∧ f = F.HIF_PCNT_URCA) ∨
        (i = .completionTimeout n idx ∧ f = F.HIF_PCNT_CTO) →
      ∃ t e, exec i s = .next t ∧ (t.core n).entry = some e ∧ e.cause = 5 ∧ e.tval = w.va ∧ e.epc = w.pc ∧ (t.core n).x = (s.core n).x ∧
        t.fld (Reg.HIF_PCNT p) f = satAdd (2 ^ f.w - 1) (s.fld (Reg.HIF_PCNT p) f) 1 ∧ t.mem = s.mem))

/-- A step whose queue is not empty takes the command at its front and is the execution of that command on the state with the queue's rest; a command put in
front of the queue is the next to run. -/
def Obligations.StepRunsTheFrontCommand : Prop :=
  ∀ (s : State) (c : Instr), step (s.withFront c) = exec c s ∧
    ∀ rest, s.pending = c :: rest → step s = exec c { s with pending := rest }

/-- Commands are served first in, first out: a step that goes on leaves exactly the queue's rest, and waiting commands that are well formed stay so; with no command
waiting the block always goes on, and only tide time and the cores' cycle counts move (the model's choice, log entry 15). -/
def Obligations.CommandsAreServedInOrder : Prop :=
  (∀ s t : State, step s = .next t → t.pending = s.pending.tail ∧ (s.QueueOk → t.QueueOk)) ∧
  (∀ s : State, s.pending = [] → step s = .next s.tick ∧ OnlyChanges [.regs, .cores, .time] s s.tick)

/-- R4, R14, R567, R592, R593, R598: after reset every register holds the reset value of its table, no command waits, memory and registers are in canonical form,
core 0, the tile fabric and the always-on domain are in RUN and every other domain is OFF, every core is held, every source has the lowest priority. That
memory reads zero is the model's choice (log entry 4). -/
def Obligations.TheResetState : Prop :=
  State.reset.Canonical ∧ State.reset.QueueOk ∧ State.reset.pending = [] ∧ State.reset.errq = [] ∧ State.reset.net = [] ∧
  (∀ a, State.reset.reg a = regReset a) ∧
  (∀ d, d < 225 → State.reset.domState d = if d = 0 ∨ d = 223 ∨ d = 224 then domRunning else domOff) ∧
  (∀ n, (State.reset.core n).run = .held) ∧ (∀ k, (State.reset.src k).prio = 31) ∧
  State.reset.fld Reg.SVC_RSTCAUSE F.SVC_RSTCAUSE_LAST = 1 ∧ State.reset.fld Reg.SVC_WDCTL F.SVC_WDCTL_ACTION = 1 ∧
  (∀ e, e < 2 → State.reset.fld (Reg.FE_CFG e) F.FE_CFG_ETYPE = 0x88B5) ∧ (∀ m, m < 12 → State.reset.mcState m = mcUntrained) ∧
  (∀ p, p < 8 → State.reset.fld (Reg.HIF_PCTL p) F.HIF_PCTL_MAXRATE = 5) ∧
  ∀ k, State.reset.byte k = 0

/-- The canonical form of memory and of the registers, in which equal contents are equal data, is kept by every step, whatever state it starts from. -/
def Obligations.EveryStepKeepsTheCanonicalForm : Prop :=
  ∀ s t : State, s.Canonical → step s = .next t → t.Canonical

/-- The frame of every command: from any state, what it leaves differs from what it found in the listed parts of the state only. -/
def Obligations.CommandsChangeOnlyTheirParts : Prop :=
  ∀ (i : Instr) (s t : State), exec i s = .next t → OnlyChanges (mayChange i) s t

/-- R17, R33: every command goes on from every state, but for a register access outside the decoded control space, which stops by name; no command is refused. -/
def Obligations.OnlyUndecodedAccessesStop : Prop :=
  ∀ (i : Instr) (s : State), (∃ t, exec i s = .next t) ∨
    ∃ off, offDecoded off = false ∧ exec i s = .fault (.undecoded off) ∧
      ((∃ width v, i = .registerWrite (.control off width) v) ∨ ∃ width lo c, i = .rcCounterRead off width lo c)

/-- A byte of memory reads as the last write that covered it left it, and a write leaves every other byte alone: what every store of a core and of an engine comes to. -/
def Obligations.MemoryReadsWhatWasWritten : Prop :=
  (∀ (s : State) (a : Nat) (bs : List Byte) (k : Nat), (s.setBytes a bs).byte k = if a ≤ k ∧ k < a + bs.length then bs.getD (k - a) 0 else s.byte k) ∧
  (∀ (s : State) (a : Nat) (bs : List Byte) (ps : List Bool) (k : Nat),
    (s.setBytesP a bs ps).byte k = if a ≤ k ∧ k < a + bs.length then bs.getD (k - a) 0 else s.byte k) ∧
  (∀ (s : State) (a n : Nat) (k : Nat), (s.zeroRange a n).byte k = if a ≤ k ∧ k < a + n then 0 else s.byte k)

/-- R4, R18, R36, R603, R609: no step changes what was fixed at manufacture, and fuses are only ever set: a slot that is programmed, revoked or BAD stays so, and an SVN
fuse that is set stays set, over resets too. -/
def Obligations.FusesAreOnlyEverSet : Prop :=
  ∀ s t : State, step s = .next t →
    let f := s.fuse
    let g := t.fuse
    (g.part = f.part ∧ g.stepping = f.stepping ∧ g.tilemap = f.tilemap ∧ g.mcmap = f.mcmap ∧ g.quadmap = f.quadmap ∧ g.femap = f.femap ∧ g.ldlmap = f.ldlmap ∧
      g.pciemap = f.pciemap ∧ g.vec = f.vec ∧ g.pair = f.pair ∧ g.clkid = f.clkid ∧ g.factid0 = f.factid0 ∧ g.factid1 = f.factid1 ∧ g.cert = f.cert) ∧
    g.slots.length = f.slots.length ∧
    (∀ (k : Nat) (x : KeySlot), f.slots[k]? = some x → ∃ y : KeySlot, g.slots[k]? = some y ∧ (x.prog = true → y.prog = true) ∧ (x.revoked = true → y.revoked = true) ∧
      (x.bad = true → y.bad = true)) ∧
    (∀ k, getB f.svn k = true → getB g.svn k = true)

/-- R594: a RESET of a core whose domain is not RUN is refused with REJCODE 1, one of a core of an active pair with REJCODE 2, and a refusal leaves the core as it was; a
pair that has halted is not active; one during a CORE reset of that core is ignored; any other starts the reset. -/
def Obligations.CoreResetsAreRefusedOrTaken : Prop :=
  ∀ (s : State) (n : Nat) (v : Word), s.hasCore n = true →
    let a := Reg.SVC_CORECTL n
    let active := (s.core n).csrBit C.pairctl 1 = true ∧ (s.core n).run ≠ .pairHalt
    let refused (t : State) (k : Nat) := t.flag a F.SVC_CORECTL_REJ = true ∧ t.fld a F.SVC_CORECTL_REJCODE = k ∧ t.flag a F.SVC_CORECTL_RESET = false ∧
      t.core n = s.core n ∧ (∀ b, b ≠ a → t.reg b = s.reg b) ∧ OnlyChanges [.regs] s t
    (s.flag a F.SVC_CORECTL_RESET = true → getF v F.SVC_CORECTL_REJ = 0 → ∃ t, exec (.coreReset n v) s = .next t ∧ (∀ b, t.reg b = s.reg b) ∧ OnlyChanges [.regs] s t) ∧
    (s.flag a F.SVC_CORECTL_RESET = false →
      (s.domState n ≠ domRunning → ∃ t, exec (.coreReset n v) s = .next t ∧ refused t 1) ∧
      (s.domState n = domRunning → active → ∃ t, exec (.coreReset n v) s = .next t ∧ refused t 2) ∧
      (s.domState n = domRunning → ¬ active → ∃ t, exec (.coreReset n v) s = .next t ∧ t.flag a F.SVC_CORECTL_RESET = true ∧ (t.core n).run = .resetting))

/-- R642: LOCK is set by a write of 1 and by no write cleared; CHIP and PWR resets clear it; while it is set every heat-mark write, from control space and from SMBus, is
refused and changes no mark; reads and challenges do the same whatever it is. -/
def Obligations.TheHeatMarkLockStopsWritesOnly : Prop :=
  ∀ s : State,
    let a := Reg.ID_HMCTL
    let lock := F.ID_HMCTL_LOCK
    (∃ t, exec .heatMarkLock s = .next t ∧ t.flag a lock = true) ∧
    (∀ width v, s.ctlReached a width = true → ∃ t, exec (.registerWrite (.control a width) v) s = .next t ∧ t.flag a lock = (s.flag a lock || getB v 0)) ∧
    (∃ t, exec .pwrReset s = .next t ∧ t.flag a lock = false) ∧
    (s.pwr.halt = false → ∃ t, exec .coldRstN s = .next t ∧ t.flag a lock = false) ∧
    (s.pwr.warm ≠ none → ∃ t, exec .warmEntryComplete s = .next t ∧ t.flag a lock = false) ∧
    (s.flag Reg.SVC_WDCTL F.SVC_WDCTL_EN = true → s.wdPaused = false → s.fld Reg.SVC_WDSTAT F.SVC_WDSTAT_STAGE = 1 → 2 ≤ s.fld Reg.SVC_WDCTL F.SVC_WDCTL_ACTION →
      ∃ t, exec .watchdogStage2 s = .next t ∧ t.flag a lock = false) ∧
    (s.flag a lock = true →
      (∀ v, ∃ t, exec (.heatMarkWrite v) s = .next t ∧ t.flag Reg.ID_HMSTAT F.ID_HMSTAT_REJ = true ∧ t.ident = s.ident ∧ OnlyChanges [.regs] s t ∧
        (getF v F.ID_HMCMD_LEN ≠ 0 → ∀ n, areaSize (getF v F.ID_HMCMD_AREA) = some n → getF v F.ID_HMCMD_OFFSET + getF v F.ID_HMCMD_LEN ≤ n →
          t.fld Reg.ID_HMSTAT F.ID_HMSTAT_REJCODE = 4)) ∧
      (∀ area off len d, ∃ t k, exec (.smbHeatMarkWrite area off len d) s = .next t ∧ k ≠ (0 : Byte) ∧ t.ident = { s.ident with smb := [k] } ∧
        OnlyChanges [.ident] s t ∧ (len ≠ 0 → ∀ n, areaSize area = some n → off + len ≤ n → k = 4))) ∧
    (∀ i b, ((∃ v ue, i = .heatMarkRead v ue) ∨ (∃ area off len ue, i = .smbHeatMarkRead area off len ue) ∨ (∃ ue, i = .challenge ue) ∨
        (∃ nonce ue, i = .smbChallenge nonce ue)) →
      ∃ t u, exec i s = .next t ∧ exec i (s.setFlag a lock b) = .next u ∧ u.ident = t.ident ∧ ∀ r, r ≠ a → u.reg r = t.reg r)
end

