-- ==== Sys2Proof/Laws/Bits.lean ====
section
/-!
SUPPORT. Fields of registers: a field reads what was written to it, and fields that do not overlap leave each other alone.
-/
namespace Sys2Proof.Machine

theorem getLsbD_ones (w i : Nat) : (ones w).getLsbD i = (decide (i < 64) && decide (i < w)) := by
  simp [ones, BitVec.getLsbD_ofNat, Nat.testBit_two_pow_sub_one]

theorem getLsbD_mask (f : Fld) (i : Nat) :
    f.mask.getLsbD i = (decide (i < 64) && decide (f.lo ≤ i) && decide (i < f.lo + f.w)) := by
  simp only [Fld.mask, BitVec.getLsbD_shiftLeft, getLsbD_ones]
  by_cases h1 : i < 64
  · by_cases h2 : f.lo ≤ i
    · have e : (i - f.lo < f.w) = (i < f.lo + f.w) := by apply propext; omega
      have h4 : i - f.lo < 64 := by omega
      simp [h1, h2, h4, e]
    · have h5 : i < f.lo := by omega
      simp [h2, h5]
  · simp [h1]

theorem getLsbD_setF (r : Word) (f : Fld) (v i : Nat) :
    (setF r f v).getLsbD i = if i < 64 ∧ f.lo ≤ i ∧ i < f.lo + f.w then v.testBit (i - f.lo) else r.getLsbD i := by
  simp only [setF, BitVec.getLsbD_or, BitVec.getLsbD_and, BitVec.getLsbD_not, getLsbD_mask, BitVec.getLsbD_shiftLeft, getLsbD_ones, BitVec.getLsbD_ofNat]
  by_cases h1 : i < 64
  · by_cases h2 : f.lo ≤ i
    · by_cases h3 : i < f.lo + f.w
      · have h4 : i - f.lo < 64 := by omega
        have h5 : i - f.lo < f.w := by omega
        simp [h1, h2, h3, h4, h5]
      · have h5 : ¬ i - f.lo < f.w := by omega
        simp [h1, h2, h3, h5]
    · have h6 : i < f.lo := by omega
      simp [h1, h2, h6]
  · simp [h1, BitVec.getLsbD_of_ge r i (by omega)]

theorem testBit_getF (r : Word) (f : Fld) (i : Nat) : (getF r f).testBit i = (decide (i < f.w) && r.getLsbD (f.lo + i)) := by
  have h : (getF r f).testBit i = ((r >>> f.lo) &&& ones f.w).getLsbD i := rfl
  rw [h, BitVec.getLsbD_and, BitVec.getLsbD_ushiftRight, getLsbD_ones]
  by_cases h1 : i < 64
  · simp [h1, Bool.and_comm]
  · simp [h1, BitVec.getLsbD_of_ge r (f.lo + i) (by omega)]

/-- A field reads back what was written to it, cut to its width. -/
theorem getF_setF_same (r : Word) (f : Fld) (v : Nat) (h : f.lo + f.w ≤ 64) : getF (setF r f v) f = v % 2 ^ f.w := by
  apply Nat.eq_of_testBit_eq
  intro i
  rw [testBit_getF, getLsbD_setF, Nat.testBit_mod_two_pow]
  by_cases hi : i < f.w
  · have : f.lo + i < 64 ∧ f.lo ≤ f.lo + i ∧ f.lo + i < f.lo + f.w := by omega
    simp [hi, this]
  · simp [hi]

/-- A field that does not overlap the one written keeps its value. -/
theorem getF_setF_other (r : Word) (f g : Fld) (v : Nat) (h : f.lo + f.w ≤ g.lo ∨ g.lo + g.w ≤ f.lo) : getF (setF r f v) g = getF r g := by
  apply Nat.eq_of_testBit_eq
  intro i
  rw [testBit_getF, testBit_getF, getLsbD_setF]
  by_cases hi : i < g.w
  · have : ¬ (g.lo + i < 64 ∧ f.lo ≤ g.lo + i ∧ g.lo + i < f.lo + f.w) := by omega
    simp [hi, this]
  · simp [hi]

/-- A field lies below its width. -/
theorem getF_lt (r : Word) (f : Fld) : getF r f < 2 ^ f.w := by
  apply Nat.lt_pow_two_of_testBit
  intro i hi
  rw [testBit_getF]
  simp [Nat.not_lt.mpr hi]

theorem getLsbD_bitW (i j : Nat) : (bitW i).getLsbD j = (decide (j < 64) && decide (j = i)) := by
  simp only [bitW, BitVec.getLsbD_shiftLeft]
  by_cases h1 : j < 64 <;> by_cases h2 : j = i <;> simp [h1, h2] <;> omega

/-- One bit of a word after another was written. -/
theorem getB_setB (r : Word) (i j : Nat) (b : Bool) : getB (setB r i b) j = if j = i ∧ j < 64 then b else getB r j := by
  by_cases h64 : j < 64
  · cases b
    · show (r &&& ~~~ bitW i).getLsbD j = _
      rw [BitVec.getLsbD_and, BitVec.getLsbD_not, getLsbD_bitW]
      by_cases h : j = i
      · subst h; simp [h64]
      · simp only [h64, h, getB]; simp
    · show (r ||| bitW i).getLsbD j = _
      rw [BitVec.getLsbD_or, getLsbD_bitW]
      by_cases h : j = i
      · subst h; simp [h64]
      · simp only [h64, h, getB]; simp
  · have : ∀ w : Word, w.getLsbD j = false := fun w => BitVec.getLsbD_of_ge w j (by omega)
    simp [getB, h64, this]

end Sys2Proof.Machine
end

