-- ==== Sys2Proof/Laws/State.lean ====
section
/-!
SUPPORT. Every named update of the state and every field it leaves alone, each true by unfolding, so that no proof unfolds a record update.
-/
namespace Sys2Proof.Machine

variable (s : State)

/-! `setReg` -/
@[simp] theorem State.setReg_fuse (a : Nat) (v : Word) : (s.setReg a v).fuse = s.fuse := rfl
@[simp] theorem State.setReg_fresh (a : Nat) (v : Word) : (s.setReg a v).fresh = s.fresh := rfl
@[simp] theorem State.setReg_mem (a : Nat) (v : Word) : (s.setReg a v).mem = s.mem := rfl
@[simp] theorem State.setReg_memPoison (a : Nat) (v : Word) : (s.setReg a v).memPoison = s.memPoison := rfl
@[simp] theorem State.setReg_cores (a : Nat) (v : Word) : (s.setReg a v).cores = s.cores := rfl
@[simp] theorem State.setReg_slices (a : Nat) (v : Word) : (s.setReg a v).slices = s.slices := rfl
@[simp] theorem State.setReg_tileMnt (a : Nat) (v : Word) : (s.setReg a v).tileMnt = s.tileMnt := rfl
@[simp] theorem State.setReg_decode (a : Nat) (v : Word) : (s.setReg a v).decode = s.decode := rfl
@[simp] theorem State.setReg_net (a : Nat) (v : Word) : (s.setReg a v).net = s.net := rfl
@[simp] theorem State.setReg_endpoints (a : Nat) (v : Word) : (s.setReg a v).endpoints = s.endpoints := rfl
@[simp] theorem State.setReg_links (a : Nat) (v : Word) : (s.setReg a v).links = s.links := rfl
@[simp] theorem State.setReg_routers (a : Nat) (v : Word) : (s.setReg a v).routers = s.routers := rfl
@[simp] theorem State.setReg_partEbb (a : Nat) (v : Word) : (s.setReg a v).partEbb = s.partEbb := rfl
@[simp] theorem State.setReg_chans (a : Nat) (v : Word) : (s.setReg a v).chans = s.chans := rfl
@[simp] theorem State.setReg_memTok (a : Nat) (v : Word) : (s.setReg a v).memTok = s.memTok := rfl
@[simp] theorem State.setReg_time (a : Nat) (v : Word) : (s.setReg a v).time = s.time := rfl
@[simp] theorem State.setReg_lanes (a : Nat) (v : Word) : (s.setReg a v).lanes = s.lanes := rfl
@[simp] theorem State.setReg_fast (a : Nat) (v : Word) : (s.setReg a v).fast = s.fast := rfl
@[simp] theorem State.setReg_stns (a : Nat) (v : Word) : (s.setReg a v).stns = s.stns := rfl
@[simp] theorem State.setReg_imgs (a : Nat) (v : Word) : (s.setReg a v).imgs = s.imgs := rfl
@[simp] theorem State.setReg_tabs (a : Nat) (v : Word) : (s.setReg a v).tabs = s.tabs := rfl
@[simp] theorem State.setReg_fes (a : Nat) (v : Word) : (s.setReg a v).fes = s.fes := rfl
@[simp] theorem State.setReg_fns (a : Nat) (v : Word) : (s.setReg a v).fns = s.fns := rfl
@[simp] theorem State.setReg_ldls (a : Nat) (v : Word) : (s.setReg a v).ldls = s.ldls := rfl
@[simp] theorem State.setReg_ldlEngs (a : Nat) (v : Word) : (s.setReg a v).ldlEngs = s.ldlEngs := rfl
@[simp] theorem State.setReg_pwr (a : Nat) (v : Word) : (s.setReg a v).pwr = s.pwr := rfl
@[simp] theorem State.setReg_svc (a : Nat) (v : Word) : (s.setReg a v).svc = s.svc := rfl
@[simp] theorem State.setReg_hif (a : Nat) (v : Word) : (s.setReg a v).hif = s.hif := rfl
@[simp] theorem State.setReg_ident (a : Nat) (v : Word) : (s.setReg a v).ident = s.ident := rfl
@[simp] theorem State.setReg_tap (a : Nat) (v : Word) : (s.setReg a v).tap = s.tap := rfl
@[simp] theorem State.setReg_dist (a : Nat) (v : Word) : (s.setReg a v).dist = s.dist := rfl
@[simp] theorem State.setReg_retainPrst (a : Nat) (v : Word) : (s.setReg a v).retainPrst = s.retainPrst := rfl
@[simp] theorem State.setReg_errq (a : Nat) (v : Word) : (s.setReg a v).errq = s.errq := rfl
@[simp] theorem State.setReg_errlog (a : Nat) (v : Word) : (s.setReg a v).errlog = s.errlog := rfl
@[simp] theorem State.setReg_lastRead (a : Nat) (v : Word) : (s.setReg a v).lastRead = s.lastRead := rfl
@[simp] theorem State.setReg_pending (a : Nat) (v : Word) : (s.setReg a v).pending = s.pending := rfl

/-! `setFld` -/
@[simp] theorem State.setFld_fuse (a : Nat) (f : Fld) (v : Nat) : (s.setFld a f v).fuse = s.fuse := rfl
@[simp] theorem State.setFld_fresh (a : Nat) (f : Fld) (v : Nat) : (s.setFld a f v).fresh = s.fresh := rfl
@[simp] theorem State.setFld_mem (a : Nat) (f : Fld) (v : Nat) : (s.setFld a f v).mem = s.mem := rfl
@[simp] theorem State.setFld_memPoison (a : Nat) (f : Fld) (v : Nat) : (s.setFld a f v).memPoison = s.memPoison := rfl
@[simp] theorem State.setFld_cores (a : Nat) (f : Fld) (v : Nat) : (s.setFld a f v).cores = s.cores := rfl
@[simp] theorem State.setFld_slices (a : Nat) (f : Fld) (v : Nat) : (s.setFld a f v).slices = s.slices := rfl
@[simp] theorem State.setFld_tileMnt (a : Nat) (f : Fld) (v : Nat) : (s.setFld a f v).tileMnt = s.tileMnt := rfl
@[simp] theorem State.setFld_decode (a : Nat) (f : Fld) (v : Nat) : (s.setFld a f v).decode = s.decode := rfl
@[simp] theorem State.setFld_net (a : Nat) (f : Fld) (v : Nat) : (s.setFld a f v).net = s.net := rfl
@[simp] theorem State.setFld_endpoints (a : Nat) (f : Fld) (v : Nat) : (s.setFld a f v).endpoints = s.endpoints := rfl
@[simp] theorem State.setFld_links (a : Nat) (f : Fld) (v : Nat) : (s.setFld a f v).links = s.links := rfl
@[simp] theorem State.setFld_routers (a : Nat) (f : Fld) (v : Nat) : (s.setFld a f v).routers = s.routers := rfl
@[simp] theorem State.setFld_partEbb (a : Nat) (f : Fld) (v : Nat) : (s.setFld a f v).partEbb = s.partEbb := rfl
@[simp] theorem State.setFld_chans (a : Nat) (f : Fld) (v : Nat) : (s.setFld a f v).chans = s.chans := rfl
@[simp] theorem State.setFld_memTok (a : Nat) (f : Fld) (v : Nat) : (s.setFld a f v).memTok = s.memTok := rfl
@[simp] theorem State.setFld_time (a : Nat) (f : Fld) (v : Nat) : (s.setFld a f v).time = s.time := rfl
@[simp] theorem State.setFld_lanes (a : Nat) (f : Fld) (v : Nat) : (s.setFld a f v).lanes = s.lanes := rfl
@[simp] theorem State.setFld_fast (a : Nat) (f : Fld) (v : Nat) : (s.setFld a f v).fast = s.fast := rfl
@[simp] theorem State.setFld_stns (a : Nat) (f : Fld) (v : Nat) : (s.setFld a f v).stns = s.stns := rfl
@[simp] theorem State.setFld_imgs (a : Nat) (f : Fld) (v : Nat) : (s.setFld a f v).imgs = s.imgs := rfl
@[simp] theorem State.setFld_tabs (a : Nat) (f : Fld) (v : Nat) : (s.setFld a f v).tabs = s.tabs := rfl
@[simp] theorem State.setFld_fes (a : Nat) (f : Fld) (v : Nat) : (s.setFld a f v).fes = s.fes := rfl
@[simp] theorem State.setFld_fns (a : Nat) (f : Fld) (v : Nat) : (s.setFld a f v).fns = s.fns := rfl
@[simp] theorem State.setFld_ldls (a : Nat) (f : Fld) (v : Nat) : (s.setFld a f v).ldls = s.ldls := rfl
@[simp] theorem State.setFld_ldlEngs (a : Nat) (f : Fld) (v : Nat) : (s.setFld a f v).ldlEngs = s.ldlEngs := rfl
@[simp] theorem State.setFld_pwr (a : Nat) (f : Fld) (v : Nat) : (s.setFld a f v).pwr = s.pwr := rfl
@[simp] theorem State.setFld_svc (a : Nat) (f : Fld) (v : Nat) : (s.setFld a f v).svc = s.svc := rfl
@[simp] theorem State.setFld_hif (a : Nat) (f : Fld) (v : Nat) : (s.setFld a f v).hif = s.hif := rfl
@[simp] theorem State.setFld_ident (a : Nat) (f : Fld) (v : Nat) : (s.setFld a f v).ident = s.ident := rfl
@[simp] theorem State.setFld_tap (a : Nat) (f : Fld) (v : Nat) : (s.setFld a f v).tap = s.tap := rfl
@[simp] theorem State.setFld_dist (a : Nat) (f : Fld) (v : Nat) : (s.setFld a f v).dist = s.dist := rfl
@[simp] theorem State.setFld_retainPrst (a : Nat) (f : Fld) (v : Nat) : (s.setFld a f v).retainPrst = s.retainPrst := rfl
@[simp] theorem State.setFld_errq (a : Nat) (f : Fld) (v : Nat) : (s.setFld a f v).errq = s.errq := rfl
@[simp] theorem State.setFld_errlog (a : Nat) (f : Fld) (v : Nat) : (s.setFld a f v).errlog = s.errlog := rfl
@[simp] theorem State.setFld_lastRead (a : Nat) (f : Fld) (v : Nat) : (s.setFld a f v).lastRead = s.lastRead := rfl
@[simp] theorem State.setFld_pending (a : Nat) (f : Fld) (v : Nat) : (s.setFld a f v).pending = s.pending := rfl

/-! `setFlag` -/
@[simp] theorem State.setFlag_fuse (a : Nat) (f : Fld) (b : Bool) : (s.setFlag a f b).fuse = s.fuse := rfl
@[simp] theorem State.setFlag_fresh (a : Nat) (f : Fld) (b : Bool) : (s.setFlag a f b).fresh = s.fresh := rfl
@[simp] theorem State.setFlag_mem (a : Nat) (f : Fld) (b : Bool) : (s.setFlag a f b).mem = s.mem := rfl
@[simp] theorem State.setFlag_memPoison (a : Nat) (f : Fld) (b : Bool) : (s.setFlag a f b).memPoison = s.memPoison := rfl
@[simp] theorem State.setFlag_cores (a : Nat) (f : Fld) (b : Bool) : (s.setFlag a f b).cores = s.cores := rfl
@[simp] theorem State.setFlag_slices (a : Nat) (f : Fld) (b : Bool) : (s.setFlag a f b).slices = s.slices := rfl
@[simp] theorem State.setFlag_tileMnt (a : Nat) (f : Fld) (b : Bool) : (s.setFlag a f b).tileMnt = s.tileMnt := rfl
@[simp] theorem State.setFlag_decode (a : Nat) (f : Fld) (b : Bool) : (s.setFlag a f b).decode = s.decode := rfl
@[simp] theorem State.setFlag_net (a : Nat) (f : Fld) (b : Bool) : (s.setFlag a f b).net = s.net := rfl
@[simp] theorem State.setFlag_endpoints (a : Nat) (f : Fld) (b : Bool) : (s.setFlag a f b).endpoints = s.endpoints := rfl
@[simp] theorem State.setFlag_links (a : Nat) (f : Fld) (b : Bool) : (s.setFlag a f b).links = s.links := rfl
@[simp] theorem State.setFlag_routers (a : Nat) (f : Fld) (b : Bool) : (s.setFlag a f b).routers = s.routers := rfl
@[simp] theorem State.setFlag_partEbb (a : Nat) (f : Fld) (b : Bool) : (s.setFlag a f b).partEbb = s.partEbb := rfl
@[simp] theorem State.setFlag_chans (a : Nat) (f : Fld) (b : Bool) : (s.setFlag a f b).chans = s.chans := rfl
@[simp] theorem State.setFlag_memTok (a : Nat) (f : Fld) (b : Bool) : (s.setFlag a f b).memTok = s.memTok := rfl
@[simp] theorem State.setFlag_time (a : Nat) (f : Fld) (b : Bool) : (s.setFlag a f b).time = s.time := rfl
@[simp] theorem State.setFlag_lanes (a : Nat) (f : Fld) (b : Bool) : (s.setFlag a f b).lanes = s.lanes := rfl
@[simp] theorem State.setFlag_fast (a : Nat) (f : Fld) (b : Bool) : (s.setFlag a f b).fast = s.fast := rfl
@[simp] theorem State.setFlag_stns (a : Nat) (f : Fld) (b : Bool) : (s.setFlag a f b).stns = s.stns := rfl
@[simp] theorem State.setFlag_imgs (a : Nat) (f : Fld) (b : Bool) : (s.setFlag a f b).imgs = s.imgs := rfl
@[simp] theorem State.setFlag_tabs (a : Nat) (f : Fld) (b : Bool) : (s.setFlag a f b).tabs = s.tabs := rfl
@[simp] theorem State.setFlag_fes (a : Nat) (f : Fld) (b : Bool) : (s.setFlag a f b).fes = s.fes := rfl
@[simp] theorem State.setFlag_fns (a : Nat) (f : Fld) (b : Bool) : (s.setFlag a f b).fns = s.fns := rfl
@[simp] theorem State.setFlag_ldls (a : Nat) (f : Fld) (b : Bool) : (s.setFlag a f b).ldls = s.ldls := rfl
@[simp] theorem State.setFlag_ldlEngs (a : Nat) (f : Fld) (b : Bool) : (s.setFlag a f b).ldlEngs = s.ldlEngs := rfl
@[simp] theorem State.setFlag_pwr (a : Nat) (f : Fld) (b : Bool) : (s.setFlag a f b).pwr = s.pwr := rfl
@[simp] theorem State.setFlag_svc (a : Nat) (f : Fld) (b : Bool) : (s.setFlag a f b).svc = s.svc := rfl
@[simp] theorem State.setFlag_hif (a : Nat) (f : Fld) (b : Bool) : (s.setFlag a f b).hif = s.hif := rfl
@[simp] theorem State.setFlag_ident (a : Nat) (f : Fld) (b : Bool) : (s.setFlag a f b).ident = s.ident := rfl
@[simp] theorem State.setFlag_tap (a : Nat) (f : Fld) (b : Bool) : (s.setFlag a f b).tap = s.tap := rfl
@[simp] theorem State.setFlag_dist (a : Nat) (f : Fld) (b : Bool) : (s.setFlag a f b).dist = s.dist := rfl
@[simp] theorem State.setFlag_retainPrst (a : Nat) (f : Fld) (b : Bool) : (s.setFlag a f b).retainPrst = s.retainPrst := rfl
@[simp] theorem State.setFlag_errq (a : Nat) (f : Fld) (b : Bool) : (s.setFlag a f b).errq = s.errq := rfl
@[simp] theorem State.setFlag_errlog (a : Nat) (f : Fld) (b : Bool) : (s.setFlag a f b).errlog = s.errlog := rfl
@[simp] theorem State.setFlag_lastRead (a : Nat) (f : Fld) (b : Bool) : (s.setFlag a f b).lastRead = s.lastRead := rfl
@[simp] theorem State.setFlag_pending (a : Nat) (f : Fld) (b : Bool) : (s.setFlag a f b).pending = s.pending := rfl

/-! `setBit` -/
@[simp] theorem State.setBit_fuse (a i : Nat) (b : Bool) : (s.setBit a i b).fuse = s.fuse := rfl
@[simp] theorem State.setBit_fresh (a i : Nat) (b : Bool) : (s.setBit a i b).fresh = s.fresh := rfl
@[simp] theorem State.setBit_mem (a i : Nat) (b : Bool) : (s.setBit a i b).mem = s.mem := rfl
@[simp] theorem State.setBit_memPoison (a i : Nat) (b : Bool) : (s.setBit a i b).memPoison = s.memPoison := rfl
@[simp] theorem State.setBit_cores (a i : Nat) (b : Bool) : (s.setBit a i b).cores = s.cores := rfl
@[simp] theorem State.setBit_slices (a i : Nat) (b : Bool) : (s.setBit a i b).slices = s.slices := rfl
@[simp] theorem State.setBit_tileMnt (a i : Nat) (b : Bool) : (s.setBit a i b).tileMnt = s.tileMnt := rfl
@[simp] theorem State.setBit_decode (a i : Nat) (b : Bool) : (s.setBit a i b).decode = s.decode := rfl
@[simp] theorem State.setBit_net (a i : Nat) (b : Bool) : (s.setBit a i b).net = s.net := rfl
@[simp] theorem State.setBit_endpoints (a i : Nat) (b : Bool) : (s.setBit a i b).endpoints = s.endpoints := rfl
@[simp] theorem State.setBit_links (a i : Nat) (b : Bool) : (s.setBit a i b).links = s.links := rfl
@[simp] theorem State.setBit_routers (a i : Nat) (b : Bool) : (s.setBit a i b).routers = s.routers := rfl
@[simp] theorem State.setBit_partEbb (a i : Nat) (b : Bool) : (s.setBit a i b).partEbb = s.partEbb := rfl
@[simp] theorem State.setBit_chans (a i : Nat) (b : Bool) : (s.setBit a i b).chans = s.chans := rfl
@[simp] theorem State.setBit_memTok (a i : Nat) (b : Bool) : (s.setBit a i b).memTok = s.memTok := rfl
@[simp] theorem State.setBit_time (a i : Nat) (b : Bool) : (s.setBit a i b).time = s.time := rfl
@[simp] theorem State.setBit_lanes (a i : Nat) (b : Bool) : (s.setBit a i b).lanes = s.lanes := rfl
@[simp] theorem State.setBit_fast (a i : Nat) (b : Bool) : (s.setBit a i b).fast = s.fast := rfl
@[simp] theorem State.setBit_stns (a i : Nat) (b : Bool) : (s.setBit a i b).stns = s.stns := rfl
@[simp] theorem State.setBit_imgs (a i : Nat) (b : Bool) : (s.setBit a i b).imgs = s.imgs := rfl
@[simp] theorem State.setBit_tabs (a i : Nat) (b : Bool) : (s.setBit a i b).tabs = s.tabs := rfl
@[simp] theorem State.setBit_fes (a i : Nat) (b : Bool) : (s.setBit a i b).fes = s.fes := rfl
@[simp] theorem State.setBit_fns (a i : Nat) (b : Bool) : (s.setBit a i b).fns = s.fns := rfl
@[simp] theorem State.setBit_ldls (a i : Nat) (b : Bool) : (s.setBit a i b).ldls = s.ldls := rfl
@[simp] theorem State.setBit_ldlEngs (a i : Nat) (b : Bool) : (s.setBit a i b).ldlEngs = s.ldlEngs := rfl
@[simp] theorem State.setBit_pwr (a i : Nat) (b : Bool) : (s.setBit a i b).pwr = s.pwr := rfl
@[simp] theorem State.setBit_svc (a i : Nat) (b : Bool) : (s.setBit a i b).svc = s.svc := rfl
@[simp] theorem State.setBit_hif (a i : Nat) (b : Bool) : (s.setBit a i b).hif = s.hif := rfl
@[simp] theorem State.setBit_ident (a i : Nat) (b : Bool) : (s.setBit a i b).ident = s.ident := rfl
@[simp] theorem State.setBit_tap (a i : Nat) (b : Bool) : (s.setBit a i b).tap = s.tap := rfl
@[simp] theorem State.setBit_dist (a i : Nat) (b : Bool) : (s.setBit a i b).dist = s.dist := rfl
@[simp] theorem State.setBit_retainPrst (a i : Nat) (b : Bool) : (s.setBit a i b).retainPrst = s.retainPrst := rfl
@[simp] theorem State.setBit_errq (a i : Nat) (b : Bool) : (s.setBit a i b).errq = s.errq := rfl
@[simp] theorem State.setBit_errlog (a i : Nat) (b : Bool) : (s.setBit a i b).errlog = s.errlog := rfl
@[simp] theorem State.setBit_lastRead (a i : Nat) (b : Bool) : (s.setBit a i b).lastRead = s.lastRead := rfl
@[simp] theorem State.setBit_pending (a i : Nat) (b : Bool) : (s.setBit a i b).pending = s.pending := rfl

/-! `bump` -/
@[simp] theorem State.bump_fuse (a : Nat) (f : Fld) (k : Nat) : (s.bump a f k).fuse = s.fuse := rfl
@[simp] theorem State.bump_fresh (a : Nat) (f : Fld) (k : Nat) : (s.bump a f k).fresh = s.fresh := rfl
@[simp] theorem State.bump_mem (a : Nat) (f : Fld) (k : Nat) : (s.bump a f k).mem = s.mem := rfl
@[simp] theorem State.bump_memPoison (a : Nat) (f : Fld) (k : Nat) : (s.bump a f k).memPoison = s.memPoison := rfl
@[simp] theorem State.bump_cores (a : Nat) (f : Fld) (k : Nat) : (s.bump a f k).cores = s.cores := rfl
@[simp] theorem State.bump_slices (a : Nat) (f : Fld) (k : Nat) : (s.bump a f k).slices = s.slices := rfl
@[simp] theorem State.bump_tileMnt (a : Nat) (f : Fld) (k : Nat) : (s.bump a f k).tileMnt = s.tileMnt := rfl
@[simp] theorem State.bump_decode (a : Nat) (f : Fld) (k : Nat) : (s.bump a f k).decode = s.decode := rfl
@[simp] theorem State.bump_net (a : Nat) (f : Fld) (k : Nat) : (s.bump a f k).net = s.net := rfl
@[simp] theorem State.bump_endpoints (a : Nat) (f : Fld) (k : Nat) : (s.bump a f k).endpoints = s.endpoints := rfl
@[simp] theorem State.bump_links (a : Nat) (f : Fld) (k : Nat) : (s.bump a f k).links = s.links := rfl
@[simp] theorem State.bump_routers (a : Nat) (f : Fld) (k : Nat) : (s.bump a f k).routers = s.routers := rfl
@[simp] theorem State.bump_partEbb (a : Nat) (f : Fld) (k : Nat) : (s.bump a f k).partEbb = s.partEbb := rfl
@[simp] theorem State.bump_chans (a : Nat) (f : Fld) (k : Nat) : (s.bump a f k).chans = s.chans := rfl
@[simp] theorem State.bump_memTok (a : Nat) (f : Fld) (k : Nat) : (s.bump a f k).memTok = s.memTok := rfl
@[simp] theorem State.bump_time (a : Nat) (f : Fld) (k : Nat) : (s.bump a f k).time = s.time := rfl
@[simp] theorem State.bump_lanes (a : Nat) (f : Fld) (k : Nat) : (s.bump a f k).lanes = s.lanes := rfl
@[simp] theorem State.bump_fast (a : Nat) (f : Fld) (k : Nat) : (s.bump a f k).fast = s.fast := rfl
@[simp] theorem State.bump_stns (a : Nat) (f : Fld) (k : Nat) : (s.bump a f k).stns = s.stns := rfl
@[simp] theorem State.bump_imgs (a : Nat) (f : Fld) (k : Nat) : (s.bump a f k).imgs = s.imgs := rfl
@[simp] theorem State.bump_tabs (a : Nat) (f : Fld) (k : Nat) : (s.bump a f k).tabs = s.tabs := rfl
@[simp] theorem State.bump_fes (a : Nat) (f : Fld) (k : Nat) : (s.bump a f k).fes = s.fes := rfl
@[simp] theorem State.bump_fns (a : Nat) (f : Fld) (k : Nat) : (s.bump a f k).fns = s.fns := rfl
@[simp] theorem State.bump_ldls (a : Nat) (f : Fld) (k : Nat) : (s.bump a f k).ldls = s.ldls := rfl
@[simp] theorem State.bump_ldlEngs (a : Nat) (f : Fld) (k : Nat) : (s.bump a f k).ldlEngs = s.ldlEngs := rfl
@[simp] theorem State.bump_pwr (a : Nat) (f : Fld) (k : Nat) : (s.bump a f k).pwr = s.pwr := rfl
@[simp] theorem State.bump_svc (a : Nat) (f : Fld) (k : Nat) : (s.bump a f k).svc = s.svc := rfl
@[simp] theorem State.bump_hif (a : Nat) (f : Fld) (k : Nat) : (s.bump a f k).hif = s.hif := rfl
@[simp] theorem State.bump_ident (a : Nat) (f : Fld) (k : Nat) : (s.bump a f k).ident = s.ident := rfl
@[simp] theorem State.bump_tap (a : Nat) (f : Fld) (k : Nat) : (s.bump a f k).tap = s.tap := rfl
@[simp] theorem State.bump_dist (a : Nat) (f : Fld) (k : Nat) : (s.bump a f k).dist = s.dist := rfl
@[simp] theorem State.bump_retainPrst (a : Nat) (f : Fld) (k : Nat) : (s.bump a f k).retainPrst = s.retainPrst := rfl
@[simp] theorem State.bump_errq (a : Nat) (f : Fld) (k : Nat) : (s.bump a f k).errq = s.errq := rfl
@[simp] theorem State.bump_errlog (a : Nat) (f : Fld) (k : Nat) : (s.bump a f k).errlog = s.errlog := rfl
@[simp] theorem State.bump_lastRead (a : Nat) (f : Fld) (k : Nat) : (s.bump a f k).lastRead = s.lastRead := rfl
@[simp] theorem State.bump_pending (a : Nat) (f : Fld) (k : Nat) : (s.bump a f k).pending = s.pending := rfl

/-! `resetReg` -/
@[simp] theorem State.resetReg_fuse (a : Nat) : (s.resetReg a).fuse = s.fuse := rfl
@[simp] theorem State.resetReg_fresh (a : Nat) : (s.resetReg a).fresh = s.fresh := rfl
@[simp] theorem State.resetReg_mem (a : Nat) : (s.resetReg a).mem = s.mem := rfl
@[simp] theorem State.resetReg_memPoison (a : Nat) : (s.resetReg a).memPoison = s.memPoison := rfl
@[simp] theorem State.resetReg_cores (a : Nat) : (s.resetReg a).cores = s.cores := rfl
@[simp] theorem State.resetReg_slices (a : Nat) : (s.resetReg a).slices = s.slices := rfl
@[simp] theorem State.resetReg_tileMnt (a : Nat) : (s.resetReg a).tileMnt = s.tileMnt := rfl
@[simp] theorem State.resetReg_decode (a : Nat) : (s.resetReg a).decode = s.decode := rfl
@[simp] theorem State.resetReg_net (a : Nat) : (s.resetReg a).net = s.net := rfl
@[simp] theorem State.resetReg_endpoints (a : Nat) : (s.resetReg a).endpoints = s.endpoints := rfl
@[simp] theorem State.resetReg_links (a : Nat) : (s.resetReg a).links = s.links := rfl
@[simp] theorem State.resetReg_routers (a : Nat) : (s.resetReg a).routers = s.routers := rfl
@[simp] theorem State.resetReg_partEbb (a : Nat) : (s.resetReg a).partEbb = s.partEbb := rfl
@[simp] theorem State.resetReg_chans (a : Nat) : (s.resetReg a).chans = s.chans := rfl
@[simp] theorem State.resetReg_memTok (a : Nat) : (s.resetReg a).memTok = s.memTok := rfl
@[simp] theorem State.resetReg_time (a : Nat) : (s.resetReg a).time = s.time := rfl
@[simp] theorem State.resetReg_lanes (a : Nat) : (s.resetReg a).lanes = s.lanes := rfl
@[simp] theorem State.resetReg_fast (a : Nat) : (s.resetReg a).fast = s.fast := rfl
@[simp] theorem State.resetReg_stns (a : Nat) : (s.resetReg a).stns = s.stns := rfl
@[simp] theorem State.resetReg_imgs (a : Nat) : (s.resetReg a).imgs = s.imgs := rfl
@[simp] theorem State.resetReg_tabs (a : Nat) : (s.resetReg a).tabs = s.tabs := rfl
@[simp] theorem State.resetReg_fes (a : Nat) : (s.resetReg a).fes = s.fes := rfl
@[simp] theorem State.resetReg_fns (a : Nat) : (s.resetReg a).fns = s.fns := rfl
@[simp] theorem State.resetReg_ldls (a : Nat) : (s.resetReg a).ldls = s.ldls := rfl
@[simp] theorem State.resetReg_ldlEngs (a : Nat) : (s.resetReg a).ldlEngs = s.ldlEngs := rfl
@[simp] theorem State.resetReg_pwr (a : Nat) : (s.resetReg a).pwr = s.pwr := rfl
@[simp] theorem State.resetReg_svc (a : Nat) : (s.resetReg a).svc = s.svc := rfl
@[simp] theorem State.resetReg_hif (a : Nat) : (s.resetReg a).hif = s.hif := rfl
@[simp] theorem State.resetReg_ident (a : Nat) : (s.resetReg a).ident = s.ident := rfl
@[simp] theorem State.resetReg_tap (a : Nat) : (s.resetReg a).tap = s.tap := rfl
@[simp] theorem State.resetReg_dist (a : Nat) : (s.resetReg a).dist = s.dist := rfl
@[simp] theorem State.resetReg_retainPrst (a : Nat) : (s.resetReg a).retainPrst = s.retainPrst := rfl
@[simp] theorem State.resetReg_errq (a : Nat) : (s.resetReg a).errq = s.errq := rfl
@[simp] theorem State.resetReg_errlog (a : Nat) : (s.resetReg a).errlog = s.errlog := rfl
@[simp] theorem State.resetReg_lastRead (a : Nat) : (s.resetReg a).lastRead = s.lastRead := rfl
@[simp] theorem State.resetReg_pending (a : Nat) : (s.resetReg a).pending = s.pending := rfl

/-! `writeReg` -/
@[simp] theorem State.writeReg_fuse (off width : Nat) (v : Word) : (s.writeReg off width v).fuse = s.fuse := rfl
@[simp] theorem State.writeReg_fresh (off width : Nat) (v : Word) : (s.writeReg off width v).fresh = s.fresh := rfl
@[simp] theorem State.writeReg_mem (off width : Nat) (v : Word) : (s.writeReg off width v).mem = s.mem := rfl
@[simp] theorem State.writeReg_memPoison (off width : Nat) (v : Word) : (s.writeReg off width v).memPoison = s.memPoison := rfl
@[simp] theorem State.writeReg_cores (off width : Nat) (v : Word) : (s.writeReg off width v).cores = s.cores := rfl
@[simp] theorem State.writeReg_slices (off width : Nat) (v : Word) : (s.writeReg off width v).slices = s.slices := rfl
@[simp] theorem State.writeReg_tileMnt (off width : Nat) (v : Word) : (s.writeReg off width v).tileMnt = s.tileMnt := rfl
@[simp] theorem State.writeReg_decode (off width : Nat) (v : Word) : (s.writeReg off width v).decode = s.decode := rfl
@[simp] theorem State.writeReg_net (off width : Nat) (v : Word) : (s.writeReg off width v).net = s.net := rfl
@[simp] theorem State.writeReg_endpoints (off width : Nat) (v : Word) : (s.writeReg off width v).endpoints = s.endpoints := rfl
@[simp] theorem State.writeReg_links (off width : Nat) (v : Word) : (s.writeReg off width v).links = s.links := rfl
@[simp] theorem State.writeReg_routers (off width : Nat) (v : Word) : (s.writeReg off width v).routers = s.routers := rfl
@[simp] theorem State.writeReg_partEbb (off width : Nat) (v : Word) : (s.writeReg off width v).partEbb = s.partEbb := rfl
@[simp] theorem State.writeReg_chans (off width : Nat) (v : Word) : (s.writeReg off width v).chans = s.chans := rfl
@[simp] theorem State.writeReg_memTok (off width : Nat) (v : Word) : (s.writeReg off width v).memTok = s.memTok := rfl
@[simp] theorem State.writeReg_time (off width : Nat) (v : Word) : (s.writeReg off width v).time = s.time := rfl
@[simp] theorem State.writeReg_lanes (off width : Nat) (v : Word) : (s.writeReg off width v).lanes = s.lanes := rfl
@[simp] theorem State.writeReg_fast (off width : Nat) (v : Word) : (s.writeReg off width v).fast = s.fast := rfl
@[simp] theorem State.writeReg_stns (off width : Nat) (v : Word) : (s.writeReg off width v).stns = s.stns := rfl
@[simp] theorem State.writeReg_imgs (off width : Nat) (v : Word) : (s.writeReg off width v).imgs = s.imgs := rfl
@[simp] theorem State.writeReg_tabs (off width : Nat) (v : Word) : (s.writeReg off width v).tabs = s.tabs := rfl
@[simp] theorem State.writeReg_fes (off width : Nat) (v : Word) : (s.writeReg off width v).fes = s.fes := rfl
@[simp] theorem State.writeReg_fns (off width : Nat) (v : Word) : (s.writeReg off width v).fns = s.fns := rfl
@[simp] theorem State.writeReg_ldls (off width : Nat) (v : Word) : (s.writeReg off width v).ldls = s.ldls := rfl
@[simp] theorem State.writeReg_ldlEngs (off width : Nat) (v : Word) : (s.writeReg off width v).ldlEngs = s.ldlEngs := rfl
@[simp] theorem State.writeReg_pwr (off width : Nat) (v : Word) : (s.writeReg off width v).pwr = s.pwr := rfl
@[simp] theorem State.writeReg_svc (off width : Nat) (v : Word) : (s.writeReg off width v).svc = s.svc := rfl
@[simp] theorem State.writeReg_hif (off width : Nat) (v : Word) : (s.writeReg off width v).hif = s.hif := rfl
@[simp] theorem State.writeReg_ident (off width : Nat) (v : Word) : (s.writeReg off width v).ident = s.ident := rfl
@[simp] theorem State.writeReg_tap (off width : Nat) (v : Word) : (s.writeReg off width v).tap = s.tap := rfl
@[simp] theorem State.writeReg_dist (off width : Nat) (v : Word) : (s.writeReg off width v).dist = s.dist := rfl
@[simp] theorem State.writeReg_retainPrst (off width : Nat) (v : Word) : (s.writeReg off width v).retainPrst = s.retainPrst := rfl
@[simp] theorem State.writeReg_errq (off width : Nat) (v : Word) : (s.writeReg off width v).errq = s.errq := rfl
@[simp] theorem State.writeReg_errlog (off width : Nat) (v : Word) : (s.writeReg off width v).errlog = s.errlog := rfl
@[simp] theorem State.writeReg_lastRead (off width : Nat) (v : Word) : (s.writeReg off width v).lastRead = s.lastRead := rfl
@[simp] theorem State.writeReg_pending (off width : Nat) (v : Word) : (s.writeReg off width v).pending = s.pending := rfl

/-! `setCore` -/
@[simp] theorem State.setCore_fuse (n : Nat) (c : Core) : (s.setCore n c).fuse = s.fuse := rfl
@[simp] theorem State.setCore_fresh (n : Nat) (c : Core) : (s.setCore n c).fresh = s.fresh := rfl
@[simp] theorem State.setCore_regs (n : Nat) (c : Core) : (s.setCore n c).regs = s.regs := rfl
@[simp] theorem State.setCore_mem (n : Nat) (c : Core) : (s.setCore n c).mem = s.mem := rfl
@[simp] theorem State.setCore_memPoison (n : Nat) (c : Core) : (s.setCore n c).memPoison = s.memPoison := rfl
@[simp] theorem State.setCore_slices (n : Nat) (c : Core) : (s.setCore n c).slices = s.slices := rfl
@[simp] theorem State.setCore_tileMnt (n : Nat) (c : Core) : (s.setCore n c).tileMnt = s.tileMnt := rfl
@[simp] theorem State.setCore_decode (n : Nat) (c : Core) : (s.setCore n c).decode = s.decode := rfl
@[simp] theorem State.setCore_net (n : Nat) (c : Core) : (s.setCore n c).net = s.net := rfl
@[simp] theorem State.setCore_endpoints (n : Nat) (c : Core) : (s.setCore n c).endpoints = s.endpoints := rfl
@[simp] theorem State.setCore_links (n : Nat) (c : Core) : (s.setCore n c).links = s.links := rfl
@[simp] theorem State.setCore_routers (n : Nat) (c : Core) : (s.setCore n c).routers = s.routers := rfl
@[simp] theorem State.setCore_partEbb (n : Nat) (c : Core) : (s.setCore n c).partEbb = s.partEbb := rfl
@[simp] theorem State.setCore_chans (n : Nat) (c : Core) : (s.setCore n c).chans = s.chans := rfl
@[simp] theorem State.setCore_memTok (n : Nat) (c : Core) : (s.setCore n c).memTok = s.memTok := rfl
@[simp] theorem State.setCore_time (n : Nat) (c : Core) : (s.setCore n c).time = s.time := rfl
@[simp] theorem State.setCore_lanes (n : Nat) (c : Core) : (s.setCore n c).lanes = s.lanes := rfl
@[simp] theorem State.setCore_fast (n : Nat) (c : Core) : (s.setCore n c).fast = s.fast := rfl
@[simp] theorem State.setCore_stns (n : Nat) (c : Core) : (s.setCore n c).stns = s.stns := rfl
@[simp] theorem State.setCore_imgs (n : Nat) (c : Core) : (s.setCore n c).imgs = s.imgs := rfl
@[simp] theorem State.setCore_tabs (n : Nat) (c : Core) : (s.setCore n c).tabs = s.tabs := rfl
@[simp] theorem State.setCore_fes (n : Nat) (c : Core) : (s.setCore n c).fes = s.fes := rfl
@[simp] theorem State.setCore_fns (n : Nat) (c : Core) : (s.setCore n c).fns = s.fns := rfl
@[simp] theorem State.setCore_ldls (n : Nat) (c : Core) : (s.setCore n c).ldls = s.ldls := rfl
@[simp] theorem State.setCore_ldlEngs (n : Nat) (c : Core) : (s.setCore n c).ldlEngs = s.ldlEngs := rfl
@[simp] theorem State.setCore_pwr (n : Nat) (c : Core) : (s.setCore n c).pwr = s.pwr := rfl
@[simp] theorem State.setCore_svc (n : Nat) (c : Core) : (s.setCore n c).svc = s.svc := rfl
@[simp] theorem State.setCore_hif (n : Nat) (c : Core) : (s.setCore n c).hif = s.hif := rfl
@[simp] theorem State.setCore_ident (n : Nat) (c : Core) : (s.setCore n c).ident = s.ident := rfl
@[simp] theorem State.setCore_tap (n : Nat) (c : Core) : (s.setCore n c).tap = s.tap := rfl
@[simp] theorem State.setCore_dist (n : Nat) (c : Core) : (s.setCore n c).dist = s.dist := rfl
@[simp] theorem State.setCore_retainPrst (n : Nat) (c : Core) : (s.setCore n c).retainPrst = s.retainPrst := rfl
@[simp] theorem State.setCore_errq (n : Nat) (c : Core) : (s.setCore n c).errq = s.errq := rfl
@[simp] theorem State.setCore_errlog (n : Nat) (c : Core) : (s.setCore n c).errlog = s.errlog := rfl
@[simp] theorem State.setCore_lastRead (n : Nat) (c : Core) : (s.setCore n c).lastRead = s.lastRead := rfl
@[simp] theorem State.setCore_pending (n : Nat) (c : Core) : (s.setCore n c).pending = s.pending := rfl

/-! `modCore` -/
@[simp] theorem State.modCore_fuse (n : Nat) (f : Core → Core) : (s.modCore n f).fuse = s.fuse := rfl
@[simp] theorem State.modCore_fresh (n : Nat) (f : Core → Core) : (s.modCore n f).fresh = s.fresh := rfl
@[simp] theorem State.modCore_regs (n : Nat) (f : Core → Core) : (s.modCore n f).regs = s.regs := rfl
@[simp] theorem State.modCore_mem (n : Nat) (f : Core → Core) : (s.modCore n f).mem = s.mem := rfl
@[simp] theorem State.modCore_memPoison (n : Nat) (f : Core → Core) : (s.modCore n f).memPoison = s.memPoison := rfl
@[simp] theorem State.modCore_slices (n : Nat) (f : Core → Core) : (s.modCore n f).slices = s.slices := rfl
@[simp] theorem State.modCore_tileMnt (n : Nat) (f : Core → Core) : (s.modCore n f).tileMnt = s.tileMnt := rfl
@[simp] theorem State.modCore_decode (n : Nat) (f : Core → Core) : (s.modCore n f).decode = s.decode := rfl
@[simp] theorem State.modCore_net (n : Nat) (f : Core → Core) : (s.modCore n f).net = s.net := rfl
@[simp] theorem State.modCore_endpoints (n : Nat) (f : Core → Core) : (s.modCore n f).endpoints = s.endpoints := rfl
@[simp] theorem State.modCore_links (n : Nat) (f : Core → Core) : (s.modCore n f).links = s.links := rfl
@[simp] theorem State.modCore_routers (n : Nat) (f : Core → Core) : (s.modCore n f).routers = s.routers := rfl
@[simp] theorem State.modCore_partEbb (n : Nat) (f : Core → Core) : (s.modCore n f).partEbb = s.partEbb := rfl
@[simp] theorem State.modCore_chans (n : Nat) (f : Core → Core) : (s.modCore n f).chans = s.chans := rfl
@[simp] theorem State.modCore_memTok (n : Nat) (f : Core → Core) : (s.modCore n f).memTok = s.memTok := rfl
@[simp] theorem State.modCore_time (n : Nat) (f : Core → Core) : (s.modCore n f).time = s.time := rfl
@[simp] theorem State.modCore_lanes (n : Nat) (f : Core → Core) : (s.modCore n f).lanes = s.lanes := rfl
@[simp] theorem State.modCore_fast (n : Nat) (f : Core → Core) : (s.modCore n f).fast = s.fast := rfl
@[simp] theorem State.modCore_stns (n : Nat) (f : Core → Core) : (s.modCore n f).stns = s.stns := rfl
@[simp] theorem State.modCore_imgs (n : Nat) (f : Core → Core) : (s.modCore n f).imgs = s.imgs := rfl
@[simp] theorem State.modCore_tabs (n : Nat) (f : Core → Core) : (s.modCore n f).tabs = s.tabs := rfl
@[simp] theorem State.modCore_fes (n : Nat) (f : Core → Core) : (s.modCore n f).fes = s.fes := rfl
@[simp] theorem State.modCore_fns (n : Nat) (f : Core → Core) : (s.modCore n f).fns = s.fns := rfl
@[simp] theorem State.modCore_ldls (n : Nat) (f : Core → Core) : (s.modCore n f).ldls = s.ldls := rfl
@[simp] theorem State.modCore_ldlEngs (n : Nat) (f : Core → Core) : (s.modCore n f).ldlEngs = s.ldlEngs := rfl
@[simp] theorem State.modCore_pwr (n : Nat) (f : Core → Core) : (s.modCore n f).pwr = s.pwr := rfl
@[simp] theorem State.modCore_svc (n : Nat) (f : Core → Core) : (s.modCore n f).svc = s.svc := rfl
@[simp] theorem State.modCore_hif (n : Nat) (f : Core → Core) : (s.modCore n f).hif = s.hif := rfl
@[simp] theorem State.modCore_ident (n : Nat) (f : Core → Core) : (s.modCore n f).ident = s.ident := rfl
@[simp] theorem State.modCore_tap (n : Nat) (f : Core → Core) : (s.modCore n f).tap = s.tap := rfl
@[simp] theorem State.modCore_dist (n : Nat) (f : Core → Core) : (s.modCore n f).dist = s.dist := rfl
@[simp] theorem State.modCore_retainPrst (n : Nat) (f : Core → Core) : (s.modCore n f).retainPrst = s.retainPrst := rfl
@[simp] theorem State.modCore_errq (n : Nat) (f : Core → Core) : (s.modCore n f).errq = s.errq := rfl
@[simp] theorem State.modCore_errlog (n : Nat) (f : Core → Core) : (s.modCore n f).errlog = s.errlog := rfl
@[simp] theorem State.modCore_lastRead (n : Nat) (f : Core → Core) : (s.modCore n f).lastRead = s.lastRead := rfl
@[simp] theorem State.modCore_pending (n : Nat) (f : Core → Core) : (s.modCore n f).pending = s.pending := rfl

/-! `setSlice` -/
@[simp] theorem State.setSlice_fuse (t : Nat) (x : Slice) : (s.setSlice t x).fuse = s.fuse := rfl
@[simp] theorem State.setSlice_fresh (t : Nat) (x : Slice) : (s.setSlice t x).fresh = s.fresh := rfl
@[simp] theorem State.setSlice_regs (t : Nat) (x : Slice) : (s.setSlice t x).regs = s.regs := rfl
@[simp] theorem State.setSlice_mem (t : Nat) (x : Slice) : (s.setSlice t x).mem = s.mem := rfl
@[simp] theorem State.setSlice_memPoison (t : Nat) (x : Slice) : (s.setSlice t x).memPoison = s.memPoison := rfl
@[simp] theorem State.setSlice_cores (t : Nat) (x : Slice) : (s.setSlice t x).cores = s.cores := rfl
@[simp] theorem State.setSlice_tileMnt (t : Nat) (x : Slice) : (s.setSlice t x).tileMnt = s.tileMnt := rfl
@[simp] theorem State.setSlice_decode (t : Nat) (x : Slice) : (s.setSlice t x).decode = s.decode := rfl
@[simp] theorem State.setSlice_net (t : Nat) (x : Slice) : (s.setSlice t x).net = s.net := rfl
@[simp] theorem State.setSlice_endpoints (t : Nat) (x : Slice) : (s.setSlice t x).endpoints = s.endpoints := rfl
@[simp] theorem State.setSlice_links (t : Nat) (x : Slice) : (s.setSlice t x).links = s.links := rfl
@[simp] theorem State.setSlice_routers (t : Nat) (x : Slice) : (s.setSlice t x).routers = s.routers := rfl
@[simp] theorem State.setSlice_partEbb (t : Nat) (x : Slice) : (s.setSlice t x).partEbb = s.partEbb := rfl
@[simp] theorem State.setSlice_chans (t : Nat) (x : Slice) : (s.setSlice t x).chans = s.chans := rfl
@[simp] theorem State.setSlice_memTok (t : Nat) (x : Slice) : (s.setSlice t x).memTok = s.memTok := rfl
@[simp] theorem State.setSlice_time (t : Nat) (x : Slice) : (s.setSlice t x).time = s.time := rfl
@[simp] theorem State.setSlice_lanes (t : Nat) (x : Slice) : (s.setSlice t x).lanes = s.lanes := rfl
@[simp] theorem State.setSlice_fast (t : Nat) (x : Slice) : (s.setSlice t x).fast = s.fast := rfl
@[simp] theorem State.setSlice_stns (t : Nat) (x : Slice) : (s.setSlice t x).stns = s.stns := rfl
@[simp] theorem State.setSlice_imgs (t : Nat) (x : Slice) : (s.setSlice t x).imgs = s.imgs := rfl
@[simp] theorem State.setSlice_tabs (t : Nat) (x : Slice) : (s.setSlice t x).tabs = s.tabs := rfl
@[simp] theorem State.setSlice_fes (t : Nat) (x : Slice) : (s.setSlice t x).fes = s.fes := rfl
@[simp] theorem State.setSlice_fns (t : Nat) (x : Slice) : (s.setSlice t x).fns = s.fns := rfl
@[simp] theorem State.setSlice_ldls (t : Nat) (x : Slice) : (s.setSlice t x).ldls = s.ldls := rfl
@[simp] theorem State.setSlice_ldlEngs (t : Nat) (x : Slice) : (s.setSlice t x).ldlEngs = s.ldlEngs := rfl
@[simp] theorem State.setSlice_pwr (t : Nat) (x : Slice) : (s.setSlice t x).pwr = s.pwr := rfl
@[simp] theorem State.setSlice_svc (t : Nat) (x : Slice) : (s.setSlice t x).svc = s.svc := rfl
@[simp] theorem State.setSlice_hif (t : Nat) (x : Slice) : (s.setSlice t x).hif = s.hif := rfl
@[simp] theorem State.setSlice_ident (t : Nat) (x : Slice) : (s.setSlice t x).ident = s.ident := rfl
@[simp] theorem State.setSlice_tap (t : Nat) (x : Slice) : (s.setSlice t x).tap = s.tap := rfl
@[simp] theorem State.setSlice_dist (t : Nat) (x : Slice) : (s.setSlice t x).dist = s.dist := rfl
@[simp] theorem State.setSlice_retainPrst (t : Nat) (x : Slice) : (s.setSlice t x).retainPrst = s.retainPrst := rfl
@[simp] theorem State.setSlice_errq (t : Nat) (x : Slice) : (s.setSlice t x).errq = s.errq := rfl
@[simp] theorem State.setSlice_errlog (t : Nat) (x : Slice) : (s.setSlice t x).errlog = s.errlog := rfl
@[simp] theorem State.setSlice_lastRead (t : Nat) (x : Slice) : (s.setSlice t x).lastRead = s.lastRead := rfl
@[simp] theorem State.setSlice_pending (t : Nat) (x : Slice) : (s.setSlice t x).pending = s.pending := rfl

/-! `modSlice` -/
@[simp] theorem State.modSlice_fuse (t : Nat) (f : Slice → Slice) : (s.modSlice t f).fuse = s.fuse := rfl
@[simp] theorem State.modSlice_fresh (t : Nat) (f : Slice → Slice) : (s.modSlice t f).fresh = s.fresh := rfl
@[simp] theorem State.modSlice_regs (t : Nat) (f : Slice → Slice) : (s.modSlice t f).regs = s.regs := rfl
@[simp] theorem State.modSlice_mem (t : Nat) (f : Slice → Slice) : (s.modSlice t f).mem = s.mem := rfl
@[simp] theorem State.modSlice_memPoison (t : Nat) (f : Slice → Slice) : (s.modSlice t f).memPoison = s.memPoison := rfl
@[simp] theorem State.modSlice_cores (t : Nat) (f : Slice → Slice) : (s.modSlice t f).cores = s.cores := rfl
@[simp] theorem State.modSlice_tileMnt (t : Nat) (f : Slice → Slice) : (s.modSlice t f).tileMnt = s.tileMnt := rfl
@[simp] theorem State.modSlice_decode (t : Nat) (f : Slice → Slice) : (s.modSlice t f).decode = s.decode := rfl
@[simp] theorem State.modSlice_net (t : Nat) (f : Slice → Slice) : (s.modSlice t f).net = s.net := rfl
@[simp] theorem State.modSlice_endpoints (t : Nat) (f : Slice → Slice) : (s.modSlice t f).endpoints = s.endpoints := rfl
@[simp] theorem State.modSlice_links (t : Nat) (f : Slice → Slice) : (s.modSlice t f).links = s.links := rfl
@[simp] theorem State.modSlice_routers (t : Nat) (f : Slice → Slice) : (s.modSlice t f).routers = s.routers := rfl
@[simp] theorem State.modSlice_partEbb (t : Nat) (f : Slice → Slice) : (s.modSlice t f).partEbb = s.partEbb := rfl
@[simp] theorem State.modSlice_chans (t : Nat) (f : Slice → Slice) : (s.modSlice t f).chans = s.chans := rfl
@[simp] theorem State.modSlice_memTok (t : Nat) (f : Slice → Slice) : (s.modSlice t f).memTok = s.memTok := rfl
@[simp] theorem State.modSlice_time (t : Nat) (f : Slice → Slice) : (s.modSlice t f).time = s.time := rfl
@[simp] theorem State.modSlice_lanes (t : Nat) (f : Slice → Slice) : (s.modSlice t f).lanes = s.lanes := rfl
@[simp] theorem State.modSlice_fast (t : Nat) (f : Slice → Slice) : (s.modSlice t f).fast = s.fast := rfl
@[simp] theorem State.modSlice_stns (t : Nat) (f : Slice → Slice) : (s.modSlice t f).stns = s.stns := rfl
@[simp] theorem State.modSlice_imgs (t : Nat) (f : Slice → Slice) : (s.modSlice t f).imgs = s.imgs := rfl
@[simp] theorem State.modSlice_tabs (t : Nat) (f : Slice → Slice) : (s.modSlice t f).tabs = s.tabs := rfl
@[simp] theorem State.modSlice_fes (t : Nat) (f : Slice → Slice) : (s.modSlice t f).fes = s.fes := rfl
@[simp] theorem State.modSlice_fns (t : Nat) (f : Slice → Slice) : (s.modSlice t f).fns = s.fns := rfl
@[simp] theorem State.modSlice_ldls (t : Nat) (f : Slice → Slice) : (s.modSlice t f).ldls = s.ldls := rfl
@[simp] theorem State.modSlice_ldlEngs (t : Nat) (f : Slice → Slice) : (s.modSlice t f).ldlEngs = s.ldlEngs := rfl
@[simp] theorem State.modSlice_pwr (t : Nat) (f : Slice → Slice) : (s.modSlice t f).pwr = s.pwr := rfl
@[simp] theorem State.modSlice_svc (t : Nat) (f : Slice → Slice) : (s.modSlice t f).svc = s.svc := rfl
@[simp] theorem State.modSlice_hif (t : Nat) (f : Slice → Slice) : (s.modSlice t f).hif = s.hif := rfl
@[simp] theorem State.modSlice_ident (t : Nat) (f : Slice → Slice) : (s.modSlice t f).ident = s.ident := rfl
@[simp] theorem State.modSlice_tap (t : Nat) (f : Slice → Slice) : (s.modSlice t f).tap = s.tap := rfl
@[simp] theorem State.modSlice_dist (t : Nat) (f : Slice → Slice) : (s.modSlice t f).dist = s.dist := rfl
@[simp] theorem State.modSlice_retainPrst (t : Nat) (f : Slice → Slice) : (s.modSlice t f).retainPrst = s.retainPrst := rfl
@[simp] theorem State.modSlice_errq (t : Nat) (f : Slice → Slice) : (s.modSlice t f).errq = s.errq := rfl
@[simp] theorem State.modSlice_errlog (t : Nat) (f : Slice → Slice) : (s.modSlice t f).errlog = s.errlog := rfl
@[simp] theorem State.modSlice_lastRead (t : Nat) (f : Slice → Slice) : (s.modSlice t f).lastRead = s.lastRead := rfl
@[simp] theorem State.modSlice_pending (t : Nat) (f : Slice → Slice) : (s.modSlice t f).pending = s.pending := rfl

/-! `setEp` -/
@[simp] theorem State.setEp_fuse (k : Nat) (x : Endpoint) : (s.setEp k x).fuse = s.fuse := rfl
@[simp] theorem State.setEp_fresh (k : Nat) (x : Endpoint) : (s.setEp k x).fresh = s.fresh := rfl
@[simp] theorem State.setEp_regs (k : Nat) (x : Endpoint) : (s.setEp k x).regs = s.regs := rfl
@[simp] theorem State.setEp_mem (k : Nat) (x : Endpoint) : (s.setEp k x).mem = s.mem := rfl
@[simp] theorem State.setEp_memPoison (k : Nat) (x : Endpoint) : (s.setEp k x).memPoison = s.memPoison := rfl
@[simp] theorem State.setEp_cores (k : Nat) (x : Endpoint) : (s.setEp k x).cores = s.cores := rfl
@[simp] theorem State.setEp_slices (k : Nat) (x : Endpoint) : (s.setEp k x).slices = s.slices := rfl
@[simp] theorem State.setEp_tileMnt (k : Nat) (x : Endpoint) : (s.setEp k x).tileMnt = s.tileMnt := rfl
@[simp] theorem State.setEp_decode (k : Nat) (x : Endpoint) : (s.setEp k x).decode = s.decode := rfl
@[simp] theorem State.setEp_net (k : Nat) (x : Endpoint) : (s.setEp k x).net = s.net := rfl
@[simp] theorem State.setEp_links (k : Nat) (x : Endpoint) : (s.setEp k x).links = s.links := rfl
@[simp] theorem State.setEp_routers (k : Nat) (x : Endpoint) : (s.setEp k x).routers = s.routers := rfl
@[simp] theorem State.setEp_partEbb (k : Nat) (x : Endpoint) : (s.setEp k x).partEbb = s.partEbb := rfl
@[simp] theorem State.setEp_chans (k : Nat) (x : Endpoint) : (s.setEp k x).chans = s.chans := rfl
@[simp] theorem State.setEp_memTok (k : Nat) (x : Endpoint) : (s.setEp k x).memTok = s.memTok := rfl
@[simp] theorem State.setEp_time (k : Nat) (x : Endpoint) : (s.setEp k x).time = s.time := rfl
@[simp] theorem State.setEp_lanes (k : Nat) (x : Endpoint) : (s.setEp k x).lanes = s.lanes := rfl
@[simp] theorem State.setEp_fast (k : Nat) (x : Endpoint) : (s.setEp k x).fast = s.fast := rfl
@[simp] theorem State.setEp_stns (k : Nat) (x : Endpoint) : (s.setEp k x).stns = s.stns := rfl
@[simp] theorem State.setEp_imgs (k : Nat) (x : Endpoint) : (s.setEp k x).imgs = s.imgs := rfl
@[simp] theorem State.setEp_tabs (k : Nat) (x : Endpoint) : (s.setEp k x).tabs = s.tabs := rfl
@[simp] theorem State.setEp_fes (k : Nat) (x : Endpoint) : (s.setEp k x).fes = s.fes := rfl
@[simp] theorem State.setEp_fns (k : Nat) (x : Endpoint) : (s.setEp k x).fns = s.fns := rfl
@[simp] theorem State.setEp_ldls (k : Nat) (x : Endpoint) : (s.setEp k x).ldls = s.ldls := rfl
@[simp] theorem State.setEp_ldlEngs (k : Nat) (x : Endpoint) : (s.setEp k x).ldlEngs = s.ldlEngs := rfl
@[simp] theorem State.setEp_pwr (k : Nat) (x : Endpoint) : (s.setEp k x).pwr = s.pwr := rfl
@[simp] theorem State.setEp_svc (k : Nat) (x : Endpoint) : (s.setEp k x).svc = s.svc := rfl
@[simp] theorem State.setEp_hif (k : Nat) (x : Endpoint) : (s.setEp k x).hif = s.hif := rfl
@[simp] theorem State.setEp_ident (k : Nat) (x : Endpoint) : (s.setEp k x).ident = s.ident := rfl
@[simp] theorem State.setEp_tap (k : Nat) (x : Endpoint) : (s.setEp k x).tap = s.tap := rfl
@[simp] theorem State.setEp_dist (k : Nat) (x : Endpoint) : (s.setEp k x).dist = s.dist := rfl
@[simp] theorem State.setEp_retainPrst (k : Nat) (x : Endpoint) : (s.setEp k x).retainPrst = s.retainPrst := rfl
@[simp] theorem State.setEp_errq (k : Nat) (x : Endpoint) : (s.setEp k x).errq = s.errq := rfl
@[simp] theorem State.setEp_errlog (k : Nat) (x : Endpoint) : (s.setEp k x).errlog = s.errlog := rfl
@[simp] theorem State.setEp_lastRead (k : Nat) (x : Endpoint) : (s.setEp k x).lastRead = s.lastRead := rfl
@[simp] theorem State.setEp_pending (k : Nat) (x : Endpoint) : (s.setEp k x).pending = s.pending := rfl

/-! `setLink` -/
@[simp] theorem State.setLink_fuse (k : Nat) (x : Link) : (s.setLink k x).fuse = s.fuse := rfl
@[simp] theorem State.setLink_fresh (k : Nat) (x : Link) : (s.setLink k x).fresh = s.fresh := rfl
@[simp] theorem State.setLink_regs (k : Nat) (x : Link) : (s.setLink k x).regs = s.regs := rfl
@[simp] theorem State.setLink_mem (k : Nat) (x : Link) : (s.setLink k x).mem = s.mem := rfl
@[simp] theorem State.setLink_memPoison (k : Nat) (x : Link) : (s.setLink k x).memPoison = s.memPoison := rfl
@[simp] theorem State.setLink_cores (k : Nat) (x : Link) : (s.setLink k x).cores = s.cores := rfl
@[simp] theorem State.setLink_slices (k : Nat) (x : Link) : (s.setLink k x).slices = s.slices := rfl
@[simp] theorem State.setLink_tileMnt (k : Nat) (x : Link) : (s.setLink k x).tileMnt = s.tileMnt := rfl
@[simp] theorem State.setLink_decode (k : Nat) (x : Link) : (s.setLink k x).decode = s.decode := rfl
@[simp] theorem State.setLink_net (k : Nat) (x : Link) : (s.setLink k x).net = s.net := rfl
@[simp] theorem State.setLink_endpoints (k : Nat) (x : Link) : (s.setLink k x).endpoints = s.endpoints := rfl
@[simp] theorem State.setLink_routers (k : Nat) (x : Link) : (s.setLink k x).routers = s.routers := rfl
@[simp] theorem State.setLink_partEbb (k : Nat) (x : Link) : (s.setLink k x).partEbb = s.partEbb := rfl
@[simp] theorem State.setLink_chans (k : Nat) (x : Link) : (s.setLink k x).chans = s.chans := rfl
@[simp] theorem State.setLink_memTok (k : Nat) (x : Link) : (s.setLink k x).memTok = s.memTok := rfl
@[simp] theorem State.setLink_time (k : Nat) (x : Link) : (s.setLink k x).time = s.time := rfl
@[simp] theorem State.setLink_lanes (k : Nat) (x : Link) : (s.setLink k x).lanes = s.lanes := rfl
@[simp] theorem State.setLink_fast (k : Nat) (x : Link) : (s.setLink k x).fast = s.fast := rfl
@[simp] theorem State.setLink_stns (k : Nat) (x : Link) : (s.setLink k x).stns = s.stns := rfl
@[simp] theorem State.setLink_imgs (k : Nat) (x : Link) : (s.setLink k x).imgs = s.imgs := rfl
@[simp] theorem State.setLink_tabs (k : Nat) (x : Link) : (s.setLink k x).tabs = s.tabs := rfl
@[simp] theorem State.setLink_fes (k : Nat) (x : Link) : (s.setLink k x).fes = s.fes := rfl
@[simp] theorem State.setLink_fns (k : Nat) (x : Link) : (s.setLink k x).fns = s.fns := rfl
@[simp] theorem State.setLink_ldls (k : Nat) (x : Link) : (s.setLink k x).ldls = s.ldls := rfl
@[simp] theorem State.setLink_ldlEngs (k : Nat) (x : Link) : (s.setLink k x).ldlEngs = s.ldlEngs := rfl
@[simp] theorem State.setLink_pwr (k : Nat) (x : Link) : (s.setLink k x).pwr = s.pwr := rfl
@[simp] theorem State.setLink_svc (k : Nat) (x : Link) : (s.setLink k x).svc = s.svc := rfl
@[simp] theorem State.setLink_hif (k : Nat) (x : Link) : (s.setLink k x).hif = s.hif := rfl
@[simp] theorem State.setLink_ident (k : Nat) (x : Link) : (s.setLink k x).ident = s.ident := rfl
@[simp] theorem State.setLink_tap (k : Nat) (x : Link) : (s.setLink k x).tap = s.tap := rfl
@[simp] theorem State.setLink_dist (k : Nat) (x : Link) : (s.setLink k x).dist = s.dist := rfl
@[simp] theorem State.setLink_retainPrst (k : Nat) (x : Link) : (s.setLink k x).retainPrst = s.retainPrst := rfl
@[simp] theorem State.setLink_errq (k : Nat) (x : Link) : (s.setLink k x).errq = s.errq := rfl
@[simp] theorem State.setLink_errlog (k : Nat) (x : Link) : (s.setLink k x).errlog = s.errlog := rfl
@[simp] theorem State.setLink_lastRead (k : Nat) (x : Link) : (s.setLink k x).lastRead = s.lastRead := rfl
@[simp] theorem State.setLink_pending (k : Nat) (x : Link) : (s.setLink k x).pending = s.pending := rfl

/-! `setRouter` -/
@[simp] theorem State.setRouter_fuse (r : Nat) (x : Router) : (s.setRouter r x).fuse = s.fuse := rfl
@[simp] theorem State.setRouter_fresh (r : Nat) (x : Router) : (s.setRouter r x).fresh = s.fresh := rfl
@[simp] theorem State.setRouter_regs (r : Nat) (x : Router) : (s.setRouter r x).regs = s.regs := rfl
@[simp] theorem State.setRouter_mem (r : Nat) (x : Router) : (s.setRouter r x).mem = s.mem := rfl
@[simp] theorem State.setRouter_memPoison (r : Nat) (x : Router) : (s.setRouter r x).memPoison = s.memPoison := rfl
@[simp] theorem State.setRouter_cores (r : Nat) (x : Router) : (s.setRouter r x).cores = s.cores := rfl
@[simp] theorem State.setRouter_slices (r : Nat) (x : Router) : (s.setRouter r x).slices = s.slices := rfl
@[simp] theorem State.setRouter_tileMnt (r : Nat) (x : Router) : (s.setRouter r x).tileMnt = s.tileMnt := rfl
@[simp] theorem State.setRouter_decode (r : Nat) (x : Router) : (s.setRouter r x).decode = s.decode := rfl
@[simp] theorem State.setRouter_net (r : Nat) (x : Router) : (s.setRouter r x).net = s.net := rfl
@[simp] theorem State.setRouter_endpoints (r : Nat) (x : Router) : (s.setRouter r x).endpoints = s.endpoints := rfl
@[simp] theorem State.setRouter_links (r : Nat) (x : Router) : (s.setRouter r x).links = s.links := rfl
@[simp] theorem State.setRouter_partEbb (r : Nat) (x : Router) : (s.setRouter r x).partEbb = s.partEbb := rfl
@[simp] theorem State.setRouter_chans (r : Nat) (x : Router) : (s.setRouter r x).chans = s.chans := rfl
@[simp] theorem State.setRouter_memTok (r : Nat) (x : Router) : (s.setRouter r x).memTok = s.memTok := rfl
@[simp] theorem State.setRouter_time (r : Nat) (x : Router) : (s.setRouter r x).time = s.time := rfl
@[simp] theorem State.setRouter_lanes (r : Nat) (x : Router) : (s.setRouter r x).lanes = s.lanes := rfl
@[simp] theorem State.setRouter_fast (r : Nat) (x : Router) : (s.setRouter r x).fast = s.fast := rfl
@[simp] theorem State.setRouter_stns (r : Nat) (x : Router) : (s.setRouter r x).stns = s.stns := rfl
@[simp] theorem State.setRouter_imgs (r : Nat) (x : Router) : (s.setRouter r x).imgs = s.imgs := rfl
@[simp] theorem State.setRouter_tabs (r : Nat) (x : Router) : (s.setRouter r x).tabs = s.tabs := rfl
@[simp] theorem State.setRouter_fes (r : Nat) (x : Router) : (s.setRouter r x).fes = s.fes := rfl
@[simp] theorem State.setRouter_fns (r : Nat) (x : Router) : (s.setRouter r x).fns = s.fns := rfl
@[simp] theorem State.setRouter_ldls (r : Nat) (x : Router) : (s.setRouter r x).ldls = s.ldls := rfl
@[simp] theorem State.setRouter_ldlEngs (r : Nat) (x : Router) : (s.setRouter r x).ldlEngs = s.ldlEngs := rfl
@[simp] theorem State.setRouter_pwr (r : Nat) (x : Router) : (s.setRouter r x).pwr = s.pwr := rfl
@[simp] theorem State.setRouter_svc (r : Nat) (x : Router) : (s.setRouter r x).svc = s.svc := rfl
@[simp] theorem State.setRouter_hif (r : Nat) (x : Router) : (s.setRouter r x).hif = s.hif := rfl
@[simp] theorem State.setRouter_ident (r : Nat) (x : Router) : (s.setRouter r x).ident = s.ident := rfl
@[simp] theorem State.setRouter_tap (r : Nat) (x : Router) : (s.setRouter r x).tap = s.tap := rfl
@[simp] theorem State.setRouter_dist (r : Nat) (x : Router) : (s.setRouter r x).dist = s.dist := rfl
@[simp] theorem State.setRouter_retainPrst (r : Nat) (x : Router) : (s.setRouter r x).retainPrst = s.retainPrst := rfl
@[simp] theorem State.setRouter_errq (r : Nat) (x : Router) : (s.setRouter r x).errq = s.errq := rfl
@[simp] theorem State.setRouter_errlog (r : Nat) (x : Router) : (s.setRouter r x).errlog = s.errlog := rfl
@[simp] theorem State.setRouter_lastRead (r : Nat) (x : Router) : (s.setRouter r x).lastRead = s.lastRead := rfl
@[simp] theorem State.setRouter_pending (r : Nat) (x : Router) : (s.setRouter r x).pending = s.pending := rfl

/-! `setSrc` -/
@[simp] theorem State.setSrc_fuse (k : Nat) (x : Src) : (s.setSrc k x).fuse = s.fuse := rfl
@[simp] theorem State.setSrc_fresh (k : Nat) (x : Src) : (s.setSrc k x).fresh = s.fresh := rfl
@[simp] theorem State.setSrc_regs (k : Nat) (x : Src) : (s.setSrc k x).regs = s.regs := rfl
@[simp] theorem State.setSrc_mem (k : Nat) (x : Src) : (s.setSrc k x).mem = s.mem := rfl
@[simp] theorem State.setSrc_memPoison (k : Nat) (x : Src) : (s.setSrc k x).memPoison = s.memPoison := rfl
@[simp] theorem State.setSrc_cores (k : Nat) (x : Src) : (s.setSrc k x).cores = s.cores := rfl
@[simp] theorem State.setSrc_slices (k : Nat) (x : Src) : (s.setSrc k x).slices = s.slices := rfl
@[simp] theorem State.setSrc_tileMnt (k : Nat) (x : Src) : (s.setSrc k x).tileMnt = s.tileMnt := rfl
@[simp] theorem State.setSrc_decode (k : Nat) (x : Src) : (s.setSrc k x).decode = s.decode := rfl
@[simp] theorem State.setSrc_net (k : Nat) (x : Src) : (s.setSrc k x).net = s.net := rfl
@[simp] theorem State.setSrc_endpoints (k : Nat) (x : Src) : (s.setSrc k x).endpoints = s.endpoints := rfl
@[simp] theorem State.setSrc_links (k : Nat) (x : Src) : (s.setSrc k x).links = s.links := rfl
@[simp] theorem State.setSrc_routers (k : Nat) (x : Src) : (s.setSrc k x).routers = s.routers := rfl
@[simp] theorem State.setSrc_partEbb (k : Nat) (x : Src) : (s.setSrc k x).partEbb = s.partEbb := rfl
@[simp] theorem State.setSrc_chans (k : Nat) (x : Src) : (s.setSrc k x).chans = s.chans := rfl
@[simp] theorem State.setSrc_memTok (k : Nat) (x : Src) : (s.setSrc k x).memTok = s.memTok := rfl
@[simp] theorem State.setSrc_time (k : Nat) (x : Src) : (s.setSrc k x).time = s.time := rfl
@[simp] theorem State.setSrc_lanes (k : Nat) (x : Src) : (s.setSrc k x).lanes = s.lanes := rfl
@[simp] theorem State.setSrc_fast (k : Nat) (x : Src) : (s.setSrc k x).fast = s.fast := rfl
@[simp] theorem State.setSrc_stns (k : Nat) (x : Src) : (s.setSrc k x).stns = s.stns := rfl
@[simp] theorem State.setSrc_imgs (k : Nat) (x : Src) : (s.setSrc k x).imgs = s.imgs := rfl
@[simp] theorem State.setSrc_tabs (k : Nat) (x : Src) : (s.setSrc k x).tabs = s.tabs := rfl
@[simp] theorem State.setSrc_fes (k : Nat) (x : Src) : (s.setSrc k x).fes = s.fes := rfl
@[simp] theorem State.setSrc_fns (k : Nat) (x : Src) : (s.setSrc k x).fns = s.fns := rfl
@[simp] theorem State.setSrc_ldls (k : Nat) (x : Src) : (s.setSrc k x).ldls = s.ldls := rfl
@[simp] theorem State.setSrc_ldlEngs (k : Nat) (x : Src) : (s.setSrc k x).ldlEngs = s.ldlEngs := rfl
@[simp] theorem State.setSrc_pwr (k : Nat) (x : Src) : (s.setSrc k x).pwr = s.pwr := rfl
@[simp] theorem State.setSrc_svc (k : Nat) (x : Src) : (s.setSrc k x).svc = s.svc := rfl
@[simp] theorem State.setSrc_hif (k : Nat) (x : Src) : (s.setSrc k x).hif = s.hif := rfl
@[simp] theorem State.setSrc_ident (k : Nat) (x : Src) : (s.setSrc k x).ident = s.ident := rfl
@[simp] theorem State.setSrc_tap (k : Nat) (x : Src) : (s.setSrc k x).tap = s.tap := rfl
@[simp] theorem State.setSrc_retainPrst (k : Nat) (x : Src) : (s.setSrc k x).retainPrst = s.retainPrst := rfl
@[simp] theorem State.setSrc_errq (k : Nat) (x : Src) : (s.setSrc k x).errq = s.errq := rfl
@[simp] theorem State.setSrc_errlog (k : Nat) (x : Src) : (s.setSrc k x).errlog = s.errlog := rfl
@[simp] theorem State.setSrc_lastRead (k : Nat) (x : Src) : (s.setSrc k x).lastRead = s.lastRead := rfl
@[simp] theorem State.setSrc_pending (k : Nat) (x : Src) : (s.setSrc k x).pending = s.pending := rfl

/-! `modSrc` -/
@[simp] theorem State.modSrc_fuse (k : Nat) (f : Src → Src) : (s.modSrc k f).fuse = s.fuse := rfl
@[simp] theorem State.modSrc_fresh (k : Nat) (f : Src → Src) : (s.modSrc k f).fresh = s.fresh := rfl
@[simp] theorem State.modSrc_regs (k : Nat) (f : Src → Src) : (s.modSrc k f).regs = s.regs := rfl
@[simp] theorem State.modSrc_mem (k : Nat) (f : Src → Src) : (s.modSrc k f).mem = s.mem := rfl
@[simp] theorem State.modSrc_memPoison (k : Nat) (f : Src → Src) : (s.modSrc k f).memPoison = s.memPoison := rfl
@[simp] theorem State.modSrc_cores (k : Nat) (f : Src → Src) : (s.modSrc k f).cores = s.cores := rfl
@[simp] theorem State.modSrc_slices (k : Nat) (f : Src → Src) : (s.modSrc k f).slices = s.slices := rfl
@[simp] theorem State.modSrc_tileMnt (k : Nat) (f : Src → Src) : (s.modSrc k f).tileMnt = s.tileMnt := rfl
@[simp] theorem State.modSrc_decode (k : Nat) (f : Src → Src) : (s.modSrc k f).decode = s.decode := rfl
@[simp] theorem State.modSrc_net (k : Nat) (f : Src → Src) : (s.modSrc k f).net = s.net := rfl
@[simp] theorem State.modSrc_endpoints (k : Nat) (f : Src → Src) : (s.modSrc k f).endpoints = s.endpoints := rfl
@[simp] theorem State.modSrc_links (k : Nat) (f : Src → Src) : (s.modSrc k f).links = s.links := rfl
@[simp] theorem State.modSrc_routers (k : Nat) (f : Src → Src) : (s.modSrc k f).routers = s.routers := rfl
@[simp] theorem State.modSrc_partEbb (k : Nat) (f : Src → Src) : (s.modSrc k f).partEbb = s.partEbb := rfl
@[simp] theorem State.modSrc_chans (k : Nat) (f : Src → Src) : (s.modSrc k f).chans = s.chans := rfl
@[simp] theorem State.modSrc_memTok (k : Nat) (f : Src → Src) : (s.modSrc k f).memTok = s.memTok := rfl
@[simp] theorem State.modSrc_time (k : Nat) (f : Src → Src) : (s.modSrc k f).time = s.time := rfl
@[simp] theorem State.modSrc_lanes (k : Nat) (f : Src → Src) : (s.modSrc k f).lanes = s.lanes := rfl
@[simp] theorem State.modSrc_fast (k : Nat) (f : Src → Src) : (s.modSrc k f).fast = s.fast := rfl
@[simp] theorem State.modSrc_stns (k : Nat) (f : Src → Src) : (s.modSrc k f).stns = s.stns := rfl
@[simp] theorem State.modSrc_imgs (k : Nat) (f : Src → Src) : (s.modSrc k f).imgs = s.imgs := rfl
@[simp] theorem State.modSrc_tabs (k : Nat) (f : Src → Src) : (s.modSrc k f).tabs = s.tabs := rfl
@[simp] theorem State.modSrc_fes (k : Nat) (f : Src → Src) : (s.modSrc k f).fes = s.fes := rfl
@[simp] theorem State.modSrc_fns (k : Nat) (f : Src → Src) : (s.modSrc k f).fns = s.fns := rfl
@[simp] theorem State.modSrc_ldls (k : Nat) (f : Src → Src) : (s.modSrc k f).ldls = s.ldls := rfl
@[simp] theorem State.modSrc_ldlEngs (k : Nat) (f : Src → Src) : (s.modSrc k f).ldlEngs = s.ldlEngs := rfl
@[simp] theorem State.modSrc_pwr (k : Nat) (f : Src → Src) : (s.modSrc k f).pwr = s.pwr := rfl
@[simp] theorem State.modSrc_svc (k : Nat) (f : Src → Src) : (s.modSrc k f).svc = s.svc := rfl
@[simp] theorem State.modSrc_hif (k : Nat) (f : Src → Src) : (s.modSrc k f).hif = s.hif := rfl
@[simp] theorem State.modSrc_ident (k : Nat) (f : Src → Src) : (s.modSrc k f).ident = s.ident := rfl
@[simp] theorem State.modSrc_tap (k : Nat) (f : Src → Src) : (s.modSrc k f).tap = s.tap := rfl
@[simp] theorem State.modSrc_retainPrst (k : Nat) (f : Src → Src) : (s.modSrc k f).retainPrst = s.retainPrst := rfl
@[simp] theorem State.modSrc_errq (k : Nat) (f : Src → Src) : (s.modSrc k f).errq = s.errq := rfl
@[simp] theorem State.modSrc_errlog (k : Nat) (f : Src → Src) : (s.modSrc k f).errlog = s.errlog := rfl
@[simp] theorem State.modSrc_lastRead (k : Nat) (f : Src → Src) : (s.modSrc k f).lastRead = s.lastRead := rfl
@[simp] theorem State.modSrc_pending (k : Nat) (f : Src → Src) : (s.modSrc k f).pending = s.pending := rfl

/-! `setDistCore` -/
@[simp] theorem State.setDistCore_fuse (n : Nat) (x : DistCore) : (s.setDistCore n x).fuse = s.fuse := rfl
@[simp] theorem State.setDistCore_fresh (n : Nat) (x : DistCore) : (s.setDistCore n x).fresh = s.fresh := rfl
@[simp] theorem State.setDistCore_regs (n : Nat) (x : DistCore) : (s.setDistCore n x).regs = s.regs := rfl
@[simp] theorem State.setDistCore_mem (n : Nat) (x : DistCore) : (s.setDistCore n x).mem = s.mem := rfl
@[simp] theorem State.setDistCore_memPoison (n : Nat) (x : DistCore) : (s.setDistCore n x).memPoison = s.memPoison := rfl
@[simp] theorem State.setDistCore_cores (n : Nat) (x : DistCore) : (s.setDistCore n x).cores = s.cores := rfl
@[simp] theorem State.setDistCore_slices (n : Nat) (x : DistCore) : (s.setDistCore n x).slices = s.slices := rfl
@[simp] theorem State.setDistCore_tileMnt (n : Nat) (x : DistCore) : (s.setDistCore n x).tileMnt = s.tileMnt := rfl
@[simp] theorem State.setDistCore_decode (n : Nat) (x : DistCore) : (s.setDistCore n x).decode = s.decode := rfl
@[simp] theorem State.setDistCore_net (n : Nat) (x : DistCore) : (s.setDistCore n x).net = s.net := rfl
@[simp] theorem State.setDistCore_endpoints (n : Nat) (x : DistCore) : (s.setDistCore n x).endpoints = s.endpoints := rfl
@[simp] theorem State.setDistCore_links (n : Nat) (x : DistCore) : (s.setDistCore n x).links = s.links := rfl
@[simp] theorem State.setDistCore_routers (n : Nat) (x : DistCore) : (s.setDistCore n x).routers = s.routers := rfl
@[simp] theorem State.setDistCore_partEbb (n : Nat) (x : DistCore) : (s.setDistCore n x).partEbb = s.partEbb := rfl
@[simp] theorem State.setDistCore_chans (n : Nat) (x : DistCore) : (s.setDistCore n x).chans = s.chans := rfl
@[simp] theorem State.setDistCore_memTok (n : Nat) (x : DistCore) : (s.setDistCore n x).memTok = s.memTok := rfl
@[simp] theorem State.setDistCore_time (n : Nat) (x : DistCore) : (s.setDistCore n x).time = s.time := rfl
@[simp] theorem State.setDistCore_lanes (n : Nat) (x : DistCore) : (s.setDistCore n x).lanes = s.lanes := rfl
@[simp] theorem State.setDistCore_fast (n : Nat) (x : DistCore) : (s.setDistCore n x).fast = s.fast := rfl
@[simp] theorem State.setDistCore_stns (n : Nat) (x : DistCore) : (s.setDistCore n x).stns = s.stns := rfl
@[simp] theorem State.setDistCore_imgs (n : Nat) (x : DistCore) : (s.setDistCore n x).imgs = s.imgs := rfl
@[simp] theorem State.setDistCore_tabs (n : Nat) (x : DistCore) : (s.setDistCore n x).tabs = s.tabs := rfl
@[simp] theorem State.setDistCore_fes (n : Nat) (x : DistCore) : (s.setDistCore n x).fes = s.fes := rfl
@[simp] theorem State.setDistCore_fns (n : Nat) (x : DistCore) : (s.setDistCore n x).fns = s.fns := rfl
@[simp] theorem State.setDistCore_ldls (n : Nat) (x : DistCore) : (s.setDistCore n x).ldls = s.ldls := rfl
@[simp] theorem State.setDistCore_ldlEngs (n : Nat) (x : DistCore) : (s.setDistCore n x).ldlEngs = s.ldlEngs := rfl
@[simp] theorem State.setDistCore_pwr (n : Nat) (x : DistCore) : (s.setDistCore n x).pwr = s.pwr := rfl
@[simp] theorem State.setDistCore_svc (n : Nat) (x : DistCore) : (s.setDistCore n x).svc = s.svc := rfl
@[simp] theorem State.setDistCore_hif (n : Nat) (x : DistCore) : (s.setDistCore n x).hif = s.hif := rfl
@[simp] theorem State.setDistCore_ident (n : Nat) (x : DistCore) : (s.setDistCore n x).ident = s.ident := rfl
@[simp] theorem State.setDistCore_tap (n : Nat) (x : DistCore) : (s.setDistCore n x).tap = s.tap := rfl
@[simp] theorem State.setDistCore_retainPrst (n : Nat) (x : DistCore) : (s.setDistCore n x).retainPrst = s.retainPrst := rfl
@[simp] theorem State.setDistCore_errq (n : Nat) (x : DistCore) : (s.setDistCore n x).errq = s.errq := rfl
@[simp] theorem State.setDistCore_errlog (n : Nat) (x : DistCore) : (s.setDistCore n x).errlog = s.errlog := rfl
@[simp] theorem State.setDistCore_lastRead (n : Nat) (x : DistCore) : (s.setDistCore n x).lastRead = s.lastRead := rfl
@[simp] theorem State.setDistCore_pending (n : Nat) (x : DistCore) : (s.setDistCore n x).pending = s.pending := rfl

/-! `send` -/
@[simp] theorem State.send_fuse (m : Msg) : (s.send m).fuse = s.fuse := rfl
@[simp] theorem State.send_fresh (m : Msg) : (s.send m).fresh = s.fresh := rfl
@[simp] theorem State.send_regs (m : Msg) : (s.send m).regs = s.regs := rfl
@[simp] theorem State.send_mem (m : Msg) : (s.send m).mem = s.mem := rfl
@[simp] theorem State.send_memPoison (m : Msg) : (s.send m).memPoison = s.memPoison := rfl
@[simp] theorem State.send_cores (m : Msg) : (s.send m).cores = s.cores := rfl
@[simp] theorem State.send_slices (m : Msg) : (s.send m).slices = s.slices := rfl
@[simp] theorem State.send_tileMnt (m : Msg) : (s.send m).tileMnt = s.tileMnt := rfl
@[simp] theorem State.send_decode (m : Msg) : (s.send m).decode = s.decode := rfl
@[simp] theorem State.send_endpoints (m : Msg) : (s.send m).endpoints = s.endpoints := rfl
@[simp] theorem State.send_links (m : Msg) : (s.send m).links = s.links := rfl
@[simp] theorem State.send_routers (m : Msg) : (s.send m).routers = s.routers := rfl
@[simp] theorem State.send_partEbb (m : Msg) : (s.send m).partEbb = s.partEbb := rfl
@[simp] theorem State.send_chans (m : Msg) : (s.send m).chans = s.chans := rfl
@[simp] theorem State.send_memTok (m : Msg) : (s.send m).memTok = s.memTok := rfl
@[simp] theorem State.send_time (m : Msg) : (s.send m).time = s.time := rfl
@[simp] theorem State.send_lanes (m : Msg) : (s.send m).lanes = s.lanes := rfl
@[simp] theorem State.send_fast (m : Msg) : (s.send m).fast = s.fast := rfl
@[simp] theorem State.send_stns (m : Msg) : (s.send m).stns = s.stns := rfl
@[simp] theorem State.send_imgs (m : Msg) : (s.send m).imgs = s.imgs := rfl
@[simp] theorem State.send_tabs (m : Msg) : (s.send m).tabs = s.tabs := rfl
@[simp] theorem State.send_fes (m : Msg) : (s.send m).fes = s.fes := rfl
@[simp] theorem State.send_fns (m : Msg) : (s.send m).fns = s.fns := rfl
@[simp] theorem State.send_ldls (m : Msg) : (s.send m).ldls = s.ldls := rfl
@[simp] theorem State.send_ldlEngs (m : Msg) : (s.send m).ldlEngs = s.ldlEngs := rfl
@[simp] theorem State.send_pwr (m : Msg) : (s.send m).pwr = s.pwr := rfl
@[simp] theorem State.send_svc (m : Msg) : (s.send m).svc = s.svc := rfl
@[simp] theorem State.send_hif (m : Msg) : (s.send m).hif = s.hif := rfl
@[simp] theorem State.send_ident (m : Msg) : (s.send m).ident = s.ident := rfl
@[simp] theorem State.send_tap (m : Msg) : (s.send m).tap = s.tap := rfl
@[simp] theorem State.send_dist (m : Msg) : (s.send m).dist = s.dist := rfl
@[simp] theorem State.send_retainPrst (m : Msg) : (s.send m).retainPrst = s.retainPrst := rfl
@[simp] theorem State.send_errq (m : Msg) : (s.send m).errq = s.errq := rfl
@[simp] theorem State.send_errlog (m : Msg) : (s.send m).errlog = s.errlog := rfl
@[simp] theorem State.send_lastRead (m : Msg) : (s.send m).lastRead = s.lastRead := rfl
@[simp] theorem State.send_pending (m : Msg) : (s.send m).pending = s.pending := rfl

/-! `sendAll` -/
@[simp] theorem State.sendAll_fuse (l : List Msg) : (s.sendAll l).fuse = s.fuse := rfl
@[simp] theorem State.sendAll_fresh (l : List Msg) : (s.sendAll l).fresh = s.fresh := rfl
@[simp] theorem State.sendAll_regs (l : List Msg) : (s.sendAll l).regs = s.regs := rfl
@[simp] theorem State.sendAll_mem (l : List Msg) : (s.sendAll l).mem = s.mem := rfl
@[simp] theorem State.sendAll_memPoison (l : List Msg) : (s.sendAll l).memPoison = s.memPoison := rfl
@[simp] theorem State.sendAll_cores (l : List Msg) : (s.sendAll l).cores = s.cores := rfl
@[simp] theorem State.sendAll_slices (l : List Msg) : (s.sendAll l).slices = s.slices := rfl
@[simp] theorem State.sendAll_tileMnt (l : List Msg) : (s.sendAll l).tileMnt = s.tileMnt := rfl
@[simp] theorem State.sendAll_decode (l : List Msg) : (s.sendAll l).decode = s.decode := rfl
@[simp] theorem State.sendAll_endpoints (l : List Msg) : (s.sendAll l).endpoints = s.endpoints := rfl
@[simp] theorem State.sendAll_links (l : List Msg) : (s.sendAll l).links = s.links := rfl
@[simp] theorem State.sendAll_routers (l : List Msg) : (s.sendAll l).routers = s.routers := rfl
@[simp] theorem State.sendAll_partEbb (l : List Msg) : (s.sendAll l).partEbb = s.partEbb := rfl
@[simp] theorem State.sendAll_chans (l : List Msg) : (s.sendAll l).chans = s.chans := rfl
@[simp] theorem State.sendAll_memTok (l : List Msg) : (s.sendAll l).memTok = s.memTok := rfl
@[simp] theorem State.sendAll_time (l : List Msg) : (s.sendAll l).time = s.time := rfl
@[simp] theorem State.sendAll_lanes (l : List Msg) : (s.sendAll l).lanes = s.lanes := rfl
@[simp] theorem State.sendAll_fast (l : List Msg) : (s.sendAll l).fast = s.fast := rfl
@[simp] theorem State.sendAll_stns (l : List Msg) : (s.sendAll l).stns = s.stns := rfl
@[simp] theorem State.sendAll_imgs (l : List Msg) : (s.sendAll l).imgs = s.imgs := rfl
@[simp] theorem State.sendAll_tabs (l : List Msg) : (s.sendAll l).tabs = s.tabs := rfl
@[simp] theorem State.sendAll_fes (l : List Msg) : (s.sendAll l).fes = s.fes := rfl
@[simp] theorem State.sendAll_fns (l : List Msg) : (s.sendAll l).fns = s.fns := rfl
@[simp] theorem State.sendAll_ldls (l : List Msg) : (s.sendAll l).ldls = s.ldls := rfl
@[simp] theorem State.sendAll_ldlEngs (l : List Msg) : (s.sendAll l).ldlEngs = s.ldlEngs := rfl
@[simp] theorem State.sendAll_pwr (l : List Msg) : (s.sendAll l).pwr = s.pwr := rfl
@[simp] theorem State.sendAll_svc (l : List Msg) : (s.sendAll l).svc = s.svc := rfl
@[simp] theorem State.sendAll_hif (l : List Msg) : (s.sendAll l).hif = s.hif := rfl
@[simp] theorem State.sendAll_ident (l : List Msg) : (s.sendAll l).ident = s.ident := rfl
@[simp] theorem State.sendAll_tap (l : List Msg) : (s.sendAll l).tap = s.tap := rfl
@[simp] theorem State.sendAll_dist (l : List Msg) : (s.sendAll l).dist = s.dist := rfl
@[simp] theorem State.sendAll_retainPrst (l : List Msg) : (s.sendAll l).retainPrst = s.retainPrst := rfl
@[simp] theorem State.sendAll_errq (l : List Msg) : (s.sendAll l).errq = s.errq := rfl
@[simp] theorem State.sendAll_errlog (l : List Msg) : (s.sendAll l).errlog = s.errlog := rfl
@[simp] theorem State.sendAll_lastRead (l : List Msg) : (s.sendAll l).lastRead = s.lastRead := rfl
@[simp] theorem State.sendAll_pending (l : List Msg) : (s.sendAll l).pending = s.pending := rfl

/-! `recv` -/
@[simp] theorem State.recv_fuse (m : Msg) : (s.recv m).fuse = s.fuse := rfl
@[simp] theorem State.recv_fresh (m : Msg) : (s.recv m).fresh = s.fresh := rfl
@[simp] theorem State.recv_regs (m : Msg) : (s.recv m).regs = s.regs := rfl
@[simp] theorem State.recv_mem (m : Msg) : (s.recv m).mem = s.mem := rfl
@[simp] theorem State.recv_memPoison (m : Msg) : (s.recv m).memPoison = s.memPoison := rfl
@[simp] theorem State.recv_cores (m : Msg) : (s.recv m).cores = s.cores := rfl
@[simp] theorem State.recv_slices (m : Msg) : (s.recv m).slices = s.slices := rfl
@[simp] theorem State.recv_tileMnt (m : Msg) : (s.recv m).tileMnt = s.tileMnt := rfl
@[simp] theorem State.recv_decode (m : Msg) : (s.recv m).decode = s.decode := rfl
@[simp] theorem State.recv_endpoints (m : Msg) : (s.recv m).endpoints = s.endpoints := rfl
@[simp] theorem State.recv_links (m : Msg) : (s.recv m).links = s.links := rfl
@[simp] theorem State.recv_routers (m : Msg) : (s.recv m).routers = s.routers := rfl
@[simp] theorem State.recv_partEbb (m : Msg) : (s.recv m).partEbb = s.partEbb := rfl
@[simp] theorem State.recv_chans (m : Msg) : (s.recv m).chans = s.chans := rfl
@[simp] theorem State.recv_memTok (m : Msg) : (s.recv m).memTok = s.memTok := rfl
@[simp] theorem State.recv_time (m : Msg) : (s.recv m).time = s.time := rfl
@[simp] theorem State.recv_lanes (m : Msg) : (s.recv m).lanes = s.lanes := rfl
@[simp] theorem State.recv_fast (m : Msg) : (s.recv m).fast = s.fast := rfl
@[simp] theorem State.recv_stns (m : Msg) : (s.recv m).stns = s.stns := rfl
@[simp] theorem State.recv_imgs (m : Msg) : (s.recv m).imgs = s.imgs := rfl
@[simp] theorem State.recv_tabs (m : Msg) : (s.recv m).tabs = s.tabs := rfl
@[simp] theorem State.recv_fes (m : Msg) : (s.recv m).fes = s.fes := rfl
@[simp] theorem State.recv_fns (m : Msg) : (s.recv m).fns = s.fns := rfl
@[simp] theorem State.recv_ldls (m : Msg) : (s.recv m).ldls = s.ldls := rfl
@[simp] theorem State.recv_ldlEngs (m : Msg) : (s.recv m).ldlEngs = s.ldlEngs := rfl
@[simp] theorem State.recv_pwr (m : Msg) : (s.recv m).pwr = s.pwr := rfl
@[simp] theorem State.recv_svc (m : Msg) : (s.recv m).svc = s.svc := rfl
@[simp] theorem State.recv_hif (m : Msg) : (s.recv m).hif = s.hif := rfl
@[simp] theorem State.recv_ident (m : Msg) : (s.recv m).ident = s.ident := rfl
@[simp] theorem State.recv_tap (m : Msg) : (s.recv m).tap = s.tap := rfl
@[simp] theorem State.recv_dist (m : Msg) : (s.recv m).dist = s.dist := rfl
@[simp] theorem State.recv_retainPrst (m : Msg) : (s.recv m).retainPrst = s.retainPrst := rfl
@[simp] theorem State.recv_errq (m : Msg) : (s.recv m).errq = s.errq := rfl
@[simp] theorem State.recv_errlog (m : Msg) : (s.recv m).errlog = s.errlog := rfl
@[simp] theorem State.recv_lastRead (m : Msg) : (s.recv m).lastRead = s.lastRead := rfl
@[simp] theorem State.recv_pending (m : Msg) : (s.recv m).pending = s.pending := rfl

/-! `detect` -/
@[simp] theorem State.detect_fuse (e : ErrEvent) : (s.detect e).fuse = s.fuse := rfl
@[simp] theorem State.detect_fresh (e : ErrEvent) : (s.detect e).fresh = s.fresh := rfl
@[simp] theorem State.detect_regs (e : ErrEvent) : (s.detect e).regs = s.regs := rfl
@[simp] theorem State.detect_mem (e : ErrEvent) : (s.detect e).mem = s.mem := rfl
@[simp] theorem State.detect_memPoison (e : ErrEvent) : (s.detect e).memPoison = s.memPoison := rfl
@[simp] theorem State.detect_cores (e : ErrEvent) : (s.detect e).cores = s.cores := rfl
@[simp] theorem State.detect_slices (e : ErrEvent) : (s.detect e).slices = s.slices := rfl
@[simp] theorem State.detect_tileMnt (e : ErrEvent) : (s.detect e).tileMnt = s.tileMnt := rfl
@[simp] theorem State.detect_decode (e : ErrEvent) : (s.detect e).decode = s.decode := rfl
@[simp] theorem State.detect_net (e : ErrEvent) : (s.detect e).net = s.net := rfl
@[simp] theorem State.detect_endpoints (e : ErrEvent) : (s.detect e).endpoints = s.endpoints := rfl
@[simp] theorem State.detect_links (e : ErrEvent) : (s.detect e).links = s.links := rfl
@[simp] theorem State.detect_routers (e : ErrEvent) : (s.detect e).routers = s.routers := rfl
@[simp] theorem State.detect_partEbb (e : ErrEvent) : (s.detect e).partEbb = s.partEbb := rfl
@[simp] theorem State.detect_chans (e : ErrEvent) : (s.detect e).chans = s.chans := rfl
@[simp] theorem State.detect_memTok (e : ErrEvent) : (s.detect e).memTok = s.memTok := rfl
@[simp] theorem State.detect_time (e : ErrEvent) : (s.detect e).time = s.time := rfl
@[simp] theorem State.detect_lanes (e : ErrEvent) : (s.detect e).lanes = s.lanes := rfl
@[simp] theorem State.detect_fast (e : ErrEvent) : (s.detect e).fast = s.fast := rfl
@[simp] theorem State.detect_stns (e : ErrEvent) : (s.detect e).stns = s.stns := rfl
@[simp] theorem State.detect_imgs (e : ErrEvent) : (s.detect e).imgs = s.imgs := rfl
@[simp] theorem State.detect_tabs (e : ErrEvent) : (s.detect e).tabs = s.tabs := rfl
@[simp] theorem State.detect_fes (e : ErrEvent) : (s.detect e).fes = s.fes := rfl
@[simp] theorem State.detect_fns (e : ErrEvent) : (s.detect e).fns = s.fns := rfl
@[simp] theorem State.detect_ldls (e : ErrEvent) : (s.detect e).ldls = s.ldls := rfl
@[simp] theorem State.detect_ldlEngs (e : ErrEvent) : (s.detect e).ldlEngs = s.ldlEngs := rfl
@[simp] theorem State.detect_pwr (e : ErrEvent) : (s.detect e).pwr = s.pwr := rfl
@[simp] theorem State.detect_svc (e : ErrEvent) : (s.detect e).svc = s.svc := rfl
@[simp] theorem State.detect_hif (e : ErrEvent) : (s.detect e).hif = s.hif := rfl
@[simp] theorem State.detect_ident (e : ErrEvent) : (s.detect e).ident = s.ident := rfl
@[simp] theorem State.detect_tap (e : ErrEvent) : (s.detect e).tap = s.tap := rfl
@[simp] theorem State.detect_dist (e : ErrEvent) : (s.detect e).dist = s.dist := rfl
@[simp] theorem State.detect_retainPrst (e : ErrEvent) : (s.detect e).retainPrst = s.retainPrst := rfl
@[simp] theorem State.detect_errlog (e : ErrEvent) : (s.detect e).errlog = s.errlog := rfl
@[simp] theorem State.detect_lastRead (e : ErrEvent) : (s.detect e).lastRead = s.lastRead := rfl
@[simp] theorem State.detect_pending (e : ErrEvent) : (s.detect e).pending = s.pending := rfl

/-! `setByte` -/
@[simp] theorem State.setByte_fuse (k : Nat) (b : Byte) (p : Bool) : (s.setByte k b p).fuse = s.fuse := rfl
@[simp] theorem State.setByte_fresh (k : Nat) (b : Byte) (p : Bool) : (s.setByte k b p).fresh = s.fresh := rfl
@[simp] theorem State.setByte_regs (k : Nat) (b : Byte) (p : Bool) : (s.setByte k b p).regs = s.regs := rfl
@[simp] theorem State.setByte_cores (k : Nat) (b : Byte) (p : Bool) : (s.setByte k b p).cores = s.cores := rfl
@[simp] theorem State.setByte_slices (k : Nat) (b : Byte) (p : Bool) : (s.setByte k b p).slices = s.slices := rfl
@[simp] theorem State.setByte_tileMnt (k : Nat) (b : Byte) (p : Bool) : (s.setByte k b p).tileMnt = s.tileMnt := rfl
@[simp] theorem State.setByte_decode (k : Nat) (b : Byte) (p : Bool) : (s.setByte k b p).decode = s.decode := rfl
@[simp] theorem State.setByte_net (k : Nat) (b : Byte) (p : Bool) : (s.setByte k b p).net = s.net := rfl
@[simp] theorem State.setByte_endpoints (k : Nat) (b : Byte) (p : Bool) : (s.setByte k b p).endpoints = s.endpoints := rfl
@[simp] theorem State.setByte_links (k : Nat) (b : Byte) (p : Bool) : (s.setByte k b p).links = s.links := rfl
@[simp] theorem State.setByte_routers (k : Nat) (b : Byte) (p : Bool) : (s.setByte k b p).routers = s.routers := rfl
@[simp] theorem State.setByte_partEbb (k : Nat) (b : Byte) (p : Bool) : (s.setByte k b p).partEbb = s.partEbb := rfl
@[simp] theorem State.setByte_chans (k : Nat) (b : Byte) (p : Bool) : (s.setByte k b p).chans = s.chans := rfl
@[simp] theorem State.setByte_memTok (k : Nat) (b : Byte) (p : Bool) : (s.setByte k b p).memTok = s.memTok := rfl
@[simp] theorem State.setByte_time (k : Nat) (b : Byte) (p : Bool) : (s.setByte k b p).time = s.time := rfl
@[simp] theorem State.setByte_lanes (k : Nat) (b : Byte) (p : Bool) : (s.setByte k b p).lanes = s.lanes := rfl
@[simp] theorem State.setByte_fast (k : Nat) (b : Byte) (p : Bool) : (s.setByte k b p).fast = s.fast := rfl
@[simp] theorem State.setByte_stns (k : Nat) (b : Byte) (p : Bool) : (s.setByte k b p).stns = s.stns := rfl
@[simp] theorem State.setByte_imgs (k : Nat) (b : Byte) (p : Bool) : (s.setByte k b p).imgs = s.imgs := rfl
@[simp] theorem State.setByte_tabs (k : Nat) (b : Byte) (p : Bool) : (s.setByte k b p).tabs = s.tabs := rfl
@[simp] theorem State.setByte_fes (k : Nat) (b : Byte) (p : Bool) : (s.setByte k b p).fes = s.fes := rfl
@[simp] theorem State.setByte_fns (k : Nat) (b : Byte) (p : Bool) : (s.setByte k b p).fns = s.fns := rfl
@[simp] theorem State.setByte_ldls (k : Nat) (b : Byte) (p : Bool) : (s.setByte k b p).ldls = s.ldls := rfl
@[simp] theorem State.setByte_ldlEngs (k : Nat) (b : Byte) (p : Bool) : (s.setByte k b p).ldlEngs = s.ldlEngs := rfl
@[simp] theorem State.setByte_pwr (k : Nat) (b : Byte) (p : Bool) : (s.setByte k b p).pwr = s.pwr := rfl
@[simp] theorem State.setByte_svc (k : Nat) (b : Byte) (p : Bool) : (s.setByte k b p).svc = s.svc := rfl
@[simp] theorem State.setByte_hif (k : Nat) (b : Byte) (p : Bool) : (s.setByte k b p).hif = s.hif := rfl
@[simp] theorem State.setByte_ident (k : Nat) (b : Byte) (p : Bool) : (s.setByte k b p).ident = s.ident := rfl
@[simp] theorem State.setByte_tap (k : Nat) (b : Byte) (p : Bool) : (s.setByte k b p).tap = s.tap := rfl
@[simp] theorem State.setByte_dist (k : Nat) (b : Byte) (p : Bool) : (s.setByte k b p).dist = s.dist := rfl
@[simp] theorem State.setByte_retainPrst (k : Nat) (b : Byte) (p : Bool) : (s.setByte k b p).retainPrst = s.retainPrst := rfl
@[simp] theorem State.setByte_errq (k : Nat) (b : Byte) (p : Bool) : (s.setByte k b p).errq = s.errq := rfl
@[simp] theorem State.setByte_errlog (k : Nat) (b : Byte) (p : Bool) : (s.setByte k b p).errlog = s.errlog := rfl
@[simp] theorem State.setByte_lastRead (k : Nat) (b : Byte) (p : Bool) : (s.setByte k b p).lastRead = s.lastRead := rfl
@[simp] theorem State.setByte_pending (k : Nat) (b : Byte) (p : Bool) : (s.setByte k b p).pending = s.pending := rfl

/-! `zeroRange` -/
@[simp] theorem State.zeroRange_fuse (k n : Nat) : (s.zeroRange k n).fuse = s.fuse := rfl
@[simp] theorem State.zeroRange_fresh (k n : Nat) : (s.zeroRange k n).fresh = s.fresh := rfl
@[simp] theorem State.zeroRange_regs (k n : Nat) : (s.zeroRange k n).regs = s.regs := rfl
@[simp] theorem State.zeroRange_cores (k n : Nat) : (s.zeroRange k n).cores = s.cores := rfl
@[simp] theorem State.zeroRange_slices (k n : Nat) : (s.zeroRange k n).slices = s.slices := rfl
@[simp] theorem State.zeroRange_tileMnt (k n : Nat) : (s.zeroRange k n).tileMnt = s.tileMnt := rfl
@[simp] theorem State.zeroRange_decode (k n : Nat) : (s.zeroRange k n).decode = s.decode := rfl
@[simp] theorem State.zeroRange_net (k n : Nat) : (s.zeroRange k n).net = s.net := rfl
@[simp] theorem State.zeroRange_endpoints (k n : Nat) : (s.zeroRange k n).endpoints = s.endpoints := rfl
@[simp] theorem State.zeroRange_links (k n : Nat) : (s.zeroRange k n).links = s.links := rfl
@[simp] theorem State.zeroRange_routers (k n : Nat) : (s.zeroRange k n).routers = s.routers := rfl
@[simp] theorem State.zeroRange_partEbb (k n : Nat) : (s.zeroRange k n).partEbb = s.partEbb := rfl
@[simp] theorem State.zeroRange_chans (k n : Nat) : (s.zeroRange k n).chans = s.chans := rfl
@[simp] theorem State.zeroRange_memTok (k n : Nat) : (s.zeroRange k n).memTok = s.memTok := rfl
@[simp] theorem State.zeroRange_time (k n : Nat) : (s.zeroRange k n).time = s.time := rfl
@[simp] theorem State.zeroRange_lanes (k n : Nat) : (s.zeroRange k n).lanes = s.lanes := rfl
@[simp] theorem State.zeroRange_fast (k n : Nat) : (s.zeroRange k n).fast = s.fast := rfl
@[simp] theorem State.zeroRange_stns (k n : Nat) : (s.zeroRange k n).stns = s.stns := rfl
@[simp] theorem State.zeroRange_imgs (k n : Nat) : (s.zeroRange k n).imgs = s.imgs := rfl
@[simp] theorem State.zeroRange_tabs (k n : Nat) : (s.zeroRange k n).tabs = s.tabs := rfl
@[simp] theorem State.zeroRange_fes (k n : Nat) : (s.zeroRange k n).fes = s.fes := rfl
@[simp] theorem State.zeroRange_fns (k n : Nat) : (s.zeroRange k n).fns = s.fns := rfl
@[simp] theorem State.zeroRange_ldls (k n : Nat) : (s.zeroRange k n).ldls = s.ldls := rfl
@[simp] theorem State.zeroRange_ldlEngs (k n : Nat) : (s.zeroRange k n).ldlEngs = s.ldlEngs := rfl
@[simp] theorem State.zeroRange_pwr (k n : Nat) : (s.zeroRange k n).pwr = s.pwr := rfl
@[simp] theorem State.zeroRange_svc (k n : Nat) : (s.zeroRange k n).svc = s.svc := rfl
@[simp] theorem State.zeroRange_hif (k n : Nat) : (s.zeroRange k n).hif = s.hif := rfl
@[simp] theorem State.zeroRange_ident (k n : Nat) : (s.zeroRange k n).ident = s.ident := rfl
@[simp] theorem State.zeroRange_tap (k n : Nat) : (s.zeroRange k n).tap = s.tap := rfl
@[simp] theorem State.zeroRange_dist (k n : Nat) : (s.zeroRange k n).dist = s.dist := rfl
@[simp] theorem State.zeroRange_retainPrst (k n : Nat) : (s.zeroRange k n).retainPrst = s.retainPrst := rfl
@[simp] theorem State.zeroRange_errq (k n : Nat) : (s.zeroRange k n).errq = s.errq := rfl
@[simp] theorem State.zeroRange_errlog (k n : Nat) : (s.zeroRange k n).errlog = s.errlog := rfl
@[simp] theorem State.zeroRange_lastRead (k n : Nat) : (s.zeroRange k n).lastRead = s.lastRead := rfl
@[simp] theorem State.zeroRange_pending (k n : Nat) : (s.zeroRange k n).pending = s.pending := rfl

end Sys2Proof.Machine
end

