-- ==== Sys2Proof/Laws/Tbl.lean ====
section
/-!
SUPPORT. Sparse tables: what a look-up gives after a write, and that every operation keeps the canonical form.
-/
namespace Sys2Proof.Machine

variable {α : Type}

theorem Tbl.get_erase_same (d : Nat → α) (t : Tbl α) (k : Nat) : Tbl.get d (Tbl.erase t k) k = d k := by
  induction t with
  | nil => rfl
  | cons e r ih =>
    obtain ⟨a, v⟩ := e
    by_cases h : a = k <;> simp [Tbl.erase, Tbl.get, h, ih]

theorem Tbl.get_erase_other (d : Nat → α) (t : Tbl α) {k j : Nat} (h : j ≠ k) : Tbl.get d (Tbl.erase t k) j = Tbl.get d t j := by
  induction t with
  | nil => rfl
  | cons e r ih =>
    obtain ⟨a, v⟩ := e
    by_cases ha : a = k
    · have hj : ¬ a = j := by omega
      simp only [Tbl.erase, if_pos ha, ih, Tbl.get, if_neg hj]
    · simp only [Tbl.erase, if_neg ha, Tbl.get, ih]

theorem Tbl.get_put_same (d : Nat → α) (t : Tbl α) (k : Nat) (v : α) (h : ∀ e ∈ t, e.1 ≠ k) : Tbl.get d (Tbl.put t k v) k = v := by
  induction t with
  | nil => simp [Tbl.put, Tbl.get]
  | cons e r ih =>
    obtain ⟨a, w⟩ := e
    have ha : a ≠ k := h (a, w) (by simp)
    by_cases hk : a < k
    · simp [Tbl.put, hk, Tbl.get, ha, ih (fun e he => h e (by simp [he]))]
    · simp [Tbl.put, hk, Tbl.get]

theorem Tbl.get_put_other (d : Nat → α) (t : Tbl α) {k j : Nat} (v : α) (h : j ≠ k) : Tbl.get d (Tbl.put t k v) j = Tbl.get d t j := by
  induction t with
  | nil => simp [Tbl.put, Tbl.get, Ne.symm h]
  | cons e r ih =>
    obtain ⟨a, w⟩ := e
    by_cases hk : a < k
    · simp [Tbl.put, hk, Tbl.get, ih]
    · simp [Tbl.put, hk, Tbl.get, Ne.symm h]

theorem Tbl.not_mem_erase (t : Tbl α) (k : Nat) : ∀ e ∈ Tbl.erase t k, e.1 ≠ k := by
  induction t with
  | nil => simp [Tbl.erase]
  | cons e r ih =>
    obtain ⟨a, v⟩ := e
    by_cases h : a = k
    · simpa [Tbl.erase, h] using ih
    · intro e he
      simp only [Tbl.erase, if_neg h, List.mem_cons] at he
      rcases he with rfl | he
      · exact h
      · exact ih e he

section
variable [DecidableEq α]

/-- A write is read back. -/
@[simp] theorem Tbl.get_set_same (d : Nat → α) (t : Tbl α) (k : Nat) (v : α) : Tbl.get d (Tbl.set d t k v) k = v := by
  by_cases h : v = d k
  · simp [Tbl.set, h, Tbl.get_erase_same]
  · simp [Tbl.set, h, Tbl.get_put_same d _ k v (Tbl.not_mem_erase t k)]

/-- A write leaves every other key alone. -/
theorem Tbl.get_set_other (d : Nat → α) (t : Tbl α) {k j : Nat} (v : α) (h : j ≠ k) : Tbl.get d (Tbl.set d t k v) j = Tbl.get d t j := by
  by_cases hv : v = d k
  · simp [Tbl.set, hv, Tbl.get_erase_other d t h]
  · simp [Tbl.set, hv, Tbl.get_put_other d _ v h, Tbl.get_erase_other d t h]

/-- What a write makes of a look-up, both cases at once. -/
theorem Tbl.get_set (d : Nat → α) (t : Tbl α) (k j : Nat) (v : α) : Tbl.get d (Tbl.set d t k v) j = if j = k then v else Tbl.get d t j := by
  by_cases h : j = k
  · subst h; simp
  · simp [h, Tbl.get_set_other d t v h]

theorem Tbl.wfAbove_weaken (d : Nat → α) {lo lo' : Option Nat} (t : Tbl α)
    (hle : ∀ b', lo' = some b' → ∃ b, lo = some b ∧ b' ≤ b) (h : Tbl.wfAbove d lo t = true) : Tbl.wfAbove d lo' t = true := by
  cases t with
  | nil => rfl
  | cons e r =>
    obtain ⟨a, v⟩ := e
    simp only [Tbl.wfAbove, Bool.and_eq_true] at h ⊢
    refine ⟨⟨?_, h.1.2⟩, h.2⟩
    cases lo' with
    | none => rfl
    | some b' =>
      obtain ⟨b, rfl, hb⟩ := hle b' rfl
      have := h.1.1
      simp only [decide_eq_true_eq] at this ⊢
      omega

theorem Tbl.wfAbove_erase (d : Nat → α) (lo : Option Nat) (t : Tbl α) (k : Nat) (h : Tbl.wfAbove d lo t = true) :
    Tbl.wfAbove d lo (Tbl.erase t k) = true := by
  induction t generalizing lo with
  | nil => rfl
  | cons e r ih =>
    obtain ⟨a, v⟩ := e
    simp only [Tbl.wfAbove, Bool.and_eq_true] at h
    by_cases ha : a = k
    · simp only [Tbl.erase, if_pos ha]
      refine Tbl.wfAbove_weaken d _ ?_ (ih _ h.2)
      intro b' hb'; subst hb'
      have := h.1.1
      simp only [decide_eq_true_eq] at this
      exact ⟨a, rfl, by omega⟩
    · simp only [Tbl.erase, if_neg ha, Tbl.wfAbove, Bool.and_eq_true]
      exact ⟨h.1, ih _ h.2⟩

theorem Tbl.wfAbove_put (d : Nat → α) (lo : Option Nat) (t : Tbl α) (k : Nat) (v : α) (hv : v ≠ d k) (hk : ∀ e ∈ t, e.1 ≠ k)
    (hlo : ∀ b, lo = some b → b < k) (h : Tbl.wfAbove d lo t = true) : Tbl.wfAbove d lo (Tbl.put t k v) = true := by
  induction t generalizing lo with
  | nil =>
    cases lo with
    | none => simp [Tbl.put, Tbl.wfAbove, hv]
    | some b => simp [Tbl.put, Tbl.wfAbove, hv, hlo b rfl]
  | cons e r ih =>
    obtain ⟨a, w⟩ := e
    have hak : a ≠ k := hk (a, w) (by simp)
    simp only [Tbl.wfAbove, Bool.and_eq_true] at h
    by_cases ha : a < k
    · simp only [Tbl.put, if_pos ha, Tbl.wfAbove, Bool.and_eq_true]
      exact ⟨h.1, ih _ (fun e he => hk e (by simp [he])) (fun b hb => by cases hb; exact ha) h.2⟩
    · simp only [Tbl.put, if_neg ha, Tbl.wfAbove, Bool.and_eq_true]
      refine ⟨⟨?_, by simpa using hv⟩, ⟨by simp only [decide_eq_true_eq]; omega, h.1.2⟩, h.2⟩
      cases lo with
      | none => rfl
      | some b => simpa using hlo b rfl

/-- A write keeps the canonical form. -/
theorem Tbl.wf_set (d : Nat → α) (t : Tbl α) (k : Nat) (v : α) (h : Tbl.wf d t = true) : Tbl.wf d (Tbl.set d t k v) = true := by
  by_cases hv : v = d k
  · simpa [Tbl.set, hv, Tbl.wf] using Tbl.wfAbove_erase d none t k h
  · simpa [Tbl.set, hv, Tbl.wf] using
      Tbl.wfAbove_put d none _ k v hv (Tbl.not_mem_erase t k) (by simp) (Tbl.wfAbove_erase d none t k h)

/-- Dropping a key keeps the canonical form. -/
theorem Tbl.wf_erase (d : Nat → α) (t : Tbl α) (k : Nat) (h : Tbl.wf d t = true) : Tbl.wf d (Tbl.erase t k) = true :=
  Tbl.wfAbove_erase d none t k h

/-- Keeping some of the entries keeps the canonical form. -/
theorem Tbl.wfAbove_filter (d : Nat → α) (p : Nat × α → Bool) (lo : Option Nat) (t : Tbl α) (h : Tbl.wfAbove d lo t = true) :
    Tbl.wfAbove d lo (t.filter p) = true := by
  induction t generalizing lo with
  | nil => rfl
  | cons e r ih =>
    obtain ⟨a, v⟩ := e
    simp only [Tbl.wfAbove, Bool.and_eq_true] at h
    by_cases hp : p (a, v) = true
    · simp only [List.filter_cons, hp, if_true, Tbl.wfAbove, Bool.and_eq_true]
      exact ⟨h.1, ih _ h.2⟩
    · simp only [List.filter_cons, hp]
      refine Tbl.wfAbove_weaken d _ ?_ (ih _ h.2)
      intro b' hb'; subst hb'
      have := h.1.1
      simp only [decide_eq_true_eq] at this
      exact ⟨a, rfl, by omega⟩

theorem Tbl.wf_filter (d : Nat → α) (p : Nat × α → Bool) (t : Tbl α) (h : Tbl.wf d t = true) : Tbl.wf d (t.filter p) = true :=
  Tbl.wfAbove_filter d p none t h

end

/-- An unlisted key reads as its default: a canonical table lists no default. -/
theorem Tbl.get_of_not_mem (d : Nat → α) (t : Tbl α) (k : Nat) (h : ∀ e ∈ t, e.1 ≠ k) : Tbl.get d t k = d k := by
  induction t with
  | nil => rfl
  | cons e r ih =>
    obtain ⟨a, v⟩ := e
    have ha : a ≠ k := h (a, v) (by simp)
    simp [Tbl.get, ha, ih (fun e he => h e (by simp [he]))]

end Sys2Proof.Machine
end

