-- ==== Sys2Proof/Laws/Readers.lean ====
section
/-!
SUPPORT. What each reader of the state gives after each named update: the value written, or what it gave before.
-/
namespace Sys2Proof.Machine

variable (s : State)

/-! ### Registers -/

theorem State.reg_setReg (a b : Nat) (v : Word) : (s.setReg a v).reg b = if b = a then v else s.reg b := Tbl.get_set regReset s.regs a b v
@[simp] theorem State.reg_setReg_same (a : Nat) (v : Word) : (s.setReg a v).reg a = v := Tbl.get_set_same regReset s.regs a v
theorem State.reg_setReg_other {a b : Nat} (v : Word) (h : b ≠ a) : (s.setReg a v).reg b = s.reg b := Tbl.get_set_other regReset s.regs v h
@[simp] theorem State.reg_setFld_same (a : Nat) (f : Fld) (v : Nat) : (s.setFld a f v).reg a = setF (s.reg a) f v := Tbl.get_set_same regReset s.regs a _
theorem State.reg_setFld_other {a b : Nat} (f : Fld) (v : Nat) (h : b ≠ a) : (s.setFld a f v).reg b = s.reg b := Tbl.get_set_other regReset s.regs _ h
theorem State.reg_setFlag_other {a b : Nat} (f : Fld) (v : Bool) (h : b ≠ a) : (s.setFlag a f v).reg b = s.reg b := Tbl.get_set_other regReset s.regs _ h

/-- A field written reads back, cut to its width. -/
theorem State.fld_setFld_same (a : Nat) (f : Fld) (v : Nat) (h : f.lo + f.w ≤ 64) : (s.setFld a f v).fld a f = v % 2 ^ f.w := by
  rw [State.fld, State.reg_setFld_same, getF_setF_same _ _ _ h]

/-- A field of another register, or one that does not overlap, keeps its value. -/
theorem State.fld_setFld_other (a b : Nat) (f g : Fld) (v : Nat) (h : b ≠ a ∨ f.lo + f.w ≤ g.lo ∨ g.lo + g.w ≤ f.lo) :
    (s.setFld a f v).fld b g = s.fld b g := by
  by_cases hb : b = a
  · subst hb
    rw [State.fld, State.reg_setFld_same, State.fld, getF_setF_other]
    rcases h with h | h
    · exact absurd rfl h
    · exact h
  · rw [State.fld, State.reg_setFld_other s f v hb, State.fld]

/-- A flag written reads back. -/
theorem State.flag_setFlag_same (a : Nat) (f : Fld) (b : Bool) (h : f.lo + f.w ≤ 64) (hw : f.w = 1) : (s.setFlag a f b).flag a f = b := by
  have := State.fld_setFld_same s a f (b2n b) h
  cases b <;> simp_all [State.flag, State.setFlag, State.fld, b2n]

/-- A flag of another register, or one that does not overlap, keeps its value. -/
theorem State.flag_setFlag_other (a b : Nat) (f g : Fld) (v : Bool) (h : b ≠ a ∨ f.lo + f.w ≤ g.lo ∨ g.lo + g.w ≤ f.lo) :
    (s.setFlag a f v).flag b g = s.flag b g := by
  have := State.fld_setFld_other s a b f g (b2n v) h
  simpa [State.flag, State.setFlag, State.fld] using congrArg (fun x => x == 1) this

theorem State.flag_setFld_other (a b : Nat) (f g : Fld) (v : Nat) (h : b ≠ a ∨ f.lo + f.w ≤ g.lo ∨ g.lo + g.w ≤ f.lo) :
    (s.setFld a f v).flag b g = s.flag b g := by
  have := State.fld_setFld_other s a b f g v h
  simpa [State.flag, State.fld] using congrArg (fun x => x == 1) this

theorem State.fld_setFlag_other (a b : Nat) (f g : Fld) (v : Bool) (h : b ≠ a ∨ f.lo + f.w ≤ g.lo ∨ g.lo + g.w ≤ f.lo) :
    (s.setFlag a f v).fld b g = s.fld b g := State.fld_setFld_other s a b f g (b2n v) h

/-! ### Cores, slices, endpoints, links, routers, sources -/

theorem State.core_setCore (n m : Nat) (c : Core) : (s.setCore n c).core m = if m = n then c else s.core m := Tbl.get_set _ s.cores n m c
@[simp] theorem State.core_setCore_same (n : Nat) (c : Core) : (s.setCore n c).core n = c := Tbl.get_set_same _ s.cores n c
theorem State.core_setCore_other {n m : Nat} (c : Core) (h : m ≠ n) : (s.setCore n c).core m = s.core m := Tbl.get_set_other _ s.cores c h
@[simp] theorem State.core_modCore_same (n : Nat) (f : Core → Core) : (s.modCore n f).core n = f (s.core n) := Tbl.get_set_same _ s.cores n _
theorem State.core_modCore_other {n m : Nat} (f : Core → Core) (h : m ≠ n) : (s.modCore n f).core m = s.core m := Tbl.get_set_other _ s.cores _ h
@[simp] theorem State.slice_setSlice_same (t : Nat) (x : Slice) : (s.setSlice t x).slice t = x := Tbl.get_set_same _ s.slices t x
@[simp] theorem State.slice_modSlice_same (t : Nat) (f : Slice → Slice) : (s.modSlice t f).slice t = f (s.slice t) := Tbl.get_set_same _ s.slices t _
theorem State.slice_modSlice_other {t u : Nat} (f : Slice → Slice) (h : u ≠ t) : (s.modSlice t f).slice u = s.slice u := Tbl.get_set_other _ s.slices _ h
@[simp] theorem State.ep_setEp_same (k : Nat) (x : Endpoint) : (s.setEp k x).ep k = x := Tbl.get_set_same _ s.endpoints k x
@[simp] theorem State.link_setLink_same (k : Nat) (x : Link) : (s.setLink k x).link k = x := Tbl.get_set_same _ s.links k x
@[simp] theorem State.router_setRouter_same (r : Nat) (x : Router) : (s.setRouter r x).router r = x := Tbl.get_set_same _ s.routers r x
@[simp] theorem State.src_setSrc_same (k : Nat) (x : Src) : (s.setSrc k x).src k = x := Tbl.get_set_same _ s.dist.srcs k x
@[simp] theorem State.src_modSrc_same (k : Nat) (f : Src → Src) : (s.modSrc k f).src k = f (s.src k) := Tbl.get_set_same _ s.dist.srcs k _

/-! ### Memory -/

theorem State.byte_setByte (k j : Nat) (b : Byte) (p : Bool) : (s.setByte k b p).byte j = if j = k then b else s.byte j := Tbl.get_set memDefault s.mem k j b
@[simp] theorem State.byte_setByte_same (k : Nat) (b : Byte) (p : Bool) : (s.setByte k b p).byte k = b := Tbl.get_set_same memDefault s.mem k b

/-! ### Readers of what an update leaves alone -/

@[simp] theorem State.core_setReg (a : Nat) (v : Word) (n : Nat) : (s.setReg a v).core n = s.core n := rfl
@[simp] theorem State.slice_setReg (a : Nat) (v : Word) (t : Nat) : (s.setReg a v).slice t = s.slice t := rfl
@[simp] theorem State.byte_setReg (a : Nat) (v : Word) (k : Nat) : (s.setReg a v).byte k = s.byte k := rfl
@[simp] theorem State.hasTile_setReg (a : Nat) (v : Word) (t : Nat) : (s.setReg a v).hasTile t = s.hasTile t := rfl
@[simp] theorem State.hasCore_setReg (a : Nat) (v : Word) (n : Nat) : (s.setReg a v).hasCore n = s.hasCore n := rfl
@[simp] theorem State.hasMc_setReg (a : Nat) (v : Word) (m : Nat) : (s.setReg a v).hasMc m = s.hasMc m := rfl
@[simp] theorem State.hasQuad_setReg (a : Nat) (v : Word) (q : Nat) : (s.setReg a v).hasQuad q = s.hasQuad q := rfl
@[simp] theorem State.hasFe_setReg (a : Nat) (v : Word) (e : Nat) : (s.setReg a v).hasFe e = s.hasFe e := rfl
@[simp] theorem State.hasLdl_setReg (a : Nat) (v : Word) (l : Nat) : (s.setReg a v).hasLdl l = s.hasLdl l := rfl
@[simp] theorem State.hasPort_setReg (a : Nat) (v : Word) (p : Nat) : (s.setReg a v).hasPort p = s.hasPort p := rfl
@[simp] theorem State.ep_setReg (a : Nat) (v : Word) (k : Nat) : (s.setReg a v).ep k = s.ep k := rfl
@[simp] theorem State.link_setReg (a : Nat) (v : Word) (k : Nat) : (s.setReg a v).link k = s.link k := rfl
@[simp] theorem State.router_setReg (a : Nat) (v : Word) (r : Nat) : (s.setReg a v).router r = s.router r := rfl
@[simp] theorem State.src_setReg (a : Nat) (v : Word) (k : Nat) : (s.setReg a v).src k = s.src k := rfl
@[simp] theorem State.distCore_setReg (a : Nat) (v : Word) (n : Nat) : (s.setReg a v).distCore n = s.distCore n := rfl
@[simp] theorem State.core_setFld (a : Nat) (f : Fld) (v : Nat) (n : Nat) : (s.setFld a f v).core n = s.core n := rfl
@[simp] theorem State.slice_setFld (a : Nat) (f : Fld) (v : Nat) (t : Nat) : (s.setFld a f v).slice t = s.slice t := rfl
@[simp] theorem State.byte_setFld (a : Nat) (f : Fld) (v : Nat) (k : Nat) : (s.setFld a f v).byte k = s.byte k := rfl
@[simp] theorem State.hasTile_setFld (a : Nat) (f : Fld) (v : Nat) (t : Nat) : (s.setFld a f v).hasTile t = s.hasTile t := rfl
@[simp] theorem State.hasCore_setFld (a : Nat) (f : Fld) (v : Nat) (n : Nat) : (s.setFld a f v).hasCore n = s.hasCore n := rfl
@[simp] theorem State.hasMc_setFld (a : Nat) (f : Fld) (v : Nat) (m : Nat) : (s.setFld a f v).hasMc m = s.hasMc m := rfl
@[simp] theorem State.hasQuad_setFld (a : Nat) (f : Fld) (v : Nat) (q : Nat) : (s.setFld a f v).hasQuad q = s.hasQuad q := rfl
@[simp] theorem State.hasFe_setFld (a : Nat) (f : Fld) (v : Nat) (e : Nat) : (s.setFld a f v).hasFe e = s.hasFe e := rfl
@[simp] theorem State.hasLdl_setFld (a : Nat) (f : Fld) (v : Nat) (l : Nat) : (s.setFld a f v).hasLdl l = s.hasLdl l := rfl
@[simp] theorem State.hasPort_setFld (a : Nat) (f : Fld) (v : Nat) (p : Nat) : (s.setFld a f v).hasPort p = s.hasPort p := rfl
@[simp] theorem State.ep_setFld (a : Nat) (f : Fld) (v : Nat) (k : Nat) : (s.setFld a f v).ep k = s.ep k := rfl
@[simp] theorem State.link_setFld (a : Nat) (f : Fld) (v : Nat) (k : Nat) : (s.setFld a f v).link k = s.link k := rfl
@[simp] theorem State.router_setFld (a : Nat) (f : Fld) (v : Nat) (r : Nat) : (s.setFld a f v).router r = s.router r := rfl
@[simp] theorem State.src_setFld (a : Nat) (f : Fld) (v : Nat) (k : Nat) : (s.setFld a f v).src k = s.src k := rfl
@[simp] theorem State.distCore_setFld (a : Nat) (f : Fld) (v : Nat) (n : Nat) : (s.setFld a f v).distCore n = s.distCore n := rfl
@[simp] theorem State.core_setFlag (a : Nat) (f : Fld) (b : Bool) (n : Nat) : (s.setFlag a f b).core n = s.core n := rfl
@[simp] theorem State.slice_setFlag (a : Nat) (f : Fld) (b : Bool) (t : Nat) : (s.setFlag a f b).slice t = s.slice t := rfl
@[simp] theorem State.byte_setFlag (a : Nat) (f : Fld) (b : Bool) (k : Nat) : (s.setFlag a f b).byte k = s.byte k := rfl
@[simp] theorem State.hasTile_setFlag (a : Nat) (f : Fld) (b : Bool) (t : Nat) : (s.setFlag a f b).hasTile t = s.hasTile t := rfl
@[simp] theorem State.hasCore_setFlag (a : Nat) (f : Fld) (b : Bool) (n : Nat) : (s.setFlag a f b).hasCore n = s.hasCore n := rfl
@[simp] theorem State.hasMc_setFlag (a : Nat) (f : Fld) (b : Bool) (m : Nat) : (s.setFlag a f b).hasMc m = s.hasMc m := rfl
@[simp] theorem State.hasQuad_setFlag (a : Nat) (f : Fld) (b : Bool) (q : Nat) : (s.setFlag a f b).hasQuad q = s.hasQuad q := rfl
@[simp] theorem State.hasFe_setFlag (a : Nat) (f : Fld) (b : Bool) (e : Nat) : (s.setFlag a f b).hasFe e = s.hasFe e := rfl
@[simp] theorem State.hasLdl_setFlag (a : Nat) (f : Fld) (b : Bool) (l : Nat) : (s.setFlag a f b).hasLdl l = s.hasLdl l := rfl
@[simp] theorem State.hasPort_setFlag (a : Nat) (f : Fld) (b : Bool) (p : Nat) : (s.setFlag a f b).hasPort p = s.hasPort p := rfl
@[simp] theorem State.ep_setFlag (a : Nat) (f : Fld) (b : Bool) (k : Nat) : (s.setFlag a f b).ep k = s.ep k := rfl
@[simp] theorem State.link_setFlag (a : Nat) (f : Fld) (b : Bool) (k : Nat) : (s.setFlag a f b).link k = s.link k := rfl
@[simp] theorem State.router_setFlag (a : Nat) (f : Fld) (b : Bool) (r : Nat) : (s.setFlag a f b).router r = s.router r := rfl
@[simp] theorem State.src_setFlag (a : Nat) (f : Fld) (b : Bool) (k : Nat) : (s.setFlag a f b).src k = s.src k := rfl
@[simp] theorem State.distCore_setFlag (a : Nat) (f : Fld) (b : Bool) (n : Nat) : (s.setFlag a f b).distCore n = s.distCore n := rfl
@[simp] theorem State.core_setBit (a i : Nat) (b : Bool) (n : Nat) : (s.setBit a i b).core n = s.core n := rfl
@[simp] theorem State.slice_setBit (a i : Nat) (b : Bool) (t : Nat) : (s.setBit a i b).slice t = s.slice t := rfl
@[simp] theorem State.byte_setBit (a i : Nat) (b : Bool) (k : Nat) : (s.setBit a i b).byte k = s.byte k := rfl
@[simp] theorem State.hasTile_setBit (a i : Nat) (b : Bool) (t : Nat) : (s.setBit a i b).hasTile t = s.hasTile t := rfl
@[simp] theorem State.hasCore_setBit (a i : Nat) (b : Bool) (n : Nat) : (s.setBit a i b).hasCore n = s.hasCore n := rfl
@[simp] theorem State.hasMc_setBit (a i : Nat) (b : Bool) (m : Nat) : (s.setBit a i b).hasMc m = s.hasMc m := rfl
@[simp] theorem State.hasQuad_setBit (a i : Nat) (b : Bool) (q : Nat) : (s.setBit a i b).hasQuad q = s.hasQuad q := rfl
@[simp] theorem State.hasFe_setBit (a i : Nat) (b : Bool) (e : Nat) : (s.setBit a i b).hasFe e = s.hasFe e := rfl
@[simp] theorem State.hasLdl_setBit (a i : Nat) (b : Bool) (l : Nat) : (s.setBit a i b).hasLdl l = s.hasLdl l := rfl
@[simp] theorem State.hasPort_setBit (a i : Nat) (b : Bool) (p : Nat) : (s.setBit a i b).hasPort p = s.hasPort p := rfl
@[simp] theorem State.ep_setBit (a i : Nat) (b : Bool) (k : Nat) : (s.setBit a i b).ep k = s.ep k := rfl
@[simp] theorem State.link_setBit (a i : Nat) (b : Bool) (k : Nat) : (s.setBit a i b).link k = s.link k := rfl
@[simp] theorem State.router_setBit (a i : Nat) (b : Bool) (r : Nat) : (s.setBit a i b).router r = s.router r := rfl
@[simp] theorem State.src_setBit (a i : Nat) (b : Bool) (k : Nat) : (s.setBit a i b).src k = s.src k := rfl
@[simp] theorem State.distCore_setBit (a i : Nat) (b : Bool) (n : Nat) : (s.setBit a i b).distCore n = s.distCore n := rfl
@[simp] theorem State.core_bump (a : Nat) (f : Fld) (k : Nat) (n : Nat) : (s.bump a f k).core n = s.core n := rfl
@[simp] theorem State.slice_bump (a : Nat) (f : Fld) (k : Nat) (t : Nat) : (s.bump a f k).slice t = s.slice t := rfl
@[simp] theorem State.byte_bump (a : Nat) (f : Fld) (k : Nat) (k' : Nat) : (s.bump a f k).byte k' = s.byte k' := rfl
@[simp] theorem State.hasTile_bump (a : Nat) (f : Fld) (k : Nat) (t : Nat) : (s.bump a f k).hasTile t = s.hasTile t := rfl
@[simp] theorem State.hasCore_bump (a : Nat) (f : Fld) (k : Nat) (n : Nat) : (s.bump a f k).hasCore n = s.hasCore n := rfl
@[simp] theorem State.hasMc_bump (a : Nat) (f : Fld) (k : Nat) (m : Nat) : (s.bump a f k).hasMc m = s.hasMc m := rfl
@[simp] theorem State.hasQuad_bump (a : Nat) (f : Fld) (k : Nat) (q : Nat) : (s.bump a f k).hasQuad q = s.hasQuad q := rfl
@[simp] theorem State.hasFe_bump (a : Nat) (f : Fld) (k : Nat) (e : Nat) : (s.bump a f k).hasFe e = s.hasFe e := rfl
@[simp] theorem State.hasLdl_bump (a : Nat) (f : Fld) (k : Nat) (l : Nat) : (s.bump a f k).hasLdl l = s.hasLdl l := rfl
@[simp] theorem State.hasPort_bump (a : Nat) (f : Fld) (k : Nat) (p : Nat) : (s.bump a f k).hasPort p = s.hasPort p := rfl
@[simp] theorem State.ep_bump (a : Nat) (f : Fld) (k : Nat) (k' : Nat) : (s.bump a f k).ep k' = s.ep k' := rfl
@[simp] theorem State.link_bump (a : Nat) (f : Fld) (k : Nat) (k' : Nat) : (s.bump a f k).link k' = s.link k' := rfl
@[simp] theorem State.router_bump (a : Nat) (f : Fld) (k : Nat) (r : Nat) : (s.bump a f k).router r = s.router r := rfl
@[simp] theorem State.src_bump (a : Nat) (f : Fld) (k : Nat) (k' : Nat) : (s.bump a f k).src k' = s.src k' := rfl
@[simp] theorem State.distCore_bump (a : Nat) (f : Fld) (k : Nat) (n : Nat) : (s.bump a f k).distCore n = s.distCore n := rfl
@[simp] theorem State.core_resetReg (a : Nat) (n : Nat) : (s.resetReg a).core n = s.core n := rfl
@[simp] theorem State.slice_resetReg (a : Nat) (t : Nat) : (s.resetReg a).slice t = s.slice t := rfl
@[simp] theorem State.byte_resetReg (a : Nat) (k : Nat) : (s.resetReg a).byte k = s.byte k := rfl
@[simp] theorem State.hasTile_resetReg (a : Nat) (t : Nat) : (s.resetReg a).hasTile t = s.hasTile t := rfl
@[simp] theorem State.hasCore_resetReg (a : Nat) (n : Nat) : (s.resetReg a).hasCore n = s.hasCore n := rfl
@[simp] theorem State.hasMc_resetReg (a : Nat) (m : Nat) : (s.resetReg a).hasMc m = s.hasMc m := rfl
@[simp] theorem State.hasQuad_resetReg (a : Nat) (q : Nat) : (s.resetReg a).hasQuad q = s.hasQuad q := rfl
@[simp] theorem State.hasFe_resetReg (a : Nat) (e : Nat) : (s.resetReg a).hasFe e = s.hasFe e := rfl
@[simp] theorem State.hasLdl_resetReg (a : Nat) (l : Nat) : (s.resetReg a).hasLdl l = s.hasLdl l := rfl
@[simp] theorem State.hasPort_resetReg (a : Nat) (p : Nat) : (s.resetReg a).hasPort p = s.hasPort p := rfl
@[simp] theorem State.ep_resetReg (a : Nat) (k : Nat) : (s.resetReg a).ep k = s.ep k := rfl
@[simp] theorem State.link_resetReg (a : Nat) (k : Nat) : (s.resetReg a).link k = s.link k := rfl
@[simp] theorem State.router_resetReg (a : Nat) (r : Nat) : (s.resetReg a).router r = s.router r := rfl
@[simp] theorem State.src_resetReg (a : Nat) (k : Nat) : (s.resetReg a).src k = s.src k := rfl
@[simp] theorem State.distCore_resetReg (a : Nat) (n : Nat) : (s.resetReg a).distCore n = s.distCore n := rfl
@[simp] theorem State.core_writeReg (off width : Nat) (v : Word) (n : Nat) : (s.writeReg off width v).core n = s.core n := rfl
@[simp] theorem State.slice_writeReg (off width : Nat) (v : Word) (t : Nat) : (s.writeReg off width v).slice t = s.slice t := rfl
@[simp] theorem State.byte_writeReg (off width : Nat) (v : Word) (k : Nat) : (s.writeReg off width v).byte k = s.byte k := rfl
@[simp] theorem State.hasTile_writeReg (off width : Nat) (v : Word) (t : Nat) : (s.writeReg off width v).hasTile t = s.hasTile t := rfl
@[simp] theorem State.hasCore_writeReg (off width : Nat) (v : Word) (n : Nat) : (s.writeReg off width v).hasCore n = s.hasCore n := rfl
@[simp] theorem State.hasMc_writeReg (off width : Nat) (v : Word) (m : Nat) : (s.writeReg off width v).hasMc m = s.hasMc m := rfl
@[simp] theorem State.hasQuad_writeReg (off width : Nat) (v : Word) (q : Nat) : (s.writeReg off width v).hasQuad q = s.hasQuad q := rfl
@[simp] theorem State.hasFe_writeReg (off width : Nat) (v : Word) (e : Nat) : (s.writeReg off width v).hasFe e = s.hasFe e := rfl
@[simp] theorem State.hasLdl_writeReg (off width : Nat) (v : Word) (l : Nat) : (s.writeReg off width v).hasLdl l = s.hasLdl l := rfl
@[simp] theorem State.hasPort_writeReg (off width : Nat) (v : Word) (p : Nat) : (s.writeReg off width v).hasPort p = s.hasPort p := rfl
@[simp] theorem State.ep_writeReg (off width : Nat) (v : Word) (k : Nat) : (s.writeReg off width v).ep k = s.ep k := rfl
@[simp] theorem State.link_writeReg (off width : Nat) (v : Word) (k : Nat) : (s.writeReg off width v).link k = s.link k := rfl
@[simp] theorem State.router_writeReg (off width : Nat) (v : Word) (r : Nat) : (s.writeReg off width v).router r = s.router r := rfl
@[simp] theorem State.src_writeReg (off width : Nat) (v : Word) (k : Nat) : (s.writeReg off width v).src k = s.src k := rfl
@[simp] theorem State.distCore_writeReg (off width : Nat) (v : Word) (n : Nat) : (s.writeReg off width v).distCore n = s.distCore n := rfl
@[simp] theorem State.reg_setCore (n : Nat) (c : Core) (a : Nat) : (s.setCore n c).reg a = s.reg a := rfl
@[simp] theorem State.fld_setCore (n : Nat) (c : Core) (a : Nat) (f : Fld) : (s.setCore n c).fld a f = s.fld a f := rfl
@[simp] theorem State.flag_setCore (n : Nat) (c : Core) (a : Nat) (f : Fld) : (s.setCore n c).flag a f = s.flag a f := rfl
@[simp] theorem State.slice_setCore (n : Nat) (c : Core) (t : Nat) : (s.setCore n c).slice t = s.slice t := rfl
@[simp] theorem State.byte_setCore (n : Nat) (c : Core) (k : Nat) : (s.setCore n c).byte k = s.byte k := rfl
@[simp] theorem State.hasTile_setCore (n : Nat) (c : Core) (t : Nat) : (s.setCore n c).hasTile t = s.hasTile t := rfl
@[simp] theorem State.hasCore_setCore (n : Nat) (c : Core) (n' : Nat) : (s.setCore n c).hasCore n' = s.hasCore n' := rfl
@[simp] theorem State.hasMc_setCore (n : Nat) (c : Core) (m : Nat) : (s.setCore n c).hasMc m = s.hasMc m := rfl
@[simp] theorem State.hasQuad_setCore (n : Nat) (c : Core) (q : Nat) : (s.setCore n c).hasQuad q = s.hasQuad q := rfl
@[simp] theorem State.hasFe_setCore (n : Nat) (c : Core) (e : Nat) : (s.setCore n c).hasFe e = s.hasFe e := rfl
@[simp] theorem State.hasLdl_setCore (n : Nat) (c : Core) (l : Nat) : (s.setCore n c).hasLdl l = s.hasLdl l := rfl
@[simp] theorem State.hasPort_setCore (n : Nat) (c : Core) (p : Nat) : (s.setCore n c).hasPort p = s.hasPort p := rfl
@[simp] theorem State.ep_setCore (n : Nat) (c : Core) (k : Nat) : (s.setCore n c).ep k = s.ep k := rfl
@[simp] theorem State.link_setCore (n : Nat) (c : Core) (k : Nat) : (s.setCore n c).link k = s.link k := rfl
@[simp] theorem State.router_setCore (n : Nat) (c : Core) (r : Nat) : (s.setCore n c).router r = s.router r := rfl
@[simp] theorem State.src_setCore (n : Nat) (c : Core) (k : Nat) : (s.setCore n c).src k = s.src k := rfl
@[simp] theorem State.distCore_setCore (n : Nat) (c : Core) (n' : Nat) : (s.setCore n c).distCore n' = s.distCore n' := rfl
@[simp] theorem State.epState_setCore (n : Nat) (c : Core) (k : Nat) : (s.setCore n c).epState k = s.epState k := rfl
@[simp] theorem State.now_setCore (n : Nat) (c : Core)  : (s.setCore n c).now = s.now := rfl
@[simp] theorem State.reg_modCore (n : Nat) (f : Core → Core) (a : Nat) : (s.modCore n f).reg a = s.reg a := rfl
@[simp] theorem State.fld_modCore (n : Nat) (f : Core → Core) (a : Nat) (f' : Fld) : (s.modCore n f).fld a f' = s.fld a f' := rfl
@[simp] theorem State.flag_modCore (n : Nat) (f : Core → Core) (a : Nat) (f' : Fld) : (s.modCore n f).flag a f' = s.flag a f' := rfl
@[simp] theorem State.slice_modCore (n : Nat) (f : Core → Core) (t : Nat) : (s.modCore n f).slice t = s.slice t := rfl
@[simp] theorem State.byte_modCore (n : Nat) (f : Core → Core) (k : Nat) : (s.modCore n f).byte k = s.byte k := rfl
@[simp] theorem State.hasTile_modCore (n : Nat) (f : Core → Core) (t : Nat) : (s.modCore n f).hasTile t = s.hasTile t := rfl
@[simp] theorem State.hasCore_modCore (n : Nat) (f : Core → Core) (n' : Nat) : (s.modCore n f).hasCore n' = s.hasCore n' := rfl
@[simp] theorem State.hasMc_modCore (n : Nat) (f : Core → Core) (m : Nat) : (s.modCore n f).hasMc m = s.hasMc m := rfl
@[simp] theorem State.hasQuad_modCore (n : Nat) (f : Core → Core) (q : Nat) : (s.modCore n f).hasQuad q = s.hasQuad q := rfl
@[simp] theorem State.hasFe_modCore (n : Nat) (f : Core → Core) (e : Nat) : (s.modCore n f).hasFe e = s.hasFe e := rfl
@[simp] theorem State.hasLdl_modCore (n : Nat) (f : Core → Core) (l : Nat) : (s.modCore n f).hasLdl l = s.hasLdl l := rfl
@[simp] theorem State.hasPort_modCore (n : Nat) (f : Core → Core) (p : Nat) : (s.modCore n f).hasPort p = s.hasPort p := rfl
@[simp] theorem State.ep_modCore (n : Nat) (f : Core → Core) (k : Nat) : (s.modCore n f).ep k = s.ep k := rfl
@[simp] theorem State.link_modCore (n : Nat) (f : Core → Core) (k : Nat) : (s.modCore n f).link k = s.link k := rfl
@[simp] theorem State.router_modCore (n : Nat) (f : Core → Core) (r : Nat) : (s.modCore n f).router r = s.router r := rfl
@[simp] theorem State.src_modCore (n : Nat) (f : Core → Core) (k : Nat) : (s.modCore n f).src k = s.src k := rfl
@[simp] theorem State.distCore_modCore (n : Nat) (f : Core → Core) (n' : Nat) : (s.modCore n f).distCore n' = s.distCore n' := rfl
@[simp] theorem State.epState_modCore (n : Nat) (f : Core → Core) (k : Nat) : (s.modCore n f).epState k = s.epState k := rfl
@[simp] theorem State.now_modCore (n : Nat) (f : Core → Core)  : (s.modCore n f).now = s.now := rfl
@[simp] theorem State.reg_setSlice (t : Nat) (x : Slice) (a : Nat) : (s.setSlice t x).reg a = s.reg a := rfl
@[simp] theorem State.fld_setSlice (t : Nat) (x : Slice) (a : Nat) (f : Fld) : (s.setSlice t x).fld a f = s.fld a f := rfl
@[simp] theorem State.flag_setSlice (t : Nat) (x : Slice) (a : Nat) (f : Fld) : (s.setSlice t x).flag a f = s.flag a f := rfl
@[simp] theorem State.core_setSlice (t : Nat) (x : Slice) (n : Nat) : (s.setSlice t x).core n = s.core n := rfl
@[simp] theorem State.byte_setSlice (t : Nat) (x : Slice) (k : Nat) : (s.setSlice t x).byte k = s.byte k := rfl
@[simp] theorem State.hasTile_setSlice (t : Nat) (x : Slice) (t' : Nat) : (s.setSlice t x).hasTile t' = s.hasTile t' := rfl
@[simp] theorem State.hasCore_setSlice (t : Nat) (x : Slice) (n : Nat) : (s.setSlice t x).hasCore n = s.hasCore n := rfl
@[simp] theorem State.hasMc_setSlice (t : Nat) (x : Slice) (m : Nat) : (s.setSlice t x).hasMc m = s.hasMc m := rfl
@[simp] theorem State.hasQuad_setSlice (t : Nat) (x : Slice) (q : Nat) : (s.setSlice t x).hasQuad q = s.hasQuad q := rfl
@[simp] theorem State.hasFe_setSlice (t : Nat) (x : Slice) (e : Nat) : (s.setSlice t x).hasFe e = s.hasFe e := rfl
@[simp] theorem State.hasLdl_setSlice (t : Nat) (x : Slice) (l : Nat) : (s.setSlice t x).hasLdl l = s.hasLdl l := rfl
@[simp] theorem State.hasPort_setSlice (t : Nat) (x : Slice) (p : Nat) : (s.setSlice t x).hasPort p = s.hasPort p := rfl
@[simp] theorem State.ep_setSlice (t : Nat) (x : Slice) (k : Nat) : (s.setSlice t x).ep k = s.ep k := rfl
@[simp] theorem State.link_setSlice (t : Nat) (x : Slice) (k : Nat) : (s.setSlice t x).link k = s.link k := rfl
@[simp] theorem State.router_setSlice (t : Nat) (x : Slice) (r : Nat) : (s.setSlice t x).router r = s.router r := rfl
@[simp] theorem State.src_setSlice (t : Nat) (x : Slice) (k : Nat) : (s.setSlice t x).src k = s.src k := rfl
@[simp] theorem State.distCore_setSlice (t : Nat) (x : Slice) (n : Nat) : (s.setSlice t x).distCore n = s.distCore n := rfl
@[simp] theorem State.epState_setSlice (t : Nat) (x : Slice) (k : Nat) : (s.setSlice t x).epState k = s.epState k := rfl
@[simp] theorem State.now_setSlice (t : Nat) (x : Slice)  : (s.setSlice t x).now = s.now := rfl
@[simp] theorem State.reg_modSlice (t : Nat) (f : Slice → Slice) (a : Nat) : (s.modSlice t f).reg a = s.reg a := rfl
@[simp] theorem State.fld_modSlice (t : Nat) (f : Slice → Slice) (a : Nat) (f' : Fld) : (s.modSlice t f).fld a f' = s.fld a f' := rfl
@[simp] theorem State.flag_modSlice (t : Nat) (f : Slice → Slice) (a : Nat) (f' : Fld) : (s.modSlice t f).flag a f' = s.flag a f' := rfl
@[simp] theorem State.core_modSlice (t : Nat) (f : Slice → Slice) (n : Nat) : (s.modSlice t f).core n = s.core n := rfl
@[simp] theorem State.byte_modSlice (t : Nat) (f : Slice → Slice) (k : Nat) : (s.modSlice t f).byte k = s.byte k := rfl
@[simp] theorem State.hasTile_modSlice (t : Nat) (f : Slice → Slice) (t' : Nat) : (s.modSlice t f).hasTile t' = s.hasTile t' := rfl
@[simp] theorem State.hasCore_modSlice (t : Nat) (f : Slice → Slice) (n : Nat) : (s.modSlice t f).hasCore n = s.hasCore n := rfl
@[simp] theorem State.hasMc_modSlice (t : Nat) (f : Slice → Slice) (m : Nat) : (s.modSlice t f).hasMc m = s.hasMc m := rfl
@[simp] theorem State.hasQuad_modSlice (t : Nat) (f : Slice → Slice) (q : Nat) : (s.modSlice t f).hasQuad q = s.hasQuad q := rfl
@[simp] theorem State.hasFe_modSlice (t : Nat) (f : Slice → Slice) (e : Nat) : (s.modSlice t f).hasFe e = s.hasFe e := rfl
@[simp] theorem State.hasLdl_modSlice (t : Nat) (f : Slice → Slice) (l : Nat) : (s.modSlice t f).hasLdl l = s.hasLdl l := rfl
@[simp] theorem State.hasPort_modSlice (t : Nat) (f : Slice → Slice) (p : Nat) : (s.modSlice t f).hasPort p = s.hasPort p := rfl
@[simp] theorem State.ep_modSlice (t : Nat) (f : Slice → Slice) (k : Nat) : (s.modSlice t f).ep k = s.ep k := rfl
@[simp] theorem State.link_modSlice (t : Nat) (f : Slice → Slice) (k : Nat) : (s.modSlice t f).link k = s.link k := rfl
@[simp] theorem State.router_modSlice (t : Nat) (f : Slice → Slice) (r : Nat) : (s.modSlice t f).router r = s.router r := rfl
@[simp] theorem State.src_modSlice (t : Nat) (f : Slice → Slice) (k : Nat) : (s.modSlice t f).src k = s.src k := rfl
@[simp] theorem State.distCore_modSlice (t : Nat) (f : Slice → Slice) (n : Nat) : (s.modSlice t f).distCore n = s.distCore n := rfl
@[simp] theorem State.epState_modSlice (t : Nat) (f : Slice → Slice) (k : Nat) : (s.modSlice t f).epState k = s.epState k := rfl
@[simp] theorem State.now_modSlice (t : Nat) (f : Slice → Slice)  : (s.modSlice t f).now = s.now := rfl
@[simp] theorem State.reg_setEp (k : Nat) (x : Endpoint) (a : Nat) : (s.setEp k x).reg a = s.reg a := rfl
@[simp] theorem State.fld_setEp (k : Nat) (x : Endpoint) (a : Nat) (f : Fld) : (s.setEp k x).fld a f = s.fld a f := rfl
@[simp] theorem State.flag_setEp (k : Nat) (x : Endpoint) (a : Nat) (f : Fld) : (s.setEp k x).flag a f = s.flag a f := rfl
@[simp] theorem State.core_setEp (k : Nat) (x : Endpoint) (n : Nat) : (s.setEp k x).core n = s.core n := rfl
@[simp] theorem State.slice_setEp (k : Nat) (x : Endpoint) (t : Nat) : (s.setEp k x).slice t = s.slice t := rfl
@[simp] theorem State.byte_setEp (k : Nat) (x : Endpoint) (k' : Nat) : (s.setEp k x).byte k' = s.byte k' := rfl
@[simp] theorem State.hasTile_setEp (k : Nat) (x : Endpoint) (t : Nat) : (s.setEp k x).hasTile t = s.hasTile t := rfl
@[simp] theorem State.hasCore_setEp (k : Nat) (x : Endpoint) (n : Nat) : (s.setEp k x).hasCore n = s.hasCore n := rfl
@[simp] theorem State.hasMc_setEp (k : Nat) (x : Endpoint) (m : Nat) : (s.setEp k x).hasMc m = s.hasMc m := rfl
@[simp] theorem State.hasQuad_setEp (k : Nat) (x : Endpoint) (q : Nat) : (s.setEp k x).hasQuad q = s.hasQuad q := rfl
@[simp] theorem State.hasFe_setEp (k : Nat) (x : Endpoint) (e : Nat) : (s.setEp k x).hasFe e = s.hasFe e := rfl
@[simp] theorem State.hasLdl_setEp (k : Nat) (x : Endpoint) (l : Nat) : (s.setEp k x).hasLdl l = s.hasLdl l := rfl
@[simp] theorem State.hasPort_setEp (k : Nat) (x : Endpoint) (p : Nat) : (s.setEp k x).hasPort p = s.hasPort p := rfl
@[simp] theorem State.link_setEp (k : Nat) (x : Endpoint) (k' : Nat) : (s.setEp k x).link k' = s.link k' := rfl
@[simp] theorem State.router_setEp (k : Nat) (x : Endpoint) (r : Nat) : (s.setEp k x).router r = s.router r := rfl
@[simp] theorem State.src_setEp (k : Nat) (x : Endpoint) (k' : Nat) : (s.setEp k x).src k' = s.src k' := rfl
@[simp] theorem State.distCore_setEp (k : Nat) (x : Endpoint) (n : Nat) : (s.setEp k x).distCore n = s.distCore n := rfl
@[simp] theorem State.epState_setEp (k : Nat) (x : Endpoint) (k' : Nat) : (s.setEp k x).epState k' = s.epState k' := rfl
@[simp] theorem State.now_setEp (k : Nat) (x : Endpoint)  : (s.setEp k x).now = s.now := rfl
@[simp] theorem State.reg_setLink (k : Nat) (x : Link) (a : Nat) : (s.setLink k x).reg a = s.reg a := rfl
@[simp] theorem State.fld_setLink (k : Nat) (x : Link) (a : Nat) (f : Fld) : (s.setLink k x).fld a f = s.fld a f := rfl
@[simp] theorem State.flag_setLink (k : Nat) (x : Link) (a : Nat) (f : Fld) : (s.setLink k x).flag a f = s.flag a f := rfl
@[simp] theorem State.core_setLink (k : Nat) (x : Link) (n : Nat) : (s.setLink k x).core n = s.core n := rfl
@[simp] theorem State.slice_setLink (k : Nat) (x : Link) (t : Nat) : (s.setLink k x).slice t = s.slice t := rfl
@[simp] theorem State.byte_setLink (k : Nat) (x : Link) (k' : Nat) : (s.setLink k x).byte k' = s.byte k' := rfl
@[simp] theorem State.hasTile_setLink (k : Nat) (x : Link) (t : Nat) : (s.setLink k x).hasTile t = s.hasTile t := rfl
@[simp] theorem State.hasCore_setLink (k : Nat) (x : Link) (n : Nat) : (s.setLink k x).hasCore n = s.hasCore n := rfl
@[simp] theorem State.hasMc_setLink (k : Nat) (x : Link) (m : Nat) : (s.setLink k x).hasMc m = s.hasMc m := rfl
@[simp] theorem State.hasQuad_setLink (k : Nat) (x : Link) (q : Nat) : (s.setLink k x).hasQuad q = s.hasQuad q := rfl
@[simp] theorem State.hasFe_setLink (k : Nat) (x : Link) (e : Nat) : (s.setLink k x).hasFe e = s.hasFe e := rfl
@[simp] theorem State.hasLdl_setLink (k : Nat) (x : Link) (l : Nat) : (s.setLink k x).hasLdl l = s.hasLdl l := rfl
@[simp] theorem State.hasPort_setLink (k : Nat) (x : Link) (p : Nat) : (s.setLink k x).hasPort p = s.hasPort p := rfl
@[simp] theorem State.ep_setLink (k : Nat) (x : Link) (k' : Nat) : (s.setLink k x).ep k' = s.ep k' := rfl
@[simp] theorem State.router_setLink (k : Nat) (x : Link) (r : Nat) : (s.setLink k x).router r = s.router r := rfl
@[simp] theorem State.src_setLink (k : Nat) (x : Link) (k' : Nat) : (s.setLink k x).src k' = s.src k' := rfl
@[simp] theorem State.distCore_setLink (k : Nat) (x : Link) (n : Nat) : (s.setLink k x).distCore n = s.distCore n := rfl
@[simp] theorem State.epState_setLink (k : Nat) (x : Link) (k' : Nat) : (s.setLink k x).epState k' = s.epState k' := rfl
@[simp] theorem State.now_setLink (k : Nat) (x : Link)  : (s.setLink k x).now = s.now := rfl
@[simp] theorem State.reg_setRouter (r : Nat) (x : Router) (a : Nat) : (s.setRouter r x).reg a = s.reg a := rfl
@[simp] theorem State.fld_setRouter (r : Nat) (x : Router) (a : Nat) (f : Fld) : (s.setRouter r x).fld a f = s.fld a f := rfl
@[simp] theorem State.flag_setRouter (r : Nat) (x : Router) (a : Nat) (f : Fld) : (s.setRouter r x).flag a f = s.flag a f := rfl
@[simp] theorem State.core_setRouter (r : Nat) (x : Router) (n : Nat) : (s.setRouter r x).core n = s.core n := rfl
@[simp] theorem State.slice_setRouter (r : Nat) (x : Router) (t : Nat) : (s.setRouter r x).slice t = s.slice t := rfl
@[simp] theorem State.byte_setRouter (r : Nat) (x : Router) (k : Nat) : (s.setRouter r x).byte k = s.byte k := rfl
@[simp] theorem State.hasTile_setRouter (r : Nat) (x : Router) (t : Nat) : (s.setRouter r x).hasTile t = s.hasTile t := rfl
@[simp] theorem State.hasCore_setRouter (r : Nat) (x : Router) (n : Nat) : (s.setRouter r x).hasCore n = s.hasCore n := rfl
@[simp] theorem State.hasMc_setRouter (r : Nat) (x : Router) (m : Nat) : (s.setRouter r x).hasMc m = s.hasMc m := rfl
@[simp] theorem State.hasQuad_setRouter (r : Nat) (x : Router) (q : Nat) : (s.setRouter r x).hasQuad q = s.hasQuad q := rfl
@[simp] theorem State.hasFe_setRouter (r : Nat) (x : Router) (e : Nat) : (s.setRouter r x).hasFe e = s.hasFe e := rfl
@[simp] theorem State.hasLdl_setRouter (r : Nat) (x : Router) (l : Nat) : (s.setRouter r x).hasLdl l = s.hasLdl l := rfl
@[simp] theorem State.hasPort_setRouter (r : Nat) (x : Router) (p : Nat) : (s.setRouter r x).hasPort p = s.hasPort p := rfl
@[simp] theorem State.ep_setRouter (r : Nat) (x : Router) (k : Nat) : (s.setRouter r x).ep k = s.ep k := rfl
@[simp] theorem State.link_setRouter (r : Nat) (x : Router) (k : Nat) : (s.setRouter r x).link k = s.link k := rfl
@[simp] theorem State.src_setRouter (r : Nat) (x : Router) (k : Nat) : (s.setRouter r x).src k = s.src k := rfl
@[simp] theorem State.distCore_setRouter (r : Nat) (x : Router) (n : Nat) : (s.setRouter r x).distCore n = s.distCore n := rfl
@[simp] theorem State.epState_setRouter (r : Nat) (x : Router) (k : Nat) : (s.setRouter r x).epState k = s.epState k := rfl
@[simp] theorem State.now_setRouter (r : Nat) (x : Router)  : (s.setRouter r x).now = s.now := rfl
@[simp] theorem State.reg_setSrc (k : Nat) (x : Src) (a : Nat) : (s.setSrc k x).reg a = s.reg a := rfl
@[simp] theorem State.fld_setSrc (k : Nat) (x : Src) (a : Nat) (f : Fld) : (s.setSrc k x).fld a f = s.fld a f := rfl
@[simp] theorem State.flag_setSrc (k : Nat) (x : Src) (a : Nat) (f : Fld) : (s.setSrc k x).flag a f = s.flag a f := rfl
@[simp] theorem State.core_setSrc (k : Nat) (x : Src) (n : Nat) : (s.setSrc k x).core n = s.core n := rfl
@[simp] theorem State.slice_setSrc (k : Nat) (x : Src) (t : Nat) : (s.setSrc k x).slice t = s.slice t := rfl
@[simp] theorem State.byte_setSrc (k : Nat) (x : Src) (k' : Nat) : (s.setSrc k x).byte k' = s.byte k' := rfl
@[simp] theorem State.hasTile_setSrc (k : Nat) (x : Src) (t : Nat) : (s.setSrc k x).hasTile t = s.hasTile t := rfl
@[simp] theorem State.hasCore_setSrc (k : Nat) (x : Src) (n : Nat) : (s.setSrc k x).hasCore n = s.hasCore n := rfl
@[simp] theorem State.hasMc_setSrc (k : Nat) (x : Src) (m : Nat) : (s.setSrc k x).hasMc m = s.hasMc m := rfl
@[simp] theorem State.hasQuad_setSrc (k : Nat) (x : Src) (q : Nat) : (s.setSrc k x).hasQuad q = s.hasQuad q := rfl
@[simp] theorem State.hasFe_setSrc (k : Nat) (x : Src) (e : Nat) : (s.setSrc k x).hasFe e = s.hasFe e := rfl
@[simp] theorem State.hasLdl_setSrc (k : Nat) (x : Src) (l : Nat) : (s.setSrc k x).hasLdl l = s.hasLdl l := rfl
@[simp] theorem State.hasPort_setSrc (k : Nat) (x : Src) (p : Nat) : (s.setSrc k x).hasPort p = s.hasPort p := rfl
@[simp] theorem State.ep_setSrc (k : Nat) (x : Src) (k' : Nat) : (s.setSrc k x).ep k' = s.ep k' := rfl
@[simp] theorem State.link_setSrc (k : Nat) (x : Src) (k' : Nat) : (s.setSrc k x).link k' = s.link k' := rfl
@[simp] theorem State.router_setSrc (k : Nat) (x : Src) (r : Nat) : (s.setSrc k x).router r = s.router r := rfl
@[simp] theorem State.epState_setSrc (k : Nat) (x : Src) (k' : Nat) : (s.setSrc k x).epState k' = s.epState k' := rfl
@[simp] theorem State.now_setSrc (k : Nat) (x : Src)  : (s.setSrc k x).now = s.now := rfl
@[simp] theorem State.reg_modSrc (k : Nat) (f : Src → Src) (a : Nat) : (s.modSrc k f).reg a = s.reg a := rfl
@[simp] theorem State.fld_modSrc (k : Nat) (f : Src → Src) (a : Nat) (f' : Fld) : (s.modSrc k f).fld a f' = s.fld a f' := rfl
@[simp] theorem State.flag_modSrc (k : Nat) (f : Src → Src) (a : Nat) (f' : Fld) : (s.modSrc k f).flag a f' = s.flag a f' := rfl
@[simp] theorem State.core_modSrc (k : Nat) (f : Src → Src) (n : Nat) : (s.modSrc k f).core n = s.core n := rfl
@[simp] theorem State.slice_modSrc (k : Nat) (f : Src → Src) (t : Nat) : (s.modSrc k f).slice t = s.slice t := rfl
@[simp] theorem State.byte_modSrc (k : Nat) (f : Src → Src) (k' : Nat) : (s.modSrc k f).byte k' = s.byte k' := rfl
@[simp] theorem State.hasTile_modSrc (k : Nat) (f : Src → Src) (t : Nat) : (s.modSrc k f).hasTile t = s.hasTile t := rfl
@[simp] theorem State.hasCore_modSrc (k : Nat) (f : Src → Src) (n : Nat) : (s.modSrc k f).hasCore n = s.hasCore n := rfl
@[simp] theorem State.hasMc_modSrc (k : Nat) (f : Src → Src) (m : Nat) : (s.modSrc k f).hasMc m = s.hasMc m := rfl
@[simp] theorem State.hasQuad_modSrc (k : Nat) (f : Src → Src) (q : Nat) : (s.modSrc k f).hasQuad q = s.hasQuad q := rfl
@[simp] theorem State.hasFe_modSrc (k : Nat) (f : Src → Src) (e : Nat) : (s.modSrc k f).hasFe e = s.hasFe e := rfl
@[simp] theorem State.hasLdl_modSrc (k : Nat) (f : Src → Src) (l : Nat) : (s.modSrc k f).hasLdl l = s.hasLdl l := rfl
@[simp] theorem State.hasPort_modSrc (k : Nat) (f : Src → Src) (p : Nat) : (s.modSrc k f).hasPort p = s.hasPort p := rfl
@[simp] theorem State.ep_modSrc (k : Nat) (f : Src → Src) (k' : Nat) : (s.modSrc k f).ep k' = s.ep k' := rfl
@[simp] theorem State.link_modSrc (k : Nat) (f : Src → Src) (k' : Nat) : (s.modSrc k f).link k' = s.link k' := rfl
@[simp] theorem State.router_modSrc (k : Nat) (f : Src → Src) (r : Nat) : (s.modSrc k f).router r = s.router r := rfl
@[simp] theorem State.epState_modSrc (k : Nat) (f : Src → Src) (k' : Nat) : (s.modSrc k f).epState k' = s.epState k' := rfl
@[simp] theorem State.now_modSrc (k : Nat) (f : Src → Src)  : (s.modSrc k f).now = s.now := rfl
@[simp] theorem State.reg_setDistCore (n : Nat) (x : DistCore) (a : Nat) : (s.setDistCore n x).reg a = s.reg a := rfl
@[simp] theorem State.fld_setDistCore (n : Nat) (x : DistCore) (a : Nat) (f : Fld) : (s.setDistCore n x).fld a f = s.fld a f := rfl
@[simp] theorem State.flag_setDistCore (n : Nat) (x : DistCore) (a : Nat) (f : Fld) : (s.setDistCore n x).flag a f = s.flag a f := rfl
@[simp] theorem State.core_setDistCore (n : Nat) (x : DistCore) (n' : Nat) : (s.setDistCore n x).core n' = s.core n' := rfl
@[simp] theorem State.slice_setDistCore (n : Nat) (x : DistCore) (t : Nat) : (s.setDistCore n x).slice t = s.slice t := rfl
@[simp] theorem State.byte_setDistCore (n : Nat) (x : DistCore) (k : Nat) : (s.setDistCore n x).byte k = s.byte k := rfl
@[simp] theorem State.hasTile_setDistCore (n : Nat) (x : DistCore) (t : Nat) : (s.setDistCore n x).hasTile t = s.hasTile t := rfl
@[simp] theorem State.hasCore_setDistCore (n : Nat) (x : DistCore) (n' : Nat) : (s.setDistCore n x).hasCore n' = s.hasCore n' := rfl
@[simp] theorem State.hasMc_setDistCore (n : Nat) (x : DistCore) (m : Nat) : (s.setDistCore n x).hasMc m = s.hasMc m := rfl
@[simp] theorem State.hasQuad_setDistCore (n : Nat) (x : DistCore) (q : Nat) : (s.setDistCore n x).hasQuad q = s.hasQuad q := rfl
@[simp] theorem State.hasFe_setDistCore (n : Nat) (x : DistCore) (e : Nat) : (s.setDistCore n x).hasFe e = s.hasFe e := rfl
@[simp] theorem State.hasLdl_setDistCore (n : Nat) (x : DistCore) (l : Nat) : (s.setDistCore n x).hasLdl l = s.hasLdl l := rfl
@[simp] theorem State.hasPort_setDistCore (n : Nat) (x : DistCore) (p : Nat) : (s.setDistCore n x).hasPort p = s.hasPort p := rfl
@[simp] theorem State.ep_setDistCore (n : Nat) (x : DistCore) (k : Nat) : (s.setDistCore n x).ep k = s.ep k := rfl
@[simp] theorem State.link_setDistCore (n : Nat) (x : DistCore) (k : Nat) : (s.setDistCore n x).link k = s.link k := rfl
@[simp] theorem State.router_setDistCore (n : Nat) (x : DistCore) (r : Nat) : (s.setDistCore n x).router r = s.router r := rfl
@[simp] theorem State.epState_setDistCore (n : Nat) (x : DistCore) (k : Nat) : (s.setDistCore n x).epState k = s.epState k := rfl
@[simp] theorem State.now_setDistCore (n : Nat) (x : DistCore)  : (s.setDistCore n x).now = s.now := rfl
@[simp] theorem State.reg_send (m : Msg) (a : Nat) : (s.send m).reg a = s.reg a := rfl
@[simp] theorem State.fld_send (m : Msg) (a : Nat) (f : Fld) : (s.send m).fld a f = s.fld a f := rfl
@[simp] theorem State.flag_send (m : Msg) (a : Nat) (f : Fld) : (s.send m).flag a f = s.flag a f := rfl
@[simp] theorem State.core_send (m : Msg) (n : Nat) : (s.send m).core n = s.core n := rfl
@[simp] theorem State.slice_send (m : Msg) (t : Nat) : (s.send m).slice t = s.slice t := rfl
@[simp] theorem State.byte_send (m : Msg) (k : Nat) : (s.send m).byte k = s.byte k := rfl
@[simp] theorem State.hasTile_send (m : Msg) (t : Nat) : (s.send m).hasTile t = s.hasTile t := rfl
@[simp] theorem State.hasCore_send (m : Msg) (n : Nat) : (s.send m).hasCore n = s.hasCore n := rfl
@[simp] theorem State.hasMc_send (m : Msg) (m' : Nat) : (s.send m).hasMc m' = s.hasMc m' := rfl
@[simp] theorem State.hasQuad_send (m : Msg) (q : Nat) : (s.send m).hasQuad q = s.hasQuad q := rfl
@[simp] theorem State.hasFe_send (m : Msg) (e : Nat) : (s.send m).hasFe e = s.hasFe e := rfl
@[simp] theorem State.hasLdl_send (m : Msg) (l : Nat) : (s.send m).hasLdl l = s.hasLdl l := rfl
@[simp] theorem State.hasPort_send (m : Msg) (p : Nat) : (s.send m).hasPort p = s.hasPort p := rfl
@[simp] theorem State.ep_send (m : Msg) (k : Nat) : (s.send m).ep k = s.ep k := rfl
@[simp] theorem State.link_send (m : Msg) (k : Nat) : (s.send m).link k = s.link k := rfl
@[simp] theorem State.router_send (m : Msg) (r : Nat) : (s.send m).router r = s.router r := rfl
@[simp] theorem State.src_send (m : Msg) (k : Nat) : (s.send m).src k = s.src k := rfl
@[simp] theorem State.distCore_send (m : Msg) (n : Nat) : (s.send m).distCore n = s.distCore n := rfl
@[simp] theorem State.epState_send (m : Msg) (k : Nat) : (s.send m).epState k = s.epState k := rfl
@[simp] theorem State.now_send (m : Msg)  : (s.send m).now = s.now := rfl
@[simp] theorem State.reg_sendAll (l : List Msg) (a : Nat) : (s.sendAll l).reg a = s.reg a := rfl
@[simp] theorem State.fld_sendAll (l : List Msg) (a : Nat) (f : Fld) : (s.sendAll l).fld a f = s.fld a f := rfl
@[simp] theorem State.flag_sendAll (l : List Msg) (a : Nat) (f : Fld) : (s.sendAll l).flag a f = s.flag a f := rfl
@[simp] theorem State.core_sendAll (l : List Msg) (n : Nat) : (s.sendAll l).core n = s.core n := rfl
@[simp] theorem State.slice_sendAll (l : List Msg) (t : Nat) : (s.sendAll l).slice t = s.slice t := rfl
@[simp] theorem State.byte_sendAll (l : List Msg) (k : Nat) : (s.sendAll l).byte k = s.byte k := rfl
@[simp] theorem State.hasTile_sendAll (l : List Msg) (t : Nat) : (s.sendAll l).hasTile t = s.hasTile t := rfl
@[simp] theorem State.hasCore_sendAll (l : List Msg) (n : Nat) : (s.sendAll l).hasCore n = s.hasCore n := rfl
@[simp] theorem State.hasMc_sendAll (l : List Msg) (m : Nat) : (s.sendAll l).hasMc m = s.hasMc m := rfl
@[simp] theorem State.hasQuad_sendAll (l : List Msg) (q : Nat) : (s.sendAll l).hasQuad q = s.hasQuad q := rfl
@[simp] theorem State.hasFe_sendAll (l : List Msg) (e : Nat) : (s.sendAll l).hasFe e = s.hasFe e := rfl
@[simp] theorem State.hasLdl_sendAll (l : List Msg) (l' : Nat) : (s.sendAll l).hasLdl l' = s.hasLdl l' := rfl
@[simp] theorem State.hasPort_sendAll (l : List Msg) (p : Nat) : (s.sendAll l).hasPort p = s.hasPort p := rfl
@[simp] theorem State.ep_sendAll (l : List Msg) (k : Nat) : (s.sendAll l).ep k = s.ep k := rfl
@[simp] theorem State.link_sendAll (l : List Msg) (k : Nat) : (s.sendAll l).link k = s.link k := rfl
@[simp] theorem State.router_sendAll (l : List Msg) (r : Nat) : (s.sendAll l).router r = s.router r := rfl
@[simp] theorem State.src_sendAll (l : List Msg) (k : Nat) : (s.sendAll l).src k = s.src k := rfl
@[simp] theorem State.distCore_sendAll (l : List Msg) (n : Nat) : (s.sendAll l).distCore n = s.distCore n := rfl
@[simp] theorem State.epState_sendAll (l : List Msg) (k : Nat) : (s.sendAll l).epState k = s.epState k := rfl
@[simp] theorem State.now_sendAll (l : List Msg)  : (s.sendAll l).now = s.now := rfl
@[simp] theorem State.reg_recv (m : Msg) (a : Nat) : (s.recv m).reg a = s.reg a := rfl
@[simp] theorem State.fld_recv (m : Msg) (a : Nat) (f : Fld) : (s.recv m).fld a f = s.fld a f := rfl
@[simp] theorem State.flag_recv (m : Msg) (a : Nat) (f : Fld) : (s.recv m).flag a f = s.flag a f := rfl
@[simp] theorem State.core_recv (m : Msg) (n : Nat) : (s.recv m).core n = s.core n := rfl
@[simp] theorem State.slice_recv (m : Msg) (t : Nat) : (s.recv m).slice t = s.slice t := rfl
@[simp] theorem State.byte_recv (m : Msg) (k : Nat) : (s.recv m).byte k = s.byte k := rfl
@[simp] theorem State.hasTile_recv (m : Msg) (t : Nat) : (s.recv m).hasTile t = s.hasTile t := rfl
@[simp] theorem State.hasCore_recv (m : Msg) (n : Nat) : (s.recv m).hasCore n = s.hasCore n := rfl
@[simp] theorem State.hasMc_recv (m : Msg) (m' : Nat) : (s.recv m).hasMc m' = s.hasMc m' := rfl
@[simp] theorem State.hasQuad_recv (m : Msg) (q : Nat) : (s.recv m).hasQuad q = s.hasQuad q := rfl
@[simp] theorem State.hasFe_recv (m : Msg) (e : Nat) : (s.recv m).hasFe e = s.hasFe e := rfl
@[simp] theorem State.hasLdl_recv (m : Msg) (l : Nat) : (s.recv m).hasLdl l = s.hasLdl l := rfl
@[simp] theorem State.hasPort_recv (m : Msg) (p : Nat) : (s.recv m).hasPort p = s.hasPort p := rfl
@[simp] theorem State.ep_recv (m : Msg) (k : Nat) : (s.recv m).ep k = s.ep k := rfl
@[simp] theorem State.link_recv (m : Msg) (k : Nat) : (s.recv m).link k = s.link k := rfl
@[simp] theorem State.router_recv (m : Msg) (r : Nat) : (s.recv m).router r = s.router r := rfl
@[simp] theorem State.src_recv (m : Msg) (k : Nat) : (s.recv m).src k = s.src k := rfl
@[simp] theorem State.distCore_recv (m : Msg) (n : Nat) : (s.recv m).distCore n = s.distCore n := rfl
@[simp] theorem State.epState_recv (m : Msg) (k : Nat) : (s.recv m).epState k = s.epState k := rfl
@[simp] theorem State.now_recv (m : Msg)  : (s.recv m).now = s.now := rfl
@[simp] theorem State.reg_detect (e : ErrEvent) (a : Nat) : (s.detect e).reg a = s.reg a := rfl
@[simp] theorem State.fld_detect (e : ErrEvent) (a : Nat) (f : Fld) : (s.detect e).fld a f = s.fld a f := rfl
@[simp] theorem State.flag_detect (e : ErrEvent) (a : Nat) (f : Fld) : (s.detect e).flag a f = s.flag a f := rfl
@[simp] theorem State.core_detect (e : ErrEvent) (n : Nat) : (s.detect e).core n = s.core n := rfl
@[simp] theorem State.slice_detect (e : ErrEvent) (t : Nat) : (s.detect e).slice t = s.slice t := rfl
@[simp] theorem State.byte_detect (e : ErrEvent) (k : Nat) : (s.detect e).byte k = s.byte k := rfl
@[simp] theorem State.hasTile_detect (e : ErrEvent) (t : Nat) : (s.detect e).hasTile t = s.hasTile t := rfl
@[simp] theorem State.hasCore_detect (e : ErrEvent) (n : Nat) : (s.detect e).hasCore n = s.hasCore n := rfl
@[simp] theorem State.hasMc_detect (e : ErrEvent) (m : Nat) : (s.detect e).hasMc m = s.hasMc m := rfl
@[simp] theorem State.hasQuad_detect (e : ErrEvent) (q : Nat) : (s.detect e).hasQuad q = s.hasQuad q := rfl
@[simp] theorem State.hasFe_detect (e : ErrEvent) (e' : Nat) : (s.detect e).hasFe e' = s.hasFe e' := rfl
@[simp] theorem State.hasLdl_detect (e : ErrEvent) (l : Nat) : (s.detect e).hasLdl l = s.hasLdl l := rfl
@[simp] theorem State.hasPort_detect (e : ErrEvent) (p : Nat) : (s.detect e).hasPort p = s.hasPort p := rfl
@[simp] theorem State.ep_detect (e : ErrEvent) (k : Nat) : (s.detect e).ep k = s.ep k := rfl
@[simp] theorem State.link_detect (e : ErrEvent) (k : Nat) : (s.detect e).link k = s.link k := rfl
@[simp] theorem State.router_detect (e : ErrEvent) (r : Nat) : (s.detect e).router r = s.router r := rfl
@[simp] theorem State.src_detect (e : ErrEvent) (k : Nat) : (s.detect e).src k = s.src k := rfl
@[simp] theorem State.distCore_detect (e : ErrEvent) (n : Nat) : (s.detect e).distCore n = s.distCore n := rfl
@[simp] theorem State.epState_detect (e : ErrEvent) (k : Nat) : (s.detect e).epState k = s.epState k := rfl
@[simp] theorem State.now_detect (e : ErrEvent)  : (s.detect e).now = s.now := rfl
@[simp] theorem State.reg_setByte (k : Nat) (b : Byte) (p : Bool) (a : Nat) : (s.setByte k b p).reg a = s.reg a := rfl
@[simp] theorem State.fld_setByte (k : Nat) (b : Byte) (p : Bool) (a : Nat) (f : Fld) : (s.setByte k b p).fld a f = s.fld a f := rfl
@[simp] theorem State.flag_setByte (k : Nat) (b : Byte) (p : Bool) (a : Nat) (f : Fld) : (s.setByte k b p).flag a f = s.flag a f := rfl
@[simp] theorem State.core_setByte (k : Nat) (b : Byte) (p : Bool) (n : Nat) : (s.setByte k b p).core n = s.core n := rfl
@[simp] theorem State.slice_setByte (k : Nat) (b : Byte) (p : Bool) (t : Nat) : (s.setByte k b p).slice t = s.slice t := rfl
@[simp] theorem State.hasTile_setByte (k : Nat) (b : Byte) (p : Bool) (t : Nat) : (s.setByte k b p).hasTile t = s.hasTile t := rfl
@[simp] theorem State.hasCore_setByte (k : Nat) (b : Byte) (p : Bool) (n : Nat) : (s.setByte k b p).hasCore n = s.hasCore n := rfl
@[simp] theorem State.hasMc_setByte (k : Nat) (b : Byte) (p : Bool) (m : Nat) : (s.setByte k b p).hasMc m = s.hasMc m := rfl
@[simp] theorem State.hasQuad_setByte (k : Nat) (b : Byte) (p : Bool) (q : Nat) : (s.setByte k b p).hasQuad q = s.hasQuad q := rfl
@[simp] theorem State.hasFe_setByte (k : Nat) (b : Byte) (p : Bool) (e : Nat) : (s.setByte k b p).hasFe e = s.hasFe e := rfl
@[simp] theorem State.hasLdl_setByte (k : Nat) (b : Byte) (p : Bool) (l : Nat) : (s.setByte k b p).hasLdl l = s.hasLdl l := rfl
@[simp] theorem State.hasPort_setByte (k : Nat) (b : Byte) (p : Bool) (p' : Nat) : (s.setByte k b p).hasPort p' = s.hasPort p' := rfl
@[simp] theorem State.ep_setByte (k : Nat) (b : Byte) (p : Bool) (k' : Nat) : (s.setByte k b p).ep k' = s.ep k' := rfl
@[simp] theorem State.link_setByte (k : Nat) (b : Byte) (p : Bool) (k' : Nat) : (s.setByte k b p).link k' = s.link k' := rfl
@[simp] theorem State.router_setByte (k : Nat) (b : Byte) (p : Bool) (r : Nat) : (s.setByte k b p).router r = s.router r := rfl
@[simp] theorem State.src_setByte (k : Nat) (b : Byte) (p : Bool) (k' : Nat) : (s.setByte k b p).src k' = s.src k' := rfl
@[simp] theorem State.distCore_setByte (k : Nat) (b : Byte) (p : Bool) (n : Nat) : (s.setByte k b p).distCore n = s.distCore n := rfl
@[simp] theorem State.epState_setByte (k : Nat) (b : Byte) (p : Bool) (k' : Nat) : (s.setByte k b p).epState k' = s.epState k' := rfl
@[simp] theorem State.now_setByte (k : Nat) (b : Byte) (p : Bool)  : (s.setByte k b p).now = s.now := rfl
@[simp] theorem State.reg_zeroRange (k n : Nat) (a : Nat) : (s.zeroRange k n).reg a = s.reg a := rfl
@[simp] theorem State.fld_zeroRange (k n : Nat) (a : Nat) (f : Fld) : (s.zeroRange k n).fld a f = s.fld a f := rfl
@[simp] theorem State.flag_zeroRange (k n : Nat) (a : Nat) (f : Fld) : (s.zeroRange k n).flag a f = s.flag a f := rfl
@[simp] theorem State.core_zeroRange (k n : Nat) (n' : Nat) : (s.zeroRange k n).core n' = s.core n' := rfl
@[simp] theorem State.slice_zeroRange (k n : Nat) (t : Nat) : (s.zeroRange k n).slice t = s.slice t := rfl
@[simp] theorem State.hasTile_zeroRange (k n : Nat) (t : Nat) : (s.zeroRange k n).hasTile t = s.hasTile t := rfl
@[simp] theorem State.hasCore_zeroRange (k n : Nat) (n' : Nat) : (s.zeroRange k n).hasCore n' = s.hasCore n' := rfl
@[simp] theorem State.hasMc_zeroRange (k n : Nat) (m : Nat) : (s.zeroRange k n).hasMc m = s.hasMc m := rfl
@[simp] theorem State.hasQuad_zeroRange (k n : Nat) (q : Nat) : (s.zeroRange k n).hasQuad q = s.hasQuad q := rfl
@[simp] theorem State.hasFe_zeroRange (k n : Nat) (e : Nat) : (s.zeroRange k n).hasFe e = s.hasFe e := rfl
@[simp] theorem State.hasLdl_zeroRange (k n : Nat) (l : Nat) : (s.zeroRange k n).hasLdl l = s.hasLdl l := rfl
@[simp] theorem State.hasPort_zeroRange (k n : Nat) (p : Nat) : (s.zeroRange k n).hasPort p = s.hasPort p := rfl
@[simp] theorem State.ep_zeroRange (k n : Nat) (k' : Nat) : (s.zeroRange k n).ep k' = s.ep k' := rfl
@[simp] theorem State.link_zeroRange (k n : Nat) (k' : Nat) : (s.zeroRange k n).link k' = s.link k' := rfl
@[simp] theorem State.router_zeroRange (k n : Nat) (r : Nat) : (s.zeroRange k n).router r = s.router r := rfl
@[simp] theorem State.src_zeroRange (k n : Nat) (k' : Nat) : (s.zeroRange k n).src k' = s.src k' := rfl
@[simp] theorem State.distCore_zeroRange (k n : Nat) (n' : Nat) : (s.zeroRange k n).distCore n' = s.distCore n' := rfl
@[simp] theorem State.epState_zeroRange (k n : Nat) (k' : Nat) : (s.zeroRange k n).epState k' = s.epState k' := rfl
@[simp] theorem State.now_zeroRange (k n : Nat)  : (s.zeroRange k n).now = s.now := rfl

end Sys2Proof.Machine
end

