-- ==== Sys2Proof/Laws/Memory.lean ====
section
/-!
SUPPORT. Memory: every operation keeps the canonical form; what is read after a write; and what a range operation leaves alone.
-/
namespace Sys2Proof.Machine

/-! ### The canonical form -/

theorem State.setByte_wf (s : State) (k : Nat) (b : Byte) (p : Bool) (h : Memory.wf s.mem = true) : Memory.wf (s.setByte k b p).mem = true :=
  Tbl.wf_set memDefault s.mem k b h

theorem State.setBytes_wf (bs : List Byte) (s : State) (k : Nat) (h : Memory.wf s.mem = true) : Memory.wf (s.setBytes k bs).mem = true := by
  induction bs generalizing s k with
  | nil => exact h
  | cons b r ih => exact ih _ _ (s.setByte_wf k b false h)

theorem State.setBytesP_wf (bs : List Byte) (ps : List Bool) (s : State) (k : Nat) (h : Memory.wf s.mem = true) :
    Memory.wf (s.setBytesP k bs ps).mem = true := by
  induction bs generalizing s k ps with
  | nil => exact h
  | cons b r ih =>
    cases ps with
    | nil => exact ih [] _ _ (s.setByte_wf k b false h)
    | cons p q => exact ih q _ _ (s.setByte_wf k b p h)

theorem State.setWords_wf (ws : List Word) (s : State) (k : Nat) (h : Memory.wf s.mem = true) : Memory.wf (s.setWords k ws).mem = true :=
  State.setBytes_wf _ s k h

theorem State.zeroRange_wf (s : State) (k n : Nat) (h : Memory.wf s.mem = true) : Memory.wf (s.zeroRange k n).mem = true := by
  simp only [State.zeroRange, Memory.wf] at h ⊢
  exact Tbl.wf_filter _ _ _ h

theorem foldl_wf {β : Type} (f : State → β → State) (hf : ∀ s b, Memory.wf s.mem = true → Memory.wf (f s b).mem = true) (l : List β) (s : State)
    (h : Memory.wf s.mem = true) : Memory.wf (l.foldl f s).mem = true := by
  induction l generalizing s with
  | nil => exact h
  | cons b r ih => exact ih _ (hf s b h)

theorem State.copyRange_wf (s : State) (k k2 n : Nat) (h : Memory.wf s.mem = true) : Memory.wf (s.copyRange k k2 n).mem = true := by
  refine foldl_wf _ ?_ _ _ ?_
  · intro s c h; exact h
  · exact foldl_wf _ (fun s c h => s.setByte_wf _ _ _ h) _ _ (s.zeroRange_wf k2 n h)

/-! ### Reading after a write -/

/-- Bytes written over a range read back in order, and every byte outside the range is left alone. -/
theorem State.byte_setBytes (bs : List Byte) (s : State) (k j : Nat) :
    (s.setBytes k bs).byte j = if k ≤ j ∧ j < k + bs.length then bs.getD (j - k) 0 else s.byte j := by
  induction bs generalizing s k with
  | nil =>
    have : ¬ (k ≤ j ∧ j < k + 0) := by omega
    rw [if_neg (by simp)]; rfl
  | cons b r ih =>
    rw [State.setBytes, ih, State.byte_setByte]
    by_cases h1 : j = k
    · subst h1
      have : ¬ (j + 1 ≤ j ∧ j < j + 1 + r.length) := by omega
      simp [this]
    · by_cases h2 : k ≤ j ∧ j < k + (b :: r).length
      · have h3 : k + 1 ≤ j ∧ j < k + 1 + r.length := by simp only [List.length_cons] at h2; omega
        rw [if_pos h3, if_pos h2]
        have e : j - k = (j - (k + 1)) + 1 := by omega
        rw [e]
        simp
      · have h3 : ¬ (k + 1 ≤ j ∧ j < k + 1 + r.length) := by simp only [List.length_cons] at h2; omega
        rw [if_neg h3, if_neg h1, if_neg h2]

theorem filter_get {α : Type} (d : Nat → α) (p : Nat × α → Bool) (q : Nat → Bool) (hp : ∀ e, p e = q e.1) (t : Tbl α) (k : Nat) :
    Tbl.get d (t.filter p) k = if q k then Tbl.get d t k else d k := by
  induction t with
  | nil => simp [Tbl.get]
  | cons e r ih =>
    obtain ⟨a, v⟩ := e
    by_cases ha : q a = true
    · rw [List.filter_cons, if_pos (by rw [hp]; exact ha)]
      by_cases hk : a = k
      · subst hk; simp [Tbl.get, ha]
      · simp only [Tbl.get, if_neg hk, ih]
    · rw [List.filter_cons, if_neg (by rw [hp]; exact ha), ih]
      by_cases hk : a = k
      · subst hk; simp [ha]
      · simp only [Tbl.get, if_neg hk]

/-- A zeroed range reads zero; every byte outside it is left alone. -/
theorem State.byte_zeroRange (s : State) (k n j : Nat) : (s.zeroRange k n).byte j = if k ≤ j ∧ j < k + n then 0 else s.byte j := by
  have h := filter_get memDefault (fun c => !(decide (k ≤ c.1) && decide (c.1 < k + n))) (fun a => !(decide (k ≤ a) && decide (a < k + n)))
    (fun _ => rfl) s.mem j
  show Tbl.get memDefault (s.mem.filter _) j = _
  rw [h]
  by_cases hj : k ≤ j ∧ j < k + n
  · simp [hj, memDefault]
  · rw [if_neg hj]
    have : (!(decide (k ≤ j) && decide (j < k + n))) = true := by
      by_cases a : k ≤ j <;> by_cases b : j < k + n <;> simp [a, b]
      exact hj ⟨a, b⟩
    rw [if_pos this]; rfl

end Sys2Proof.Machine
end

