-- ==== Sys2Proof/Laws/Keeps.lean ====
section
/-!
SUPPORT. What a function of the state can change, said once for each of them: `K get m s v` says that the state in `v` differs from `s` only in the parts whose
bits `m` sets, and that the canonical forms of memory and registers are kept. The other files Keeps*.lean hold one such lemma per function, and one per
command; this file holds the rules they are put together with.
-/
namespace Sys2Proof.Machine

/-- From `s` to `t` only the parts of `m` change, and the canonical forms are kept. -/
structure Keeps (m : Nat) (s t : State) : Prop where
  same : ∀ p : Part, m.testBit p.idx = false → p.same s t
  canon : s.Canonical → t.Canonical

def gS (t : State) : Option State := some t
def g1 {α : Type} (q : State × α) : Option State := some q.1
def g2 {α : Type} (q : α × State) : Option State := some q.2
def g3 {α β : Type} (q : α × β × State) : Option State := some q.2.2
def gO (q : Option State) : Option State := q
def gO2 {α : Type} (q : Option (α × State)) : Option State := q.map (·.2)
def gO3 {α β : Type} (q : Option (α × β × State)) : Option State := q.map (·.2.2)
def gE3 {ε α β : Type} : Except ε (Option (α × β × State)) → Option State
  | .ok q => gO3 q
  | .error _ => none
def gR : Res → Option State
  | .next t => some t
  | _ => none
def gV : VOut → Option State
  | .done t => some t
  | .trap t _ _ => some t
  | .poison t _ _ => some t
  | .wait t _ => some t
def gM (r : MntRun) : Option State := some r.s

/-- The state in `v`, if there is one, is kept. -/
def K {T : Type} (get : T → Option State) (m : Nat) (s : State) (v : T) : Prop := ∀ t, get v = some t → Keeps m s t

section
variable {T U α β ε : Type} {get : T → Option State} {get2 : U → Option State} {w m : Nat} {s x y : State}

theorem sub_testBit (h : w &&& m = m) (i : Nat) (hw : w.testBit i = false) : m.testBit i = false := by
  have : (w &&& m).testBit i = m.testBit i := by rw [h]
  rw [Nat.testBit_and, hw] at this
  simpa using this.symm

theorem sub_trans {k : Nat} (h : w &&& m = m) (h2 : m &&& k = k) : w &&& k = k := by
  rw [← h2, ← Nat.and_assoc, h]

theorem Part.same_trans (p : Part) (h : p.same s x) (h2 : p.same x y) : p.same s y := by
  cases p <;> exact Eq.trans h2 h

theorem Part.same_refl (p : Part) : p.same s s := by cases p <;> rfl

theorem Keeps.refl : Keeps w s s := ⟨fun p _ => p.same_refl, id⟩

theorem Keeps.trans (h : Keeps w s x) (h2 : Keeps m x y) (e : w &&& m = m) : Keeps w s y :=
  ⟨fun p hp => p.same_trans (h.same p hp) (h2.same p (sub_testBit e _ hp)), fun c => h2.canon (h.canon c)⟩

theorem K.refl : K gS w s s := fun _ h => by cases h; exact Keeps.refl
theorem K.keeps (h : K gS w s x) : Keeps w s x := h x rfl
theorem K.of (h : Keeps w s x) : K gS w s x := fun _ e => by cases e; exact h

theorem K.step {v : T} (h : K gS w s x) (h2 : K get m x v) (e : w &&& m = m) : K get w s v :=
  fun t ht => h.keeps.trans (h2 t ht) e

theorem K.letS {v : State} {b : State → T} (h : K gS w s v) (hb : ∀ x, K gS w s x → K get w s (b x)) : K get w s (let x := v; b x) := hb v h
theorem K.letQ {v : U} {b : U → T} (h : K get2 w s v) (hb : ∀ x, K get2 w s x → K get w s (b x)) : K get w s (let x := v; b x) := hb v h
theorem K.letA {δ : Sort _} {v : δ} {b : δ → T} (hb : ∀ x, K get w s (b x)) : K get w s (let x := v; b x) := hb v
theorem K.ite {c : Prop} [Decidable c] {a b : T} (ha : c → K get w s a) (hb : ¬c → K get w s b) : K get w s (if c then a else b) := by
  by_cases h : c
  · rw [if_pos h]; exact ha h
  · rw [if_neg h]; exact hb h

theorem K.of1 {q : State × α} (h : K g1 w s q) : K gS w s q.1 := fun t e => h t e
theorem K.of2 {q : α × State} (h : K g2 w s q) : K gS w s q.2 := fun t e => h t e
theorem K.of3 {q : α × β × State} (h : K g3 w s q) : K gS w s q.2.2 := fun t e => h t e
theorem K.ofM {q : MntRun} (h : K gM w s q) : K gS w s q.s := fun t e => h t e
theorem K.mk1 {a : α} (h : K gS w s x) : K g1 w s (x, a) := fun t e => h t e
theorem K.mk2 {a : α} (h : K gS w s x) : K g2 w s (a, x) := fun t e => h t e
theorem K.mk3 {a : α} {b : β} (h : K gS w s x) : K g3 w s (a, b, x) := fun t e => h t e
theorem K.mkO (h : K gS w s x) : K gO w s (some x) := fun t e => h t e
theorem K.mkO2 {q : α × State} (h : K g2 w s q) : K gO2 w s (some q) := fun t e => h t e
theorem K.mkO3 {q : α × β × State} (h : K g3 w s q) : K gO3 w s (some q) := fun t e => h t e
theorem K.mkE3 {q : Option (α × β × State)} (h : K gO3 w s q) : K (gE3 (ε := ε)) w s (.ok q) := fun t e => h t e
theorem K.mkR (h : K gS w s x) : K gR w s (.next x) := fun t e => h t e
theorem K.noneO : K gO w s none := fun _ e => by cases e
theorem K.noneO2 : K (gO2 (α := α)) w s none := fun _ e => by cases e
theorem K.noneO3 : K (gO3 (α := α) (β := β)) w s none := fun _ e => by cases e
theorem K.error {e : ε} : K (gE3 (ε := ε) (α := α) (β := β)) w s (.error e) := fun _ h => by cases h
theorem K.fault {e : Fault} : K gR w s (.fault e) := fun _ h => by cases h
theorem K.refused {e : Refusal} : K gR w s (.refused e) := fun _ h => by cases h
theorem K.vdone (h : K gS w s x) : K gV w s (.done x) := fun t e => h t e
theorem K.vtrap {i : Nat} {t : TrapInfo} (h : K gS w s x) : K gV w s (.trap x i t) := fun t e => h t e
theorem K.vpoison {i j : Nat} (h : K gS w s x) : K gV w s (.poison x i j) := fun t e => h t e
theorem K.vwait {i : Nat} (h : K gS w s x) : K gV w s (.wait x i) := fun t e => h t e
theorem K.someO {v : Option State} (h : K gO w s v) (e : v = some x) : K gS w s x := fun t ht => h t (by rw [e]; exact ht)
theorem K.someO2 {v : Option (α × State)} {q : α × State} (h : K gO2 w s v) (e : v = some q) : K g2 w s q := fun t ht => h t (by rw [e]; exact ht)
theorem K.someO3 {v : Option (α × β × State)} {q : α × β × State} (h : K gO3 w s v) (e : v = some q) : K g3 w s q :=
  fun t ht => h t (by rw [e]; exact ht)
theorem K.okE3 {v : Except ε (Option (α × β × State))} {q : Option (α × β × State)} (h : K gE3 w s v) (e : v = .ok q) : K gO3 w s q :=
  fun t ht => h t (by rw [e]; exact ht)
theorem K.fst1 {q : State × α} {a : α} (h : K g1 w s q) (e : q = (x, a)) : K gS w s x := fun t ht => h t (by rw [e]; exact ht)
theorem K.snd2 {q : α × State} {a : α} (h : K g2 w s q) (e : q = (a, x)) : K gS w s x := fun t ht => h t (by rw [e]; exact ht)
theorem K.res {r : Res} (h : K gR w s r) (e : r = .next x) : K gS w s x := fun t ht => h t (by rw [e]; exact ht)
theorem K.voS {r q : VOut} (h : K gV w s r) (e : r = q) (e2 : gV q = some x) : K gS w s x := fun t ht => by cases ht; exact h _ (by rw [e]; exact e2)
theorem K.vo {r q : VOut} (h : K gV w s r) (e : r = q) : K gV w s q := e ▸ h

theorem K.letP {δ : Sort _} {P : δ → Prop} {v : δ} {b : δ → T} (h : P v) (hb : ∀ x, P x → K get w s (b x)) : K get w s (let x := v; b x) := hb v h
theorem K.mk32 {a : α} {q : β × State} (h : K g2 w s q) : K g3 w s (a, q) := fun t e => h t e
theorem K.mkM {a b : Option Nat} (h : K gS w s x) : K gM w s ⟨x, a, b⟩ := fun t e => h t e
theorem K.someO3S {v : Option (α × β × State)} {a : α} {b : β} (h : K gO3 w s v) (e : v = some (a, b, x)) : K gS w s x :=
  fun t ht => h t (by rw [e]; exact ht)
theorem K.of32 {q : α × β × State} (h : K g3 w s q) : K g2 w s q.2 := fun t e => h t e
theorem K.getD {v : Option State} (h : K gO w s v) (hx : K gS w s x) : K gS w s (v.getD x) := by
  cases v with
  | none => exact hx
  | some y => exact fun t e => h t e

theorem K.foldl {f : State → α → State} {l : List α} (h : K gS w s x) (hf : ∀ y a, K gS w s y → K gS w s (f y a)) : K gS w s (l.foldl f x) := by
  induction l generalizing x with
  | nil => exact h
  | cons a r ih => exact ih (hf x a h)
theorem K.foldl1 {f : State × β → α → State × β} {l : List α} {x : State × β} (h : K g1 w s x) (hf : ∀ y a, K g1 w s y → K g1 w s (f y a)) :
    K g1 w s (l.foldl f x) := by
  induction l generalizing x with
  | nil => exact h
  | cons a r ih => exact ih (hf x a h)
theorem K.foldl2 {f : β × State → α → β × State} {l : List α} {x : β × State} (h : K g2 w s x) (hf : ∀ y a, K g2 w s y → K g2 w s (f y a)) :
    K g2 w s (l.foldl f x) := by
  induction l generalizing x with
  | nil => exact h
  | cons a r ih => exact ih (hf x a h)
theorem K.foldl3 {γ : Type} {f : β × γ × State → α → β × γ × State} {l : List α} {x : β × γ × State} (h : K g3 w s x)
    (hf : ∀ y a, K g3 w s y → K g3 w s (f y a)) : K g3 w s (l.foldl f x) := by
  induction l generalizing x with
  | nil => exact h
  | cons a r ih => exact ih (hf x a h)
theorem K.foldlM {f : MntRun → α → MntRun} {l : List α} {x : MntRun} (h : K gM w s x) (hf : ∀ y a, K gM w s y → K gM w s (f y a)) :
    K gM w s (l.foldl f x) := by
  induction l generalizing x with
  | nil => exact h
  | cons a r ih => exact ih (hf x a h)

theorem K.orSame {r : Res} (h : K gS w s x) (hr : K gR w s r) : K gS w s (Sys2Proof.Machine.orSame x r) := by
  cases r with
  | next t => exact K.of (hr t rfl)
  | fault _ => exact h
  | refused _ => exact h
end

/-! ### Updates of fields -/

theorem K.upd1 {w : Nat} {s x : State} {v0} (h : K gS w s x) (e : w &&& 1 = 1) : K gS w s { x with fuse := v0 } :=
  K.step h (K.of ⟨fun p hp => by cases p <;> first | rfl | exact absurd hp (by decide), fun c => c⟩) e
theorem K.upd2 {w : Nat} {s x : State} {v0} (h : K gS w s x) (e : w &&& 2 = 2) : K gS w s { x with fresh := v0 } :=
  K.step h (K.of ⟨fun p hp => by cases p <;> first | rfl | exact absurd hp (by decide), fun c => c⟩) e
theorem K.upd16 {w : Nat} {s x : State} {v0} (h : K gS w s x) (e : w &&& 16 = 16) : K gS w s { x with memPoison := v0 } :=
  K.step h (K.of ⟨fun p hp => by cases p <;> first | rfl | exact absurd hp (by decide), fun c => c⟩) e
theorem K.upd32 {w : Nat} {s x : State} {v0} (h : K gS w s x) (e : w &&& 32 = 32) : K gS w s { x with cores := v0 } :=
  K.step h (K.of ⟨fun p hp => by cases p <;> first | rfl | exact absurd hp (by decide), fun c => c⟩) e
theorem K.upd64 {w : Nat} {s x : State} {v0} (h : K gS w s x) (e : w &&& 64 = 64) : K gS w s { x with slices := v0 } :=
  K.step h (K.of ⟨fun p hp => by cases p <;> first | rfl | exact absurd hp (by decide), fun c => c⟩) e
theorem K.upd128 {w : Nat} {s x : State} {v0} (h : K gS w s x) (e : w &&& 128 = 128) : K gS w s { x with tileMnt := v0 } :=
  K.step h (K.of ⟨fun p hp => by cases p <;> first | rfl | exact absurd hp (by decide), fun c => c⟩) e
theorem K.upd256 {w : Nat} {s x : State} {v0} (h : K gS w s x) (e : w &&& 256 = 256) : K gS w s { x with decode := v0 } :=
  K.step h (K.of ⟨fun p hp => by cases p <;> first | rfl | exact absurd hp (by decide), fun c => c⟩) e
theorem K.upd512 {w : Nat} {s x : State} {v0} (h : K gS w s x) (e : w &&& 512 = 512) : K gS w s { x with net := v0 } :=
  K.step h (K.of ⟨fun p hp => by cases p <;> first | rfl | exact absurd hp (by decide), fun c => c⟩) e
theorem K.upd1024 {w : Nat} {s x : State} {v0} (h : K gS w s x) (e : w &&& 1024 = 1024) : K gS w s { x with endpoints := v0 } :=
  K.step h (K.of ⟨fun p hp => by cases p <;> first | rfl | exact absurd hp (by decide), fun c => c⟩) e
theorem K.upd2048 {w : Nat} {s x : State} {v0} (h : K gS w s x) (e : w &&& 2048 = 2048) : K gS w s { x with links := v0 } :=
  K.step h (K.of ⟨fun p hp => by cases p <;> first | rfl | exact absurd hp (by decide), fun c => c⟩) e
theorem K.upd4096 {w : Nat} {s x : State} {v0} (h : K gS w s x) (e : w &&& 4096 = 4096) : K gS w s { x with routers := v0 } :=
  K.step h (K.of ⟨fun p hp => by cases p <;> first | rfl | exact absurd hp (by decide), fun c => c⟩) e
theorem K.upd8192 {w : Nat} {s x : State} {v0} (h : K gS w s x) (e : w &&& 8192 = 8192) : K gS w s { x with partEbb := v0 } :=
  K.step h (K.of ⟨fun p hp => by cases p <;> first | rfl | exact absurd hp (by decide), fun c => c⟩) e
theorem K.upd15488 {w : Nat} {s x : State} {v0 v1 v2 v3 v4} (h : K gS w s x) (e : w &&& 15488 = 15488) : K gS w s { x with tileMnt := v0, endpoints := v1, links := v2, routers := v3, partEbb := v4 } :=
  K.step h (K.of ⟨fun p hp => by cases p <;> first | rfl | exact absurd hp (by decide), fun c => c⟩) e
theorem K.upd16384 {w : Nat} {s x : State} {v0} (h : K gS w s x) (e : w &&& 16384 = 16384) : K gS w s { x with chans := v0 } :=
  K.step h (K.of ⟨fun p hp => by cases p <;> first | rfl | exact absurd hp (by decide), fun c => c⟩) e
theorem K.upd32768 {w : Nat} {s x : State} {v0} (h : K gS w s x) (e : w &&& 32768 = 32768) : K gS w s { x with memTok := v0 } :=
  K.step h (K.of ⟨fun p hp => by cases p <;> first | rfl | exact absurd hp (by decide), fun c => c⟩) e
theorem K.upd65536 {w : Nat} {s x : State} {v0} (h : K gS w s x) (e : w &&& 65536 = 65536) : K gS w s { x with time := v0 } :=
  K.step h (K.of ⟨fun p hp => by cases p <;> first | rfl | exact absurd hp (by decide), fun c => c⟩) e
theorem K.upd131072 {w : Nat} {s x : State} {v0} (h : K gS w s x) (e : w &&& 131072 = 131072) : K gS w s { x with lanes := v0 } :=
  K.step h (K.of ⟨fun p hp => by cases p <;> first | rfl | exact absurd hp (by decide), fun c => c⟩) e
theorem K.upd262144 {w : Nat} {s x : State} {v0} (h : K gS w s x) (e : w &&& 262144 = 262144) : K gS w s { x with fast := v0 } :=
  K.step h (K.of ⟨fun p hp => by cases p <;> first | rfl | exact absurd hp (by decide), fun c => c⟩) e
theorem K.upd524288 {w : Nat} {s x : State} {v0} (h : K gS w s x) (e : w &&& 524288 = 524288) : K gS w s { x with stns := v0 } :=
  K.step h (K.of ⟨fun p hp => by cases p <;> first | rfl | exact absurd hp (by decide), fun c => c⟩) e
theorem K.upd1048576 {w : Nat} {s x : State} {v0} (h : K gS w s x) (e : w &&& 1048576 = 1048576) : K gS w s { x with imgs := v0 } :=
  K.step h (K.of ⟨fun p hp => by cases p <;> first | rfl | exact absurd hp (by decide), fun c => c⟩) e
theorem K.upd2097152 {w : Nat} {s x : State} {v0} (h : K gS w s x) (e : w &&& 2097152 = 2097152) : K gS w s { x with tabs := v0 } :=
  K.step h (K.of ⟨fun p hp => by cases p <;> first | rfl | exact absurd hp (by decide), fun c => c⟩) e
theorem K.upd4194304 {w : Nat} {s x : State} {v0} (h : K gS w s x) (e : w &&& 4194304 = 4194304) : K gS w s { x with fes := v0 } :=
  K.step h (K.of ⟨fun p hp => by cases p <;> first | rfl | exact absurd hp (by decide), fun c => c⟩) e
theorem K.upd8388608 {w : Nat} {s x : State} {v0} (h : K gS w s x) (e : w &&& 8388608 = 8388608) : K gS w s { x with fns := v0 } :=
  K.step h (K.of ⟨fun p hp => by cases p <;> first | rfl | exact absurd hp (by decide), fun c => c⟩) e
theorem K.upd16515072 {w : Nat} {s x : State} {v0 v1 v2 v3 v4 v5} (h : K gS w s x) (e : w &&& 16515072 = 16515072) : K gS w s { x with fast := v0, stns := v1, imgs := v2, tabs := v3, fes := v4, fns := v5 } :=
  K.step h (K.of ⟨fun p hp => by cases p <;> first | rfl | exact absurd hp (by decide), fun c => c⟩) e
theorem K.upd16777216 {w : Nat} {s x : State} {v0} (h : K gS w s x) (e : w &&& 16777216 = 16777216) : K gS w s { x with ldls := v0 } :=
  K.step h (K.of ⟨fun p hp => by cases p <;> first | rfl | exact absurd hp (by decide), fun c => c⟩) e
theorem K.upd33554432 {w : Nat} {s x : State} {v0} (h : K gS w s x) (e : w &&& 33554432 = 33554432) : K gS w s { x with ldlEngs := v0 } :=
  K.step h (K.of ⟨fun p hp => by cases p <;> first | rfl | exact absurd hp (by decide), fun c => c⟩) e
theorem K.upd50331648 {w : Nat} {s x : State} {v0 v1} (h : K gS w s x) (e : w &&& 50331648 = 50331648) : K gS w s { x with ldls := v0, ldlEngs := v1 } :=
  K.step h (K.of ⟨fun p hp => by cases p <;> first | rfl | exact absurd hp (by decide), fun c => c⟩) e
theorem K.upd67108864 {w : Nat} {s x : State} {v0} (h : K gS w s x) (e : w &&& 67108864 = 67108864) : K gS w s { x with pwr := v0 } :=
  K.step h (K.of ⟨fun p hp => by cases p <;> first | rfl | exact absurd hp (by decide), fun c => c⟩) e
theorem K.upd134217728 {w : Nat} {s x : State} {v0} (h : K gS w s x) (e : w &&& 134217728 = 134217728) : K gS w s { x with svc := v0 } :=
  K.step h (K.of ⟨fun p hp => by cases p <;> first | rfl | exact absurd hp (by decide), fun c => c⟩) e
theorem K.upd134217729 {w : Nat} {s x : State} {v0 v1} (h : K gS w s x) (e : w &&& 134217729 = 134217729) : K gS w s { x with fuse := v0, svc := v1 } :=
  K.step h (K.of ⟨fun p hp => by cases p <;> first | rfl | exact absurd hp (by decide), fun c => c⟩) e
theorem K.upd201327104 {w : Nat} {s x : State} {v0 v1 v2} (h : K gS w s x) (e : w &&& 201327104 = 201327104) : K gS w s { x with net := v0, pwr := v1, svc := v2 } :=
  K.step h (K.of ⟨fun p hp => by cases p <;> first | rfl | exact absurd hp (by decide), fun c => c⟩) e
theorem K.upd268435456 {w : Nat} {s x : State} {v0} (h : K gS w s x) (e : w &&& 268435456 = 268435456) : K gS w s { x with hif := v0 } :=
  K.step h (K.of ⟨fun p hp => by cases p <;> first | rfl | exact absurd hp (by decide), fun c => c⟩) e
theorem K.upd536870912 {w : Nat} {s x : State} {v0} (h : K gS w s x) (e : w &&& 536870912 = 536870912) : K gS w s { x with ident := v0 } :=
  K.step h (K.of ⟨fun p hp => by cases p <;> first | rfl | exact absurd hp (by decide), fun c => c⟩) e
theorem K.upd536870914 {w : Nat} {s x : State} {v0 v1} (h : K gS w s x) (e : w &&& 536870914 = 536870914) : K gS w s { x with fresh := v0, ident := v1 } :=
  K.step h (K.of ⟨fun p hp => by cases p <;> first | rfl | exact absurd hp (by decide), fun c => c⟩) e
theorem K.upd1073741824 {w : Nat} {s x : State} {v0} (h : K gS w s x) (e : w &&& 1073741824 = 1073741824) : K gS w s { x with tap := v0 } :=
  K.step h (K.of ⟨fun p hp => by cases p <;> first | rfl | exact absurd hp (by decide), fun c => c⟩) e
theorem K.upd2147483648 {w : Nat} {s x : State} {v0} (h : K gS w s x) (e : w &&& 2147483648 = 2147483648) : K gS w s { x with dist := v0 } :=
  K.step h (K.of ⟨fun p hp => by cases p <;> first | rfl | exact absurd hp (by decide), fun c => c⟩) e
theorem K.upd2214592512 {w : Nat} {s x : State} {v0 v1} (h : K gS w s x) (e : w &&& 2214592512 = 2214592512) : K gS w s { x with pwr := v0, dist := v1 } :=
  K.step h (K.of ⟨fun p hp => by cases p <;> first | rfl | exact absurd hp (by decide), fun c => c⟩) e
theorem K.upd4294967296 {w : Nat} {s x : State} {v0} (h : K gS w s x) (e : w &&& 4294967296 = 4294967296) : K gS w s { x with retainPrst := v0 } :=
  K.step h (K.of ⟨fun p hp => by cases p <;> first | rfl | exact absurd hp (by decide), fun c => c⟩) e
theorem K.upd4362076160 {w : Nat} {s x : State} {v0 v1} (h : K gS w s x) (e : w &&& 4362076160 = 4362076160) : K gS w s { x with pwr := v0, retainPrst := v1 } :=
  K.step h (K.of ⟨fun p hp => by cases p <;> first | rfl | exact absurd hp (by decide), fun c => c⟩) e
theorem K.upd6442450976 {w : Nat} {s x : State} {v0 v1 v2} (h : K gS w s x) (e : w &&& 6442450976 = 6442450976) : K gS w s { x with cores := v0, dist := v1, retainPrst := v2 } :=
  K.step h (K.of ⟨fun p hp => by cases p <;> first | rfl | exact absurd hp (by decide), fun c => c⟩) e
theorem K.upd8589934592 {w : Nat} {s x : State} {v0} (h : K gS w s x) (e : w &&& 8589934592 = 8589934592) : K gS w s { x with errq := v0 } :=
  K.step h (K.of ⟨fun p hp => by cases p <;> first | rfl | exact absurd hp (by decide), fun c => c⟩) e
theorem K.upd17179869184 {w : Nat} {s x : State} {v0} (h : K gS w s x) (e : w &&& 17179869184 = 17179869184) : K gS w s { x with errlog := v0 } :=
  K.step h (K.of ⟨fun p hp => by cases p <;> first | rfl | exact absurd hp (by decide), fun c => c⟩) e
theorem K.upd34359738368 {w : Nat} {s x : State} {v0} (h : K gS w s x) (e : w &&& 34359738368 = 34359738368) : K gS w s { x with lastRead := v0 } :=
  K.step h (K.of ⟨fun p hp => by cases p <;> first | rfl | exact absurd hp (by decide), fun c => c⟩) e
theorem K.upd70866960387 {w : Nat} {s x : State} {v0 v1 v2 v3} (h : K gS w s x) (e : w &&& 70866960387 = 70866960387) : K gS w s { x with fuse := v0, fresh := v1, dist := v2, pending := v3 } :=
  K.step h (K.of ⟨fun p hp => by cases p <;> first | rfl | exact absurd hp (by decide), fun c => c⟩) e

end Sys2Proof.Machine
end

