-- ==== Sys2Proof/Laws/CoreKeeps.lean ====
section
/-!
SUPPORT. What a function of a core's state can change, as Laws/Keeps.lean says it of the whole state: `CK gC m c d` says that `d` differs from `c` only in the
fields whose bits `m` sets.
-/
namespace Sys2Proof.Machine

/-- The fields of a core, in their order. -/
inductive CorePart where
  | run | level | pc | x | fr | vr | csr | slack | stores | loads | amos | devs
  | castAcks | mbxSent | resv | resvAge | entry | offers | mcPending | slipPending | slipDepth | switch | pairCopy | tlb
  | s2 | itlb | dtlb | tlbib | tlbRecv | l1i | l1d | l2 | evb | req | pred
  deriving DecidableEq, Repr

def CorePart.idx : CorePart → Nat
  | .run => 0 | .level => 1 | .pc => 2 | .x => 3 | .fr => 4 | .vr => 5 | .csr => 6 | .slack => 7
  | .stores => 8 | .loads => 9 | .amos => 10 | .devs => 11 | .castAcks => 12 | .mbxSent => 13 | .resv => 14 | .resvAge => 15
  | .entry => 16 | .offers => 17 | .mcPending => 18 | .slipPending => 19 | .slipDepth => 20 | .switch => 21 | .pairCopy => 22 | .tlb => 23
  | .s2 => 24 | .itlb => 25 | .dtlb => 26 | .tlbib => 27 | .tlbRecv => 28 | .l1i => 29 | .l1d => 30 | .l2 => 31
  | .evb => 32 | .req => 33 | .pred => 34

def CorePart.same (c d : Core) : CorePart → Prop
  | .run => d.run = c.run
  | .level => d.level = c.level
  | .pc => d.pc = c.pc
  | .x => d.x = c.x
  | .fr => d.fr = c.fr
  | .vr => d.vr = c.vr
  | .csr => d.csr = c.csr
  | .slack => d.slack = c.slack
  | .stores => d.stores = c.stores
  | .loads => d.loads = c.loads
  | .amos => d.amos = c.amos
  | .devs => d.devs = c.devs
  | .castAcks => d.castAcks = c.castAcks
  | .mbxSent => d.mbxSent = c.mbxSent
  | .resv => d.resv = c.resv
  | .resvAge => d.resvAge = c.resvAge
  | .entry => d.entry = c.entry
  | .offers => d.offers = c.offers
  | .mcPending => d.mcPending = c.mcPending
  | .slipPending => d.slipPending = c.slipPending
  | .slipDepth => d.slipDepth = c.slipDepth
  | .switch => d.switch = c.switch
  | .pairCopy => d.pairCopy = c.pairCopy
  | .tlb => d.tlb = c.tlb
  | .s2 => d.s2 = c.s2
  | .itlb => d.itlb = c.itlb
  | .dtlb => d.dtlb = c.dtlb
  | .tlbib => d.tlbib = c.tlbib
  | .tlbRecv => d.tlbRecv = c.tlbRecv
  | .l1i => d.l1i = c.l1i
  | .l1d => d.l1d = c.l1d
  | .l2 => d.l2 = c.l2
  | .evb => d.evb = c.evb
  | .req => d.req = c.req
  | .pred => d.pred = c.pred

def gC (c : Core) : Option Core := some c

/-- From `c` to the core in `v` only the fields of `m` change. -/
def CK {T : Type} (get : T → Option Core) (m : Nat) (c : Core) (v : T) : Prop :=
  ∀ d, get v = some d → ∀ p : CorePart, m.testBit p.idx = false → p.same c d

section
variable {α : Type} {w m : Nat} {s x y : Core}

theorem CorePart.same_refl (p : CorePart) : p.same s s := by cases p <;> rfl
theorem CorePart.same_trans (p : CorePart) (h : p.same s x) (h2 : p.same x y) : p.same s y := by
  cases p <;> exact Eq.trans h2 h
theorem CK.refl : CK gC w s s := fun _ h p _ => by cases h; exact p.same_refl
theorem CK.same (h : CK gC w s x) (p : CorePart) (hp : w.testBit p.idx = false) : p.same s x := h x rfl p hp
theorem CK.of (h : ∀ p : CorePart, w.testBit p.idx = false → p.same s x) : CK gC w s x := fun _ e => by cases e; exact h
theorem CK.step (h : CK gC w s x) (h2 : CK gC m x y) (e : w &&& m = m) : CK gC w s y :=
  CK.of fun p hp => p.same_trans (h.same p hp) (h2.same p (sub_testBit e _ hp))
theorem CK.ite {c : Prop} [Decidable c] {a b : Core} (ha : c → CK gC w s a) (hb : ¬c → CK gC w s b) : CK gC w s (if c then a else b) := by
  by_cases h : c
  · rw [if_pos h]; exact ha h
  · rw [if_neg h]; exact hb h
theorem CK.foldl {f : Core → α → Core} {l : List α} (h : CK gC w s x) (hf : ∀ y a, CK gC w s y → CK gC w s (f y a)) : CK gC w s (l.foldl f x) := by
  induction l generalizing x with
  | nil => exact h
  | cons a r ih => exact ih (hf x a h)
theorem CK.run (h : CK gC w s x) (e : w.testBit 0 = false) : x.run = s.run := h.same .run e
theorem CK.level (h : CK gC w s x) (e : w.testBit 1 = false) : x.level = s.level := h.same .level e
theorem CK.pc (h : CK gC w s x) (e : w.testBit 2 = false) : x.pc = s.pc := h.same .pc e
theorem CK.xr (h : CK gC w s x) (e : w.testBit 3 = false) : x.x = s.x := h.same .x e
theorem CK.fr (h : CK gC w s x) (e : w.testBit 4 = false) : x.fr = s.fr := h.same .fr e
theorem CK.vr (h : CK gC w s x) (e : w.testBit 5 = false) : x.vr = s.vr := h.same .vr e
theorem CK.csr (h : CK gC w s x) (e : w.testBit 6 = false) : x.csr = s.csr := h.same .csr e
theorem CK.slack (h : CK gC w s x) (e : w.testBit 7 = false) : x.slack = s.slack := h.same .slack e
theorem CK.stores (h : CK gC w s x) (e : w.testBit 8 = false) : x.stores = s.stores := h.same .stores e
theorem CK.loads (h : CK gC w s x) (e : w.testBit 9 = false) : x.loads = s.loads := h.same .loads e
theorem CK.amos (h : CK gC w s x) (e : w.testBit 10 = false) : x.amos = s.amos := h.same .amos e
theorem CK.devs (h : CK gC w s x) (e : w.testBit 11 = false) : x.devs = s.devs := h.same .devs e
theorem CK.castAcks (h : CK gC w s x) (e : w.testBit 12 = false) : x.castAcks = s.castAcks := h.same .castAcks e
theorem CK.mbxSent (h : CK gC w s x) (e : w.testBit 13 = false) : x.mbxSent = s.mbxSent := h.same .mbxSent e
theorem CK.resv (h : CK gC w s x) (e : w.testBit 14 = false) : x.resv = s.resv := h.same .resv e
theorem CK.resvAge (h : CK gC w s x) (e : w.testBit 15 = false) : x.resvAge = s.resvAge := h.same .resvAge e
theorem CK.entry (h : CK gC w s x) (e : w.testBit 16 = false) : x.entry = s.entry := h.same .entry e
theorem CK.offers (h : CK gC w s x) (e : w.testBit 17 = false) : x.offers = s.offers := h.same .offers e
theorem CK.mcPending (h : CK gC w s x) (e : w.testBit 18 = false) : x.mcPending = s.mcPending := h.same .mcPending e
theorem CK.slipPending (h : CK gC w s x) (e : w.testBit 19 = false) : x.slipPending = s.slipPending := h.same .slipPending e
theorem CK.slipDepth (h : CK gC w s x) (e : w.testBit 20 = false) : x.slipDepth = s.slipDepth := h.same .slipDepth e
theorem CK.switch (h : CK gC w s x) (e : w.testBit 21 = false) : x.switch = s.switch := h.same .switch e
theorem CK.pairCopy (h : CK gC w s x) (e : w.testBit 22 = false) : x.pairCopy = s.pairCopy := h.same .pairCopy e
theorem CK.tlb (h : CK gC w s x) (e : w.testBit 23 = false) : x.tlb = s.tlb := h.same .tlb e
theorem CK.s2 (h : CK gC w s x) (e : w.testBit 24 = false) : x.s2 = s.s2 := h.same .s2 e
theorem CK.itlb (h : CK gC w s x) (e : w.testBit 25 = false) : x.itlb = s.itlb := h.same .itlb e
theorem CK.dtlb (h : CK gC w s x) (e : w.testBit 26 = false) : x.dtlb = s.dtlb := h.same .dtlb e
theorem CK.tlbib (h : CK gC w s x) (e : w.testBit 27 = false) : x.tlbib = s.tlbib := h.same .tlbib e
theorem CK.tlbRecv (h : CK gC w s x) (e : w.testBit 28 = false) : x.tlbRecv = s.tlbRecv := h.same .tlbRecv e
theorem CK.l1i (h : CK gC w s x) (e : w.testBit 29 = false) : x.l1i = s.l1i := h.same .l1i e
theorem CK.l1d (h : CK gC w s x) (e : w.testBit 30 = false) : x.l1d = s.l1d := h.same .l1d e
theorem CK.l2 (h : CK gC w s x) (e : w.testBit 31 = false) : x.l2 = s.l2 := h.same .l2 e
theorem CK.evb (h : CK gC w s x) (e : w.testBit 32 = false) : x.evb = s.evb := h.same .evb e
theorem CK.req (h : CK gC w s x) (e : w.testBit 33 = false) : x.req = s.req := h.same .req e
theorem CK.pred (h : CK gC w s x) (e : w.testBit 34 = false) : x.pred = s.pred := h.same .pred e
end

theorem CK.upd4 {w : Nat} {s x : Core} {v0} (h : CK gC w s x) (e : w &&& 4 = 4) : CK gC w s { x with pc := v0 } :=
  CK.step h (CK.of fun p hp => by cases p <;> first | rfl | exact absurd hp (by decide)) e
theorem CK.upd8 {w : Nat} {s x : Core} {v0} (h : CK gC w s x) (e : w &&& 8 = 8) : CK gC w s { x with x := v0 } :=
  CK.step h (CK.of fun p hp => by cases p <;> first | rfl | exact absurd hp (by decide)) e
theorem CK.upd16 {w : Nat} {s x : Core} {v0} (h : CK gC w s x) (e : w &&& 16 = 16) : CK gC w s { x with fr := v0 } :=
  CK.step h (CK.of fun p hp => by cases p <;> first | rfl | exact absurd hp (by decide)) e
theorem CK.upd32 {w : Nat} {s x : Core} {v0} (h : CK gC w s x) (e : w &&& 32 = 32) : CK gC w s { x with vr := v0 } :=
  CK.step h (CK.of fun p hp => by cases p <;> first | rfl | exact absurd hp (by decide)) e
theorem CK.upd64 {w : Nat} {s x : Core} {v0} (h : CK gC w s x) (e : w &&& 64 = 64) : CK gC w s { x with csr := v0 } :=
  CK.step h (CK.of fun p hp => by cases p <;> first | rfl | exact absurd hp (by decide)) e
theorem CK.upd126 {w : Nat} {s x : Core} {v0 v1 v2 v3 v4 v5} (h : CK gC w s x) (e : w &&& 126 = 126) : CK gC w s { x with level := v0, pc := v1, x := v2, fr := v3, vr := v4, csr := v5 } :=
  CK.step h (CK.of fun p hp => by cases p <;> first | rfl | exact absurd hp (by decide)) e
theorem CK.upd128 {w : Nat} {s x : Core} {v0} (h : CK gC w s x) (e : w &&& 128 = 128) : CK gC w s { x with slack := v0 } :=
  CK.step h (CK.of fun p hp => by cases p <;> first | rfl | exact absurd hp (by decide)) e
theorem CK.upd256 {w : Nat} {s x : Core} {v0} (h : CK gC w s x) (e : w &&& 256 = 256) : CK gC w s { x with stores := v0 } :=
  CK.step h (CK.of fun p hp => by cases p <;> first | rfl | exact absurd hp (by decide)) e
theorem CK.upd1097734 {w : Nat} {s x : Core} {v0 v1 v2 v3 v4} (h : CK gC w s x) (e : w &&& 1097734 = 1097734) : CK gC w s { x with level := v0, pc := v1, resv := v2, resvAge := v3, slipDepth := v4 } :=
  CK.step h (CK.of fun p hp => by cases p <;> first | rfl | exact absurd hp (by decide)) e
theorem CK.upd1114118 {w : Nat} {s x : Core} {v0 v1 v2 v3} (h : CK gC w s x) (e : w &&& 1114118 = 1114118) : CK gC w s { x with level := v0, pc := v1, entry := v2, slipDepth := v3 } :=
  CK.step h (CK.of fun p hp => by cases p <;> first | rfl | exact absurd hp (by decide)) e
theorem CK.upd8388608 {w : Nat} {s x : Core} {v0} (h : CK gC w s x) (e : w &&& 8388608 = 8388608) : CK gC w s { x with tlb := v0 } :=
  CK.step h (CK.of fun p hp => by cases p <;> first | rfl | exact absurd hp (by decide)) e
theorem CK.upd16777216 {w : Nat} {s x : Core} {v0} (h : CK gC w s x) (e : w &&& 16777216 = 16777216) : CK gC w s { x with s2 := v0 } :=
  CK.step h (CK.of fun p hp => by cases p <;> first | rfl | exact absurd hp (by decide)) e
theorem CK.upd100663296 {w : Nat} {s x : Core} {v0 v1} (h : CK gC w s x) (e : w &&& 100663296 = 100663296) : CK gC w s { x with itlb := v0, dtlb := v1 } :=
  CK.step h (CK.of fun p hp => by cases p <;> first | rfl | exact absurd hp (by decide)) e
theorem CK.upd1610629120 {w : Nat} {s x : Core} {v0 v1 v2} (h : CK gC w s x) (e : w &&& 1610629120 = 1610629120) : CK gC w s { x with resv := v0, l1i := v1, l1d := v2 } :=
  CK.step h (CK.of fun p hp => by cases p <;> first | rfl | exact absurd hp (by decide)) e
theorem CK.upd2147483648 {w : Nat} {s x : Core} {v0} (h : CK gC w s x) (e : w &&& 2147483648 = 2147483648) : CK gC w s { x with l2 := v0 } :=
  CK.step h (CK.of fun p hp => by cases p <;> first | rfl | exact absurd hp (by decide)) e
theorem CK.upd4294967296 {w : Nat} {s x : Core} {v0} (h : CK gC w s x) (e : w &&& 4294967296 = 4294967296) : CK gC w s { x with evb := v0 } :=
  CK.step h (CK.of fun p hp => by cases p <;> first | rfl | exact absurd hp (by decide)) e
theorem CK.upd8589934592 {w : Nat} {s x : Core} {v0} (h : CK gC w s x) (e : w &&& 8589934592 = 8589934592) : CK gC w s { x with req := v0 } :=
  CK.step h (CK.of fun p hp => by cases p <;> first | rfl | exact absurd hp (by decide)) e
theorem CK.upd17179869184 {w : Nat} {s x : Core} {v0} (h : CK gC w s x) (e : w &&& 17179869184 = 17179869184) : CK gC w s { x with pred := v0 } :=
  CK.step h (CK.of fun p hp => by cases p <;> first | rfl | exact absurd hp (by decide)) e
theorem CK.upd17179901952 {w : Nat} {s x : Core} {v0 v1} (h : CK gC w s x) (e : w &&& 17179901952 = 17179901952) : CK gC w s { x with resvAge := v0, pred := v1 } :=
  CK.step h (CK.of fun p hp => by cases p <;> first | rfl | exact absurd hp (by decide)) e

theorem Core.wf_ck : ∀ a0 a1 a2, CK gC 16 a0 (Core.wf a0 a1 a2) := by
  intro a0 a1 a2
  unfold Core.wf
  refine CK.upd16 ?_ rfl
  exact CK.refl

theorem Core.wv_ck : ∀ a0 a1 a2, CK gC 32 a0 (Core.wv a0 a1 a2) := by
  intro a0 a1 a2
  unfold Core.wv
  refine CK.upd32 ?_ rfl
  exact CK.refl

theorem Core.wx_ck : ∀ a0 a1 a2, CK gC 8 a0 (Core.wx a0 a1 a2) := by
  intro a0 a1 a2
  unfold Core.wx
  refine CK.ite (fun _ => ?_) (fun _ => ?_)
  · exact CK.refl
  · refine CK.upd8 ?_ rfl
    exact CK.refl

theorem Core.setCsr_ck : ∀ a0 a1 a2, CK gC 64 a0 (Core.setCsr a0 a1 a2) := by
  intro a0 a1 a2
  unfold Core.setCsr
  refine CK.upd64 ?_ rfl
  exact CK.refl

theorem Core.addCounter_ck : ∀ a0 a1 a2, CK gC 64 a0 (Core.addCounter a0 a1 a2) := by
  intro a0 a1 a2
  unfold Core.addCounter
  extract_lets +onlyGivenNames -underBinder -merge -useContext x0
  clear_value x0
  extract_lets +onlyGivenNames -underBinder -merge -useContext x1
  have h2 : CK gC 64 a0 x1 := by
    refine CK.step ?_ (Core.setCsr_ck _ _ _) rfl
    exact CK.refl
  clear_value x1
  refine CK.ite (fun _ => ?_) (fun _ => ?_)
  · refine CK.step ?_ (Core.setCsr_ck _ _ _) rfl
    exact h2
  · exact h2

theorem Core.addCycles_ck : ∀ a0 a1, CK gC 64 a0 (Core.addCycles a0 a1) := by
  intro a0 a1
  unfold Core.addCycles
  refine CK.ite (fun _ => ?_) (fun _ => ?_)
  · exact CK.refl
  · refine CK.step ?_ (Core.setCsr_ck _ _ _) rfl
    exact CK.refl

theorem Core.contextChange_ck : ∀ a0, CK gC 17179869184 a0 (Core.contextChange a0) := by
  intro a0
  unfold Core.contextChange
  refine CK.upd17179869184 ?_ rfl
  exact CK.refl

theorem Core.contextFrom_ck {w : Nat} {s : Core} : ∀ a0 a1, CK gC w s a0 → CK gC w s a1 → w &&& 17179869184 = 17179869184 → CK gC w s (Core.contextFrom a0 a1) := by
  intro a0 a1 hs0 hs1 hw
  unfold Core.contextFrom
  refine CK.ite (fun _ => ?_) (fun _ => ?_)
  · exact hs0
  · refine CK.step ?_ (Core.contextChange_ck _) (sub_trans hw rfl)
    exact hs0

theorem Core.csrWrite_ck : ∀ a0 a1 a2, CK gC 64 a0 (Core.csrWrite a0 a1 a2) := by
  intro a0 a1 a2
  unfold Core.csrWrite
  extract_lets +onlyGivenNames -underBinder -merge -useContext x0
  clear_value x0
  extract_lets +onlyGivenNames -underBinder -merge -useContext x1
  clear_value x1
  refine CK.ite (fun _ => ?_) (fun _ => ?_)
  · refine CK.step ?_ (Core.setCsr_ck _ _ _) rfl
    exact CK.refl
  · refine CK.ite (fun _ => ?_) (fun _ => ?_)
    · refine CK.step ?_ (Core.setCsr_ck _ _ _) rfl
      exact CK.refl
    · refine CK.ite (fun _ => ?_) (fun _ => ?_)
      · refine CK.step ?_ (Core.setCsr_ck _ _ _) rfl
        exact CK.refl
      · refine CK.ite (fun _ => ?_) (fun _ => ?_)
        · refine CK.step ?_ (Core.setCsr_ck _ _ _) rfl
          exact CK.refl
        · extract_lets +onlyGivenNames -underBinder -merge -useContext x2
          clear_value x2
          extract_lets +onlyGivenNames -underBinder -merge -useContext x3
          clear_value x3
          refine CK.step ?_ (Core.setCsr_ck _ _ _) rfl
          exact CK.refl

theorem Core.discard_ck : ∀ a0, CK gC 17179869184 a0 (Core.discard a0) := by
  intro a0
  unfold Core.discard
  refine CK.upd17179869184 ?_ rfl
  exact CK.refl

theorem Core.event_ck : ∀ a0 a1 a2, CK gC 64 a0 (Core.event a0 a1 a2) := by
  intro a0 a1 a2
  unfold Core.event
  refine CK.ite (fun _ => ?_) (fun _ => ?_)
  · exact CK.refl
  · refine CK.foldl ?_ (fun y0 a1 h2 => ?_)
    · exact CK.refl
    · refine CK.ite (fun _ => ?_) (fun _ => ?_)
      · refine CK.step ?_ (Core.addCounter_ck _ _ _) rfl
        exact h2
      · exact h2

theorem Core.events_ck : ∀ a0 a1, CK gC 64 a0 (Core.events a0 a1) := by
  intro a0 a1
  unfold Core.events
  refine CK.foldl ?_ (fun y0 a1 h2 => ?_)
  · exact CK.refl
  · refine CK.step ?_ (Core.event_ck _ _ _) rfl
    exact h2

theorem Core.retire_ck : ∀ a0 a1, CK gC 17179902016 a0 (Core.retire a0 a1) := by
  intro a0 a1
  unfold Core.retire
  extract_lets +onlyGivenNames -underBinder -merge -useContext x0
  have h1 : CK gC 17179902016 a0 x0 := by
    refine CK.step ?_ (Core.event_ck _ _ _) rfl
    refine CK.step ?_ (Core.event_ck _ _ _) rfl
    refine CK.step ?_ (Core.setCsr_ck _ _ _) rfl
    exact CK.refl
  clear_value x0
  refine CK.upd17179901952 ?_ rfl
  exact h1

theorem Core.setCsrF_ck : ∀ a0 a1 a2 a3 a4, CK gC 64 a0 (Core.setCsrF a0 a1 a2 a3 a4) := by
  intro a0 a1 a2 a3 a4
  unfold Core.setCsrF
  refine CK.step ?_ (Core.setCsr_ck _ _ _) rfl
  exact CK.refl

theorem Core.setFflags_ck : ∀ a0 a1, CK gC 64 a0 (Core.setFflags a0 a1) := by
  intro a0 a1
  unfold Core.setFflags
  refine CK.ite (fun _ => ?_) (fun _ => ?_)
  · exact CK.refl
  · refine CK.step ?_ (Core.setCsr_ck _ _ _) rfl
    exact CK.refl

theorem Core.issue_ck : ∀ a0 a1, CK gC 192 a0 (Core.issue a0 a1) := by
  intro a0 a1
  unfold Core.issue
  refine CK.ite (fun _ => ?_) (fun _ => ?_)
  · extract_lets +onlyGivenNames -underBinder -merge -useContext x0
    clear_value x0
    refine CK.step ?_ (Core.addCycles_ck _ _) rfl
    refine CK.upd128 ?_ rfl
    exact CK.refl
  · exact CK.refl

theorem Core.passSteps_ck : ∀ a0 a1, CK gC 192 a0 (Core.passSteps a0 a1) := by
  intro a0 a1
  unfold Core.passSteps
  refine CK.ite (fun _ => ?_) (fun _ => ?_)
  · refine CK.step ?_ (Core.addCycles_ck _ _) rfl
    refine CK.upd128 ?_ rfl
    exact CK.refl
  · exact CK.refl

theorem Core.settle_ck : ∀ a0, CK gC 192 a0 (Core.settle a0) := by
  intro a0
  unfold Core.settle
  refine CK.ite (fun _ => ?_) (fun _ => ?_)
  · extract_lets +onlyGivenNames -underBinder -merge -useContext x0
    clear_value x0
    refine CK.step ?_ (Core.addCycles_ck _ _) rfl
    refine CK.upd128 ?_ rfl
    exact CK.refl
  · exact CK.refl

theorem Core.adv_ck : ∀ a0 a1, CK gC 4 a0 (Core.adv a0 a1) := by
  intro a0 a1
  unfold Core.adv
  refine CK.upd4 ?_ rfl
  exact CK.refl

theorem Core.takeFrom_ck {w : Nat} {s : Core} : ∀ a0 a1, CK gC w s a0 → CK gC w s a1 → w &&& 126 = 126 → CK gC w s (Core.takeFrom a0 a1) := by
  intro a0 a1 hs0 hs1 hw
  unfold Core.takeFrom
  refine CK.upd126 ?_ (sub_trans hw rfl)
  exact hs0

theorem Core.dropL1_ck : ∀ a0 a1, CK gC 1610629120 a0 (Core.dropL1 a0 a1) := by
  intro a0 a1
  unfold Core.dropL1
  refine CK.upd1610629120 ?_ rfl
  exact CK.refl

theorem Core.setEv_ck : ∀ a0 a1 a2, CK gC 4294967296 a0 (Core.setEv a0 a1 a2) := by
  intro a0 a1 a2
  unfold Core.setEv
  refine CK.upd4294967296 ?_ rfl
  exact CK.refl

theorem Core.setL2_ck : ∀ a0 a1 a2, CK gC 2147483648 a0 (Core.setL2 a0 a1 a2) := by
  intro a0 a1 a2
  unfold Core.setL2
  refine CK.upd2147483648 ?_ rfl
  exact CK.refl

theorem Core.setReq_ck : ∀ a0 a1 a2, CK gC 8589934592 a0 (Core.setReq a0 a1 a2) := by
  intro a0 a1 a2
  unfold Core.setReq
  refine CK.upd8589934592 ?_ rfl
  exact CK.refl

theorem Core.dropCopies1_ck : ∀ a0 a1, CK gC 100663296 a0 (Core.dropCopies1 a0 a1) := by
  intro a0 a1
  unfold Core.dropCopies1
  refine CK.upd100663296 ?_ rfl
  exact CK.refl

theorem Core.dropCopies2_ck : ∀ a0 a1, CK gC 100663296 a0 (Core.dropCopies2 a0 a1) := by
  intro a0 a1
  unfold Core.dropCopies2
  refine CK.upd100663296 ?_ rfl
  exact CK.refl

theorem Core.setS2_ck : ∀ a0 a1 a2, CK gC 16777216 a0 (Core.setS2 a0 a1 a2) := by
  intro a0 a1 a2
  unfold Core.setS2
  refine CK.upd16777216 ?_ rfl
  exact CK.refl

theorem Core.setTlb_ck : ∀ a0 a1 a2, CK gC 8388608 a0 (Core.setTlb a0 a1 a2) := by
  intro a0 a1 a2
  unfold Core.setTlb
  refine CK.upd8388608 ?_ rfl
  exact CK.refl

theorem Core.accessEvents_ck : ∀ a0 a1 a2, CK gC 64 a0 (Core.accessEvents a0 a1 a2) := by
  intro a0 a1 a2
  unfold Core.accessEvents
  extract_lets +onlyGivenNames -underBinder -merge -useContext x0
  have h1 : CK gC 64 a0 x0 := by
    refine CK.ite (fun _ => ?_) (fun _ => ?_)
    · refine CK.step ?_ (Core.event_ck _ _ _) rfl
      exact CK.refl
    · exact CK.refl
  clear_value x0
  refine CK.ite (fun _ => ?_) (fun _ => ?_)
  · extract_lets +onlyGivenNames -underBinder -merge -useContext x2
    have h3 : CK gC 64 a0 x2 := by
      refine CK.ite (fun _ => ?_) (fun _ => ?_)
      · refine CK.step ?_ (Core.event_ck _ _ _) rfl
        exact h1
      · exact h1
    clear_value x2
    refine CK.ite (fun _ => ?_) (fun _ => ?_)
    · refine CK.step ?_ (Core.event_ck _ _ _) rfl
      exact h3
    · exact h3
  · exact h1

theorem Core.deliver_ck : ∀ a0 a1 a2 a3 a4, CK gC 24 a0 (Core.deliver a0 a1 a2 a3 a4) := by
  intro a0 a1 a2 a3 a4
  unfold Core.deliver
  split
  · refine CK.step ?_ (Core.wx_ck _ _ _) rfl
    exact CK.refl
  · refine CK.step ?_ (Core.wf_ck _ _ _) rfl
    exact CK.refl

theorem Core.pushStores_ck : ∀ a0 a1, CK gC 256 a0 (Core.pushStores a0 a1) := by
  intro a0 a1
  unfold Core.pushStores
  refine CK.upd256 ?_ rfl
  exact CK.refl

theorem Core.pushPiece_ck : ∀ a0 a1 a2 a3 a4, CK gC 256 a0 (Core.pushPiece a0 a1 a2 a3 a4) := by
  intro a0 a1 a2 a3 a4
  unfold Core.pushPiece
  extract_lets +onlyGivenNames -underBinder -merge -useContext x0
  clear_value x0
  refine CK.ite (fun _ => ?_) (fun _ => ?_)
  · refine CK.step ?_ (Core.pushStores_ck _ _) rfl
    exact CK.refl
  · split
    · refine CK.ite (fun _ => ?_) (fun _ => ?_)
      · refine CK.upd256 ?_ rfl
        exact CK.refl
      · refine CK.ite (fun _ => ?_) (fun _ => ?_)
        · refine CK.upd256 ?_ rfl
          exact CK.refl
        · refine CK.step ?_ (Core.pushStores_ck _ _) rfl
          exact CK.refl
    · refine CK.step ?_ (Core.pushStores_ck _ _) rfl
      exact CK.refl

theorem Core.setVbytes_ck : ∀ a0 a1 a2 a3 a4, CK gC 32 a0 (Core.setVbytes a0 a1 a2 a3 a4) := by
  intro a0 a1 a2 a3 a4
  unfold Core.setVbytes
  extract_lets +onlyGivenNames -underBinder -merge -useContext x0
  clear_value x0
  extract_lets +onlyGivenNames -underBinder -merge -useContext x1
  clear_value x1
  refine CK.step ?_ (Core.wv_ck _ _ _) rfl
  exact CK.refl

theorem Core.putEl_ck : ∀ a0 a1 a2 a3 a4, CK gC 32 a0 (Core.putEl a0 a1 a2 a3 a4) := by
  intro a0 a1 a2 a3 a4
  unfold Core.putEl
  extract_lets +onlyGivenNames -underBinder -merge -useContext x0
  clear_value x0
  extract_lets +onlyGivenNames -underBinder -merge -useContext x1
  clear_value x1
  extract_lets +onlyGivenNames -underBinder -merge -useContext x2
  clear_value x2
  refine CK.step ?_ (Core.wv_ck _ _ _) rfl
  exact CK.refl

theorem Core.vWrite_ck : ∀ a0 a1 a2 a3, CK gC 120 a0 (Core.vWrite a0 a1 a2 a3) := by
  intro a0 a1 a2 a3
  unfold Core.vWrite
  extract_lets +onlyGivenNames -underBinder -merge -useContext x0
  have h1 : CK gC 120 a0 x0 := by
    refine CK.foldl ?_ (fun y2 a3 h4 => ?_)
    · exact CK.refl
    · refine CK.step ?_ (Core.putEl_ck _ _ _ _ _) rfl
      exact h4
  clear_value x0
  extract_lets +onlyGivenNames -underBinder -merge -useContext x5
  clear_value x5
  extract_lets +onlyGivenNames -underBinder -merge -useContext x6
  have h7 : CK gC 120 a0 x6 := by
    dsimp -zeta only [x6]
    split
    · exact h1
    · refine CK.ite (fun _ => ?_) (fun _ => ?_)
      · refine CK.step ?_ (Core.wf_ck _ _ _) rfl
        exact h1
      · refine CK.step ?_ (Core.wx_ck _ _ _) rfl
        exact h1
  clear_value x6
  extract_lets +onlyGivenNames -underBinder -merge -useContext x10
  have h11 : CK gC 120 a0 x10 := by
    refine CK.ite (fun _ => ?_) (fun _ => ?_)
    · exact h7
    · refine CK.step ?_ (Core.setFflags_ck _ _) rfl
      exact h7
  clear_value x10
  refine CK.ite (fun _ => ?_) (fun _ => ?_)
  · exact h11
  · refine CK.step ?_ (Core.setCsr_ck _ _ _) rfl
    exact h11

theorem Core.setTagged_ck : ∀ a0 a1 a2, CK gC 17179869184 a0 (Core.setTagged a0 a1 a2) := by
  intro a0 a1 a2
  unfold Core.setTagged
  refine CK.upd17179869184 ?_ rfl
  exact CK.refl

theorem Core.trainDir_ck : ∀ a0 a1 a2, CK gC 17179869184 a0 (Core.trainDir a0 a1 a2) := by
  intro a0 a1 a2
  unfold Core.trainDir
  refine CK.ite (fun _ => ?_) (fun _ => ?_)
  · extract_lets +onlyGivenNames -underBinder -merge -useContext x0
    clear_value x0
    refine CK.upd17179869184 ?_ rfl
    exact CK.refl
  · refine CK.step ?_ (Core.setTagged_ck _ _ _) rfl
    exact CK.refl

theorem Core.seq_ck : ∀ a0 a1, CK gC 17179902020 a0 (Core.seq a0 a1) := by
  intro a0 a1
  unfold Core.seq
  refine CK.step ?_ (Core.retire_ck _ _) rfl
  refine CK.step ?_ (Core.adv_ck _ _) rfl
  exact CK.refl

theorem Core.tlbRemove_ck : ∀ a0 a1 a2, CK gC 125829120 a0 (Core.tlbRemove a0 a1 a2) := by
  intro a0 a1 a2
  unfold Core.tlbRemove
  extract_lets +onlyGivenNames -underBinder -merge -useContext x0
  clear_value x0
  extract_lets +onlyGivenNames -underBinder -merge -useContext x1
  clear_value x1
  extract_lets +onlyGivenNames -underBinder -merge -useContext x2
  have h3 : CK gC 125829120 a0 x2 := by
    refine CK.foldl ?_ (fun y4 a5 h6 => ?_)
    · exact CK.refl
    · refine CK.step ?_ (Core.dropCopies1_ck _ _) rfl
      refine CK.step ?_ (Core.setTlb_ck _ _ _) rfl
      exact h6
  clear_value x2
  refine CK.foldl ?_ (fun y7 a8 h9 => ?_)
  · exact h3
  · refine CK.step ?_ (Core.dropCopies2_ck _ _) rfl
    refine CK.step ?_ (Core.setS2_ck _ _ _) rfl
    exact h9

theorem Core.invalidate_ck : ∀ a0 a1, CK gC 125829120 a0 (Core.invalidate a0 a1) := by
  intro a0 a1
  unfold Core.invalidate
  refine CK.step ?_ (Core.tlbRemove_ck _ _ _) rfl
  exact CK.refl

theorem Core.tretRestore_ck : ∀ a0 a1 a2 a3, CK gC 17180966990 a0 (Core.tretRestore a0 a1 a2 a3) := by
  intro a0 a1 a2 a3
  unfold Core.tretRestore
  extract_lets +onlyGivenNames -underBinder -merge -useContext x0
  clear_value x0
  extract_lets +onlyGivenNames -underBinder -merge -useContext x1
  have h2 : CK gC 17180966990 a0 x1 := by
    refine CK.foldl ?_ (fun y3 a4 h5 => ?_)
    · refine CK.step ?_ (Core.setCsr_ck _ _ _) rfl
      exact CK.refl
    · refine CK.step ?_ (Core.wx_ck _ _ _) rfl
      exact h5
  clear_value x1
  extract_lets +onlyGivenNames -underBinder -merge -useContext x6
  clear_value x6
  refine Core.contextFrom_ck _ _ ?_ ?_ rfl
  · refine CK.step ?_ (Core.discard_ck _) rfl
    refine CK.upd1097734 ?_ rfl
    exact h2
  · exact CK.refl

theorem Core.enter_ck : ∀ a0 a1 a2, CK gC 17180983374 a0 (Core.enter a0 a1 a2) := by
  intro a0 a1 a2
  unfold Core.enter
  extract_lets +onlyGivenNames -underBinder -merge -useContext x0
  clear_value x0
  extract_lets +onlyGivenNames -underBinder -merge -useContext x1
  clear_value x1
  extract_lets +onlyGivenNames -underBinder -merge -useContext x2
  have h3 : CK gC 17180983374 a0 x2 := by
    refine CK.step ?_ (Core.setCsr_ck _ _ _) rfl
    refine CK.step ?_ (Core.setCsr_ck _ _ _) rfl
    refine CK.step ?_ (Core.setCsr_ck _ _ _) rfl
    refine CK.step ?_ (Core.setCsr_ck _ _ _) rfl
    refine CK.step ?_ (Core.setCsr_ck _ _ _) rfl
    exact CK.refl
  clear_value x2
  extract_lets +onlyGivenNames -underBinder -merge -useContext x4
  have h5 : CK gC 17180983374 a0 x4 := by
    dsimp -zeta only [x4]
    split
    · refine CK.step ?_ (Core.setCsr_ck _ _ _) rfl
      refine CK.step ?_ (Core.setCsr_ck _ _ _) rfl
      exact h3
    · exact h3
  clear_value x4
  extract_lets +onlyGivenNames -underBinder -merge -useContext x8
  have h9 : CK gC 17180983374 a0 x8 := by
    refine CK.step ?_ (Core.wx_ck _ _ _) rfl
    refine CK.step ?_ (Core.wx_ck _ _ _) rfl
    refine CK.step ?_ (Core.wx_ck _ _ _) rfl
    refine CK.step ?_ (Core.wx_ck _ _ _) rfl
    exact h5
  clear_value x8
  extract_lets +onlyGivenNames -underBinder -merge -useContext x10
  clear_value x10
  refine Core.contextFrom_ck _ _ ?_ ?_ rfl
  · refine CK.step ?_ (Core.discard_ck _) rfl
    refine CK.upd1114118 ?_ rfl
    exact h9
  · exact CK.refl

theorem Core.supersede_ck : ∀ a0 a1, CK gC 4294967296 a0 (Core.supersede a0 a1) := by
  intro a0 a1
  unfold Core.supersede
  split
  · refine CK.step ?_ (Core.setEv_ck _ _ _) rfl
    exact CK.refl
  · exact CK.refl

end Sys2Proof.Machine
end

