-- ==== Sys2Proof/Laws/KeepsOps.lean ====
section
/-!
SUPPORT. What each function and each command of Machine/Ops.lean, Machine/Issue.lean, Machine/Trap.lean, Machine/Cache.lean, Machine/Pcie.lean, Machine/Trans.lean, Machine/Net.lean can change (Laws/Keeps.lean), one lemma each.
-/
namespace Sys2Proof.Machine

theorem State.setReg_keeps : ∀ a0 a1 a2, K gS 4 a0 (State.setReg a0 a1 a2) := by
  intro a0 a1 a2
  exact K.of ⟨fun p hp => by cases p <;> first | rfl | exact absurd hp (by decide), fun c => ⟨c.1, Tbl.wf_set _ _ _ _ c.2⟩⟩

theorem State.setFld_keeps : ∀ a0 a1 a2 a3, K gS 4 a0 (State.setFld a0 a1 a2 a3) := by
  intro a0 a1 a2 a3
  unfold State.setFld
  refine K.step ?_ (State.setReg_keeps _ _ _) rfl
  exact K.refl

theorem State.bump_keeps : ∀ a0 a1 a2 a3, K gS 4 a0 (State.bump a0 a1 a2 a3) := by
  intro a0 a1 a2 a3
  unfold State.bump
  refine K.step ?_ (State.setFld_keeps _ _ _ _) rfl
  exact K.refl

theorem State.bwCount_keeps : ∀ a0 a1 a2, K gS 4 a0 (State.bwCount a0 a1 a2) := by
  intro a0 a1 a2
  unfold State.bwCount
  refine K.step ?_ (State.bump_keeps _ _ _ _) rfl
  exact K.refl

theorem State.choose_keeps : ∀ a0 a1, K g2 2 a0 (State.choose a0 a1) := by
  intro a0 a1
  unfold State.choose
  refine K.mk2 ?_
  refine K.upd2 ?_ rfl
  exact K.refl

theorem State.detect_keeps : ∀ a0 a1, K gS 8589934592 a0 (State.detect a0 a1) := by
  intro a0 a1
  unfold State.detect
  refine K.upd8589934592 ?_ rfl
  exact K.refl

theorem State.corrected_keeps : ∀ a0 a1 a2, K gS 8589934592 a0 (State.corrected a0 a1 a2) := by
  intro a0 a1 a2
  unfold State.corrected
  refine K.step ?_ (State.detect_keeps _ _) rfl
  exact K.refl

theorem State.draw_keeps : ∀ a0 a1, K g2 2 a0 (State.draw a0 a1) := by
  intro a0 a1
  unfold State.draw
  refine K.mk2 ?_
  refine K.upd2 ?_ rfl
  exact K.refl

theorem State.failure_keeps : ∀ a0 a1 a2 a3 a4 a5, K gS 8589934592 a0 (State.failure a0 a1 a2 a3 a4 a5) := by
  intro a0 a1 a2 a3 a4 a5
  unfold State.failure
  refine K.step ?_ (State.detect_keeps _ _) rfl
  exact K.refl

theorem State.mapCores_keeps : ∀ a0 a1, K gS 32 a0 (State.mapCores a0 a1) := by
  intro a0 a1
  unfold State.mapCores
  refine K.upd32 ?_ rfl
  exact K.refl

theorem State.setCore_keeps : ∀ a0 a1 a2, K gS 32 a0 (State.setCore a0 a1 a2) := by
  intro a0 a1 a2
  unfold State.setCore
  refine K.upd32 ?_ rfl
  exact K.refl

theorem State.modCore_keeps : ∀ a0 a1 a2, K gS 32 a0 (State.modCore a0 a1 a2) := by
  intro a0 a1 a2
  unfold State.modCore
  refine K.step ?_ (State.setCore_keeps _ _ _) rfl
  exact K.refl

theorem State.setSlice_keeps : ∀ a0 a1 a2, K gS 64 a0 (State.setSlice a0 a1 a2) := by
  intro a0 a1 a2
  unfold State.setSlice
  refine K.upd64 ?_ rfl
  exact K.refl

theorem State.modSlice_keeps : ∀ a0 a1 a2, K gS 64 a0 (State.modSlice a0 a1 a2) := by
  intro a0 a1 a2
  unfold State.modSlice
  refine K.step ?_ (State.setSlice_keeps _ _ _) rfl
  exact K.refl

theorem State.setSrc_keeps : ∀ a0 a1 a2, K gS 2147483648 a0 (State.setSrc a0 a1 a2) := by
  intro a0 a1 a2
  unfold State.setSrc
  refine K.upd2147483648 ?_ rfl
  exact K.refl

theorem State.modSrc_keeps : ∀ a0 a1 a2, K gS 2147483648 a0 (State.modSrc a0 a1 a2) := by
  intro a0 a1 a2
  unfold State.modSrc
  refine K.step ?_ (State.setSrc_keeps _ _ _) rfl
  exact K.refl

theorem State.recv_keeps : ∀ a0 a1, K gS 512 a0 (State.recv a0 a1) := by
  intro a0 a1
  unfold State.recv
  refine K.upd512 ?_ rfl
  exact K.refl

theorem State.resetReg_keeps : ∀ a0 a1, K gS 4 a0 (State.resetReg a0 a1) := by
  intro a0 a1
  exact K.of ⟨fun p hp => by cases p <;> first | rfl | exact absurd hp (by decide), fun c => ⟨c.1, Tbl.wf_erase _ _ _ c.2⟩⟩

theorem State.send_keeps : ∀ a0 a1, K gS 512 a0 (State.send a0 a1) := by
  intro a0 a1
  unfold State.send
  refine K.upd512 ?_ rfl
  exact K.refl

theorem State.sendAll_keeps : ∀ a0 a1, K gS 512 a0 (State.sendAll a0 a1) := by
  intro a0 a1
  unfold State.sendAll
  refine K.upd512 ?_ rfl
  exact K.refl

theorem State.setBit_keeps : ∀ a0 a1 a2 a3, K gS 4 a0 (State.setBit a0 a1 a2 a3) := by
  intro a0 a1 a2 a3
  unfold State.setBit
  refine K.step ?_ (State.setReg_keeps _ _ _) rfl
  exact K.refl

theorem State.setByte_keeps : ∀ a0 a1 a2 a3, K gS 24 a0 (State.setByte a0 a1 a2 a3) := by
  intro a0 a1 a2 a3
  exact K.of ⟨fun p hp => by cases p <;> first | rfl | exact absurd hp (by decide), fun c => ⟨State.setByte_wf _ _ _ _ c.1, c.2⟩⟩

theorem State.setBytes_keeps : ∀ a0 a1 a2, K gS 24 a0 (State.setBytes a0 a1 a2) := by
  intro a0 a1 a2
  induction a2 generalizing a0 a1 with
  | nil =>
    rw [State.setBytes]
    exact K.refl
  | cons e r ih =>
    rw [State.setBytes]
    refine K.step ?_ (ih _ _) rfl
    refine K.step ?_ (State.setByte_keeps _ _ _ _) rfl
    exact K.refl

theorem State.setBytesP_keeps : ∀ a0 a1 a2 a3, K gS 24 a0 (State.setBytesP a0 a1 a2 a3) := by
  intro a0 a1 a2 a3
  induction a2 generalizing a0 a1 a3 with
  | nil =>
    rw [State.setBytesP]
    exact K.refl
  | cons e r ih =>
    cases a3 with
    | nil =>
      rw [State.setBytesP]
      refine K.step ?_ (ih _ _ _) rfl
      refine K.step ?_ (State.setByte_keeps _ _ _ _) rfl
      exact K.refl
    | cons p q =>
      rw [State.setBytesP]
      refine K.step ?_ (ih _ _ _) rfl
      refine K.step ?_ (State.setByte_keeps _ _ _ _) rfl
      exact K.refl
theorem State.setDistCore_keeps : ∀ a0 a1 a2, K gS 2147483648 a0 (State.setDistCore a0 a1 a2) := by
  intro a0 a1 a2
  unfold State.setDistCore
  refine K.upd2147483648 ?_ rfl
  exact K.refl

theorem State.setEp_keeps : ∀ a0 a1 a2, K gS 1024 a0 (State.setEp a0 a1 a2) := by
  intro a0 a1 a2
  unfold State.setEp
  refine K.upd1024 ?_ rfl
  exact K.refl

theorem State.setEpState_keeps : ∀ a0 a1 a2, K gS 4 a0 (State.setEpState a0 a1 a2) := by
  intro a0 a1 a2
  unfold State.setEpState
  refine K.step ?_ (State.setFld_keeps _ _ _ _) rfl
  exact K.refl

theorem State.setFlag_keeps : ∀ a0 a1 a2 a3, K gS 4 a0 (State.setFlag a0 a1 a2 a3) := by
  intro a0 a1 a2 a3
  unfold State.setFlag
  refine K.step ?_ (State.setFld_keeps _ _ _ _) rfl
  exact K.refl

theorem State.setLink_keeps : ∀ a0 a1 a2, K gS 2048 a0 (State.setLink a0 a1 a2) := by
  intro a0 a1 a2
  unfold State.setLink
  refine K.upd2048 ?_ rfl
  exact K.refl

theorem State.setLinkState_keeps : ∀ a0 a1 a2, K gS 4 a0 (State.setLinkState a0 a1 a2) := by
  intro a0 a1 a2
  unfold State.setLinkState
  refine K.step ?_ (State.setFld_keeps _ _ _ _) rfl
  exact K.refl

theorem State.setRouter_keeps : ∀ a0 a1 a2, K gS 4096 a0 (State.setRouter a0 a1 a2) := by
  intro a0 a1 a2
  unfold State.setRouter
  refine K.upd4096 ?_ rfl
  exact K.refl

theorem State.writeReg_keeps : ∀ a0 a1 a2 a3, K gS 4 a0 (State.writeReg a0 a1 a2 a3) := by
  intro a0 a1 a2 a3
  unfold State.writeReg
  refine K.step ?_ (State.setReg_keeps _ _ _) rfl
  exact K.refl

theorem State.zeroRange_keeps : ∀ a0 a1 a2, K gS 24 a0 (State.zeroRange a0 a1 a2) := by
  intro a0 a1 a2
  exact K.of ⟨fun p hp => by cases p <;> first | rfl | exact absurd hp (by decide), fun c => ⟨State.zeroRange_wf _ _ _ c.1, c.2⟩⟩

theorem State.measureFill_keeps : ∀ a0 a1 a2, K gS 4 a0 (State.measureFill a0 a1 a2) := by
  intro a0 a1 a2
  unfold State.measureFill
  extract_lets +onlyGivenNames -underBinder -merge -useContext x0
  clear_value x0
  extract_lets +onlyGivenNames -underBinder -merge -useContext x1
  clear_value x1
  refine K.ite (fun _ => ?_) (fun _ => ?_)
  · extract_lets +onlyGivenNames -underBinder -merge -useContext x2
    have h3 : K gS 4 a0 x2 := by
      refine K.ite (fun _ => ?_) (fun _ => ?_)
      · refine K.step ?_ (State.setFld_keeps _ _ _ _) rfl
        exact K.refl
      · exact K.refl
    clear_value x2
    refine K.ite (fun _ => ?_) (fun _ => ?_)
    · refine K.step ?_ (State.setFlag_keeps _ _ _ _) rfl
      exact h3
    · exact h3
  · exact K.refl

theorem State.checkstop_keeps : ∀ a0 a1, K gS 8589935136 a0 (State.checkstop a0 a1) := by
  intro a0 a1
  unfold State.checkstop
  extract_lets +onlyGivenNames -underBinder -merge -useContext x0
  clear_value x0
  refine K.step ?_ (State.failure_keeps _ _ _ _ _ _) rfl
  refine K.step ?_ (State.send_keeps _ _) rfl
  refine K.step ?_ (State.setCore_keeps _ _ _) rfl
  exact K.refl

theorem State.copyRange_keeps : ∀ a0 a1 a2 a3, K gS 24 a0 (State.copyRange a0 a1 a2 a3) := by
  intro a0 a1 a2 a3
  unfold State.copyRange
  extract_lets +onlyGivenNames -underBinder -merge -useContext x0
  have h1 : K gS 24 a0 x0 := by
    refine K.step ?_ (State.zeroRange_keeps _ _ _) rfl
    exact K.refl
  clear_value x0
  extract_lets +onlyGivenNames -underBinder -merge -useContext x2
  have h3 : K gS 24 a0 x2 := by
    refine K.foldl ?_ (fun y4 a5 h6 => ?_)
    · exact h1
    · refine K.step ?_ (State.setByte_keeps _ _ _ _) rfl
      exact h6
  clear_value x2
  refine K.foldl ?_ (fun y7 a8 h9 => ?_)
  · exact h3
  · refine K.upd16 ?_ rfl
    exact h9

theorem State.endPair_keeps : ∀ a0 a1, K gS 56 a0 (State.endPair a0 a1) := by
  intro a0 a1
  unfold State.endPair
  extract_lets +onlyGivenNames -underBinder -merge -useContext x0
  clear_value x0
  extract_lets +onlyGivenNames -underBinder -merge -useContext x1
  clear_value x1
  extract_lets +onlyGivenNames -underBinder -merge -useContext x2
  have h3 : K gS 56 a0 x2 := by
    refine K.step ?_ (State.setCore_keeps _ _ _) rfl
    refine K.step ?_ (State.setCore_keeps _ _ _) rfl
    exact K.refl
  clear_value x2
  refine K.step ?_ (State.copyRange_keeps _ _ _ _) rfl
  exact h3

theorem State.pairHalt_keeps : ∀ a0 a1, K gS 8589935136 a0 (State.pairHalt a0 a1) := by
  intro a0 a1
  unfold State.pairHalt
  extract_lets +onlyGivenNames -underBinder -merge -useContext x0
  clear_value x0
  extract_lets +onlyGivenNames -underBinder -merge -useContext x1
  clear_value x1
  refine K.step ?_ (State.failure_keeps _ _ _ _ _ _) rfl
  refine K.step ?_ (State.send_keeps _ _) rfl
  refine K.step ?_ (State.send_keeps _ _) rfl
  refine K.step ?_ (State.setCore_keeps _ _ _) rfl
  refine K.step ?_ (State.setCore_keeps _ _ _) rfl
  exact K.refl

theorem State.startEntry_keeps : ∀ a0 a1 a2, K gS 32 a0 (State.startEntry a0 a1 a2) := by
  intro a0 a1 a2
  unfold State.startEntry
  extract_lets +onlyGivenNames -underBinder -merge -useContext x0
  clear_value x0
  refine K.step ?_ (State.setCore_keeps _ _ _) rfl
  exact K.refl

theorem State.takeMc_keeps : ∀ a0 a1 a2 a3 a4, K gS 8589935136 a0 (State.takeMc a0 a1 a2 a3 a4) := by
  intro a0 a1 a2 a3 a4
  unfold State.takeMc
  extract_lets +onlyGivenNames -underBinder -merge -useContext x0
  clear_value x0
  refine K.ite (fun _ => ?_) (fun _ => ?_)
  · refine K.step ?_ (State.detect_keeps _ _) rfl
    exact K.refl
  · refine K.ite (fun _ => ?_) (fun _ => ?_)
    · refine K.step ?_ (State.checkstop_keeps _ _) rfl
      exact K.refl
    · extract_lets +onlyGivenNames -underBinder -merge -useContext x1
      clear_value x1
      refine K.ite (fun _ => ?_) (fun _ => ?_)
      · refine K.step ?_ (State.setCore_keeps _ _ _) rfl
        exact K.refl
      · extract_lets +onlyGivenNames -underBinder -merge -useContext x2
        clear_value x2
        extract_lets +onlyGivenNames -underBinder -merge -useContext x3
        have h4 : K gS 8589935136 a0 x3 := by
          refine K.step ?_ (State.detect_keeps _ _) rfl
          exact K.refl
        clear_value x3
        extract_lets +onlyGivenNames -underBinder -merge -useContext x5
        have h6 : K gS 8589935136 a0 x5 := by
          refine K.step ?_ (State.startEntry_keeps _ _ _) rfl
          exact h4
        clear_value x5
        extract_lets +onlyGivenNames -underBinder -merge -useContext x7
        clear_value x7
        refine K.step ?_ (State.setCore_keeps _ _ _) rfl
        exact h6

theorem State.diverge_keeps : ∀ a0 a1 a2, K gS 8589935160 a0 (State.diverge a0 a1 a2) := by
  intro a0 a1 a2
  unfold State.diverge
  extract_lets +onlyGivenNames -underBinder -merge -useContext x0
  clear_value x0
  extract_lets +onlyGivenNames -underBinder -merge -useContext x1
  have h2 : K gS 8589935160 a0 x1 := by
    refine K.step ?_ (State.endPair_keeps _ _) rfl
    exact K.refl
  clear_value x1
  refine K.ite (fun _ => ?_) (fun _ => ?_)
  · refine K.step ?_ (State.pairHalt_keeps _ _) rfl
    exact h2
  · extract_lets +onlyGivenNames -underBinder -merge -useContext x3
    clear_value x3
    extract_lets +onlyGivenNames -underBinder -merge -useContext x4
    clear_value x4
    refine K.step ?_ (State.takeMc_keeps _ _ _ _ _) rfl
    refine K.step ?_ (State.takeMc_keeps _ _ _ _ _) rfl
    exact h2

theorem State.raise_keeps : ∀ a0 a1 a2 a3 a4, K gS 32 a0 (State.raise a0 a1 a2 a3 a4) := by
  intro a0 a1 a2 a3 a4
  unfold State.raise
  extract_lets +onlyGivenNames -underBinder -merge -useContext x0
  clear_value x0
  refine K.ite (fun _ => ?_) (fun _ => ?_)
  · exact K.refl
  · extract_lets +onlyGivenNames -underBinder -merge -useContext x1
    have h2 : K gS 32 a0 x1 := by
      refine K.step ?_ (State.startEntry_keeps _ _ _) rfl
      exact K.refl
    clear_value x1
    refine K.ite (fun _ => ?_) (fun _ => ?_)
    · refine K.step ?_ (State.setCore_keeps _ _ _) rfl
      exact h2
    · exact h2

theorem State.instr_keeps {w : Nat} {s : State} : ∀ a0 a1 a2, K gS w s a0 → (∀ y0, K gS w s y0 → K gS w s (a2 y0)) → w &&& 8589935136 = 8589935136 → K gS w s (State.instr a0 a1 a2) := by
  intro a0 a1 a2 hs0 hs1 hw
  unfold State.instr
  refine K.ite (fun _ => ?_) (fun _ => ?_)
  · extract_lets +onlyGivenNames -underBinder -merge -useContext x0
    clear_value x0
    split
    · refine K.step ?_ (State.takeMc_keeps _ _ _ _ _) (sub_trans hw rfl)
      exact hs0
    · refine K.ite (fun _ => ?_) (fun _ => ?_)
      · refine K.step ?_ (State.raise_keeps _ _ _ _ _) (sub_trans hw rfl)
        exact hs0
      · refine hs1 _ ?_
        exact hs0
  · exact hs0

theorem State.machineCheck_keeps : ∀ a0 a1 a2 a3 a4 a5 a6, K gS 8589935160 a0 (State.machineCheck a0 a1 a2 a3 a4 a5 a6) := by
  intro a0 a1 a2 a3 a4 a5 a6
  unfold State.machineCheck
  extract_lets +onlyGivenNames -underBinder -merge -useContext x0
  clear_value x0
  extract_lets +onlyGivenNames -underBinder -merge -useContext x1
  clear_value x1
  refine K.ite (fun _ => ?_) (fun _ => ?_)
  · extract_lets +onlyGivenNames -underBinder -merge -useContext x2
    clear_value x2
    extract_lets +onlyGivenNames -underBinder -merge -useContext x3
    have h4 : K gS 8589935160 a0 x3 := by
      refine K.step ?_ (State.endPair_keeps _ _) rfl
      exact K.refl
    clear_value x3
    extract_lets +onlyGivenNames -underBinder -merge -useContext x5
    clear_value x5
    refine K.step ?_ (State.takeMc_keeps _ _ _ _ _) rfl
    refine K.step ?_ (State.takeMc_keeps _ _ _ _ _) rfl
    exact h4
  · refine K.step ?_ (State.takeMc_keeps _ _ _ _ _) rfl
    exact K.refl

theorem State.setWords_keeps : ∀ a0 a1 a2, K gS 24 a0 (State.setWords a0 a1 a2) := by
  intro a0 a1 a2
  unfold State.setWords
  refine K.step ?_ (State.setBytes_keeps _ _ _) rfl
  exact K.refl

theorem State.wakeHalt_keeps : ∀ a0 a1, K gS 32 a0 (State.wakeHalt a0 a1) := by
  intro a0 a1
  unfold State.wakeHalt
  extract_lets +onlyGivenNames -underBinder -merge -useContext x0
  clear_value x0
  refine K.ite (fun _ => ?_) (fun _ => ?_)
  · split
    · refine K.step ?_ (State.startEntry_keeps _ _ _) rfl
      exact K.refl
    · refine K.step ?_ (State.setCore_keeps _ _ _) rfl
      exact K.refl
  · exact K.refl

theorem State.bwLate_keeps : ∀ a0 a1 a2 a3, K gS 4 a0 (State.bwLate a0 a1 a2 a3) := by
  intro a0 a1 a2 a3
  unfold State.bwLate
  extract_lets +onlyGivenNames -underBinder -merge -useContext x0
  clear_value x0
  refine K.step ?_ (State.bwCount_keeps _ _ _) rfl
  exact K.refl

theorem State.castTouched_keeps : ∀ a0 a1 a2 a3, K gS 32 a0 (State.castTouched a0 a1 a2 a3) := by
  intro a0 a1 a2 a3
  unfold State.castTouched
  refine K.step ?_ (State.mapCores_keeps _ _) rfl
  exact K.refl

theorem State.chanWrite_keeps : ∀ a0 a1 a2 a3 a4, K gS 24 a0 (State.chanWrite a0 a1 a2 a3 a4) := by
  intro a0 a1 a2 a3 a4
  unfold State.chanWrite
  refine K.step ?_ (State.setBytesP_keeps _ _ _ _) rfl
  exact K.refl

theorem State.countWb_keeps : ∀ a0 a1, K gS 4 a0 (State.countWb a0 a1) := by
  intro a0 a1
  unfold State.countWb
  refine K.step ?_ (State.bump_keeps _ _ _ _) rfl
  exact K.refl

theorem State.dramWrite_keeps : ∀ a0 a1 a2 a3, K gS 28 a0 (State.dramWrite a0 a1 a2 a3) := by
  intro a0 a1 a2 a3
  unfold State.dramWrite
  extract_lets +onlyGivenNames -underBinder -merge -useContext x0
  have h1 : ∀ y2 y3 y4, K gS 28 a0 y2 → K gS 28 a0 (x0 y2 y3 y4) := by
    intro y2 y3 y4 h5
    dsimp -zeta only [x0]
    refine K.ite (fun _ => ?_) (fun _ => ?_)
    · refine K.step ?_ (State.chanWrite_keeps _ _ _ _ _) rfl
      exact h5
    · refine K.step ?_ (State.bwCount_keeps _ _ _) rfl
      exact h5
  clear_value x0
  split
  · exact K.refl
  · refine K.ite (fun _ => ?_) (fun _ => ?_)
    · split
      · refine h1 _ _ _ ?_
        exact K.refl
      · refine h1 _ _ _ ?_
        refine h1 _ _ _ ?_
        exact K.refl
    · refine h1 _ _ _ ?_
      exact K.refl

theorem State.sliceDrop_keeps : ∀ a0 a1 a2 a3, K gS 92 a0 (State.sliceDrop a0 a1 a2 a3) := by
  intro a0 a1 a2 a3
  unfold State.sliceDrop
  split
  · exact K.refl
  · extract_lets +onlyGivenNames -underBinder -merge -useContext x2
    have h3 : K gS 92 a0 x2 := by
      refine K.step ?_ (State.modSlice_keeps _ _ _) rfl
      exact K.refl
    clear_value x2
    refine K.ite (fun _ => ?_) (fun _ => ?_)
    · refine K.step ?_ (State.countWb_keeps _ _) rfl
      refine K.step ?_ (State.dramWrite_keeps _ _ _ _) rfl
      exact h3
    · exact h3

theorem State.sliceFill_keeps : ∀ a0 a1 a2 a3 a4 a5 a6, K gS 94 a0 (State.sliceFill a0 a1 a2 a3 a4 a5 a6) := by
  intro a0 a1 a2 a3 a4 a5 a6
  unfold State.sliceFill
  split
  · refine K.step ?_ (State.modSlice_keeps _ _ _) rfl
    exact K.refl
  · extract_lets +onlyGivenNames -underBinder -merge -useContext x2
    clear_value x2
    extract_lets +onlyGivenNames -underBinder -merge -useContext x3
    clear_value x3
    split
    · refine K.step ?_ (State.modSlice_keeps _ _ _) rfl
      exact K.refl
    · extract_lets +onlyGivenNames -underBinder -merge -useContext x6
      clear_value x6
      extract_lets +onlyGivenNames -underBinder -merge -useContext x7
      have h8 : K g2 94 a0 x7 := by
        refine K.step ?_ (State.choose_keeps _ _) rfl
        exact K.refl
      clear_value x7
      split
      · extract_lets +onlyGivenNames -underBinder -merge -useContext x10
        have h11 : K gS 94 a0 x10 := by
          refine K.step ?_ (State.sliceDrop_keeps _ _ _ _) rfl
          refine K.of2 ?_
          exact h8
        clear_value x10
        refine K.step ?_ (State.modSlice_keeps _ _ _) rfl
        exact h11
      · refine K.ite (fun _ => ?_) (fun _ => ?_)
        · refine K.step ?_ (State.countWb_keeps _ _) rfl
          refine K.step ?_ (State.dramWrite_keeps _ _ _ _) rfl
          exact K.refl
        · exact K.refl

theorem State.homeData_keeps : ∀ a0 a1 a2 a3, K g3 94 a0 (State.homeData a0 a1 a2 a3) := by
  intro a0 a1 a2 a3
  unfold State.homeData
  split
  · refine K.mk3 ?_
    refine K.step ?_ (State.bump_keeps _ _ _ _) rfl
    exact K.refl
  · extract_lets +onlyGivenNames -underBinder -merge -useContext x2
    clear_value x2
    refine K.mk3 ?_
    refine K.step ?_ (State.sliceFill_keeps _ _ _ _ _ _ _) rfl
    refine K.step ?_ (State.bump_keeps _ _ _ _) rfl
    exact K.refl

theorem State.devRead_keeps : ∀ a0 a1 a2, K g3 126 a0 (State.devRead a0 a1 a2) := by
  intro a0 a1 a2
  unfold State.devRead
  extract_lets +onlyGivenNames -underBinder -merge -useContext x0
  clear_value x0
  split
  · extract_lets +onlyGivenNames -underBinder -merge -useContext x2
    clear_value x2
    extract_lets +onlyGivenNames -underBinder -merge -useContext x3
    have h4 : K gS 126 a0 x3 := by
      refine K.step ?_ (State.setCore_keeps _ _ _) rfl
      exact K.refl
    clear_value x3
    extract_lets +onlyGivenNames -underBinder -merge -useContext x5
    have h6 : K gS 126 a0 x5 := by
      refine K.ite (fun _ => ?_) (fun _ => ?_)
      · refine K.step ?_ (State.sliceFill_keeps _ _ _ _ _ _ _) rfl
        exact h4
      · exact h4
    clear_value x5
    extract_lets +onlyGivenNames -underBinder -merge -useContext x7
    have h8 : K gS 126 a0 x7 := by
      refine K.step ?_ (State.modSlice_keeps _ _ _) rfl
      exact h6
    clear_value x7
    refine K.mk3 ?_
    exact h8
  · split
    · refine K.mk3 ?_
      exact K.refl
    · refine K.step ?_ (State.homeData_keeps _ _ _ _) rfl
      exact K.refl

theorem State.devReadFuel_keeps : ∀ a0 a1 a2 a3 a4, K g3 126 a0 (State.devReadFuel a0 a1 a2 a3 a4) := by
  intro a0 a1 a2 a3 a4
  induction a2 generalizing a0 a1 a3 a4 with
  | zero =>
    rw [State.devReadFuel]
    refine K.mk3 ?_
    exact K.refl
  | succ j ih =>
    rw [State.devReadFuel]
    refine K.ite (fun _ => ?_) (fun _ => ?_)
    · refine K.mk3 ?_
      exact K.refl
    · extract_lets +onlyGivenNames -underBinder -merge -useContext x0
      clear_value x0
      extract_lets +onlyGivenNames -underBinder -merge -useContext x1
      clear_value x1
      extract_lets +onlyGivenNames -underBinder -merge -useContext x2
      have h3 : K g3 126 a0 x2 := by
        refine K.step ?_ (State.devRead_keeps _ _ _) rfl
        exact K.refl
      clear_value x2
      extract_lets +onlyGivenNames -underBinder -merge -useContext x4
      have h5 : K g3 126 a0 x4 := by
        refine K.step ?_ (ih _ _ _ _) rfl
        refine K.of3 ?_
        exact h3
      clear_value x4
      refine K.mk3 ?_
      refine K.of3 ?_
      exact h5

theorem State.devReadBytes_keeps : ∀ a0 a1 a2 a3, K g3 126 a0 (State.devReadBytes a0 a1 a2 a3) := by
  intro a0 a1 a2 a3
  unfold State.devReadBytes
  refine K.step ?_ (State.devReadFuel_keeps _ _ _ _ _) rfl
  exact K.refl

theorem State.purge_keeps : ∀ a0 a1, K gS 96 a0 (State.purge a0 a1) := by
  intro a0 a1
  unfold State.purge
  extract_lets +onlyGivenNames -underBinder -merge -useContext x0
  have h1 : K gS 96 a0 x0 := by
    refine K.step ?_ (State.mapCores_keeps _ _) rfl
    exact K.refl
  clear_value x0
  refine K.step ?_ (State.modSlice_keeps _ _ _) rfl
  exact h1

theorem State.devWriteLine_keeps : ∀ a0 a1 a2 a3 a4 a5, K gS 126 a0 (State.devWriteLine a0 a1 a2 a3 a4 a5) := by
  intro a0 a1 a2 a3 a4 a5
  unfold State.devWriteLine
  extract_lets +onlyGivenNames -underBinder -merge -useContext x0
  clear_value x0
  extract_lets +onlyGivenNames -underBinder -merge -useContext x1
  have h2 : K gS 126 a0 x1 := by
    refine K.step ?_ (State.purge_keeps _ _) rfl
    exact K.refl
  clear_value x1
  extract_lets +onlyGivenNames -underBinder -merge -useContext x3
  clear_value x3
  refine K.step ?_ (State.sliceFill_keeps _ _ _ _ _ _ _) rfl
  exact h2

theorem State.devWriteFuel_keeps : ∀ a0 a1 a2 a3 a4 a5, K gS 126 a0 (State.devWriteFuel a0 a1 a2 a3 a4 a5) := by
  intro a0 a1 a2 a3 a4 a5
  induction a2 generalizing a0 a1 a3 a4 a5 with
  | zero =>
    rw [State.devWriteFuel]
    exact K.refl
  | succ j ih =>
    cases a4 with
    | nil =>
      rw [State.devWriteFuel]
      rotate_left
      · simp
      exact K.refl
    | cons p q =>
      rw [State.devWriteFuel]
      rotate_left
      · simp
      refine K.step ?_ (ih _ _ _ _ _) rfl
      refine K.step ?_ (State.devWriteLine_keeps _ _ _ _ _ _) rfl
      exact K.refl
theorem State.devWrite_keeps : ∀ a0 a1 a2 a3 a4, K gS 126 a0 (State.devWrite a0 a1 a2 a3 a4) := by
  intro a0 a1 a2 a3 a4
  unfold State.devWrite
  refine K.step ?_ (State.devWriteFuel_keeps _ _ _ _ _ _) rfl
  exact K.refl

theorem State.engRead_keeps : ∀ a0 a1 a2 a3, K g3 126 a0 (State.engRead a0 a1 a2 a3) := by
  intro a0 a1 a2 a3
  unfold State.engRead
  split
  · refine K.step ?_ (State.devReadBytes_keeps _ _ _ _) rfl
    exact K.refl
  · refine K.mk3 ?_
    exact K.refl

theorem State.engRefused_keeps : ∀ a0 a1 a2 a3 a4 a5, K gS 4 a0 (State.engRefused a0 a1 a2 a3 a4 a5) := by
  intro a0 a1 a2 a3 a4 a5
  unfold State.engRefused
  refine K.ite (fun _ => ?_) (fun _ => ?_)
  · refine K.step ?_ (State.bwLate_keeps _ _ _ _) rfl
    exact K.refl
  · refine K.step ?_ (State.bwCount_keeps _ _ _) rfl
    exact K.refl

theorem State.engWrite_keeps : ∀ a0 a1 a2 a3 a4, K gS 126 a0 (State.engWrite a0 a1 a2 a3 a4) := by
  intro a0 a1 a2 a3 a4
  unfold State.engWrite
  split
  · refine K.step ?_ (State.devWrite_keeps _ _ _ _ _) rfl
    exact K.refl
  · refine K.step ?_ (State.castTouched_keeps _ _ _ _) rfl
    refine K.step ?_ (State.setBytesP_keeps _ _ _ _) rfl
    exact K.refl

theorem State.l1Alloc_keeps : ∀ a0 a1 a2, K g2 2 a0 (State.l1Alloc a0 a1 a2) := by
  intro a0 a1 a2
  unfold State.l1Alloc
  refine K.ite (fun _ => ?_) (fun _ => ?_)
  · refine K.mk2 ?_
    exact K.refl
  · extract_lets +onlyGivenNames -underBinder -merge -useContext x0
    clear_value x0
    refine K.ite (fun _ => ?_) (fun _ => ?_)
    · refine K.mk2 ?_
      exact K.refl
    · extract_lets +onlyGivenNames -underBinder -merge -useContext x1
      have h2 : K g2 2 a0 x1 := by
        refine K.step ?_ (State.choose_keeps _ _) rfl
        exact K.refl
      clear_value x1
      refine K.mk2 ?_
      refine K.of2 ?_
      exact h2

theorem State.l2Evict_keeps : ∀ a0 a1 a2, K gS 544 a0 (State.l2Evict a0 a1 a2) := by
  intro a0 a1 a2
  unfold State.l2Evict
  extract_lets +onlyGivenNames -underBinder -merge -useContext x0
  clear_value x0
  extract_lets +onlyGivenNames -underBinder -merge -useContext x1
  clear_value x1
  extract_lets +onlyGivenNames -underBinder -merge -useContext x2
  clear_value x2
  extract_lets +onlyGivenNames -underBinder -merge -useContext x3
  clear_value x3
  extract_lets +onlyGivenNames -underBinder -merge -useContext x4
  have h5 : K gS 544 a0 x4 := by
    refine K.step ?_ (State.setCore_keeps _ _ _) rfl
    exact K.refl
  clear_value x4
  refine K.ite (fun _ => ?_) (fun _ => ?_)
  · refine K.step ?_ (State.send_keeps _ _) rfl
    exact h5
  · refine K.step ?_ (State.send_keeps _ _) rfl
    exact h5

theorem State.l2Fill_keeps : ∀ a0 a1 a2 a3 a4 a5, K gS 546 a0 (State.l2Fill a0 a1 a2 a3 a4 a5) := by
  intro a0 a1 a2 a3 a4 a5
  unfold State.l2Fill
  extract_lets +onlyGivenNames -underBinder -merge -useContext x0
  clear_value x0
  extract_lets +onlyGivenNames -underBinder -merge -useContext x1
  clear_value x1
  split
  · refine K.step ?_ (State.modCore_keeps _ _ _) rfl
    exact K.refl
  · extract_lets +onlyGivenNames -underBinder -merge -useContext x4
    clear_value x4
    extract_lets +onlyGivenNames -underBinder -merge -useContext x5
    have h6 : K g2 546 a0 x5 := by
      refine K.step ?_ (State.choose_keeps _ _) rfl
      exact K.refl
    clear_value x5
    split
    · refine K.step ?_ (State.modCore_keeps _ _ _) rfl
      refine K.step ?_ (State.l2Evict_keeps _ _ _) rfl
      refine K.of2 ?_
      exact h6
    · exact K.refl

theorem State.setHdrDword_keeps : ∀ a0 a1 a2 a3, K gS 4 a0 (State.setHdrDword a0 a1 a2 a3) := by
  intro a0 a1 a2 a3
  unfold State.setHdrDword
  refine K.step ?_ (State.setFld_keeps _ _ _ _) rfl
  exact K.refl

theorem State.hdrWrite_keeps : ∀ a0 a1 a2 a3, K gS 4 a0 (State.hdrWrite a0 a1 a2 a3) := by
  intro a0 a1 a2 a3
  unfold State.hdrWrite
  extract_lets +onlyGivenNames -underBinder -merge -useContext x0
  clear_value x0
  extract_lets +onlyGivenNames -underBinder -merge -useContext x1
  clear_value x1
  extract_lets +onlyGivenNames -underBinder -merge -useContext x2
  clear_value x2
  extract_lets +onlyGivenNames -underBinder -merge -useContext x3
  clear_value x3
  extract_lets +onlyGivenNames -underBinder -merge -useContext x4
  clear_value x4
  refine K.ite (fun _ => ?_) (fun _ => ?_)
  · exact K.refl
  · refine K.step ?_ (State.setHdrDword_keeps _ _ _ _) rfl
    exact K.refl

theorem State.cfgWrite_keeps : ∀ a0 a1 a2 a3, K gS 4 a0 (State.cfgWrite a0 a1 a2 a3) := by
  intro a0 a1 a2 a3
  unfold State.cfgWrite
  extract_lets +onlyGivenNames -underBinder -merge -useContext x0
  clear_value x0
  extract_lets +onlyGivenNames -underBinder -merge -useContext x1
  clear_value x1
  refine K.ite (fun _ => ?_) (fun _ => ?_)
  · extract_lets +onlyGivenNames -underBinder -merge -useContext x2
    have h3 : K gS 4 a0 x2 := by
      refine K.step ?_ (State.hdrWrite_keeps _ _ _ _) rfl
      exact K.refl
    clear_value x2
    refine K.ite (fun _ => ?_) (fun _ => ?_)
    · refine K.step ?_ (State.hdrWrite_keeps _ _ _ _) rfl
      exact h3
    · exact h3
  · exact K.refl

theorem State.copyInto_keeps : ∀ a0 a1 a2 a3, K g2 2 a0 (State.copyInto a0 a1 a2 a3) := by
  intro a0 a1 a2 a3
  unfold State.copyInto
  refine K.ite (fun _ => ?_) (fun _ => ?_)
  · refine K.mk2 ?_
    exact K.refl
  · refine K.ite (fun _ => ?_) (fun _ => ?_)
    · refine K.mk2 ?_
      exact K.refl
    · extract_lets +onlyGivenNames -underBinder -merge -useContext x0
      have h1 : K g2 2 a0 x0 := by
        refine K.step ?_ (State.choose_keeps _ _) rfl
        exact K.refl
      clear_value x0
      refine K.mk2 ?_
      refine K.of2 ?_
      exact h1

theorem State.dtlbUse_keeps : ∀ a0 a1 a2, K gS 34 a0 (State.dtlbUse a0 a1 a2) := by
  intro a0 a1 a2
  unfold State.dtlbUse
  extract_lets +onlyGivenNames -underBinder -merge -useContext x0
  clear_value x0
  refine K.ite (fun _ => ?_) (fun _ => ?_)
  · exact K.refl
  · extract_lets +onlyGivenNames -underBinder -merge -useContext x1
    clear_value x1
    extract_lets +onlyGivenNames -underBinder -merge -useContext x2
    have h3 : K g2 34 a0 x2 := by
      refine K.step ?_ (State.copyInto_keeps _ _ _ _) rfl
      exact K.refl
    clear_value x2
    refine K.step ?_ (State.setCore_keeps _ _ _) rfl
    refine K.of2 ?_
    exact h3

theorem State.dtlbUse2_keeps : ∀ a0 a1 a2, K gS 34 a0 (State.dtlbUse2 a0 a1 a2) := by
  intro a0 a1 a2
  unfold State.dtlbUse2
  split
  · refine K.step ?_ (State.dtlbUse_keeps _ _ _) rfl
    refine K.step ?_ (State.dtlbUse_keeps _ _ _) rfl
    exact K.refl
  · refine K.step ?_ (State.dtlbUse_keeps _ _ _) rfl
    exact K.refl

theorem State.raiseT_keeps : ∀ a0 a1 a2, K gS 36 a0 (State.raiseT a0 a1 a2) := by
  intro a0 a1 a2
  unfold State.raiseT
  extract_lets +onlyGivenNames -underBinder -merge -useContext x0
  have h1 : K gS 36 a0 x0 := by
    refine K.ite (fun _ => ?_) (fun _ => ?_)
    · refine K.step ?_ (State.modCore_keeps _ _ _) rfl
      exact K.refl
    · refine K.ite (fun _ => ?_) (fun _ => ?_)
      · refine K.step ?_ (State.modCore_keeps _ _ _) rfl
        exact K.refl
      · exact K.refl
  clear_value x0
  extract_lets +onlyGivenNames -underBinder -merge -useContext x2
  have h3 : K gS 36 a0 x2 := by
    refine K.ite (fun _ => ?_) (fun _ => ?_)
    · refine K.step ?_ (State.bump_keeps _ _ _ _) rfl
      exact h1
    · exact h1
  clear_value x2
  refine K.step ?_ (State.raise_keeps _ _ _ _ _) rfl
  exact h3

theorem State.broadcast_keeps : ∀ a0 a1 a2, K gS 512 a0 (State.broadcast a0 a1 a2) := by
  intro a0 a1 a2
  unfold State.broadcast
  refine K.step ?_ (State.sendAll_keeps _ _) rfl
  exact K.refl

theorem State.crossFlit_keeps : ∀ a0 a1, K gS 2052 a0 (State.crossFlit a0 a1) := by
  intro a0 a1
  unfold State.crossFlit
  extract_lets +onlyGivenNames -underBinder -merge -useContext x0
  clear_value x0
  extract_lets +onlyGivenNames -underBinder -merge -useContext x1
  clear_value x1
  extract_lets +onlyGivenNames -underBinder -merge -useContext x2
  have h3 : K gS 2052 a0 x2 := by
    refine K.step ?_ (State.setLink_keeps _ _ _) rfl
    exact K.refl
  clear_value x2
  refine K.ite (fun _ => ?_) (fun _ => ?_)
  · refine K.step ?_ (State.setLink_keeps _ _ _) rfl
    exact h3
  · refine K.step ?_ (State.setBit_keeps _ _ _ _) rfl
    refine K.step ?_ (State.bump_keeps _ _ _ _) rfl
    exact h3

theorem State.crossFlits_keeps : ∀ a0 a1 a2, K gS 2052 a0 (State.crossFlits a0 a1 a2) := by
  intro a0 a1 a2
  induction a1 generalizing a0 a2 with
  | zero =>
    rw [State.crossFlits]
    exact K.refl
  | succ j ih =>
    rw [State.crossFlits]
    refine K.step ?_ (ih _ _) rfl
    refine K.foldl ?_ (fun y0 a1 h2 => ?_)
    · exact K.refl
    · refine K.step ?_ (State.crossFlit_keeps _ _) rfl
      exact h2

theorem State.dropWrite_keeps : ∀ a0 a1 a2, K gS 8589934596 a0 (State.dropWrite a0 a1 a2) := by
  intro a0 a1 a2
  unfold State.dropWrite
  extract_lets +onlyGivenNames -underBinder -merge -useContext x0
  have h1 : K gS 8589934596 a0 x0 := by
    refine K.step ?_ (State.bwCount_keeps _ _ _) rfl
    exact K.refl
  clear_value x0
  refine K.ite (fun _ => ?_) (fun _ => ?_)
  · refine K.step ?_ (State.detect_keeps _ _) rfl
    refine K.step ?_ (State.bump_keeps _ _ _ _) rfl
    exact h1
  · exact h1

theorem State.flushLine_keeps : ∀ a0 a1 a2 a3, K gS 94 a0 (State.flushLine a0 a1 a2 a3) := by
  intro a0 a1 a2 a3
  unfold State.flushLine
  extract_lets +onlyGivenNames -underBinder -merge -useContext x0
  clear_value x0
  extract_lets +onlyGivenNames -underBinder -merge -useContext x1
  have h2 : K gS 94 a0 x1 := by
    refine K.ite (fun _ => ?_) (fun _ => ?_)
    · refine K.step ?_ (State.sliceFill_keeps _ _ _ _ _ _ _) rfl
      exact K.refl
    · exact K.refl
  clear_value x1
  refine K.step ?_ (State.modSlice_keeps _ _ _) rfl
  exact h2

theorem State.flushCore_keeps : ∀ a0 a1, K gS 126 a0 (State.flushCore a0 a1) := by
  intro a0 a1
  unfold State.flushCore
  extract_lets +onlyGivenNames -underBinder -merge -useContext x0
  clear_value x0
  extract_lets +onlyGivenNames -underBinder -merge -useContext x1
  have h2 : K gS 126 a0 x1 := by
    refine K.foldl ?_ (fun y3 a4 h5 => ?_)
    · exact K.refl
    · refine K.ite (fun _ => ?_) (fun _ => ?_)
      · exact h5
      · refine K.step ?_ (State.flushLine_keeps _ _ _ _) rfl
        exact h5
  clear_value x1
  extract_lets +onlyGivenNames -underBinder -merge -useContext x6
  have h7 : K gS 126 a0 x6 := by
    refine K.foldl ?_ (fun y8 a9 h10 => ?_)
    · exact h2
    · split
      · refine K.ite (fun _ => ?_) (fun _ => ?_)
        · exact h10
        · refine K.step ?_ (State.flushLine_keeps _ _ _ _) rfl
          exact h10
      · exact h10
  clear_value x6
  refine K.step ?_ (State.modCore_keeps _ _ _) rfl
  exact h7

theorem State.flushSlice_keeps : ∀ a0 a1, K gS 92 a0 (State.flushSlice a0 a1) := by
  intro a0 a1
  unfold State.flushSlice
  extract_lets +onlyGivenNames -underBinder -merge -useContext x0
  have h1 : K gS 92 a0 x0 := by
    refine K.foldl ?_ (fun y2 a3 h4 => ?_)
    · exact K.refl
    · refine K.step ?_ (State.sliceDrop_keeps _ _ _ _) rfl
      exact h4
  clear_value x0
  refine K.step ?_ (State.modSlice_keeps _ _ _) rfl
  exact h1

theorem State.takeTc0_keeps : ∀ a0 a1 a2 a3 a4, K gS 3076 a0 (State.takeTc0 a0 a1 a2 a3 a4) := by
  intro a0 a1 a2 a3 a4
  unfold State.takeTc0
  extract_lets +onlyGivenNames -underBinder -merge -useContext x0
  clear_value x0
  refine K.step ?_ (State.crossFlits_keeps _ _ _) rfl
  refine K.step ?_ (State.setEp_keeps _ _ _) rfl
  exact K.refl

theorem State.injectTc0_keeps : ∀ a0 a1 a2, K gS 3588 a0 (State.injectTc0 a0 a1 a2) := by
  intro a0 a1 a2
  unfold State.injectTc0
  refine K.step ?_ (State.send_keeps _ _) rfl
  refine K.step ?_ (State.takeTc0_keeps _ _ _ _ _) rfl
  exact K.refl

theorem State.mailboxGone_keeps : ∀ a0 a1, K gS 32 a0 (State.mailboxGone a0 a1) := by
  intro a0 a1
  unfold State.mailboxGone
  split
  · refine K.step ?_ (State.modCore_keeps _ _ _) rfl
    exact K.refl
  · exact K.refl

theorem State.lostWrite_keeps : ∀ a0 a1, K gS 8589934596 a0 (State.lostWrite a0 a1) := by
  intro a0 a1
  unfold State.lostWrite
  refine K.step ?_ (State.detect_keeps _ _) rfl
  refine K.step ?_ (State.bump_keeps _ _ _ _) rfl
  refine K.step ?_ (State.bwCount_keeps _ _ _) rfl
  exact K.refl

theorem State.kill_keeps : ∀ a0 a1 a2, K gS 8589935140 a0 (State.kill a0 a1 a2) := by
  intro a0 a1 a2
  unfold State.kill
  extract_lets +onlyGivenNames -underBinder -merge -useContext x0
  clear_value x0
  extract_lets +onlyGivenNames -underBinder -merge -useContext x1
  have h2 : K gS 8589935140 a0 x1 := by
    refine K.step ?_ (State.setFld_keeps _ _ _ _) rfl
    refine K.step ?_ (State.setFld_keeps _ _ _ _) rfl
    refine K.step ?_ (State.setFld_keeps _ _ _ _) rfl
    exact K.refl
  clear_value x1
  extract_lets +onlyGivenNames -underBinder -merge -useContext x3
  have h4 : K gS 8589935140 a0 x3 := by
    refine K.step ?_ (State.setFlag_keeps _ _ _ _) rfl
    refine K.step ?_ (State.setBit_keeps _ _ _ _) rfl
    exact h2
  clear_value x3
  extract_lets +onlyGivenNames -underBinder -merge -useContext x5
  have h6 : K gS 8589935140 a0 x5 := by
    refine K.step ?_ (State.broadcast_keeps _ _ _) rfl
    refine K.step ?_ (State.detect_keeps _ _) rfl
    exact h4
  clear_value x5
  extract_lets +onlyGivenNames -underBinder -merge -useContext x7
  clear_value x7
  extract_lets +onlyGivenNames -underBinder -merge -useContext x8
  have h9 : K gS 8589935140 a0 x8 := by
    refine K.foldl ?_ (fun y10 a11 h12 => ?_)
    · refine K.upd512 ?_ rfl
      exact h6
    · refine K.step ?_ (State.mailboxGone_keeps _ _) rfl
      refine K.step ?_ (State.lostWrite_keeps _ _) rfl
      exact h12
  clear_value x8
  split
  · extract_lets +onlyGivenNames -underBinder -merge -useContext x14
    have h15 : K gS 8589935140 a0 x14 := by
      refine K.upd512 ?_ rfl
      exact h9
    clear_value x14
    refine K.step ?_ (State.sendAll_keeps _ _) rfl
    refine K.step ?_ (State.modCore_keeps _ _ _) rfl
    exact h15
  · exact h9

theorem State.lostStore_keeps : ∀ a0 a1, K gS 4 a0 (State.lostStore a0 a1) := by
  intro a0 a1
  unfold State.lostStore
  split
  · refine K.step ?_ (State.bump_keeps _ _ _ _) rfl
    exact K.refl
  · refine K.step ?_ (State.bump_keeps _ _ _ _) rfl
    exact K.refl
  · exact K.refl

theorem State.tc0Wait_keeps : ∀ a0 a1, K gS 4 a0 (State.tc0Wait a0 a1) := by
  intro a0 a1
  unfold State.tc0Wait
  refine K.ite (fun _ => ?_) (fun _ => ?_)
  · refine K.step ?_ (State.bump_keeps _ _ _ _) rfl
    exact K.refl
  · exact K.refl

theorem State.waitTc0_keeps : ∀ a0 a1 a2, K gS 1028 a0 (State.waitTc0 a0 a1 a2) := by
  intro a0 a1 a2
  unfold State.waitTc0
  refine K.step ?_ (State.tc0Wait_keeps _ _) rfl
  refine K.step ?_ (State.setEp_keeps _ _ _) rfl
  exact K.refl

theorem State.sendTc0_keeps : ∀ a0 a1 a2, K gS 3588 a0 (State.sendTc0 a0 a1 a2) := by
  intro a0 a1 a2
  unfold State.sendTc0
  refine K.ite (fun _ => ?_) (fun _ => ?_)
  · refine K.step ?_ (State.injectTc0_keeps _ _ _) rfl
    exact K.refl
  · refine K.step ?_ (State.waitTc0_keeps _ _ _) rfl
    exact K.refl

end Sys2Proof.Machine
end

