-- ==== Sys2Proof/Laws/KeepsInject.lean ====
section
/-!
SUPPORT. What each function and each command of Machine/Inject.lean, Machine/View.lean, Machine/CoreMem.lean can change (Laws/Keeps.lean), one lemma each.
-/
namespace Sys2Proof.Machine

theorem State.correctedI_keeps : ∀ a0 a1 a2 a3, K gS 8589934592 a0 (State.correctedI a0 a1 a2 a3) := by
  intro a0 a1 a2 a3
  unfold State.correctedI
  refine K.step ?_ (State.detect_keeps _ _) rfl
  exact K.refl

theorem State.disarm_keeps : ∀ a0, K gS 4 a0 (State.disarm a0) := by
  intro a0
  unfold State.disarm
  refine K.step ?_ (State.setFlag_keeps _ _ _ _) rfl
  refine K.step ?_ (State.setFlag_keeps _ _ _ _) rfl
  exact K.refl

theorem State.dropS2_keeps : ∀ a0 a1 a2, K gS 32 a0 (State.dropS2 a0 a1 a2) := by
  intro a0 a1 a2
  unfold State.dropS2
  refine K.step ?_ (State.modCore_keeps _ _ _) rfl
  exact K.refl

theorem State.dropTlb_keeps : ∀ a0 a1 a2, K gS 32 a0 (State.dropTlb a0 a1 a2) := by
  intro a0 a1 a2
  unfold State.dropTlb
  refine K.step ?_ (State.modCore_keeps _ _ _) rfl
  exact K.refl

theorem State.failureI_keeps : ∀ a0 a1 a2 a3 a4 a5 a6 a7, K gS 8589934592 a0 (State.failureI a0 a1 a2 a3 a4 a5 a6 a7) := by
  intro a0 a1 a2 a3 a4 a5 a6 a7
  unfold State.failureI
  refine K.step ?_ (State.detect_keeps _ _) rfl
  exact K.refl

theorem State.tlbEvent_keeps : ∀ a0 a1 a2 a3 a4 a5, K gS 8589934592 a0 (State.tlbEvent a0 a1 a2 a3 a4 a5) := by
  intro a0 a1 a2 a3 a4 a5
  unfold State.tlbEvent
  extract_lets +onlyGivenNames -underBinder -merge -useContext x0
  have h1 : K gS 8589934592 a0 x0 := by
    refine K.step ?_ (State.correctedI_keeps _ _ _ _) rfl
    exact K.refl
  clear_value x0
  refine K.ite (fun _ => ?_) (fun _ => ?_)
  · refine K.step ?_ (State.failureI_keeps _ _ _ _ _ _ _ _) rfl
    exact h1
  · exact h1

theorem State.failS2_keeps : ∀ a0 a1 a2 a3, K gS 8589934624 a0 (State.failS2 a0 a1 a2 a3) := by
  intro a0 a1 a2 a3
  unfold State.failS2
  extract_lets +onlyGivenNames -underBinder -merge -useContext x0
  clear_value x0
  extract_lets +onlyGivenNames -underBinder -merge -useContext x1
  clear_value x1
  split
  · exact K.refl
  · split
    · exact K.refl
    · refine K.step ?_ (State.dropS2_keeps _ _ _) rfl
      refine K.step ?_ (State.tlbEvent_keeps _ _ _ _ _ _) rfl
      exact K.refl

theorem State.failTlb_keeps : ∀ a0 a1 a2 a3, K gS 8589934624 a0 (State.failTlb a0 a1 a2 a3) := by
  intro a0 a1 a2 a3
  unfold State.failTlb
  extract_lets +onlyGivenNames -underBinder -merge -useContext x0
  clear_value x0
  split
  · exact K.refl
  · split
    · exact K.refl
    · refine K.step ?_ (State.dropTlb_keeps _ _ _) rfl
      refine K.step ?_ (State.tlbEvent_keeps _ _ _ _ _ _) rfl
      exact K.refl

theorem State.failUsed_keeps : ∀ a0 a1 a2, K gO 8589934624 a0 (State.failUsed a0 a1 a2) := by
  intro a0 a1 a2
  unfold State.failUsed
  extract_lets +onlyGivenNames -underBinder -merge -useContext x0
  clear_value x0
  split
  · split
    · refine K.mkO ?_
      refine K.step ?_ (State.dropTlb_keeps _ _ _) rfl
      refine K.step ?_ (State.tlbEvent_keeps _ _ _ _ _ _) rfl
      exact K.refl
    · exact K.noneO
  · split
    · refine K.mkO ?_
      refine K.step ?_ (State.dropS2_keeps _ _ _) rfl
      refine K.step ?_ (State.tlbEvent_keeps _ _ _ _ _ _) rfl
      exact K.refl
    · exact K.noneO
  · exact K.noneO

theorem State.injTriggered_keeps : ∀ a0, K gS 4 a0 (State.injTriggered a0) := by
  intro a0
  unfold State.injTriggered
  extract_lets +onlyGivenNames -underBinder -merge -useContext x0
  have h1 : K gS 4 a0 x0 := by
    refine K.step ?_ (State.bump_keeps _ _ _ _) rfl
    exact K.refl
  clear_value x0
  refine K.ite (fun _ => ?_) (fun _ => ?_)
  · refine K.step ?_ (State.setBit_keeps _ _ _ _) rfl
    refine K.step ?_ (State.disarm_keeps _) rfl
    exact h1
  · exact h1

theorem State.poisonByte_keeps : ∀ a0 a1 a2, K gS 48 a0 (State.poisonByte a0 a1 a2) := by
  intro a0 a1 a2
  unfold State.poisonByte
  split
  · refine K.step ?_ (State.modCore_keeps _ _ _) rfl
    exact K.refl
  · refine K.upd16 ?_ rfl
    exact K.refl

theorem State.injectOwner_keeps {w : Nat} {s : State} : ∀ a0 a1 a2 a3 a4 a5 a6, K gS w s a0 → (∀ y0, K gS w s y0 → K gS w s (a6 y0)) → w &&& 8589934596 = 8589934596 → K gS w s (State.injectOwner a0 a1 a2 a3 a4 a5 a6) := by
  intro a0 a1 a2 a3 a4 a5 a6 hs0 hs1 hw
  unfold State.injectOwner
  split
  · refine K.step ?_ (State.injTriggered_keeps _) (sub_trans hw rfl)
    refine K.step ?_ (State.correctedI_keeps _ _ _ _) (sub_trans hw rfl)
    exact hs0
  · refine K.step ?_ (State.injTriggered_keeps _) (sub_trans hw rfl)
    refine K.step ?_ (State.failureI_keeps _ _ _ _ _ _ _ _) (sub_trans hw rfl)
    refine hs1 _ ?_
    exact hs0
  · refine K.step ?_ (State.injTriggered_keeps _) (sub_trans hw rfl)
    refine hs1 _ ?_
    exact hs0
  · exact hs0

theorem State.injectRead_keeps : ∀ a0 a1 a2, K gS 8589934644 a0 (State.injectRead a0 a1 a2) := by
  intro a0 a1 a2
  unfold State.injectRead
  split
  · exact K.refl
  · split
    · refine State.injectOwner_keeps _ _ _ _ _ _ _ ?_ ?_ rfl
      · exact K.refl
      · intro y3 h4
        refine K.step ?_ (State.poisonByte_keeps _ _ _) rfl
        exact h4
    · exact K.refl

theorem State.meetCheck_keeps : ∀ a0 a1 a2 a3 a4 a5, K gS 8589934640 a0 (State.meetCheck a0 a1 a2 a3 a4 a5) := by
  intro a0 a1 a2 a3 a4 a5
  unfold State.meetCheck
  extract_lets +onlyGivenNames -underBinder -merge -useContext x0
  clear_value x0
  split
  · refine K.step ?_ (State.modCore_keeps _ _ _) rfl
    refine K.step ?_ (State.correctedI_keeps _ _ _ _) rfl
    exact K.refl
  · refine K.step ?_ (State.failureI_keeps _ _ _ _ _ _ _ _) rfl
    refine K.step ?_ (State.correctedI_keeps _ _ _ _) rfl
    exact K.refl
  · refine K.step ?_ (State.correctedI_keeps _ _ _ _) rfl
    exact K.refl
  · refine K.step ?_ (State.failTlb_keeps _ _ _ _) rfl
    exact K.refl
  · refine K.step ?_ (State.failS2_keeps _ _ _ _) rfl
    exact K.refl
  · refine K.step ?_ (State.correctedI_keeps _ _ _ _) rfl
    exact K.refl
  · refine K.step ?_ (State.failureI_keeps _ _ _ _ _ _ _ _) rfl
    refine K.step ?_ (State.poisonByte_keeps _ _ _) rfl
    exact K.refl

theorem State.injectPart_keeps : ∀ a0 a1 a2 a3 a4, K gS 8589934644 a0 (State.injectPart a0 a1 a2 a3 a4) := by
  intro a0 a1 a2 a3 a4
  unfold State.injectPart
  extract_lets +onlyGivenNames -underBinder -merge -useContext x0
  have h1 : K gS 8589934644 a0 x0 := by
    dsimp -zeta only [x0]
    split
    · split
      · rename_i e3
        refine K.step ?_ (State.injTriggered_keeps _) rfl
        refine K.someO ?_ e3
        refine K.step ?_ (State.failUsed_keeps _ _ _) rfl
        exact K.refl
      · exact K.refl
    · exact K.refl
  clear_value x0
  extract_lets +onlyGivenNames -underBinder -merge -useContext x6
  have h7 : K gS 8589934644 a0 x6 := by
    dsimp -zeta only [x6]
    split
    · refine K.ite (fun _ => ?_) (fun _ => ?_)
      · refine K.step ?_ (State.injTriggered_keeps _) rfl
        refine K.step ?_ (State.meetCheck_keeps _ _ _ _ _ _) rfl
        exact h1
      · exact h1
    · exact h1
  clear_value x6
  split
  · exact h7
  · exact h7
  · refine K.step ?_ (State.injectRead_keeps _ _ _) rfl
    exact h7

theorem State.injectAccess_keeps : ∀ a0 a1 a2 a3 a4, K gS 8589934644 a0 (State.injectAccess a0 a1 a2 a3 a4) := by
  intro a0 a1 a2 a3 a4
  unfold State.injectAccess
  refine K.ite (fun _ => ?_) (fun _ => ?_)
  · split
    · exact K.refl
    · extract_lets +onlyGivenNames -underBinder -merge -useContext x2
      have h3 : K gS 8589934644 a0 x2 := by
        refine K.step ?_ (State.injectPart_keeps _ _ _ _ _) rfl
        exact K.refl
      clear_value x2
      split
      · refine K.step ?_ (State.injectPart_keeps _ _ _ _ _) rfl
        exact h3
      · exact h3
  · exact K.refl

theorem State.markInj_keeps {w : Nat} {s : State} : ∀ a0 a1, K gS w s a0 → K gS w s a1 → w &&& 8589934592 = 8589934592 → K gS w s (State.markInj a0 a1) := by
  intro a0 a1 hs0 hs1 hw
  unfold State.markInj
  refine K.upd8589934592 ?_ (sub_trans hw rfl)
  exact hs1

theorem State.meetChecks_keeps : ∀ a0 a1 a2 a3 a4 a5, K gS 8589934644 a0 (State.meetChecks a0 a1 a2 a3 a4 a5) := by
  intro a0 a1 a2 a3 a4 a5
  unfold State.meetChecks
  extract_lets +onlyGivenNames -underBinder -merge -useContext x0
  clear_value x0
  refine K.step ?_ (State.injectAccess_keeps _ _ _ _ _) rfl
  refine K.foldl ?_ (fun y1 a2 h3 => ?_)
  · exact K.refl
  · refine K.step ?_ (State.meetCheck_keeps _ _ _ _ _ _) rfl
    exact h3

theorem State.snapshot_keeps : ∀ a0 a1, K gS 4 a0 (State.snapshot a0 a1) := by
  intro a0 a1
  unfold State.snapshot
  refine K.ite (fun _ => ?_) (fun _ => ?_)
  · extract_lets +onlyGivenNames -underBinder -merge -useContext x0
    clear_value x0
    extract_lets +onlyGivenNames -underBinder -merge -useContext x1
    clear_value x1
    refine K.step ?_ (State.setReg_keeps _ _ _) rfl
    refine K.step ?_ (State.setReg_keeps _ _ _) rfl
    refine K.step ?_ (State.setReg_keeps _ _ _) rfl
    exact K.refl
  · exact K.refl

theorem State.readCtl_keeps : ∀ a0 a1 a2, K g2 6 a0 (State.readCtl a0 a1 a2) := by
  intro a0 a1 a2
  unfold State.readCtl
  refine K.ite (fun _ => ?_) (fun _ => ?_)
  · extract_lets +onlyGivenNames -underBinder -merge -useContext x0
    clear_value x0
    split
    · refine K.mk2 ?_
      exact K.refl
    · extract_lets +onlyGivenNames -underBinder -merge -useContext x3
      have h4 : K gS 6 a0 x3 := by
        refine K.step ?_ (State.snapshot_keeps _ _) rfl
        exact K.refl
      clear_value x3
      extract_lets +onlyGivenNames -underBinder -merge -useContext x5
      clear_value x5
      extract_lets +onlyGivenNames -underBinder -merge -useContext x6
      clear_value x6
      extract_lets +onlyGivenNames -underBinder -merge -useContext x7
      have h8 : K gS 6 a0 x7 := by
        refine K.ite (fun _ => ?_) (fun _ => ?_)
        · exact h4
        · refine K.step ?_ (State.setReg_keeps _ _ _) rfl
          exact h4
      clear_value x7
      refine K.mk2 ?_
      refine K.ite (fun _ => ?_) (fun _ => ?_)
      · refine K.upd2 ?_ rfl
        exact h8
      · exact h8
  · refine K.mk2 ?_
    exact K.refl

theorem State.want_keeps : ∀ a0 a1 a2 a3, K gS 544 a0 (State.want a0 a1 a2 a3) := by
  intro a0 a1 a2 a3
  unfold State.want
  extract_lets +onlyGivenNames -underBinder -merge -useContext x0
  clear_value x0
  refine K.ite (fun _ => ?_) (fun _ => ?_)
  · exact K.refl
  · extract_lets +onlyGivenNames -underBinder -merge -useContext x1
    have h2 : K gS 544 a0 x1 := by
      refine K.step ?_ (State.setCore_keeps _ _ _) rfl
      exact K.refl
    clear_value x1
    refine K.step ?_ (State.send_keeps _ _) rfl
    exact h2

theorem State.wantM_keeps : ∀ a0 a1 a2, K gS 544 a0 (State.wantM a0 a1 a2) := by
  intro a0 a1 a2
  unfold State.wantM
  extract_lets +onlyGivenNames -underBinder -merge -useContext x0
  clear_value x0
  refine K.ite (fun _ => ?_) (fun _ => ?_)
  · exact K.refl
  · refine K.step ?_ (State.want_keeps _ _ _ _) rfl
    exact K.refl

theorem State.pump_keeps : ∀ a0 a1, K gS 544 a0 (State.pump a0 a1) := by
  intro a0 a1
  unfold State.pump
  extract_lets +onlyGivenNames -underBinder -merge -useContext x0
  clear_value x0
  extract_lets +onlyGivenNames -underBinder -merge -useContext x1
  have h2 : ∀ y3 y4, K gS 544 a0 y3 → K gS 544 a0 (x1 y3 y4) := by
    intro y3 y4 h5
    dsimp -zeta only [x1]
    refine K.ite (fun _ => ?_) (fun _ => ?_)
    · refine K.step ?_ (State.want_keeps _ _ _ _) rfl
      exact h5
    · exact h5
  clear_value x1
  extract_lets +onlyGivenNames -underBinder -merge -useContext x6
  have h7 : K gS 544 a0 x6 := by
    refine K.foldl ?_ (fun y8 a9 h10 => ?_)
    · exact K.refl
    · extract_lets +onlyGivenNames -underBinder -merge -useContext x11
      have h12 : K gS 544 a0 x11 := by
        refine h2 _ _ ?_
        exact h10
      clear_value x11
      refine K.ite (fun _ => ?_) (fun _ => ?_)
      · exact h12
      · refine h2 _ _ ?_
        exact h12
  clear_value x6
  extract_lets +onlyGivenNames -underBinder -merge -useContext x13
  have h14 : K gS 544 a0 x13 := by
    refine K.foldl ?_ (fun y15 a16 h17 => ?_)
    · exact h7
    · refine K.step ?_ (State.wantM_keeps _ _ _) rfl
      exact h17
  clear_value x13
  split
  · refine K.ite (fun _ => ?_) (fun _ => ?_)
    · refine K.step ?_ (State.wantM_keeps _ _ _) rfl
      exact h14
    · exact h14
  · exact h14

theorem State.sharedTc0_keeps : ∀ a0 a1 a2, K gS 3076 a0 (State.sharedTc0 a0 a1 a2) := by
  intro a0 a1 a2
  unfold State.sharedTc0
  split
  · refine K.ite (fun _ => ?_) (fun _ => ?_)
    · refine K.step ?_ (State.takeTc0_keeps _ _ _ _ _) rfl
      exact K.refl
    · exact K.refl
  · exact K.refl

theorem State.performStore_keeps : ∀ a0 a1 a2, K gS 8589938236 a0 (State.performStore a0 a1 a2) := by
  intro a0 a1 a2
  unfold State.performStore
  refine K.ite (fun _ => ?_) (fun _ => ?_)
  · exact K.refl
  · split
    · refine K.ite (fun _ => ?_) (fun _ => ?_)
      · refine K.step ?_ (State.dropWrite_keeps _ _ _) rfl
        exact K.refl
      · extract_lets +onlyGivenNames -underBinder -merge -useContext x1
        clear_value x1
        extract_lets +onlyGivenNames -underBinder -merge -useContext x2
        clear_value x2
        extract_lets +onlyGivenNames -underBinder -merge -useContext x3
        clear_value x3
        refine K.step ?_ (State.setCore_keeps _ _ _) rfl
        exact K.refl
    · refine K.ite (fun _ => ?_) (fun _ => ?_)
      · refine K.step ?_ (State.lostStore_keeps _ _) rfl
        exact K.refl
      · refine K.ite (fun _ => ?_) (fun _ => ?_)
        · refine K.step ?_ (State.castTouched_keeps _ _ _ _) rfl
          refine K.step ?_ (State.setBytesP_keeps _ _ _ _) rfl
          exact K.refl
        · refine K.ite (fun _ => ?_) (fun _ => ?_)
          · refine K.step ?_ (State.dropWrite_keeps _ _ _) rfl
            exact K.refl
          · extract_lets +onlyGivenNames -underBinder -merge -useContext x5
            have h6 : K gS 8589938236 a0 x5 := by
              refine K.step ?_ (State.castTouched_keeps _ _ _ _) rfl
              refine K.step ?_ (State.setBytesP_keeps _ _ _ _) rfl
              exact K.refl
            clear_value x5
            refine K.step ?_ (State.send_keeps _ _) rfl
            refine K.step ?_ (State.modCore_keeps _ _ _) rfl
            exact h6
    · refine K.ite (fun _ => ?_) (fun _ => ?_)
      · refine K.step ?_ (State.lostStore_keeps _ _) rfl
        exact K.refl
      · refine K.ite (fun _ => ?_) (fun _ => ?_)
        · refine K.step ?_ (State.dropWrite_keeps _ _ _) rfl
          exact K.refl
        · extract_lets +onlyGivenNames -underBinder -merge -useContext x8
          have h9 : K gS 8589938236 a0 x8 := by
            refine K.step ?_ (State.castTouched_keeps _ _ _ _) rfl
            refine K.step ?_ (State.setBytesP_keeps _ _ _ _) rfl
            refine K.step ?_ (State.sharedTc0_keeps _ _ _) rfl
            exact K.refl
          clear_value x8
          refine K.step ?_ (State.send_keeps _ _) rfl
          refine K.step ?_ (State.modCore_keeps _ _ _) rfl
          exact h9
    · exact K.refl

theorem State.drainOne_keeps : ∀ a0 a1 a2, K g2 8589938236 a0 (State.drainOne a0 a1 a2) := by
  intro a0 a1 a2
  unfold State.drainOne
  extract_lets +onlyGivenNames -underBinder -merge -useContext x0
  clear_value x0
  split
  · refine K.mk2 ?_
    exact K.refl
  · extract_lets +onlyGivenNames -underBinder -merge -useContext x3
    clear_value x3
    extract_lets +onlyGivenNames -underBinder -merge -useContext x4
    clear_value x4
    refine K.ite (fun _ => ?_) (fun _ => ?_)
    · refine K.mk2 ?_
      refine K.step ?_ (State.tc0Wait_keeps _ _) rfl
      exact K.refl
    · refine K.ite (fun _ => ?_) (fun _ => ?_)
      · extract_lets +onlyGivenNames -underBinder -merge -useContext x5
        clear_value x5
        extract_lets +onlyGivenNames -underBinder -merge -useContext x6
        have h7 : K gS 8589938236 a0 x6 := by
          refine K.foldl ?_ (fun y8 a9 h10 => ?_)
          · refine K.step ?_ (State.setCore_keeps _ _ _) rfl
            exact K.refl
          · refine K.step ?_ (State.performStore_keeps _ _ _) rfl
            exact h10
        clear_value x6
        extract_lets +onlyGivenNames -underBinder -merge -useContext x11
        have h12 : K gS 8589938236 a0 x11 := by
          refine K.step ?_ (State.modCore_keeps _ _ _) rfl
          exact h7
        clear_value x11
        extract_lets +onlyGivenNames -underBinder -merge -useContext x13
        have h14 : K gS 8589938236 a0 x13 := by
          refine K.step ?_ (State.pump_keeps _ _) rfl
          exact h12
        clear_value x13
        refine K.mk2 ?_
        split
        · refine K.step ?_ (State.machineCheck_keeps _ _ _ _ _ _ _) rfl
          exact h14
        · exact h14
      · refine K.mk2 ?_
        refine K.step ?_ (State.pump_keeps _ _) rfl
        exact K.refl

theorem State.makeRoom_keeps : ∀ a0 a1 a2 a3, K g2 8589938236 a0 (State.makeRoom a0 a1 a2 a3) := by
  intro a0 a1 a2 a3
  induction a3 generalizing a0 a1 a2 with
  | zero =>
    rw [State.makeRoom]
    refine K.mk2 ?_
    exact K.refl
  | succ j ih =>
    rw [State.makeRoom]
    refine K.ite (fun _ => ?_) (fun _ => ?_)
    · refine K.mk2 ?_
      exact K.refl
    · split
      · refine K.mk2 ?_
        exact K.refl
      · extract_lets +onlyGivenNames -underBinder -merge -useContext x2
        have h3 : K g2 8589938236 a0 x2 := by
          refine K.step ?_ (State.drainOne_keeps _ _ _) rfl
          exact K.refl
        clear_value x2
        refine K.ite (fun _ => ?_) (fun _ => ?_)
        · refine K.step ?_ (ih _ _ _) rfl
          refine K.step ?_ (State.modCore_keeps _ _ _) rfl
          refine K.of2 ?_
          exact h3
        · refine K.mk2 ?_
          refine K.of2 ?_
          exact h3

theorem State.beginEntries_keeps : ∀ a0 a1 a2 a3, K g3 8589938236 a0 (State.beginEntries a0 a1 a2 a3) := by
  intro a0 a1 a2 a3
  unfold State.beginEntries
  refine K.ite (fun _ => ?_) (fun _ => ?_)
  · refine K.mk3 ?_
    exact K.refl
  · extract_lets +onlyGivenNames -underBinder -merge -useContext x0
    clear_value x0
    extract_lets +onlyGivenNames -underBinder -merge -useContext x1
    have h2 : K g2 8589938236 a0 x1 := by
      refine K.step ?_ (State.makeRoom_keeps _ _ _ _) rfl
      exact K.refl
    clear_value x1
    refine K.mk3 ?_
    refine K.of2 ?_
    exact h2

theorem State.partRead_keeps : ∀ a0 a1 a2 a3 a4, K gE3 6 a0 (State.partRead a0 a1 a2 a3 a4) := by
  intro a0 a1 a2 a3 a4
  unfold State.partRead
  split
  · extract_lets +onlyGivenNames -underBinder -merge -useContext x1
    clear_value x1
    refine K.ite (fun _ => ?_) (fun _ => ?_)
    · refine K.ite (fun _ => ?_) (fun _ => ?_)
      · exact K.error
      · refine K.mkE3 ?_
        exact K.noneO3
    · refine K.mkE3 ?_
      refine K.mkO3 ?_
      refine K.mk3 ?_
      exact K.refl
  · refine K.ite (fun _ => ?_) (fun _ => ?_)
    · exact K.error
    · refine K.ite (fun _ => ?_) (fun _ => ?_)
      · refine K.mkE3 ?_
        refine K.mkO3 ?_
        refine K.mk3 ?_
        exact K.refl
      · exact K.error
  · refine K.ite (fun _ => ?_) (fun _ => ?_)
    · exact K.error
    · refine K.ite (fun _ => ?_) (fun _ => ?_)
      · refine K.mkE3 ?_
        refine K.mkO3 ?_
        refine K.mk3 ?_
        exact K.refl
      · exact K.error
  · refine K.ite (fun _ => ?_) (fun _ => ?_)
    · extract_lets +onlyGivenNames -underBinder -merge -useContext x5
      clear_value x5
      refine K.ite (fun _ => ?_) (fun _ => ?_)
      · split
        · refine K.mkE3 ?_
          refine K.mkO3 ?_
          refine K.mk3 ?_
          exact K.refl
        · refine K.mkE3 ?_
          exact K.noneO3
      · extract_lets +onlyGivenNames -underBinder -merge -useContext x8
        have h9 : K g2 6 a0 x8 := by
          refine K.step ?_ (State.readCtl_keeps _ _ _) rfl
          exact K.refl
        clear_value x8
        refine K.mkE3 ?_
        refine K.mkO3 ?_
        refine K.mk3 ?_
        refine K.of2 ?_
        exact h9
    · exact K.error
  · refine K.ite (fun _ => ?_) (fun _ => ?_)
    · exact K.error
    · refine K.ite (fun _ => ?_) (fun _ => ?_)
      · refine K.mkE3 ?_
        exact K.noneO3
      · refine K.mkE3 ?_
        refine K.mkO3 ?_
        refine K.mk3 ?_
        exact K.refl
  · refine K.ite (fun _ => ?_) (fun _ => ?_)
    · refine K.mkE3 ?_
      exact K.noneO3
    · exact K.error
  · exact K.error

theorem State.performAmo_keeps : ∀ a0 a1 a2 a3, K gS 8589938238 a0 (State.performAmo a0 a1 a2 a3) := by
  intro a0 a1 a2 a3
  unfold State.performAmo
  extract_lets +onlyGivenNames -underBinder -merge -useContext x0
  clear_value x0
  extract_lets +onlyGivenNames -underBinder -merge -useContext x1
  have h2 : ∀ y3 y4 y5, K gS 8589938238 a0 y3 → K gS 8589938238 a0 (x1 y3 y4 y5) := by
    intro y3 y4 y5 h6
    dsimp -zeta only [x1]
    refine K.step ?_ (State.modCore_keeps _ _ _) rfl
    exact h6
  clear_value x1
  refine K.ite (fun _ => ?_) (fun _ => ?_)
  · refine h2 _ _ _ ?_
    refine K.step ?_ (State.modCore_keeps _ _ _) rfl
    exact K.refl
  · split
    · rename_i e7
      split
      · refine K.step ?_ (State.machineCheck_keeps _ _ _ _ _ _ _) rfl
        exact K.refl
      · extract_lets +onlyGivenNames -underBinder -merge -useContext x10
        clear_value x10
        extract_lets +onlyGivenNames -underBinder -merge -useContext x11
        clear_value x11
        extract_lets +onlyGivenNames -underBinder -merge -useContext x12
        clear_value x12
        extract_lets +onlyGivenNames -underBinder -merge -useContext x13
        have h14 : K gS 8589938238 a0 x13 := by
          dsimp -zeta only [x13]
          split
          · refine K.step ?_ (State.performStore_keeps _ _ _) rfl
            exact K.refl
          · refine K.step ?_ (State.castTouched_keeps _ _ _ _) rfl
            refine K.step ?_ (State.setBytesP_keeps _ _ _ _) rfl
            exact K.refl
        clear_value x13
        refine h2 _ _ _ ?_
        exact h14
    · exact K.refl
    · refine K.step ?_ (State.raiseT_keeps _ _ _) rfl
      refine K.ite (fun _ => ?_) (fun _ => ?_)
      · refine K.step ?_ (State.bwLate_keeps _ _ _ _) rfl
        exact K.refl
      · exact K.refl

theorem State.drainN_keeps : ∀ a0 a1 a2, K g2 8589938236 a0 (State.drainN a0 a1 a2) := by
  intro a0 a1 a2
  induction a2 generalizing a0 a1 with
  | zero =>
    rw [State.drainN]
    refine K.mk2 ?_
    exact K.refl
  | succ j ih =>
    rw [State.drainN]
    refine K.ite (fun _ => ?_) (fun _ => ?_)
    · refine K.mk2 ?_
      exact K.refl
    · extract_lets +onlyGivenNames -underBinder -merge -useContext x0
      have h1 : K g2 8589938236 a0 x0 := by
        refine K.step ?_ (State.drainOne_keeps _ _ _) rfl
        exact K.refl
      clear_value x0
      refine K.ite (fun _ => ?_) (fun _ => ?_)
      · refine K.step ?_ (ih _ _) rfl
        refine K.of2 ?_
        exact h1
      · refine K.mk2 ?_
        refine K.of2 ?_
        exact h1

theorem State.forcedDrain_keeps : ∀ a0 a1 a2, K g2 8589938236 a0 (State.forcedDrain a0 a1 a2) := by
  intro a0 a1 a2
  unfold State.forcedDrain
  refine K.ite (fun _ => ?_) (fun _ => ?_)
  · refine K.mk2 ?_
    exact K.refl
  · extract_lets +onlyGivenNames -underBinder -merge -useContext x0
    have h1 : K g2 8589938236 a0 x0 := by
      refine K.step ?_ (State.drainN_keeps _ _ _) rfl
      exact K.refl
    clear_value x0
    refine K.ite (fun _ => ?_) (fun _ => ?_)
    · refine K.mk2 ?_
      refine K.step ?_ (State.modCore_keeps _ _ _) rfl
      refine K.of2 ?_
      exact h1
    · refine K.mk2 ?_
      refine K.of2 ?_
      exact h1

theorem State.issueAt_keeps : ∀ a0 a1 a2 a3, K gS 36 a0 (State.issueAt a0 a1 a2 a3) := by
  intro a0 a1 a2 a3
  unfold State.issueAt
  refine K.step ?_ (State.measureFill_keeps _ _ _) rfl
  refine K.step ?_ (State.modCore_keeps _ _ _) rfl
  exact K.refl

theorem State.doAmo_keeps : ∀ a0 a1 a2 a3 a4 a5 a6, K gS 8589938238 a0 (State.doAmo a0 a1 a2 a3 a4 a5 a6) := by
  intro a0 a1 a2 a3 a4 a5 a6
  unfold State.doAmo
  extract_lets +onlyGivenNames -underBinder -merge -useContext x0
  have h1 : K gS 8589938238 a0 x0 := by
    refine K.step ?_ (State.dtlbUse2_keeps _ _ _) rfl
    exact K.refl
  clear_value x0
  extract_lets +onlyGivenNames -underBinder -merge -useContext x2
  clear_value x2
  extract_lets +onlyGivenNames -underBinder -merge -useContext x3
  clear_value x3
  extract_lets +onlyGivenNames -underBinder -merge -useContext x4
  clear_value x4
  extract_lets +onlyGivenNames -underBinder -merge -useContext x5
  clear_value x5
  refine K.ite (fun _ => ?_) (fun _ => ?_)
  · exact K.refl
  · refine K.ite (fun _ => ?_) (fun _ => ?_)
    · exact K.refl
    · refine K.ite (fun _ => ?_) (fun _ => ?_)
      · refine K.step ?_ (State.raiseT_keeps _ _ _) rfl
        exact K.refl
      · refine K.ite (fun _ => ?_) (fun _ => ?_)
        · refine K.step ?_ (State.tc0Wait_keeps _ _) rfl
          exact K.refl
        · extract_lets +onlyGivenNames -underBinder -merge -useContext x6
          clear_value x6
          extract_lets +onlyGivenNames -underBinder -merge -useContext x7
          have h8 : K gS 8589938238 a0 x7 := by
            refine K.step ?_ (State.issueAt_keeps _ _ _ _) rfl
            exact h1
          clear_value x7
          extract_lets +onlyGivenNames -underBinder -merge -useContext x9
          have h10 : K g2 8589938238 a0 x9 := by
            refine K.step ?_ (State.forcedDrain_keeps _ _ _) rfl
            exact h8
          clear_value x9
          refine K.ite (fun _ => ?_) (fun _ => ?_)
          · refine K.step ?_ (State.setCore_keeps _ _ _) rfl
            refine K.of2 ?_
            exact h10
          · extract_lets +onlyGivenNames -underBinder -merge -useContext x11
            clear_value x11
            refine K.ite (fun _ => ?_) (fun _ => ?_)
            · refine K.step ?_ (State.pump_keeps _ _) rfl
              refine K.step ?_ (State.modCore_keeps _ _ _) rfl
              refine K.of2 ?_
              exact h10
            · refine K.ite (fun _ => ?_) (fun _ => ?_)
              · extract_lets +onlyGivenNames -underBinder -merge -useContext x12
                have h13 : K g2 8589938238 a0 x12 := by
                  refine K.step ?_ (State.choose_keeps _ _) rfl
                  refine K.of2 ?_
                  exact h10
                clear_value x12
                refine K.step ?_ (State.performAmo_keeps _ _ _ _) rfl
                refine K.ite (fun _ => ?_) (fun _ => ?_)
                · refine K.of2 ?_
                  exact h13
                · refine K.step ?_ (State.sharedTc0_keeps _ _ _) rfl
                  refine K.of2 ?_
                  exact h13
              · refine K.step ?_ (State.performAmo_keeps _ _ _ _) rfl
                refine K.of2 ?_
                exact h10

theorem State.l1dUse_keeps : ∀ a0 a1 a2, K gS 34 a0 (State.l1dUse a0 a1 a2) := by
  intro a0 a1 a2
  unfold State.l1dUse
  extract_lets +onlyGivenNames -underBinder -merge -useContext x0
  clear_value x0
  extract_lets +onlyGivenNames -underBinder -merge -useContext x1
  clear_value x1
  refine K.ite (fun _ => ?_) (fun _ => ?_)
  · refine K.ite (fun _ => ?_) (fun _ => ?_)
    · exact K.refl
    · extract_lets +onlyGivenNames -underBinder -merge -useContext x2
      have h3 : K g2 34 a0 x2 := by
        refine K.step ?_ (State.l1Alloc_keeps _ _ _) rfl
        exact K.refl
      clear_value x2
      refine K.step ?_ (State.setCore_keeps _ _ _) rfl
      refine K.of2 ?_
      exact h3
  · exact K.refl

theorem State.finishLoad_keeps : ∀ a0 a1 a2 a3 a4 a5, K gS 8589935162 a0 (State.finishLoad a0 a1 a2 a3 a4 a5) := by
  intro a0 a1 a2 a3 a4 a5
  unfold State.finishLoad
  split
  · refine K.step ?_ (State.machineCheck_keeps _ _ _ _ _ _ _) rfl
    exact K.refl
  · extract_lets +onlyGivenNames -underBinder -merge -useContext x2
    clear_value x2
    extract_lets +onlyGivenNames -underBinder -merge -useContext x3
    clear_value x3
    extract_lets +onlyGivenNames -underBinder -merge -useContext x4
    clear_value x4
    extract_lets +onlyGivenNames -underBinder -merge -useContext x5
    clear_value x5
    extract_lets +onlyGivenNames -underBinder -merge -useContext x6
    clear_value x6
    extract_lets +onlyGivenNames -underBinder -merge -useContext x7
    clear_value x7
    refine K.step ?_ (State.l1dUse_keeps _ _ _) rfl
    refine K.step ?_ (State.setCore_keeps _ _ _) rfl
    exact K.refl

theorem State.loadRead_keeps : ∀ a0 a1 a2 a3, K gE3 6 a0 (State.loadRead a0 a1 a2 a3) := by
  intro a0 a1 a2 a3
  unfold State.loadRead
  split
  · exact K.error
  · refine K.mkE3 ?_
    exact K.noneO3
  · rename_i e2
    refine K.ite (fun _ => ?_) (fun _ => ?_)
    · refine K.mkE3 ?_
      refine K.mkO3 ?_
      refine K.someO3 (K.okE3 ?_ e2) rfl
      refine K.step ?_ (State.partRead_keeps _ _ _ _ _) rfl
      exact K.refl
    · split
      · exact K.error
      · refine K.mkE3 ?_
        exact K.noneO3
      · rename_i e5
        refine K.mkE3 ?_
        refine K.mkO3 ?_
        refine K.mk3 ?_
        refine K.of3 ?_
        refine K.someO3 (K.okE3 ?_ e5) rfl
        refine K.step ?_ (State.partRead_keeps _ _ _ _ _) rfl
        refine K.of3 ?_
        refine K.someO3 (K.okE3 ?_ e2) rfl
        refine K.step ?_ (State.partRead_keeps _ _ _ _ _) rfl
        exact K.refl

theorem State.doLoad_keeps : ∀ a0 a1 a2 a3 a4 a5, K gS 8589938238 a0 (State.doLoad a0 a1 a2 a3 a4 a5) := by
  intro a0 a1 a2 a3 a4 a5
  unfold State.doLoad
  extract_lets +onlyGivenNames -underBinder -merge -useContext x0
  have h1 : K gS 8589938238 a0 x0 := by
    refine K.step ?_ (State.dtlbUse2_keeps _ _ _) rfl
    exact K.refl
  clear_value x0
  extract_lets +onlyGivenNames -underBinder -merge -useContext x2
  clear_value x2
  extract_lets +onlyGivenNames -underBinder -merge -useContext x3
  clear_value x3
  extract_lets +onlyGivenNames -underBinder -merge -useContext x4
  clear_value x4
  extract_lets +onlyGivenNames -underBinder -merge -useContext x5
  clear_value x5
  extract_lets +onlyGivenNames -underBinder -merge -useContext x6
  clear_value x6
  extract_lets +onlyGivenNames -underBinder -merge -useContext x7
  clear_value x7
  refine K.ite (fun _ => ?_) (fun _ => ?_)
  · exact K.refl
  · refine K.ite (fun _ => ?_) (fun _ => ?_)
    · exact K.refl
    · refine K.ite (fun _ => ?_) (fun _ => ?_)
      · refine K.step ?_ (State.raiseT_keeps _ _ _) rfl
        exact K.refl
      · refine K.ite (fun _ => ?_) (fun _ => ?_)
        · refine K.step ?_ (State.tc0Wait_keeps _ _) rfl
          exact K.refl
        · extract_lets +onlyGivenNames -underBinder -merge -useContext x8
          clear_value x8
          extract_lets +onlyGivenNames -underBinder -merge -useContext x9
          clear_value x9
          split
          · extract_lets +onlyGivenNames -underBinder -merge -useContext x11
            have h12 : K gS 8589938238 a0 x11 := by
              refine K.step ?_ (State.modCore_keeps _ _ _) rfl
              refine K.step ?_ (State.issueAt_keeps _ _ _ _) rfl
              exact h1
            clear_value x11
            extract_lets +onlyGivenNames -underBinder -merge -useContext x13
            clear_value x13
            refine K.step ?_ (State.modCore_keeps _ _ _) rfl
            refine K.step ?_ (State.finishLoad_keeps _ _ _ _ _ _) rfl
            exact h12
          · refine K.ite (fun _ => ?_) (fun _ => ?_)
            · extract_lets +onlyGivenNames -underBinder -merge -useContext x15
              have h16 : K gS 8589938238 a0 x15 := by
                refine K.step ?_ (State.issueAt_keeps _ _ _ _) rfl
                exact h1
              clear_value x15
              extract_lets +onlyGivenNames -underBinder -merge -useContext x17
              have h18 : K g2 8589938238 a0 x17 := by
                refine K.step ?_ (State.forcedDrain_keeps _ _ _) rfl
                exact h16
              clear_value x17
              refine K.ite (fun _ => ?_) (fun _ => ?_)
              · refine K.step ?_ (State.setCore_keeps _ _ _) rfl
                refine K.of2 ?_
                exact h18
              · extract_lets +onlyGivenNames -underBinder -merge -useContext x19
                clear_value x19
                extract_lets +onlyGivenNames -underBinder -merge -useContext x20
                clear_value x20
                extract_lets +onlyGivenNames -underBinder -merge -useContext x21
                have h22 : ∀ y23, K gS 8589938238 a0 y23 → K gS 8589938238 a0 (x21 y23) := by
                  intro y23 h24
                  dsimp -zeta only [x21]
                  refine K.ite (fun _ => ?_) (fun _ => ?_)
                  · exact h24
                  · refine K.step ?_ (State.modCore_keeps _ _ _) rfl
                    exact h24
                clear_value x21
                refine K.ite (fun _ => ?_) (fun _ => ?_)
                · split
                  · rename_i e25
                    refine K.step ?_ (State.finishLoad_keeps _ _ _ _ _ _) rfl
                    refine K.step ?_ (State.modCore_keeps _ _ _) rfl
                    refine K.of3 ?_
                    refine K.someO3 (K.okE3 ?_ e25) rfl
                    refine K.step ?_ (State.loadRead_keeps _ _ _ _) rfl
                    refine h22 _ ?_
                    refine K.of2 ?_
                    exact h18
                  · rename_i e26
                    exact K.refl
                · extract_lets +onlyGivenNames -underBinder -merge -useContext x27
                  clear_value x27
                  extract_lets +onlyGivenNames -underBinder -merge -useContext x28
                  clear_value x28
                  extract_lets +onlyGivenNames -underBinder -merge -useContext x29
                  have h30 : K gS 8589938238 a0 x29 := by
                    refine K.foldl ?_ (fun y31 a32 h33 => ?_)
                    · refine h22 _ ?_
                      refine K.of2 ?_
                      exact h18
                    · refine K.step ?_ (State.sharedTc0_keeps _ _ _) rfl
                      exact h33
                  clear_value x29
                  refine K.step ?_ (State.pump_keeps _ _) rfl
                  refine K.step ?_ (State.modCore_keeps _ _ _) rfl
                  exact h30
            · extract_lets +onlyGivenNames -underBinder -merge -useContext x34
              clear_value x34
              extract_lets +onlyGivenNames -underBinder -merge -useContext x35
              have h36 : K gS 8589938238 a0 x35 := by
                refine K.ite (fun _ => ?_) (fun _ => ?_)
                · exact h1
                · refine K.step ?_ (State.modCore_keeps _ _ _) rfl
                  exact h1
              clear_value x35
              extract_lets +onlyGivenNames -underBinder -merge -useContext x37
              clear_value x37
              split
              · rename_i e38
                refine K.step ?_ (State.finishLoad_keeps _ _ _ _ _ _) rfl
                refine K.of3 ?_
                refine K.someO3 (K.okE3 ?_ e38) rfl
                refine K.ite (fun _ => ?_) (fun _ => ?_)
                · refine K.step ?_ (State.loadRead_keeps _ _ _ _) rfl
                  exact h36
                · refine K.mkE3 ?_
                  exact K.noneO3
              · rename_i e39
                refine K.step ?_ (State.pump_keeps _ _) rfl
                refine K.step ?_ (State.modCore_keeps _ _ _) rfl
                exact h36

theorem State.mailboxStore_keeps : ∀ a0 a1 a2 a3 a4 a5, K gS 3620 a0 (State.mailboxStore a0 a1 a2 a3 a4 a5) := by
  intro a0 a1 a2 a3 a4 a5
  unfold State.mailboxStore
  extract_lets +onlyGivenNames -underBinder -merge -useContext x0
  clear_value x0
  extract_lets +onlyGivenNames -underBinder -merge -useContext x1
  clear_value x1
  extract_lets +onlyGivenNames -underBinder -merge -useContext x2
  have h3 : K gS 3620 a0 x2 := by
    refine K.step ?_ (State.setCore_keeps _ _ _) rfl
    exact K.refl
  clear_value x2
  refine K.step ?_ (State.injectTc0_keeps _ _ _) rfl
  exact h3

theorem State.doStore_keeps : ∀ a0 a1 a2 a3 a4 a5 a6 a7 a8, K gS 3622 a0 (State.doStore a0 a1 a2 a3 a4 a5 a6 a7 a8) := by
  intro a0 a1 a2 a3 a4 a5 a6 a7 a8
  unfold State.doStore
  extract_lets +onlyGivenNames -underBinder -merge -useContext x0
  have h1 : K gS 3622 a0 x0 := by
    refine K.step ?_ (State.dtlbUse2_keeps _ _ _) rfl
    exact K.refl
  clear_value x0
  extract_lets +onlyGivenNames -underBinder -merge -useContext x2
  clear_value x2
  extract_lets +onlyGivenNames -underBinder -merge -useContext x3
  clear_value x3
  extract_lets +onlyGivenNames -underBinder -merge -useContext x4
  clear_value x4
  refine K.ite (fun _ => ?_) (fun _ => ?_)
  · exact K.refl
  · split
    · refine K.ite (fun _ => ?_) (fun _ => ?_)
      · exact K.refl
      · refine K.ite (fun _ => ?_) (fun _ => ?_)
        · refine K.step ?_ (State.raiseT_keeps _ _ _) rfl
          exact K.refl
        · refine K.ite (fun _ => ?_) (fun _ => ?_)
          · refine K.step ?_ (State.tc0Wait_keeps _ _) rfl
            exact K.refl
          · extract_lets +onlyGivenNames -underBinder -merge -useContext x6
            clear_value x6
            extract_lets +onlyGivenNames -underBinder -merge -useContext x7
            clear_value x7
            extract_lets +onlyGivenNames -underBinder -merge -useContext x8
            have h9 : K gS 3622 a0 x8 := by
              refine K.step ?_ (State.issueAt_keeps _ _ _ _) rfl
              refine K.step ?_ (State.setCore_keeps _ _ _) rfl
              exact h1
            clear_value x8
            extract_lets +onlyGivenNames -underBinder -merge -useContext x10
            have h11 : K gS 3622 a0 x10 := by
              refine K.step ?_ (State.modCore_keeps _ _ _) rfl
              exact h9
            clear_value x10
            refine K.step ?_ (State.mailboxStore_keeps _ _ _ _ _ _) rfl
            exact h11
    · refine K.ite (fun _ => ?_) (fun _ => ?_)
      · exact K.refl
      · refine K.ite (fun _ => ?_) (fun _ => ?_)
        · refine K.step ?_ (State.raiseT_keeps _ _ _) rfl
          exact K.refl
        · refine K.step ?_ (State.send_keeps _ _) rfl
          refine K.step ?_ (State.modCore_keeps _ _ _) rfl
          refine K.step ?_ (State.issueAt_keeps _ _ _ _) rfl
          exact h1
    · refine K.ite (fun _ => ?_) (fun _ => ?_)
      · exact K.refl
      · refine K.ite (fun _ => ?_) (fun _ => ?_)
        · refine K.step ?_ (State.raiseT_keeps _ _ _) rfl
          exact K.refl
        · refine K.step ?_ (State.send_keeps _ _) rfl
          refine K.step ?_ (State.modCore_keeps _ _ _) rfl
          refine K.step ?_ (State.issueAt_keeps _ _ _ _) rfl
          exact h1
    · refine K.ite (fun _ => ?_) (fun _ => ?_)
      · exact K.refl
      · refine K.ite (fun _ => ?_) (fun _ => ?_)
        · refine K.step ?_ (State.raiseT_keeps _ _ _) rfl
          exact K.refl
        · extract_lets +onlyGivenNames -underBinder -merge -useContext x15
          clear_value x15
          extract_lets +onlyGivenNames -underBinder -merge -useContext x16
          clear_value x16
          extract_lets +onlyGivenNames -underBinder -merge -useContext x17
          clear_value x17
          extract_lets +onlyGivenNames -underBinder -merge -useContext x18
          have h19 : K gS 3622 a0 x18 := by
            refine K.step ?_ (State.issueAt_keeps _ _ _ _) rfl
            refine K.step ?_ (State.setCore_keeps _ _ _) rfl
            exact h1
          clear_value x18
          extract_lets +onlyGivenNames -underBinder -merge -useContext x20
          clear_value x20
          extract_lets +onlyGivenNames -underBinder -merge -useContext x21
          clear_value x21
          extract_lets +onlyGivenNames -underBinder -merge -useContext x22
          clear_value x22
          extract_lets +onlyGivenNames -underBinder -merge -useContext x23
          clear_value x23
          refine K.step ?_ (State.pump_keeps _ _) rfl
          refine K.step ?_ (State.modCore_keeps _ _ _) rfl
          exact h19

theorem State.finishAmos_keeps : ∀ a0 a1, K gS 8589938238 a0 (State.finishAmos a0 a1) := by
  intro a0 a1
  unfold State.finishAmos
  extract_lets +onlyGivenNames -underBinder -merge -useContext x0
  clear_value x0
  split
  · refine K.ite (fun _ => ?_) (fun _ => ?_)
    · refine K.step ?_ (State.performAmo_keeps _ _ _ _) rfl
      refine K.step ?_ (State.setCore_keeps _ _ _) rfl
      exact K.refl
    · refine K.step ?_ (State.pump_keeps _ _) rfl
      exact K.refl
  · exact K.refl

theorem State.runLoads_keeps : ∀ a0 a1 a2, K gV 3622 a0 (State.runLoads a0 a1 a2) := by
  intro a0 a1 a2
  induction a2 generalizing a0 a1 with
  | nil =>
    rw [State.runLoads]
    refine K.vdone ?_
    exact K.refl
  | cons e r ih =>
    rw [State.runLoads]
    refine K.ite (fun _ => ?_) (fun _ => ?_)
    · refine K.step ?_ (ih _ _) rfl
      exact K.refl
    · split
      · refine K.vtrap ?_
        exact K.refl
      · extract_lets +onlyGivenNames -underBinder -merge -useContext x2
        clear_value x2
        split
        · rename_i e3
          split
          · refine K.vpoison ?_
            exact K.refl
          · refine K.step ?_ (ih _ _) rfl
            refine K.step ?_ (State.modCore_keeps _ _ _) rfl
            refine K.foldl ?_ (fun y6 a7 h8 => ?_)
            · refine K.of3 ?_
              refine K.someO3 (K.okE3 ?_ e3) rfl
              refine K.step ?_ (State.loadRead_keeps _ _ _ _) rfl
              exact K.refl
            · refine K.step ?_ (State.sharedTc0_keeps _ _ _) rfl
              exact h8
        · refine K.vwait ?_
          refine K.foldl ?_ (fun y10 a11 h12 => ?_)
          · exact K.refl
          · refine K.ite (fun _ => ?_) (fun _ => ?_)
            · refine K.step ?_ (State.want_keeps _ _ _ _) rfl
              exact h12
            · exact h12
        · refine K.vtrap ?_
          refine K.ite (fun _ => ?_) (fun _ => ?_)
          · refine K.step ?_ (State.bwLate_keeps _ _ _ _) rfl
            exact K.refl
          · exact K.refl

theorem State.runStores_keeps : ∀ a0 a1 a2 a3 a4, K gV 8589938236 a0 (State.runStores a0 a1 a2 a3 a4) := by
  intro a0 a1 a2 a3 a4
  induction a4 generalizing a0 a1 a2 a3 with
  | nil =>
    rw [State.runStores]
    refine K.vdone ?_
    refine K.step ?_ (State.modCore_keeps _ _ _) rfl
    exact K.refl
  | cons e r ih =>
    rw [State.runStores]
    refine K.ite (fun _ => ?_) (fun _ => ?_)
    · refine K.ite (fun _ => ?_) (fun _ => ?_)
      · refine K.step ?_ (ih _ _ _ _) rfl
        exact K.refl
      · extract_lets +onlyGivenNames -underBinder -merge -useContext x0
        have h1 : K g3 8589938236 a0 x0 := by
          refine K.step ?_ (State.beginEntries_keeps _ _ _ _) rfl
          exact K.refl
        clear_value x0
        refine K.ite (fun _ => ?_) (fun _ => ?_)
        · refine K.step ?_ (ih _ _ _ _) rfl
          refine K.step ?_ (State.modCore_keeps _ _ _) rfl
          refine K.of3 ?_
          exact h1
        · refine K.vwait ?_
          refine K.of3 ?_
          exact h1
    · split
      · refine K.vtrap ?_
        exact K.refl
      · extract_lets +onlyGivenNames -underBinder -merge -useContext x4
        clear_value x4
        extract_lets +onlyGivenNames -underBinder -merge -useContext x5
        clear_value x5
        extract_lets +onlyGivenNames -underBinder -merge -useContext x6
        clear_value x6
        extract_lets +onlyGivenNames -underBinder -merge -useContext x7
        have h8 : K g3 8589938236 a0 x7 := by
          refine K.step ?_ (State.beginEntries_keeps _ _ _ _) rfl
          exact K.refl
        clear_value x7
        refine K.ite (fun _ => ?_) (fun _ => ?_)
        · refine K.vwait ?_
          refine K.of3 ?_
          exact h8
        · extract_lets +onlyGivenNames -underBinder -merge -useContext x9
          clear_value x9
          extract_lets +onlyGivenNames -underBinder -merge -useContext x10
          clear_value x10
          extract_lets +onlyGivenNames -underBinder -merge -useContext x11
          clear_value x11
          refine K.step ?_ (ih _ _ _ _) rfl
          refine K.step ?_ (State.setCore_keeps _ _ _) rfl
          refine K.of3 ?_
          exact h8

end Sys2Proof.Machine
end

