-- ==== Sys2Proof/Laws/KeepsFetch.lean ====
section
/-!
SUPPORT. What each function and each command of Machine/Fetch.lean, Machine/Vector.lean, Machine/Pred.lean, Machine/Core1.lean can change (Laws/Keeps.lean), one lemma each.
-/
namespace Sys2Proof.Machine

theorem State.itlbUse_keeps : ∀ a0 a1 a2, K gS 34 a0 (State.itlbUse a0 a1 a2) := by
  intro a0 a1 a2
  unfold State.itlbUse
  extract_lets +onlyGivenNames -underBinder -merge -useContext x0
  clear_value x0
  refine K.ite (fun _ => ?_) (fun _ => ?_)
  · exact K.refl
  · extract_lets +onlyGivenNames -underBinder -merge -useContext x1
    have h2 : K g2 34 a0 x1 := by
      refine K.step ?_ (State.copyInto_keeps _ _ _ _) rfl
      exact K.refl
    clear_value x1
    refine K.step ?_ (State.setCore_keeps _ _ _) rfl
    refine K.of2 ?_
    exact h2

theorem State.fillL1I_keeps : ∀ a0 a1 a2, K gS 34 a0 (State.fillL1I a0 a1 a2) := by
  intro a0 a1 a2
  unfold State.fillL1I
  extract_lets +onlyGivenNames -underBinder -merge -useContext x0
  clear_value x0
  extract_lets +onlyGivenNames -underBinder -merge -useContext x1
  clear_value x1
  extract_lets +onlyGivenNames -underBinder -merge -useContext x2
  clear_value x2
  extract_lets +onlyGivenNames -underBinder -merge -useContext x3
  clear_value x3
  extract_lets +onlyGivenNames -underBinder -merge -useContext x4
  have h5 : K g2 34 a0 x4 := by
    refine K.ite (fun _ => ?_) (fun _ => ?_)
    · refine K.mk2 ?_
      exact K.refl
    · refine K.step ?_ (State.l1Alloc_keeps _ _ _) rfl
      exact K.refl
  clear_value x4
  extract_lets +onlyGivenNames -underBinder -merge -useContext x6
  have h7 : K g2 34 a0 x6 := by
    refine K.ite (fun _ => ?_) (fun _ => ?_)
    · refine K.step ?_ (State.choose_keeps _ _) rfl
      refine K.of2 ?_
      exact h5
    · refine K.mk2 ?_
      refine K.of2 ?_
      exact h5
  clear_value x6
  extract_lets +onlyGivenNames -underBinder -merge -useContext x8
  clear_value x8
  extract_lets +onlyGivenNames -underBinder -merge -useContext x9
  clear_value x9
  refine K.step ?_ (State.setCore_keeps _ _ _) rfl
  refine K.of2 ?_
  exact h7

theorem State.fetchLine_keeps : ∀ a0 a1 a2, K g2 546 a0 (State.fetchLine a0 a1 a2) := by
  intro a0 a1 a2
  unfold State.fetchLine
  refine K.ite (fun _ => ?_) (fun _ => ?_)
  · refine K.mk2 ?_
    exact K.refl
  · refine K.ite (fun _ => ?_) (fun _ => ?_)
    · refine K.ite (fun _ => ?_) (fun _ => ?_)
      · refine K.mk2 ?_
        exact K.refl
      · split
        · refine K.mk2 ?_
          refine K.step ?_ (State.want_keeps _ _ _ _) rfl
          exact K.refl
        · refine K.mk2 ?_
          refine K.step ?_ (State.fillL1I_keeps _ _ _) rfl
          exact K.refl
    · refine K.mk2 ?_
      refine K.step ?_ (State.fillL1I_keeps _ _ _) rfl
      exact K.refl

theorem State.fetchMiss_keeps {w : Nat} {s : State} : ∀ a0 a1 a2 a3, K gS w s a0 → (∀ y0, K gS w s y0 → K gS w s (a3 y0)) → w &&& 8589935162 = 8589935162 → K gS w s (State.fetchMiss a0 a1 a2 a3) := by
  intro a0 a1 a2 a3 hs0 hs1 hw
  unfold State.fetchMiss
  extract_lets +onlyGivenNames -underBinder -merge -useContext x0
  have h1 : K gS w s x0 := by
    refine K.step ?_ (State.itlbUse_keeps _ _ _) (sub_trans hw rfl)
    exact hs0
  clear_value x0
  extract_lets +onlyGivenNames -underBinder -merge -useContext x2
  have h3 : K gS w s x2 := by
    dsimp -zeta only [x2]
    split
    · refine K.step ?_ (State.itlbUse_keeps _ _ _) (sub_trans hw rfl)
      exact h1
    · exact h1
  clear_value x2
  extract_lets +onlyGivenNames -underBinder -merge -useContext x6
  have h7 : K g2 w s x6 := by
    refine K.step ?_ (State.fetchLine_keeps _ _ _) (sub_trans hw rfl)
    exact h3
  clear_value x6
  extract_lets +onlyGivenNames -underBinder -merge -useContext x8
  have h9 : K g2 w s x8 := by
    refine K.ite (fun _ => ?_) (fun _ => ?_)
    · refine K.step ?_ (State.fetchLine_keeps _ _ _) (sub_trans hw rfl)
      refine K.of2 ?_
      exact h7
    · exact h7
  clear_value x8
  refine K.ite (fun _ => ?_) (fun _ => ?_)
  · refine K.of2 ?_
    exact h9
  · extract_lets +onlyGivenNames -underBinder -merge -useContext x10
    clear_value x10
    split
    · refine K.step ?_ (State.machineCheck_keeps _ _ _ _ _ _ _) (sub_trans hw rfl)
      refine K.of2 ?_
      exact h9
    · split
      · refine K.step ?_ (State.machineCheck_keeps _ _ _ _ _ _ _) (sub_trans hw rfl)
        refine K.of2 ?_
        exact h9
      · refine hs1 _ ?_
        refine K.of2 ?_
        exact h9

theorem State.injectDiverge_keeps : ∀ a0 a1, K gO 8589935164 a0 (State.injectDiverge a0 a1) := by
  intro a0 a1
  unfold State.injectDiverge
  refine K.ite (fun _ => ?_) (fun _ => ?_)
  · refine K.mkO ?_
    refine K.step ?_ (State.injTriggered_keeps _) rfl
    refine State.markInj_keeps _ _ ?_ ?_ rfl
    · exact K.refl
    · refine K.step ?_ (State.diverge_keeps _ _ _) rfl
      exact K.refl
  · exact K.noneO

theorem State.injectCode_keeps : ∀ a0 a1 a2, K gS 8589934644 a0 (State.injectCode a0 a1 a2) := by
  intro a0 a1 a2
  unfold State.injectCode
  extract_lets +onlyGivenNames -underBinder -merge -useContext x0
  clear_value x0
  extract_lets +onlyGivenNames -underBinder -merge -useContext x1
  have h2 : K gS 8589934644 a0 x1 := by
    dsimp -zeta only [x1]
    split
    · split
      · rename_i e4
        refine K.step ?_ (State.injTriggered_keeps _) rfl
        refine K.someO ?_ e4
        refine K.step ?_ (State.failUsed_keeps _ _ _) rfl
        exact K.refl
      · exact K.refl
    · exact K.refl
  clear_value x1
  extract_lets +onlyGivenNames -underBinder -merge -useContext x7
  have h8 : K gS 8589934644 a0 x7 := by
    dsimp -zeta only [x7]
    split
    · refine K.ite (fun _ => ?_) (fun _ => ?_)
      · refine K.step ?_ (State.injTriggered_keeps _) rfl
        refine K.step ?_ (State.modCore_keeps _ _ _) rfl
        refine K.step ?_ (State.correctedI_keeps _ _ _ _) rfl
        exact h2
      · exact h2
    · exact h2
  clear_value x7
  refine K.ite (fun _ => ?_) (fun _ => ?_)
  · exact h8
  · refine K.step ?_ (State.injectRead_keeps _ _ _) rfl
    exact h8

theorem State.injectReg_keeps : ∀ a0 a1, K g2 8589935164 a0 (State.injectReg a0 a1) := by
  intro a0 a1
  unfold State.injectReg
  extract_lets +onlyGivenNames -underBinder -merge -useContext x0
  clear_value x0
  split
  · refine K.mk2 ?_
    refine K.step ?_ (State.injTriggered_keeps _) rfl
    refine K.step ?_ (State.correctedI_keeps _ _ _ _) rfl
    exact K.refl
  · refine K.mk2 ?_
    refine K.step ?_ (State.injTriggered_keeps _) rfl
    refine State.markInj_keeps _ _ ?_ ?_ rfl
    · exact K.refl
    · refine K.step ?_ (State.machineCheck_keeps _ _ _ _ _ _ _) rfl
      refine K.step ?_ (State.detect_keeps _ _) rfl
      exact K.refl
  · refine K.mk2 ?_
    refine K.step ?_ (State.injTriggered_keeps _) rfl
    refine State.markInj_keeps _ _ ?_ ?_ rfl
    · exact K.refl
    · refine K.step ?_ (State.machineCheck_keeps _ _ _ _ _ _ _) rfl
      exact K.refl
  · refine K.mk2 ?_
    exact K.refl

theorem State.injectFetch_keeps : ∀ a0 a1 a2, K g2 8589935164 a0 (State.injectFetch a0 a1 a2) := by
  intro a0 a1 a2
  unfold State.injectFetch
  split
  · rename_i e0
    refine K.mk2 ?_
    refine K.someO ?_ e0
    refine K.step ?_ (State.injectDiverge_keeps _ _) rfl
    exact K.refl
  · extract_lets +onlyGivenNames -underBinder -merge -useContext x2
    have h3 : K g2 8589935164 a0 x2 := by
      refine K.step ?_ (State.injectReg_keeps _ _) rfl
      exact K.refl
    clear_value x2
    refine K.ite (fun _ => ?_) (fun _ => ?_)
    · exact h3
    · extract_lets +onlyGivenNames -underBinder -merge -useContext x4
      have h5 : K gS 8589935164 a0 x4 := by
        refine K.step ?_ (State.injectCode_keeps _ _ _) rfl
        refine K.of2 ?_
        exact h3
      clear_value x4
      refine K.mk2 ?_
      split
      · refine K.step ?_ (State.injectCode_keeps _ _ _) rfl
        exact h5
      · exact h5

theorem State.fetchArmed_keeps {w : Nat} {s : State} : ∀ a0 a1 a2 a3 a4, K gS w s a0 → (∀ y0, K gS w s y0 → K gS w s (a4 y0)) → w &&& 8589935166 = 8589935166 → K gS w s (State.fetchArmed a0 a1 a2 a3 a4) := by
  intro a0 a1 a2 a3 a4 hs0 hs1 hw
  unfold State.fetchArmed
  extract_lets +onlyGivenNames -underBinder -merge -useContext x0
  have h1 : K g2 w s x0 := by
    refine K.step ?_ (State.injectFetch_keeps _ _ _) (sub_trans hw rfl)
    exact hs0
  clear_value x0
  refine K.ite (fun _ => ?_) (fun _ => ?_)
  · refine K.of2 ?_
    exact h1
  · split
    · refine K.step ?_ (State.raiseT_keeps _ _ _) (sub_trans hw rfl)
      refine K.of2 ?_
      exact h1
    · split
      · refine State.fetchMiss_keeps _ _ _ _ ?_ ?_ (sub_trans hw rfl)
        · refine K.of2 ?_
          exact h1
        · intro y5 h6
          refine hs1 _ ?_
          exact h6
      · refine K.step ?_ (State.raiseT_keeps _ _ _) (sub_trans hw rfl)
        refine K.of2 ?_
        exact h1

theorem State.inst_keeps {w : Nat} {s : State} : ∀ a0 a1 a2 a3, K gS w s a0 → (∀ y0, K gS w s y0 → K gS w s (a3 y0)) → w &&& 8589935166 = 8589935166 → K gS w s (State.inst a0 a1 a2 a3) := by
  intro a0 a1 a2 a3 hs0 hs1 hw
  unfold State.inst
  refine State.instr_keeps _ _ _ ?_ ?_ (sub_trans hw rfl)
  · exact hs0
  · intro y0 h1
    split
    · refine K.step ?_ (State.raiseT_keeps _ _ _) (sub_trans hw rfl)
      exact h1
    · refine K.ite (fun _ => ?_) (fun _ => ?_)
      · refine hs1 _ ?_
        exact h1
      · split
        · refine K.ite (fun _ => ?_) (fun _ => ?_)
          · refine State.fetchArmed_keeps _ _ _ _ _ ?_ ?_ (sub_trans hw rfl)
            · exact h1
            · intro y5 h6
              refine hs1 _ ?_
              exact h6
          · refine State.fetchMiss_keeps _ _ _ _ ?_ ?_ (sub_trans hw rfl)
            · exact h1
            · intro y7 h8
              refine hs1 _ ?_
              exact h8
        · refine K.step ?_ (State.raiseT_keeps _ _ _) (sub_trans hw rfl)
          exact h1

theorem State.vecRun_keeps : ∀ a0 a1 a2 a3 a4 a5 a6, K gS 34 a0 (State.vecRun a0 a1 a2 a3 a4 a5 a6) := by
  intro a0 a1 a2 a3 a4 a5 a6
  unfold State.vecRun
  extract_lets +onlyGivenNames -underBinder -merge -useContext x0
  clear_value x0
  extract_lets +onlyGivenNames -underBinder -merge -useContext x1
  have h2 : K gS 34 a0 x1 := by
    refine K.step ?_ (State.setCore_keeps _ _ _) rfl
    exact K.refl
  clear_value x1
  refine K.ite (fun _ => ?_) (fun _ => ?_)
  · extract_lets +onlyGivenNames -underBinder -merge -useContext x3
    clear_value x3
    extract_lets +onlyGivenNames -underBinder -merge -useContext x4
    have h5 : K g2 34 a0 x4 := by
      refine K.step ?_ (State.draw_keeps _ _) rfl
      exact h2
    clear_value x4
    extract_lets +onlyGivenNames -underBinder -merge -useContext x6
    have h7 : K g2 34 a0 x6 := by
      refine K.step ?_ (State.draw_keeps _ _) rfl
      refine K.of2 ?_
      exact h5
    clear_value x6
    refine K.step ?_ (State.modCore_keeps _ _ _) rfl
    refine K.of2 ?_
    exact h7
  · exact h2

theorem State.allocPred_keeps : ∀ a0 a1 a2, K gS 34 a0 (State.allocPred a0 a1 a2) := by
  intro a0 a1 a2
  unfold State.allocPred
  extract_lets +onlyGivenNames -underBinder -merge -useContext x0
  clear_value x0
  split
  · extract_lets +onlyGivenNames -underBinder -merge -useContext x2
    have h3 : K g2 34 a0 x2 := by
      refine K.step ?_ (State.draw_keeps _ _) rfl
      exact K.refl
    clear_value x2
    refine K.step ?_ (State.setCore_keeps _ _ _) rfl
    refine K.of2 ?_
    exact h3
  · refine K.step ?_ (State.setCore_keeps _ _ _) rfl
    exact K.refl

theorem State.trainBtb_keeps : ∀ a0 a1 a2 a3, K gS 34 a0 (State.trainBtb a0 a1 a2 a3) := by
  intro a0 a1 a2 a3
  unfold State.trainBtb
  extract_lets +onlyGivenNames -underBinder -merge -useContext x0
  have h1 : K g2 34 a0 x0 := by
    refine K.step ?_ (State.choose_keeps _ _) rfl
    exact K.refl
  clear_value x0
  extract_lets +onlyGivenNames -underBinder -merge -useContext x2
  clear_value x2
  extract_lets +onlyGivenNames -underBinder -merge -useContext x3
  clear_value x3
  extract_lets +onlyGivenNames -underBinder -merge -useContext x4
  clear_value x4
  refine K.step ?_ (State.setCore_keeps _ _ _) rfl
  refine K.of2 ?_
  exact h1

theorem State.cfRetire_keeps : ∀ a0 a1 a2 a3 a4 a5 a6 a7 a8 a9, K gS 34 a0 (State.cfRetire a0 a1 a2 a3 a4 a5 a6 a7 a8 a9) := by
  intro a0 a1 a2 a3 a4 a5 a6 a7 a8 a9
  unfold State.cfRetire
  extract_lets +onlyGivenNames -underBinder -merge -useContext x0
  clear_value x0
  refine K.ite (fun _ => ?_) (fun _ => ?_)
  · exact K.refl
  · extract_lets +onlyGivenNames -underBinder -merge -useContext x1
    clear_value x1
    extract_lets +onlyGivenNames -underBinder -merge -useContext x2
    have h3 : K gS 34 a0 x2 := by
      refine K.ite (fun _ => ?_) (fun _ => ?_)
      · refine K.step ?_ (State.modCore_keeps _ _ _) rfl
        exact K.refl
      · exact K.refl
    clear_value x2
    extract_lets +onlyGivenNames -underBinder -merge -useContext x4
    have h5 : K gS 34 a0 x4 := by
      refine K.ite (fun _ => ?_) (fun _ => ?_)
      · refine K.step ?_ (State.modCore_keeps _ _ _) rfl
        exact h3
      · exact h3
    clear_value x4
    extract_lets +onlyGivenNames -underBinder -merge -useContext x6
    have h7 : K gS 34 a0 x6 := by
      refine K.ite (fun _ => ?_) (fun _ => ?_)
      · refine K.step ?_ (State.allocPred_keeps _ _ _) rfl
        exact h5
      · exact h5
    clear_value x6
    extract_lets +onlyGivenNames -underBinder -merge -useContext x8
    have h9 : K gS 34 a0 x8 := by
      refine K.ite (fun _ => ?_) (fun _ => ?_)
      · refine K.step ?_ (State.trainBtb_keeps _ _ _ _) rfl
        exact h7
      · exact h7
    clear_value x8
    refine K.step ?_ (State.modCore_keeps _ _ _) rfl
    exact h9

theorem State.raiseCsr_keeps : ∀ a0 a1 a2 a3, K gS 34 a0 (State.raiseCsr a0 a1 a2 a3) := by
  intro a0 a1 a2 a3
  unfold State.raiseCsr
  extract_lets +onlyGivenNames -underBinder -merge -useContext x0
  have h1 : K g2 34 a0 x0 := by
    refine K.step ?_ (State.draw_keeps _ _) rfl
    exact K.refl
  clear_value x0
  refine K.step ?_ (State.raise_keeps _ _ _ _ _) rfl
  refine K.of2 ?_
  exact h1

theorem State.devCsr_keeps {w : Nat} {s : State} : ∀ a0 a1 a2 a3, K gS w s a0 → (∀ y0, K gS w s y0 → K gS w s (a3 y0)) → w &&& 8589935166 = 8589935166 → K gS w s (State.devCsr a0 a1 a2 a3) := by
  intro a0 a1 a2 a3 hs0 hs1 hw
  unfold State.devCsr
  refine State.inst_keeps _ _ _ _ ?_ ?_ (sub_trans hw rfl)
  · exact hs0
  · intro y0 h1
    extract_lets +onlyGivenNames -underBinder -merge -useContext x2
    clear_value x2
    split
    · refine K.step ?_ (State.raiseCsr_keeps _ _ _ _) (sub_trans hw rfl)
      exact h1
    · refine K.ite (fun _ => ?_) (fun _ => ?_)
      · exact h1
      · refine hs1 _ ?_
        refine K.step ?_ (State.modCore_keeps _ _ _) (sub_trans hw rfl)
        exact h1

theorem State.predInval_keeps : ∀ a0 a1, K gS 32 a0 (State.predInval a0 a1) := by
  intro a0 a1
  unfold State.predInval
  refine K.step ?_ (State.modCore_keeps _ _ _) rfl
  exact K.refl

theorem State.regenKey_keeps : ∀ a0 a1 a2, K gS 34 a0 (State.regenKey a0 a1 a2) := by
  intro a0 a1 a2
  unfold State.regenKey
  extract_lets +onlyGivenNames -underBinder -merge -useContext x0
  have h1 : K g2 34 a0 x0 := by
    refine K.step ?_ (State.draw_keeps _ _) rfl
    exact K.refl
  clear_value x0
  extract_lets +onlyGivenNames -underBinder -merge -useContext x2
  clear_value x2
  extract_lets +onlyGivenNames -underBinder -merge -useContext x3
  clear_value x3
  extract_lets +onlyGivenNames -underBinder -merge -useContext x4
  clear_value x4
  extract_lets +onlyGivenNames -underBinder -merge -useContext x5
  clear_value x5
  refine K.ite (fun _ => ?_) (fun _ => ?_)
  · refine K.step ?_ (State.setCore_keeps _ _ _) rfl
    refine K.of2 ?_
    exact h1
  · refine K.step ?_ (State.setCore_keeps _ _ _) rfl
    refine K.of2 ?_
    exact h1

theorem State.regenKeys_keeps : ∀ a0 a1 a2, K gS 34 a0 (State.regenKeys a0 a1 a2) := by
  intro a0 a1 a2
  unfold State.regenKeys
  refine K.foldl ?_ (fun y0 a1 h2 => ?_)
  · exact K.refl
  · refine K.step ?_ (State.regenKey_keeps _ _ _) rfl
    exact h2

theorem State.predRegen_keeps : ∀ a0 a1, K gS 34 a0 (State.predRegen a0 a1) := by
  intro a0 a1
  unfold State.predRegen
  extract_lets +onlyGivenNames -underBinder -merge -useContext x0
  clear_value x0
  refine K.step ?_ (State.regenKeys_keeps _ _ _) rfl
  exact K.refl

theorem execKeyRegenerationEffect_keeps : ∀ a0 a1, K gR 32 a1 (execKeyRegenerationEffect a0 a1) := by
  intro a0 a1
  unfold execKeyRegenerationEffect
  refine K.mkR ?_
  split
  · refine K.step ?_ (State.modCore_keeps _ _ _) rfl
    exact K.refl
  · exact K.refl

theorem execPredctlInval_keeps : ∀ a0 a1, K gR 8589935166 a1 (execPredctlInval a0 a1) := by
  intro a0 a1
  unfold execPredctlInval
  refine K.mkR ?_
  refine State.devCsr_keeps _ _ _ _ ?_ ?_ rfl
  · exact K.refl
  · intro y0 h1
    refine K.step ?_ (State.predInval_keeps _ _) rfl
    exact h1

theorem execPredctlInvalComplete_keeps : ∀ a0 a1, K gR 32 a1 (execPredctlInvalComplete a0 a1) := by
  intro a0 a1
  unfold execPredctlInvalComplete
  refine K.mkR ?_
  refine K.ite (fun _ => ?_) (fun _ => ?_)
  · refine K.step ?_ (State.modCore_keeps _ _ _) rfl
    exact K.refl
  · exact K.refl

theorem execPredctlRegen_keeps : ∀ a0 a1, K gR 8589935166 a1 (execPredctlRegen a0 a1) := by
  intro a0 a1
  unfold execPredctlRegen
  refine K.mkR ?_
  refine State.devCsr_keeps _ _ _ _ ?_ ?_ rfl
  · exact K.refl
  · intro y0 h1
    refine K.step ?_ (State.predRegen_keeps _ _) rfl
    exact h1

theorem execRegenintExpire_keeps : ∀ a0 a1, K gR 34 a1 (execRegenintExpire a0 a1) := by
  intro a0 a1
  unfold execRegenintExpire
  refine K.mkR ?_
  refine K.ite (fun _ => ?_) (fun _ => ?_)
  · refine K.step ?_ (State.regenKeys_keeps _ _ _) rfl
    exact K.refl
  · exact K.refl

theorem State.ackTlb_keeps : ∀ a0 a1, K gS 544 a0 (State.ackTlb a0 a1) := by
  intro a0 a1
  unfold State.ackTlb
  extract_lets +onlyGivenNames -underBinder -merge -useContext x0
  clear_value x0
  refine K.ite (fun _ => ?_) (fun _ => ?_)
  · refine K.step ?_ (State.sendAll_keeps _ _) rfl
    refine K.step ?_ (State.setCore_keeps _ _ _) rfl
    exact K.refl
  · exact K.refl

theorem State.injectElems_keeps : ∀ a0 a1 a2 a3, K gS 8589934644 a0 (State.injectElems a0 a1 a2 a3) := by
  intro a0 a1 a2 a3
  unfold State.injectElems
  refine K.ite (fun _ => ?_) (fun _ => ?_)
  · refine K.foldl ?_ (fun y0 a1 h2 => ?_)
    · exact K.refl
    · refine K.ite (fun _ => ?_) (fun _ => ?_)
      · refine K.step ?_ (State.injectAccess_keeps _ _ _ _ _) rfl
        exact h2
      · exact h2
  · exact K.refl

theorem State.injectPred_keeps : ∀ a0 a1 a2, K gS 8589934596 a0 (State.injectPred a0 a1 a2) := by
  intro a0 a1 a2
  unfold State.injectPred
  refine K.ite (fun _ => ?_) (fun _ => ?_)
  · refine K.step ?_ (State.injTriggered_keeps _) rfl
    refine K.step ?_ (State.correctedI_keeps _ _ _ _) rfl
    exact K.refl
  · exact K.refl

theorem State.newVl_keeps : ∀ a0 a1 a2, K g2 2 a0 (State.newVl a0 a1 a2) := by
  intro a0 a1 a2
  unfold State.newVl
  refine K.ite (fun _ => ?_) (fun _ => ?_)
  · refine K.mk2 ?_
    exact K.refl
  · refine K.ite (fun _ => ?_) (fun _ => ?_)
    · refine K.mk2 ?_
      exact K.refl
    · extract_lets +onlyGivenNames -underBinder -merge -useContext x0
      clear_value x0
      extract_lets +onlyGivenNames -underBinder -merge -useContext x1
      have h2 : K g2 2 a0 x1 := by
        refine K.step ?_ (State.choose_keeps _ _) rfl
        exact K.refl
      clear_value x1
      refine K.mk2 ?_
      refine K.of2 ?_
      exact h2

theorem State.issueEffect_keeps : ∀ a0 a1 a2 a3 a4, K gS 34 a0 (State.issueEffect a0 a1 a2 a3 a4) := by
  intro a0 a1 a2 a3 a4
  unfold State.issueEffect
  extract_lets +onlyGivenNames -underBinder -merge -useContext x0
  clear_value x0
  extract_lets +onlyGivenNames -underBinder -merge -useContext x1
  clear_value x1
  split
  · refine K.step ?_ (State.setCore_keeps _ _ _) rfl
    exact K.refl
  · refine K.step ?_ (State.setCore_keeps _ _ _) rfl
    exact K.refl
  · refine K.step ?_ (State.setCore_keeps _ _ _) rfl
    exact K.refl
  · refine K.step ?_ (State.setCore_keeps _ _ _) rfl
    exact K.refl
  · extract_lets +onlyGivenNames -underBinder -merge -useContext x7
    clear_value x7
    extract_lets +onlyGivenNames -underBinder -merge -useContext x8
    have h9 : K gS 34 a0 x8 := by
      refine K.step ?_ (State.cfRetire_keeps _ _ _ _ _ _ _ _ _ _) rfl
      exact K.refl
    clear_value x8
    refine K.step ?_ (State.modCore_keeps _ _ _) rfl
    exact h9
  · extract_lets +onlyGivenNames -underBinder -merge -useContext x11
    clear_value x11
    extract_lets +onlyGivenNames -underBinder -merge -useContext x12
    have h13 : K gS 34 a0 x12 := by
      refine K.step ?_ (State.cfRetire_keeps _ _ _ _ _ _ _ _ _ _) rfl
      exact K.refl
    clear_value x12
    refine K.step ?_ (State.modCore_keeps _ _ _) rfl
    exact h13
  · extract_lets +onlyGivenNames -underBinder -merge -useContext x15
    clear_value x15
    extract_lets +onlyGivenNames -underBinder -merge -useContext x16
    clear_value x16
    extract_lets +onlyGivenNames -underBinder -merge -useContext x17
    clear_value x17
    extract_lets +onlyGivenNames -underBinder -merge -useContext x18
    clear_value x18
    extract_lets +onlyGivenNames -underBinder -merge -useContext x19
    have h20 : K gS 34 a0 x19 := by
      refine K.step ?_ (State.cfRetire_keeps _ _ _ _ _ _ _ _ _ _) rfl
      exact K.refl
    clear_value x19
    refine K.step ?_ (State.modCore_keeps _ _ _) rfl
    exact h20
  · split
    · refine K.step ?_ (State.raise_keeps _ _ _ _ _) rfl
      exact K.refl
    · extract_lets +onlyGivenNames -underBinder -merge -useContext x24
      clear_value x24
      extract_lets +onlyGivenNames -underBinder -merge -useContext x25
      clear_value x25
      refine K.step ?_ (State.setCore_keeps _ _ _) rfl
      exact K.refl
  · refine K.step ?_ (State.modCore_keeps _ _ _) rfl
    refine K.step ?_ (State.vecRun_keeps _ _ _ _ _ _ _) rfl
    exact K.refl
  · extract_lets +onlyGivenNames -underBinder -merge -useContext x28
    clear_value x28
    refine K.ite (fun _ => ?_) (fun _ => ?_)
    · extract_lets +onlyGivenNames -underBinder -merge -useContext x29
      have h30 : K g2 34 a0 x29 := by
        refine K.ite (fun _ => ?_) (fun _ => ?_)
        · refine K.mk2 ?_
          exact K.refl
        · refine K.step ?_ (State.newVl_keeps _ _ _) rfl
          exact K.refl
      clear_value x29
      refine K.step ?_ (State.modCore_keeps _ _ _) rfl
      refine K.of2 ?_
      exact h30
    · refine K.step ?_ (State.setCore_keeps _ _ _) rfl
      exact K.refl
  · refine K.step ?_ (State.raise_keeps _ _ _ _ _) rfl
    exact K.refl

theorem State.vmemRun_keeps : ∀ a0 a1 a2 a3 a4 a5 a6 a7 a8, K gV 8589938238 a0 (State.vmemRun a0 a1 a2 a3 a4 a5 a6 a7 a8) := by
  intro a0 a1 a2 a3 a4 a5 a6 a7 a8
  unfold State.vmemRun
  extract_lets +onlyGivenNames -underBinder -merge -useContext x0
  clear_value x0
  extract_lets +onlyGivenNames -underBinder -merge -useContext x1
  clear_value x1
  extract_lets +onlyGivenNames -underBinder -merge -useContext x2
  clear_value x2
  extract_lets +onlyGivenNames -underBinder -merge -useContext x3
  clear_value x3
  extract_lets +onlyGivenNames -underBinder -merge -useContext x4
  clear_value x4
  extract_lets +onlyGivenNames -underBinder -merge -useContext x5
  clear_value x5
  extract_lets +onlyGivenNames -underBinder -merge -useContext x6
  clear_value x6
  extract_lets +onlyGivenNames -underBinder -merge -useContext x7
  clear_value x7
  extract_lets +onlyGivenNames -underBinder -merge -useContext x8
  clear_value x8
  refine K.ite (fun _ => ?_) (fun _ => ?_)
  · extract_lets +onlyGivenNames -underBinder -merge -useContext x9
    have h10 : K gS 8589938238 a0 x9 := by
      refine K.step ?_ (State.issueAt_keeps _ _ _ _) rfl
      exact K.refl
    clear_value x9
    split
    · rename_i e11
      extract_lets +onlyGivenNames -underBinder -merge -useContext x12
      clear_value x12
      extract_lets +onlyGivenNames -underBinder -merge -useContext x13
      have h14 : K g3 8589938238 a0 x13 := by
        refine K.step ?_ (State.beginEntries_keeps _ _ _ _) rfl
        refine K.voS ?_ e11 rfl
        refine K.step ?_ (State.runStores_keeps _ _ _ _ _) rfl
        exact h10
      clear_value x13
      refine K.ite (fun _ => ?_) (fun _ => ?_)
      · refine K.vdone ?_
        refine K.step ?_ (State.modCore_keeps _ _ _) rfl
        refine K.of3 ?_
        exact h14
      · refine K.vwait ?_
        refine K.of3 ?_
        exact h14
    · rename_i e15
      refine K.vtrap ?_
      refine K.voS ?_ e15 rfl
      refine K.step ?_ (State.runStores_keeps _ _ _ _ _) rfl
      exact h10
    · rename_i e16
      refine K.vpoison ?_
      refine K.voS ?_ e16 rfl
      refine K.step ?_ (State.runStores_keeps _ _ _ _ _) rfl
      exact h10
    · rename_i e17
      refine K.vwait ?_
      refine K.voS ?_ e17 rfl
      refine K.step ?_ (State.runStores_keeps _ _ _ _ _) rfl
      exact h10
  · extract_lets +onlyGivenNames -underBinder -merge -useContext x18
    clear_value x18
    extract_lets +onlyGivenNames -underBinder -merge -useContext x19
    clear_value x19
    extract_lets +onlyGivenNames -underBinder -merge -useContext x20
    have h21 : K g2 8589938238 a0 x20 := by
      refine K.ite (fun _ => ?_) (fun _ => ?_)
      · refine K.step ?_ (State.choose_keeps _ _) rfl
        exact K.refl
      · refine K.ite (fun _ => ?_) (fun _ => ?_)
        · refine K.step ?_ (State.choose_keeps _ _) rfl
          exact K.refl
        · refine K.mk2 ?_
          exact K.refl
    clear_value x20
    extract_lets +onlyGivenNames -underBinder -merge -useContext x22
    have h23 : K gS 8589938238 a0 x22 := by
      refine K.step ?_ (State.issueAt_keeps _ _ _ _) rfl
      refine K.of2 ?_
      exact h21
    clear_value x22
    extract_lets +onlyGivenNames -underBinder -merge -useContext x24
    have h25 : K g2 8589938238 a0 x24 := by
      refine K.step ?_ (State.forcedDrain_keeps _ _ _) rfl
      exact h23
    clear_value x24
    refine K.ite (fun _ => ?_) (fun _ => ?_)
    · refine K.step ?_ (State.runLoads_keeps _ _ _) rfl
      refine K.of2 ?_
      exact h25
    · refine K.vwait ?_
      refine K.of2 ?_
      exact h25

theorem execAmo_keeps : ∀ a0 a1 a2 a3 a4 a5 a6 a7, K gR 8589938238 a7 (execAmo a0 a1 a2 a3 a4 a5 a6 a7) := by
  intro a0 a1 a2 a3 a4 a5 a6 a7
  unfold execAmo
  refine K.mkR ?_
  refine State.inst_keeps _ _ _ _ ?_ ?_ rfl
  · exact K.refl
  · intro y0 h1
    extract_lets +onlyGivenNames -underBinder -merge -useContext x2
    clear_value x2
    extract_lets +onlyGivenNames -underBinder -merge -useContext x3
    have h4 : K gS 8589938238 a7 x3 := by
      refine K.step ?_ (State.injectAccess_keeps _ _ _ _ _) rfl
      exact h1
    clear_value x3
    split
    · refine K.step ?_ (State.raiseT_keeps _ _ _) rfl
      exact h4
    · refine K.step ?_ (State.doAmo_keeps _ _ _ _ _ _ _) rfl
      exact h4

theorem execCastStoreAcknowledge_keeps : ∀ a0 a1, K gR 544 a1 (execCastStoreAcknowledge a0 a1) := by
  intro a0 a1
  unfold execCastStoreAcknowledge
  extract_lets +onlyGivenNames -underBinder -merge -useContext x0
  clear_value x0
  refine K.mkR ?_
  refine K.ite (fun _ => ?_) (fun _ => ?_)
  · extract_lets +onlyGivenNames -underBinder -merge -useContext x1
    have h2 : K gS 544 a1 x1 := by
      refine K.step ?_ (State.setCore_keeps _ _ _) rfl
      exact K.refl
    clear_value x1
    refine K.upd512 ?_ rfl
    exact h2
  · exact K.refl

theorem execDeviceStoreAcknowledge_keeps : ∀ a0 a1, K gR 548 a1 (execDeviceStoreAcknowledge a0 a1) := by
  intro a0 a1
  unfold execDeviceStoreAcknowledge
  extract_lets +onlyGivenNames -underBinder -merge -useContext x0
  clear_value x0
  refine K.mkR ?_
  split
  · exact K.refl
  · extract_lets +onlyGivenNames -underBinder -merge -useContext x3
    have h4 : K gS 548 a1 x3 := by
      refine K.step ?_ (State.setCore_keeps _ _ _) rfl
      refine K.step ?_ (State.recv_keeps _ _) rfl
      exact K.refl
    clear_value x3
    refine K.ite (fun _ => ?_) (fun _ => ?_)
    · refine K.step ?_ (State.raiseT_keeps _ _ _) rfl
      refine K.step ?_ (State.bwLate_keeps _ _ _ _) rfl
      exact h4
    · refine K.ite (fun _ => ?_) (fun _ => ?_)
      · refine K.step ?_ (State.raiseT_keeps _ _ _) rfl
        exact h4
      · refine K.step ?_ (State.modCore_keeps _ _ _) rfl
        exact h4

theorem execEbreak_keeps : ∀ a0 a1, K gR 8589935166 a1 (execEbreak a0 a1) := by
  intro a0 a1
  unfold execEbreak
  refine K.mkR ?_
  refine State.inst_keeps _ _ _ _ ?_ ?_ rfl
  · exact K.refl
  · intro y0 h1
    refine K.step ?_ (State.raise_keeps _ _ _ _ _) rfl
    exact h1

theorem execEcall_keeps : ∀ a0 a1, K gR 8589935166 a1 (execEcall a0 a1) := by
  intro a0 a1
  unfold execEcall
  refine K.mkR ?_
  refine State.inst_keeps _ _ _ _ ?_ ?_ rfl
  · exact K.refl
  · intro y0 h1
    refine K.step ?_ (State.raise_keeps _ _ _ _ _) rfl
    exact h1

theorem execFence_keeps : ∀ a0 a1, K gR 8589935166 a1 (execFence a0 a1) := by
  intro a0 a1
  unfold execFence
  refine K.mkR ?_
  refine State.inst_keeps _ _ _ _ ?_ ?_ rfl
  · exact K.refl
  · intro y0 h1
    extract_lets +onlyGivenNames -underBinder -merge -useContext x2
    clear_value x2
    refine K.ite (fun _ => ?_) (fun _ => ?_)
    · exact h1
    · refine K.step ?_ (State.modCore_keeps _ _ _) rfl
      exact h1

theorem execFenceI_keeps : ∀ a0 a1, K gR 8589938238 a1 (execFenceI a0 a1) := by
  intro a0 a1
  unfold execFenceI
  refine K.mkR ?_
  refine State.inst_keeps _ _ _ _ ?_ ?_ rfl
  · exact K.refl
  · intro y0 h1
    extract_lets +onlyGivenNames -underBinder -merge -useContext x2
    clear_value x2
    refine K.ite (fun _ => ?_) (fun _ => ?_)
    · refine K.step ?_ (State.raiseT_keeps _ _ _) rfl
      exact h1
    · refine K.ite (fun _ => ?_) (fun _ => ?_)
      · exact h1
      · extract_lets +onlyGivenNames -underBinder -merge -useContext x3
        have h4 : K g2 8589938238 a1 x3 := by
          refine K.step ?_ (State.drainN_keeps _ _ _) rfl
          exact h1
        clear_value x3
        refine K.ite (fun _ => ?_) (fun _ => ?_)
        · refine K.step ?_ (State.modCore_keeps _ _ _) rfl
          refine K.of2 ?_
          exact h4
        · refine K.of2 ?_
          exact h4

theorem execInstructionIssue_keeps : ∀ a0 a1 a2 a3 a4, K gR 8589935166 a4 (execInstructionIssue a0 a1 a2 a3 a4) := by
  intro a0 a1 a2 a3 a4
  unfold execInstructionIssue
  refine K.mkR ?_
  refine State.inst_keeps _ _ _ _ ?_ ?_ rfl
  · exact K.refl
  · intro y0 h1
    extract_lets +onlyGivenNames -underBinder -merge -useContext x2
    clear_value x2
    refine K.ite (fun _ => ?_) (fun _ => ?_)
    · refine K.step ?_ (State.diverge_keeps _ _ _) rfl
      exact h1
    · extract_lets +onlyGivenNames -underBinder -merge -useContext x3
      have h4 : K gS 8589935166 a4 x3 := by
        refine K.ite (fun _ => ?_) (fun _ => ?_)
        · refine K.step ?_ (State.corrected_keeps _ _ _) rfl
          exact h1
        · exact h1
      clear_value x3
      extract_lets +onlyGivenNames -underBinder -merge -useContext x5
      have h6 : K gS 8589935166 a4 x5 := by
        refine K.step ?_ (State.injectPred_keeps _ _ _) rfl
        refine K.foldl ?_ (fun y7 a8 h9 => ?_)
        · exact h4
        · refine K.step ?_ (State.corrected_keeps _ _ _) rfl
          exact h9
      clear_value x5
      extract_lets +onlyGivenNames -underBinder -merge -useContext x10
      clear_value x10
      extract_lets +onlyGivenNames -underBinder -merge -useContext x11
      clear_value x11
      refine K.ite (fun _ => ?_) (fun _ => ?_)
      · refine K.step ?_ (State.machineCheck_keeps _ _ _ _ _ _ _) rfl
        exact h6
      · refine K.ite (fun _ => ?_) (fun _ => ?_)
        · refine K.step ?_ (State.machineCheck_keeps _ _ _ _ _ _ _) rfl
          refine K.step ?_ (State.failure_keeps _ _ _ _ _ _) rfl
          exact h6
        · refine K.ite (fun _ => ?_) (fun _ => ?_)
          · refine K.step ?_ (State.machineCheck_keeps _ _ _ _ _ _ _) rfl
            refine K.step ?_ (State.detect_keeps _ _) rfl
            exact h6
          · refine K.ite (fun _ => ?_) (fun _ => ?_)
            · refine K.step ?_ (State.raise_keeps _ _ _ _ _) rfl
              exact h6
            · extract_lets +onlyGivenNames -underBinder -merge -useContext x12
              clear_value x12
              refine K.ite (fun _ => ?_) (fun _ => ?_)
              · exact h1
              · extract_lets +onlyGivenNames -underBinder -merge -useContext x13
                have h14 : K gS 8589935166 a4 x13 := by
                  refine K.step ?_ (State.issueAt_keeps _ _ _ _) rfl
                  exact h6
                clear_value x13
                extract_lets +onlyGivenNames -underBinder -merge -useContext x15
                have h16 : K gS 8589935166 a4 x15 := by
                  refine K.ite (fun _ => ?_) (fun _ => ?_)
                  · exact h14
                  · refine K.step ?_ (State.modCore_keeps _ _ _) rfl
                    exact h14
                clear_value x15
                refine K.step ?_ (State.issueEffect_keeps _ _ _ _ _) rfl
                exact h16

theorem execLoad_keeps : ∀ a0 a1 a2 a3 a4 a5 a6 a7 a8 a9, K gR 8589938238 a9 (execLoad a0 a1 a2 a3 a4 a5 a6 a7 a8 a9) := by
  intro a0 a1 a2 a3 a4 a5 a6 a7 a8 a9
  unfold execLoad
  refine K.mkR ?_
  refine State.inst_keeps _ _ _ _ ?_ ?_ rfl
  · exact K.refl
  · intro y0 h1
    extract_lets +onlyGivenNames -underBinder -merge -useContext x2
    clear_value x2
    extract_lets +onlyGivenNames -underBinder -merge -useContext x3
    clear_value x3
    extract_lets +onlyGivenNames -underBinder -merge -useContext x4
    have h5 : K gS 8589938238 a9 x4 := by
      refine K.step ?_ (State.meetChecks_keeps _ _ _ _ _ _) rfl
      exact h1
    clear_value x4
    split
    · refine K.step ?_ (State.raiseT_keeps _ _ _) rfl
      exact h5
    · refine K.ite (fun _ => ?_) (fun _ => ?_)
      · refine K.step ?_ (State.machineCheck_keeps _ _ _ _ _ _ _) rfl
        exact h5
      · refine K.step ?_ (State.doLoad_keeps _ _ _ _ _ _) rfl
        exact h5

theorem execLoadComplete_keeps : ∀ a0 a1 a2 a3 a4, K gR 8589935166 a4 (execLoadComplete a0 a1 a2 a3 a4) := by
  intro a0 a1 a2 a3 a4
  unfold execLoadComplete
  extract_lets +onlyGivenNames -underBinder -merge -useContext x0
  clear_value x0
  refine K.mkR ?_
  split
  · exact K.refl
  · extract_lets +onlyGivenNames -underBinder -merge -useContext x3
    clear_value x3
    refine K.ite (fun _ => ?_) (fun _ => ?_)
    · refine K.step ?_ (State.pump_keeps _ _) rfl
      exact K.refl
    · split
      · refine K.step ?_ (State.pump_keeps _ _) rfl
        exact K.refl
      · rename_i e5
        extract_lets +onlyGivenNames -underBinder -merge -useContext x6
        clear_value x6
        extract_lets +onlyGivenNames -underBinder -merge -useContext x7
        have h8 : K gS 8589935166 a4 x7 := by
          refine K.step ?_ (State.modCore_keeps _ _ _) rfl
          refine K.of3 ?_
          refine K.someO3 (K.okE3 ?_ e5) rfl
          refine K.step ?_ (State.loadRead_keeps _ _ _ _) rfl
          exact K.refl
        clear_value x7
        refine K.step ?_ (State.ackTlb_keeps _ _) rfl
        refine K.step ?_ (State.finishLoad_keeps _ _ _ _ _ _) rfl
        exact h8
      · extract_lets +onlyGivenNames -underBinder -merge -useContext x10
        have h11 : K gS 8589935166 a4 x10 := by
          refine K.step ?_ (State.modCore_keeps _ _ _) rfl
          exact K.refl
        clear_value x10
        refine K.step ?_ (State.raiseT_keeps _ _ _) rfl
        refine K.ite (fun _ => ?_) (fun _ => ?_)
        · refine K.step ?_ (State.bwLate_keeps _ _ _ _) rfl
          exact h11
        · exact h11

theorem execLr_keeps : ∀ a0 a1 a2 a3 a4 a5, K gR 8589938238 a5 (execLr a0 a1 a2 a3 a4 a5) := by
  intro a0 a1 a2 a3 a4 a5
  unfold execLr
  refine K.mkR ?_
  refine State.inst_keeps _ _ _ _ ?_ ?_ rfl
  · exact K.refl
  · intro y0 h1
    extract_lets +onlyGivenNames -underBinder -merge -useContext x2
    clear_value x2
    refine K.ite (fun _ => ?_) (fun _ => ?_)
    · refine K.step ?_ (State.raiseT_keeps _ _ _) rfl
      exact h1
    · extract_lets +onlyGivenNames -underBinder -merge -useContext x3
      have h4 : K gS 8589938238 a5 x3 := by
        refine K.step ?_ (State.injectAccess_keeps _ _ _ _ _) rfl
        exact h1
      clear_value x3
      split
      · refine K.step ?_ (State.raiseT_keeps _ _ _) rfl
        exact h4
      · refine K.step ?_ (State.doLoad_keeps _ _ _ _ _ _) rfl
        exact h4

theorem execSc_keeps : ∀ a0 a1 a2 a3 a4 a5 a6, K gR 8589938238 a6 (execSc a0 a1 a2 a3 a4 a5 a6) := by
  intro a0 a1 a2 a3 a4 a5 a6
  unfold execSc
  refine K.mkR ?_
  refine State.inst_keeps _ _ _ _ ?_ ?_ rfl
  · exact K.refl
  · intro y0 h1
    extract_lets +onlyGivenNames -underBinder -merge -useContext x2
    clear_value x2
    refine K.ite (fun _ => ?_) (fun _ => ?_)
    · refine K.step ?_ (State.raiseT_keeps _ _ _) rfl
      exact h1
    · extract_lets +onlyGivenNames -underBinder -merge -useContext x3
      have h4 : K gS 8589938238 a6 x3 := by
        refine K.step ?_ (State.injectAccess_keeps _ _ _ _ _) rfl
        exact h1
      clear_value x3
      split
      · refine K.step ?_ (State.raiseT_keeps _ _ _) rfl
        exact h4
      · refine K.step ?_ (State.doAmo_keeps _ _ _ _ _ _ _) rfl
        exact h4

theorem execStore_keeps : ∀ a0 a1 a2 a3 a4 a5 a6 a7 a8 a9, K gR 8589938238 a9 (execStore a0 a1 a2 a3 a4 a5 a6 a7 a8 a9) := by
  intro a0 a1 a2 a3 a4 a5 a6 a7 a8 a9
  unfold execStore
  refine K.mkR ?_
  refine State.inst_keeps _ _ _ _ ?_ ?_ rfl
  · exact K.refl
  · intro y0 h1
    extract_lets +onlyGivenNames -underBinder -merge -useContext x2
    clear_value x2
    extract_lets +onlyGivenNames -underBinder -merge -useContext x3
    clear_value x3
    extract_lets +onlyGivenNames -underBinder -merge -useContext x4
    have h5 : K gS 8589938238 a9 x4 := by
      refine K.step ?_ (State.meetChecks_keeps _ _ _ _ _ _) rfl
      exact h1
    clear_value x4
    extract_lets +onlyGivenNames -underBinder -merge -useContext x6
    clear_value x6
    split
    · refine K.step ?_ (State.raiseT_keeps _ _ _) rfl
      exact h5
    · refine K.step ?_ (State.doStore_keeps _ _ _ _ _ _ _ _ _) rfl
      exact h5

theorem execStoreBufferEntryLeave_keeps : ∀ a0 a1 a2, K gR 8589938236 a2 (execStoreBufferEntryLeave a0 a1 a2) := by
  intro a0 a1 a2
  unfold execStoreBufferEntryLeave
  extract_lets +onlyGivenNames -underBinder -merge -useContext x0
  clear_value x0
  refine K.mkR ?_
  refine K.ite (fun _ => ?_) (fun _ => ?_)
  · split
    · exact K.refl
    · extract_lets +onlyGivenNames -underBinder -merge -useContext x3
      have h4 : K g2 8589938236 a2 x3 := by
        refine K.step ?_ (State.drainOne_keeps _ _ _) rfl
        exact K.refl
      clear_value x3
      refine K.ite (fun _ => ?_) (fun _ => ?_)
      · refine K.step ?_ (State.ackTlb_keeps _ _) rfl
        refine K.step ?_ (State.modCore_keeps _ _ _) rfl
        refine K.of2 ?_
        exact h4
      · refine K.of2 ?_
        exact h4
  · exact K.refl

theorem execStoreDrain_keeps : ∀ a0 a1, K gR 8589938236 a1 (execStoreDrain a0 a1) := by
  intro a0 a1
  unfold execStoreDrain
  extract_lets +onlyGivenNames -underBinder -merge -useContext x0
  clear_value x0
  refine K.mkR ?_
  refine K.ite (fun _ => ?_) (fun _ => ?_)
  · refine K.step ?_ (State.ackTlb_keeps _ _) rfl
    refine K.of2 ?_
    refine K.step ?_ (State.drainOne_keeps _ _ _) rfl
    exact K.refl
  · exact K.refl

theorem execVectorMemoryAccess_keeps : ∀ a0 a1 a2 a3 a4 a5 a6 a7 a8 a9, K gR 8589938238 a9 (execVectorMemoryAccess a0 a1 a2 a3 a4 a5 a6 a7 a8 a9) := by
  intro a0 a1 a2 a3 a4 a5 a6 a7 a8 a9
  unfold execVectorMemoryAccess
  refine K.mkR ?_
  refine State.inst_keeps _ _ _ _ ?_ ?_ rfl
  · exact K.refl
  · intro y0 h1
    extract_lets +onlyGivenNames -underBinder -merge -useContext x2
    clear_value x2
    extract_lets +onlyGivenNames -underBinder -merge -useContext x3
    clear_value x3
    refine K.ite (fun _ => ?_) (fun _ => ?_)
    · refine K.step ?_ (State.raise_keeps _ _ _ _ _) rfl
      exact h1
    · extract_lets +onlyGivenNames -underBinder -merge -useContext x4
      clear_value x4
      extract_lets +onlyGivenNames -underBinder -merge -useContext x5
      clear_value x5
      extract_lets +onlyGivenNames -underBinder -merge -useContext x6
      clear_value x6
      extract_lets +onlyGivenNames -underBinder -merge -useContext x7
      clear_value x7
      extract_lets +onlyGivenNames -underBinder -merge -useContext x8
      clear_value x8
      refine K.ite (fun _ => ?_) (fun _ => ?_)
      · exact h1
      · split
        · rename_i e9
          refine K.step ?_ (State.pump_keeps _ _) rfl
          refine K.step ?_ (State.modCore_keeps _ _ _) rfl
          refine K.voS ?_ e9 rfl
          refine K.step ?_ (State.vmemRun_keeps _ _ _ _ _ _ _ _ _) rfl
          refine K.step ?_ (State.injectElems_keeps _ _ _ _) rfl
          exact h1
        · rename_i e10
          refine K.ite (fun _ => ?_) (fun _ => ?_)
          · refine K.step ?_ (State.modCore_keeps _ _ _) rfl
            refine K.voS ?_ e10 rfl
            refine K.step ?_ (State.vmemRun_keeps _ _ _ _ _ _ _ _ _) rfl
            refine K.step ?_ (State.injectElems_keeps _ _ _ _) rfl
            exact h1
          · refine K.step ?_ (State.raiseT_keeps _ _ _) rfl
            refine K.step ?_ (State.modCore_keeps _ _ _) rfl
            refine K.voS ?_ e10 rfl
            refine K.step ?_ (State.vmemRun_keeps _ _ _ _ _ _ _ _ _) rfl
            refine K.step ?_ (State.injectElems_keeps _ _ _ _) rfl
            exact h1
        · rename_i e11
          refine K.step ?_ (State.machineCheck_keeps _ _ _ _ _ _ _) rfl
          refine K.step ?_ (State.modCore_keeps _ _ _) rfl
          refine K.voS ?_ e11 rfl
          refine K.step ?_ (State.vmemRun_keeps _ _ _ _ _ _ _ _ _) rfl
          refine K.step ?_ (State.injectElems_keeps _ _ _ _) rfl
          exact h1
        · rename_i e12
          refine K.step ?_ (State.modCore_keeps _ _ _) rfl
          refine K.voS ?_ e12 rfl
          refine K.step ?_ (State.vmemRun_keeps _ _ _ _ _ _ _ _ _) rfl
          refine K.step ?_ (State.injectElems_keeps _ _ _ _) rfl
          exact h1

end Sys2Proof.Machine
end

