-- ==== Sys2Proof/Laws/KeepsPace.lean ====
section
/-!
SUPPORT. What each function and each command of Machine/Pace.lean, Machine/Tlb.lean, Machine/Entry.lean can change (Laws/Keeps.lean), one lemma each.
-/
namespace Sys2Proof.Machine

theorem State.startSwitch_keeps : ∀ a0 a1 a2, K gS 36 a0 (State.startSwitch a0 a1 a2) := by
  intro a0 a1 a2
  unfold State.startSwitch
  extract_lets +onlyGivenNames -underBinder -merge -useContext x0
  clear_value x0
  extract_lets +onlyGivenNames -underBinder -merge -useContext x1
  clear_value x1
  extract_lets +onlyGivenNames -underBinder -merge -useContext x2
  clear_value x2
  extract_lets +onlyGivenNames -underBinder -merge -useContext x3
  clear_value x3
  refine K.step ?_ (State.setFld_keeps _ _ _ _) rfl
  refine K.step ?_ (State.setFlag_keeps _ _ _ _) rfl
  refine K.step ?_ (State.setCore_keeps _ _ _) rfl
  exact K.refl

theorem State.writePacectl_keeps : ∀ a0 a1 a2, K gS 36 a0 (State.writePacectl a0 a1 a2) := by
  intro a0 a1 a2
  unfold State.writePacectl
  extract_lets +onlyGivenNames -underBinder -merge -useContext x0
  clear_value x0
  refine K.ite (fun _ => ?_) (fun _ => ?_)
  · refine K.step ?_ (State.modCore_keeps _ _ _) rfl
    exact K.refl
  · refine K.step ?_ (State.startSwitch_keeps _ _ _) rfl
    exact K.refl

theorem State.writePairctl_keeps : ∀ a0 a1 a2, K gS 56 a0 (State.writePairctl a0 a1 a2) := by
  intro a0 a1 a2
  unfold State.writePairctl
  extract_lets +onlyGivenNames -underBinder -merge -useContext x0
  clear_value x0
  refine K.ite (fun _ => ?_) (fun _ => ?_)
  · exact K.refl
  · refine K.ite (fun _ => ?_) (fun _ => ?_)
    · refine K.ite (fun _ => ?_) (fun _ => ?_)
      · exact K.refl
      · refine K.step ?_ (State.setCore_keeps _ _ _) rfl
        exact K.refl
    · refine K.ite (fun _ => ?_) (fun _ => ?_)
      · extract_lets +onlyGivenNames -underBinder -merge -useContext x1
        have h2 : K gS 56 a0 x1 := by
          refine K.step ?_ (State.endPair_keeps _ _) rfl
          exact K.refl
        clear_value x1
        refine K.step ?_ (State.modCore_keeps _ _ _) rfl
        exact h2
      · exact K.refl

theorem State.csrPerform_keeps : ∀ a0 a1 a2 a3, K gS 62 a0 (State.csrPerform a0 a1 a2 a3) := by
  intro a0 a1 a2 a3
  unfold State.csrPerform
  refine K.ite (fun _ => ?_) (fun _ => ?_)
  · refine K.step ?_ (State.writePacectl_keeps _ _ _) rfl
    exact K.refl
  · refine K.ite (fun _ => ?_) (fun _ => ?_)
    · refine K.step ?_ (State.writePairctl_keeps _ _ _) rfl
      exact K.refl
    · refine K.ite (fun _ => ?_) (fun _ => ?_)
      · extract_lets +onlyGivenNames -underBinder -merge -useContext x0
        have h1 : K gS 62 a0 x0 := by
          refine K.step ?_ (State.modCore_keeps _ _ _) rfl
          exact K.refl
        clear_value x0
        extract_lets +onlyGivenNames -underBinder -merge -useContext x2
        have h3 : K gS 62 a0 x2 := by
          refine K.ite (fun _ => ?_) (fun _ => ?_)
          · refine K.step ?_ (State.predInval_keeps _ _) rfl
            exact h1
          · exact h1
        clear_value x2
        refine K.ite (fun _ => ?_) (fun _ => ?_)
        · refine K.step ?_ (State.predRegen_keeps _ _) rfl
          exact h3
        · exact h3
      · refine K.ite (fun _ => ?_) (fun _ => ?_)
        · refine K.step ?_ (State.modCore_keeps _ _ _) rfl
          exact K.refl
        · refine K.step ?_ (State.modCore_keeps _ _ _) rfl
          exact K.refl

theorem State.csrInst_keeps : ∀ a0 a1 a2 a3 a4 a5, K gS 62 a0 (State.csrInst a0 a1 a2 a3 a4 a5) := by
  intro a0 a1 a2 a3 a4 a5
  unfold State.csrInst
  extract_lets +onlyGivenNames -underBinder -merge -useContext x0
  clear_value x0
  extract_lets +onlyGivenNames -underBinder -merge -useContext x1
  clear_value x1
  extract_lets +onlyGivenNames -underBinder -merge -useContext x2
  clear_value x2
  extract_lets +onlyGivenNames -underBinder -merge -useContext x3
  clear_value x3
  split
  · refine K.step ?_ (State.raiseT_keeps _ _ _) rfl
    exact K.refl
  · refine K.ite (fun _ => ?_) (fun _ => ?_)
    · exact K.refl
    · extract_lets +onlyGivenNames -underBinder -merge -useContext x6
      clear_value x6
      extract_lets +onlyGivenNames -underBinder -merge -useContext x7
      have h8 : K gS 62 a0 x7 := by
        refine K.step ?_ (State.modCore_keeps _ _ _) rfl
        exact K.refl
      clear_value x7
      extract_lets +onlyGivenNames -underBinder -merge -useContext x9
      clear_value x9
      extract_lets +onlyGivenNames -underBinder -merge -useContext x10
      have h11 : K gS 62 a0 x10 := by
        refine K.ite (fun _ => ?_) (fun _ => ?_)
        · refine K.step ?_ (State.csrPerform_keeps _ _ _ _) rfl
          exact h8
        · exact h8
      clear_value x10
      refine K.step ?_ (State.modCore_keeps _ _ _) rfl
      exact h11

theorem State.streamMc_keeps : ∀ a0 a1, K gS 8589935164 a0 (State.streamMc a0 a1) := by
  intro a0 a1
  unfold State.streamMc
  extract_lets +onlyGivenNames -underBinder -merge -useContext x0
  clear_value x0
  refine K.ite (fun _ => ?_) (fun _ => ?_)
  · extract_lets +onlyGivenNames -underBinder -merge -useContext x1
    clear_value x1
    extract_lets +onlyGivenNames -underBinder -merge -useContext x2
    have h3 : K gS 8589935164 a0 x2 := by
      refine K.step ?_ (State.endPair_keeps _ _) rfl
      refine K.step ?_ (State.setFld_keeps _ _ _ _) rfl
      exact K.refl
    clear_value x2
    extract_lets +onlyGivenNames -underBinder -merge -useContext x4
    have h5 : K gS 8589935164 a0 x4 := by
      refine K.step ?_ (State.modCore_keeps _ _ _) rfl
      exact h3
    clear_value x4
    extract_lets +onlyGivenNames -underBinder -merge -useContext x6
    clear_value x6
    refine K.step ?_ (State.takeMc_keeps _ _ _ _ _) rfl
    refine K.step ?_ (State.takeMc_keeps _ _ _ _ _) rfl
    exact h5
  · refine K.step ?_ (State.machineCheck_keeps _ _ _ _ _ _ _) rfl
    exact K.refl

theorem State.forceFlood_keeps : ∀ a0 a1, K gS 8589935164 a0 (State.forceFlood a0 a1) := by
  intro a0 a1
  unfold State.forceFlood
  extract_lets +onlyGivenNames -underBinder -merge -useContext x0
  clear_value x0
  split
  · refine K.step ?_ (State.setCore_keeps _ _ _) rfl
    exact K.refl
  · refine K.ite (fun _ => ?_) (fun _ => ?_)
    · extract_lets +onlyGivenNames -underBinder -merge -useContext x3
      clear_value x3
      extract_lets +onlyGivenNames -underBinder -merge -useContext x4
      have h5 : K gS 8589935164 a0 x4 := by
        refine K.step ?_ (State.setFld_keeps _ _ _ _) rfl
        refine K.step ?_ (State.setCore_keeps _ _ _) rfl
        exact K.refl
      clear_value x4
      refine K.step ?_ (State.streamMc_keeps _ _) rfl
      exact h5
    · exact K.refl

theorem State.paceLoss_keeps : ∀ a0 a1, K gS 8589935164 a0 (State.paceLoss a0 a1) := by
  intro a0 a1
  unfold State.paceLoss
  extract_lets +onlyGivenNames -underBinder -merge -useContext x0
  clear_value x0
  refine K.foldl ?_ (fun y1 a2 h3 => ?_)
  · exact K.refl
  · refine K.step ?_ (State.forceFlood_keeps _ _) rfl
    exact h3

theorem State.setFastok_keeps : ∀ a0 a1, K gS 4 a0 (State.setFastok a0 a1) := by
  intro a0 a1
  unfold State.setFastok
  extract_lets +onlyGivenNames -underBinder -merge -useContext x0
  clear_value x0
  extract_lets +onlyGivenNames -underBinder -merge -useContext x1
  have h2 : K gS 4 a0 x1 := by
    refine K.step ?_ (State.setFlag_keeps _ _ _ _) rfl
    exact K.refl
  clear_value x1
  refine K.ite (fun _ => ?_) (fun _ => ?_)
  · refine K.step ?_ (State.setFlag_keeps _ _ _ _) rfl
    exact h2
  · exact h2

theorem State.slip_keeps : ∀ a0 a1 a2, K gS 36 a0 (State.slip a0 a1 a2) := by
  intro a0 a1 a2
  unfold State.slip
  extract_lets +onlyGivenNames -underBinder -merge -useContext x0
  clear_value x0
  extract_lets +onlyGivenNames -underBinder -merge -useContext x1
  clear_value x1
  refine K.ite (fun _ => ?_) (fun _ => ?_)
  · extract_lets +onlyGivenNames -underBinder -merge -useContext x2
    have h3 : K gS 36 a0 x2 := by
      refine K.step ?_ (State.setFld_keeps _ _ _ _) rfl
      refine K.step ?_ (State.bump_keeps _ _ _ _) rfl
      exact K.refl
    clear_value x2
    extract_lets +onlyGivenNames -underBinder -merge -useContext x4
    have h5 : K gS 36 a0 x4 := by
      refine K.step ?_ (State.modCore_keeps _ _ _) rfl
      exact h3
    clear_value x4
    refine K.ite (fun _ => ?_) (fun _ => ?_)
    · refine K.step ?_ (State.setFlag_keeps _ _ _ _) rfl
      exact h5
    · exact h5
  · exact K.refl

theorem execCsrInstruction_keeps : ∀ a0 a1 a2 a3 a4 a5, K gR 8589935166 a5 (execCsrInstruction a0 a1 a2 a3 a4 a5) := by
  intro a0 a1 a2 a3 a4 a5
  unfold execCsrInstruction
  refine K.mkR ?_
  refine State.inst_keeps _ _ _ _ ?_ ?_ rfl
  · exact K.refl
  · intro y0 h1
    refine K.step ?_ (State.csrInst_keeps _ _ _ _ _ _) rfl
    exact h1

theorem execFellClear_keeps : ∀ a0 a1, K gR 4 a1 (execFellClear a0 a1) := by
  intro a0 a1
  unfold execFellClear
  extract_lets +onlyGivenNames -underBinder -merge -useContext x0
  clear_value x0
  extract_lets +onlyGivenNames -underBinder -merge -useContext x1
  have h2 : K gS 4 a1 x1 := by
    refine K.ite (fun _ => ?_) (fun _ => ?_)
    · refine K.step ?_ (State.setFlag_keeps _ _ _ _) rfl
      exact K.refl
    · exact K.refl
  clear_value x1
  refine K.mkR ?_
  refine K.ite (fun _ => ?_) (fun _ => ?_)
  · refine K.step ?_ (State.setFlag_keeps _ _ _ _) rfl
    exact h2
  · exact h2

theorem execHSpecctlWrite_keeps : ∀ a0 a1 a2, K gR 8589935166 a2 (execHSpecctlWrite a0 a1 a2) := by
  intro a0 a1 a2
  unfold execHSpecctlWrite
  refine K.mkR ?_
  refine State.devCsr_keeps _ _ _ _ ?_ ?_ rfl
  · exact K.refl
  · intro y0 h1
    refine K.step ?_ (State.modCore_keeps _ _ _) rfl
    exact h1

theorem execPaceSlip_keeps : ∀ a0 a1 a2, K gR 36 a2 (execPaceSlip a0 a1 a2) := by
  intro a0 a1 a2
  unfold execPaceSlip
  refine K.mkR ?_
  refine K.ite (fun _ => ?_) (fun _ => ?_)
  · refine K.step ?_ (State.slip_keeps _ _ _) rfl
    refine K.step ?_ (State.slip_keeps _ _ _) rfl
    exact K.refl
  · refine K.step ?_ (State.slip_keeps _ _ _) rfl
    exact K.refl

theorem execPaceSwitch_keeps : ∀ a0 a1 a2 a3 a4, K gR 8589935166 a4 (execPaceSwitch a0 a1 a2 a3 a4) := by
  intro a0 a1 a2 a3 a4
  unfold execPaceSwitch
  refine K.mkR ?_
  refine State.inst_keeps _ _ _ _ ?_ ?_ rfl
  · exact K.refl
  · intro y0 h1
    refine K.step ?_ (State.csrInst_keeps _ _ _ _ _ _) rfl
    exact h1

theorem execPaceSwitchComplete_keeps : ∀ a0 a1 a2, K gR 8589938236 a2 (execPaceSwitchComplete a0 a1 a2) := by
  intro a0 a1 a2
  unfold execPaceSwitchComplete
  extract_lets +onlyGivenNames -underBinder -merge -useContext x0
  clear_value x0
  refine K.mkR ?_
  split
  · exact K.refl
  · extract_lets +onlyGivenNames -underBinder -merge -useContext x3
    have h4 : K g2 8589938236 a2 x3 := by
      refine K.step ?_ (State.drainN_keeps _ _ _) rfl
      exact K.refl
    clear_value x3
    refine K.ite (fun _ => ?_) (fun _ => ?_)
    · refine K.of2 ?_
      exact h4
    · extract_lets +onlyGivenNames -underBinder -merge -useContext x5
      clear_value x5
      extract_lets +onlyGivenNames -underBinder -merge -useContext x6
      clear_value x6
      extract_lets +onlyGivenNames -underBinder -merge -useContext x7
      clear_value x7
      extract_lets +onlyGivenNames -underBinder -merge -useContext x8
      clear_value x8
      extract_lets +onlyGivenNames -underBinder -merge -useContext x9
      clear_value x9
      extract_lets +onlyGivenNames -underBinder -merge -useContext x10
      have h11 : K gS 8589938236 a2 x10 := by
        refine K.step ?_ (State.setCore_keeps _ _ _) rfl
        refine K.of2 ?_
        exact h4
      clear_value x10
      extract_lets +onlyGivenNames -underBinder -merge -useContext x12
      have h13 : K gS 8589938236 a2 x12 := by
        refine K.step ?_ (State.setFld_keeps _ _ _ _) rfl
        refine K.step ?_ (State.setFld_keeps _ _ _ _) rfl
        refine K.step ?_ (State.setFlag_keeps _ _ _ _) rfl
        exact h11
      clear_value x12
      extract_lets +onlyGivenNames -underBinder -merge -useContext x14
      have h15 : K gS 8589938236 a2 x14 := by
        dsimp -zeta only [x14]
        split
        · refine K.step ?_ (State.machineCheck_keeps _ _ _ _ _ _ _) rfl
          exact h13
        · exact h13
      clear_value x14
      extract_lets +onlyGivenNames -underBinder -merge -useContext x18
      have h19 : K gS 8589938236 a2 x18 := by
        refine K.ite (fun _ => ?_) (fun _ => ?_)
        · refine K.step ?_ (State.machineCheck_keeps _ _ _ _ _ _ _) rfl
          exact h15
        · exact h15
      clear_value x18
      split
      · refine K.step ?_ (State.takeMc_keeps _ _ _ _ _) rfl
        exact h19
      · exact h19

theorem execPairEntry_keeps : ∀ a0 a1, K gR 8589935166 a1 (execPairEntry a0 a1) := by
  intro a0 a1
  unfold execPairEntry
  refine K.mkR ?_
  refine State.inst_keeps _ _ _ _ ?_ ?_ rfl
  · exact K.refl
  · intro y0 h1
    split
    · refine K.step ?_ (State.raiseCsr_keeps _ _ _ _) rfl
      exact h1
    · refine K.ite (fun _ => ?_) (fun _ => ?_)
      · exact h1
      · refine K.ite (fun _ => ?_) (fun _ => ?_)
        · refine K.step ?_ (State.raiseCsr_keeps _ _ _ _) rfl
          exact h1
        · refine K.step ?_ (State.writePairctl_keeps _ _ _) rfl
          refine K.step ?_ (State.modCore_keeps _ _ _) rfl
          exact h1

theorem execPairEntryComplete_keeps : ∀ a0 a1, K gR 8589938236 a1 (execPairEntryComplete a0 a1) := by
  intro a0 a1
  unfold execPairEntryComplete
  extract_lets +onlyGivenNames -underBinder -merge -useContext x0
  clear_value x0
  refine K.mkR ?_
  refine K.ite (fun _ => ?_) (fun _ => ?_)
  · extract_lets +onlyGivenNames -underBinder -merge -useContext x1
    have h2 : K g2 8589938236 a1 x1 := by
      refine K.step ?_ (State.drainN_keeps _ _ _) rfl
      exact K.refl
    clear_value x1
    refine K.ite (fun _ => ?_) (fun _ => ?_)
    · refine K.of2 ?_
      exact h2
    · extract_lets +onlyGivenNames -underBinder -merge -useContext x3
      clear_value x3
      extract_lets +onlyGivenNames -underBinder -merge -useContext x4
      clear_value x4
      extract_lets +onlyGivenNames -underBinder -merge -useContext x5
      clear_value x5
      extract_lets +onlyGivenNames -underBinder -merge -useContext x6
      clear_value x6
      extract_lets +onlyGivenNames -underBinder -merge -useContext x7
      have h8 : K gS 8589938236 a1 x7 := by
        refine K.step ?_ (State.setCore_keeps _ _ _) rfl
        refine K.of2 ?_
        exact h2
      clear_value x7
      extract_lets +onlyGivenNames -underBinder -merge -useContext x9
      have h10 : K gS 8589938236 a1 x9 := by
        refine K.step ?_ (State.setCore_keeps _ _ _) rfl
        exact h8
      clear_value x9
      extract_lets +onlyGivenNames -underBinder -merge -useContext x11
      have h12 : K gS 8589938236 a1 x11 := by
        refine K.step ?_ (State.copyRange_keeps _ _ _ _) rfl
        exact h10
      clear_value x11
      split
      · refine K.step ?_ (State.takeMc_keeps _ _ _ _ _) rfl
        exact h12
      · exact h12
  · exact K.refl

theorem execPairExit_keeps : ∀ a0 a1, K gR 8589935166 a1 (execPairExit a0 a1) := by
  intro a0 a1
  unfold execPairExit
  refine K.mkR ?_
  refine State.devCsr_keeps _ _ _ _ ?_ ?_ rfl
  · exact K.refl
  · intro y0 h1
    refine K.step ?_ (State.writePairctl_keeps _ _ _) rfl
    exact h1

theorem execStreamBSwitch_keeps : ∀ a0, K gR 4 a0 (execStreamBSwitch a0) := by
  intro a0
  unfold execStreamBSwitch
  refine K.mkR ?_
  refine K.ite (fun _ => ?_) (fun _ => ?_)
  · refine K.step ?_ (State.setFlag_keeps _ _ _ _) rfl
    exact K.refl
  · exact K.refl

theorem execSynthLock_keeps : ∀ a0 a1, K gR 65542 a1 (execSynthLock a0 a1) := by
  intro a0 a1
  unfold execSynthLock
  extract_lets +onlyGivenNames -underBinder -merge -useContext x0
  have h1 : K gS 65542 a1 x0 := by
    refine K.step ?_ (State.setFlag_keeps _ _ _ _) rfl
    exact K.refl
  clear_value x0
  refine K.mkR ?_
  refine K.ite (fun _ => ?_) (fun _ => ?_)
  · extract_lets +onlyGivenNames -underBinder -merge -useContext x2
    have h3 : K g2 65542 a1 x2 := by
      refine K.step ?_ (State.choose_keeps _ _) rfl
      exact h1
    clear_value x2
    extract_lets +onlyGivenNames -underBinder -merge -useContext x4
    have h5 : K gS 65542 a1 x4 := by
      refine K.of2 ?_
      exact h3
    clear_value x4
    refine K.upd65536 ?_ rfl
    exact h5
  · exact h1

theorem execSynthLossOfLock_keeps : ∀ a0 a1, K gR 8589935164 a1 (execSynthLossOfLock a0 a1) := by
  intro a0 a1
  unfold execSynthLossOfLock
  extract_lets +onlyGivenNames -underBinder -merge -useContext x0
  clear_value x0
  extract_lets +onlyGivenNames -underBinder -merge -useContext x1
  clear_value x1
  extract_lets +onlyGivenNames -underBinder -merge -useContext x2
  have h3 : K gS 8589935164 a1 x2 := by
    refine K.step ?_ (State.detect_keeps _ _) rfl
    refine K.step ?_ (State.setFlag_keeps _ _ _ _) rfl
    exact K.refl
  clear_value x2
  refine K.mkR ?_
  refine K.ite (fun _ => ?_) (fun _ => ?_)
  · extract_lets +onlyGivenNames -underBinder -merge -useContext x4
    have h5 : K gS 8589935164 a1 x4 := by
      refine K.step ?_ (State.setFlag_keeps _ _ _ _) rfl
      refine K.step ?_ (State.setFlag_keeps _ _ _ _) rfl
      exact h3
    clear_value x4
    refine K.ite (fun _ => ?_) (fun _ => ?_)
    · refine K.step ?_ (State.paceLoss_keeps _ _) rfl
      exact h5
    · exact h5
  · refine K.step ?_ (State.paceLoss_keeps _ _) rfl
    refine K.step ?_ (State.setFlag_keeps _ _ _ _) rfl
    refine K.step ?_ (State.setFlag_keeps _ _ _ _) rfl
    exact h3

theorem State.sysInst_keeps {w : Nat} {s : State} : ∀ a0 a1 a2 a3 a4 a5 a6 a7, K gS w s a0 → (∀ y0, K gS w s y0 → K gS w s (a7 y0)) → w &&& 8589935166 = 8589935166 → K gS w s (State.sysInst a0 a1 a2 a3 a4 a5 a6 a7) := by
  intro a0 a1 a2 a3 a4 a5 a6 a7 hs0 hs1 hw
  unfold State.sysInst
  refine State.inst_keeps _ _ _ _ ?_ ?_ (sub_trans hw rfl)
  · exact hs0
  · intro y0 h1
    extract_lets +onlyGivenNames -underBinder -merge -useContext x2
    clear_value x2
    split
    · refine K.step ?_ (State.raise_keeps _ _ _ _ _) (sub_trans hw rfl)
      exact h1
    · refine K.ite (fun _ => ?_) (fun _ => ?_)
      · refine K.step ?_ (State.raise_keeps _ _ _ _ _) (sub_trans hw rfl)
        exact h1
      · refine K.ite (fun _ => ?_) (fun _ => ?_)
        · refine K.step ?_ (State.raise_keeps _ _ _ _ _) (sub_trans hw rfl)
          exact h1
        · refine K.ite (fun _ => ?_) (fun _ => ?_)
          · refine K.step ?_ (State.raiseT_keeps _ _ _) (sub_trans hw rfl)
            exact h1
          · refine hs1 _ ?_
            exact h1

theorem State.hlt_keeps : ∀ a0 a1, K gS 8589935166 a0 (State.hlt a0 a1) := by
  intro a0 a1
  unfold State.hlt
  refine State.sysInst_keeps _ _ _ _ _ _ _ _ ?_ ?_ rfl
  · exact K.refl
  · intro y0 h1
    extract_lets +onlyGivenNames -underBinder -merge -useContext x2
    clear_value x2
    refine K.ite (fun _ => ?_) (fun _ => ?_)
    · exact h1
    · refine K.step ?_ (State.wakeHalt_keeps _ _) rfl
      refine K.step ?_ (State.modCore_keeps _ _ _) rfl
      exact h1

theorem State.s2Way_keeps : ∀ a0 a1 a2, K g2 2 a0 (State.s2Way a0 a1 a2) := by
  intro a0 a1 a2
  unfold State.s2Way
  extract_lets +onlyGivenNames -underBinder -merge -useContext x0
  clear_value x0
  extract_lets +onlyGivenNames -underBinder -merge -useContext x1
  clear_value x1
  split
  · refine K.mk2 ?_
    exact K.refl
  · split
    · refine K.mk2 ?_
      exact K.refl
    · extract_lets +onlyGivenNames -underBinder -merge -useContext x6
      clear_value x6
      extract_lets +onlyGivenNames -underBinder -merge -useContext x7
      have h8 : K g2 2 a0 x7 := by
        refine K.step ?_ (State.choose_keeps _ _) rfl
        exact K.refl
      clear_value x7
      refine K.mk2 ?_
      refine K.of2 ?_
      exact h8

theorem State.s2Install_keeps : ∀ a0 a1 a2, K gS 34 a0 (State.s2Install a0 a1 a2) := by
  intro a0 a1 a2
  unfold State.s2Install
  extract_lets +onlyGivenNames -underBinder -merge -useContext x0
  have h1 : K g2 34 a0 x0 := by
    refine K.step ?_ (State.s2Way_keeps _ _ _) rfl
    exact K.refl
  clear_value x0
  refine K.step ?_ (State.modCore_keeps _ _ _) rfl
  refine K.of2 ?_
  exact h1

theorem State.sysDone_keeps : ∀ a0 a1 a2, K gS 32 a0 (State.sysDone a0 a1 a2) := by
  intro a0 a1 a2
  unfold State.sysDone
  refine K.step ?_ (State.modCore_keeps _ _ _) rfl
  exact K.refl

theorem State.tlbWay_keeps : ∀ a0 a1 a2, K g2 2 a0 (State.tlbWay a0 a1 a2) := by
  intro a0 a1 a2
  unfold State.tlbWay
  extract_lets +onlyGivenNames -underBinder -merge -useContext x0
  clear_value x0
  extract_lets +onlyGivenNames -underBinder -merge -useContext x1
  clear_value x1
  split
  · refine K.mk2 ?_
    exact K.refl
  · split
    · refine K.mk2 ?_
      exact K.refl
    · extract_lets +onlyGivenNames -underBinder -merge -useContext x6
      clear_value x6
      extract_lets +onlyGivenNames -underBinder -merge -useContext x7
      have h8 : K g2 2 a0 x7 := by
        refine K.step ?_ (State.choose_keeps _ _) rfl
        exact K.refl
      clear_value x7
      refine K.mk2 ?_
      refine K.of2 ?_
      exact h8

theorem State.tlbInstall_keeps : ∀ a0 a1 a2, K gS 34 a0 (State.tlbInstall a0 a1 a2) := by
  intro a0 a1 a2
  unfold State.tlbInstall
  extract_lets +onlyGivenNames -underBinder -merge -useContext x0
  have h1 : K g2 34 a0 x0 := by
    refine K.step ?_ (State.tlbWay_keeps _ _ _) rfl
    exact K.refl
  clear_value x0
  refine K.step ?_ (State.modCore_keeps _ _ _) rfl
  refine K.of2 ?_
  exact h1

theorem execPauseSlack_keeps : ∀ a0 a1, K gR 8589935166 a1 (execPauseSlack a0 a1) := by
  intro a0 a1
  unfold execPauseSlack
  refine K.mkR ?_
  refine State.inst_keeps _ _ _ _ ?_ ?_ rfl
  · exact K.refl
  · intro y0 h1
    extract_lets +onlyGivenNames -underBinder -merge -useContext x2
    clear_value x2
    refine K.ite (fun _ => ?_) (fun _ => ?_)
    · exact h1
    · refine K.step ?_ (State.modCore_keeps _ _ _) rfl
      exact h1

theorem execS2w_keeps : ∀ a0 a1 a2 a3, K gR 8589935166 a3 (execS2w a0 a1 a2 a3) := by
  intro a0 a1 a2 a3
  unfold execS2w
  extract_lets +onlyGivenNames -underBinder -merge -useContext x0
  clear_value x0
  extract_lets +onlyGivenNames -underBinder -merge -useContext x1
  clear_value x1
  extract_lets +onlyGivenNames -underBinder -merge -useContext x2
  clear_value x2
  extract_lets +onlyGivenNames -underBinder -merge -useContext x3
  clear_value x3
  refine K.mkR ?_
  refine State.sysInst_keeps _ _ _ _ _ _ _ _ ?_ ?_ rfl
  · exact K.refl
  · intro y4 h5
    extract_lets +onlyGivenNames -underBinder -merge -useContext x6
    clear_value x6
    extract_lets +onlyGivenNames -underBinder -merge -useContext x7
    clear_value x7
    extract_lets +onlyGivenNames -underBinder -merge -useContext x8
    clear_value x8
    extract_lets +onlyGivenNames -underBinder -merge -useContext x9
    clear_value x9
    extract_lets +onlyGivenNames -underBinder -merge -useContext x10
    clear_value x10
    refine K.ite (fun _ => ?_) (fun _ => ?_)
    · exact h5
    · refine K.ite (fun _ => ?_) (fun _ => ?_)
      · refine K.step ?_ (State.sysDone_keeps _ _ _) rfl
        split
        · refine K.step ?_ (State.dropS2_keeps _ _ _) rfl
          exact h5
        · exact h5
      · refine K.ite (fun _ => ?_) (fun _ => ?_)
        · refine K.step ?_ (State.raise_keeps _ _ _ _ _) rfl
          exact h5
        · refine K.step ?_ (State.sysDone_keeps _ _ _) rfl
          refine K.step ?_ (State.s2Install_keeps _ _ _) rfl
          exact h5

theorem execTlbi_keeps : ∀ a0 a1 a2 a3, K gR 8589935166 a3 (execTlbi a0 a1 a2 a3) := by
  intro a0 a1 a2 a3
  unfold execTlbi
  extract_lets +onlyGivenNames -underBinder -merge -useContext x0
  clear_value x0
  extract_lets +onlyGivenNames -underBinder -merge -useContext x1
  clear_value x1
  refine K.mkR ?_
  refine State.sysInst_keeps _ _ _ _ _ _ _ _ ?_ ?_ rfl
  · exact K.refl
  · intro y2 h3
    extract_lets +onlyGivenNames -underBinder -merge -useContext x4
    clear_value x4
    refine K.ite (fun _ => ?_) (fun _ => ?_)
    · exact h3
    · refine K.step ?_ (State.sysDone_keeps _ _ _) rfl
      refine K.step ?_ (State.setCore_keeps _ _ _) rfl
      exact h3

theorem execTlbib_keeps : ∀ a0 a1 a2 a3, K gR 8589938238 a3 (execTlbib a0 a1 a2 a3) := by
  intro a0 a1 a2 a3
  unfold execTlbib
  extract_lets +onlyGivenNames -underBinder -merge -useContext x0
  clear_value x0
  extract_lets +onlyGivenNames -underBinder -merge -useContext x1
  clear_value x1
  refine K.mkR ?_
  refine State.sysInst_keeps _ _ _ _ _ _ _ _ ?_ ?_ rfl
  · exact K.refl
  · intro y2 h3
    extract_lets +onlyGivenNames -underBinder -merge -useContext x4
    clear_value x4
    refine K.ite (fun _ => ?_) (fun _ => ?_)
    · exact h3
    · extract_lets +onlyGivenNames -underBinder -merge -useContext x5
      have h6 : K g2 8589938238 a3 x5 := by
        refine K.step ?_ (State.drainN_keeps _ _ _) rfl
        exact h3
      clear_value x5
      refine K.ite (fun _ => ?_) (fun _ => ?_)
      · refine K.of2 ?_
        exact h6
      · extract_lets +onlyGivenNames -underBinder -merge -useContext x7
        clear_value x7
        extract_lets +onlyGivenNames -underBinder -merge -useContext x8
        clear_value x8
        extract_lets +onlyGivenNames -underBinder -merge -useContext x9
        have h10 : K gS 8589938238 a3 x9 := by
          refine K.step ?_ (State.modCore_keeps _ _ _) rfl
          refine K.of2 ?_
          exact h6
        clear_value x9
        refine K.step ?_ (State.sendAll_keeps _ _) rfl
        exact h10

theorem execTlbibComplete_keeps : ∀ a0 a1 a2, K gR 544 a2 (execTlbibComplete a0 a1 a2) := by
  intro a0 a1 a2
  unfold execTlbibComplete
  extract_lets +onlyGivenNames -underBinder -merge -useContext x0
  have h1 : K gS 544 a2 x0 := by
    refine K.step ?_ (State.recv_keeps _ _) rfl
    exact K.refl
  clear_value x0
  refine K.mkR ?_
  refine K.step ?_ (State.modCore_keeps _ _ _) rfl
  exact h1

theorem execTlbibReceipt_keeps : ∀ a0 a1 a2, K gR 544 a2 (execTlbibReceipt a0 a1 a2) := by
  intro a0 a1 a2
  unfold execTlbibReceipt
  extract_lets +onlyGivenNames -underBinder -merge -useContext x0
  have h1 : K gS 544 a2 x0 := by
    refine K.step ?_ (State.recv_keeps _ _) rfl
    exact K.refl
  clear_value x0
  refine K.mkR ?_
  refine K.step ?_ (State.ackTlb_keeps _ _) rfl
  refine K.step ?_ (State.modCore_keeps _ _ _) rfl
  exact h1

theorem execTlbp_keeps : ∀ a0 a1 a2 a3, K gR 8589935166 a3 (execTlbp a0 a1 a2 a3) := by
  intro a0 a1 a2 a3
  unfold execTlbp
  extract_lets +onlyGivenNames -underBinder -merge -useContext x0
  clear_value x0
  extract_lets +onlyGivenNames -underBinder -merge -useContext x1
  clear_value x1
  refine K.mkR ?_
  refine State.sysInst_keeps _ _ _ _ _ _ _ _ ?_ ?_ rfl
  · exact K.refl
  · intro y2 h3
    extract_lets +onlyGivenNames -underBinder -merge -useContext x4
    clear_value x4
    extract_lets +onlyGivenNames -underBinder -merge -useContext x5
    clear_value x5
    extract_lets +onlyGivenNames -underBinder -merge -useContext x6
    clear_value x6
    extract_lets +onlyGivenNames -underBinder -merge -useContext x7
    clear_value x7
    refine K.ite (fun _ => ?_) (fun _ => ?_)
    · exact h3
    · refine K.step ?_ (State.modCore_keeps _ _ _) rfl
      refine K.step ?_ (State.sysDone_keeps _ _ _) rfl
      exact h3

theorem execTlbw_keeps : ∀ a0 a1 a2 a3, K gR 8589935166 a3 (execTlbw a0 a1 a2 a3) := by
  intro a0 a1 a2 a3
  unfold execTlbw
  extract_lets +onlyGivenNames -underBinder -merge -useContext x0
  clear_value x0
  extract_lets +onlyGivenNames -underBinder -merge -useContext x1
  clear_value x1
  extract_lets +onlyGivenNames -underBinder -merge -useContext x2
  clear_value x2
  extract_lets +onlyGivenNames -underBinder -merge -useContext x3
  clear_value x3
  extract_lets +onlyGivenNames -underBinder -merge -useContext x4
  clear_value x4
  extract_lets +onlyGivenNames -underBinder -merge -useContext x5
  clear_value x5
  extract_lets +onlyGivenNames -underBinder -merge -useContext x6
  clear_value x6
  refine K.mkR ?_
  refine State.sysInst_keeps _ _ _ _ _ _ _ _ ?_ ?_ rfl
  · exact K.refl
  · intro y7 h8
    extract_lets +onlyGivenNames -underBinder -merge -useContext x9
    clear_value x9
    extract_lets +onlyGivenNames -underBinder -merge -useContext x10
    clear_value x10
    extract_lets +onlyGivenNames -underBinder -merge -useContext x11
    clear_value x11
    extract_lets +onlyGivenNames -underBinder -merge -useContext x12
    clear_value x12
    refine K.ite (fun _ => ?_) (fun _ => ?_)
    · exact h8
    · refine K.ite (fun _ => ?_) (fun _ => ?_)
      · refine K.step ?_ (State.sysDone_keeps _ _ _) rfl
        split
        · refine K.step ?_ (State.dropTlb_keeps _ _ _) rfl
          exact h8
        · exact h8
      · refine K.ite (fun _ => ?_) (fun _ => ?_)
        · refine K.step ?_ (State.raise_keeps _ _ _ _ _) rfl
          exact h8
        · refine K.ite (fun _ => ?_) (fun _ => ?_)
          · refine K.step ?_ (State.raiseT_keeps _ _ _) rfl
            exact h8
          · refine K.step ?_ (State.sysDone_keeps _ _ _) rfl
            refine K.step ?_ (State.tlbInstall_keeps _ _ _) rfl
            exact h8

theorem execTret_keeps : ∀ a0 a1, K gR 8589935166 a1 (execTret a0 a1) := by
  intro a0 a1
  unfold execTret
  refine K.mkR ?_
  refine State.sysInst_keeps _ _ _ _ _ _ _ _ ?_ ?_ rfl
  · exact K.refl
  · intro y0 h1
    extract_lets +onlyGivenNames -underBinder -merge -useContext x2
    clear_value x2
    refine K.ite (fun _ => ?_) (fun _ => ?_)
    · exact h1
    · extract_lets +onlyGivenNames -underBinder -merge -useContext x3
      have h4 : K g2 8589935166 a1 x3 := by
        refine K.ite (fun _ => ?_) (fun _ => ?_)
        · refine K.mk2 ?_
          exact h1
        · refine K.step ?_ (State.draw_keeps _ _) rfl
          exact h1
      clear_value x3
      split
      · refine K.step ?_ (State.raiseT_keeps _ _ _) rfl
        refine K.of2 ?_
        exact h4
      · extract_lets +onlyGivenNames -underBinder -merge -useContext x7
        clear_value x7
        extract_lets +onlyGivenNames -underBinder -merge -useContext x8
        clear_value x8
        split
        · refine K.step ?_ (State.machineCheck_keeps _ _ _ _ _ _ _) rfl
          exact h1
        · extract_lets +onlyGivenNames -underBinder -merge -useContext x11
          clear_value x11
          refine K.step ?_ (State.modCore_keeps _ _ _) rfl
          exact h1

theorem execTwp_keeps : ∀ a0 a1 a2 a3 a4 a5, K gR 8589938238 a5 (execTwp a0 a1 a2 a3 a4 a5) := by
  intro a0 a1 a2 a3 a4 a5
  unfold execTwp
  extract_lets +onlyGivenNames -underBinder -merge -useContext x0
  clear_value x0
  extract_lets +onlyGivenNames -underBinder -merge -useContext x1
  clear_value x1
  refine K.mkR ?_
  refine State.sysInst_keeps _ _ _ _ _ _ _ _ ?_ ?_ rfl
  · exact K.refl
  · intro y2 h3
    extract_lets +onlyGivenNames -underBinder -merge -useContext x4
    clear_value x4
    refine K.ite (fun _ => ?_) (fun _ => ?_)
    · exact h3
    · split
      · refine K.step ?_ (State.raiseT_keeps _ _ _) rfl
        exact h3
      · extract_lets +onlyGivenNames -underBinder -merge -useContext x7
        clear_value x7
        refine K.ite (fun _ => ?_) (fun _ => ?_)
        · exact h3
        · refine K.ite (fun _ => ?_) (fun _ => ?_)
          · refine K.step ?_ (State.raiseT_keeps _ _ _) rfl
            exact h3
          · extract_lets +onlyGivenNames -underBinder -merge -useContext x8
            have h9 : K g2 8589938238 a5 x8 := by
              refine K.step ?_ (State.drainN_keeps _ _ _) rfl
              exact h3
            clear_value x8
            refine K.ite (fun _ => ?_) (fun _ => ?_)
            · refine K.of2 ?_
              exact h9
            · extract_lets +onlyGivenNames -underBinder -merge -useContext x10
              clear_value x10
              refine K.ite (fun _ => ?_) (fun _ => ?_)
              · refine K.step ?_ (State.machineCheck_keeps _ _ _ _ _ _ _) rfl
                refine K.of2 ?_
                exact h9
              · extract_lets +onlyGivenNames -underBinder -merge -useContext x11
                have h12 : K g2 8589938238 a5 x11 := by
                  refine K.ite (fun _ => ?_) (fun _ => ?_)
                  · refine K.step ?_ (State.choose_keeps _ _) rfl
                    refine K.of2 ?_
                    exact h9
                  · refine K.mk2 ?_
                    refine K.of2 ?_
                    exact h9
                clear_value x11
                extract_lets +onlyGivenNames -underBinder -merge -useContext x13
                have h14 : K gS 8589938238 a5 x13 := by
                  refine K.step ?_ (State.modCore_keeps _ _ _) rfl
                  refine K.of2 ?_
                  exact h12
                clear_value x13
                refine K.step ?_ (State.modCore_keeps _ _ _) rfl
                exact h14

theorem State.accept_keeps : ∀ a0 a1 a2, K gS 544 a0 (State.accept a0 a1 a2) := by
  intro a0 a1 a2
  unfold State.accept
  split
  · refine K.ite (fun _ => ?_) (fun _ => ?_)
    · refine K.step ?_ (State.send_keeps _ _) rfl
      refine K.step ?_ (State.modCore_keeps _ _ _) rfl
      exact K.refl
    · exact K.refl
  · exact K.refl
  · exact K.refl

theorem execEntryComplete_keeps : ∀ a0 a1, K gR 32 a1 (execEntryComplete a0 a1) := by
  intro a0 a1
  unfold execEntryComplete
  extract_lets +onlyGivenNames -underBinder -merge -useContext x0
  clear_value x0
  refine K.mkR ?_
  split
  · exact K.refl
  · split
    · exact K.refl
    · refine K.step ?_ (State.setCore_keeps _ _ _) rfl
      exact K.refl

theorem execEntryPointOfNoReturn_keeps : ∀ a0 a1, K gR 8589938236 a1 (execEntryPointOfNoReturn a0 a1) := by
  intro a0 a1
  unfold execEntryPointOfNoReturn
  extract_lets +onlyGivenNames -underBinder -merge -useContext x0
  clear_value x0
  refine K.mkR ?_
  split
  · exact K.refl
  · refine K.ite (fun _ => ?_) (fun _ => ?_)
    · exact K.refl
    · extract_lets +onlyGivenNames -underBinder -merge -useContext x3
      clear_value x3
      extract_lets +onlyGivenNames -underBinder -merge -useContext x4
      clear_value x4
      refine K.ite (fun _ => ?_) (fun _ => ?_)
      · refine K.ite (fun _ => ?_) (fun _ => ?_)
        · refine K.step ?_ (State.checkstop_keeps _ _) rfl
          exact K.refl
        · extract_lets +onlyGivenNames -underBinder -merge -useContext x5
          have h6 : K gS 8589938236 a1 x5 := by
            refine K.step ?_ (State.modCore_keeps _ _ _) rfl
            exact K.refl
          clear_value x5
          extract_lets +onlyGivenNames -underBinder -merge -useContext x7
          clear_value x7
          refine K.step ?_ (State.takeMc_keeps _ _ _ _ _) rfl
          exact h6
      · extract_lets +onlyGivenNames -underBinder -merge -useContext x8
        clear_value x8
        extract_lets +onlyGivenNames -underBinder -merge -useContext x9
        have h10 : K gS 8589938236 a1 x9 := by
          refine K.step ?_ (State.setWords_keeps _ _ _) rfl
          refine K.step ?_ (State.accept_keeps _ _ _) rfl
          exact K.refl
        clear_value x9
        extract_lets +onlyGivenNames -underBinder -merge -useContext x11
        have h12 : K gS 8589938236 a1 x11 := by
          refine K.step ?_ (State.castTouched_keeps _ _ _ _) rfl
          exact h10
        clear_value x11
        extract_lets +onlyGivenNames -underBinder -merge -useContext x13
        clear_value x13
        extract_lets +onlyGivenNames -underBinder -merge -useContext x14
        have h15 : K gS 8589938236 a1 x14 := by
          refine K.foldl ?_ (fun y16 a17 h18 => ?_)
          · exact h12
          · refine K.step ?_ (State.performStore_keeps _ _ _) rfl
            exact h18
        clear_value x14
        refine K.step ?_ (State.modCore_keeps _ _ _) rfl
        exact h15

theorem execEntryTakeover_keeps : ∀ a0 a1, K gR 8589935136 a1 (execEntryTakeover a0 a1) := by
  intro a0 a1
  unfold execEntryTakeover
  extract_lets +onlyGivenNames -underBinder -merge -useContext x0
  clear_value x0
  refine K.mkR ?_
  split
  · exact K.refl
  · refine K.ite (fun _ => ?_) (fun _ => ?_)
    · exact K.refl
    · split
      · refine K.step ?_ (State.takeMc_keeps _ _ _ _ _) rfl
        exact K.refl
      · split
        · split
          · refine K.ite (fun _ => ?_) (fun _ => ?_)
            · refine K.step ?_ (State.setCore_keeps _ _ _) rfl
              exact K.refl
            · exact K.refl
          · exact K.refl
        · exact K.refl
        · exact K.refl

theorem execInterruptRecognition_keeps : ∀ a0 a1, K gR 8589935136 a1 (execInterruptRecognition a0 a1) := by
  intro a0 a1
  unfold execInterruptRecognition
  extract_lets +onlyGivenNames -underBinder -merge -useContext x0
  clear_value x0
  refine K.mkR ?_
  refine K.ite (fun _ => ?_) (fun _ => ?_)
  · exact K.refl
  · split
    · refine K.step ?_ (State.takeMc_keeps _ _ _ _ _) rfl
      exact K.refl
    · refine K.ite (fun _ => ?_) (fun _ => ?_)
      · refine K.step ?_ (State.raise_keeps _ _ _ _ _) rfl
        exact K.refl
      · refine K.ite (fun _ => ?_) (fun _ => ?_)
        · refine K.step ?_ (State.wakeHalt_keeps _ _) rfl
          exact K.refl
        · split
          · refine K.step ?_ (State.startEntry_keeps _ _ _) rfl
            exact K.refl
          · exact K.refl

theorem execTimerCompareReached_keeps : ∀ a0 a1 a2, K gR 32 a2 (execTimerCompareReached a0 a1 a2) := by
  intro a0 a1 a2
  unfold execTimerCompareReached
  extract_lets +onlyGivenNames -underBinder -merge -useContext x0
  clear_value x0
  refine K.mkR ?_
  refine K.ite (fun _ => ?_) (fun _ => ?_)
  · refine K.step ?_ (State.wakeHalt_keeps _ _) rfl
    exact K.refl
  · exact K.refl

end Sys2Proof.Machine
end

