-- ==== Sys2Proof/Laws/KeepsErrors.lean ====
section
/-!
SUPPORT. What each function and each command of Machine/Errors.lean, Machine/Cast.lean can change (Laws/Keeps.lean), one lemma each.
-/
namespace Sys2Proof.Machine

theorem State.setLine_keeps : ∀ a0 a1, K gS 4 a0 (State.setLine a0 a1) := by
  intro a0 a1
  unfold State.setLine
  refine K.step ?_ (State.setBit_keeps _ _ _ _) rfl
  exact K.refl

theorem State.appendRec_keeps : ∀ a0 a1, K gS 17179869188 a0 (State.appendRec a0 a1) := by
  intro a0 a1
  unfold State.appendRec
  refine K.ite (fun _ => ?_) (fun _ => ?_)
  · refine K.step ?_ (State.setLine_keeps _ _) rfl
    refine K.step ?_ (State.bump_keeps _ _ _ _) rfl
    exact K.refl
  · extract_lets +onlyGivenNames -underBinder -merge -useContext x0
    clear_value x0
    refine K.step ?_ (State.setReg_keeps _ _ _) rfl
    refine K.upd17179869184 ?_ rfl
    exact K.refl

theorem State.bucketEvent_keeps : ∀ a0 a1, K gS 17179869188 a0 (State.bucketEvent a0 a1) := by
  intro a0 a1
  unfold State.bucketEvent
  refine K.ite (fun _ => ?_) (fun _ => ?_)
  · exact K.refl
  · extract_lets +onlyGivenNames -underBinder -merge -useContext x0
    clear_value x0
    extract_lets +onlyGivenNames -underBinder -merge -useContext x1
    have h2 : K gS 17179869188 a0 x1 := by
      refine K.step ?_ (State.setFlag_keeps _ _ _ _) rfl
      refine K.step ?_ (State.bump_keeps _ _ _ _) rfl
      refine K.step ?_ (State.bump_keeps _ _ _ _) rfl
      exact K.refl
    clear_value x1
    extract_lets +onlyGivenNames -underBinder -merge -useContext x3
    clear_value x3
    refine K.ite (fun _ => ?_) (fun _ => ?_)
    · extract_lets +onlyGivenNames -underBinder -merge -useContext x4
      have h5 : K gS 17179869188 a0 x4 := by
        refine K.step ?_ (State.appendRec_keeps _ _) rfl
        refine K.step ?_ (State.setFlag_keeps _ _ _ _) rfl
        exact h2
      clear_value x4
      refine K.ite (fun _ => ?_) (fun _ => ?_)
      · refine K.step ?_ (State.setLine_keeps _ _) rfl
        exact h5
      · exact h5
    · exact h2

theorem State.foundPoison_keeps : ∀ a0 a1 a2 a3 a4, K gS 112 a0 (State.foundPoison a0 a1 a2 a3 a4) := by
  intro a0 a1 a2 a3 a4
  unfold State.foundPoison
  refine K.ite (fun _ => ?_) (fun _ => ?_)
  · exact K.refl
  · refine K.ite (fun _ => ?_) (fun _ => ?_)
    · split
      · refine K.step ?_ (State.poisonByte_keeps _ _ _) rfl
        exact K.refl
      · refine K.ite (fun _ => ?_) (fun _ => ?_)
        · refine K.step ?_ (State.poisonByte_keeps _ _ _) rfl
          exact K.refl
        · exact K.refl
      · exact K.refl
    · refine K.ite (fun _ => ?_) (fun _ => ?_)
      · split
        · refine K.step ?_ (State.modSlice_keeps _ _ _) rfl
          exact K.refl
        · refine K.ite (fun _ => ?_) (fun _ => ?_)
          · refine K.step ?_ (State.poisonByte_keeps _ _ _) rfl
            exact K.refl
          · exact K.refl
        · exact K.refl
      · exact K.refl

theorem State.ueEvent_keeps : ∀ a0 a1 a2, K gS 4 a0 (State.ueEvent a0 a1 a2) := by
  intro a0 a1 a2
  unfold State.ueEvent
  extract_lets +onlyGivenNames -underBinder -merge -useContext x0
  clear_value x0
  extract_lets +onlyGivenNames -underBinder -merge -useContext x1
  have h2 : K gS 4 a0 x1 := by
    refine K.step ?_ (State.bump_keeps _ _ _ _) rfl
    exact K.refl
  clear_value x1
  refine K.ite (fun _ => ?_) (fun _ => ?_)
  · refine K.step ?_ (State.setFlag_keeps _ _ _ _) rfl
    exact h2
  · extract_lets +onlyGivenNames -underBinder -merge -useContext x3
    clear_value x3
    extract_lets +onlyGivenNames -underBinder -merge -useContext x4
    clear_value x4
    refine K.step ?_ (State.setReg_keeps _ _ _) rfl
    refine K.step ?_ (State.setReg_keeps _ _ _) rfl
    refine K.step ?_ (State.setReg_keeps _ _ _) rfl
    exact h2

theorem State.sevEvent_keeps : ∀ a0 a1 a2, K gS 17179869188 a0 (State.sevEvent a0 a1 a2) := by
  intro a0 a1 a2
  unfold State.sevEvent
  extract_lets +onlyGivenNames -underBinder -merge -useContext x0
  have h1 : K gS 17179869188 a0 x0 := by
    refine K.ite (fun _ => ?_) (fun _ => ?_)
    · refine K.step ?_ (State.setFlag_keeps _ _ _ _) rfl
      exact K.refl
    · refine K.ite (fun _ => ?_) (fun _ => ?_)
      · exact K.refl
      · refine K.ite (fun _ => ?_) (fun _ => ?_)
        · refine K.step ?_ (State.bump_keeps _ _ _ _) rfl
          exact K.refl
        · refine K.step ?_ (State.ueEvent_keeps _ _ _) rfl
          exact K.refl
  clear_value x0
  extract_lets +onlyGivenNames -underBinder -merge -useContext x2
  have h3 : K gS 17179869188 a0 x2 := by
    refine K.step ?_ (State.appendRec_keeps _ _) rfl
    exact h1
  clear_value x2
  split
  · refine K.step ?_ (State.setLine_keeps _ _) rfl
    exact h3
  · exact h3

theorem State.recordEvent_keeps : ∀ a0 a1, K gS 17179869188 a0 (State.recordEvent a0 a1) := by
  intro a0 a1
  unfold State.recordEvent
  split
  · refine K.step ?_ (State.bucketEvent_keeps _ _) rfl
    exact K.refl
  · refine K.step ?_ (State.sevEvent_keeps _ _ _) rfl
    exact K.refl

theorem execBucketLeak_keeps : ∀ a0 a1 a2, K gR 4 a2 (execBucketLeak a0 a1 a2) := by
  intro a0 a1 a2
  unfold execBucketLeak
  refine K.mkR ?_
  refine K.ite (fun _ => ?_) (fun _ => ?_)
  · extract_lets +onlyGivenNames -underBinder -merge -useContext x0
    clear_value x0
    refine K.step ?_ (State.setFld_keeps _ _ _ _) rfl
    exact K.refl
  · exact K.refl

theorem execErrInjArm_keeps : ∀ a0 a1, K gR 4 a1 (execErrInjArm a0 a1) := by
  intro a0 a1
  unfold execErrInjArm
  extract_lets +onlyGivenNames -underBinder -merge -useContext x0
  clear_value x0
  refine K.mkR ?_
  split
  · refine K.step ?_ (State.setFld_keeps _ _ _ _) rfl
    refine K.step ?_ (State.setFlag_keeps _ _ _ _) rfl
    exact K.refl
  · refine K.step ?_ (State.setFld_keeps _ _ _ _) rfl
    refine K.step ?_ (State.setFlag_keeps _ _ _ _) rfl
    refine K.step ?_ (State.setFlag_keeps _ _ _ _) rfl
    refine K.step ?_ (State.writeReg_keeps _ _ _ _) rfl
    exact K.refl

theorem execErrInjCancel_keeps : ∀ a0, K gR 4 a0 (execErrInjCancel a0) := by
  intro a0
  unfold execErrInjCancel
  refine K.mkR ?_
  refine K.step ?_ (State.disarm_keeps _) rfl
  exact K.refl

theorem execErrLogtailWrite_keeps : ∀ a0 a1, K gR 4 a1 (execErrLogtailWrite a0 a1) := by
  intro a0 a1
  unfold execErrLogtailWrite
  extract_lets +onlyGivenNames -underBinder -merge -useContext x0
  clear_value x0
  extract_lets +onlyGivenNames -underBinder -merge -useContext x1
  clear_value x1
  refine K.mkR ?_
  refine K.ite (fun _ => ?_) (fun _ => ?_)
  · refine K.step ?_ (State.setReg_keeps _ _ _) rfl
    exact K.refl
  · exact K.refl

theorem execErrorRecord_keeps : ∀ a0 a1, K gR 25769803892 a1 (execErrorRecord a0 a1) := by
  intro a0 a1
  unfold execErrorRecord
  refine K.mkR ?_
  split
  · split
    · exact K.refl
    · refine K.ite (fun _ => ?_) (fun _ => ?_)
      · exact K.refl
      · refine K.step ?_ (State.recordEvent_keeps _ _) rfl
        refine K.upd8589934592 ?_ rfl
        exact K.refl
  · refine K.ite (fun _ => ?_) (fun _ => ?_)
    · refine K.step ?_ (State.recordEvent_keeps _ _) rfl
      refine K.step ?_ (State.foundPoison_keeps _ _ _ _ _) rfl
      exact K.refl
    · exact K.refl

theorem execSelfTestComplete_keeps : ∀ a0 a1, K gR 8589934596 a1 (execSelfTestComplete a0 a1) := by
  intro a0 a1
  unfold execSelfTestComplete
  extract_lets +onlyGivenNames -underBinder -merge -useContext x0
  clear_value x0
  extract_lets +onlyGivenNames -underBinder -merge -useContext x1
  clear_value x1
  refine K.mkR ?_
  refine K.ite (fun _ => ?_) (fun _ => ?_)
  · extract_lets +onlyGivenNames -underBinder -merge -useContext x2
    have h3 : K gS 8589934596 a1 x2 := by
      refine K.step ?_ (State.setFlag_keeps _ _ _ _) rfl
      refine K.step ?_ (State.setFlag_keeps _ _ _ _) rfl
      exact K.refl
    clear_value x2
    split
    · refine K.step ?_ (State.setFlag_keeps _ _ _ _) rfl
      refine K.step ?_ (State.setFlag_keeps _ _ _ _) rfl
      exact h3
    · refine K.step ?_ (State.detect_keeps _ _) rfl
      refine K.step ?_ (State.setFlag_keeps _ _ _ _) rfl
      exact h3
  · exact K.refl

theorem execSelfTestGo_keeps : ∀ a0 a1, K gR 4 a1 (execSelfTestGo a0 a1) := by
  intro a0 a1
  unfold execSelfTestGo
  extract_lets +onlyGivenNames -underBinder -merge -useContext x0
  clear_value x0
  refine K.mkR ?_
  refine K.ite (fun _ => ?_) (fun _ => ?_)
  · refine K.step ?_ (State.setFlag_keeps _ _ _ _) rfl
    exact K.refl
  · refine K.step ?_ (State.setFlag_keeps _ _ _ _) rfl
    refine K.step ?_ (State.setFld_keeps _ _ _ _) rfl
    exact K.refl

theorem State.emptyL2Ways_keeps : ∀ a0 a1 a2 a3, K gS 126 a0 (State.emptyL2Ways a0 a1 a2 a3) := by
  intro a0 a1 a2 a3
  unfold State.emptyL2Ways
  refine K.foldl ?_ (fun y0 a1 h2 => ?_)
  · exact K.refl
  · refine K.step ?_ (State.modCore_keeps _ _ _) rfl
    refine K.step ?_ (State.flushLine_keeps _ _ _ _) rfl
    exact h2

theorem State.emptySliceWays_keeps : ∀ a0 a1 a2 a3, K gS 92 a0 (State.emptySliceWays a0 a1 a2 a3) := by
  intro a0 a1 a2 a3
  unfold State.emptySliceWays
  refine K.foldl ?_ (fun y0 a1 h2 => ?_)
  · exact K.refl
  · split
    · refine K.ite (fun _ => ?_) (fun _ => ?_)
      · refine K.step ?_ (State.sliceDrop_keeps _ _ _ _) rfl
        exact h2
      · exact h2
    · exact h2

theorem State.mntDone_keeps : ∀ a0 a1 a2 a3, K gS 4 a0 (State.mntDone a0 a1 a2 a3) := by
  intro a0 a1 a2 a3
  unfold State.mntDone
  refine K.step ?_ (State.bump_keeps _ _ _ _) rfl
  refine K.step ?_ (State.setFld_keeps _ _ _ _) rfl
  refine K.step ?_ (State.setFlag_keeps _ _ _ _) rfl
  exact K.refl

theorem State.mntError_keeps : ∀ a0 a1 a2 a3 a4 a5, K gS 4 a0 (State.mntError a0 a1 a2 a3 a4 a5) := by
  intro a0 a1 a2 a3 a4 a5
  unfold State.mntError
  extract_lets +onlyGivenNames -underBinder -merge -useContext x0
  clear_value x0
  refine K.ite (fun _ => ?_) (fun _ => ?_)
  · exact K.refl
  · refine K.step ?_ (State.setReg_keeps _ _ _) rfl
    refine K.step ?_ (State.setFld_keeps _ _ _ _) rfl
    refine K.step ?_ (State.setFld_keeps _ _ _ _) rfl
    refine K.step ?_ (State.setFlag_keeps _ _ _ _) rfl
    exact K.refl

theorem mntZeroLine_keeps {w : Nat} {s : State} : ∀ a0 a1 a2, K gM w s a1 → w &&& 124 = 124 → K gM w s (mntZeroLine a0 a1 a2) := by
  intro a0 a1 a2 hs0 hw
  unfold mntZeroLine
  refine K.ite (fun _ => ?_) (fun _ => ?_)
  · exact hs0
  · refine K.ite (fun _ => ?_) (fun _ => ?_)
    · refine K.mkM ?_
      refine K.ofM ?_
      exact hs0
    · refine K.mkM ?_
      refine K.step ?_ (State.countWb_keeps _ _) (sub_trans hw rfl)
      refine K.step ?_ (State.dramWrite_keeps _ _ _ _) (sub_trans hw rfl)
      refine K.step ?_ (State.modSlice_keeps _ _ _) (sub_trans hw rfl)
      refine K.step ?_ (State.purge_keeps _ _) (sub_trans hw rfl)
      refine K.ofM ?_
      exact hs0

theorem mntL2Line_keeps {w : Nat} {s : State} : ∀ a0 a1 a2 a3 a4, K gM w s a2 → w &&& 126 = 126 → K gM w s (mntL2Line a0 a1 a2 a3 a4) := by
  intro a0 a1 a2 a3 a4 hs0 hw
  unfold mntL2Line
  extract_lets +onlyGivenNames -underBinder -merge -useContext x0
  have h1 : K gS w s x0 := by
    refine K.ofM ?_
    exact hs0
  clear_value x0
  extract_lets +onlyGivenNames -underBinder -merge -useContext x2
  clear_value x2
  refine K.ite (fun _ => ?_) (fun _ => ?_)
  · exact hs0
  · refine K.ite (fun _ => ?_) (fun _ => ?_)
    · refine K.mkM ?_
      refine K.ofM ?_
      exact hs0
    · extract_lets +onlyGivenNames -underBinder -merge -useContext x3
      have h4 : K gS w s x3 := by
        refine K.ite (fun _ => ?_) (fun _ => ?_)
        · refine K.step ?_ (State.modCore_keeps _ _ _) (sub_trans hw rfl)
          refine K.step ?_ (State.sliceFill_keeps _ _ _ _ _ _ _) (sub_trans hw rfl)
          exact h1
        · exact h1
      clear_value x3
      extract_lets +onlyGivenNames -underBinder -merge -useContext x5
      have h6 : K gS w s x5 := by
        refine K.ite (fun _ => ?_) (fun _ => ?_)
        · refine K.step ?_ (State.modCore_keeps _ _ _) (sub_trans hw rfl)
          refine K.step ?_ (State.flushLine_keeps _ _ _ _) (sub_trans hw rfl)
          exact h4
        · exact h4
      clear_value x5
      refine K.mkM ?_
      exact h6

theorem mntHomeLine_keeps {w : Nat} {s : State} : ∀ a0 a1 a2 a3 a4, K gM w s a3 → w &&& 124 = 124 → K gM w s (mntHomeLine a0 a1 a2 a3 a4) := by
  intro a0 a1 a2 a3 a4 hs0 hw
  unfold mntHomeLine
  extract_lets +onlyGivenNames -underBinder -merge -useContext x0
  have h1 : K gS w s x0 := by
    refine K.ofM ?_
    exact hs0
  clear_value x0
  extract_lets +onlyGivenNames -underBinder -merge -useContext x2
  clear_value x2
  refine K.ite (fun _ => ?_) (fun _ => ?_)
  · exact hs0
  · extract_lets +onlyGivenNames -underBinder -merge -useContext x3
    clear_value x3
    extract_lets +onlyGivenNames -underBinder -merge -useContext x4
    clear_value x4
    refine K.ite (fun _ => ?_) (fun _ => ?_)
    · refine K.mkM ?_
      refine K.ofM ?_
      exact hs0
    · extract_lets +onlyGivenNames -underBinder -merge -useContext x5
      have h6 : K gS w s x5 := by
        refine K.step ?_ (State.mapCores_keeps _ _) (sub_trans hw rfl)
        exact h1
      clear_value x5
      extract_lets +onlyGivenNames -underBinder -merge -useContext x7
      have h8 : K gS w s x7 := by
        refine K.step ?_ (State.modSlice_keeps _ _ _) (sub_trans hw rfl)
        exact h6
      clear_value x7
      extract_lets +onlyGivenNames -underBinder -merge -useContext x9
      have h10 : K gS w s x9 := by
        refine K.ite (fun _ => ?_) (fun _ => ?_)
        · refine K.step ?_ (State.countWb_keeps _ _) (sub_trans hw rfl)
          refine K.step ?_ (State.dramWrite_keeps _ _ _ _) (sub_trans hw rfl)
          exact h8
        · exact h1
      clear_value x9
      extract_lets +onlyGivenNames -underBinder -merge -useContext x11
      have h12 : K gS w s x11 := by
        refine K.ite (fun _ => ?_) (fun _ => ?_)
        · refine K.step ?_ (State.modSlice_keeps _ _ _) (sub_trans hw rfl)
          refine K.step ?_ (State.purge_keeps _ _) (sub_trans hw rfl)
          exact h10
        · exact h10
      clear_value x11
      refine K.mkM ?_
      exact h12

theorem State.mntRun_keeps : ∀ a0 a1 a2 a3 a4 a5, K gM 126 a0 (State.mntRun a0 a1 a2 a3 a4 a5) := by
  intro a0 a1 a2 a3 a4 a5
  unfold State.mntRun
  extract_lets +onlyGivenNames -underBinder -merge -useContext x0
  clear_value x0
  extract_lets +onlyGivenNames -underBinder -merge -useContext x1
  clear_value x1
  split
  · refine K.ite (fun _ => ?_) (fun _ => ?_)
    · refine K.ite (fun _ => ?_) (fun _ => ?_)
      · refine K.foldlM ?_ (fun y3 a4 h5 => ?_)
        · refine K.mkM ?_
          exact K.refl
        · refine mntZeroLine_keeps _ _ _ ?_ rfl
          exact h5
      · refine K.foldlM ?_ (fun y6 a7 h8 => ?_)
        · refine K.mkM ?_
          exact K.refl
        · refine mntHomeLine_keeps _ _ _ _ _ ?_ rfl
          exact h8
    · refine K.foldlM ?_ (fun y9 a10 h11 => ?_)
      · refine K.mkM ?_
        exact K.refl
      · refine mntL2Line_keeps _ _ _ _ _ ?_ rfl
        refine mntL2Line_keeps _ _ _ _ _ ?_ rfl
        exact h11
  · refine K.ite (fun _ => ?_) (fun _ => ?_)
    · refine K.mkM ?_
      refine K.step ?_ (State.castTouched_keeps _ _ _ _) rfl
      refine K.step ?_ (State.zeroRange_keeps _ _ _) rfl
      exact K.refl
    · refine K.mkM ?_
      exact K.refl

theorem State.setMntQ_keeps : ∀ a0 a1 a2 a3, K gS 196 a0 (State.setMntQ a0 a1 a2 a3) := by
  intro a0 a1 a2 a3
  unfold State.setMntQ
  extract_lets +onlyGivenNames -underBinder -merge -useContext x0
  have h1 : K gS 196 a0 x0 := by
    refine K.ite (fun _ => ?_) (fun _ => ?_)
    · refine K.step ?_ (State.modSlice_keeps _ _ _) rfl
      exact K.refl
    · refine K.upd128 ?_ rfl
      exact K.refl
  clear_value x0
  refine K.step ?_ (State.setFld_keeps _ _ _ _) rfl
  refine K.step ?_ (State.setFlag_keeps _ _ _ _) rfl
  exact h1

theorem State.mntSubmit_keeps : ∀ a0 a1 a2 a3 a4, K gS 196 a0 (State.mntSubmit a0 a1 a2 a3 a4) := by
  intro a0 a1 a2 a3 a4
  unfold State.mntSubmit
  extract_lets +onlyGivenNames -underBinder -merge -useContext x0
  clear_value x0
  extract_lets +onlyGivenNames -underBinder -merge -useContext x1
  clear_value x1
  extract_lets +onlyGivenNames -underBinder -merge -useContext x2
  clear_value x2
  refine K.ite (fun _ => ?_) (fun _ => ?_)
  · exact K.refl
  · refine K.ite (fun _ => ?_) (fun _ => ?_)
    · refine K.step ?_ (State.mntError_keeps _ _ _ _ _ _) rfl
      exact K.refl
    · refine K.ite (fun _ => ?_) (fun _ => ?_)
      · refine K.step ?_ (State.mntDone_keeps _ _ _ _) rfl
        exact K.refl
      · refine K.ite (fun _ => ?_) (fun _ => ?_)
        · refine K.step ?_ (State.mntError_keeps _ _ _ _ _ _) rfl
          exact K.refl
        · refine K.ite (fun _ => ?_) (fun _ => ?_)
          · refine K.step ?_ (State.setFlag_keeps _ _ _ _) rfl
            exact K.refl
          · refine K.step ?_ (State.setMntQ_keeps _ _ _ _) rfl
            exact K.refl

theorem execCastChangeComplete_keeps : ∀ a0 a1, K gR 126 a1 (execCastChangeComplete a0 a1) := by
  intro a0 a1
  unfold execCastChangeComplete
  extract_lets +onlyGivenNames -underBinder -merge -useContext x0
  clear_value x0
  extract_lets +onlyGivenNames -underBinder -merge -useContext x1
  clear_value x1
  extract_lets +onlyGivenNames -underBinder -merge -useContext x2
  clear_value x2
  refine K.mkR ?_
  refine K.ite (fun _ => ?_) (fun _ => ?_)
  · extract_lets +onlyGivenNames -underBinder -merge -useContext x3
    have h4 : K gS 126 a1 x3 := by
      refine K.ite (fun _ => ?_) (fun _ => ?_)
      · split
        · refine K.step ?_ (State.emptyL2Ways_keeps _ _ _ _) rfl
          exact K.refl
        · refine K.step ?_ (State.emptyL2Ways_keeps _ _ _ _) rfl
          exact K.refl
        · refine K.step ?_ (State.emptySliceWays_keeps _ _ _ _) rfl
          exact K.refl
      · exact K.refl
    clear_value x3
    extract_lets +onlyGivenNames -underBinder -merge -useContext x8
    have h9 : K gS 126 a1 x8 := by
      refine K.step ?_ (State.zeroRange_keeps _ _ _) rfl
      exact h4
    clear_value x8
    refine K.step ?_ (State.setFlag_keeps _ _ _ _) rfl
    refine K.step ?_ (State.setFld_keeps _ _ _ _) rfl
    exact h9
  · exact K.refl

theorem execCastCountWrite_keeps : ∀ a0 a1 a2, K gR 4 a2 (execCastCountWrite a0 a1 a2) := by
  intro a0 a1 a2
  unfold execCastCountWrite
  extract_lets +onlyGivenNames -underBinder -merge -useContext x0
  clear_value x0
  extract_lets +onlyGivenNames -underBinder -merge -useContext x1
  clear_value x1
  refine K.mkR ?_
  refine K.ite (fun _ => ?_) (fun _ => ?_)
  · exact K.refl
  · extract_lets +onlyGivenNames -underBinder -merge -useContext x2
    have h3 : K gS 4 a2 x2 := by
      refine K.ite (fun _ => ?_) (fun _ => ?_)
      · refine K.step ?_ (State.setFlag_keeps _ _ _ _) rfl
        exact K.refl
      · exact K.refl
    clear_value x2
    refine K.ite (fun _ => ?_) (fun _ => ?_)
    · exact h3
    · split
      · refine K.step ?_ (State.setFld_keeps _ _ _ _) rfl
        refine K.step ?_ (State.setFlag_keeps _ _ _ _) rfl
        exact h3
      · refine K.step ?_ (State.setFlag_keeps _ _ _ _) rfl
        refine K.step ?_ (State.setFld_keeps _ _ _ _) rfl
        exact h3

theorem execMntClean_keeps : ∀ a0 a1 a2 a3, K gR 196 a3 (execMntClean a0 a1 a2 a3) := by
  intro a0 a1 a2 a3
  unfold execMntClean
  refine K.mkR ?_
  refine K.step ?_ (State.mntSubmit_keeps _ _ _ _ _) rfl
  exact K.refl

theorem execMntCleanAndInvalidate_keeps : ∀ a0 a1 a2 a3, K gR 196 a3 (execMntCleanAndInvalidate a0 a1 a2 a3) := by
  intro a0 a1 a2 a3
  unfold execMntCleanAndInvalidate
  refine K.mkR ?_
  refine K.step ?_ (State.mntSubmit_keeps _ _ _ _ _) rfl
  exact K.refl

theorem execMntInvalidate_keeps : ∀ a0 a1 a2 a3, K gR 196 a3 (execMntInvalidate a0 a1 a2 a3) := by
  intro a0 a1 a2 a3
  unfold execMntInvalidate
  refine K.mkR ?_
  refine K.step ?_ (State.mntSubmit_keeps _ _ _ _ _) rfl
  exact K.refl

theorem execMntRequestComplete_keeps : ∀ a0 a1 a2, K gR 254 a2 (execMntRequestComplete a0 a1 a2) := by
  intro a0 a1 a2
  unfold execMntRequestComplete
  refine K.mkR ?_
  split
  · exact K.refl
  · extract_lets +onlyGivenNames -underBinder -merge -useContext x2
    clear_value x2
    extract_lets +onlyGivenNames -underBinder -merge -useContext x3
    clear_value x3
    extract_lets +onlyGivenNames -underBinder -merge -useContext x4
    clear_value x4
    extract_lets +onlyGivenNames -underBinder -merge -useContext x5
    have h6 : K gM 254 a2 x5 := by
      refine K.step ?_ (State.mntRun_keeps _ _ _ _ _ _) rfl
      exact K.refl
    clear_value x5
    extract_lets +onlyGivenNames -underBinder -merge -useContext x7
    have h8 : K gS 254 a2 x7 := by
      dsimp -zeta only [x7]
      split
      · refine K.step ?_ (State.mntError_keeps _ _ _ _ _ _) rfl
        refine K.ofM ?_
        exact h6
      · refine K.ite (fun _ => ?_) (fun _ => ?_)
        · refine K.step ?_ (State.mntError_keeps _ _ _ _ _ _) rfl
          refine K.ofM ?_
          exact h6
        · split
          · refine K.step ?_ (State.mntError_keeps _ _ _ _ _ _) rfl
            refine K.ofM ?_
            exact h6
          · refine K.ofM ?_
            exact h6
    clear_value x7
    refine K.step ?_ (State.mntDone_keeps _ _ _ _) rfl
    refine K.step ?_ (State.setMntQ_keeps _ _ _ _) rfl
    exact h8

theorem execMntZero_keeps : ∀ a0 a1 a2 a3, K gR 196 a3 (execMntZero a0 a1 a2 a3) := by
  intro a0 a1 a2 a3
  unfold execMntZero
  refine K.mkR ?_
  refine K.step ?_ (State.mntSubmit_keeps _ _ _ _ _) rfl
  exact K.refl

end Sys2Proof.Machine
end

