-- ==== Sys2Proof/Laws/KeepsHome.lean ====
section
/-!
SUPPORT. What each function and each command of Machine/Home.lean, Machine/Wake.lean can change (Laws/Keeps.lean), one lemma each.
-/
namespace Sys2Proof.Machine

theorem State.snoop_keeps : ∀ a0 a1 a2 a3 a4 a5, K gS 512 a0 (State.snoop a0 a1 a2 a3 a4 a5) := by
  intro a0 a1 a2 a3 a4 a5
  unfold State.snoop
  refine K.ite (fun _ => ?_) (fun _ => ?_)
  · refine K.step ?_ (State.send_keeps _ _) rfl
    exact K.refl
  · refine K.step ?_ (State.send_keeps _ _) rfl
    exact K.refl

theorem State.snoopAll_keeps : ∀ a0 a1 a2 a3 a4 a5, K gS 512 a0 (State.snoopAll a0 a1 a2 a3 a4 a5) := by
  intro a0 a1 a2 a3 a4 a5
  unfold State.snoopAll
  refine K.foldl ?_ (fun y0 a1 h2 => ?_)
  · exact K.refl
  · refine K.step ?_ (State.snoop_keeps _ _ _ _ _ _) rfl
    exact h2

theorem State.openDev_keeps : ∀ a0 a1 a2 a3 a4, K gS 576 a0 (State.openDev a0 a1 a2 a3 a4) := by
  intro a0 a1 a2 a3 a4
  unfold State.openDev
  split
  · refine K.step ?_ (State.modSlice_keeps _ _ _) rfl
    exact K.refl
  · extract_lets +onlyGivenNames -underBinder -merge -useContext x2
    clear_value x2
    refine K.ite (fun _ => ?_) (fun _ => ?_)
    · extract_lets +onlyGivenNames -underBinder -merge -useContext x3
      clear_value x3
      refine K.step ?_ (State.snoopAll_keeps _ _ _ _ _ _) rfl
      refine K.step ?_ (State.modSlice_keeps _ _ _) rfl
      exact K.refl
    · refine K.ite (fun _ => ?_) (fun _ => ?_)
      · refine K.step ?_ (State.snoopAll_keeps _ _ _ _ _ _) rfl
        refine K.step ?_ (State.modSlice_keeps _ _ _) rfl
        exact K.refl
      · refine K.step ?_ (State.modSlice_keeps _ _ _) rfl
        exact K.refl

theorem State.openHeld_keeps : ∀ a0 a1 a2 a3 a4 a5 a6 a7, K gS 576 a0 (State.openHeld a0 a1 a2 a3 a4 a5 a6 a7) := by
  intro a0 a1 a2 a3 a4 a5 a6 a7
  unfold State.openHeld
  extract_lets +onlyGivenNames -underBinder -merge -useContext x0
  clear_value x0
  extract_lets +onlyGivenNames -underBinder -merge -useContext x1
  clear_value x1
  extract_lets +onlyGivenNames -underBinder -merge -useContext x2
  have h3 : ∀ y4 y5 y6, K gS 576 a0 y6 → K gS 576 a0 (x2 y4 y5 y6) := by
    intro y4 y5 y6 h7
    dsimp -zeta only [x2]
    refine K.step ?_ (State.modSlice_keeps _ _ _) rfl
    exact h7
  clear_value x2
  refine K.ite (fun _ => ?_) (fun _ => ?_)
  · split
    · refine K.ite (fun _ => ?_) (fun _ => ?_)
      · refine K.step ?_ (State.snoop_keeps _ _ _ _ _ _) rfl
        refine h3 _ _ _ ?_
        exact K.refl
      · refine K.step ?_ (State.snoop_keeps _ _ _ _ _ _) rfl
        refine h3 _ _ _ ?_
        exact K.refl
    · refine h3 _ _ _ ?_
      exact K.refl
  · extract_lets +onlyGivenNames -underBinder -merge -useContext x10
    clear_value x10
    split
    · extract_lets +onlyGivenNames -underBinder -merge -useContext x12
      clear_value x12
      split
      · refine K.step ?_ (State.snoop_keeps _ _ _ _ _ _) rfl
        refine h3 _ _ _ ?_
        exact K.refl
      · refine h3 _ _ _ ?_
        exact K.refl
    · extract_lets +onlyGivenNames -underBinder -merge -useContext x16
      clear_value x16
      refine K.ite (fun _ => ?_) (fun _ => ?_)
      · refine K.step ?_ (State.snoopAll_keeps _ _ _ _ _ _) rfl
        refine h3 _ _ _ ?_
        exact K.refl
      · split
        · extract_lets +onlyGivenNames -underBinder -merge -useContext x18
          clear_value x18
          refine K.step ?_ (State.snoop_keeps _ _ _ _ _ _) rfl
          refine K.step ?_ (State.snoopAll_keeps _ _ _ _ _ _) rfl
          refine h3 _ _ _ ?_
          exact K.refl
        · refine K.step ?_ (State.snoopAll_keeps _ _ _ _ _ _) rfl
          refine h3 _ _ _ ?_
          exact K.refl

theorem State.refuseReq_keeps : ∀ a0 a1 a2 a3, K gS 580 a0 (State.refuseReq a0 a1 a2 a3) := by
  intro a0 a1 a2 a3
  unfold State.refuseReq
  split
  · extract_lets +onlyGivenNames -underBinder -merge -useContext x1
    clear_value x1
    refine K.ite (fun _ => ?_) (fun _ => ?_)
    · extract_lets +onlyGivenNames -underBinder -merge -useContext x2
      clear_value x2
      refine K.step ?_ (State.setSlice_keeps _ _ _) rfl
      exact K.refl
    · refine K.step ?_ (State.bump_keeps _ _ _ _) rfl
      refine K.step ?_ (State.send_keeps _ _) rfl
      exact K.refl
  · exact K.refl
  · exact K.refl

theorem State.openFresh_keeps : ∀ a0 a1 a2 a3 a4, K gS 64 a0 (State.openFresh a0 a1 a2 a3 a4) := by
  intro a0 a1 a2 a3 a4
  unfold State.openFresh
  split
  · refine K.step ?_ (State.modSlice_keeps _ _ _) rfl
    exact K.refl
  · exact K.refl
  · exact K.refl

theorem State.victimise_keeps : ∀ a0 a1 a2 a3 a4, K gS 580 a0 (State.victimise a0 a1 a2 a3 a4) := by
  intro a0 a1 a2 a3 a4
  unfold State.victimise
  split
  · refine K.step ?_ (State.openFresh_keeps _ _ _ _ _) rfl
    exact K.refl
  · extract_lets +onlyGivenNames -underBinder -merge -useContext x2
    clear_value x2
    extract_lets +onlyGivenNames -underBinder -merge -useContext x3
    clear_value x3
    extract_lets +onlyGivenNames -underBinder -merge -useContext x4
    clear_value x4
    extract_lets +onlyGivenNames -underBinder -merge -useContext x5
    have h6 : K gS 580 a0 x5 := by
      refine K.step ?_ (State.bump_keeps _ _ _ _) rfl
      refine K.step ?_ (State.modSlice_keeps _ _ _) rfl
      exact K.refl
    clear_value x5
    refine K.step ?_ (State.snoopAll_keeps _ _ _ _ _ _) rfl
    exact h6

theorem State.openNew_keeps : ∀ a0 a1 a2 a3, K gS 582 a0 (State.openNew a0 a1 a2 a3) := by
  intro a0 a1 a2 a3
  unfold State.openNew
  extract_lets +onlyGivenNames -underBinder -merge -useContext x0
  clear_value x0
  extract_lets +onlyGivenNames -underBinder -merge -useContext x1
  clear_value x1
  split
  · refine K.step ?_ (State.openFresh_keeps _ _ _ _ _) rfl
    exact K.refl
  · extract_lets +onlyGivenNames -underBinder -merge -useContext x4
    clear_value x4
    refine K.ite (fun _ => ?_) (fun _ => ?_)
    · refine K.step ?_ (State.refuseReq_keeps _ _ _ _) rfl
      exact K.refl
    · extract_lets +onlyGivenNames -underBinder -merge -useContext x5
      have h6 : K g2 582 a0 x5 := by
        refine K.step ?_ (State.choose_keeps _ _) rfl
        exact K.refl
      clear_value x5
      refine K.step ?_ (State.victimise_keeps _ _ _ _ _) rfl
      refine K.of2 ?_
      exact h6

theorem State.openBcast_keeps : ∀ a0 a1 a2 a3, K gS 580 a0 (State.openBcast a0 a1 a2 a3) := by
  intro a0 a1 a2 a3
  unfold State.openBcast
  extract_lets +onlyGivenNames -underBinder -merge -useContext x0
  clear_value x0
  extract_lets +onlyGivenNames -underBinder -merge -useContext x1
  have h2 : ∀ y3 y4 y5 y6, K gS 580 a0 (x1 y3 y4 y5 y6) := by
    intro y3 y4 y5 y6
    dsimp -zeta only [x1]
    refine K.step ?_ (State.bump_keeps _ _ _ _) rfl
    refine K.step ?_ (State.snoopAll_keeps _ _ _ _ _ _) rfl
    refine K.step ?_ (State.modSlice_keeps _ _ _) rfl
    exact K.refl
  clear_value x1
  split
  · exact h2 _ _ _ _
  · exact h2 _ _ _ _
  · exact h2 _ _ _ _

theorem State.openReq_keeps : ∀ a0 a1 a2 a3, K gS 582 a0 (State.openReq a0 a1 a2 a3) := by
  intro a0 a1 a2 a3
  unfold State.openReq
  extract_lets +onlyGivenNames -underBinder -merge -useContext x0
  clear_value x0
  extract_lets +onlyGivenNames -underBinder -merge -useContext x1
  clear_value x1
  refine K.ite (fun _ => ?_) (fun _ => ?_)
  · refine K.step ?_ (State.openBcast_keeps _ _ _ _) rfl
    exact K.refl
  · split
    · split
      · refine K.step ?_ (State.openHeld_keeps _ _ _ _ _ _ _ _) rfl
        exact K.refl
      · refine K.step ?_ (State.openNew_keeps _ _ _ _) rfl
        exact K.refl
    · refine K.step ?_ (State.openDev_keeps _ _ _ _ _) rfl
      exact K.refl
    · refine K.step ?_ (State.openDev_keeps _ _ _ _ _) rfl
      exact K.refl

theorem State.servePromo_keeps : ∀ a0 a1 a2, K gO2 582 a0 (State.servePromo a0 a1 a2) := by
  intro a0 a1 a2
  unfold State.servePromo
  extract_lets +onlyGivenNames -underBinder -merge -useContext x0
  clear_value x0
  refine K.ite (fun _ => ?_) (fun _ => ?_)
  · exact K.noneO2
  · split
    · exact K.noneO2
    · extract_lets +onlyGivenNames -underBinder -merge -useContext x3
      clear_value x3
      extract_lets +onlyGivenNames -underBinder -merge -useContext x4
      clear_value x4
      extract_lets +onlyGivenNames -underBinder -merge -useContext x5
      have h6 : K gS 582 a0 x5 := by
        refine K.step ?_ (State.bump_keeps _ _ _ _) rfl
        refine K.step ?_ (State.setSlice_keeps _ _ _) rfl
        exact K.refl
      clear_value x5
      refine K.ite (fun _ => ?_) (fun _ => ?_)
      · refine K.mkO2 ?_
        refine K.mk2 ?_
        refine K.step ?_ (State.modSlice_keeps _ _ _) rfl
        exact h6
      · refine K.ite (fun _ => ?_) (fun _ => ?_)
        · refine K.mkO2 ?_
          refine K.mk2 ?_
          refine K.step ?_ (State.openReq_keeps _ _ _ _) rfl
          exact h6
        · refine K.mkO2 ?_
          refine K.mk2 ?_
          refine K.step ?_ (State.victimise_keeps _ _ _ _ _) rfl
          exact h6

theorem State.modTxn_keeps : ∀ a0 a1 a2 a3, K gS 64 a0 (State.modTxn a0 a1 a2 a3) := by
  intro a0 a1 a2 a3
  unfold State.modTxn
  refine K.step ?_ (State.modSlice_keeps _ _ _) rfl
  exact K.refl

theorem State.formEntry_keeps : ∀ a0 a1 a2, K gS 64 a0 (State.formEntry a0 a1 a2) := by
  intro a0 a1 a2
  unfold State.formEntry
  refine K.step ?_ (State.modSlice_keeps _ _ _) rfl
  exact K.refl

theorem State.finishTxn_keeps : ∀ a0 a1 a2 a3, K g3 606 a0 (State.finishTxn a0 a1 a2 a3) := by
  intro a0 a1 a2 a3
  unfold State.finishTxn
  extract_lets +onlyGivenNames -underBinder -merge -useContext x0
  have h1 : ∀ y2, K gS 606 a0 y2 → K gS 606 a0 (x0 y2) := by
    intro y2 h3
    dsimp -zeta only [x0]
    refine K.step ?_ (State.modSlice_keeps _ _ _) rfl
    exact h3
  clear_value x0
  split
  · refine K.mk3 ?_
    refine K.step ?_ (State.openFresh_keeps _ _ _ _ _) rfl
    refine h1 _ ?_
    refine K.step ?_ (State.modSlice_keeps _ _ _) rfl
    exact K.refl
  · split
    · refine K.ite (fun _ => ?_) (fun _ => ?_)
      · refine K.mk3 ?_
        extract_lets +onlyGivenNames -underBinder -merge -useContext x7
        have h8 : K gS 606 a0 x7 := by
          refine h1 _ ?_
          exact K.refl
        clear_value x7
        refine K.ite (fun _ => ?_) (fun _ => ?_)
        · refine K.step ?_ (State.formEntry_keeps _ _ _) rfl
          exact h8
        · exact h8
      · refine K.ite (fun _ => ?_) (fun _ => ?_)
        · refine K.mk3 ?_
          exact K.refl
        · refine K.ite (fun _ => ?_) (fun _ => ?_)
          · refine K.mk3 ?_
            refine K.step ?_ (State.send_keeps _ _) rfl
            refine K.step ?_ (State.modTxn_keeps _ _ _ _) rfl
            exact K.refl
          · extract_lets +onlyGivenNames -underBinder -merge -useContext x9
            have h10 : K g3 606 a0 x9 := by
              refine K.step ?_ (State.homeData_keeps _ _ _ _) rfl
              exact K.refl
            clear_value x9
            refine K.mk3 ?_
            refine K.step ?_ (State.send_keeps _ _) rfl
            refine K.step ?_ (State.modTxn_keeps _ _ _ _) rfl
            refine K.of3 ?_
            exact h10
    · extract_lets +onlyGivenNames -underBinder -merge -useContext x12
      have h13 : K g3 606 a0 x12 := by
        refine K.step ?_ (State.homeData_keeps _ _ _ _) rfl
        exact K.refl
      clear_value x12
      refine K.mk3 ?_
      extract_lets +onlyGivenNames -underBinder -merge -useContext x14
      have h15 : K gS 606 a0 x14 := by
        refine h1 _ ?_
        refine K.step ?_ (State.send_keeps _ _) rfl
        refine K.of3 ?_
        exact h13
      clear_value x14
      refine K.ite (fun _ => ?_) (fun _ => ?_)
      · refine K.step ?_ (State.formEntry_keeps _ _ _) rfl
        exact h15
      · exact h15
    · extract_lets +onlyGivenNames -underBinder -merge -useContext x17
      clear_value x17
      extract_lets +onlyGivenNames -underBinder -merge -useContext x18
      clear_value x18
      refine K.mk3 ?_
      extract_lets +onlyGivenNames -underBinder -merge -useContext x19
      have h20 : K gS 606 a0 x19 := by
        refine h1 _ ?_
        refine K.step ?_ (State.send_keeps _ _) rfl
        refine K.step ?_ (State.sliceFill_keeps _ _ _ _ _ _ _) rfl
        exact K.refl
      clear_value x19
      refine K.ite (fun _ => ?_) (fun _ => ?_)
      · refine K.step ?_ (State.formEntry_keeps _ _ _) rfl
        exact h20
      · exact h20

theorem State.advance_keeps : ∀ a0 a1 a2 a3, K gS 606 a0 (State.advance a0 a1 a2 a3) := by
  intro a0 a1 a2 a3
  induction a2 generalizing a0 a1 a3 with
  | zero =>
    rw [State.advance]
    exact K.refl
  | succ j ih =>
    cases a3 with
    | nil =>
      rw [State.advance]
      · exact K.refl
      · simp
    | cons p q =>
      rw [State.advance]
      split
      · refine K.ite (fun _ => ?_) (fun _ => ?_)
        · refine K.step ?_ (ih _ _ _) rfl
          refine K.of3 ?_
          refine K.step ?_ (State.finishTxn_keeps _ _ _ _) rfl
          exact K.refl
        · refine K.step ?_ (ih _ _ _) rfl
          exact K.refl
      · split
        · rename_i e4
          refine K.step ?_ (ih _ _ _) rfl
          refine K.of2 ?_
          refine K.someO2 ?_ e4
          refine K.step ?_ (State.servePromo_keeps _ _ _) rfl
          exact K.refl
        · split
          · refine K.step ?_ (ih _ _ _) rfl
            refine K.step ?_ (State.openReq_keeps _ _ _ _) rfl
            refine K.step ?_ (State.modSlice_keeps _ _ _) rfl
            exact K.refl
          · refine K.step ?_ (ih _ _ _) rfl
            exact K.refl

theorem State.runLine_keeps : ∀ a0 a1 a2, K gS 606 a0 (State.runLine a0 a1 a2) := by
  intro a0 a1 a2
  unfold State.runLine
  refine K.step ?_ (State.advance_keeps _ _ _ _) rfl
  exact K.refl

theorem State.answered_keeps : ∀ a0 a1 a2, K gS 8589938302 a0 (State.answered a0 a1 a2) := by
  intro a0 a1 a2
  unfold State.answered
  extract_lets +onlyGivenNames -underBinder -merge -useContext x0
  clear_value x0
  extract_lets +onlyGivenNames -underBinder -merge -useContext x1
  have h2 : K gS 8589938302 a0 x1 := by
    dsimp -zeta only [x1]
    split
    · refine K.step ?_ (State.runLine_keeps _ _ _) rfl
      refine K.step ?_ (State.modTxn_keeps _ _ _ _) rfl
      exact K.refl
    · exact K.refl
  clear_value x1
  refine K.step ?_ (State.pump_keeps _ _) rfl
  refine K.step ?_ (State.finishAmos_keeps _ _) rfl
  exact h2

theorem State.startRebuild_keeps : ∀ a0 a1 a2, K gS 580 a0 (State.startRebuild a0 a1 a2) := by
  intro a0 a1 a2
  unfold State.startRebuild
  extract_lets +onlyGivenNames -underBinder -merge -useContext x0
  clear_value x0
  extract_lets +onlyGivenNames -underBinder -merge -useContext x1
  have h2 : K gS 580 a0 x1 := by
    refine K.step ?_ (State.modSlice_keeps _ _ _) rfl
    exact K.refl
  clear_value x1
  extract_lets +onlyGivenNames -underBinder -merge -useContext x3
  have h4 : K gS 580 a0 x3 := by
    refine K.step ?_ (State.bump_keeps _ _ _ _) rfl
    refine K.step ?_ (State.setFld_keeps _ _ _ _) rfl
    refine K.step ?_ (State.setFlag_keeps _ _ _ _) rfl
    exact h2
  clear_value x3
  refine K.step ?_ (State.sendAll_keeps _ _) rfl
  exact h4

theorem State.dirFailure_keeps : ∀ a0 a1 a2, K gS 8589935172 a0 (State.dirFailure a0 a1 a2) := by
  intro a0 a1 a2
  unfold State.dirFailure
  extract_lets +onlyGivenNames -underBinder -merge -useContext x0
  clear_value x0
  extract_lets +onlyGivenNames -underBinder -merge -useContext x1
  have h2 : K gS 8589935172 a0 x1 := by
    refine K.step ?_ (State.corrected_keeps _ _ _) rfl
    refine K.step ?_ (State.modSlice_keeps _ _ _) rfl
    exact K.refl
  clear_value x1
  extract_lets +onlyGivenNames -underBinder -merge -useContext x3
  clear_value x3
  refine K.ite (fun _ => ?_) (fun _ => ?_)
  · exact h2
  · refine K.ite (fun _ => ?_) (fun _ => ?_)
    · extract_lets +onlyGivenNames -underBinder -merge -useContext x4
      have h5 : K gS 8589935172 a0 x4 := by
        refine K.step ?_ (State.modSlice_keeps _ _ _) rfl
        exact h2
      clear_value x4
      refine K.step ?_ (State.detect_keeps _ _) rfl
      refine K.step ?_ (State.bump_keeps _ _ _ _) rfl
      refine K.step ?_ (State.setFlag_keeps _ _ _ _) rfl
      exact h5
    · extract_lets +onlyGivenNames -underBinder -merge -useContext x6
      have h7 : K gS 8589935172 a0 x6 := by
        refine K.step ?_ (State.modSlice_keeps _ _ _) rfl
        exact h2
      clear_value x6
      refine K.ite (fun _ => ?_) (fun _ => ?_)
      · refine K.step ?_ (State.modSlice_keeps _ _ _) rfl
        exact h7
      · refine K.step ?_ (State.startRebuild_keeps _ _ _) rfl
        exact h7

theorem State.supply_keeps : ∀ a0 a1 a2 a3 a4 a5 a6 a7 a8, K gS 580 a0 (State.supply a0 a1 a2 a3 a4 a5 a6 a7 a8) := by
  intro a0 a1 a2 a3 a4 a5 a6 a7 a8
  unfold State.supply
  extract_lets +onlyGivenNames -underBinder -merge -useContext x0
  have h1 : K gS 580 a0 x0 := by
    refine K.step ?_ (State.bump_keeps _ _ _ _) rfl
    refine K.step ?_ (State.send_keeps _ _) rfl
    exact K.refl
  clear_value x0
  extract_lets +onlyGivenNames -underBinder -merge -useContext x2
  have h3 : K gS 580 a0 x2 := by
    refine K.ite (fun _ => ?_) (fun _ => ?_)
    · refine K.step ?_ (State.send_keeps _ _) rfl
      exact h1
    · exact h1
  clear_value x2
  refine K.step ?_ (State.modTxn_keeps _ _ _ _) rfl
  exact h3

theorem State.fwdSnoop_keeps : ∀ a0 a1 a2 a3 a4 a5 a6, K gS 612 a0 (State.fwdSnoop a0 a1 a2 a3 a4 a5 a6) := by
  intro a0 a1 a2 a3 a4 a5 a6
  unfold State.fwdSnoop
  extract_lets +onlyGivenNames -underBinder -merge -useContext x0
  clear_value x0
  extract_lets +onlyGivenNames -underBinder -merge -useContext x1
  clear_value x1
  extract_lets +onlyGivenNames -underBinder -merge -useContext x2
  clear_value x2
  extract_lets +onlyGivenNames -underBinder -merge -useContext x3
  clear_value x3
  extract_lets +onlyGivenNames -underBinder -merge -useContext x4
  clear_value x4
  split
  · split
    · extract_lets +onlyGivenNames -underBinder -merge -useContext x7
      have h8 : K gS 612 a0 x7 := by
        refine K.step ?_ (State.setCore_keeps _ _ _) rfl
        exact K.refl
      clear_value x7
      refine K.ite (fun _ => ?_) (fun _ => ?_)
      · refine K.step ?_ (State.supply_keeps _ _ _ _ _ _ _ _ _) rfl
        exact h8
      · refine K.step ?_ (State.send_keeps _ _) rfl
        exact h8
    · refine K.ite (fun _ => ?_) (fun _ => ?_)
      · refine K.step ?_ (State.supply_keeps _ _ _ _ _ _ _ _ _) rfl
        exact K.refl
      · refine K.step ?_ (State.send_keeps _ _) rfl
        exact K.refl
  · refine K.step ?_ (State.send_keeps _ _) rfl
    refine K.step ?_ (State.setCore_keeps _ _ _) rfl
    exact K.refl
  · refine K.step ?_ (State.supply_keeps _ _ _ _ _ _ _ _ _) rfl
    refine K.step ?_ (State.setCore_keeps _ _ _) rfl
    exact K.refl
  · refine K.step ?_ (State.supply_keeps _ _ _ _ _ _ _ _ _) rfl
    refine K.step ?_ (State.setCore_keeps _ _ _) rfl
    exact K.refl
  · refine K.step ?_ (State.supply_keeps _ _ _ _ _ _ _ _ _) rfl
    refine K.step ?_ (State.setCore_keeps _ _ _) rfl
    exact K.refl

theorem State.tagCheck_keeps : ∀ a0 a1 a2 a3, K gS 8589934656 a0 (State.tagCheck a0 a1 a2 a3) := by
  intro a0 a1 a2 a3
  unfold State.tagCheck
  refine K.ite (fun _ => ?_) (fun _ => ?_)
  · exact K.refl
  · refine K.ite (fun _ => ?_) (fun _ => ?_)
    · refine K.step ?_ (State.corrected_keeps _ _ _) rfl
      exact K.refl
    · split
      · exact K.refl
      · extract_lets +onlyGivenNames -underBinder -merge -useContext x2
        have h3 : K gS 8589934656 a0 x2 := by
          refine K.step ?_ (State.modSlice_keeps _ _ _) rfl
          exact K.refl
        clear_value x2
        refine K.ite (fun _ => ?_) (fun _ => ?_)
        · refine K.step ?_ (State.detect_keeps _ _) rfl
          exact h3
        · exact h3

theorem State.injectHome_keeps : ∀ a0 a1 a2, K gS 8589935172 a0 (State.injectHome a0 a1 a2) := by
  intro a0 a1 a2
  unfold State.injectHome
  refine K.ite (fun _ => ?_) (fun _ => ?_)
  · extract_lets +onlyGivenNames -underBinder -merge -useContext x0
    clear_value x0
    extract_lets +onlyGivenNames -underBinder -merge -useContext x1
    have h2 : K gS 8589935172 a0 x1 := by
      refine K.ite (fun _ => ?_) (fun _ => ?_)
      · refine K.step ?_ (State.injTriggered_keeps _) rfl
        refine State.markInj_keeps _ _ ?_ ?_ rfl
        · exact K.refl
        · refine K.step ?_ (State.tagCheck_keeps _ _ _ _) rfl
          exact K.refl
      · exact K.refl
    clear_value x1
    extract_lets +onlyGivenNames -underBinder -merge -useContext x3
    have h4 : K gS 8589935172 a0 x3 := by
      refine K.ite (fun _ => ?_) (fun _ => ?_)
      · refine K.step ?_ (State.injTriggered_keeps _) rfl
        refine State.markInj_keeps _ _ ?_ ?_ rfl
        · exact h2
        · refine K.step ?_ (State.dirFailure_keeps _ _ _) rfl
          exact h2
      · exact h2
    clear_value x3
    split
    · refine State.injectOwner_keeps _ _ _ _ _ _ _ ?_ ?_ rfl
      · exact h4
      · intro y6 h7
        refine K.step ?_ (State.modSlice_keeps _ _ _) rfl
        exact h7
    · exact h4
  · exact K.refl

theorem State.homeReq_keeps : ∀ a0 a1 a2 a3 a4, K gS 8589935198 a0 (State.homeReq a0 a1 a2 a3 a4) := by
  intro a0 a1 a2 a3 a4
  unfold State.homeReq
  refine K.ite (fun _ => ?_) (fun _ => ?_)
  · exact K.refl
  · extract_lets +onlyGivenNames -underBinder -merge -useContext x0
    have h1 : K gS 8589935198 a0 x0 := by
      refine K.step ?_ (State.injectHome_keeps _ _ _) rfl
      refine K.step ?_ (State.tagCheck_keeps _ _ _ _) rfl
      exact K.refl
    clear_value x0
    extract_lets +onlyGivenNames -underBinder -merge -useContext x2
    have h3 : K gS 8589935198 a0 x2 := by
      refine K.ite (fun _ => ?_) (fun _ => ?_)
      · refine K.step ?_ (State.dirFailure_keeps _ _ _) rfl
        exact h1
      · exact h1
    clear_value x2
    refine K.ite (fun _ => ?_) (fun _ => ?_)
    · refine K.step ?_ (State.modSlice_keeps _ _ _) rfl
      exact h3
    · refine K.step ?_ (State.runLine_keeps _ _ _) rfl
      refine K.step ?_ (State.openReq_keeps _ _ _ _) rfl
      exact h3

theorem State.homeSnoop_keeps : ∀ a0 a1 a2 a3 a4 a5, K gS 544 a0 (State.homeSnoop a0 a1 a2 a3 a4 a5) := by
  intro a0 a1 a2 a3 a4 a5
  unfold State.homeSnoop
  extract_lets +onlyGivenNames -underBinder -merge -useContext x0
  clear_value x0
  extract_lets +onlyGivenNames -underBinder -merge -useContext x1
  clear_value x1
  split
  · split
    · extract_lets +onlyGivenNames -underBinder -merge -useContext x4
      have h5 : K gS 544 a0 x4 := by
        refine K.step ?_ (State.setCore_keeps _ _ _) rfl
        exact K.refl
      clear_value x4
      refine K.ite (fun _ => ?_) (fun _ => ?_)
      · refine K.step ?_ (State.send_keeps _ _) rfl
        exact h5
      · refine K.step ?_ (State.send_keeps _ _) rfl
        exact h5
    · refine K.ite (fun _ => ?_) (fun _ => ?_)
      · refine K.step ?_ (State.send_keeps _ _) rfl
        exact K.refl
      · refine K.step ?_ (State.send_keeps _ _) rfl
        exact K.refl
  · refine K.step ?_ (State.send_keeps _ _) rfl
    refine K.step ?_ (State.setCore_keeps _ _ _) rfl
    exact K.refl
  · extract_lets +onlyGivenNames -underBinder -merge -useContext x9
    clear_value x9
    refine K.step ?_ (State.send_keeps _ _) rfl
    refine K.step ?_ (State.setCore_keeps _ _ _) rfl
    exact K.refl

theorem State.recompute_keeps : ∀ a0 a1 a2, K gS 8589934718 a0 (State.recompute a0 a1 a2) := by
  intro a0 a1 a2
  unfold State.recompute
  extract_lets +onlyGivenNames -underBinder -merge -useContext x0
  clear_value x0
  extract_lets +onlyGivenNames -underBinder -merge -useContext x1
  have h2 : K gS 8589934718 a0 x1 := by
    refine K.step ?_ (State.modSlice_keeps _ _ _) rfl
    exact K.refl
  clear_value x1
  extract_lets +onlyGivenNames -underBinder -merge -useContext x3
  have h4 : K g2 8589934718 a0 x3 := by
    refine K.foldl2 ?_ (fun y5 a6 h7 => ?_)
    · refine K.mk2 ?_
      exact h2
    · extract_lets +onlyGivenNames -underBinder -merge -useContext x8
      clear_value x8
      refine K.ite (fun _ => ?_) (fun _ => ?_)
      · exact h7
      · refine K.ite (fun _ => ?_) (fun _ => ?_)
        · extract_lets +onlyGivenNames -underBinder -merge -useContext x9
          clear_value x9
          refine K.mk2 ?_
          refine K.step ?_ (State.failure_keeps _ _ _ _ _ _) rfl
          refine K.step ?_ (State.sliceFill_keeps _ _ _ _ _ _ _) rfl
          refine K.step ?_ (State.purge_keeps _ _) rfl
          refine K.of2 ?_
          exact h7
        · refine K.ite (fun _ => ?_) (fun _ => ?_)
          · refine K.mk2 ?_
            refine K.step ?_ (State.modSlice_keeps _ _ _) rfl
            refine K.of2 ?_
            exact h7
          · extract_lets +onlyGivenNames -underBinder -merge -useContext x10
            clear_value x10
            extract_lets +onlyGivenNames -underBinder -merge -useContext x11
            clear_value x11
            extract_lets +onlyGivenNames -underBinder -merge -useContext x12
            have h13 : K gS 8589934718 a0 x12 := by
              refine K.step ?_ (State.bump_keeps _ _ _ _) rfl
              refine K.step ?_ (State.purge_keeps _ _) rfl
              refine K.of2 ?_
              exact h7
            clear_value x12
            refine K.mk2 ?_
            refine K.ite (fun _ => ?_) (fun _ => ?_)
            · refine K.step ?_ (State.sliceFill_keeps _ _ _ _ _ _ _) rfl
              exact h13
            · exact h13
  clear_value x3
  refine K.of2 ?_
  exact h4

theorem execHomeData_keeps : ∀ a0 a1 a2 a3 a4 a5 a6, K gR 606 a6 (execHomeData a0 a1 a2 a3 a4 a5 a6) := by
  intro a0 a1 a2 a3 a4 a5 a6
  unfold execHomeData
  extract_lets +onlyGivenNames -underBinder -merge -useContext x0
  have h1 : K gS 606 a6 x0 := by
    refine K.step ?_ (State.recv_keeps _ _) rfl
    exact K.refl
  clear_value x0
  refine K.mkR ?_
  split
  · exact h1
  · extract_lets +onlyGivenNames -underBinder -merge -useContext x4
    have h5 : K gS 606 a6 x4 := by
      refine K.step ?_ (State.sliceFill_keeps _ _ _ _ _ _ _) rfl
      exact h1
    clear_value x4
    refine K.step ?_ (State.runLine_keeps _ _ _) rfl
    refine K.step ?_ (State.modTxn_keeps _ _ _ _) rfl
    exact h5

theorem execHomeDevrd_keeps : ∀ a0 a1 a2 a3 a4 a5, K gR 8589935198 a5 (execHomeDevrd a0 a1 a2 a3 a4 a5) := by
  intro a0 a1 a2 a3 a4 a5
  unfold execHomeDevrd
  refine K.mkR ?_
  refine K.step ?_ (State.homeReq_keeps _ _ _ _ _) rfl
  refine K.step ?_ (State.recv_keeps _ _) rfl
  exact K.refl

theorem execHomeDevwr_keeps : ∀ a0 a1 a2 a3 a4 a5 a6 a7 a8, K gR 8589935198 a8 (execHomeDevwr a0 a1 a2 a3 a4 a5 a6 a7 a8) := by
  intro a0 a1 a2 a3 a4 a5 a6 a7 a8
  unfold execHomeDevwr
  refine K.mkR ?_
  refine K.step ?_ (State.homeReq_keeps _ _ _ _ _) rfl
  refine K.step ?_ (State.recv_keeps _ _) rfl
  exact K.refl

theorem execHomeEvc_keeps : ∀ a0 a1 a2 a3, K gR 576 a3 (execHomeEvc a0 a1 a2 a3) := by
  intro a0 a1 a2 a3
  unfold execHomeEvc
  extract_lets +onlyGivenNames -underBinder -merge -useContext x0
  have h1 : K gS 576 a3 x0 := by
    refine K.step ?_ (State.recv_keeps _ _) rfl
    exact K.refl
  clear_value x0
  extract_lets +onlyGivenNames -underBinder -merge -useContext x2
  have h3 : K gS 576 a3 x2 := by
    refine K.step ?_ (State.modSlice_keeps _ _ _) rfl
    exact h1
  clear_value x2
  refine K.mkR ?_
  refine K.step ?_ (State.send_keeps _ _) rfl
  exact h3

theorem execHomeEvd_keeps : ∀ a0 a1 a2 a3 a4 a5, K gR 606 a5 (execHomeEvd a0 a1 a2 a3 a4 a5) := by
  intro a0 a1 a2 a3 a4 a5
  unfold execHomeEvd
  extract_lets +onlyGivenNames -underBinder -merge -useContext x0
  have h1 : K gS 606 a5 x0 := by
    refine K.step ?_ (State.recv_keeps _ _) rfl
    exact K.refl
  clear_value x0
  extract_lets +onlyGivenNames -underBinder -merge -useContext x2
  have h3 : K gS 606 a5 x2 := by
    dsimp -zeta only [x2]
    split
    · extract_lets +onlyGivenNames -underBinder -merge -useContext x5
      clear_value x5
      extract_lets +onlyGivenNames -underBinder -merge -useContext x6
      clear_value x6
      refine K.ite (fun _ => ?_) (fun _ => ?_)
      · refine K.step ?_ (State.modSlice_keeps _ _ _) rfl
        refine K.step ?_ (State.sliceFill_keeps _ _ _ _ _ _ _) rfl
        exact h1
      · exact h1
    · exact h1
  clear_value x2
  refine K.mkR ?_
  refine K.step ?_ (State.send_keeps _ _) rfl
  exact h3

theorem execHomeInvack_keeps : ∀ a0 a1 a2 a3, K gR 8589935198 a3 (execHomeInvack a0 a1 a2 a3) := by
  intro a0 a1 a2 a3
  unfold execHomeInvack
  extract_lets +onlyGivenNames -underBinder -merge -useContext x0
  have h1 : K gS 8589935198 a3 x0 := by
    refine K.step ?_ (State.recv_keeps _ _) rfl
    exact K.refl
  clear_value x0
  refine K.mkR ?_
  split
  · exact h1
  · extract_lets +onlyGivenNames -underBinder -merge -useContext x4
    clear_value x4
    extract_lets +onlyGivenNames -underBinder -merge -useContext x5
    clear_value x5
    extract_lets +onlyGivenNames -underBinder -merge -useContext x6
    have h7 : K gS 8589935198 a3 x6 := by
      refine K.ite (fun _ => ?_) (fun _ => ?_)
      · refine K.step ?_ (State.failure_keeps _ _ _ _ _ _) rfl
        refine K.step ?_ (State.sliceFill_keeps _ _ _ _ _ _ _) rfl
        exact h1
      · exact h1
    clear_value x6
    extract_lets +onlyGivenNames -underBinder -merge -useContext x8
    clear_value x8
    refine K.step ?_ (State.runLine_keeps _ _ _) rfl
    refine K.step ?_ (State.modTxn_keeps _ _ _ _) rfl
    exact h7

theorem execHomePrbReport_keeps : ∀ a0 a1 a2 a3, K gR 8589935230 a3 (execHomePrbReport a0 a1 a2 a3) := by
  intro a0 a1 a2 a3
  unfold execHomePrbReport
  extract_lets +onlyGivenNames -underBinder -merge -useContext x0
  have h1 : K gS 8589935230 a3 x0 := by
    refine K.step ?_ (State.recv_keeps _ _) rfl
    exact K.refl
  clear_value x0
  refine K.mkR ?_
  split
  · exact h1
  · refine K.ite (fun _ => ?_) (fun _ => ?_)
    · exact h1
    · extract_lets +onlyGivenNames -underBinder -merge -useContext x4
      clear_value x4
      refine K.ite (fun _ => ?_) (fun _ => ?_)
      · refine K.step ?_ (State.modSlice_keeps _ _ _) rfl
        exact h1
      · extract_lets +onlyGivenNames -underBinder -merge -useContext x5
        have h6 : K gS 8589935230 a3 x5 := by
          refine K.step ?_ (State.recompute_keeps _ _ _) rfl
          exact h1
        clear_value x5
        extract_lets +onlyGivenNames -underBinder -merge -useContext x7
        have h8 : K gS 8589935230 a3 x7 := by
          refine K.step ?_ (State.modSlice_keeps _ _ _) rfl
          exact h6
        clear_value x7
        extract_lets +onlyGivenNames -underBinder -merge -useContext x9
        have h10 : K gS 8589935230 a3 x9 := by
          refine K.step ?_ (State.setFlag_keeps _ _ _ _) rfl
          exact h8
        clear_value x9
        split
        · refine K.step ?_ (State.startRebuild_keeps _ _ _) rfl
          refine K.step ?_ (State.modSlice_keeps _ _ _) rfl
          exact h10
        · exact h10

theorem execHomeRds_keeps : ∀ a0 a1 a2 a3 a4 a5 a6, K gR 8589935198 a6 (execHomeRds a0 a1 a2 a3 a4 a5 a6) := by
  intro a0 a1 a2 a3 a4 a5 a6
  unfold execHomeRds
  refine K.mkR ?_
  refine K.step ?_ (State.homeReq_keeps _ _ _ _ _) rfl
  refine K.step ?_ (State.recv_keeps _ _) rfl
  exact K.refl

theorem execHomeRdx_keeps : ∀ a0 a1 a2 a3 a4 a5 a6, K gR 8589935198 a6 (execHomeRdx a0 a1 a2 a3 a4 a5 a6) := by
  intro a0 a1 a2 a3 a4 a5 a6
  unfold execHomeRdx
  refine K.mkR ?_
  refine K.step ?_ (State.homeReq_keeps _ _ _ _ _) rfl
  refine K.step ?_ (State.recv_keeps _ _) rfl
  exact K.refl

theorem execHomeUpg_keeps : ∀ a0 a1 a2 a3 a4 a5 a6, K gR 8589935198 a6 (execHomeUpg a0 a1 a2 a3 a4 a5 a6) := by
  intro a0 a1 a2 a3 a4 a5 a6
  unfold execHomeUpg
  refine K.mkR ?_
  refine K.step ?_ (State.homeReq_keeps _ _ _ _ _) rfl
  refine K.step ?_ (State.recv_keeps _ _) rfl
  exact K.refl

theorem execHomesetApply_keeps : ∀ a0, K gR 4 a0 (execHomesetApply a0) := by
  intro a0
  unfold execHomesetApply
  extract_lets +onlyGivenNames -underBinder -merge -useContext x0
  clear_value x0
  refine K.mkR ?_
  split
  · refine K.step ?_ (State.setFld_keeps _ _ _ _) rfl
    refine K.step ?_ (State.setFlag_keeps _ _ _ _) rfl
    exact K.refl
  · refine K.step ?_ (State.setFlag_keeps _ _ _ _) rfl
    exact K.refl

theorem execHomesetChangeComplete_keeps : ∀ a0, K gR 638 a0 (execHomesetChangeComplete a0) := by
  intro a0
  unfold execHomesetChangeComplete
  refine K.mkR ?_
  refine K.ite (fun _ => ?_) (fun _ => ?_)
  · exact K.refl
  · extract_lets +onlyGivenNames -underBinder -merge -useContext x0
    have h1 : K gS 638 a0 x0 := by
      refine K.foldl ?_ (fun y2 a3 h4 => ?_)
      · exact K.refl
      · refine K.step ?_ (State.flushCore_keeps _ _) rfl
        exact h4
    clear_value x0
    extract_lets +onlyGivenNames -underBinder -merge -useContext x5
    have h6 : K gS 638 a0 x5 := by
      refine K.foldl ?_ (fun y7 a8 h9 => ?_)
      · exact h1
      · refine K.step ?_ (State.flushSlice_keeps _ _) rfl
        exact h9
    clear_value x5
    extract_lets +onlyGivenNames -underBinder -merge -useContext x10
    have h11 : K gS 638 a0 x10 := by
      refine K.upd64 ?_ rfl
      exact h6
    clear_value x10
    extract_lets +onlyGivenNames -underBinder -merge -useContext x12
    have h13 : K gS 638 a0 x12 := by
      refine K.step ?_ (State.setFlag_keeps _ _ _ _) rfl
      refine K.step ?_ (State.setReg_keeps _ _ _) rfl
      exact h11
    clear_value x12
    refine K.foldl ?_ (fun y14 a15 h16 => ?_)
    · exact h13
    · refine K.step ?_ (State.pump_keeps _ _) rfl
      exact h16

theorem execL2Data_keeps : ∀ a0 a1 a2 a3 a4 a5, K gR 8589938302 a5 (execL2Data a0 a1 a2 a3 a4 a5) := by
  intro a0 a1 a2 a3 a4 a5
  unfold execL2Data
  extract_lets +onlyGivenNames -underBinder -merge -useContext x0
  clear_value x0
  extract_lets +onlyGivenNames -underBinder -merge -useContext x1
  clear_value x1
  extract_lets +onlyGivenNames -underBinder -merge -useContext x2
  clear_value x2
  refine K.mkR ?_
  refine K.ite (fun _ => ?_) (fun _ => ?_)
  · exact K.refl
  · extract_lets +onlyGivenNames -underBinder -merge -useContext x3
    have h4 : K gS 8589938302 a5 x3 := by
      refine K.step ?_ (State.l2Fill_keeps _ _ _ _ _ _) rfl
      refine K.step ?_ (State.recv_keeps _ _) rfl
      exact K.refl
    clear_value x3
    refine K.step ?_ (State.answered_keeps _ _ _) rfl
    refine K.step ?_ (State.modCore_keeps _ _ _) rfl
    exact h4

theorem execL2Evictack_keeps : ∀ a0 a1 a2, K gR 544 a2 (execL2Evictack a0 a1 a2) := by
  intro a0 a1 a2
  unfold execL2Evictack
  refine K.mkR ?_
  refine K.step ?_ (State.pump_keeps _ _) rfl
  refine K.step ?_ (State.modCore_keeps _ _ _) rfl
  refine K.step ?_ (State.recv_keeps _ _) rfl
  exact K.refl

theorem execL2Grant_keeps : ∀ a0 a1 a2, K gR 8589938302 a2 (execL2Grant a0 a1 a2) := by
  intro a0 a1 a2
  unfold execL2Grant
  extract_lets +onlyGivenNames -underBinder -merge -useContext x0
  clear_value x0
  extract_lets +onlyGivenNames -underBinder -merge -useContext x1
  clear_value x1
  refine K.mkR ?_
  refine K.ite (fun _ => ?_) (fun _ => ?_)
  · exact K.refl
  · extract_lets +onlyGivenNames -underBinder -merge -useContext x2
    have h3 : K gS 8589938302 a2 x2 := by
      refine K.step ?_ (State.recv_keeps _ _) rfl
      exact K.refl
    clear_value x2
    refine K.step ?_ (State.answered_keeps _ _ _) rfl
    refine K.step ?_ (State.setCore_keeps _ _ _) rfl
    exact h3

theorem execL2Prb_keeps : ∀ a0 a1 a2 a3, K gR 512 a3 (execL2Prb a0 a1 a2 a3) := by
  intro a0 a1 a2 a3
  unfold execL2Prb
  refine K.mkR ?_
  refine K.step ?_ (State.send_keeps _ _) rfl
  refine K.step ?_ (State.recv_keeps _ _) rfl
  exact K.refl

theorem execL2Retry_keeps : ∀ a0 a1 a2 a3, K gR 544 a3 (execL2Retry a0 a1 a2 a3) := by
  intro a0 a1 a2 a3
  unfold execL2Retry
  refine K.mkR ?_
  refine K.step ?_ (State.modCore_keeps _ _ _) rfl
  refine K.step ?_ (State.recv_keeps _ _) rfl
  exact K.refl

theorem execL2Snpd_keeps : ∀ a0 a1 a2 a3 a4, K gR 544 a4 (execL2Snpd a0 a1 a2 a3 a4) := by
  intro a0 a1 a2 a3 a4
  unfold execL2Snpd
  refine K.mkR ?_
  refine K.ite (fun _ => ?_) (fun _ => ?_)
  · exact K.refl
  · refine K.step ?_ (State.homeSnoop_keeps _ _ _ _ _ _) rfl
    refine K.step ?_ (State.recv_keeps _ _) rfl
    exact K.refl

theorem execL2Snpf_keeps : ∀ a0 a1 a2 a3 a4 a5, K gR 612 a5 (execL2Snpf a0 a1 a2 a3 a4 a5) := by
  intro a0 a1 a2 a3 a4 a5
  unfold execL2Snpf
  refine K.mkR ?_
  refine K.ite (fun _ => ?_) (fun _ => ?_)
  · exact K.refl
  · refine K.step ?_ (State.fwdSnoop_keeps _ _ _ _ _ _ _) rfl
    refine K.step ?_ (State.recv_keeps _ _) rfl
    exact K.refl

theorem execL2Snpi_keeps : ∀ a0 a1 a2 a3, K gR 544 a3 (execL2Snpi a0 a1 a2 a3) := by
  intro a0 a1 a2 a3
  unfold execL2Snpi
  refine K.mkR ?_
  refine K.ite (fun _ => ?_) (fun _ => ?_)
  · exact K.refl
  · extract_lets +onlyGivenNames -underBinder -merge -useContext x0
    have h1 : K gS 544 a3 x0 := by
      dsimp -zeta only [x0]
      split
      · refine K.step ?_ (State.recv_keeps _ _) rfl
        exact K.refl
      · exact K.refl
    clear_value x0
    refine K.step ?_ (State.send_keeps _ _) rfl
    refine K.step ?_ (State.modCore_keeps _ _ _) rfl
    exact h1

theorem execL2Snpr_keeps : ∀ a0 a1 a2 a3 a4, K gR 544 a4 (execL2Snpr a0 a1 a2 a3 a4) := by
  intro a0 a1 a2 a3 a4
  unfold execL2Snpr
  refine K.mkR ?_
  refine K.ite (fun _ => ?_) (fun _ => ?_)
  · exact K.refl
  · refine K.step ?_ (State.homeSnoop_keeps _ _ _ _ _ _) rfl
    refine K.step ?_ (State.recv_keeps _ _) rfl
    exact K.refl

theorem execL2Snpx_keeps : ∀ a0 a1 a2 a3 a4 a5, K gR 612 a5 (execL2Snpx a0 a1 a2 a3 a4 a5) := by
  intro a0 a1 a2 a3 a4 a5
  unfold execL2Snpx
  refine K.mkR ?_
  refine K.ite (fun _ => ?_) (fun _ => ?_)
  · exact K.refl
  · refine K.step ?_ (State.fwdSnoop_keeps _ _ _ _ _ _ _) rfl
    refine K.step ?_ (State.recv_keeps _ _) rfl
    exact K.refl

theorem execRetryResend_keeps : ∀ a0 a1 a2, K gR 544 a2 (execRetryResend a0 a1 a2) := by
  intro a0 a1 a2
  unfold execRetryResend
  extract_lets +onlyGivenNames -underBinder -merge -useContext x0
  clear_value x0
  refine K.mkR ?_
  split
  · exact K.refl
  · refine K.ite (fun _ => ?_) (fun _ => ?_)
    · exact K.refl
    · refine K.step ?_ (State.send_keeps _ _) rfl
      refine K.step ?_ (State.setCore_keeps _ _ _) rfl
      exact K.refl

theorem State.coreWake_keeps : ∀ a0 a1 a2, K gS 67108868 a0 (State.coreWake a0 a1 a2) := by
  intro a0 a1 a2
  unfold State.coreWake
  extract_lets +onlyGivenNames -underBinder -merge -useContext x0
  clear_value x0
  extract_lets +onlyGivenNames -underBinder -merge -useContext x1
  clear_value x1
  refine K.ite (fun _ => ?_) (fun _ => ?_)
  · extract_lets +onlyGivenNames -underBinder -merge -useContext x2
    clear_value x2
    extract_lets +onlyGivenNames -underBinder -merge -useContext x3
    have h4 : K gS 67108868 a0 x3 := by
      refine K.ite (fun _ => ?_) (fun _ => ?_)
      · refine K.step ?_ (State.setReg_keeps _ _ _) rfl
        refine K.step ?_ (State.setBit_keeps _ _ _ _) rfl
        exact K.refl
      · exact K.refl
    clear_value x3
    refine K.ite (fun _ => ?_) (fun _ => ?_)
    · refine K.step ?_ (State.setFld_keeps _ _ _ _) rfl
      exact h4
    · refine K.ite (fun _ => ?_) (fun _ => ?_)
      · exact h4
      · refine K.upd67108864 ?_ rfl
        exact h4
  · exact K.refl

end Sys2Proof.Machine
end

