-- ==== Sys2Proof/Laws/KeepsIrq.lean ====
section
/-!
SUPPORT. What each function and each command of Machine/Irq.lean, Machine/Tideway.lean can change (Laws/Keeps.lean), one lemma each.
-/
namespace Sys2Proof.Machine

theorem State.acceptSrc_keeps : ∀ a0 a1 a2, K gS 2147483652 a0 (State.acceptSrc a0 a1 a2) := by
  intro a0 a1 a2
  unfold State.acceptSrc
  extract_lets +onlyGivenNames -underBinder -merge -useContext x0
  clear_value x0
  extract_lets +onlyGivenNames -underBinder -merge -useContext x1
  have h2 : ∀ y3, K gS 2147483652 a0 y3 → K gS 2147483652 a0 (x1 y3) := by
    intro y3 h4
    dsimp -zeta only [x1]
    refine K.step ?_ (State.bump_keeps _ _ _ _) rfl
    exact h4
  clear_value x1
  refine K.ite (fun _ => ?_) (fun _ => ?_)
  · extract_lets +onlyGivenNames -underBinder -merge -useContext x5
    clear_value x5
    extract_lets +onlyGivenNames -underBinder -merge -useContext x6
    clear_value x6
    extract_lets +onlyGivenNames -underBinder -merge -useContext x7
    have h8 : K gS 2147483652 a0 x7 := by
      refine K.step ?_ (State.setSrc_keeps _ _ _) rfl
      exact K.refl
    clear_value x7
    refine K.ite (fun _ => ?_) (fun _ => ?_)
    · refine h2 _ ?_
      exact h8
    · exact h8
  · refine K.ite (fun _ => ?_) (fun _ => ?_)
    · refine h2 _ ?_
      exact K.refl
    · refine K.ite (fun _ => ?_) (fun _ => ?_)
      · refine K.step ?_ (State.setSrc_keeps _ _ _) rfl
        exact K.refl
      · refine K.step ?_ (State.setSrc_keeps _ _ _) rfl
        exact K.refl

theorem State.toCore_keeps : ∀ a0 a1 a2 a3, K gS 3588 a0 (State.toCore a0 a1 a2 a3) := by
  intro a0 a1 a2 a3
  unfold State.toCore
  refine K.ite (fun _ => ?_) (fun _ => ?_)
  · refine K.step ?_ (State.sendTc0_keeps _ _ _) rfl
    exact K.refl
  · refine K.step ?_ (State.send_keeps _ _) rfl
    exact K.refl

theorem State.sendWithdraw_keeps : ∀ a0 a1 a2, K gS 2147487236 a0 (State.sendWithdraw a0 a1 a2) := by
  intro a0 a1 a2
  unfold State.sendWithdraw
  refine K.step ?_ (State.toCore_keeps _ _ _ _) rfl
  refine K.step ?_ (State.modSrc_keeps _ _ _) rfl
  exact K.refl

theorem State.fastWithdraw_keeps : ∀ a0 a1, K gS 2147487236 a0 (State.fastWithdraw a0 a1) := by
  intro a0 a1
  unfold State.fastWithdraw
  refine K.ite (fun _ => ?_) (fun _ => ?_)
  · extract_lets +onlyGivenNames -underBinder -merge -useContext x0
    clear_value x0
    extract_lets +onlyGivenNames -underBinder -merge -useContext x1
    clear_value x1
    extract_lets +onlyGivenNames -underBinder -merge -useContext x2
    clear_value x2
    refine K.step ?_ (State.sendWithdraw_keeps _ _ _) rfl
    refine K.ite (fun _ => ?_) (fun _ => ?_)
    · refine K.step ?_ (State.setDistCore_keeps _ _ _) rfl
      exact K.refl
    · exact K.refl
  · exact K.refl

theorem State.holdOffer_keeps : ∀ a0 a1 a2, K gS 32 a0 (State.holdOffer a0 a1 a2) := by
  intro a0 a1 a2
  unfold State.holdOffer
  refine K.step ?_ (State.wakeHalt_keeps _ _) rfl
  refine K.step ?_ (State.modCore_keeps _ _ _) rfl
  exact K.refl

theorem State.injectSvc_keeps : ∀ a0, K gS 8589934596 a0 (State.injectSvc a0) := by
  intro a0
  unfold State.injectSvc
  split
  · refine State.injectOwner_keeps _ _ _ _ _ _ _ ?_ ?_ rfl
    · exact K.refl
    · intro y1 h2
      exact h2
  · exact K.refl

theorem State.irqReject_keeps : ∀ a0 a1, K gS 4 a0 (State.irqReject a0 a1) := by
  intro a0 a1
  unfold State.irqReject
  refine K.step ?_ (State.setFld_keeps _ _ _ _) rfl
  refine K.step ?_ (State.setFlag_keeps _ _ _ _) rfl
  exact K.refl

theorem State.latchEdge_keeps : ∀ a0 a1, K gS 2147483648 a0 (State.latchEdge a0 a1) := by
  intro a0 a1
  unfold State.latchEdge
  extract_lets +onlyGivenNames -underBinder -merge -useContext x0
  clear_value x0
  extract_lets +onlyGivenNames -underBinder -merge -useContext x1
  have h2 : K gS 2147483648 a0 x1 := by
    refine K.ite (fun _ => ?_) (fun _ => ?_)
    · refine K.upd2147483648 ?_ rfl
      exact K.refl
    · exact K.refl
  clear_value x1
  refine K.ite (fun _ => ?_) (fun _ => ?_)
  · exact h2
  · refine K.step ?_ (State.modSrc_keeps _ _ _) rfl
    exact h2

theorem State.setPost_keeps : ∀ a0 a1 a2, K gS 2147483648 a0 (State.setPost a0 a1 a2) := by
  intro a0 a1 a2
  unfold State.setPost
  refine K.upd2147483648 ?_ rfl
  exact K.refl

theorem State.postNext_keeps : ∀ a0 a1, K gS 2147484164 a0 (State.postNext a0 a1) := by
  intro a0 a1
  unfold State.postNext
  extract_lets +onlyGivenNames -underBinder -merge -useContext x0
  clear_value x0
  split
  · refine K.ite (fun _ => ?_) (fun _ => ?_)
    · refine K.step ?_ (State.send_keeps _ _) rfl
      refine K.step ?_ (State.setPost_keeps _ _ _) rfl
      exact K.refl
    · refine K.step ?_ (State.setBit_keeps _ _ _ _) rfl
      refine K.step ?_ (State.setFlag_keeps _ _ _ _) rfl
      exact K.refl
  · exact K.refl

theorem State.settlePost_keeps : ∀ a0 a1, K gS 2147484164 a0 (State.settlePost a0 a1) := by
  intro a0 a1
  unfold State.settlePost
  extract_lets +onlyGivenNames -underBinder -merge -useContext x0
  clear_value x0
  refine K.ite (fun _ => ?_) (fun _ => ?_)
  · refine K.ite (fun _ => ?_) (fun _ => ?_)
    · refine K.step ?_ (State.setSrc_keeps _ _ _) rfl
      exact K.refl
    · exact K.refl
  · refine K.ite (fun _ => ?_) (fun _ => ?_)
    · extract_lets +onlyGivenNames -underBinder -merge -useContext x1
      clear_value x1
      refine K.step ?_ (State.postNext_keeps _ _) rfl
      refine K.step ?_ (State.setPost_keeps _ _ _) rfl
      refine K.step ?_ (State.setSrc_keeps _ _ _) rfl
      exact K.refl
    · exact K.refl

theorem State.sendOffer_keeps : ∀ a0 a1 a2 a3, K gS 3588 a0 (State.sendOffer a0 a1 a2 a3) := by
  intro a0 a1 a2 a3
  unfold State.sendOffer
  refine K.step ?_ (State.toCore_keeps _ _ _ _) rfl
  exact K.refl

theorem State.settleOffer_keeps : ∀ a0 a1 a2 a3, K gS 2147487236 a0 (State.settleOffer a0 a1 a2 a3) := by
  intro a0 a1 a2 a3
  unfold State.settleOffer
  extract_lets +onlyGivenNames -underBinder -merge -useContext x0
  clear_value x0
  extract_lets +onlyGivenNames -underBinder -merge -useContext x1
  clear_value x1
  extract_lets +onlyGivenNames -underBinder -merge -useContext x2
  clear_value x2
  refine K.ite (fun _ => ?_) (fun _ => ?_)
  · exact K.refl
  · extract_lets +onlyGivenNames -underBinder -merge -useContext x3
    have h4 : K gS 2147487236 a0 x3 := by
      refine K.step ?_ (State.setDistCore_keeps _ _ _) rfl
      exact K.refl
    clear_value x3
    split
    · refine K.step ?_ (State.sendOffer_keeps _ _ _ _) rfl
      exact h4
    · split
      · refine K.step ?_ (State.sendWithdraw_keeps _ _ _) rfl
        exact h4
      · exact h4

theorem State.settleCore_keeps : ∀ a0 a1 a2, K gS 2147487236 a0 (State.settleCore a0 a1 a2) := by
  intro a0 a1 a2
  unfold State.settleCore
  extract_lets +onlyGivenNames -underBinder -merge -useContext x0
  clear_value x0
  refine K.ite (fun _ => ?_) (fun _ => ?_)
  · exact K.refl
  · extract_lets +onlyGivenNames -underBinder -merge -useContext x1
    have h2 : K gS 2147487236 a0 x1 := by
      refine K.ite (fun _ => ?_) (fun _ => ?_)
      · refine K.step ?_ (State.setDistCore_keeps _ _ _) rfl
        exact K.refl
      · exact K.refl
    clear_value x1
    extract_lets +onlyGivenNames -underBinder -merge -useContext x3
    clear_value x3
    refine K.step ?_ (State.settleOffer_keeps _ _ _ _) rfl
    refine K.step ?_ (State.settleOffer_keeps _ _ _ _) rfl
    exact h2

theorem State.settle_keeps : ∀ a0, K gS 2147487236 a0 (State.settle a0) := by
  intro a0
  unfold State.settle
  refine K.ite (fun _ => ?_) (fun _ => ?_)
  · exact K.refl
  · extract_lets +onlyGivenNames -underBinder -merge -useContext x0
    have h1 : K gS 2147487236 a0 x0 := by
      refine K.foldl ?_ (fun y2 a3 h4 => ?_)
      · exact K.refl
      · refine K.step ?_ (State.settlePost_keeps _ _) rfl
        exact h4
    clear_value x0
    extract_lets +onlyGivenNames -underBinder -merge -useContext x5
    clear_value x5
    refine K.ite (fun _ => ?_) (fun _ => ?_)
    · exact h1
    · refine K.foldl ?_ (fun y6 a7 h8 => ?_)
      · exact h1
      · refine K.step ?_ (State.settleCore_keeps _ _ _) rfl
        exact h8

theorem State.raiseEdge_keeps : ∀ a0 a1, K gS 2147487236 a0 (State.raiseEdge a0 a1) := by
  intro a0 a1
  unfold State.raiseEdge
  refine K.ite (fun _ => ?_) (fun _ => ?_)
  · refine K.step ?_ (State.settle_keeps _) rfl
    refine K.step ?_ (State.latchEdge_keeps _ _) rfl
    exact K.refl
  · exact K.refl

theorem State.vcoreLeaves_keeps : ∀ a0 a1 a2, K gS 2147487236 a0 (State.vcoreLeaves a0 a1 a2) := by
  intro a0 a1 a2
  unfold State.vcoreLeaves
  extract_lets +onlyGivenNames -underBinder -merge -useContext x0
  clear_value x0
  extract_lets +onlyGivenNames -underBinder -merge -useContext x1
  clear_value x1
  split
  · refine K.step ?_ (State.sendWithdraw_keeps _ _ _) rfl
    refine K.step ?_ (State.setDistCore_keeps _ _ _) rfl
    exact K.refl
  · exact K.refl

theorem execAcceptance_keeps : ∀ a0 a1 a2 a3 a4, K gR 2147487236 a4 (execAcceptance a0 a1 a2 a3 a4) := by
  intro a0 a1 a2 a3 a4
  unfold execAcceptance
  extract_lets +onlyGivenNames -underBinder -merge -useContext x0
  have h1 : K gS 2147487236 a4 x0 := by
    refine K.step ?_ (State.acceptSrc_keeps _ _ _) rfl
    refine K.step ?_ (State.recv_keeps _ _) rfl
    exact K.refl
  clear_value x0
  extract_lets +onlyGivenNames -underBinder -merge -useContext x2
  clear_value x2
  refine K.mkR ?_
  refine K.step ?_ (State.settle_keeps _) rfl
  refine K.step ?_ (State.setDistCore_keeps _ _ _) rfl
  exact h1

theorem execEdgeNote_keeps : ∀ a0 a1 a2, K gR 2147487236 a2 (execEdgeNote a0 a1 a2) := by
  intro a0 a1 a2
  unfold execEdgeNote
  extract_lets +onlyGivenNames -underBinder -merge -useContext x0
  have h1 : K gS 2147487236 a2 x0 := by
    refine K.step ?_ (State.recv_keeps _ _) rfl
    exact K.refl
  clear_value x0
  refine K.mkR ?_
  refine K.ite (fun _ => ?_) (fun _ => ?_)
  · refine K.step ?_ (State.settle_keeps _) rfl
    refine K.step ?_ (State.modSrc_keeps _ _ _) rfl
    refine K.step ?_ (State.latchEdge_keeps _ _) rfl
    exact h1
  · exact h1

theorem execIrqCfgWrite_keeps : ∀ a0 a1 a2, K gR 2147487236 a2 (execIrqCfgWrite a0 a1 a2) := by
  intro a0 a1 a2
  unfold execIrqCfgWrite
  extract_lets +onlyGivenNames -underBinder -merge -useContext x0
  clear_value x0
  extract_lets +onlyGivenNames -underBinder -merge -useContext x1
  clear_value x1
  refine K.mkR ?_
  refine K.ite (fun _ => ?_) (fun _ => ?_)
  · exact K.refl
  · refine K.ite (fun _ => ?_) (fun _ => ?_)
    · refine K.step ?_ (State.irqReject_keeps _ _) rfl
      exact K.refl
    · refine K.ite (fun _ => ?_) (fun _ => ?_)
      · refine K.step ?_ (State.irqReject_keeps _ _) rfl
        exact K.refl
      · extract_lets +onlyGivenNames -underBinder -merge -useContext x2
        clear_value x2
        extract_lets +onlyGivenNames -underBinder -merge -useContext x3
        clear_value x3
        extract_lets +onlyGivenNames -underBinder -merge -useContext x4
        clear_value x4
        refine K.ite (fun _ => ?_) (fun _ => ?_)
        · refine K.step ?_ (State.settle_keeps _) rfl
          refine K.step ?_ (State.setSrc_keeps _ _ _) rfl
          exact K.refl
        · extract_lets +onlyGivenNames -underBinder -merge -useContext x5
          have h6 : K gS 2147487236 a2 x5 := by
            refine K.step ?_ (State.fastWithdraw_keeps _ _) rfl
            exact K.refl
          clear_value x5
          extract_lets +onlyGivenNames -underBinder -merge -useContext x7
          clear_value x7
          split
          · extract_lets +onlyGivenNames -underBinder -merge -useContext x9
            clear_value x9
            extract_lets +onlyGivenNames -underBinder -merge -useContext x10
            clear_value x10
            extract_lets +onlyGivenNames -underBinder -merge -useContext x11
            clear_value x11
            extract_lets +onlyGivenNames -underBinder -merge -useContext x12
            have h13 : K gS 2147487236 a2 x12 := by
              refine K.step ?_ (State.setDistCore_keeps _ _ _) rfl
              refine K.step ?_ (State.setSrc_keeps _ _ _) rfl
              exact h6
            clear_value x12
            extract_lets +onlyGivenNames -underBinder -merge -useContext x14
            have h15 : K gS 2147487236 a2 x14 := by
              refine K.ite (fun _ => ?_) (fun _ => ?_)
              · exact h13
              · refine K.step ?_ (State.sendWithdraw_keeps _ _ _) rfl
                exact h13
            clear_value x14
            refine K.step ?_ (State.settle_keeps _) rfl
            exact h15
          · refine K.step ?_ (State.settle_keeps _) rfl
            refine K.step ?_ (State.setSrc_keeps _ _ _) rfl
            exact h6

theorem execIrqCtlWrite_keeps : ∀ a0 a1, K gR 2147487236 a1 (execIrqCtlWrite a0 a1) := by
  intro a0 a1
  unfold execIrqCtlWrite
  refine K.mkR ?_
  refine K.step ?_ (State.settle_keeps _) rfl
  refine K.step ?_ (State.setFld_keeps _ _ _ _) rfl
  exact K.refl

theorem execIrqEnclr_keeps : ∀ a0 a1 a2 a3, K gR 2147487236 a3 (execIrqEnclr a0 a1 a2 a3) := by
  intro a0 a1 a2 a3
  unfold execIrqEnclr
  refine K.mkR ?_
  refine K.step ?_ (State.settle_keeps _) rfl
  refine K.foldl ?_ (fun y0 a1 h2 => ?_)
  · exact K.refl
  · refine K.step ?_ (State.fastWithdraw_keeps _ _) rfl
    refine K.step ?_ (State.modSrc_keeps _ _ _) rfl
    exact h2

theorem execIrqEnset_keeps : ∀ a0 a1 a2 a3, K gR 2147487236 a3 (execIrqEnset a0 a1 a2 a3) := by
  intro a0 a1 a2 a3
  unfold execIrqEnset
  refine K.mkR ?_
  refine K.step ?_ (State.settle_keeps _) rfl
  refine K.foldl ?_ (fun y0 a1 h2 => ?_)
  · exact K.refl
  · refine K.step ?_ (State.modSrc_keeps _ _ _) rfl
    exact h2

theorem execIrqPdisc_keeps : ∀ a0 a1, K gR 2147487236 a1 (execIrqPdisc a0 a1) := by
  intro a0 a1
  unfold execIrqPdisc
  extract_lets +onlyGivenNames -underBinder -merge -useContext x0
  clear_value x0
  extract_lets +onlyGivenNames -underBinder -merge -useContext x1
  have h2 : K gS 2147487236 a1 x1 := by
    refine K.foldl ?_ (fun y3 a4 h5 => ?_)
    · exact K.refl
    · refine K.step ?_ (State.modSrc_keeps _ _ _) rfl
      exact h5
  clear_value x1
  extract_lets +onlyGivenNames -underBinder -merge -useContext x6
  clear_value x6
  extract_lets +onlyGivenNames -underBinder -merge -useContext x7
  have h8 : K gS 2147487236 a1 x7 := by
    refine K.foldl ?_ (fun y9 a10 h11 => ?_)
    · exact h2
    · extract_lets +onlyGivenNames -underBinder -merge -useContext x12
      clear_value x12
      refine K.step ?_ (State.sendWithdraw_keeps _ _ _) rfl
      refine K.step ?_ (State.setDistCore_keeps _ _ _) rfl
      exact h11
  clear_value x7
  extract_lets +onlyGivenNames -underBinder -merge -useContext x13
  clear_value x13
  extract_lets +onlyGivenNames -underBinder -merge -useContext x14
  have h15 : K gS 2147487236 a1 x14 := by
    refine K.upd2147483648 ?_ rfl
    exact h8
  clear_value x14
  extract_lets +onlyGivenNames -underBinder -merge -useContext x16
  clear_value x16
  extract_lets +onlyGivenNames -underBinder -merge -useContext x17
  clear_value x17
  extract_lets +onlyGivenNames -underBinder -merge -useContext x18
  have h19 : K gS 2147487236 a1 x18 := by
    refine K.step ?_ (State.setBit_keeps _ _ _ _) rfl
    refine K.step ?_ (State.setReg_keeps _ _ _) rfl
    refine K.step ?_ (State.setPost_keeps _ _ _) rfl
    exact h15
  clear_value x18
  extract_lets +onlyGivenNames -underBinder -merge -useContext x20
  have h21 : K gS 2147487236 a1 x20 := by
    refine K.step ?_ (State.setFld_keeps _ _ _ _) rfl
    refine K.step ?_ (State.setFlag_keeps _ _ _ _) rfl
    exact h19
  clear_value x20
  refine K.mkR ?_
  refine K.step ?_ (State.settle_keeps _) rfl
  refine K.step ?_ (State.setFlag_keeps _ _ _ _) rfl
  exact h21

theorem execIrqPendclr_keeps : ∀ a0 a1 a2 a3, K gR 2147487236 a3 (execIrqPendclr a0 a1 a2 a3) := by
  intro a0 a1 a2 a3
  unfold execIrqPendclr
  refine K.mkR ?_
  refine K.step ?_ (State.settle_keeps _) rfl
  refine K.foldl ?_ (fun y0 a1 h2 => ?_)
  · exact K.refl
  · refine K.step ?_ (State.fastWithdraw_keeps _ _) rfl
    refine K.step ?_ (State.modSrc_keeps _ _ _) rfl
    exact h2

theorem execIrqPendset_keeps : ∀ a0 a1 a2 a3, K gR 2147487236 a3 (execIrqPendset a0 a1 a2 a3) := by
  intro a0 a1 a2 a3
  unfold execIrqPendset
  refine K.mkR ?_
  refine K.step ?_ (State.settle_keeps _) rfl
  refine K.foldl ?_ (fun y0 a1 h2 => ?_)
  · exact K.refl
  · refine K.step ?_ (State.modSrc_keeps _ _ _) rfl
    exact h2

theorem execIrqPtbaseWrite_keeps : ∀ a0 a1 a2, K gR 2147487236 a2 (execIrqPtbaseWrite a0 a1 a2) := by
  intro a0 a1 a2
  unfold execIrqPtbaseWrite
  extract_lets +onlyGivenNames -underBinder -merge -useContext x0
  clear_value x0
  extract_lets +onlyGivenNames -underBinder -merge -useContext x1
  clear_value x1
  extract_lets +onlyGivenNames -underBinder -merge -useContext x2
  clear_value x2
  refine K.mkR ?_
  refine K.ite (fun _ => ?_) (fun _ => ?_)
  · refine K.ite (fun _ => ?_) (fun _ => ?_)
    · refine K.step ?_ (State.setReg_keeps _ _ _) rfl
      exact K.refl
    · refine K.step ?_ (State.setFlag_keeps _ _ _ _) rfl
      exact K.refl
  · refine K.ite (fun _ => ?_) (fun _ => ?_)
    · refine K.step ?_ (State.irqReject_keeps _ _) rfl
      exact K.refl
    · refine K.step ?_ (State.settle_keeps _) rfl
      refine K.step ?_ (State.postNext_keeps _ _) rfl
      refine K.step ?_ (State.setReg_keeps _ _ _) rfl
      exact K.refl

theorem execIrqPttailWrite_keeps : ∀ a0 a1 a2, K gR 2147487236 a2 (execIrqPttailWrite a0 a1 a2) := by
  intro a0 a1 a2
  unfold execIrqPttailWrite
  extract_lets +onlyGivenNames -underBinder -merge -useContext x0
  clear_value x0
  extract_lets +onlyGivenNames -underBinder -merge -useContext x1
  clear_value x1
  extract_lets +onlyGivenNames -underBinder -merge -useContext x2
  clear_value x2
  refine K.mkR ?_
  refine K.ite (fun _ => ?_) (fun _ => ?_)
  · refine K.step ?_ (State.settle_keeps _) rfl
    refine K.step ?_ (State.postNext_keeps _ _) rfl
    refine K.step ?_ (State.setReg_keeps _ _ _) rfl
    exact K.refl
  · refine K.step ?_ (State.irqReject_keeps _ _) rfl
    exact K.refl

theorem execIrqSwsend_keeps : ∀ a0 a1 a2, K gR 2147487236 a2 (execIrqSwsend a0 a1 a2) := by
  intro a0 a1 a2
  unfold execIrqSwsend
  refine K.mkR ?_
  refine K.ite (fun _ => ?_) (fun _ => ?_)
  · refine K.step ?_ (State.settle_keeps _) rfl
    refine K.foldl ?_ (fun y0 a1 h2 => ?_)
    · exact K.refl
    · refine K.step ?_ (State.latchEdge_keeps _ _) rfl
      exact h2
  · exact K.refl

theorem execIrqVcoreWrite_keeps : ∀ a0 a1 a2, K gR 2147487236 a2 (execIrqVcoreWrite a0 a1 a2) := by
  intro a0 a1 a2
  unfold execIrqVcoreWrite
  extract_lets +onlyGivenNames -underBinder -merge -useContext x0
  clear_value x0
  extract_lets +onlyGivenNames -underBinder -merge -useContext x1
  clear_value x1
  refine K.mkR ?_
  refine K.ite (fun _ => ?_) (fun _ => ?_)
  · exact K.refl
  · refine K.ite (fun _ => ?_) (fun _ => ?_)
    · refine K.step ?_ (State.irqReject_keeps _ _) rfl
      exact K.refl
    · refine K.step ?_ (State.settle_keeps _) rfl
      refine K.step ?_ (State.setReg_keeps _ _ _) rfl
      refine K.step ?_ (State.vcoreLeaves_keeps _ _ _) rfl
      exact K.refl

theorem execOffer_keeps : ∀ a0 a1 a2 a3 a4 a5, K gR 544 a5 (execOffer a0 a1 a2 a3 a4 a5) := by
  intro a0 a1 a2 a3 a4 a5
  unfold execOffer
  refine K.mkR ?_
  refine K.ite (fun _ => ?_) (fun _ => ?_)
  · refine K.step ?_ (State.holdOffer_keeps _ _ _) rfl
    refine K.step ?_ (State.recv_keeps _ _) rfl
    exact K.refl
  · exact K.refl

theorem execOfferRefused_keeps : ∀ a0 a1 a2, K gR 2214593028 a2 (execOfferRefused a0 a1 a2) := by
  intro a0 a1 a2
  unfold execOfferRefused
  extract_lets +onlyGivenNames -underBinder -merge -useContext x0
  clear_value x0
  refine K.mkR ?_
  split
  · extract_lets +onlyGivenNames -underBinder -merge -useContext x2
    clear_value x2
    extract_lets +onlyGivenNames -underBinder -merge -useContext x3
    clear_value x3
    extract_lets +onlyGivenNames -underBinder -merge -useContext x4
    have h5 : K gS 2214593028 a2 x4 := by
      refine K.upd512 ?_ rfl
      exact K.refl
    clear_value x4
    refine K.step ?_ (State.coreWake_keeps _ _ _) rfl
    refine K.step ?_ (State.bump_keeps _ _ _ _) rfl
    refine K.step ?_ (State.setDistCore_keeps _ _ _) rfl
    exact h5
  · exact K.refl

theorem execPostingWriteAck_keeps : ∀ a0 a1 a2, K gR 2147487358 a2 (execPostingWriteAck a0 a1 a2) := by
  intro a0 a1 a2
  unfold execPostingWriteAck
  extract_lets +onlyGivenNames -underBinder -merge -useContext x0
  clear_value x0
  extract_lets +onlyGivenNames -underBinder -merge -useContext x1
  clear_value x1
  extract_lets +onlyGivenNames -underBinder -merge -useContext x2
  clear_value x2
  extract_lets +onlyGivenNames -underBinder -merge -useContext x3
  clear_value x3
  extract_lets +onlyGivenNames -underBinder -merge -useContext x4
  have h5 : K gS 2147487358 a2 x4 := by
    refine K.upd512 ?_ rfl
    exact K.refl
  clear_value x4
  extract_lets +onlyGivenNames -underBinder -merge -useContext x6
  have h7 : K gS 2147487358 a2 x6 := by
    dsimp -zeta only [x6]
    split
    · refine K.ite (fun _ => ?_) (fun _ => ?_)
      · refine K.step ?_ (State.engWrite_keeps _ _ _ _ _) rfl
        exact h5
      · refine K.ite (fun _ => ?_) (fun _ => ?_)
        · exact h5
        · refine K.step ?_ (State.engRefused_keeps _ _ _ _ _ _) rfl
          exact h5
    · exact h5
  clear_value x6
  extract_lets +onlyGivenNames -underBinder -merge -useContext x10
  have h11 : K gS 2147487358 a2 x10 := by
    refine K.ite (fun _ => ?_) (fun _ => ?_)
    · exact h7
    · refine K.step ?_ (State.setFlag_keeps _ _ _ _) rfl
      exact h7
  clear_value x10
  refine K.mkR ?_
  refine K.ite (fun _ => ?_) (fun _ => ?_)
  · refine K.step ?_ (State.settle_keeps _) rfl
    refine K.step ?_ (State.setPost_keeps _ _ _) rfl
    exact h11
  · split
    · exact K.refl
    · extract_lets +onlyGivenNames -underBinder -merge -useContext x14
      have h15 : K gS 2147487358 a2 x14 := by
        refine K.step ?_ (State.setPost_keeps _ _ _) rfl
        exact h11
      clear_value x14
      extract_lets +onlyGivenNames -underBinder -merge -useContext x16
      have h17 : K gS 2147487358 a2 x16 := by
        refine K.ite (fun _ => ?_) (fun _ => ?_)
        · refine K.step ?_ (State.setBit_keeps _ _ _ _) rfl
          refine K.step ?_ (State.setReg_keeps _ _ _) rfl
          exact h15
        · exact h15
      clear_value x16
      refine K.step ?_ (State.settle_keeps _) rfl
      refine K.step ?_ (State.postNext_keeps _ _) rfl
      exact h17

theorem execSourceEdge_keeps : ∀ a0 a1, K gR 10737421828 a1 (execSourceEdge a0 a1) := by
  intro a0 a1
  unfold execSourceEdge
  refine K.mkR ?_
  refine K.step ?_ (State.raiseEdge_keeps _ _) rfl
  refine K.step ?_ (State.injectSvc_keeps _) rfl
  refine K.step ?_ (State.recv_keeps _ _) rfl
  exact K.refl

theorem execSourceLineChange_keeps : ∀ a0 a1 a2, K gR 2147487236 a2 (execSourceLineChange a0 a1 a2) := by
  intro a0 a1 a2
  unfold execSourceLineChange
  refine K.mkR ?_
  refine K.ite (fun _ => ?_) (fun _ => ?_)
  · extract_lets +onlyGivenNames -underBinder -merge -useContext x0
    clear_value x0
    extract_lets +onlyGivenNames -underBinder -merge -useContext x1
    have h2 : K gS 2147487236 a2 x1 := by
      refine K.step ?_ (State.modSrc_keeps _ _ _) rfl
      exact K.refl
    clear_value x1
    extract_lets +onlyGivenNames -underBinder -merge -useContext x3
    clear_value x3
    extract_lets +onlyGivenNames -underBinder -merge -useContext x4
    clear_value x4
    extract_lets +onlyGivenNames -underBinder -merge -useContext x5
    clear_value x5
    refine K.step ?_ (State.settle_keeps _) rfl
    refine K.ite (fun _ => ?_) (fun _ => ?_)
    · refine K.step ?_ (State.latchEdge_keeps _ _) rfl
      exact h2
    · exact h2
  · refine K.ite (fun _ => ?_) (fun _ => ?_)
    · refine K.step ?_ (State.settle_keeps _) rfl
      exact K.refl
    · exact K.refl

theorem execWithdraw_keeps : ∀ a0 a1 a2, K gR 544 a2 (execWithdraw a0 a1 a2) := by
  intro a0 a1 a2
  unfold execWithdraw
  refine K.mkR ?_
  refine K.step ?_ (State.send_keeps _ _) rfl
  refine K.step ?_ (State.modCore_keeps _ _ _) rfl
  refine K.step ?_ (State.recv_keeps _ _) rfl
  exact K.refl

theorem execWithdrawAcknowledgement_keeps : ∀ a0 a1 a2, K gR 2147487236 a2 (execWithdrawAcknowledgement a0 a1 a2) := by
  intro a0 a1 a2
  unfold execWithdrawAcknowledgement
  extract_lets +onlyGivenNames -underBinder -merge -useContext x0
  have h1 : K gS 2147487236 a2 x0 := by
    refine K.step ?_ (State.modSrc_keeps _ _ _) rfl
    refine K.step ?_ (State.recv_keeps _ _) rfl
    exact K.refl
  clear_value x0
  extract_lets +onlyGivenNames -underBinder -merge -useContext x2
  clear_value x2
  extract_lets +onlyGivenNames -underBinder -merge -useContext x3
  clear_value x3
  extract_lets +onlyGivenNames -underBinder -merge -useContext x4
  have h5 : K gS 2147487236 a2 x4 := by
    refine K.upd2147483648 ?_ rfl
    exact h1
  clear_value x4
  refine K.mkR ?_
  refine K.step ?_ (State.settle_keeps _) rfl
  refine K.ite (fun _ => ?_) (fun _ => ?_)
  · refine K.step ?_ (State.setFlag_keeps _ _ _ _) rfl
    exact h5
  · exact h5

theorem State.linkFail_keeps : ∀ a0 a1 a2 a3 a4, K gS 8589937156 a0 (State.linkFail a0 a1 a2 a3 a4) := by
  intro a0 a1 a2 a3 a4
  unfold State.linkFail
  extract_lets +onlyGivenNames -underBinder -merge -useContext x0
  clear_value x0
  extract_lets +onlyGivenNames -underBinder -merge -useContext x1
  clear_value x1
  extract_lets +onlyGivenNames -underBinder -merge -useContext x2
  clear_value x2
  split
  · refine K.step ?_ (State.send_keeps _ _) rfl
    refine K.step ?_ (State.correctedI_keeps _ _ _ _) rfl
    refine K.step ?_ (State.bump_keeps _ _ _ _) rfl
    refine K.step ?_ (State.setLinkState_keeps _ _ _) rfl
    exact K.refl
  · extract_lets +onlyGivenNames -underBinder -merge -useContext x5
    have h6 : K gS 8589937156 a0 x5 := by
      refine K.step ?_ (State.setLink_keeps _ _ _) rfl
      exact K.refl
    clear_value x5
    refine K.step ?_ (State.send_keeps _ _) rfl
    refine K.step ?_ (State.failureI_keeps _ _ _ _ _ _ _ _) rfl
    refine K.step ?_ (State.bump_keeps _ _ _ _) rfl
    refine K.step ?_ (State.setLinkState_keeps _ _ _) rfl
    exact h6
  · refine K.ite (fun _ => ?_) (fun _ => ?_)
    · extract_lets +onlyGivenNames -underBinder -merge -useContext x8
      have h9 : K gS 8589937156 a0 x8 := by
        refine K.step ?_ (State.setLink_keeps _ _ _) rfl
        exact K.refl
      clear_value x8
      refine K.step ?_ (State.failureI_keeps _ _ _ _ _ _ _ _) rfl
      refine K.step ?_ (State.setBit_keeps _ _ _ _) rfl
      refine K.step ?_ (State.setLinkState_keeps _ _ _) rfl
      exact h9
    · refine K.step ?_ (State.setLink_keeps _ _ _) rfl
      exact K.refl
  · exact K.refl

theorem State.setTokens_keeps : ∀ a0 a1 a2, K gS 1024 a0 (State.setTokens a0 a1 a2) := by
  intro a0 a1 a2
  unfold State.setTokens
  refine K.step ?_ (State.setEp_keeps _ _ _) rfl
  exact K.refl

theorem State.reopen_keeps : ∀ a0 a1, K gS 1540 a0 (State.reopen a0 a1) := by
  intro a0 a1
  unfold State.reopen
  refine K.ite (fun _ => ?_) (fun _ => ?_)
  · refine K.step ?_ (State.broadcast_keeps _ _ _) rfl
    refine K.step ?_ (State.setTokens_keeps _ _ _) rfl
    refine K.step ?_ (State.setEpState_keeps _ _ _) rfl
    exact K.refl
  · exact K.refl

theorem execFlitReceive_keeps : ∀ a0 a1 a2 a3 a4 a5, K gR 8589937156 a5 (execFlitReceive a0 a1 a2 a3 a4 a5) := by
  intro a0 a1 a2 a3 a4 a5
  unfold execFlitReceive
  extract_lets +onlyGivenNames -underBinder -merge -useContext x0
  clear_value x0
  extract_lets +onlyGivenNames -underBinder -merge -useContext x1
  clear_value x1
  refine K.mkR ?_
  refine K.ite (fun _ => ?_) (fun _ => ?_)
  · exact K.refl
  · extract_lets +onlyGivenNames -underBinder -merge -useContext x2
    have h3 : K gS 8589937156 a5 x2 := by
      refine K.step ?_ (State.bump_keeps _ _ _ _) rfl
      exact K.refl
    clear_value x2
    split
    · refine K.step ?_ (State.injTriggered_keeps _) rfl
      refine K.step ?_ (State.linkFail_keeps _ _ _ _ _) rfl
      exact h3
    · refine K.step ?_ (State.injTriggered_keeps _) rfl
      refine K.step ?_ (State.linkFail_keeps _ _ _ _ _) rfl
      refine K.step ?_ (State.linkFail_keeps _ _ _ _ _) rfl
      exact h3
    · refine K.ite (fun _ => ?_) (fun _ => ?_)
      · extract_lets +onlyGivenNames -underBinder -merge -useContext x7
        clear_value x7
        refine K.step ?_ (State.setLink_keeps _ _ _) rfl
        exact h3
      · refine K.step ?_ (State.linkFail_keeps _ _ _ _ _) rfl
        exact h3

theorem execInjectionBucketAccrual_keeps : ∀ a0, K gR 1024 a0 (execInjectionBucketAccrual a0) := by
  intro a0
  unfold execInjectionBucketAccrual
  refine K.mkR ?_
  refine K.ite (fun _ => ?_) (fun _ => ?_)
  · refine K.foldl ?_ (fun y0 a1 h2 => ?_)
    · exact K.refl
    · refine K.step ?_ (State.setTokens_keeps _ _ _) rfl
      exact h2
  · exact K.refl

theorem execLinkMonitorAccrual_keeps : ∀ a0, K gR 2048 a0 (execLinkMonitorAccrual a0) := by
  intro a0
  unfold execLinkMonitorAccrual
  refine K.mkR ?_
  refine K.ite (fun _ => ?_) (fun _ => ?_)
  · refine K.foldl ?_ (fun y0 a1 h2 => ?_)
    · exact K.refl
    · extract_lets +onlyGivenNames -underBinder -merge -useContext x3
      clear_value x3
      refine K.step ?_ (State.setLink_keeps _ _ _) rfl
      exact h2
  · exact K.refl

theorem execLinkNak_keeps : ∀ a0 a1 a2, K gR 2560 a2 (execLinkNak a0 a1 a2) := by
  intro a0 a1 a2
  unfold execLinkNak
  extract_lets +onlyGivenNames -underBinder -merge -useContext x0
  have h1 : K gS 2560 a2 x0 := by
    refine K.step ?_ (State.recv_keeps _ _) rfl
    exact K.refl
  clear_value x0
  extract_lets +onlyGivenNames -underBinder -merge -useContext x2
  clear_value x2
  refine K.mkR ?_
  refine K.ite (fun _ => ?_) (fun _ => ?_)
  · exact h1
  · refine K.step ?_ (State.setLink_keeps _ _ _) rfl
    exact h1

theorem execRetryWindowClose_keeps : ∀ a0 a1 a2, K gR 2052 a2 (execRetryWindowClose a0 a1 a2) := by
  intro a0 a1 a2
  unfold execRetryWindowClose
  extract_lets +onlyGivenNames -underBinder -merge -useContext x0
  clear_value x0
  refine K.mkR ?_
  refine K.ite (fun _ => ?_) (fun _ => ?_)
  · extract_lets +onlyGivenNames -underBinder -merge -useContext x1
    clear_value x1
    refine K.step ?_ (State.setLinkState_keeps _ _ _) rfl
    refine K.step ?_ (State.setLink_keeps _ _ _) rfl
    exact K.refl
  · exact K.refl

theorem execRtrTc0bktWrite_keeps : ∀ a0 a1 a2 a3, K gR 1028 a3 (execRtrTc0bktWrite a0 a1 a2 a3) := by
  intro a0 a1 a2 a3
  unfold execRtrTc0bktWrite
  extract_lets +onlyGivenNames -underBinder -merge -useContext x0
  clear_value x0
  refine K.mkR ?_
  refine K.ite (fun _ => ?_) (fun _ => ?_)
  · exact K.refl
  · extract_lets +onlyGivenNames -underBinder -merge -useContext x1
    have h2 : K gS 1028 a3 x1 := by
      refine K.step ?_ (State.writeReg_keeps _ _ _ _) rfl
      exact K.refl
    clear_value x1
    refine K.step ?_ (State.setTokens_keeps _ _ _) rfl
    exact h2

theorem execRtrTc0capWrite_keeps : ∀ a0 a1 a2, K gR 4 a2 (execRtrTc0capWrite a0 a1 a2) := by
  intro a0 a1 a2
  unfold execRtrTc0capWrite
  refine K.mkR ?_
  refine K.ite (fun _ => ?_) (fun _ => ?_)
  · exact K.refl
  · refine K.step ?_ (State.writeReg_keeps _ _ _ _) rfl
    exact K.refl

end Sys2Proof.Machine
end

