-- ==== Sys2Proof/Laws/KeepsMc.lean ====
section
/-!
SUPPORT. What each function and each command of Machine/Mc.lean, Machine/Time.lean can change (Laws/Keeps.lean), one lemma each.
-/
namespace Sys2Proof.Machine

theorem State.setChan_keeps : ∀ a0 a1 a2, K gS 16384 a0 (State.setChan a0 a1 a2) := by
  intro a0 a1 a2
  unfold State.setChan
  refine K.upd16384 ?_ rfl
  exact K.refl

theorem State.modChan_keeps : ∀ a0 a1 a2, K gS 16384 a0 (State.modChan a0 a1 a2) := by
  intro a0 a1 a2
  unfold State.modChan
  refine K.step ?_ (State.setChan_keeps _ _ _) rfl
  exact K.refl

theorem State.poisonWord_keeps : ∀ a0 a1 a2, K gS 24 a0 (State.poisonWord a0 a1 a2) := by
  intro a0 a1 a2
  unfold State.poisonWord
  refine K.step ?_ (State.setBytesP_keeps _ _ _ _) rfl
  exact K.refl

theorem State.badWord_keeps : ∀ a0 a1 a2 a3 a4 a5, K gS 8589951006 a0 (State.badWord a0 a1 a2 a3 a4 a5) := by
  intro a0 a1 a2 a3 a4 a5
  unfold State.badWord
  extract_lets +onlyGivenNames -underBinder -merge -useContext x0
  clear_value x0
  extract_lets +onlyGivenNames -underBinder -merge -useContext x1
  have h2 : K g2 8589951006 a0 x1 := by
    refine K.step ?_ (State.choose_keeps _ _) rfl
    exact K.refl
  clear_value x1
  extract_lets +onlyGivenNames -underBinder -merge -useContext x3
  have h4 : K gS 8589951006 a0 x3 := by
    refine K.step ?_ (State.bump_keeps _ _ _ _) rfl
    refine K.of2 ?_
    exact h2
  clear_value x3
  extract_lets +onlyGivenNames -underBinder -merge -useContext x5
  have h6 : K gS 8589951006 a0 x5 := by
    refine K.ite (fun _ => ?_) (fun _ => ?_)
    · exact h4
    · refine K.step ?_ (State.setFlag_keeps _ _ _ _) rfl
      refine K.step ?_ (State.setReg_keeps _ _ _) rfl
      refine K.step ?_ (State.setReg_keeps _ _ _) rfl
      exact h4
  clear_value x5
  extract_lets +onlyGivenNames -underBinder -merge -useContext x7
  have h8 : K gS 8589951006 a0 x7 := by
    refine K.step ?_ (State.modChan_keeps _ _ _) rfl
    exact h6
  clear_value x7
  refine K.step ?_ (State.poisonWord_keeps _ _ _) rfl
  refine K.step ?_ (State.failureI_keeps _ _ _ _ _ _ _ _) rfl
  exact h8

theorem State.holdReq_keeps : ∀ a0 a1 a2, K gS 16388 a0 (State.holdReq a0 a1 a2) := by
  intro a0 a1 a2
  unfold State.holdReq
  refine K.step ?_ (State.bump_keeps _ _ _ _) rfl
  refine K.step ?_ (State.modChan_keeps _ _ _) rfl
  exact K.refl

theorem State.setMemTokens_keeps : ∀ a0 a1 a2, K gS 32768 a0 (State.setMemTokens a0 a1 a2) := by
  intro a0 a1 a2
  unfold State.setMemTokens
  refine K.upd32768 ?_ rfl
  exact K.refl

theorem State.takeToken_keeps : ∀ a0 a1 a2, K gO 32768 a0 (State.takeToken a0 a1 a2) := by
  intro a0 a1 a2
  unfold State.takeToken
  extract_lets +onlyGivenNames -underBinder -merge -useContext x0
  clear_value x0
  extract_lets +onlyGivenNames -underBinder -merge -useContext x1
  clear_value x1
  refine K.ite (fun _ => ?_) (fun _ => ?_)
  · refine K.mkO ?_
    exact K.refl
  · refine K.ite (fun _ => ?_) (fun _ => ?_)
    · refine K.mkO ?_
      refine K.step ?_ (State.setMemTokens_keeps _ _ _) rfl
      exact K.refl
    · refine K.ite (fun _ => ?_) (fun _ => ?_)
      · refine K.mkO ?_
        exact K.refl
      · exact K.noneO

theorem State.startSparing_keeps : ∀ a0 a1 a2, K gS 4 a0 (State.startSparing a0 a1 a2) := by
  intro a0 a1 a2
  unfold State.startSparing
  refine K.ite (fun _ => ?_) (fun _ => ?_)
  · refine K.step ?_ (State.setFld_keeps _ _ _ _) rfl
    refine K.step ?_ (State.setFld_keeps _ _ _ _) rfl
    exact K.refl
  · exact K.refl

theorem State.correctedWord_keeps : ∀ a0 a1 a2 a3 a4, K gS 8589934596 a0 (State.correctedWord a0 a1 a2 a3 a4) := by
  intro a0 a1 a2 a3 a4
  unfold State.correctedWord
  extract_lets +onlyGivenNames -underBinder -merge -useContext x0
  clear_value x0
  extract_lets +onlyGivenNames -underBinder -merge -useContext x1
  have h2 : K gS 8589934596 a0 x1 := by
    refine K.step ?_ (State.bump_keeps _ _ _ _) rfl
    refine K.step ?_ (State.bump_keeps _ _ _ _) rfl
    exact K.refl
  clear_value x1
  extract_lets +onlyGivenNames -underBinder -merge -useContext x3
  have h4 : K gS 8589934596 a0 x3 := by
    refine K.step ?_ (State.correctedI_keeps _ _ _ _) rfl
    refine K.step ?_ (State.setFld_keeps _ _ _ _) rfl
    refine K.step ?_ (State.setFlag_keeps _ _ _ _) rfl
    exact h2
  clear_value x3
  extract_lets +onlyGivenNames -underBinder -merge -useContext x5
  clear_value x5
  refine K.ite (fun _ => ?_) (fun _ => ?_)
  · refine K.step ?_ (State.startSparing_keeps _ _ _) rfl
    exact h4
  · exact h4

theorem State.wordFound_keeps : ∀ a0 a1 a2 a3 a4 a5 a6, K gS 8589951006 a0 (State.wordFound a0 a1 a2 a3 a4 a5 a6) := by
  intro a0 a1 a2 a3 a4 a5 a6
  unfold State.wordFound
  extract_lets +onlyGivenNames -underBinder -merge -useContext x0
  have h1 : K gS 8589951006 a0 x0 := by
    refine K.ite (fun _ => ?_) (fun _ => ?_)
    · refine K.step ?_ (State.modChan_keeps _ _ _) rfl
      exact K.refl
    · refine K.step ?_ (State.badWord_keeps _ _ _ _ _ _) rfl
      exact K.refl
  clear_value x0
  refine K.ite (fun _ => ?_) (fun _ => ?_)
  · exact K.refl
  · split
    · exact K.refl
    · exact h1
    · split
      · refine K.ite (fun _ => ?_) (fun _ => ?_)
        · refine K.step ?_ (State.correctedWord_keeps _ _ _ _ _) rfl
          exact K.refl
        · exact h1
      · extract_lets +onlyGivenNames -underBinder -merge -useContext x7
        have h8 : K gS 8589951006 a0 x7 := by
          refine K.step ?_ (State.correctedWord_keeps _ _ _ _ _) rfl
          exact K.refl
        clear_value x7
        refine K.ite (fun _ => ?_) (fun _ => ?_)
        · refine K.step ?_ (State.modChan_keeps _ _ _) rfl
          exact h8
        · exact h8

theorem State.mcReadNow_keeps : ∀ a0 a1 a2 a3 a4 a5, K gS 8589951006 a0 (State.mcReadNow a0 a1 a2 a3 a4 a5) := by
  intro a0 a1 a2 a3 a4 a5
  unfold State.mcReadNow
  split
  · extract_lets +onlyGivenNames -underBinder -merge -useContext x1
    have h2 : K gS 8589951006 a0 x1 := by
      refine K.step ?_ (State.modChan_keeps _ _ _) rfl
      exact K.refl
    clear_value x1
    refine K.step ?_ (State.injTriggered_keeps _) rfl
    refine K.step ?_ (State.wordFound_keeps _ _ _ _ _ _ _) rfl
    exact h2
  · refine K.step ?_ (State.injTriggered_keeps _) rfl
    refine K.step ?_ (State.wordFound_keeps _ _ _ _ _ _ _) rfl
    exact K.refl
  · refine K.step ?_ (State.wordFound_keeps _ _ _ _ _ _ _) rfl
    exact K.refl

theorem State.mcWriteNow_keeps : ∀ a0 a1 a2 a3 a4, K gS 16408 a0 (State.mcWriteNow a0 a1 a2 a3 a4) := by
  intro a0 a1 a2 a3 a4
  unfold State.mcWriteNow
  extract_lets +onlyGivenNames -underBinder -merge -useContext x0
  have h1 : ∀ y2 y3, K gS 16408 a0 y2 → K gS 16408 a0 (x0 y2 y3) := by
    intro y2 y3 h4
    dsimp -zeta only [x0]
    refine K.step ?_ (State.modChan_keeps _ _ _) rfl
    refine K.step ?_ (State.chanWrite_keeps _ _ _ _ _) rfl
    exact h4
  clear_value x0
  refine K.ite (fun _ => ?_) (fun _ => ?_)
  · refine h1 _ _ ?_
    refine h1 _ _ ?_
    exact K.refl
  · refine h1 _ _ ?_
    exact K.refl

theorem State.runReq_keeps : ∀ a0 a1 a2, K gS 8589951006 a0 (State.runReq a0 a1 a2) := by
  intro a0 a1 a2
  unfold State.runReq
  split
  · refine K.step ?_ (State.mcReadNow_keeps _ _ _ _ _ _) rfl
    exact K.refl
  · refine K.step ?_ (State.mcWriteNow_keeps _ _ _ _ _) rfl
    exact K.refl

theorem State.charged_keeps : ∀ a0 a1 a2, K gS 8589983774 a0 (State.charged a0 a1 a2) := by
  intro a0 a1 a2
  unfold State.charged
  refine K.ite (fun _ => ?_) (fun _ => ?_)
  · refine K.step ?_ (State.holdReq_keeps _ _ _) rfl
    exact K.refl
  · split
    · rename_i e0
      refine K.step ?_ (State.runReq_keeps _ _ _) rfl
      refine K.someO ?_ e0
      refine K.step ?_ (State.takeToken_keeps _ _ _) rfl
      exact K.refl
    · refine K.step ?_ (State.holdReq_keeps _ _ _) rfl
      exact K.refl

theorem State.degrade_keeps : ∀ a0 a1, K gS 4 a0 (State.degrade a0 a1) := by
  intro a0 a1
  unfold State.degrade
  extract_lets +onlyGivenNames -underBinder -merge -useContext x0
  clear_value x0
  refine K.ite (fun _ => ?_) (fun _ => ?_)
  · refine K.step ?_ (State.setFlag_keeps _ _ _ _) rfl
    refine K.step ?_ (State.setFlag_keeps _ _ _ _) rfl
    exact K.refl
  · exact K.refl

theorem State.loseChannel_keeps : ∀ a0 a1, K gS 16408 a0 (State.loseChannel a0 a1) := by
  intro a0 a1
  unfold State.loseChannel
  refine K.step ?_ (State.modChan_keeps _ _ _) rfl
  refine K.step ?_ (State.zeroRange_keeps _ _ _) rfl
  exact K.refl

theorem State.dropSaved_keeps : ∀ a0 a1, K gS 16388 a0 (State.dropSaved a0 a1) := by
  intro a0 a1
  unfold State.dropSaved
  refine K.step ?_ (State.setFlag_keeps _ _ _ _) rfl
  refine K.step ?_ (State.modChan_keeps _ _ _) rfl
  exact K.refl

theorem State.discardSaved_keeps : ∀ a0 a1, K gS 16412 a0 (State.discardSaved a0 a1) := by
  intro a0 a1
  unfold State.discardSaved
  extract_lets +onlyGivenNames -underBinder -merge -useContext x0
  have h1 : K gS 16412 a0 x0 := by
    refine K.step ?_ (State.dropSaved_keeps _ _) rfl
    exact K.refl
  clear_value x0
  refine K.ite (fun _ => ?_) (fun _ => ?_)
  · refine K.step ?_ (State.loseChannel_keeps _ _) rfl
    refine K.step ?_ (State.modChan_keeps _ _ _) rfl
    exact h1
  · exact h1

theorem State.setMc_keeps : ∀ a0 a1 a2, K gS 4 a0 (State.setMc a0 a1 a2) := by
  intro a0 a1 a2
  unfold State.setMc
  refine K.step ?_ (State.setFld_keeps _ _ _ _) rfl
  exact K.refl

theorem State.mcRetry_keeps : ∀ a0 a1 a2, K gS 8589951524 a0 (State.mcRetry a0 a1 a2) := by
  intro a0 a1 a2
  unfold State.mcRetry
  extract_lets +onlyGivenNames -underBinder -merge -useContext x0
  clear_value x0
  extract_lets +onlyGivenNames -underBinder -merge -useContext x1
  have h2 : K gS 8589951524 a0 x1 := by
    refine K.step ?_ (State.corrected_keeps _ _ _) rfl
    refine K.step ?_ (State.bump_keeps _ _ _ _) rfl
    refine K.step ?_ (State.modChan_keeps _ _ _) rfl
    exact K.refl
  clear_value x1
  refine K.ite (fun _ => ?_) (fun _ => ?_)
  · exact h2
  · extract_lets +onlyGivenNames -underBinder -merge -useContext x3
    clear_value x3
    extract_lets +onlyGivenNames -underBinder -merge -useContext x4
    have h5 : K gS 8589951524 a0 x4 := by
      refine K.step ?_ (State.bump_keeps _ _ _ _) rfl
      refine K.step ?_ (State.setMc_keeps _ _ _) rfl
      refine K.step ?_ (State.setFlag_keeps _ _ _ _) rfl
      exact h2
    clear_value x4
    refine K.step ?_ (State.degrade_keeps _ _) rfl
    refine K.step ?_ (State.kill_keeps _ _ _) rfl
    refine K.step ?_ (State.modChan_keeps _ _ _) rfl
    exact h5

theorem State.trainEnd_keeps : ∀ a0 a1 a2 a3, K gS 4 a0 (State.trainEnd a0 a1 a2 a3) := by
  intro a0 a1 a2 a3
  unfold State.trainEnd
  refine K.step ?_ (State.setFlag_keeps _ _ _ _) rfl
  refine K.step ?_ (State.setFld_keeps _ _ _ _) rfl
  refine K.step ?_ (State.setMc_keeps _ _ _) rfl
  exact K.refl

theorem State.resumeComplete_keeps : ∀ a0 a1 a2, K gS 17924 a0 (State.resumeComplete a0 a1 a2) := by
  intro a0 a1 a2
  unfold State.resumeComplete
  refine K.ite (fun _ => ?_) (fun _ => ?_)
  · extract_lets +onlyGivenNames -underBinder -merge -useContext x0
    clear_value x0
    extract_lets +onlyGivenNames -underBinder -merge -useContext x1
    have h2 : K gS 17924 a0 x1 := by
      refine K.step ?_ (State.setFlag_keeps _ _ _ _) rfl
      exact K.refl
    clear_value x1
    extract_lets +onlyGivenNames -underBinder -merge -useContext x3
    clear_value x3
    refine K.ite (fun _ => ?_) (fun _ => ?_)
    · refine K.step ?_ (State.trainEnd_keeps _ _ _ _) rfl
      exact h2
    · refine K.ite (fun _ => ?_) (fun _ => ?_)
      · refine K.step ?_ (State.trainEnd_keeps _ _ _ _) rfl
        exact h2
      · extract_lets +onlyGivenNames -underBinder -merge -useContext x4
        have h5 : K gS 17924 a0 x4 := by
          refine K.step ?_ (State.trainEnd_keeps _ _ _ _) rfl
          refine K.step ?_ (State.modChan_keeps _ _ _) rfl
          exact h2
        clear_value x4
        refine K.ite (fun _ => ?_) (fun _ => ?_)
        · refine K.step ?_ (State.reopen_keeps _ _) rfl
          exact h5
        · exact h5
  · exact K.refl

theorem State.saveSet_keeps : ∀ a0 a1, K gS 16388 a0 (State.saveSet a0 a1) := by
  intro a0 a1
  unfold State.saveSet
  refine K.step ?_ (State.setFlag_keeps _ _ _ _) rfl
  refine K.step ?_ (State.modChan_keeps _ _ _) rfl
  exact K.refl

theorem State.selfRefresh_keeps : ∀ a0 a1, K gS 16388 a0 (State.selfRefresh a0 a1) := by
  intro a0 a1
  unfold State.selfRefresh
  refine K.ite (fun _ => ?_) (fun _ => ?_)
  · refine K.step ?_ (State.setFlag_keeps _ _ _ _) rfl
    refine K.step ?_ (State.setMc_keeps _ _ _) rfl
    refine K.step ?_ (State.saveSet_keeps _ _) rfl
    refine K.step ?_ (State.modChan_keeps _ _ _) rfl
    exact K.refl
  · exact K.refl

theorem State.serveHeld_keeps : ∀ a0 a1 a2 a3, K gS 8589983774 a0 (State.serveHeld a0 a1 a2 a3) := by
  intro a0 a1 a2 a3
  induction a2 generalizing a0 a1 a3 with
  | nil =>
    rw [State.serveHeld]
    exact K.refl
  | cons e r ih =>
    rw [State.serveHeld]
    refine K.ite (fun _ => ?_) (fun _ => ?_)
    · refine K.step ?_ (ih _ _ _) rfl
      exact K.refl
    · split
      · rename_i e0
        refine K.step ?_ (ih _ _ _) rfl
        refine K.step ?_ (State.runReq_keeps _ _ _) rfl
        refine K.step ?_ (State.modChan_keeps _ _ _) rfl
        refine K.someO ?_ e0
        refine K.step ?_ (State.takeToken_keeps _ _ _) rfl
        exact K.refl
      · refine K.step ?_ (ih _ _ _) rfl
        exact K.refl

theorem State.srreqClear_keeps : ∀ a0 a1, K gS 4 a0 (State.srreqClear a0 a1) := by
  intro a0 a1
  unfold State.srreqClear
  extract_lets +onlyGivenNames -underBinder -merge -useContext x0
  have h1 : K gS 4 a0 x0 := by
    refine K.step ?_ (State.setFlag_keeps _ _ _ _) rfl
    exact K.refl
  clear_value x0
  refine K.ite (fun _ => ?_) (fun _ => ?_)
  · refine K.step ?_ (State.setMc_keeps _ _ _) rfl
    exact h1
  · exact h1

theorem State.startPpr_keeps : ∀ a0 a1 a2 a3 a4 a5, K gS 16388 a0 (State.startPpr a0 a1 a2 a3 a4 a5) := by
  intro a0 a1 a2 a3 a4 a5
  unfold State.startPpr
  extract_lets +onlyGivenNames -underBinder -merge -useContext x0
  clear_value x0
  extract_lets +onlyGivenNames -underBinder -merge -useContext x1
  have h2 : K gS 16388 a0 x1 := by
    refine K.step ?_ (State.setFld_keeps _ _ _ _) rfl
    refine K.step ?_ (State.setFlag_keeps _ _ _ _) rfl
    exact K.refl
  clear_value x1
  split
  · refine K.step ?_ (State.setFlag_keeps _ _ _ _) rfl
    refine K.step ?_ (State.setFld_keeps _ _ _ _) rfl
    exact h2
  · refine K.ite (fun _ => ?_) (fun _ => ?_)
    · exact h2
    · refine K.step ?_ (State.modChan_keeps _ _ _) rfl
      exact h2

theorem State.trainFull_keeps : ∀ a0 a1, K gS 16388 a0 (State.trainFull a0 a1) := by
  intro a0 a1
  unfold State.trainFull
  refine K.ite (fun _ => ?_) (fun _ => ?_)
  · extract_lets +onlyGivenNames -underBinder -merge -useContext x0
    have h1 : K gS 16388 a0 x0 := by
      refine K.step ?_ (State.setFld_keeps _ _ _ _) rfl
      exact K.refl
    clear_value x0
    split
    · refine K.step ?_ (State.trainEnd_keeps _ _ _ _) rfl
      exact h1
    · refine K.step ?_ (State.setMc_keeps _ _ _) rfl
      refine K.step ?_ (State.modChan_keeps _ _ _) rfl
      refine K.step ?_ (State.dropSaved_keeps _ _) rfl
      exact h1
  · exact K.refl

theorem State.trainResume_keeps : ∀ a0 a1, K gS 4 a0 (State.trainResume a0 a1) := by
  intro a0 a1
  unfold State.trainResume
  refine K.ite (fun _ => ?_) (fun _ => ?_)
  · refine K.step ?_ (State.setMc_keeps _ _ _) rfl
    refine K.step ?_ (State.setFld_keeps _ _ _ _) rfl
    exact K.refl
  · exact K.refl

theorem State.trainingEnds_keeps : ∀ a0 a1 a2, K gS 16412 a0 (State.trainingEnds a0 a1 a2) := by
  intro a0 a1 a2
  unfold State.trainingEnds
  refine K.ite (fun _ => ?_) (fun _ => ?_)
  · extract_lets +onlyGivenNames -underBinder -merge -useContext x0
    have h1 : K gS 16412 a0 x0 := by
      refine K.step ?_ (State.loseChannel_keeps _ _) rfl
      exact K.refl
    clear_value x0
    refine K.ite (fun _ => ?_) (fun _ => ?_)
    · refine K.step ?_ (State.trainEnd_keeps _ _ _ _) rfl
      refine K.step ?_ (State.saveSet_keeps _ _) rfl
      exact h1
    · refine K.step ?_ (State.trainEnd_keeps _ _ _ _) rfl
      exact h1
  · exact K.refl

theorem execAlertN_keeps : ∀ a0 a1 a2, K gR 8589951524 a2 (execAlertN a0 a1 a2) := by
  intro a0 a1 a2
  unfold execAlertN
  refine K.mkR ?_
  refine K.ite (fun _ => ?_) (fun _ => ?_)
  · refine K.step ?_ (State.mcRetry_keeps _ _ _) rfl
    exact K.refl
  · exact K.refl

theorem execDemandScrubWrite_keeps : ∀ a0 a1 a2, K gR 16384 a2 (execDemandScrubWrite a0 a1 a2) := by
  intro a0 a1 a2
  unfold execDemandScrubWrite
  refine K.mkR ?_
  refine K.ite (fun _ => ?_) (fun _ => ?_)
  · refine K.step ?_ (State.modChan_keeps _ _ _) rfl
    exact K.refl
  · exact K.refl

theorem execDramctlApply_keeps : ∀ a0, K gR 260 a0 (execDramctlApply a0) := by
  intro a0
  unfold execDramctlApply
  refine K.mkR ?_
  split
  · refine K.step ?_ (State.setFld_keeps _ _ _ _) rfl
    refine K.step ?_ (State.setFlag_keeps _ _ _ _) rfl
    exact K.refl
  · refine K.upd256 ?_ rfl
    exact K.refl

theorem execHppr_keeps : ∀ a0 a1 a2 a3 a4, K gR 16388 a4 (execHppr a0 a1 a2 a3 a4) := by
  intro a0 a1 a2 a3 a4
  unfold execHppr
  refine K.mkR ?_
  refine K.ite (fun _ => ?_) (fun _ => ?_)
  · refine K.step ?_ (State.startPpr_keeps _ _ _ _ _ _) rfl
    exact K.refl
  · exact K.refl

theorem execMcRead_keeps : ∀ a0 a1 a2 a3 a4 a5 a6, K gR 8589983774 a6 (execMcRead a0 a1 a2 a3 a4 a5 a6) := by
  intro a0 a1 a2 a3 a4 a5 a6
  unfold execMcRead
  extract_lets +onlyGivenNames -underBinder -merge -useContext x0
  clear_value x0
  refine K.mkR ?_
  refine K.ite (fun _ => ?_) (fun _ => ?_)
  · extract_lets +onlyGivenNames -underBinder -merge -useContext x1
    have h2 : K gS 8589983774 a6 x1 := by
      refine K.step ?_ (State.modChan_keeps _ _ _) rfl
      exact K.refl
    clear_value x1
    extract_lets +onlyGivenNames -underBinder -merge -useContext x3
    have h4 : ∀ y5, K gS 8589983774 a6 y5 → K gS 8589983774 a6 (x3 y5) := by
      intro y5 h6
      dsimp -zeta only [x3]
      split
      · refine K.step ?_ (State.charged_keeps _ _ _) rfl
        exact h6
      · refine K.step ?_ (State.mcReadNow_keeps _ _ _ _ _ _) rfl
        exact h6
    clear_value x3
    refine K.ite (fun _ => ?_) (fun _ => ?_)
    · split
      · refine K.step ?_ (State.mcReadNow_keeps _ _ _ _ _ _) rfl
        refine K.step ?_ (State.bump_keeps _ _ _ _) rfl
        refine K.step ?_ (State.modChan_keeps _ _ _) rfl
        exact h2
      · refine h4 _ ?_
        refine K.step ?_ (State.bump_keeps _ _ _ _) rfl
        exact h2
    · refine h4 _ ?_
      exact h2
  · exact K.refl

theorem execMcTc0ctlWrite_keeps : ∀ a0 a1 a2, K gR 4 a2 (execMcTc0ctlWrite a0 a1 a2) := by
  intro a0 a1 a2
  unfold execMcTc0ctlWrite
  extract_lets +onlyGivenNames -underBinder -merge -useContext x0
  clear_value x0
  extract_lets +onlyGivenNames -underBinder -merge -useContext x1
  clear_value x1
  extract_lets +onlyGivenNames -underBinder -merge -useContext x2
  clear_value x2
  extract_lets +onlyGivenNames -underBinder -merge -useContext x3
  clear_value x3
  refine K.mkR ?_
  refine K.ite (fun _ => ?_) (fun _ => ?_)
  · extract_lets +onlyGivenNames -underBinder -merge -useContext x4
    have h5 : K gS 4 a2 x4 := by
      refine K.ite (fun _ => ?_) (fun _ => ?_)
      · refine K.step ?_ (State.setFlag_keeps _ _ _ _) rfl
        exact K.refl
      · exact K.refl
    clear_value x4
    extract_lets +onlyGivenNames -underBinder -merge -useContext x6
    have h7 : K gS 4 a2 x6 := by
      refine K.step ?_ (State.setFld_keeps _ _ _ _) rfl
      exact h5
    clear_value x6
    refine K.ite (fun _ => ?_) (fun _ => ?_)
    · refine K.ite (fun _ => ?_) (fun _ => ?_)
      · exact h7
      · refine K.step ?_ (State.setFlag_keeps _ _ _ _) rfl
        exact h7
    · extract_lets +onlyGivenNames -underBinder -merge -useContext x8
      have h9 : K gS 4 a2 x8 := by
        refine K.step ?_ (State.setFld_keeps _ _ _ _) rfl
        exact h7
      clear_value x8
      extract_lets +onlyGivenNames -underBinder -merge -useContext x10
      clear_value x10
      refine K.step ?_ (State.setFlag_keeps _ _ _ _) rfl
      refine K.step ?_ (State.setFlag_keeps _ _ _ _) rfl
      exact h9
  · exact K.refl

theorem execMcWrite_keeps : ∀ a0 a1 a2 a3 a4 a5, K gR 8589983774 a5 (execMcWrite a0 a1 a2 a3 a4 a5) := by
  intro a0 a1 a2 a3 a4 a5
  unfold execMcWrite
  extract_lets +onlyGivenNames -underBinder -merge -useContext x0
  clear_value x0
  refine K.mkR ?_
  refine K.ite (fun _ => ?_) (fun _ => ?_)
  · extract_lets +onlyGivenNames -underBinder -merge -useContext x1
    have h2 : K gS 8589983774 a5 x1 := by
      refine K.step ?_ (State.modChan_keeps _ _ _) rfl
      exact K.refl
    clear_value x1
    split
    · refine K.step ?_ (State.charged_keeps _ _ _) rfl
      exact h2
    · refine K.step ?_ (State.mcWriteNow_keeps _ _ _ _ _) rfl
      exact h2
  · exact K.refl

theorem execMirrorSecondaryRead_keeps : ∀ a0 a1 a2 a3 a4, K gR 8589951006 a4 (execMirrorSecondaryRead a0 a1 a2 a3 a4) := by
  intro a0 a1 a2 a3 a4
  unfold execMirrorSecondaryRead
  extract_lets +onlyGivenNames -underBinder -merge -useContext x0
  clear_value x0
  refine K.mkR ?_
  split
  · exact K.refl
  · extract_lets +onlyGivenNames -underBinder -merge -useContext x3
    have h4 : K gS 8589951006 a4 x3 := by
      refine K.step ?_ (State.modChan_keeps _ _ _) rfl
      exact K.refl
    clear_value x3
    extract_lets +onlyGivenNames -underBinder -merge -useContext x5
    have h6 : K gS 8589951006 a4 x5 := by
      refine K.step ?_ (State.wordFound_keeps _ _ _ _ _ _ _) rfl
      exact h4
    clear_value x5
    refine K.ite (fun _ => ?_) (fun _ => ?_)
    · refine K.step ?_ (State.setFlag_keeps _ _ _ _) rfl
      refine K.step ?_ (State.badWord_keeps _ _ _ _ _ _) rfl
      exact h6
    · refine K.step ?_ (State.correctedWord_keeps _ _ _ _ _) rfl
      refine K.step ?_ (State.modChan_keeps _ _ _) rfl
      refine K.step ?_ (State.chanWrite_keeps _ _ _ _ _) rfl
      exact h6

theorem execPatrolRead_keeps : ∀ a0 a1 a2 a3, K gR 8589951006 a3 (execPatrolRead a0 a1 a2 a3) := by
  intro a0 a1 a2 a3
  unfold execPatrolRead
  extract_lets +onlyGivenNames -underBinder -merge -useContext x0
  clear_value x0
  refine K.mkR ?_
  refine K.ite (fun _ => ?_) (fun _ => ?_)
  · extract_lets +onlyGivenNames -underBinder -merge -useContext x1
    clear_value x1
    extract_lets +onlyGivenNames -underBinder -merge -useContext x2
    have h3 : K gS 8589951006 a3 x2 := by
      refine K.step ?_ (State.mcReadNow_keeps _ _ _ _ _ _) rfl
      exact K.refl
    clear_value x2
    refine K.ite (fun _ => ?_) (fun _ => ?_)
    · refine K.step ?_ (State.bump_keeps _ _ _ _) rfl
      refine K.step ?_ (State.modChan_keeps _ _ _) rfl
      exact h3
    · refine K.step ?_ (State.modChan_keeps _ _ _) rfl
      exact h3
  · exact K.refl

theorem execPprComplete_keeps : ∀ a0 a1, K gR 16388 a1 (execPprComplete a0 a1) := by
  intro a0 a1
  unfold execPprComplete
  refine K.mkR ?_
  split
  · exact K.refl
  · exact K.refl
  · refine K.step ?_ (State.setFlag_keeps _ _ _ _) rfl
    refine K.step ?_ (State.setFld_keeps _ _ _ _) rfl
    refine K.step ?_ (State.modChan_keeps _ _ _) rfl
    exact K.refl

theorem execRefresh_keeps : ∀ a0 a1, K gR 0 a1 (execRefresh a0 a1) := by
  intro a0 a1
  unfold execRefresh
  refine K.mkR ?_
  exact K.refl

theorem execSparingCopyComplete_keeps : ∀ a0 a1, K gR 4 a1 (execSparingCopyComplete a0 a1) := by
  intro a0 a1
  unfold execSparingCopyComplete
  refine K.mkR ?_
  refine K.ite (fun _ => ?_) (fun _ => ?_)
  · refine K.step ?_ (State.setFlag_keeps _ _ _ _) rfl
    refine K.step ?_ (State.setFld_keeps _ _ _ _) rfl
    exact K.refl
  · exact K.refl

theorem execSparingStart_keeps : ∀ a0 a1 a2, K gR 4 a2 (execSparingStart a0 a1 a2) := by
  intro a0 a1 a2
  unfold execSparingStart
  refine K.mkR ?_
  refine K.ite (fun _ => ?_) (fun _ => ?_)
  · refine K.step ?_ (State.startSparing_keeps _ _ _) rfl
    exact K.refl
  · exact K.refl

theorem execSppr_keeps : ∀ a0 a1 a2 a3 a4, K gR 16388 a4 (execSppr a0 a1 a2 a3 a4) := by
  intro a0 a1 a2 a3 a4
  unfold execSppr
  refine K.mkR ?_
  refine K.ite (fun _ => ?_) (fun _ => ?_)
  · refine K.step ?_ (State.startPpr_keeps _ _ _ _ _ _) rfl
    exact K.refl
  · exact K.refl

theorem execSrreqClear_keeps : ∀ a0 a1, K gR 4 a1 (execSrreqClear a0 a1) := by
  intro a0 a1
  unfold execSrreqClear
  refine K.mkR ?_
  refine K.ite (fun _ => ?_) (fun _ => ?_)
  · refine K.step ?_ (State.srreqClear_keeps _ _) rfl
    exact K.refl
  · exact K.refl

theorem execSrreqSet_keeps : ∀ a0 a1, K gR 4 a1 (execSrreqSet a0 a1) := by
  intro a0 a1
  unfold execSrreqSet
  refine K.mkR ?_
  refine K.ite (fun _ => ?_) (fun _ => ?_)
  · refine K.step ?_ (State.setFlag_keeps _ _ _ _) rfl
    exact K.refl
  · exact K.refl

theorem execTc0WindowClose_keeps : ∀ a0 a1, K gR 16384 a1 (execTc0WindowClose a0 a1) := by
  intro a0 a1
  unfold execTc0WindowClose
  refine K.mkR ?_
  refine K.step ?_ (State.modChan_keeps _ _ _) rfl
  exact K.refl

theorem execTc0WindowOpen_keeps : ∀ a0 a1, K gR 16384 a1 (execTc0WindowOpen a0 a1) := by
  intro a0 a1
  unfold execTc0WindowOpen
  refine K.mkR ?_
  refine K.ite (fun _ => ?_) (fun _ => ?_)
  · refine K.step ?_ (State.modChan_keeps _ _ _) rfl
    exact K.refl
  · exact K.refl

theorem execTrainDiscard_keeps : ∀ a0 a1, K gR 16412 a1 (execTrainDiscard a0 a1) := by
  intro a0 a1
  unfold execTrainDiscard
  refine K.mkR ?_
  refine K.ite (fun _ => ?_) (fun _ => ?_)
  · refine K.step ?_ (State.discardSaved_keeps _ _) rfl
    exact K.refl
  · exact K.refl

theorem execTrainFull_keeps : ∀ a0 a1, K gR 16388 a1 (execTrainFull a0 a1) := by
  intro a0 a1
  unfold execTrainFull
  refine K.mkR ?_
  refine K.step ?_ (State.trainFull_keeps _ _) rfl
  exact K.refl

theorem execTrainResume_keeps : ∀ a0 a1, K gR 4 a1 (execTrainResume a0 a1) := by
  intro a0 a1
  unfold execTrainResume
  refine K.mkR ?_
  refine K.step ?_ (State.trainResume_keeps _ _) rfl
  exact K.refl

theorem execTrainingComplete_keeps : ∀ a0 a1 a2, K gR 16412 a2 (execTrainingComplete a0 a1 a2) := by
  intro a0 a1 a2
  unfold execTrainingComplete
  refine K.mkR ?_
  refine K.step ?_ (State.trainingEnds_keeps _ _ _) rfl
  exact K.refl

theorem execWriteCrcError_keeps : ∀ a0 a1 a2, K gR 8589951524 a2 (execWriteCrcError a0 a1 a2) := by
  intro a0 a1 a2
  unfold execWriteCrcError
  refine K.mkR ?_
  refine K.ite (fun _ => ?_) (fun _ => ?_)
  · refine K.step ?_ (State.mcRetry_keeps _ _ _) rfl
    exact K.refl
  · exact K.refl

theorem State.countCycles_keeps : ∀ a0, K gS 32 a0 (State.countCycles a0) := by
  intro a0
  unfold State.countCycles
  refine K.step ?_ (State.mapCores_keeps _ _) rfl
  exact K.refl

theorem State.setServo_keeps : ∀ a0 a1, K gS 65540 a0 (State.setServo a0 a1) := by
  intro a0 a1
  unfold State.setServo
  refine K.ite (fun _ => ?_) (fun _ => ?_)
  · exact K.refl
  · refine K.step ?_ (State.setFlag_keeps _ _ _ _) rfl
    refine K.step ?_ (State.setFld_keeps _ _ _ _) rfl
    refine K.upd65536 ?_ rfl
    exact K.refl

theorem State.holdover_keeps : ∀ a0, K gS 65540 a0 (State.holdover a0) := by
  intro a0
  unfold State.holdover
  refine K.ite (fun _ => ?_) (fun _ => ?_)
  · refine K.step ?_ (State.setServo_keeps _ _) rfl
    exact K.refl
  · exact K.refl

theorem State.servoNext_keeps : ∀ a0 a1, K gS 65540 a0 (State.servoNext a0 a1) := by
  intro a0 a1
  unfold State.servoNext
  extract_lets +onlyGivenNames -underBinder -merge -useContext x0
  clear_value x0
  refine K.ite (fun _ => ?_) (fun _ => ?_)
  · refine K.step ?_ (State.setServo_keeps _ _) rfl
    exact K.refl
  · refine K.ite (fun _ => ?_) (fun _ => ?_)
    · extract_lets +onlyGivenNames -underBinder -merge -useContext x1
      clear_value x1
      extract_lets +onlyGivenNames -underBinder -merge -useContext x2
      clear_value x2
      extract_lets +onlyGivenNames -underBinder -merge -useContext x3
      have h4 : K gS 65540 a0 x3 := by
        refine K.upd65536 ?_ rfl
        exact K.refl
      clear_value x3
      refine K.ite (fun _ => ?_) (fun _ => ?_)
      · refine K.step ?_ (State.setServo_keeps _ _) rfl
        exact h4
      · exact h4
    · refine K.ite (fun _ => ?_) (fun _ => ?_)
      · refine K.step ?_ (State.setServo_keeps _ _) rfl
        exact K.refl
      · exact K.refl

theorem State.setNow_keeps : ∀ a0 a1, K gS 4 a0 (State.setNow a0 a1) := by
  intro a0 a1
  unfold State.setNow
  refine K.step ?_ (State.setReg_keeps _ _ _) rfl
  exact K.refl

theorem State.stepTime_keeps : ∀ a0 a1, K gS 36 a0 (State.stepTime a0 a1) := by
  intro a0 a1
  unfold State.stepTime
  extract_lets +onlyGivenNames -underBinder -merge -useContext x0
  have h1 : K gS 36 a0 x0 := by
    refine K.step ?_ (State.setNow_keeps _ _) rfl
    exact K.refl
  clear_value x0
  refine K.foldl ?_ (fun y2 a3 h4 => ?_)
  · exact h1
  · refine K.step ?_ (State.wakeHalt_keeps _ _) rfl
    exact h4

theorem State.measure_keeps : ∀ a0 a1, K gS 65574 a0 (State.measure a0 a1) := by
  intro a0 a1
  unfold State.measure
  extract_lets +onlyGivenNames -underBinder -merge -useContext x0
  clear_value x0
  extract_lets +onlyGivenNames -underBinder -merge -useContext x1
  have h2 : K gS 65574 a0 x1 := by
    refine K.step ?_ (State.setReg_keeps _ _ _) rfl
    refine K.upd65536 ?_ rfl
    exact K.refl
  clear_value x1
  extract_lets +onlyGivenNames -underBinder -merge -useContext x3
  have h4 : K gS 65574 a0 x3 := by
    refine K.step ?_ (State.servoNext_keeps _ _) rfl
    exact h2
  clear_value x3
  refine K.ite (fun _ => ?_) (fun _ => ?_)
  · refine K.step ?_ (State.stepTime_keeps _ _) rfl
    exact h4
  · extract_lets +onlyGivenNames -underBinder -merge -useContext x5
    have h6 : K g2 65574 a0 x5 := by
      refine K.step ?_ (State.draw_keeps _ _) rfl
      exact h4
    clear_value x5
    refine K.step ?_ (State.setFld_keeps _ _ _ _) rfl
    refine K.of2 ?_
    exact h6

theorem State.passTime_keeps : ∀ a0 a1, K gS 65540 a0 (State.passTime a0 a1) := by
  intro a0 a1
  unfold State.passTime
  refine K.ite (fun _ => ?_) (fun _ => ?_)
  · exact K.refl
  · extract_lets +onlyGivenNames -underBinder -merge -useContext x0
    clear_value x0
    extract_lets +onlyGivenNames -underBinder -merge -useContext x1
    clear_value x1
    extract_lets +onlyGivenNames -underBinder -merge -useContext x2
    clear_value x2
    extract_lets +onlyGivenNames -underBinder -merge -useContext x3
    clear_value x3
    extract_lets +onlyGivenNames -underBinder -merge -useContext x4
    clear_value x4
    extract_lets +onlyGivenNames -underBinder -merge -useContext x5
    have h6 : K gS 65540 a0 x5 := by
      refine K.upd65536 ?_ rfl
      exact K.refl
    clear_value x5
    extract_lets +onlyGivenNames -underBinder -merge -useContext x7
    have h8 : K gS 65540 a0 x7 := by
      refine K.step ?_ (State.setNow_keeps _ _) rfl
      exact h6
    clear_value x7
    refine K.ite (fun _ => ?_) (fun _ => ?_)
    · refine K.step ?_ (State.setFlag_keeps _ _ _ _) rfl
      exact h8
    · exact h8

theorem State.tick_keeps : ∀ a0, K gS 65572 a0 (State.tick a0) := by
  intro a0
  unfold State.tick
  refine K.ite (fun _ => ?_) (fun _ => ?_)
  · extract_lets +onlyGivenNames -underBinder -merge -useContext x0
    have h1 : K gS 65572 a0 x0 := by
      refine K.step ?_ (State.countCycles_keeps _) rfl
      exact K.refl
    clear_value x0
    refine K.step ?_ (State.passTime_keeps _ _) rfl
    refine K.upd65536 ?_ rfl
    exact h1
  · exact K.refl

theorem State.ttAdjust_keeps : ∀ a0 a1 a2, K gS 65572 a0 (State.ttAdjust a0 a1 a2) := by
  intro a0 a1 a2
  unfold State.ttAdjust
  extract_lets +onlyGivenNames -underBinder -merge -useContext x0
  clear_value x0
  extract_lets +onlyGivenNames -underBinder -merge -useContext x1
  have h2 : K gS 65572 a0 x1 := by
    refine K.upd65536 ?_ rfl
    exact K.refl
  clear_value x1
  extract_lets +onlyGivenNames -underBinder -merge -useContext x3
  clear_value x3
  refine K.ite (fun _ => ?_) (fun _ => ?_)
  · exact h2
  · split
    · refine K.step ?_ (State.setFld_keeps _ _ _ _) rfl
      refine K.step ?_ (State.setFlag_keeps _ _ _ _) rfl
      exact h2
    · refine K.ite (fun _ => ?_) (fun _ => ?_)
      · refine K.step ?_ (State.stepTime_keeps _ _) rfl
        exact h2
      · refine K.step ?_ (State.setFlag_keeps _ _ _ _) rfl
        refine K.upd65536 ?_ rfl
        exact h2

theorem execMeasurementMissing_keeps : ∀ a0, K gR 65540 a0 (execMeasurementMissing a0) := by
  intro a0
  unfold execMeasurementMissing
  refine K.mkR ?_
  refine K.ite (fun _ => ?_) (fun _ => ?_)
  · extract_lets +onlyGivenNames -underBinder -merge -useContext x0
    clear_value x0
    extract_lets +onlyGivenNames -underBinder -merge -useContext x1
    clear_value x1
    extract_lets +onlyGivenNames -underBinder -merge -useContext x2
    have h3 : K gS 65540 a0 x2 := by
      refine K.upd65536 ?_ rfl
      exact K.refl
    clear_value x2
    refine K.ite (fun _ => ?_) (fun _ => ?_)
    · refine K.step ?_ (State.holdover_keeps _) rfl
      exact h3
    · exact h3
  · exact K.refl

theorem execPpsEdge_keeps : ∀ a0, K gR 65574 a0 (execPpsEdge a0) := by
  intro a0
  unfold execPpsEdge
  refine K.mkR ?_
  refine K.ite (fun _ => ?_) (fun _ => ?_)
  · refine K.step ?_ (State.measure_keeps _ _) rfl
    exact K.refl
  · exact K.refl

theorem execPpsOutput_keeps : ∀ a0, K gR 65536 a0 (execPpsOutput a0) := by
  intro a0
  unfold execPpsOutput
  refine K.mkR ?_
  refine K.ite (fun _ => ?_) (fun _ => ?_)
  · refine K.upd65536 ?_ rfl
    exact K.refl
  · exact K.refl

theorem execServoMeasurement_keeps : ∀ a0 a1 a2, K gR 65574 a2 (execServoMeasurement a0 a1 a2) := by
  intro a0 a1 a2
  unfold execServoMeasurement
  refine K.mkR ?_
  refine K.ite (fun _ => ?_) (fun _ => ?_)
  · refine K.step ?_ (State.measure_keeps _ _) rfl
    exact K.refl
  · exact K.refl

theorem execSlewEnd_keeps : ∀ a0, K gR 65540 a0 (execSlewEnd a0) := by
  intro a0
  unfold execSlewEnd
  refine K.mkR ?_
  refine K.ite (fun _ => ?_) (fun _ => ?_)
  · refine K.step ?_ (State.passTime_keeps _ _) rfl
    exact K.refl
  · exact K.refl

theorem execSystemReferenceReturn_keeps : ∀ a0, K gR 65540 a0 (execSystemReferenceReturn a0) := by
  intro a0
  unfold execSystemReferenceReturn
  refine K.mkR ?_
  refine K.ite (fun _ => ?_) (fun _ => ?_)
  · exact K.refl
  · refine K.step ?_ (State.setServo_keeps _ _) rfl
    refine K.upd65536 ?_ rfl
    exact K.refl

theorem execSystemReferenceStop_keeps : ∀ a0, K gR 8590000700 a0 (execSystemReferenceStop a0) := by
  intro a0
  unfold execSystemReferenceStop
  extract_lets +onlyGivenNames -underBinder -merge -useContext x0
  clear_value x0
  refine K.mkR ?_
  refine K.ite (fun _ => ?_) (fun _ => ?_)
  · extract_lets +onlyGivenNames -underBinder -merge -useContext x1
    have h2 : K gS 8590000700 a0 x1 := by
      refine K.step ?_ (State.setFlag_keeps _ _ _ _) rfl
      refine K.step ?_ (State.setFlag_keeps _ _ _ _) rfl
      refine K.step ?_ (State.setFlag_keeps _ _ _ _) rfl
      refine K.step ?_ (State.setFlag_keeps _ _ _ _) rfl
      exact K.refl
    clear_value x1
    extract_lets +onlyGivenNames -underBinder -merge -useContext x3
    have h4 : K gS 8590000700 a0 x3 := by
      refine K.step ?_ (State.detect_keeps _ _) rfl
      refine K.step ?_ (State.detect_keeps _ _) rfl
      exact h2
    clear_value x3
    extract_lets +onlyGivenNames -underBinder -merge -useContext x5
    clear_value x5
    extract_lets +onlyGivenNames -underBinder -merge -useContext x6
    have h7 : K gS 8590000700 a0 x6 := by
      refine K.step ?_ (State.setFlag_keeps _ _ _ _) rfl
      refine K.upd65536 ?_ rfl
      exact h4
    clear_value x6
    refine K.step ?_ (State.paceLoss_keeps _ _) rfl
    refine K.step ?_ (State.setServo_keeps _ _) rfl
    exact h7
  · exact K.refl

theorem execTtadjLowerHalf_keeps : ∀ a0 a1, K gR 65536 a1 (execTtadjLowerHalf a0 a1) := by
  intro a0 a1
  unfold execTtadjLowerHalf
  refine K.mkR ?_
  refine K.upd65536 ?_ rfl
  exact K.refl

theorem execTtadjSlew_keeps : ∀ a0 a1, K gR 65572 a1 (execTtadjSlew a0 a1) := by
  intro a0 a1
  unfold execTtadjSlew
  refine K.mkR ?_
  refine K.step ?_ (State.ttAdjust_keeps _ _ _) rfl
  exact K.refl

theorem execTtadjStep_keeps : ∀ a0 a1, K gR 65572 a1 (execTtadjStep a0 a1) := by
  intro a0 a1
  unfold execTtadjStep
  refine K.mkR ?_
  refine K.step ?_ (State.ttAdjust_keeps _ _ _) rfl
  exact K.refl

theorem execTtctlRoleWrite_keeps : ∀ a0 a1, K gR 65540 a1 (execTtctlRoleWrite a0 a1) := by
  intro a0 a1
  unfold execTtctlRoleWrite
  refine K.mkR ?_
  refine K.step ?_ (State.setServo_keeps _ _) rfl
  refine K.step ?_ (State.writeReg_keeps _ _ _ _) rfl
  exact K.refl

end Sys2Proof.Machine
end

