-- ==== Sys2Proof/Laws/KeepsDirty.lean ====
section
/-!
SUPPORT. What each function and each command of Machine/Dirty.lean, Machine/Lane.lean can change (Laws/Keeps.lean), one lemma each.
-/
namespace Sys2Proof.Machine

theorem State.applyPartReset_keeps : ∀ a0 a1 a2, K gS 34 a0 (State.applyPartReset a0 a1 a2) := by
  intro a0 a1 a2
  unfold State.applyPartReset
  extract_lets +onlyGivenNames -underBinder -merge -useContext x0
  clear_value x0
  refine K.step ?_ (State.regenKeys_keeps _ _ _) rfl
  refine K.step ?_ (State.modCore_keeps _ _ _) rfl
  exact K.refl

theorem State.logPage_keeps : ∀ a0 a1 a2 a3, K gS 126 a0 (State.logPage a0 a1 a2 a3) := by
  intro a0 a1 a2 a3
  unfold State.logPage
  refine K.ite (fun _ => ?_) (fun _ => ?_)
  · exact K.refl
  · refine K.ite (fun _ => ?_) (fun _ => ?_)
    · refine K.step ?_ (State.setFlag_keeps _ _ _ _) rfl
      exact K.refl
    · extract_lets +onlyGivenNames -underBinder -merge -useContext x0
      clear_value x0
      refine K.ite (fun _ => ?_) (fun _ => ?_)
      · extract_lets +onlyGivenNames -underBinder -merge -useContext x1
        have h2 : K g3 126 a0 x1 := by
          refine K.step ?_ (State.engRead_keeps _ _ _ _) rfl
          exact K.refl
        clear_value x1
        refine K.step ?_ (State.engWrite_keeps _ _ _ _ _) rfl
        refine K.of3 ?_
        exact h2
      · refine K.step ?_ (State.setFlag_keeps _ _ _ _) rfl
        exact K.refl

theorem State.logGpa_keeps : ∀ a0 a1 a2 a3 a4, K gS 126 a0 (State.logGpa a0 a1 a2 a3 a4) := by
  intro a0 a1 a2 a3 a4
  unfold State.logGpa
  refine K.foldl ?_ (fun y0 a1 h2 => ?_)
  · exact K.refl
  · refine K.step ?_ (State.logPage_keeps _ _ _ _) rfl
    exact h2

theorem State.logPa_keeps : ∀ a0 a1 a2 a3 a4, K gS 126 a0 (State.logPa a0 a1 a2 a3 a4) := by
  intro a0 a1 a2 a3 a4
  unfold State.logPa
  refine K.ite (fun _ => ?_) (fun _ => ?_)
  · extract_lets +onlyGivenNames -underBinder -merge -useContext x0
    clear_value x0
    refine K.foldl ?_ (fun y1 a2 h3 => ?_)
    · exact K.refl
    · refine K.ite (fun _ => ?_) (fun _ => ?_)
      · refine K.step ?_ (State.setFlag_keeps _ _ _ _) rfl
        exact h3
      · refine K.step ?_ (State.logPage_keeps _ _ _ _) rfl
        exact h3
  · exact K.refl

theorem State.logSwap_keeps : ∀ a0 a1, K gS 4 a0 (State.logSwap a0 a1) := by
  intro a0 a1
  unfold State.logSwap
  refine K.ite (fun _ => ?_) (fun _ => ?_)
  · refine K.step ?_ (State.setFlag_keeps _ _ _ _) rfl
    exact K.refl
  · exact K.refl

theorem State.partReset_keeps : ∀ a0 a1, K gS 512 a0 (State.partReset a0 a1) := by
  intro a0 a1
  unfold State.partReset
  refine K.step ?_ (State.sendAll_keeps _ _) rfl
  exact K.refl

theorem State.writeDlcfg_keeps : ∀ a0 a1 a2, K gS 4 a0 (State.writeDlcfg a0 a1 a2) := by
  intro a0 a1 a2
  unfold State.writeDlcfg
  extract_lets +onlyGivenNames -underBinder -merge -useContext x0
  clear_value x0
  extract_lets +onlyGivenNames -underBinder -merge -useContext x1
  clear_value x1
  extract_lets +onlyGivenNames -underBinder -merge -useContext x2
  have h3 : K gS 4 a0 x2 := by
    refine K.step ?_ (State.setReg_keeps _ _ _) rfl
    exact K.refl
  clear_value x2
  extract_lets +onlyGivenNames -underBinder -merge -useContext x4
  clear_value x4
  extract_lets +onlyGivenNames -underBinder -merge -useContext x5
  have h6 : K gS 4 a0 x5 := by
    refine K.ite (fun _ => ?_) (fun _ => ?_)
    · exact h3
    · refine K.step ?_ (State.setFld_keeps _ _ _ _) rfl
      exact h3
  clear_value x5
  extract_lets +onlyGivenNames -underBinder -merge -useContext x7
  have h8 : K gS 4 a0 x7 := by
    refine K.ite (fun _ => ?_) (fun _ => ?_)
    · refine K.step ?_ (State.setFlag_keeps _ _ _ _) rfl
      exact h6
    · refine K.ite (fun _ => ?_) (fun _ => ?_)
      · exact h6
      · refine K.ite (fun _ => ?_) (fun _ => ?_)
        · refine K.step ?_ (State.setFlag_keeps _ _ _ _) rfl
          exact h6
        · refine K.step ?_ (State.setFlag_keeps _ _ _ _) rfl
          exact h6
  clear_value x7
  refine K.ite (fun _ => ?_) (fun _ => ?_)
  · refine K.step ?_ (State.logSwap_keeps _ _) rfl
    exact h8
  · exact h8

theorem State.writeMemtok_keeps : ∀ a0 a1 a2 a3 a4, K gS 8589983774 a0 (State.writeMemtok a0 a1 a2 a3 a4) := by
  intro a0 a1 a2 a3 a4
  unfold State.writeMemtok
  extract_lets +onlyGivenNames -underBinder -merge -useContext x0
  have h1 : K gS 8589983774 a0 x0 := by
    refine K.step ?_ (State.writeReg_keeps _ _ _ _) rfl
    exact K.refl
  clear_value x0
  extract_lets +onlyGivenNames -underBinder -merge -useContext x2
  have h3 : K gS 8589983774 a0 x2 := by
    refine K.step ?_ (State.setMemTokens_keeps _ _ _) rfl
    exact h1
  clear_value x2
  refine K.step ?_ (State.serveHeld_keeps _ _ _ _) rfl
  exact h3

theorem execDirtyLogEnable_keeps : ∀ a0 a1 a2, K gR 4 a2 (execDirtyLogEnable a0 a1 a2) := by
  intro a0 a1 a2
  unfold execDirtyLogEnable
  refine K.mkR ?_
  refine K.ite (fun _ => ?_) (fun _ => ?_)
  · refine K.step ?_ (State.writeDlcfg_keeps _ _ _) rfl
    exact K.refl
  · exact K.refl

theorem execDirtyLogSwap_keeps : ∀ a0 a1, K gR 4 a1 (execDirtyLogSwap a0 a1) := by
  intro a0 a1
  unfold execDirtyLogSwap
  refine K.mkR ?_
  refine K.ite (fun _ => ?_) (fun _ => ?_)
  · refine K.step ?_ (State.logSwap_keeps _ _) rfl
    exact K.refl
  · exact K.refl

theorem execDirtyLogUpdate_keeps : ∀ a0 a1 a2 a3, K gR 126 a3 (execDirtyLogUpdate a0 a1 a2 a3) := by
  intro a0 a1 a2 a3
  unfold execDirtyLogUpdate
  refine K.mkR ?_
  refine K.ite (fun _ => ?_) (fun _ => ?_)
  · exact K.refl
  · refine K.ite (fun _ => ?_) (fun _ => ?_)
    · refine K.step ?_ (State.logPage_keeps _ _ _ _) rfl
      exact K.refl
    · refine K.ite (fun _ => ?_) (fun _ => ?_)
      · refine K.step ?_ (State.setFlag_keeps _ _ _ _) rfl
        exact K.refl
      · exact K.refl

theorem execMemoryTokenAccrual_keeps : ∀ a0 a1, K gR 8589983774 a1 (execMemoryTokenAccrual a0 a1) := by
  intro a0 a1
  unfold execMemoryTokenAccrual
  refine K.mkR ?_
  refine K.ite (fun _ => ?_) (fun _ => ?_)
  · extract_lets +onlyGivenNames -underBinder -merge -useContext x0
    have h1 : K gS 8589983774 a1 x0 := by
      refine K.foldl ?_ (fun y2 a3 h4 => ?_)
      · exact K.refl
      · refine K.step ?_ (State.setMemTokens_keeps _ _ _) rfl
        exact h4
    clear_value x0
    refine K.step ?_ (State.serveHeld_keeps _ _ _ _) rfl
    exact h1
  · exact K.refl

theorem execPartResetDone_keeps : ∀ a0 a1, K gR 516 a1 (execPartResetDone a0 a1) := by
  intro a0 a1
  unfold execPartResetDone
  extract_lets +onlyGivenNames -underBinder -merge -useContext x0
  clear_value x0
  extract_lets +onlyGivenNames -underBinder -merge -useContext x1
  have h2 : K gS 516 a1 x1 := by
    refine K.step ?_ (State.recv_keeps _ _) rfl
    exact K.refl
  clear_value x1
  refine K.mkR ?_
  refine K.ite (fun _ => ?_) (fun _ => ?_)
  · exact h2
  · refine K.ite (fun _ => ?_) (fun _ => ?_)
    · exact h2
    · refine K.step ?_ (State.setFlag_keeps _ _ _ _) rfl
      refine K.step ?_ (State.setFlag_keeps _ _ _ _) rfl
      exact h2

theorem execPartResetReceipt_keeps : ∀ a0 a1 a2, K gR 4294967842 a2 (execPartResetReceipt a0 a1 a2) := by
  intro a0 a1 a2
  unfold execPartResetReceipt
  refine K.mkR ?_
  refine K.ite (fun _ => ?_) (fun _ => ?_)
  · exact K.refl
  · extract_lets +onlyGivenNames -underBinder -merge -useContext x0
    have h1 : K gS 4294967842 a2 x0 := by
      refine K.step ?_ (State.send_keeps _ _) rfl
      refine K.step ?_ (State.recv_keeps _ _) rfl
      exact K.refl
    clear_value x0
    refine K.ite (fun _ => ?_) (fun _ => ?_)
    · refine K.upd4294967296 ?_ rfl
      exact h1
    · refine K.step ?_ (State.applyPartReset_keeps _ _ _) rfl
      exact h1

theorem execPrtPcfgWrite_keeps : ∀ a0 a1 a2, K gR 2147487236 a2 (execPrtPcfgWrite a0 a1 a2) := by
  intro a0 a1 a2
  unfold execPrtPcfgWrite
  refine K.mkR ?_
  refine K.ite (fun _ => ?_) (fun _ => ?_)
  · refine K.step ?_ (State.settle_keeps _) rfl
    refine K.step ?_ (State.writeReg_keeps _ _ _ _) rfl
    exact K.refl
  · exact K.refl

theorem execPrtPrst_keeps : ∀ a0 a1, K gR 516 a1 (execPrtPrst a0 a1) := by
  intro a0 a1
  unfold execPrtPrst
  extract_lets +onlyGivenNames -underBinder -merge -useContext x0
  clear_value x0
  extract_lets +onlyGivenNames -underBinder -merge -useContext x1
  have h2 : K gS 516 a1 x1 := by
    refine K.ite (fun _ => ?_) (fun _ => ?_)
    · refine K.step ?_ (State.setFlag_keeps _ _ _ _) rfl
      exact K.refl
    · exact K.refl
  clear_value x1
  refine K.mkR ?_
  refine K.ite (fun _ => ?_) (fun _ => ?_)
  · exact h2
  · extract_lets +onlyGivenNames -underBinder -merge -useContext x3
    clear_value x3
    extract_lets +onlyGivenNames -underBinder -merge -useContext x4
    have h5 : K gS 516 a1 x4 := by
      refine K.step ?_ (State.setFld_keeps _ _ _ _) rfl
      exact h2
    clear_value x4
    refine K.ite (fun _ => ?_) (fun _ => ?_)
    · refine K.step ?_ (State.partReset_keeps _ _) rfl
      refine K.step ?_ (State.setFlag_keeps _ _ _ _) rfl
      exact h5
    · exact h5

theorem State.setFn_keeps : ∀ a0 a1 a2, K gS 8388608 a0 (State.setFn a0 a1 a2) := by
  intro a0 a1 a2
  unfold State.setFn
  refine K.upd8388608 ?_ rfl
  exact K.refl

theorem State.modFn_keeps : ∀ a0 a1 a2, K gS 8388608 a0 (State.modFn a0 a1 a2) := by
  intro a0 a1 a2
  unfold State.modFn
  refine K.step ?_ (State.setFn_keeps _ _ _) rfl
  exact K.refl

theorem State.bulkEnd_keeps : ∀ a0 a1 a2 a3 a4 a5, K gS 8388608 a0 (State.bulkEnd a0 a1 a2 a3 a4 a5) := by
  intro a0 a1 a2 a3 a4 a5
  unfold State.bulkEnd
  split
  · refine K.step ?_ (State.modFn_keeps _ _ _) rfl
    exact K.refl
  · exact K.refl

theorem State.setFast_keeps : ∀ a0 a1 a2, K gS 262144 a0 (State.setFast a0 a1 a2) := by
  intro a0 a1 a2
  unfold State.setFast
  refine K.upd262144 ?_ rfl
  exact K.refl

theorem State.modFast_keeps : ∀ a0 a1 a2, K gS 262144 a0 (State.modFast a0 a1 a2) := by
  intro a0 a1 a2
  unfold State.modFast
  refine K.step ?_ (State.setFast_keeps _ _ _) rfl
  exact K.refl

theorem State.closeLoopIfDown_keeps : ∀ a0 a1, K gS 262144 a0 (State.closeLoopIfDown a0 a1) := by
  intro a0 a1
  unfold State.closeLoopIfDown
  refine K.ite (fun _ => ?_) (fun _ => ?_)
  · exact K.refl
  · extract_lets +onlyGivenNames -underBinder -merge -useContext x0
    clear_value x0
    refine K.ite (fun _ => ?_) (fun _ => ?_)
    · exact K.refl
    · refine K.step ?_ (State.modFast_keeps _ _ _) rfl
      exact K.refl

theorem State.dropFrame_keeps : ∀ a0 a1 a2, K gS 8388612 a0 (State.dropFrame a0 a1 a2) := by
  intro a0 a1 a2
  unfold State.dropFrame
  refine K.step ?_ (State.bulkEnd_keeps _ _ _ _ _ _) rfl
  refine K.step ?_ (State.bump_keeps _ _ _ _) rfl
  exact K.refl

theorem State.setLane_keeps : ∀ a0 a1 a2, K gS 131072 a0 (State.setLane a0 a1 a2) := by
  intro a0 a1 a2
  unfold State.setLane
  refine K.upd131072 ?_ rfl
  exact K.refl

theorem State.modLane_keeps : ∀ a0 a1 a2, K gS 131072 a0 (State.modLane a0 a1 a2) := by
  intro a0 a1 a2
  unfold State.modLane
  refine K.step ?_ (State.setLane_keeps _ _ _) rfl
  exact K.refl

theorem State.noteHeld_keeps : ∀ a0 a1, K gS 131076 a0 (State.noteHeld a0 a1) := by
  intro a0 a1
  unfold State.noteHeld
  extract_lets +onlyGivenNames -underBinder -merge -useContext x0
  clear_value x0
  extract_lets +onlyGivenNames -underBinder -merge -useContext x1
  clear_value x1
  refine K.ite (fun _ => ?_) (fun _ => ?_)
  · exact K.refl
  · refine K.step ?_ (State.bump_keeps _ _ _ _) rfl
    refine K.step ?_ (State.setLane_keeps _ _ _) rfl
    exact K.refl

theorem State.enqueue_keeps : ∀ a0 a1 a2, K gS 8519684 a0 (State.enqueue a0 a1 a2) := by
  intro a0 a1 a2
  unfold State.enqueue
  refine K.ite (fun _ => ?_) (fun _ => ?_)
  · refine K.step ?_ (State.noteHeld_keeps _ _) rfl
    refine K.step ?_ (State.modLane_keeps _ _ _) rfl
    exact K.refl
  · refine K.step ?_ (State.dropFrame_keeps _ _ _) rfl
    exact K.refl

theorem State.setPreact_keeps : ∀ a0 a1 a2, K gS 4 a0 (State.setPreact a0 a1 a2) := by
  intro a0 a1 a2
  unfold State.setPreact
  refine K.ite (fun _ => ?_) (fun _ => ?_)
  · exact K.refl
  · refine K.step ?_ (State.setFlag_keeps _ _ _ _) rfl
    refine K.step ?_ (State.setFlag_keeps _ _ _ _) rfl
    exact K.refl

theorem State.leaveUp_keeps : ∀ a0 a1 a2, K gS 8847364 a0 (State.leaveUp a0 a1 a2) := by
  intro a0 a1 a2
  unfold State.leaveUp
  extract_lets +onlyGivenNames -underBinder -merge -useContext x0
  clear_value x0
  extract_lets +onlyGivenNames -underBinder -merge -useContext x1
  clear_value x1
  extract_lets +onlyGivenNames -underBinder -merge -useContext x2
  have h3 : K gS 8847364 a0 x2 := by
    refine K.step ?_ (State.setLane_keeps _ _ _) rfl
    exact K.refl
  clear_value x2
  extract_lets +onlyGivenNames -underBinder -merge -useContext x4
  have h5 : K gS 8847364 a0 x4 := by
    refine K.foldl ?_ (fun y6 a7 h8 => ?_)
    · exact h3
    · refine K.step ?_ (State.dropFrame_keeps _ _ _) rfl
      exact h8
  clear_value x4
  extract_lets +onlyGivenNames -underBinder -merge -useContext x9
  clear_value x9
  extract_lets +onlyGivenNames -underBinder -merge -useContext x10
  have h11 : K gS 8847364 a0 x10 := by
    refine K.step ?_ (State.setPreact_keeps _ _ _) rfl
    refine K.step ?_ (State.setFlag_keeps _ _ _ _) rfl
    refine K.step ?_ (State.setFlag_keeps _ _ _ _) rfl
    refine K.step ?_ (State.setFld_keeps _ _ _ _) rfl
    exact h5
  clear_value x10
  extract_lets +onlyGivenNames -underBinder -merge -useContext x12
  have h13 : K gS 8847364 a0 x12 := by
    refine K.step ?_ (State.closeLoopIfDown_keeps _ _) rfl
    refine K.step ?_ (State.setFlag_keeps _ _ _ _) rfl
    exact h11
  clear_value x12
  refine K.ite (fun _ => ?_) (fun _ => ?_)
  · refine K.step ?_ (State.holdover_keeps _) rfl
    exact h13
  · exact h13

theorem State.preemptCfg_keeps : ∀ a0 a1, K gS 4 a0 (State.preemptCfg a0 a1) := by
  intro a0 a1
  unfold State.preemptCfg
  refine K.ite (fun _ => ?_) (fun _ => ?_)
  · refine K.step ?_ (State.setPreact_keeps _ _ _) rfl
    exact K.refl
  · refine K.ite (fun _ => ?_) (fun _ => ?_)
    · refine K.step ?_ (State.setPreact_keeps _ _ _) rfl
      exact K.refl
    · exact K.refl

theorem State.enterLane_keeps : ∀ a0 a1 a2, K gS 8847364 a0 (State.enterLane a0 a1 a2) := by
  intro a0 a1 a2
  unfold State.enterLane
  refine K.ite (fun _ => ?_) (fun _ => ?_)
  · exact K.refl
  · refine K.ite (fun _ => ?_) (fun _ => ?_)
    · refine K.step ?_ (State.leaveUp_keeps _ _ _) rfl
      exact K.refl
    · extract_lets +onlyGivenNames -underBinder -merge -useContext x0
      have h1 : K gS 8847364 a0 x0 := by
        refine K.step ?_ (State.setFld_keeps _ _ _ _) rfl
        exact K.refl
      clear_value x0
      refine K.ite (fun _ => ?_) (fun _ => ?_)
      · refine K.step ?_ (State.preemptCfg_keeps _ _) rfl
        refine K.step ?_ (State.setFlag_keeps _ _ _ _) rfl
        exact h1
      · exact h1

theorem State.enterSpan_keeps : ∀ a0 a1 a2 a3 a4, K gS 131074 a0 (State.enterSpan a0 a1 a2 a3 a4) := by
  intro a0 a1 a2 a3 a4
  unfold State.enterSpan
  split
  · refine K.step ?_ (State.modLane_keeps _ _ _) rfl
    exact K.refl
  · extract_lets +onlyGivenNames -underBinder -merge -useContext x2
    have h3 : K g2 131074 a0 x2 := by
      refine K.step ?_ (State.draw_keeps _ _) rfl
      exact K.refl
    clear_value x2
    refine K.step ?_ (State.modLane_keeps _ _ _) rfl
    refine K.of2 ?_
    exact h3

theorem State.laneEval_keeps : ∀ a0 a1, K gS 8847364 a0 (State.laneEval a0 a1) := by
  intro a0 a1
  unfold State.laneEval
  refine K.ite (fun _ => ?_) (fun _ => ?_)
  · refine K.step ?_ (State.enterLane_keeps _ _ _) rfl
    exact K.refl
  · refine K.ite (fun _ => ?_) (fun _ => ?_)
    · refine K.step ?_ (State.enterLane_keeps _ _ _) rfl
      exact K.refl
    · exact K.refl

theorem State.measureLoop_keeps : ∀ a0 a1 a2 a3, K gS 262148 a0 (State.measureLoop a0 a1 a2 a3) := by
  intro a0 a1 a2 a3
  unfold State.measureLoop
  extract_lets +onlyGivenNames -underBinder -merge -useContext x0
  clear_value x0
  refine K.ite (fun _ => ?_) (fun _ => ?_)
  · exact K.refl
  · extract_lets +onlyGivenNames -underBinder -merge -useContext x1
    clear_value x1
    extract_lets +onlyGivenNames -underBinder -merge -useContext x2
    clear_value x2
    extract_lets +onlyGivenNames -underBinder -merge -useContext x3
    clear_value x3
    extract_lets +onlyGivenNames -underBinder -merge -useContext x4
    clear_value x4
    extract_lets +onlyGivenNames -underBinder -merge -useContext x5
    have h6 : K gS 262148 a0 x5 := by
      refine K.step ?_ (State.setFld_keeps _ _ _ _) rfl
      refine K.step ?_ (State.setFast_keeps _ _ _) rfl
      exact K.refl
    clear_value x5
    extract_lets +onlyGivenNames -underBinder -merge -useContext x7
    have h8 : K gS 262148 a0 x7 := by
      refine K.step ?_ (State.bump_keeps _ _ _ _) rfl
      refine K.step ?_ (State.setFld_keeps _ _ _ _) rfl
      exact h6
    clear_value x7
    extract_lets +onlyGivenNames -underBinder -merge -useContext x9
    clear_value x9
    refine K.ite (fun _ => ?_) (fun _ => ?_)
    · refine K.step ?_ (State.bump_keeps _ _ _ _) rfl
      refine K.step ?_ (State.setFlag_keeps _ _ _ _) rfl
      exact h8
    · exact h8

theorem State.startFrame_keeps : ∀ a0 a1 a2 a3, K gS 393220 a0 (State.startFrame a0 a1 a2 a3) := by
  intro a0 a1 a2 a3
  unfold State.startFrame
  extract_lets +onlyGivenNames -underBinder -merge -useContext x0
  have h1 : K gS 393220 a0 x0 := by
    refine K.step ?_ (State.modLane_keeps _ _ _) rfl
    exact K.refl
  clear_value x0
  split
  · refine K.step ?_ (State.measureLoop_keeps _ _ _ _) rfl
    exact h1
  · exact h1

theorem State.pickNext_keeps : ∀ a0 a1 a2, K gS 393220 a0 (State.pickNext a0 a1 a2) := by
  intro a0 a1 a2
  unfold State.pickNext
  extract_lets +onlyGivenNames -underBinder -merge -useContext x0
  have h1 : K gS 393220 a0 x0 := by
    refine K.step ?_ (State.noteHeld_keeps _ _) rfl
    exact K.refl
  clear_value x0
  split
  · split
    · refine K.step ?_ (State.startFrame_keeps _ _ _ _) rfl
      exact h1
    · refine K.step ?_ (State.modLane_keeps _ _ _) rfl
      exact h1
  · split
    · refine K.step ?_ (State.startFrame_keeps _ _ _ _) rfl
      exact h1
    · exact h1

theorem State.quadEval_keeps : ∀ a0 a1, K gS 8847364 a0 (State.quadEval a0 a1) := by
  intro a0 a1
  unfold State.quadEval
  refine K.foldl ?_ (fun y0 a1 h2 => ?_)
  · exact K.refl
  · refine K.step ?_ (State.laneEval_keeps _ _) rfl
    exact h2

theorem State.sendPtp_keeps : ∀ a0 a1 a2, K gS 8519684 a0 (State.sendPtp a0 a1 a2) := by
  intro a0 a1 a2
  unfold State.sendPtp
  refine K.step ?_ (State.enqueue_keeps _ _ _) rfl
  exact K.refl

theorem execAnResolve_keeps : ∀ a0 a1 a2, K gR 8847364 a2 (execAnResolve a0 a1 a2) := by
  intro a0 a1 a2
  unfold execAnResolve
  refine K.mkR ?_
  refine K.ite (fun _ => ?_) (fun _ => ?_)
  · refine K.ite (fun _ => ?_) (fun _ => ?_)
    · refine K.step ?_ (State.enterLane_keeps _ _ _) rfl
      refine K.step ?_ (State.setFlag_keeps _ _ _ _) rfl
      exact K.refl
    · refine K.step ?_ (State.setFlag_keeps _ _ _ _) rfl
      exact K.refl
  · exact K.refl

theorem execBlockLock_keeps : ∀ a0 a1, K gR 8847364 a1 (execBlockLock a0 a1) := by
  intro a0 a1
  unfold execBlockLock
  refine K.mkR ?_
  refine K.ite (fun _ => ?_) (fun _ => ?_)
  · refine K.step ?_ (State.enterLane_keeps _ _ _) rfl
    exact K.refl
  · exact K.refl

theorem execFlnCtlWrite_keeps : ∀ a0 a1 a2, K gR 8847364 a2 (execFlnCtlWrite a0 a1 a2) := by
  intro a0 a1 a2
  unfold execFlnCtlWrite
  extract_lets +onlyGivenNames -underBinder -merge -useContext x0
  clear_value x0
  extract_lets +onlyGivenNames -underBinder -merge -useContext x1
  have h2 : ∀ y3, K gS 8847364 a2 (x1 y3) := by
    intro y3
    dsimp -zeta only [x1]
    refine K.step ?_ (State.setFld_keeps _ _ _ _) rfl
    refine K.step ?_ (State.setFlag_keeps _ _ _ _) rfl
    exact K.refl
  clear_value x1
  refine K.mkR ?_
  refine K.ite (fun _ => ?_) (fun _ => ?_)
  · exact K.refl
  · refine K.ite (fun _ => ?_) (fun _ => ?_)
    · exact h2 _
    · refine K.ite (fun _ => ?_) (fun _ => ?_)
      · exact h2 _
      · refine K.step ?_ (State.laneEval_keeps _ _) rfl
        refine K.step ?_ (State.writeReg_keeps _ _ _ _) rfl
        exact K.refl

theorem execFlnQctlWrite_keeps : ∀ a0 a1 a2, K gR 4 a2 (execFlnQctlWrite a0 a1 a2) := by
  intro a0 a1 a2
  unfold execFlnQctlWrite
  extract_lets +onlyGivenNames -underBinder -merge -useContext x0
  clear_value x0
  refine K.mkR ?_
  refine K.ite (fun _ => ?_) (fun _ => ?_)
  · exact K.refl
  · split
    · refine K.step ?_ (State.setFld_keeps _ _ _ _) rfl
      refine K.step ?_ (State.setFlag_keeps _ _ _ _) rfl
      exact K.refl
    · refine K.step ?_ (State.writeReg_keeps _ _ _ _) rfl
      exact K.refl

theorem execFlnTxeqWrite_keeps : ∀ a0 a1 a2, K gR 4 a2 (execFlnTxeqWrite a0 a1 a2) := by
  intro a0 a1 a2
  unfold execFlnTxeqWrite
  extract_lets +onlyGivenNames -underBinder -merge -useContext x0
  clear_value x0
  extract_lets +onlyGivenNames -underBinder -merge -useContext x1
  clear_value x1
  extract_lets +onlyGivenNames -underBinder -merge -useContext x2
  clear_value x2
  refine K.mkR ?_
  refine K.ite (fun _ => ?_) (fun _ => ?_)
  · exact K.refl
  · refine K.ite (fun _ => ?_) (fun _ => ?_)
    · refine K.step ?_ (State.setFld_keeps _ _ _ _) rfl
      refine K.step ?_ (State.setFlag_keeps _ _ _ _) rfl
      exact K.refl
    · refine K.step ?_ (State.writeReg_keeps _ _ _ _) rfl
      exact K.refl

theorem execFrameTransmitEnd_keeps : ∀ a0 a1 a2 a3, K gR 8781828 a3 (execFrameTransmitEnd a0 a1 a2 a3) := by
  intro a0 a1 a2 a3
  unfold execFrameTransmitEnd
  extract_lets +onlyGivenNames -underBinder -merge -useContext x0
  clear_value x0
  extract_lets +onlyGivenNames -underBinder -merge -useContext x1
  clear_value x1
  refine K.mkR ?_
  refine K.ite (fun _ => ?_) (fun _ => ?_)
  · exact K.refl
  · split
    · refine K.step ?_ (State.pickNext_keeps _ _ _) rfl
      exact K.refl
    · refine K.ite (fun _ => ?_) (fun _ => ?_)
      · refine K.step ?_ (State.pickNext_keeps _ _ _) rfl
        refine K.step ?_ (State.bump_keeps _ _ _ _) rfl
        refine K.step ?_ (State.setLane_keeps _ _ _) rfl
        exact K.refl
      · extract_lets +onlyGivenNames -underBinder -merge -useContext x4
        have h5 : K gS 8781828 a3 x4 := by
          refine K.step ?_ (State.bump_keeps _ _ _ _) rfl
          refine K.step ?_ (State.setLane_keeps _ _ _) rfl
          exact K.refl
        clear_value x4
        extract_lets +onlyGivenNames -underBinder -merge -useContext x6
        have h7 : K gS 8781828 a3 x6 := by
          refine K.ite (fun _ => ?_) (fun _ => ?_)
          · refine K.step ?_ (State.bump_keeps _ _ _ _) rfl
            exact h5
          · exact h5
        clear_value x6
        refine K.step ?_ (State.pickNext_keeps _ _ _) rfl
        refine K.step ?_ (State.bulkEnd_keeps _ _ _ _ _ _) rfl
        exact h7

theorem execGateIntervalEnd_keeps : ∀ a0 a1, K gR 131074 a1 (execGateIntervalEnd a0 a1) := by
  intro a0 a1
  unfold execGateIntervalEnd
  extract_lets +onlyGivenNames -underBinder -merge -useContext x0
  clear_value x0
  refine K.mkR ?_
  split
  · exact K.refl
  · refine K.ite (fun _ => ?_) (fun _ => ?_)
    · refine K.step ?_ (State.enterSpan_keeps _ _ _ _ _) rfl
      exact K.refl
    · refine K.step ?_ (State.enterSpan_keeps _ _ _ _ _) rfl
      exact K.refl

theorem execGclSwap_keeps : ∀ a0 a1, K gR 131076 a1 (execGclSwap a0 a1) := by
  intro a0 a1
  unfold execGclSwap
  extract_lets +onlyGivenNames -underBinder -merge -useContext x0
  clear_value x0
  extract_lets +onlyGivenNames -underBinder -merge -useContext x1
  clear_value x1
  extract_lets +onlyGivenNames -underBinder -merge -useContext x2
  clear_value x2
  extract_lets +onlyGivenNames -underBinder -merge -useContext x3
  clear_value x3
  refine K.mkR ?_
  refine K.ite (fun _ => ?_) (fun _ => ?_)
  · exact K.refl
  · refine K.ite (fun _ => ?_) (fun _ => ?_)
    · refine K.step ?_ (State.setFlag_keeps _ _ _ _) rfl
      exact K.refl
    · refine K.step ?_ (State.setFlag_keeps _ _ _ _) rfl
      refine K.step ?_ (State.modLane_keeps _ _ _) rfl
      exact K.refl

theorem execGclTakeover_keeps : ∀ a0 a1, K gR 131078 a1 (execGclTakeover a0 a1) := by
  intro a0 a1
  unfold execGclTakeover
  extract_lets +onlyGivenNames -underBinder -merge -useContext x0
  clear_value x0
  refine K.mkR ?_
  split
  · exact K.refl
  · extract_lets +onlyGivenNames -underBinder -merge -useContext x3
    have h4 : K gS 131078 a1 x3 := by
      refine K.step ?_ (State.modLane_keeps _ _ _) rfl
      exact K.refl
    clear_value x3
    extract_lets +onlyGivenNames -underBinder -merge -useContext x5
    have h6 : K gS 131078 a1 x5 := by
      refine K.step ?_ (State.setFlag_keeps _ _ _ _) rfl
      refine K.step ?_ (State.setFlag_keeps _ _ _ _) rfl
      exact h4
    clear_value x5
    refine K.step ?_ (State.enterSpan_keeps _ _ _ _ _) rfl
    exact h6

theorem execGptpMessageReceive_keeps : ∀ a0 a1 a2, K gR 8585220 a2 (execGptpMessageReceive a0 a1 a2) := by
  intro a0 a1 a2
  unfold execGptpMessageReceive
  extract_lets +onlyGivenNames -underBinder -merge -useContext x0
  clear_value x0
  refine K.mkR ?_
  refine K.ite (fun _ => ?_) (fun _ => ?_)
  · split
    · refine K.step ?_ (State.sendPtp_keeps _ _ _) rfl
      refine K.step ?_ (State.sendPtp_keeps _ _ _) rfl
      exact K.refl
    · extract_lets +onlyGivenNames -underBinder -merge -useContext x3
      clear_value x3
      extract_lets +onlyGivenNames -underBinder -merge -useContext x4
      have h5 : K gS 8585220 a2 x4 := by
        refine K.step ?_ (State.setFlag_keeps _ _ _ _) rfl
        refine K.step ?_ (State.setFld_keeps _ _ _ _) rfl
        refine K.step ?_ (State.setFld_keeps _ _ _ _) rfl
        exact K.refl
      clear_value x4
      refine K.ite (fun _ => ?_) (fun _ => ?_)
      · refine K.step ?_ (State.holdover_keeps _) rfl
        exact h5
      · exact h5
    · exact K.refl
  · exact K.refl

theorem execHoldExpire_keeps : ∀ a0 a1, K gR 8847364 a1 (execHoldExpire a0 a1) := by
  intro a0 a1
  unfold execHoldExpire
  refine K.mkR ?_
  refine K.ite (fun _ => ?_) (fun _ => ?_)
  · refine K.step ?_ (State.enterLane_keeps _ _ _) rfl
    exact K.refl
  · exact K.refl

theorem execLinkTrainingComplete_keeps : ∀ a0 a1, K gR 8847364 a1 (execLinkTrainingComplete a0 a1) := by
  intro a0 a1
  unfold execLinkTrainingComplete
  refine K.mkR ?_
  refine K.ite (fun _ => ?_) (fun _ => ?_)
  · refine K.step ?_ (State.enterLane_keeps _ _ _) rfl
    exact K.refl
  · exact K.refl

theorem execLinkTrainingTimeout_keeps : ∀ a0 a1, K gR 8847364 a1 (execLinkTrainingTimeout a0 a1) := by
  intro a0 a1
  unfold execLinkTrainingTimeout
  refine K.mkR ?_
  refine K.ite (fun _ => ?_) (fun _ => ?_)
  · refine K.step ?_ (State.enterLane_keeps _ _ _) rfl
    exact K.refl
  · exact K.refl

theorem execLockLoss_keeps : ∀ a0 a1 a2, K gR 8598781956 a2 (execLockLoss a0 a1 a2) := by
  intro a0 a1 a2
  unfold execLockLoss
  refine K.mkR ?_
  refine K.ite (fun _ => ?_) (fun _ => ?_)
  · extract_lets +onlyGivenNames -underBinder -merge -useContext x0
    have h1 : K gS 8598781956 a2 x0 := by
      refine K.step ?_ (State.corrected_keeps _ _ _) rfl
      refine K.step ?_ (State.setFlag_keeps _ _ _ _) rfl
      exact K.refl
    clear_value x0
    extract_lets +onlyGivenNames -underBinder -merge -useContext x2
    have h3 : K gS 8598781956 a2 x2 := by
      refine K.ite (fun _ => ?_) (fun _ => ?_)
      · refine K.step ?_ (State.bump_keeps _ _ _ _) rfl
        exact h1
      · exact h1
    clear_value x2
    refine K.ite (fun _ => ?_) (fun _ => ?_)
    · refine K.step ?_ (State.enterLane_keeps _ _ _) rfl
      exact h3
    · refine K.ite (fun _ => ?_) (fun _ => ?_)
      · refine K.step ?_ (State.enterLane_keeps _ _ _) rfl
        exact h3
      · exact h3
  · exact K.refl

theorem execPdelayReqTransmit_keeps : ∀ a0 a1, K gR 8519684 a1 (execPdelayReqTransmit a0 a1) := by
  intro a0 a1
  unfold execPdelayReqTransmit
  refine K.mkR ?_
  refine K.ite (fun _ => ?_) (fun _ => ?_)
  · refine K.step ?_ (State.sendPtp_keeps _ _ _) rfl
    exact K.refl
  · exact K.refl

theorem execQuadReferenceChange_keeps : ∀ a0 a1 a2, K gR 8847364 a2 (execQuadReferenceChange a0 a1 a2) := by
  intro a0 a1 a2
  unfold execQuadReferenceChange
  refine K.mkR ?_
  refine K.ite (fun _ => ?_) (fun _ => ?_)
  · refine K.step ?_ (State.quadEval_keeps _ _) rfl
    refine K.step ?_ (State.setFlag_keeps _ _ _ _) rfl
    exact K.refl
  · exact K.refl

theorem execRemoteFault_keeps : ∀ a0 a1 a2, K gR 4 a2 (execRemoteFault a0 a1 a2) := by
  intro a0 a1 a2
  unfold execRemoteFault
  refine K.mkR ?_
  refine K.ite (fun _ => ?_) (fun _ => ?_)
  · refine K.step ?_ (State.setFlag_keeps _ _ _ _) rfl
    exact K.refl
  · exact K.refl

theorem execSyncTransmit_keeps : ∀ a0 a1, K gR 8519684 a1 (execSyncTransmit a0 a1) := by
  intro a0 a1
  unfold execSyncTransmit
  refine K.mkR ?_
  refine K.ite (fun _ => ?_) (fun _ => ?_)
  · refine K.step ?_ (State.sendPtp_keeps _ _ _) rfl
    refine K.step ?_ (State.sendPtp_keeps _ _ _) rfl
    exact K.refl
  · exact K.refl

theorem execVerifyComplete_keeps : ∀ a0 a1 a2, K gR 4 a2 (execVerifyComplete a0 a1 a2) := by
  intro a0 a1 a2
  unfold execVerifyComplete
  refine K.mkR ?_
  refine K.ite (fun _ => ?_) (fun _ => ?_)
  · refine K.step ?_ (State.setPreact_keeps _ _ _) rfl
    exact K.refl
  · exact K.refl

end Sys2Proof.Machine
end

