-- ==== Sys2Proof/Laws/KeepsTide.lean ====
section
/-!
SUPPORT. What each function and each command of Machine/Tide.lean can change (Laws/Keeps.lean), one lemma each.
-/
namespace Sys2Proof.Machine

theorem State.setStn_keeps : ∀ a0 a1 a2, K gS 524288 a0 (State.setStn a0 a1 a2) := by
  intro a0 a1 a2
  unfold State.setStn
  refine K.upd524288 ?_ rfl
  exact K.refl

theorem State.readBuffer_keeps : ∀ a0 a1 a2 a3 a4, K g2 8589934596 a0 (State.readBuffer a0 a1 a2 a3 a4) := by
  intro a0 a1 a2 a3 a4
  unfold State.readBuffer
  refine K.ite (fun _ => ?_) (fun _ => ?_)
  · refine K.mk2 ?_
    exact K.refl
  · extract_lets +onlyGivenNames -underBinder -merge -useContext x0
    have h1 : K gS 8589934596 a0 x0 := by
      refine K.ite (fun _ => ?_) (fun _ => ?_)
      · exact K.refl
      · refine K.step ?_ (State.failureI_keeps _ _ _ _ _ _ _ _) rfl
        exact K.refl
    clear_value x0
    split
    · refine K.mk2 ?_
      refine K.step ?_ (State.injTriggered_keeps _) rfl
      refine K.step ?_ (State.correctedI_keeps _ _ _ _) rfl
      exact h1
    · refine K.mk2 ?_
      refine K.step ?_ (State.injTriggered_keeps _) rfl
      refine K.step ?_ (State.failureI_keeps _ _ _ _ _ _ _ _) rfl
      exact h1
    · refine K.mk2 ?_
      refine K.step ?_ (State.injTriggered_keeps _) rfl
      exact h1
    · refine K.mk2 ?_
      exact h1

theorem State.modStn_keeps : ∀ a0 a1 a2, K gS 524288 a0 (State.modStn a0 a1 a2) := by
  intro a0 a1 a2
  unfold State.modStn
  refine K.step ?_ (State.setStn_keeps _ _ _) rfl
  exact K.refl

theorem State.inputEdge_keeps : ∀ a0 a1 a2 a3, K gS 2147484160 a0 (State.inputEdge a0 a1 a2 a3) := by
  intro a0 a1 a2 a3
  unfold State.inputEdge
  extract_lets +onlyGivenNames -underBinder -merge -useContext x0
  clear_value x0
  extract_lets +onlyGivenNames -underBinder -merge -useContext x1
  clear_value x1
  extract_lets +onlyGivenNames -underBinder -merge -useContext x2
  have h3 : K gS 2147484160 a0 x2 := by
    refine K.step ?_ (State.send_keeps _ _) rfl
    refine K.step ?_ (State.modSrc_keeps _ _ _) rfl
    exact K.refl
  clear_value x2
  refine K.ite (fun _ => ?_) (fun _ => ?_)
  · refine K.step ?_ (State.send_keeps _ _) rfl
    exact h3
  · exact h3

theorem State.feWriteP_keeps : ∀ a0 a1 a2 a3 a4 a5, K gS 126 a0 (State.feWriteP a0 a1 a2 a3 a4 a5) := by
  intro a0 a1 a2 a3 a4 a5
  unfold State.feWriteP
  refine K.step ?_ (State.logPa_keeps _ _ _ _ _) rfl
  refine K.step ?_ (State.engWrite_keeps _ _ _ _ _) rfl
  exact K.refl

theorem State.fsBump_keeps : ∀ a0 a1 a2 a3, K gS 4 a0 (State.fsBump a0 a1 a2 a3) := by
  intro a0 a1 a2 a3
  unfold State.fsBump
  refine K.ite (fun _ => ?_) (fun _ => ?_)
  · refine K.step ?_ (State.bump_keeps _ _ _ _) rfl
    exact K.refl
  · exact K.refl

theorem State.openLoop_keeps : ∀ a0 a1 a2, K gS 262148 a0 (State.openLoop a0 a1 a2) := by
  intro a0 a1 a2
  unfold State.openLoop
  extract_lets +onlyGivenNames -underBinder -merge -useContext x0
  have h1 : K gS 262148 a0 x0 := by
    refine K.ite (fun _ => ?_) (fun _ => ?_)
    · refine K.step ?_ (State.setFlag_keeps _ _ _ _) rfl
      refine K.step ?_ (State.fsBump_keeps _ _ _ _) rfl
      exact K.refl
    · exact K.refl
  clear_value x0
  refine K.step ?_ (State.modFast_keeps _ _ _) rfl
  exact h1

theorem State.arriveInput_keeps : ∀ a0 a1 a2, K gS 2215379582 a0 (State.arriveInput a0 a1 a2) := by
  intro a0 a1 a2
  unfold State.arriveInput
  extract_lets +onlyGivenNames -underBinder -merge -useContext x0
  clear_value x0
  extract_lets +onlyGivenNames -underBinder -merge -useContext x1
  clear_value x1
  extract_lets +onlyGivenNames -underBinder -merge -useContext x2
  clear_value x2
  extract_lets +onlyGivenNames -underBinder -merge -useContext x3
  clear_value x3
  extract_lets +onlyGivenNames -underBinder -merge -useContext x4
  clear_value x4
  refine K.ite (fun _ => ?_) (fun _ => ?_)
  · extract_lets +onlyGivenNames -underBinder -merge -useContext x5
    clear_value x5
    extract_lets +onlyGivenNames -underBinder -merge -useContext x6
    have h7 : K gS 2215379582 a0 x6 := by
      refine K.step ?_ (State.feWriteP_keeps _ _ _ _ _ _) rfl
      refine K.step ?_ (State.modStn_keeps _ _ _) rfl
      exact K.refl
    clear_value x6
    refine K.ite (fun _ => ?_) (fun _ => ?_)
    · refine K.step ?_ (State.inputEdge_keeps _ _ _ _) rfl
      refine K.step ?_ (State.openLoop_keeps _ _ _) rfl
      exact h7
    · exact h7
  · extract_lets +onlyGivenNames -underBinder -merge -useContext x8
    have h9 : K gS 2215379582 a0 x8 := by
      refine K.ite (fun _ => ?_) (fun _ => ?_)
      · refine K.step ?_ (State.engRefused_keeps _ _ _ _ _ _) rfl
        exact K.refl
      · exact K.refl
    clear_value x8
    extract_lets +onlyGivenNames -underBinder -merge -useContext x10
    have h11 : K gS 2215379582 a0 x10 := by
      refine K.ite (fun _ => ?_) (fun _ => ?_)
      · exact h9
      · refine K.step ?_ (State.send_keeps _ _) rfl
        exact h9
    clear_value x10
    extract_lets +onlyGivenNames -underBinder -merge -useContext x12
    have h13 : K gS 2215379582 a0 x12 := by
      dsimp -zeta only [x12]
      split
      · refine K.ite (fun _ => ?_) (fun _ => ?_)
        · refine K.step ?_ (State.coreWake_keeps _ _ _) rfl
          exact h11
        · exact h11
      · exact h11
    clear_value x12
    refine K.ite (fun _ => ?_) (fun _ => ?_)
    · refine K.step ?_ (State.inputEdge_keeps _ _ _ _) rfl
      exact h13
    · exact h13

theorem State.setFe_keeps : ∀ a0 a1 a2, K gS 4194304 a0 (State.setFe a0 a1 a2) := by
  intro a0 a1 a2
  unfold State.setFe
  refine K.upd4194304 ?_ rfl
  exact K.refl

theorem State.modFe_keeps : ∀ a0 a1 a2, K gS 4194304 a0 (State.modFe a0 a1 a2) := by
  intro a0 a1 a2
  unfold State.modFe
  refine K.step ?_ (State.setFe_keeps _ _ _) rfl
  exact K.refl

theorem State.issueRead_keeps : ∀ a0 a1 a2, K gS 4194308 a0 (State.issueRead a0 a1 a2) := by
  intro a0 a1 a2
  unfold State.issueRead
  extract_lets +onlyGivenNames -underBinder -merge -useContext x0
  clear_value x0
  extract_lets +onlyGivenNames -underBinder -merge -useContext x1
  clear_value x1
  refine K.step ?_ (State.modFe_keeps _ _ _) rfl
  refine K.ite (fun _ => ?_) (fun _ => ?_)
  · exact K.refl
  · refine K.step ?_ (State.engRefused_keeps _ _ _ _ _ _) rfl
    exact K.refl

theorem State.feWrite_keeps : ∀ a0 a1 a2 a3 a4, K gS 126 a0 (State.feWrite a0 a1 a2 a3 a4) := by
  intro a0 a1 a2 a3 a4
  unfold State.feWrite
  refine K.step ?_ (State.feWriteP_keeps _ _ _ _ _ _) rfl
  exact K.refl

theorem State.bankArrive_keeps : ∀ a0 a1 a2 a3 a4, K gS 126 a0 (State.bankArrive a0 a1 a2 a3 a4) := by
  intro a0 a1 a2 a3 a4
  unfold State.bankArrive
  refine K.ite (fun _ => ?_) (fun _ => ?_)
  · refine K.step ?_ (State.feWrite_keeps _ _ _ _ _) rfl
    exact K.refl
  · refine K.step ?_ (State.engRefused_keeps _ _ _ _ _ _) rfl
    exact K.refl

theorem State.arrive_keeps : ∀ a0 a1, K gS 2219573886 a0 (State.arrive a0 a1) := by
  intro a0 a1
  unfold State.arrive
  split
  · refine K.step ?_ (State.arriveInput_keeps _ _ _) rfl
    exact K.refl
  · refine K.step ?_ (State.issueRead_keeps _ _ _) rfl
    exact K.refl
  · refine K.step ?_ (State.bankArrive_keeps _ _ _ _ _) rfl
    exact K.refl
  · refine K.step ?_ (State.send_keeps _ _) rfl
    exact K.refl

theorem State.feTc0_keeps : ∀ a0 a1 a2, K gS 2219576958 a0 (State.feTc0 a0 a1 a2) := by
  intro a0 a1 a2
  unfold State.feTc0
  refine K.ite (fun _ => ?_) (fun _ => ?_)
  · refine K.step ?_ (State.arrive_keeps _ _) rfl
    refine K.step ?_ (State.takeTc0_keeps _ _ _ _ _) rfl
    exact K.refl
  · refine K.step ?_ (State.waitTc0_keeps _ _ _) rfl
    exact K.refl

theorem State.fsFault_keeps : ∀ a0 a1 a2, K gS 4 a0 (State.fsFault a0 a1 a2) := by
  intro a0 a1 a2
  unfold State.fsFault
  refine K.step ?_ (State.setFlag_keeps _ _ _ _) rfl
  refine K.step ?_ (State.fsBump_keeps _ _ _ _) rfl
  exact K.refl

theorem State.sendInput_keeps : ∀ a0 a1 a2, K gS 2219576958 a0 (State.sendInput a0 a1 a2) := by
  intro a0 a1 a2
  unfold State.sendInput
  extract_lets +onlyGivenNames -underBinder -merge -useContext x0
  clear_value x0
  refine K.ite (fun _ => ?_) (fun _ => ?_)
  · refine K.step ?_ (State.arriveInput_keeps _ _ _) rfl
    exact K.refl
  · extract_lets +onlyGivenNames -underBinder -merge -useContext x1
    clear_value x1
    extract_lets +onlyGivenNames -underBinder -merge -useContext x2
    clear_value x2
    extract_lets +onlyGivenNames -underBinder -merge -useContext x3
    clear_value x3
    extract_lets +onlyGivenNames -underBinder -merge -useContext x4
    clear_value x4
    extract_lets +onlyGivenNames -underBinder -merge -useContext x5
    have h6 : K gS 2219576958 a0 x5 := by
      refine K.ite (fun _ => ?_) (fun _ => ?_)
      · refine K.step ?_ (State.fsFault_keeps _ _ _) rfl
        exact K.refl
      · exact K.refl
    clear_value x5
    refine K.step ?_ (State.feTc0_keeps _ _ _) rfl
    exact h6

theorem State.setStnState_keeps : ∀ a0 a1 a2 a3 a4, K gS 4 a0 (State.setStnState a0 a1 a2 a3 a4) := by
  intro a0 a1 a2 a3 a4
  unfold State.setStnState
  refine K.step ?_ (State.setFld_keeps _ _ _ _) rfl
  refine K.step ?_ (State.setFld_keeps _ _ _ _) rfl
  exact K.refl

theorem State.inputRefused_keeps : ∀ a0 a1 a2, K gS 524292 a0 (State.inputRefused a0 a1 a2) := by
  intro a0 a1 a2
  unfold State.inputRefused
  extract_lets +onlyGivenNames -underBinder -merge -useContext x0
  clear_value x0
  extract_lets +onlyGivenNames -underBinder -merge -useContext x1
  have h2 : K gS 524292 a0 x1 := by
    refine K.step ?_ (State.modStn_keeps _ _ _) rfl
    exact K.refl
  clear_value x1
  refine K.ite (fun _ => ?_) (fun _ => ?_)
  · exact h2
  · refine K.ite (fun _ => ?_) (fun _ => ?_)
    · refine K.step ?_ (State.fsFault_keeps _ _ _) rfl
      exact h2
    · refine K.step ?_ (State.bump_keeps _ _ _ _) rfl
      exact h2

theorem State.acceptInput_keeps : ∀ a0 a1 a2 a3 a4 a5 a6 a7, K gS 10809511550 a0 (State.acceptInput a0 a1 a2 a3 a4 a5 a6 a7) := by
  intro a0 a1 a2 a3 a4 a5 a6 a7
  unfold State.acceptInput
  extract_lets +onlyGivenNames -underBinder -merge -useContext x0
  have h1 : K g2 10809511550 a0 x0 := by
    refine K.step ?_ (State.readBuffer_keeps _ _ _ _ _) rfl
    exact K.refl
  clear_value x0
  extract_lets +onlyGivenNames -underBinder -merge -useContext x2
  have h3 : K gS 10809511550 a0 x2 := by
    refine K.of2 ?_
    exact h1
  clear_value x2
  extract_lets +onlyGivenNames -underBinder -merge -useContext x4
  clear_value x4
  extract_lets +onlyGivenNames -underBinder -merge -useContext x5
  clear_value x5
  extract_lets +onlyGivenNames -underBinder -merge -useContext x6
  clear_value x6
  extract_lets +onlyGivenNames -underBinder -merge -useContext x7
  have h8 : K gS 10809511550 a0 x7 := by
    refine K.ite (fun _ => ?_) (fun _ => ?_)
    · refine K.step ?_ (State.bump_keeps _ _ _ _) rfl
      exact h3
    · exact h3
  clear_value x7
  extract_lets +onlyGivenNames -underBinder -merge -useContext x9
  have h10 : K gS 10809511550 a0 x9 := by
    refine K.step ?_ (State.setFld_keeps _ _ _ _) rfl
    refine K.step ?_ (State.setStn_keeps _ _ _) rfl
    exact h8
  clear_value x9
  extract_lets +onlyGivenNames -underBinder -merge -useContext x11
  have h12 : K gS 10809511550 a0 x11 := by
    refine K.step ?_ (State.setStnState_keeps _ _ _ _ _) rfl
    exact h10
  clear_value x11
  extract_lets +onlyGivenNames -underBinder -merge -useContext x13
  clear_value x13
  extract_lets +onlyGivenNames -underBinder -merge -useContext x14
  clear_value x14
  extract_lets +onlyGivenNames -underBinder -merge -useContext x15
  clear_value x15
  refine K.ite (fun _ => ?_) (fun _ => ?_)
  · refine K.step ?_ (State.inputRefused_keeps _ _ _) rfl
    exact h12
  · refine K.ite (fun _ => ?_) (fun _ => ?_)
    · refine K.step ?_ (State.sendInput_keeps _ _ _) rfl
      refine K.step ?_ (State.fsFault_keeps _ _ _) rfl
      exact h12
    · refine K.step ?_ (State.sendInput_keeps _ _ _) rfl
      exact h12

theorem State.frerLost_keeps : ∀ a0 a1 a2, K gS 4 a0 (State.frerLost a0 a1 a2) := by
  intro a0 a1 a2
  unfold State.frerLost
  refine K.step ?_ (State.bump_keeps _ _ _ _) rfl
  exact K.refl

theorem State.frerDup_keeps : ∀ a0 a1, K gS 4 a0 (State.frerDup a0 a1) := by
  intro a0 a1
  unfold State.frerDup
  refine K.step ?_ (State.bump_keeps _ _ _ _) rfl
  exact K.refl

theorem State.eliminate_keeps : ∀ a0 a1 a2 a3, K g2 524292 a0 (State.eliminate a0 a1 a2 a3) := by
  intro a0 a1 a2 a3
  unfold State.eliminate
  extract_lets +onlyGivenNames -underBinder -merge -useContext x0
  clear_value x0
  split
  · refine K.mk2 ?_
    refine K.step ?_ (State.setStn_keeps _ _ _) rfl
    exact K.refl
  · extract_lets +onlyGivenNames -underBinder -merge -useContext x3
    clear_value x3
    refine K.ite (fun _ => ?_) (fun _ => ?_)
    · extract_lets +onlyGivenNames -underBinder -merge -useContext x4
      clear_value x4
      refine K.ite (fun _ => ?_) (fun _ => ?_)
      · refine K.mk2 ?_
        exact K.refl
      · refine K.ite (fun _ => ?_) (fun _ => ?_)
        · refine K.mk2 ?_
          refine K.step ?_ (State.frerDup_keeps _ _) rfl
          exact K.refl
        · refine K.mk2 ?_
          refine K.step ?_ (State.setStn_keeps _ _ _) rfl
          exact K.refl
    · refine K.ite (fun _ => ?_) (fun _ => ?_)
      · refine K.mk2 ?_
        exact K.refl
      · refine K.mk2 ?_
        refine K.step ?_ (State.frerLost_keeps _ _ _) rfl
        refine K.step ?_ (State.setStn_keeps _ _ _) rfl
        exact K.refl

theorem State.setImg_keeps : ∀ a0 a1 a2, K gS 1048576 a0 (State.setImg a0 a1 a2) := by
  intro a0 a1 a2
  unfold State.setImg
  refine K.upd1048576 ?_ rfl
  exact K.refl

theorem State.modImg_keeps : ∀ a0 a1 a2, K gS 1048576 a0 (State.modImg a0 a1 a2) := by
  intro a0 a1 a2
  unfold State.modImg
  refine K.step ?_ (State.setImg_keeps _ _ _) rfl
  exact K.refl

theorem State.replaceFast_keeps : ∀ a0 a1 a2 a3, K g2 131072 a0 (State.replaceFast a0 a1 a2 a3) := by
  intro a0 a1 a2 a3
  unfold State.replaceFast
  extract_lets +onlyGivenNames -underBinder -merge -useContext x0
  clear_value x0
  extract_lets +onlyGivenNames -underBinder -merge -useContext x1
  clear_value x1
  refine K.ite (fun _ => ?_) (fun _ => ?_)
  · refine K.mk2 ?_
    refine K.step ?_ (State.setLane_keeps _ _ _) rfl
    exact K.refl
  · refine K.mk2 ?_
    exact K.refl

theorem State.queueOut_keeps : ∀ a0 a1 a2 a3 a4 a5 a6 a7 a8, K gS 9043972 a0 (State.queueOut a0 a1 a2 a3 a4 a5 a6 a7 a8) := by
  intro a0 a1 a2 a3 a4 a5 a6 a7 a8
  unfold State.queueOut
  extract_lets +onlyGivenNames -underBinder -merge -useContext x0
  clear_value x0
  extract_lets +onlyGivenNames -underBinder -merge -useContext x1
  clear_value x1
  extract_lets +onlyGivenNames -underBinder -merge -useContext x2
  clear_value x2
  extract_lets +onlyGivenNames -underBinder -merge -useContext x3
  clear_value x3
  extract_lets +onlyGivenNames -underBinder -merge -useContext x4
  clear_value x4
  extract_lets +onlyGivenNames -underBinder -merge -useContext x5
  have h6 : K gS 9043972 a0 x5 := by
    refine K.ite (fun _ => ?_) (fun _ => ?_)
    · refine K.step ?_ (State.modStn_keeps _ _ _) rfl
      exact K.refl
    · exact K.refl
  clear_value x5
  extract_lets +onlyGivenNames -underBinder -merge -useContext x7
  have h8 : K g2 9043972 a0 x7 := by
    refine K.foldl2 ?_ (fun y9 a10 h11 => ?_)
    · refine K.mk2 ?_
      exact h6
    · extract_lets +onlyGivenNames -underBinder -merge -useContext x12
      clear_value x12
      extract_lets +onlyGivenNames -underBinder -merge -useContext x13
      clear_value x13
      refine K.ite (fun _ => ?_) (fun _ => ?_)
      · extract_lets +onlyGivenNames -underBinder -merge -useContext x14
        have h15 : K g2 9043972 a0 x14 := by
          refine K.step ?_ (State.replaceFast_keeps _ _ _ _) rfl
          refine K.of2 ?_
          exact h11
        clear_value x14
        refine K.ite (fun _ => ?_) (fun _ => ?_)
        · refine K.mk2 ?_
          refine K.of2 ?_
          exact h15
        · refine K.mk2 ?_
          refine K.step ?_ (State.enqueue_keeps _ _ _) rfl
          refine K.of2 ?_
          exact h11
      · refine K.mk2 ?_
        refine K.step ?_ (State.enqueue_keeps _ _ _) rfl
        refine K.of2 ?_
        exact h11
  clear_value x7
  refine K.ite (fun _ => ?_) (fun _ => ?_)
  · refine K.step ?_ (State.fsBump_keeps _ _ _ _) rfl
    refine K.of2 ?_
    exact h8
  · refine K.of2 ?_
    exact h8

theorem State.setFastLanes_keeps : ∀ a0 a1 a2 a3, K gS 4 a0 (State.setFastLanes a0 a1 a2 a3) := by
  intro a0 a1 a2 a3
  unfold State.setFastLanes
  refine K.foldl ?_ (fun y0 a1 h2 => ?_)
  · exact K.refl
  · extract_lets +onlyGivenNames -underBinder -merge -useContext x3
    clear_value x3
    extract_lets +onlyGivenNames -underBinder -merge -useContext x4
    have h5 : K gS 4 a0 x4 := by
      refine K.step ?_ (State.setFlag_keeps _ _ _ _) rfl
      refine K.step ?_ (State.setFlag_keeps _ _ _ _) rfl
      exact h2
    clear_value x4
    refine K.step ?_ (State.setFld_keeps _ _ _ _) rfl
    exact h5

theorem State.replaceStn_keeps : ∀ a0 a1 a2 a3, K gS 786436 a0 (State.replaceStn a0 a1 a2 a3) := by
  intro a0 a1 a2 a3
  unfold State.replaceStn
  extract_lets +onlyGivenNames -underBinder -merge -useContext x0
  clear_value x0
  extract_lets +onlyGivenNames -underBinder -merge -useContext x1
  clear_value x1
  extract_lets +onlyGivenNames -underBinder -merge -useContext x2
  clear_value x2
  extract_lets +onlyGivenNames -underBinder -merge -useContext x3
  extract_lets +onlyGivenNames -underBinder -merge -useContext x4
  have h5 : K gS 786436 a0 x4 := by
    refine K.ite (fun _ => ?_) (fun _ => ?_)
    · refine K.step ?_ (State.setFastLanes_keeps _ _ _ _) rfl
      exact K.refl
    · exact K.refl
  clear_value x4
  extract_lets +onlyGivenNames -underBinder -merge -useContext x6
  have h7 : K gS 786436 a0 x6 := by
    refine K.foldl ?_ (fun y8 a9 h10 => ?_)
    · exact h5
    · refine K.step ?_ (State.setReg_keeps _ _ _) rfl
      exact h10
  clear_value x6
  extract_lets +onlyGivenNames -underBinder -merge -useContext x11
  have h12 : K gS 786436 a0 x11 := by
    refine K.ite (fun _ => ?_) (fun _ => ?_)
    · refine K.step ?_ (State.setFastLanes_keeps _ _ _ _) rfl
      exact h7
    · exact h7
  clear_value x11
  refine K.ite (fun _ => ?_) (fun _ => ?_)
  · refine K.step ?_ (State.modStn_keeps _ _ _) rfl
    exact h12
  · extract_lets +onlyGivenNames -underBinder -merge -useContext x13
    have h14 : K gS 786436 a0 x13 := by
      refine K.step ?_ (State.setReg_keeps _ _ _) rfl
      refine K.step ?_ (State.modStn_keeps _ _ _) rfl
      exact h12
    clear_value x13
    extract_lets +onlyGivenNames -underBinder -merge -useContext x15
    have h16 : K gS 786436 a0 x15 := by
      refine K.step ?_ (State.setStnState_keeps _ _ _ _ _) rfl
      exact h14
    clear_value x15
    extract_lets +onlyGivenNames -underBinder -merge -useContext x17
    have h18 : ∀ y19 y20, K gS 786436 a0 y20 → K gS 786436 a0 (x17 y19 y20) := by
      intro y19 y20 h21
      dsimp -zeta only [x17]
      refine K.ite (fun _ => ?_) (fun _ => ?_)
      · refine K.step ?_ (State.modFast_keeps _ _ _) rfl
        exact h21
      · exact h21
    clear_value x17
    refine h18 _ _ ?_
    refine h18 _ _ ?_
    exact h16

theorem State.sendRead_keeps : ∀ a0 a1 a2, K gS 2219576958 a0 (State.sendRead a0 a1 a2) := by
  intro a0 a1 a2
  unfold State.sendRead
  split
  · refine K.step ?_ (State.feTc0_keeps _ _ _) rfl
    exact K.refl
  · refine K.step ?_ (State.feTc0_keeps _ _ _) rfl
    exact K.refl
  · refine K.step ?_ (State.issueRead_keeps _ _ _) rfl
    exact K.refl

theorem State.substFrame_keeps : ∀ a0 a1 a2 a3 a4 a5 a6, K gS 2228096638 a0 (State.substFrame a0 a1 a2 a3 a4 a5 a6) := by
  intro a0 a1 a2 a3 a4 a5 a6
  unfold State.substFrame
  extract_lets +onlyGivenNames -underBinder -merge -useContext x0
  clear_value x0
  refine K.ite (fun _ => ?_) (fun _ => ?_)
  · exact K.refl
  · refine K.ite (fun _ => ?_) (fun _ => ?_)
    · refine K.step ?_ (State.queueOut_keeps _ _ _ _ _ _ _ _ _) rfl
      exact K.refl
    · extract_lets +onlyGivenNames -underBinder -merge -useContext x1
      clear_value x1
      refine K.step ?_ (State.sendRead_keeps _ _ _) rfl
      exact K.refl

theorem State.sendOut_keeps : ∀ a0 a1 a2 a3 a4, K gS 2228096638 a0 (State.sendOut a0 a1 a2 a3 a4) := by
  intro a0 a1 a2 a3 a4
  unfold State.sendOut
  extract_lets +onlyGivenNames -underBinder -merge -useContext x0
  clear_value x0
  refine K.ite (fun _ => ?_) (fun _ => ?_)
  · refine K.step ?_ (State.substFrame_keeps _ _ _ _ _ _ _) rfl
    exact K.refl
  · refine K.ite (fun _ => ?_) (fun _ => ?_)
    · refine K.step ?_ (State.substFrame_keeps _ _ _ _ _ _ _) rfl
      refine K.step ?_ (State.bump_keeps _ _ _ _) rfl
      exact K.refl
    · refine K.ite (fun _ => ?_) (fun _ => ?_)
      · refine K.step ?_ (State.queueOut_keeps _ _ _ _ _ _ _ _ _) rfl
        exact K.refl
      · extract_lets +onlyGivenNames -underBinder -merge -useContext x1
        clear_value x1
        refine K.step ?_ (State.sendRead_keeps _ _ _) rfl
        exact K.refl

theorem State.setTab_keeps : ∀ a0 a1 a2, K gS 2097152 a0 (State.setTab a0 a1 a2) := by
  intro a0 a1 a2
  unfold State.setTab
  refine K.upd2097152 ?_ rfl
  exact K.refl

theorem State.tideDrop_keeps : ∀ a0 a1 a2, K gS 4 a0 (State.tideDrop a0 a1 a2) := by
  intro a0 a1 a2
  unfold State.tideDrop
  refine K.step ?_ (State.setFld_keeps _ _ _ _) rfl
  refine K.step ?_ (State.bump_keeps _ _ _ _) rfl
  exact K.refl

theorem State.writeHeader_keeps : ∀ a0 a1 a2 a3, K gS 2219576958 a0 (State.writeHeader a0 a1 a2 a3) := by
  intro a0 a1 a2 a3
  unfold State.writeHeader
  extract_lets +onlyGivenNames -underBinder -merge -useContext x0
  clear_value x0
  extract_lets +onlyGivenNames -underBinder -merge -useContext x1
  clear_value x1
  refine K.ite (fun _ => ?_) (fun _ => ?_)
  · refine K.step ?_ (State.inputRefused_keeps _ _ _) rfl
    exact K.refl
  · refine K.step ?_ (State.sendInput_keeps _ _ _) rfl
    exact K.refl

theorem execInputWriteRefused_keeps : ∀ a0 a1 a2, K gR 524804 a2 (execInputWriteRefused a0 a1 a2) := by
  intro a0 a1 a2
  unfold execInputWriteRefused
  refine K.mkR ?_
  refine K.ite (fun _ => ?_) (fun _ => ?_)
  · refine K.step ?_ (State.inputRefused_keeps _ _ _) rfl
    refine K.step ?_ (State.recv_keeps _ _) rfl
    exact K.refl
  · exact K.refl

theorem execSendOutputReadReturn_keeps : ∀ a0 a1 a2, K gR 2228096638 a2 (execSendOutputReadReturn a0 a1 a2) := by
  intro a0 a1 a2
  unfold execSendOutputReadReturn
  refine K.mkR ?_
  split
  · exact K.refl
  · extract_lets +onlyGivenNames -underBinder -merge -useContext x2
    clear_value x2
    extract_lets +onlyGivenNames -underBinder -merge -useContext x3
    have h4 : K gS 2228096638 a2 x3 := by
      refine K.step ?_ (State.modFe_keeps _ _ _) rfl
      exact K.refl
    clear_value x3
    refine K.ite (fun _ => ?_) (fun _ => ?_)
    · exact h4
    · extract_lets +onlyGivenNames -underBinder -merge -useContext x5
      clear_value x5
      extract_lets +onlyGivenNames -underBinder -merge -useContext x6
      have h7 : K g3 2228096638 a2 x6 := by
        refine K.ite (fun _ => ?_) (fun _ => ?_)
        · refine K.step ?_ (State.engRead_keeps _ _ _ _) rfl
          exact h4
        · refine K.mk3 ?_
          exact h4
      clear_value x6
      extract_lets +onlyGivenNames -underBinder -merge -useContext x8
      clear_value x8
      refine K.ite (fun _ => ?_) (fun _ => ?_)
      · refine K.step ?_ (State.queueOut_keeps _ _ _ _ _ _ _ _ _) rfl
        refine K.of3 ?_
        exact h7
      · extract_lets +onlyGivenNames -underBinder -merge -useContext x9
        have h10 : K gS 2228096638 a2 x9 := by
          refine K.ite (fun _ => ?_) (fun _ => ?_)
          · refine K.of3 ?_
            exact h7
          · refine K.step ?_ (State.bump_keeps _ _ _ _) rfl
            refine K.of3 ?_
            exact h7
        clear_value x9
        refine K.ite (fun _ => ?_) (fun _ => ?_)
        · refine K.step ?_ (State.queueOut_keeps _ _ _ _ _ _ _ _ _) rfl
          exact h10
        · refine K.step ?_ (State.substFrame_keeps _ _ _ _ _ _ _) rfl
          exact h10

theorem execStationCommit_keeps : ∀ a0 a1 a2, K gR 4194308 a2 (execStationCommit a0 a1 a2) := by
  intro a0 a1 a2
  unfold execStationCommit
  extract_lets +onlyGivenNames -underBinder -merge -useContext x0
  clear_value x0
  refine K.mkR ?_
  refine K.ite (fun _ => ?_) (fun _ => ?_)
  · exact K.refl
  · refine K.ite (fun _ => ?_) (fun _ => ?_)
    · refine K.step ?_ (State.setFlag_keeps _ _ _ _) rfl
      exact K.refl
    · extract_lets +onlyGivenNames -underBinder -merge -useContext x1
      clear_value x1
      extract_lets +onlyGivenNames -underBinder -merge -useContext x2
      have h3 : K gS 4194308 a2 x2 := by
        refine K.step ?_ (State.setFlag_keeps _ _ _ _) rfl
        refine K.step ?_ (State.setFld_keeps _ _ _ _) rfl
        exact K.refl
      clear_value x2
      refine K.step ?_ (State.setFlag_keeps _ _ _ _) rfl
      refine K.step ?_ (State.modFe_keeps _ _ _) rfl
      exact h3

theorem execStationCommitComplete_keeps : ∀ a0 a1, K gR 4980740 a1 (execStationCommitComplete a0 a1) := by
  intro a0 a1
  unfold execStationCommitComplete
  extract_lets +onlyGivenNames -underBinder -merge -useContext x0
  clear_value x0
  refine K.mkR ?_
  split
  · exact K.refl
  · extract_lets +onlyGivenNames -underBinder -merge -useContext x3
    have h4 : K gS 4980740 a1 x3 := by
      refine K.step ?_ (State.setFlag_keeps _ _ _ _) rfl
      refine K.step ?_ (State.setFlag_keeps _ _ _ _) rfl
      refine K.step ?_ (State.modFe_keeps _ _ _) rfl
      exact K.refl
    clear_value x3
    extract_lets +onlyGivenNames -underBinder -merge -useContext x5
    have h6 : K gS 4980740 a1 x5 := by
      refine K.step ?_ (State.setFld_keeps _ _ _ _) rfl
      refine K.step ?_ (State.setFlag_keeps _ _ _ _) rfl
      exact h4
    clear_value x5
    refine K.ite (fun _ => ?_) (fun _ => ?_)
    · refine K.step ?_ (State.setFld_keeps _ _ _ _) rfl
      refine K.step ?_ (State.replaceStn_keeps _ _ _ _) rfl
      exact h6
    · split
      · refine K.step ?_ (State.setFld_keeps _ _ _ _) rfl
        exact h6
      · refine K.step ?_ (State.setFld_keeps _ _ _ _) rfl
        refine K.step ?_ (State.replaceStn_keeps _ _ _ _) rfl
        exact h6

theorem execTc0Admit_keeps : ∀ a0 a1, K gR 2219576958 a1 (execTc0Admit a0 a1) := by
  intro a0 a1
  unfold execTc0Admit
  extract_lets +onlyGivenNames -underBinder -merge -useContext x0
  clear_value x0
  refine K.mkR ?_
  split
  · refine K.ite (fun _ => ?_) (fun _ => ?_)
    · extract_lets +onlyGivenNames -underBinder -merge -useContext x2
      have h3 : K gS 2219576958 a1 x2 := by
        refine K.step ?_ (State.setEp_keeps _ _ _) rfl
        exact K.refl
      clear_value x2
      refine K.step ?_ (State.arrive_keeps _ _) rfl
      refine K.ite (fun _ => ?_) (fun _ => ?_)
      · refine K.step ?_ (State.takeTc0_keeps _ _ _ _ _) rfl
        exact h3
      · exact h3
    · exact K.refl
  · exact K.refl

theorem execTideFrameInput_keeps : ∀ a0 a1 a2 a3 a4, K gR 10809511550 a4 (execTideFrameInput a0 a1 a2 a3 a4) := by
  intro a0 a1 a2 a3 a4
  unfold execTideFrameInput
  extract_lets +onlyGivenNames -underBinder -merge -useContext x0
  clear_value x0
  extract_lets +onlyGivenNames -underBinder -merge -useContext x1
  clear_value x1
  extract_lets +onlyGivenNames -underBinder -merge -useContext x2
  clear_value x2
  extract_lets +onlyGivenNames -underBinder -merge -useContext x3
  clear_value x3
  extract_lets +onlyGivenNames -underBinder -merge -useContext x4
  clear_value x4
  extract_lets +onlyGivenNames -underBinder -merge -useContext x5
  have h6 : K gS 10809511550 a4 x5 := by
    refine K.step ?_ (State.recv_keeps _ _) rfl
    exact K.refl
  clear_value x5
  refine K.mkR ?_
  refine K.ite (fun _ => ?_) (fun _ => ?_)
  · exact h6
  · split
    · refine K.step ?_ (State.tideDrop_keeps _ _ _) rfl
      exact h6
    · extract_lets +onlyGivenNames -underBinder -merge -useContext x9
      have h10 : K g2 10809511550 a4 x9 := by
        dsimp -zeta only [x9]
        split
        · refine K.ite (fun _ => ?_) (fun _ => ?_)
          · refine K.step ?_ (State.eliminate_keeps _ _ _ _) rfl
            exact h6
          · refine K.mk2 ?_
            exact h6
        · refine K.mk2 ?_
          exact h6
      clear_value x9
      refine K.ite (fun _ => ?_) (fun _ => ?_)
      · refine K.of2 ?_
        exact h10
      · extract_lets +onlyGivenNames -underBinder -merge -useContext x13
        clear_value x13
        refine K.ite (fun _ => ?_) (fun _ => ?_)
        · refine K.step ?_ (State.tideDrop_keeps _ _ _) rfl
          refine K.of2 ?_
          exact h10
        · refine K.step ?_ (State.acceptInput_keeps _ _ _ _ _ _ _ _) rfl
          refine K.of2 ?_
          exact h10

end Sys2Proof.Machine
end

