-- ==== Sys2Proof/Laws/KeepsTables.lean ====
section
/-!
SUPPORT. What each function and each command of Machine/Tables.lean, Machine/Fast.lean can change (Laws/Keeps.lean), one lemma each.
-/
namespace Sys2Proof.Machine

theorem State.beginFlip_keeps : ∀ a0 a1 a2 a3, K gS 1048576 a0 (State.beginFlip a0 a1 a2 a3) := by
  intro a0 a1 a2 a3
  unfold State.beginFlip
  extract_lets +onlyGivenNames -underBinder -merge -useContext x0
  clear_value x0
  refine K.step ?_ (State.modImg_keeps _ _ _) rfl
  exact K.refl

theorem State.ldlTide_keeps : ∀ a0 a1 a2 a3, K gS 16777216 a0 (State.ldlTide a0 a1 a2 a3) := by
  intro a0 a1 a2 a3
  unfold State.ldlTide
  refine K.upd16777216 ?_ rfl
  exact K.refl

theorem State.tideEvent_keeps : ∀ a0 a1 a2 a3, K gS 2164264452 a0 (State.tideEvent a0 a1 a2 a3) := by
  intro a0 a1 a2 a3
  unfold State.tideEvent
  extract_lets +onlyGivenNames -underBinder -merge -useContext x0
  have h1 : K gS 2164264452 a0 x0 := by
    refine K.step ?_ (State.ldlTide_keeps _ _ _ _) rfl
    refine K.step ?_ (State.setBit_keeps _ _ _ _) rfl
    exact K.refl
  clear_value x0
  refine K.ite (fun _ => ?_) (fun _ => ?_)
  · refine K.step ?_ (State.raiseEdge_keeps _ _) rfl
    exact h1
  · exact h1

theorem State.lifeCount_keeps : ∀ a0 a1 a2, K gS 1048580 a0 (State.lifeCount a0 a1 a2) := by
  intro a0 a1 a2
  unfold State.lifeCount
  extract_lets +onlyGivenNames -underBinder -merge -useContext x0
  clear_value x0
  extract_lets +onlyGivenNames -underBinder -merge -useContext x1
  clear_value x1
  extract_lets +onlyGivenNames -underBinder -merge -useContext x2
  clear_value x2
  extract_lets +onlyGivenNames -underBinder -merge -useContext x3
  have h4 : K gS 1048580 a0 x3 := by
    refine K.step ?_ (State.setFld_keeps _ _ _ _) rfl
    exact K.refl
  clear_value x3
  refine K.ite (fun _ => ?_) (fun _ => ?_)
  · refine K.step ?_ (State.modImg_keeps _ _ _) rfl
    refine K.step ?_ (State.setFlag_keeps _ _ _ _) rfl
    refine K.step ?_ (State.setFlag_keeps _ _ _ _) rfl
    exact h4
  · exact h4

theorem State.judgeResume_keeps : ∀ a0 a1 a2, K gS 4 a0 (State.judgeResume a0 a1 a2) := by
  intro a0 a1 a2
  unfold State.judgeResume
  extract_lets +onlyGivenNames -underBinder -merge -useContext x0
  clear_value x0
  extract_lets +onlyGivenNames -underBinder -merge -useContext x1
  clear_value x1
  refine K.ite (fun _ => ?_) (fun _ => ?_)
  · exact K.refl
  · extract_lets +onlyGivenNames -underBinder -merge -useContext x2
    have h3 : K gS 4 a0 x2 := by
      refine K.step ?_ (State.setFlag_keeps _ _ _ _) rfl
      exact K.refl
    clear_value x2
    refine K.ite (fun _ => ?_) (fun _ => ?_)
    · exact h3
    · refine K.ite (fun _ => ?_) (fun _ => ?_)
      · refine K.step ?_ (State.setFld_keeps _ _ _ _) rfl
        refine K.step ?_ (State.setFlag_keeps _ _ _ _) rfl
        exact h3
      · refine K.step ?_ (State.setFlag_keeps _ _ _ _) rfl
        exact h3

theorem State.boundaryEvents_keeps : ∀ a0 a1 a2, K gS 2165313028 a0 (State.boundaryEvents a0 a1 a2) := by
  intro a0 a1 a2
  unfold State.boundaryEvents
  extract_lets +onlyGivenNames -underBinder -merge -useContext x0
  clear_value x0
  extract_lets +onlyGivenNames -underBinder -merge -useContext x1
  have h2 : ∀ y3 y4, K gS 2165313028 a0 y3 → K gS 2165313028 a0 (x1 y3 y4) := by
    intro y3 y4 h5
    dsimp -zeta only [x1]
    extract_lets +onlyGivenNames -underBinder -merge -useContext x6
    clear_value x6
    extract_lets +onlyGivenNames -underBinder -merge -useContext x7
    have h8 : K gS 2165313028 a0 x7 := by
      refine K.ite (fun _ => ?_) (fun _ => ?_)
      · refine K.step ?_ (State.beginFlip_keeps _ _ _ _) rfl
        exact h5
      · exact h5
    clear_value x7
    refine K.ite (fun _ => ?_) (fun _ => ?_)
    · refine K.step ?_ (State.beginFlip_keeps _ _ _ _) rfl
      exact h8
    · exact h8
  clear_value x1
  extract_lets +onlyGivenNames -underBinder -merge -useContext x9
  have h10 : K gS 2165313028 a0 x9 := by
    refine K.foldl ?_ (fun y11 a12 h13 => ?_)
    · exact K.refl
    · refine h2 _ _ ?_
      exact h13
  clear_value x9
  extract_lets +onlyGivenNames -underBinder -merge -useContext x14
  have h15 : K gS 2165313028 a0 x14 := by
    refine K.foldl ?_ (fun y16 a17 h18 => ?_)
    · exact h10
    · refine K.step ?_ (State.lifeCount_keeps _ _ _) rfl
      exact h18
  clear_value x14
  extract_lets +onlyGivenNames -underBinder -merge -useContext x19
  have h20 : K gS 2165313028 a0 x19 := by
    refine K.foldl ?_ (fun y21 a22 h23 => ?_)
    · exact h15
    · refine K.step ?_ (State.judgeResume_keeps _ _ _) rfl
      exact h23
  clear_value x19
  refine K.ite (fun _ => ?_) (fun _ => ?_)
  · refine K.step ?_ (State.tideEvent_keeps _ _ _ _) rfl
    exact h20
  · exact h20

theorem State.dropResume_keeps : ∀ a0 a1 a2, K gS 4 a0 (State.dropResume a0 a1 a2) := by
  intro a0 a1 a2
  unfold State.dropResume
  refine K.ite (fun _ => ?_) (fun _ => ?_)
  · refine K.step ?_ (State.setFlag_keeps _ _ _ _) rfl
    refine K.step ?_ (State.setFlag_keeps _ _ _ _) rfl
    exact K.refl
  · exact K.refl

theorem State.expect_keeps : ∀ a0 a1 a2, K gS 2219576958 a0 (State.expect a0 a1 a2) := by
  intro a0 a1 a2
  unfold State.expect
  extract_lets +onlyGivenNames -underBinder -merge -useContext x0
  clear_value x0
  extract_lets +onlyGivenNames -underBinder -merge -useContext x1
  clear_value x1
  extract_lets +onlyGivenNames -underBinder -merge -useContext x2
  clear_value x2
  extract_lets +onlyGivenNames -underBinder -merge -useContext x3
  have h4 : K gS 2219576958 a0 x3 := by
    refine K.step ?_ (State.setStn_keeps _ _ _) rfl
    exact K.refl
  clear_value x3
  refine K.ite (fun _ => ?_) (fun _ => ?_)
  · exact h4
  · extract_lets +onlyGivenNames -underBinder -merge -useContext x5
    clear_value x5
    refine K.ite (fun _ => ?_) (fun _ => ?_)
    · refine K.step ?_ (State.writeHeader_keeps _ _ _ _) rfl
      exact h4
    · refine K.ite (fun _ => ?_) (fun _ => ?_)
      · refine K.step ?_ (State.writeHeader_keeps _ _ _ _) rfl
        refine K.step ?_ (State.setStnState_keeps _ _ _ _ _) rfl
        exact h4
      · extract_lets +onlyGivenNames -underBinder -merge -useContext x6
        have h7 : K gS 2219576958 a0 x6 := by
          refine K.step ?_ (State.setFlag_keeps _ _ _ _) rfl
          refine K.step ?_ (State.setStnState_keeps _ _ _ _ _) rfl
          exact h4
        clear_value x6
        refine K.step ?_ (State.writeHeader_keeps _ _ _ _) rfl
        refine K.step ?_ (State.modStn_keeps _ _ _) rfl
        exact h7

theorem State.lifeStore_keeps : ∀ a0 a1 a2 a3 a4 a5 a6, K gS 1048580 a0 (State.lifeStore a0 a1 a2 a3 a4 a5 a6) := by
  intro a0 a1 a2 a3 a4 a5 a6
  unfold State.lifeStore
  refine K.ite (fun _ => ?_) (fun _ => ?_)
  · refine K.step ?_ (State.setFld_keeps _ _ _ _) rfl
    refine K.step ?_ (State.modImg_keeps _ _ _) rfl
    exact K.refl
  · refine K.step ?_ (State.bump_keeps _ _ _ _) rfl
    exact K.refl

theorem State.seqIgnored_keeps : ∀ a0 a1, K gS 4 a0 (State.seqIgnored a0 a1) := by
  intro a0 a1
  unfold State.seqIgnored
  refine K.step ?_ (State.bump_keeps _ _ _ _) rfl
  exact K.refl

theorem State.setTtState_keeps : ∀ a0 a1 a2 a3, K gS 4 a0 (State.setTtState a0 a1 a2 a3) := by
  intro a0 a1 a2 a3
  unfold State.setTtState
  refine K.step ?_ (State.setFld_keeps _ _ _ _) rfl
  exact K.refl

theorem State.syncMarker_keeps : ∀ a0 a1 a2 a3 a4, K gS 8519684 a0 (State.syncMarker a0 a1 a2 a3 a4) := by
  intro a0 a1 a2 a3 a4
  unfold State.syncMarker
  extract_lets +onlyGivenNames -underBinder -merge -useContext x0
  clear_value x0
  extract_lets +onlyGivenNames -underBinder -merge -useContext x1
  clear_value x1
  extract_lets +onlyGivenNames -underBinder -merge -useContext x2
  clear_value x2
  refine K.step ?_ (State.enqueue_keeps _ _ _) rfl
  exact K.refl

theorem State.ttSkip_keeps : ∀ a0 a1 a2 a3, K gS 4 a0 (State.ttSkip a0 a1 a2 a3) := by
  intro a0 a1 a2 a3
  unfold State.ttSkip
  refine K.ite (fun _ => ?_) (fun _ => ?_)
  · exact K.refl
  · refine K.step ?_ (State.setFlag_keeps _ _ _ _) rfl
    refine K.step ?_ (State.bump_keeps _ _ _ _) rfl
    exact K.refl

theorem State.ttNext_keeps : ∀ a0 a1 a2 a3, K g2 6291460 a0 (State.ttNext a0 a1 a2 a3) := by
  intro a0 a1 a2 a3
  unfold State.ttNext
  extract_lets +onlyGivenNames -underBinder -merge -useContext x0
  clear_value x0
  extract_lets +onlyGivenNames -underBinder -merge -useContext x1
  clear_value x1
  extract_lets +onlyGivenNames -underBinder -merge -useContext x2
  clear_value x2
  refine K.ite (fun _ => ?_) (fun _ => ?_)
  · refine K.mk2 ?_
    exact K.refl
  · extract_lets +onlyGivenNames -underBinder -merge -useContext x3
    clear_value x3
    extract_lets +onlyGivenNames -underBinder -merge -useContext x4
    clear_value x4
    extract_lets +onlyGivenNames -underBinder -merge -useContext x5
    have h6 : K gS 6291460 a0 x5 := by
      refine K.step ?_ (State.setTab_keeps _ _ _) rfl
      exact K.refl
    clear_value x5
    refine K.ite (fun _ => ?_) (fun _ => ?_)
    · refine K.mk2 ?_
      refine K.step ?_ (State.ttSkip_keeps _ _ _ _) rfl
      exact h6
    · extract_lets +onlyGivenNames -underBinder -merge -useContext x7
      clear_value x7
      extract_lets +onlyGivenNames -underBinder -merge -useContext x8
      have h9 : K gS 6291460 a0 x8 := by
        refine K.step ?_ (State.modFe_keeps _ _ _) rfl
        exact h6
      clear_value x8
      refine K.mk2 ?_
      refine K.step ?_ (State.setFld_keeps _ _ _ _) rfl
      exact h9

theorem State.writeBankWord_keeps : ∀ a0 a1 a2 a3, K gS 2219576958 a0 (State.writeBankWord a0 a1 a2 a3) := by
  intro a0 a1 a2 a3
  unfold State.writeBankWord
  extract_lets +onlyGivenNames -underBinder -merge -useContext x0
  clear_value x0
  refine K.ite (fun _ => ?_) (fun _ => ?_)
  · exact K.refl
  · extract_lets +onlyGivenNames -underBinder -merge -useContext x1
    clear_value x1
    extract_lets +onlyGivenNames -underBinder -merge -useContext x2
    clear_value x2
    extract_lets +onlyGivenNames -underBinder -merge -useContext x3
    clear_value x3
    refine K.ite (fun _ => ?_) (fun _ => ?_)
    · refine K.step ?_ (State.bankArrive_keeps _ _ _ _ _) rfl
      exact K.refl
    · refine K.step ?_ (State.feTc0_keeps _ _ _) rfl
      exact K.refl

theorem State.writeImgcfg_keeps : ∀ a0 a1 a2 a3, K gS 1048580 a0 (State.writeImgcfg a0 a1 a2 a3) := by
  intro a0 a1 a2 a3
  unfold State.writeImgcfg
  extract_lets +onlyGivenNames -underBinder -merge -useContext x0
  clear_value x0
  extract_lets +onlyGivenNames -underBinder -merge -useContext x1
  clear_value x1
  extract_lets +onlyGivenNames -underBinder -merge -useContext x2
  have h3 : K gS 1048580 a0 x2 := by
    refine K.step ?_ (State.setFld_keeps _ _ _ _) rfl
    refine K.step ?_ (State.setFld_keeps _ _ _ _) rfl
    refine K.step ?_ (State.setFld_keeps _ _ _ _) rfl
    exact K.refl
  clear_value x2
  refine K.ite (fun _ => ?_) (fun _ => ?_)
  · extract_lets +onlyGivenNames -underBinder -merge -useContext x4
    have h5 : K gS 1048580 a0 x4 := by
      refine K.ite (fun _ => ?_) (fun _ => ?_)
      · refine K.step ?_ (State.setFlag_keeps _ _ _ _) rfl
        exact h3
      · exact h3
    clear_value x4
    refine K.ite (fun _ => ?_) (fun _ => ?_)
    · exact h5
    · refine K.step ?_ (State.dropResume_keeps _ _ _) rfl
      refine K.step ?_ (State.setFlag_keeps _ _ _ _) rfl
      exact h5
  · extract_lets +onlyGivenNames -underBinder -merge -useContext x6
    have h7 : K gS 1048580 a0 x6 := by
      refine K.step ?_ (State.setFld_keeps _ _ _ _) rfl
      refine K.step ?_ (State.setFld_keeps _ _ _ _) rfl
      exact h3
    clear_value x6
    refine K.ite (fun _ => ?_) (fun _ => ?_)
    · refine K.step ?_ (State.dropResume_keeps _ _ _) rfl
      exact h7
    · refine K.ite (fun _ => ?_) (fun _ => ?_)
      · refine K.step ?_ (State.setFlag_keeps _ _ _ _) rfl
        exact h7
      · extract_lets +onlyGivenNames -underBinder -merge -useContext x8
        clear_value x8
        extract_lets +onlyGivenNames -underBinder -merge -useContext x9
        have h10 : K gS 1048580 a0 x9 := by
          refine K.step ?_ (State.setFld_keeps _ _ _ _) rfl
          refine K.step ?_ (State.setFlag_keeps _ _ _ _) rfl
          refine K.step ?_ (State.setFlag_keeps _ _ _ _) rfl
          exact h7
        clear_value x9
        refine K.step ?_ (State.setFlag_keeps _ _ _ _) rfl
        refine K.step ?_ (State.modImg_keeps _ _ _) rfl
        exact h10

theorem State.writeTtctl_keeps : ∀ a0 a1 a2 a3, K gS 4 a0 (State.writeTtctl a0 a1 a2 a3) := by
  intro a0 a1 a2 a3
  unfold State.writeTtctl
  extract_lets +onlyGivenNames -underBinder -merge -useContext x0
  clear_value x0
  extract_lets +onlyGivenNames -underBinder -merge -useContext x1
  have h2 : K gS 4 a0 x1 := by
    refine K.step ?_ (State.setFld_keeps _ _ _ _) rfl
    exact K.refl
  clear_value x1
  extract_lets +onlyGivenNames -underBinder -merge -useContext x3
  have h4 : K gS 4 a0 x3 := by
    refine K.ite (fun _ => ?_) (fun _ => ?_)
    · refine K.step ?_ (State.setFlag_keeps _ _ _ _) rfl
      exact h2
    · exact h2
  clear_value x3
  extract_lets +onlyGivenNames -underBinder -merge -useContext x5
  have h6 : K gS 4 a0 x5 := by
    refine K.ite (fun _ => ?_) (fun _ => ?_)
    · refine K.step ?_ (State.setFlag_keeps _ _ _ _) rfl
      exact h4
    · exact h4
  clear_value x5
  refine K.ite (fun _ => ?_) (fun _ => ?_)
  · refine K.step ?_ (State.setFlag_keeps _ _ _ _) rfl
    refine K.step ?_ (State.setFlag_keeps _ _ _ _) rfl
    refine K.step ?_ (State.setTtState_keeps _ _ _ _) rfl
    exact h6
  · refine K.ite (fun _ => ?_) (fun _ => ?_)
    · split
      · refine K.step ?_ (State.setFlag_keeps _ _ _ _) rfl
        exact h6
      · refine K.step ?_ (State.setTtState_keeps _ _ _ _) rfl
        exact h6
      · refine K.step ?_ (State.setFlag_keeps _ _ _ _) rfl
        refine K.step ?_ (State.setTtState_keeps _ _ _ _) rfl
        exact h6
      · exact h6
    · exact h6

theorem execFlipComplete_keeps : ∀ a0 a1 a2, K gR 2220625534 a2 (execFlipComplete a0 a1 a2) := by
  intro a0 a1 a2
  unfold execFlipComplete
  extract_lets +onlyGivenNames -underBinder -merge -useContext x0
  clear_value x0
  refine K.mkR ?_
  split
  · exact K.refl
  · extract_lets +onlyGivenNames -underBinder -merge -useContext x3
    have h4 : K gS 2220625534 a2 x3 := by
      refine K.step ?_ (State.modImg_keeps _ _ _) rfl
      exact K.refl
    clear_value x3
    extract_lets +onlyGivenNames -underBinder -merge -useContext x5
    clear_value x5
    extract_lets +onlyGivenNames -underBinder -merge -useContext x6
    clear_value x6
    refine K.step ?_ (State.writeBankWord_keeps _ _ _ _) rfl
    refine K.step ?_ (State.setFlag_keeps _ _ _ _) rfl
    exact h4

theorem execImageEnable_keeps : ∀ a0 a1 a2 a3, K gR 1048580 a3 (execImageEnable a0 a1 a2 a3) := by
  intro a0 a1 a2 a3
  unfold execImageEnable
  refine K.mkR ?_
  refine K.ite (fun _ => ?_) (fun _ => ?_)
  · refine K.step ?_ (State.writeImgcfg_keeps _ _ _ _) rfl
    exact K.refl
  · exact K.refl

theorem execImageResume_keeps : ∀ a0 a1 a2, K gR 4 a2 (execImageResume a0 a1 a2) := by
  intro a0 a1 a2
  unfold execImageResume
  refine K.mkR ?_
  refine K.ite (fun _ => ?_) (fun _ => ?_)
  · refine K.step ?_ (State.setFlag_keeps _ _ _ _) rfl
    exact K.refl
  · exact K.refl

theorem execSubforceWrite_keeps : ∀ a0 a1 a2, K gR 4 a2 (execSubforceWrite a0 a1 a2) := by
  intro a0 a1 a2
  unfold execSubforceWrite
  refine K.mkR ?_
  refine K.ite (fun _ => ?_) (fun _ => ?_)
  · refine K.step ?_ (State.setReg_keeps _ _ _) rfl
    exact K.refl
  · exact K.refl

theorem execTtAbort_keeps : ∀ a0 a1 a2 a3, K gR 4 a3 (execTtAbort a0 a1 a2 a3) := by
  intro a0 a1 a2 a3
  unfold execTtAbort
  refine K.mkR ?_
  refine K.ite (fun _ => ?_) (fun _ => ?_)
  · refine K.step ?_ (State.writeTtctl_keeps _ _ _ _) rfl
    exact K.refl
  · exact K.refl

theorem execTtBoundary_keeps : ∀ a0 a1 a2, K gR 2171604484 a2 (execTtBoundary a0 a1 a2) := by
  intro a0 a1 a2
  unfold execTtBoundary
  extract_lets +onlyGivenNames -underBinder -merge -useContext x0
  clear_value x0
  extract_lets +onlyGivenNames -underBinder -merge -useContext x1
  clear_value x1
  refine K.mkR ?_
  refine K.ite (fun _ => ?_) (fun _ => ?_)
  · exact K.refl
  · extract_lets +onlyGivenNames -underBinder -merge -useContext x2
    have h3 : K gS 2171604484 a2 x2 := by
      refine K.ite (fun _ => ?_) (fun _ => ?_)
      · exact K.refl
      · refine K.step ?_ (State.ttSkip_keeps _ _ _ _) rfl
        exact K.refl
    clear_value x2
    refine K.ite (fun _ => ?_) (fun _ => ?_)
    · refine K.step ?_ (State.setFlag_keeps _ _ _ _) rfl
      refine K.step ?_ (State.setTtState_keeps _ _ _ _) rfl
      exact h3
    · extract_lets +onlyGivenNames -underBinder -merge -useContext x4
      clear_value x4
      extract_lets +onlyGivenNames -underBinder -merge -useContext x5
      clear_value x5
      extract_lets +onlyGivenNames -underBinder -merge -useContext x6
      have h7 : K gS 2171604484 a2 x6 := by
        refine K.step ?_ (State.setTtState_keeps _ _ _ _) rfl
        refine K.step ?_ (State.setTab_keeps _ _ _) rfl
        exact h3
      clear_value x6
      extract_lets +onlyGivenNames -underBinder -merge -useContext x8
      have h9 : K gS 2171604484 a2 x8 := by
        refine K.step ?_ (State.setFld_keeps _ _ _ _) rfl
        exact h7
      clear_value x8
      extract_lets +onlyGivenNames -underBinder -merge -useContext x10
      clear_value x10
      refine K.step ?_ (State.settle_keeps _) rfl
      refine K.step ?_ (State.boundaryEvents_keeps _ _ _) rfl
      refine K.step ?_ (State.modFe_keeps _ _ _) rfl
      exact h9

theorem execTtEvent_keeps : ∀ a0 a1 a2, K gR 2170555908 a2 (execTtEvent a0 a1 a2) := by
  intro a0 a1 a2
  unfold execTtEvent
  extract_lets +onlyGivenNames -underBinder -merge -useContext x0
  have h1 : K g2 2170555908 a2 x0 := by
    refine K.step ?_ (State.ttNext_keeps _ _ _ _) rfl
    exact K.refl
  clear_value x0
  refine K.mkR ?_
  split
  · refine K.of2 ?_
    exact h1
  · refine K.step ?_ (State.tideEvent_keeps _ _ _ _) rfl
    refine K.of2 ?_
    exact h1

theorem execTtExpect_keeps : ∀ a0 a1 a2, K gR 2221674110 a2 (execTtExpect a0 a1 a2) := by
  intro a0 a1 a2
  unfold execTtExpect
  extract_lets +onlyGivenNames -underBinder -merge -useContext x0
  have h1 : K g2 2221674110 a2 x0 := by
    refine K.step ?_ (State.ttNext_keeps _ _ _ _) rfl
    exact K.refl
  clear_value x0
  refine K.mkR ?_
  split
  · refine K.of2 ?_
    exact h1
  · extract_lets +onlyGivenNames -underBinder -merge -useContext x4
    clear_value x4
    refine K.ite (fun _ => ?_) (fun _ => ?_)
    · refine K.step ?_ (State.seqIgnored_keeps _ _) rfl
      refine K.of2 ?_
      exact h1
    · refine K.step ?_ (State.settle_keeps _) rfl
      refine K.step ?_ (State.expect_keeps _ _ _) rfl
      refine K.of2 ?_
      exact h1

theorem execTtFlip_keeps : ∀ a0 a1 a2, K gR 7340036 a2 (execTtFlip a0 a1 a2) := by
  intro a0 a1 a2
  unfold execTtFlip
  extract_lets +onlyGivenNames -underBinder -merge -useContext x0
  have h1 : K g2 7340036 a2 x0 := by
    refine K.step ?_ (State.ttNext_keeps _ _ _ _) rfl
    exact K.refl
  clear_value x0
  refine K.mkR ?_
  split
  · refine K.of2 ?_
    exact h1
  · extract_lets +onlyGivenNames -underBinder -merge -useContext x4
    clear_value x4
    refine K.ite (fun _ => ?_) (fun _ => ?_)
    · refine K.step ?_ (State.seqIgnored_keeps _ _) rfl
      refine K.of2 ?_
      exact h1
    · extract_lets +onlyGivenNames -underBinder -merge -useContext x5
      have h6 : K gS 7340036 a2 x5 := by
        refine K.ite (fun _ => ?_) (fun _ => ?_)
        · refine K.step ?_ (State.beginFlip_keeps _ _ _ _) rfl
          refine K.of2 ?_
          exact h1
        · refine K.of2 ?_
          exact h1
      clear_value x5
      refine K.ite (fun _ => ?_) (fun _ => ?_)
      · refine K.step ?_ (State.beginFlip_keeps _ _ _ _) rfl
        exact h6
      · exact h6

theorem execTtNop_keeps : ∀ a0 a1 a2, K gR 6291460 a2 (execTtNop a0 a1 a2) := by
  intro a0 a1 a2
  unfold execTtNop
  refine K.mkR ?_
  refine K.of2 ?_
  refine K.step ?_ (State.ttNext_keeps _ _ _ _) rfl
  exact K.refl

theorem execTtSend_keeps : ∀ a0 a1 a2, K gR 2230193790 a2 (execTtSend a0 a1 a2) := by
  intro a0 a1 a2
  unfold execTtSend
  extract_lets +onlyGivenNames -underBinder -merge -useContext x0
  have h1 : K g2 2230193790 a2 x0 := by
    refine K.step ?_ (State.ttNext_keeps _ _ _ _) rfl
    exact K.refl
  clear_value x0
  refine K.mkR ?_
  split
  · refine K.of2 ?_
    exact h1
  · extract_lets +onlyGivenNames -underBinder -merge -useContext x4
    clear_value x4
    extract_lets +onlyGivenNames -underBinder -merge -useContext x5
    clear_value x5
    refine K.ite (fun _ => ?_) (fun _ => ?_)
    · refine K.step ?_ (State.seqIgnored_keeps _ _) rfl
      refine K.of2 ?_
      exact h1
    · refine K.step ?_ (State.sendOut_keeps _ _ _ _ _) rfl
      refine K.of2 ?_
      exact h1

theorem execTtStart_keeps : ∀ a0 a1 a2 a3, K gR 4 a3 (execTtStart a0 a1 a2 a3) := by
  intro a0 a1 a2 a3
  unfold execTtStart
  refine K.mkR ?_
  refine K.ite (fun _ => ?_) (fun _ => ?_)
  · refine K.step ?_ (State.writeTtctl_keeps _ _ _ _) rfl
    exact K.refl
  · exact K.refl

theorem execTtStartCheckDone_keeps : ∀ a0 a1 a2, K gR 2097156 a2 (execTtStartCheckDone a0 a1 a2) := by
  intro a0 a1 a2
  unfold execTtStartCheckDone
  extract_lets +onlyGivenNames -underBinder -merge -useContext x0
  clear_value x0
  refine K.mkR ?_
  refine K.ite (fun _ => ?_) (fun _ => ?_)
  · exact K.refl
  · extract_lets +onlyGivenNames -underBinder -merge -useContext x1
    have h2 : K gS 2097156 a2 x1 := by
      refine K.step ?_ (State.setFlag_keeps _ _ _ _) rfl
      exact K.refl
    clear_value x1
    split
    · refine K.step ?_ (State.setFld_keeps _ _ _ _) rfl
      refine K.step ?_ (State.setFld_keeps _ _ _ _) rfl
      refine K.step ?_ (State.setFlag_keeps _ _ _ _) rfl
      exact h2
    · extract_lets +onlyGivenNames -underBinder -merge -useContext x5
      clear_value x5
      extract_lets +onlyGivenNames -underBinder -merge -useContext x6
      clear_value x6
      extract_lets +onlyGivenNames -underBinder -merge -useContext x7
      clear_value x7
      refine K.step ?_ (State.setTtState_keeps _ _ _ _) rfl
      refine K.step ?_ (State.setTab_keeps _ _ _) rfl
      exact h2

theorem execTtStop_keeps : ∀ a0 a1 a2 a3, K gR 4 a3 (execTtStop a0 a1 a2 a3) := by
  intro a0 a1 a2 a3
  unfold execTtStop
  refine K.mkR ?_
  refine K.ite (fun _ => ?_) (fun _ => ?_)
  · refine K.step ?_ (State.writeTtctl_keeps _ _ _ _) rfl
    exact K.refl
  · exact K.refl

theorem execTtSync_keeps : ∀ a0 a1 a2, K gR 14811140 a2 (execTtSync a0 a1 a2) := by
  intro a0 a1 a2
  unfold execTtSync
  extract_lets +onlyGivenNames -underBinder -merge -useContext x0
  have h1 : K g2 14811140 a2 x0 := by
    refine K.step ?_ (State.ttNext_keeps _ _ _ _) rfl
    exact K.refl
  clear_value x0
  refine K.mkR ?_
  split
  · refine K.of2 ?_
    exact h1
  · refine K.foldl ?_ (fun y4 a5 h6 => ?_)
    · refine K.of2 ?_
      exact h1
    · refine K.step ?_ (State.syncMarker_keeps _ _ _ _ _) rfl
      exact h6

theorem State.fastOut_keeps : ∀ a0 a1 a2 a3 a4 a5, K gS 2228096638 a0 (State.fastOut a0 a1 a2 a3 a4 a5) := by
  intro a0 a1 a2 a3 a4 a5
  unfold State.fastOut
  extract_lets +onlyGivenNames -underBinder -merge -useContext x0
  clear_value x0
  refine K.ite (fun _ => ?_) (fun _ => ?_)
  · exact K.refl
  · extract_lets +onlyGivenNames -underBinder -merge -useContext x1
    clear_value x1
    extract_lets +onlyGivenNames -underBinder -merge -useContext x2
    have h3 : K gS 2228096638 a0 x2 := by
      refine K.step ?_ (State.modFast_keeps _ _ _) rfl
      exact K.refl
    clear_value x2
    extract_lets +onlyGivenNames -underBinder -merge -useContext x4
    clear_value x4
    refine K.ite (fun _ => ?_) (fun _ => ?_)
    · refine K.step ?_ (State.substFrame_keeps _ _ _ _ _ _ _) rfl
      exact h3
    · refine K.step ?_ (State.queueOut_keeps _ _ _ _ _ _ _ _ _) rfl
      exact h3

theorem State.mbSend_keeps : ∀ a0 a1 a2 a3, K gS 2228096638 a0 (State.mbSend a0 a1 a2 a3) := by
  intro a0 a1 a2 a3
  unfold State.mbSend
  extract_lets +onlyGivenNames -underBinder -merge -useContext x0
  clear_value x0
  extract_lets +onlyGivenNames -underBinder -merge -useContext x1
  clear_value x1
  extract_lets +onlyGivenNames -underBinder -merge -useContext x2
  have h3 : K gS 2228096638 a0 x2 := by
    refine K.step ?_ (State.modFast_keeps _ _ _) rfl
    exact K.refl
  clear_value x2
  extract_lets +onlyGivenNames -underBinder -merge -useContext x4
  have h5 : K gS 2228096638 a0 x4 := by
    refine K.ite (fun _ => ?_) (fun _ => ?_)
    · refine K.step ?_ (State.fsBump_keeps _ _ _ _) rfl
      exact h3
    · exact h3
  clear_value x4
  refine K.step ?_ (State.fastOut_keeps _ _ _ _ _ _) rfl
  exact h5

theorem State.slotStore_keeps : ∀ a0 a1 a2 a3 a4 a5 a6, K gS 2228096638 a0 (State.slotStore a0 a1 a2 a3 a4 a5 a6) := by
  intro a0 a1 a2 a3 a4 a5 a6
  unfold State.slotStore
  extract_lets +onlyGivenNames -underBinder -merge -useContext x0
  clear_value x0
  extract_lets +onlyGivenNames -underBinder -merge -useContext x1
  have h2 : K gS 2228096638 a0 x1 := by
    refine K.step ?_ (State.fsBump_keeps _ _ _ _) rfl
    exact K.refl
  clear_value x1
  split
  · exact h2
  · refine K.ite (fun _ => ?_) (fun _ => ?_)
    · exact h2
    · refine K.ite (fun _ => ?_) (fun _ => ?_)
      · refine K.step ?_ (State.modFast_keeps _ _ _) rfl
        exact K.refl
      · refine K.ite (fun _ => ?_) (fun _ => ?_)
        · refine K.ite (fun _ => ?_) (fun _ => ?_)
          · refine K.step ?_ (State.mbSend_keeps _ _ _ _) rfl
            exact K.refl
          · exact K.refl
        · exact h2

theorem State.mailboxArrive_keeps : ∀ a0 a1 a2 a3 a4 a5 a6, K gS 10819079806 a0 (State.mailboxArrive a0 a1 a2 a3 a4 a5 a6) := by
  intro a0 a1 a2 a3 a4 a5 a6
  unfold State.mailboxArrive
  extract_lets +onlyGivenNames -underBinder -merge -useContext x0
  have h1 : K gS 10819079806 a0 x0 := by
    refine K.step ?_ (State.modCore_keeps _ _ _) rfl
    refine K.step ?_ (State.recv_keeps _ _) rfl
    exact K.refl
  clear_value x0
  refine K.ite (fun _ => ?_) (fun _ => ?_)
  · refine K.step ?_ (State.dropWrite_keeps _ _ _) rfl
    exact h1
  · refine K.ite (fun _ => ?_) (fun _ => ?_)
    · refine K.step ?_ (State.slotStore_keeps _ _ _ _ _ _ _) rfl
      exact h1
    · refine K.ite (fun _ => ?_) (fun _ => ?_)
      · refine K.step ?_ (State.lifeStore_keeps _ _ _ _ _ _ _) rfl
        exact h1
      · refine K.step ?_ (State.bump_keeps _ _ _ _) rfl
        exact h1

theorem execDeadlineExpire_keeps : ∀ a0 a1, K gR 2228096638 a1 (execDeadlineExpire a0 a1) := by
  intro a0 a1
  unfold execDeadlineExpire
  extract_lets +onlyGivenNames -underBinder -merge -useContext x0
  clear_value x0
  extract_lets +onlyGivenNames -underBinder -merge -useContext x1
  clear_value x1
  refine K.mkR ?_
  split
  · refine K.ite (fun _ => ?_) (fun _ => ?_)
    · exact K.refl
    · extract_lets +onlyGivenNames -underBinder -merge -useContext x3
      have h4 : K gS 2228096638 a1 x3 := by
        refine K.step ?_ (State.setFlag_keeps _ _ _ _) rfl
        refine K.step ?_ (State.modFast_keeps _ _ _) rfl
        exact K.refl
      clear_value x3
      refine K.step ?_ (State.settle_keeps _) rfl
      refine K.step ?_ (State.fastOut_keeps _ _ _ _ _ _) rfl
      refine K.step ?_ (State.fsBump_keeps _ _ _ _) rfl
      exact h4
  · exact K.refl

theorem execDirectMessage_keeps : ∀ a0 a1 a2 a3 a4, K gR 544 a4 (execDirectMessage a0 a1 a2 a3 a4) := by
  intro a0 a1 a2 a3 a4
  unfold execDirectMessage
  refine K.mkR ?_
  refine K.ite (fun _ => ?_) (fun _ => ?_)
  · refine K.ite (fun _ => ?_) (fun _ => ?_)
    · refine K.step ?_ (State.recv_keeps _ _) rfl
      exact K.refl
    · refine K.step ?_ (State.holdOffer_keeps _ _ _) rfl
      refine K.step ?_ (State.recv_keeps _ _) rfl
      exact K.refl
  · exact K.refl

theorem execLifeSign_keeps : ∀ a0 a1 a2 a3 a4 a5 a6 a7, K gR 10819079806 a7 (execLifeSign a0 a1 a2 a3 a4 a5 a6 a7) := by
  intro a0 a1 a2 a3 a4 a5 a6 a7
  unfold execLifeSign
  refine K.mkR ?_
  refine K.ite (fun _ => ?_) (fun _ => ?_)
  · refine K.step ?_ (State.mailboxArrive_keeps _ _ _ _ _ _ _) rfl
    exact K.refl
  · exact K.refl

theorem execMailboxDataStore_keeps : ∀ a0 a1 a2 a3 a4 a5 a6, K gR 10819079806 a6 (execMailboxDataStore a0 a1 a2 a3 a4 a5 a6) := by
  intro a0 a1 a2 a3 a4 a5 a6
  unfold execMailboxDataStore
  refine K.mkR ?_
  refine K.ite (fun _ => ?_) (fun _ => ?_)
  · refine K.step ?_ (State.mailboxArrive_keeps _ _ _ _ _ _ _) rfl
    exact K.refl
  · exact K.refl

theorem execMailboxSend_keeps : ∀ a0 a1 a2 a3 a4 a5, K gR 10819079806 a5 (execMailboxSend a0 a1 a2 a3 a4 a5) := by
  intro a0 a1 a2 a3 a4 a5
  unfold execMailboxSend
  refine K.mkR ?_
  refine K.ite (fun _ => ?_) (fun _ => ?_)
  · refine K.step ?_ (State.mailboxArrive_keeps _ _ _ _ _ _ _) rfl
    exact K.refl
  · exact K.refl

end Sys2Proof.Machine
end

