-- ==== Sys2Proof/Laws/KeepsFunc.lean ====
section
/-!
SUPPORT. What each function and each command of Machine/Func.lean can change (Laws/Keeps.lean), one lemma each.
-/
namespace Sys2Proof.Machine

theorem State.fnVector_keeps : ∀ a0 a1 a2 a3, K gS 2147487236 a0 (State.fnVector a0 a1 a2 a3) := by
  intro a0 a1 a2 a3
  unfold State.fnVector
  refine K.ite (fun _ => ?_) (fun _ => ?_)
  · refine K.step ?_ (State.setBit_keeps _ _ _ _) rfl
    exact K.refl
  · refine K.step ?_ (State.raiseEdge_keeps _ _) rfl
    exact K.refl

theorem State.flushLane_keeps : ∀ a0 a1 a2, K gS 8519680 a0 (State.flushLane a0 a1 a2) := by
  intro a0 a1 a2
  unfold State.flushLane
  extract_lets +onlyGivenNames -underBinder -merge -useContext x0
  clear_value x0
  refine K.foldl ?_ (fun y1 a2 h3 => ?_)
  · refine K.step ?_ (State.setLane_keeps _ _ _) rfl
    exact K.refl
  · refine K.step ?_ (State.bulkEnd_keeps _ _ _ _ _ _) rfl
    exact h3

theorem State.fnStop_keeps : ∀ a0 a1 a2, K gS 8519684 a0 (State.fnStop a0 a1 a2) := by
  intro a0 a1 a2
  unfold State.fnStop
  extract_lets +onlyGivenNames -underBinder -merge -useContext x0
  have h1 : K gS 8519684 a0 x0 := by
    refine K.foldl ?_ (fun y2 a3 h4 => ?_)
    · exact K.refl
    · refine K.step ?_ (State.flushLane_keeps _ _ _) rfl
      exact h4
  clear_value x0
  extract_lets +onlyGivenNames -underBinder -merge -useContext x5
  clear_value x5
  extract_lets +onlyGivenNames -underBinder -merge -useContext x6
  clear_value x6
  extract_lets +onlyGivenNames -underBinder -merge -useContext x7
  clear_value x7
  extract_lets +onlyGivenNames -underBinder -merge -useContext x8
  clear_value x8
  extract_lets +onlyGivenNames -underBinder -merge -useContext x9
  clear_value x9
  extract_lets +onlyGivenNames -underBinder -merge -useContext x10
  clear_value x10
  extract_lets +onlyGivenNames -underBinder -merge -useContext x11
  clear_value x11
  extract_lets +onlyGivenNames -underBinder -merge -useContext x12
  clear_value x12
  extract_lets +onlyGivenNames -underBinder -merge -useContext x13
  have h14 : K gS 8519684 a0 x13 := by
    refine K.step ?_ (State.bump_keeps _ _ _ _) rfl
    refine K.step ?_ (State.setFn_keeps _ _ _) rfl
    exact h1
  clear_value x13
  refine K.step ?_ (State.bump_keeps _ _ _ _) rfl
  exact h14

theorem State.setFnState_keeps : ∀ a0 a1 a2 a3, K gS 4 a0 (State.setFnState a0 a1 a2 a3) := by
  intro a0 a1 a2 a3
  unfold State.setFnState
  refine K.step ?_ (State.setFld_keeps _ _ _ _) rfl
  exact K.refl

theorem State.fnError_keeps : ∀ a0 a1 a2 a3, K gS 2156006916 a0 (State.fnError a0 a1 a2 a3) := by
  intro a0 a1 a2 a3
  unfold State.fnError
  refine K.ite (fun _ => ?_) (fun _ => ?_)
  · exact K.refl
  · extract_lets +onlyGivenNames -underBinder -merge -useContext x0
    clear_value x0
    extract_lets +onlyGivenNames -underBinder -merge -useContext x1
    have h2 : K gS 2156006916 a0 x1 := by
      refine K.ite (fun _ => ?_) (fun _ => ?_)
      · refine K.step ?_ (State.fnVector_keeps _ _ _ _) rfl
        exact K.refl
      · exact K.refl
    clear_value x1
    refine K.step ?_ (State.fnStop_keeps _ _ _) rfl
    refine K.step ?_ (State.setFld_keeps _ _ _ _) rfl
    refine K.step ?_ (State.setFnState_keeps _ _ _ _) rfl
    exact h2

theorem State.fnRead_keeps : ∀ a0 a1 a2 a3 a4 a5, K g2 126 a0 (State.fnRead a0 a1 a2 a3 a4 a5) := by
  intro a0 a1 a2 a3 a4 a5
  unfold State.fnRead
  split
  · refine K.mk2 ?_
    exact K.refl
  · refine K.ite (fun _ => ?_) (fun _ => ?_)
    · refine K.mk2 ?_
      refine K.step ?_ (State.engRefused_keeps _ _ _ _ _ _) rfl
      exact K.refl
    · refine K.ite (fun _ => ?_) (fun _ => ?_)
      · refine K.mk2 ?_
        exact K.refl
      · extract_lets +onlyGivenNames -underBinder -merge -useContext x2
        have h3 : K g3 126 a0 x2 := by
          refine K.step ?_ (State.engRead_keeps _ _ _ _) rfl
          exact K.refl
        clear_value x2
        refine K.mk2 ?_
        refine K.of3 ?_
        exact h3

theorem State.readRxDesc_keeps : ∀ a0 a1 a2 a3 a4, K g2 2156007038 a0 (State.readRxDesc a0 a1 a2 a3 a4) := by
  intro a0 a1 a2 a3 a4
  unfold State.readRxDesc
  extract_lets +onlyGivenNames -underBinder -merge -useContext x0
  clear_value x0
  extract_lets +onlyGivenNames -underBinder -merge -useContext x1
  clear_value x1
  refine K.ite (fun _ => ?_) (fun _ => ?_)
  · refine K.mk2 ?_
    exact K.refl
  · extract_lets +onlyGivenNames -underBinder -merge -useContext x2
    have h3 : K g2 2156007038 a0 x2 := by
      refine K.step ?_ (State.fnRead_keeps _ _ _ _ _ _) rfl
      exact K.refl
    clear_value x2
    split
    · refine K.mk2 ?_
      refine K.step ?_ (State.fnError_keeps _ _ _ _) rfl
      refine K.of2 ?_
      exact h3
    · extract_lets +onlyGivenNames -underBinder -merge -useContext x6
      clear_value x6
      extract_lets +onlyGivenNames -underBinder -merge -useContext x7
      clear_value x7
      refine K.mk2 ?_
      refine K.step ?_ (State.modFn_keeps _ _ _) rfl
      refine K.of2 ?_
      exact h3

theorem State.fetchRx_keeps : ∀ a0 a1 a2 a3 a4 a5, K gS 2156007038 a0 (State.fetchRx a0 a1 a2 a3 a4 a5) := by
  intro a0 a1 a2 a3 a4 a5
  induction a5 generalizing a0 a1 a2 a3 a4 with
  | zero =>
    rw [State.fetchRx]
    exact K.refl
  | succ j ih =>
    rw [State.fetchRx]
    refine K.ite (fun _ => ?_) (fun _ => ?_)
    · exact K.refl
    · extract_lets +onlyGivenNames -underBinder -merge -useContext x0
      have h1 : K g2 2156007038 a0 x0 := by
        refine K.step ?_ (State.readRxDesc_keeps _ _ _ _ _) rfl
        exact K.refl
      clear_value x0
      refine K.ite (fun _ => ?_) (fun _ => ?_)
      · refine K.step ?_ (ih _ _ _ _ _) rfl
        refine K.of2 ?_
        exact h1
      · refine K.of2 ?_
        exact h1

theorem State.rxDrop_keeps : ∀ a0 a1 a2 a3, K gS 4 a0 (State.rxDrop a0 a1 a2 a3) := by
  intro a0 a1 a2 a3
  unfold State.rxDrop
  refine K.step ?_ (State.bump_keeps _ _ _ _) rfl
  refine K.step ?_ (State.bump_keeps _ _ _ _) rfl
  exact K.refl

theorem State.rxCopy_keeps : ∀ a0 a1 a2 a3 a4 a5 a6, K gS 2156007038 a0 (State.rxCopy a0 a1 a2 a3 a4 a5 a6) := by
  intro a0 a1 a2 a3 a4 a5 a6
  unfold State.rxCopy
  extract_lets +onlyGivenNames -underBinder -merge -useContext x0
  clear_value x0
  extract_lets +onlyGivenNames -underBinder -merge -useContext x1
  clear_value x1
  extract_lets +onlyGivenNames -underBinder -merge -useContext x2
  clear_value x2
  extract_lets +onlyGivenNames -underBinder -merge -useContext x3
  clear_value x3
  extract_lets +onlyGivenNames -underBinder -merge -useContext x4
  clear_value x4
  refine K.ite (fun _ => ?_) (fun _ => ?_)
  · refine K.step ?_ (State.rxDrop_keeps _ _ _ _) rfl
    exact K.refl
  · extract_lets +onlyGivenNames -underBinder -merge -useContext x5
    have h6 : K gS 2156007038 a0 x5 := by
      refine K.step ?_ (State.fetchRx_keeps _ _ _ _ _ _) rfl
      exact K.refl
    clear_value x5
    extract_lets +onlyGivenNames -underBinder -merge -useContext x7
    clear_value x7
    refine K.ite (fun _ => ?_) (fun _ => ?_)
    · exact h6
    · split
      · refine K.step ?_ (State.rxDrop_keeps _ _ _ _) rfl
        exact h6
      · refine K.ite (fun _ => ?_) (fun _ => ?_)
        · refine K.step ?_ (State.bump_keeps _ _ _ _) rfl
          refine K.step ?_ (State.rxDrop_keeps _ _ _ _) rfl
          exact h6
        · extract_lets +onlyGivenNames -underBinder -merge -useContext x10
          clear_value x10
          extract_lets +onlyGivenNames -underBinder -merge -useContext x11
          clear_value x11
          extract_lets +onlyGivenNames -underBinder -merge -useContext x12
          clear_value x12
          refine K.step ?_ (State.setFn_keeps _ _ _) rfl
          exact h6

theorem State.classify_keeps : ∀ a0 a1 a2 a3, K gS 2156007038 a0 (State.classify a0 a1 a2 a3) := by
  intro a0 a1 a2 a3
  unfold State.classify
  extract_lets +onlyGivenNames -underBinder -merge -useContext x0
  clear_value x0
  extract_lets +onlyGivenNames -underBinder -merge -useContext x1
  clear_value x1
  refine K.ite (fun _ => ?_) (fun _ => ?_)
  · refine K.step ?_ (State.bump_keeps _ _ _ _) rfl
    exact K.refl
  · refine K.foldl ?_ (fun y2 a3 h4 => ?_)
    · exact K.refl
    · refine K.step ?_ (State.rxCopy_keeps _ _ _ _ _ _ _) rfl
      exact h4

theorem State.fnEnable_keeps : ∀ a0 a1 a2, K gS 8388612 a0 (State.fnEnable a0 a1 a2) := by
  intro a0 a1 a2
  unfold State.fnEnable
  extract_lets +onlyGivenNames -underBinder -merge -useContext x0
  clear_value x0
  split
  · refine K.step ?_ (State.setFld_keeps _ _ _ _) rfl
    refine K.step ?_ (State.setFlag_keeps _ _ _ _) rfl
    exact K.refl
  · extract_lets +onlyGivenNames -underBinder -merge -useContext x3
    have h4 : K gS 8388612 a0 x3 := by
      refine K.foldl ?_ (fun y5 a6 h7 => ?_)
      · exact K.refl
      · refine K.step ?_ (State.setReg_keeps _ _ _) rfl
        refine K.step ?_ (State.setReg_keeps _ _ _) rfl
        exact h7
    clear_value x3
    extract_lets +onlyGivenNames -underBinder -merge -useContext x8
    clear_value x8
    refine K.step ?_ (State.setFnState_keeps _ _ _ _) rfl
    refine K.step ?_ (State.setFlag_keeps _ _ _ _) rfl
    refine K.step ?_ (State.setFn_keeps _ _ _) rfl
    exact h4

theorem State.fnOff_keeps : ∀ a0 a1 a2, K gS 4 a0 (State.fnOff a0 a1 a2) := by
  intro a0 a1 a2
  unfold State.fnOff
  refine K.step ?_ (State.setFlag_keeps _ _ _ _) rfl
  refine K.step ?_ (State.setFlag_keeps _ _ _ _) rfl
  refine K.step ?_ (State.setFnState_keeps _ _ _ _) rfl
  exact K.refl

theorem State.fnQuiesce_keeps : ∀ a0 a1 a2 a3, K gS 8519684 a0 (State.fnQuiesce a0 a1 a2 a3) := by
  intro a0 a1 a2 a3
  unfold State.fnQuiesce
  extract_lets +onlyGivenNames -underBinder -merge -useContext x0
  have h1 : K gS 8519684 a0 x0 := by
    refine K.step ?_ (State.setFlag_keeps _ _ _ _) rfl
    refine K.step ?_ (State.setFnState_keeps _ _ _ _) rfl
    exact K.refl
  clear_value x0
  refine K.step ?_ (State.fnStop_keeps _ _ _) rfl
  refine K.step ?_ (State.modFn_keeps _ _ _) rfl
  exact h1

theorem State.fnUnmask_keeps : ∀ a0 a1 a2 a3, K gS 2147487236 a0 (State.fnUnmask a0 a1 a2 a3) := by
  intro a0 a1 a2 a3
  unfold State.fnUnmask
  refine K.foldl ?_ (fun y0 a1 h2 => ?_)
  · exact K.refl
  · extract_lets +onlyGivenNames -underBinder -merge -useContext x3
    clear_value x3
    extract_lets +onlyGivenNames -underBinder -merge -useContext x4
    have h5 : K gS 2147487236 a0 x4 := by
      refine K.step ?_ (State.setBit_keeps _ _ _ _) rfl
      exact h2
    clear_value x4
    refine K.ite (fun _ => ?_) (fun _ => ?_)
    · refine K.step ?_ (State.fnVector_keeps _ _ _ _) rfl
      refine K.step ?_ (State.setBit_keeps _ _ _ _) rfl
      exact h5
    · exact h5

theorem State.fnWrite_keeps : ∀ a0 a1 a2 a3 a4 a5, K g2 126 a0 (State.fnWrite a0 a1 a2 a3 a4 a5) := by
  intro a0 a1 a2 a3 a4 a5
  unfold State.fnWrite
  extract_lets +onlyGivenNames -underBinder -merge -useContext x0
  clear_value x0
  split
  · refine K.mk2 ?_
    exact K.refl
  · refine K.ite (fun _ => ?_) (fun _ => ?_)
    · refine K.mk2 ?_
      refine K.step ?_ (State.engRefused_keeps _ _ _ _ _ _) rfl
      exact K.refl
    · refine K.ite (fun _ => ?_) (fun _ => ?_)
      · refine K.mk2 ?_
        exact K.refl
      · refine K.mk2 ?_
        refine K.step ?_ (State.logGpa_keeps _ _ _ _ _) rfl
        refine K.step ?_ (State.engWrite_keeps _ _ _ _ _) rfl
        exact K.refl

theorem State.readTxDesc_keeps : ∀ a0 a1 a2 a3, K gS 2156007038 a0 (State.readTxDesc a0 a1 a2 a3) := by
  intro a0 a1 a2 a3
  unfold State.readTxDesc
  extract_lets +onlyGivenNames -underBinder -merge -useContext x0
  clear_value x0
  extract_lets +onlyGivenNames -underBinder -merge -useContext x1
  clear_value x1
  refine K.ite (fun _ => ?_) (fun _ => ?_)
  · exact K.refl
  · extract_lets +onlyGivenNames -underBinder -merge -useContext x2
    have h3 : K g2 2156007038 a0 x2 := by
      refine K.step ?_ (State.fnRead_keeps _ _ _ _ _ _) rfl
      exact K.refl
    clear_value x2
    split
    · refine K.step ?_ (State.fnError_keeps _ _ _ _) rfl
      refine K.of2 ?_
      exact h3
    · refine K.step ?_ (State.modFn_keeps _ _ _) rfl
      refine K.of2 ?_
      exact h3

theorem State.ringSignal_keeps : ∀ a0 a1 a2 a3, K gS 2155875844 a0 (State.ringSignal a0 a1 a2 a3) := by
  intro a0 a1 a2 a3
  unfold State.ringSignal
  refine K.step ?_ (State.fnVector_keeps _ _ _ _) rfl
  refine K.step ?_ (State.modFn_keeps _ _ _) rfl
  exact K.refl

theorem State.ringCount_keeps : ∀ a0 a1 a2 a3 a4 a5, K gS 2155875844 a0 (State.ringCount a0 a1 a2 a3 a4 a5) := by
  intro a0 a1 a2 a3 a4 a5
  unfold State.ringCount
  extract_lets +onlyGivenNames -underBinder -merge -useContext x0
  clear_value x0
  extract_lets +onlyGivenNames -underBinder -merge -useContext x1
  clear_value x1
  extract_lets +onlyGivenNames -underBinder -merge -useContext x2
  have h3 : K gS 2155875844 a0 x2 := by
    refine K.step ?_ (State.modFn_keeps _ _ _) rfl
    exact K.refl
  clear_value x2
  extract_lets +onlyGivenNames -underBinder -merge -useContext x4
  clear_value x4
  refine K.ite (fun _ => ?_) (fun _ => ?_)
  · refine K.step ?_ (State.ringSignal_keeps _ _ _ _) rfl
    exact h3
  · exact h3

theorem State.txFail_keeps : ∀ a0 a1 a2 a3 a4, K gS 8388608 a0 (State.txFail a0 a1 a2 a3 a4) := by
  intro a0 a1 a2 a3 a4
  unfold State.txFail
  refine K.step ?_ (State.modFn_keeps _ _ _) rfl
  exact K.refl

theorem State.writeCompl_keeps : ∀ a0 a1 a2 a3 a4 a5, K g2 126 a0 (State.writeCompl a0 a1 a2 a3 a4 a5) := by
  intro a0 a1 a2 a3 a4 a5
  induction a5 generalizing a0 a1 a2 a3 a4 with
  | nil =>
    rw [State.writeCompl]
    refine K.mk2 ?_
    exact K.refl
  | cons e r ih =>
    rw [State.writeCompl]
    refine K.ite (fun _ => ?_) (fun _ => ?_)
    · refine K.step ?_ (ih _ _ _ _ _) rfl
      refine K.of2 ?_
      refine K.step ?_ (State.fnWrite_keeps _ _ _ _ _ _) rfl
      exact K.refl
    · refine K.mk2 ?_
      refine K.of2 ?_
      refine K.step ?_ (State.fnWrite_keeps _ _ _ _ _ _) rfl
      exact K.refl

theorem State.writeData_keeps : ∀ a0 a1 a2 a3 a4 a5, K g3 126 a0 (State.writeData a0 a1 a2 a3 a4 a5) := by
  intro a0 a1 a2 a3 a4 a5
  induction a4 generalizing a0 a1 a2 a3 a5 with
  | nil =>
    rw [State.writeData]
    refine K.mk3 ?_
    exact K.refl
  | cons e r ih =>
    rw [State.writeData]
    refine K.ite (fun _ => ?_) (fun _ => ?_)
    · extract_lets +onlyGivenNames -underBinder -merge -useContext x0
      have h1 : K g3 126 a0 x0 := by
        refine K.step ?_ (ih _ _ _ _ _) rfl
        exact K.refl
      clear_value x0
      refine K.mk3 ?_
      refine K.of3 ?_
      exact h1
    · extract_lets +onlyGivenNames -underBinder -merge -useContext x2
      clear_value x2
      refine K.ite (fun _ => ?_) (fun _ => ?_)
      · refine K.mk3 ?_
        exact K.refl
      · extract_lets +onlyGivenNames -underBinder -merge -useContext x3
        have h4 : K g2 126 a0 x3 := by
          refine K.step ?_ (State.fnWrite_keeps _ _ _ _ _ _) rfl
          exact K.refl
        clear_value x3
        refine K.ite (fun _ => ?_) (fun _ => ?_)
        · refine K.mk3 ?_
          exact K.refl
        · extract_lets +onlyGivenNames -underBinder -merge -useContext x5
          have h6 : K g3 126 a0 x5 := by
            refine K.step ?_ (ih _ _ _ _ _) rfl
            refine K.of2 ?_
            exact h4
          clear_value x5
          refine K.mk3 ?_
          refine K.of3 ?_
          exact h6

theorem State.writeFncfg_keeps : ∀ a0 a1 a2 a3, K gS 8519684 a0 (State.writeFncfg a0 a1 a2 a3) := by
  intro a0 a1 a2 a3
  unfold State.writeFncfg
  extract_lets +onlyGivenNames -underBinder -merge -useContext x0
  clear_value x0
  extract_lets +onlyGivenNames -underBinder -merge -useContext x1
  have h2 : ∀ y3, K gS 8519684 a0 y3 → K gS 8519684 a0 (x1 y3) := by
    intro y3 h4
    dsimp -zeta only [x1]
    refine K.step ?_ (State.setFlag_keeps _ _ _ _) rfl
    exact h4
  clear_value x1
  extract_lets +onlyGivenNames -underBinder -merge -useContext x5
  clear_value x5
  refine K.ite (fun _ => ?_) (fun _ => ?_)
  · extract_lets +onlyGivenNames -underBinder -merge -useContext x6
    have h7 : K gS 8519684 a0 x6 := by
      refine K.step ?_ (State.setReg_keeps _ _ _) rfl
      exact K.refl
    clear_value x6
    refine K.ite (fun _ => ?_) (fun _ => ?_)
    · refine K.step ?_ (State.fnEnable_keeps _ _ _) rfl
      exact h7
    · exact h7
  · extract_lets +onlyGivenNames -underBinder -merge -useContext x8
    have h9 : K gS 8519684 a0 x8 := by
      refine K.ite (fun _ => ?_) (fun _ => ?_)
      · exact K.refl
      · refine h2 _ ?_
        exact K.refl
    clear_value x8
    split
    · refine K.ite (fun _ => ?_) (fun _ => ?_)
      · refine K.step ?_ (State.fnQuiesce_keeps _ _ _ _) rfl
        refine K.step ?_ (State.setFlag_keeps _ _ _ _) rfl
        exact h9
      · refine K.ite (fun _ => ?_) (fun _ => ?_)
        · refine K.step ?_ (State.fnQuiesce_keeps _ _ _ _) rfl
          exact h9
        · exact h9
    · exact h9
    · refine K.ite (fun _ => ?_) (fun _ => ?_)
      · refine K.step ?_ (State.fnOff_keeps _ _ _) rfl
        exact h9
      · refine h2 _ ?_
        exact h9

theorem State.writeShape_keeps : ∀ a0 a1 a2 a3 a4 a5, K gS 8388612 a0 (State.writeShape a0 a1 a2 a3 a4 a5) := by
  intro a0 a1 a2 a3 a4 a5
  unfold State.writeShape
  extract_lets +onlyGivenNames -underBinder -merge -useContext x0
  clear_value x0
  extract_lets +onlyGivenNames -underBinder -merge -useContext x1
  clear_value x1
  extract_lets +onlyGivenNames -underBinder -merge -useContext x2
  have h3 : K gS 8388612 a0 x2 := by
    refine K.step ?_ (State.writeReg_keeps _ _ _ _) rfl
    exact K.refl
  clear_value x2
  extract_lets +onlyGivenNames -underBinder -merge -useContext x4
  clear_value x4
  refine K.step ?_ (State.modFn_keeps _ _ _) rfl
  exact h3

theorem State.writeTail_keeps : ∀ a0 a1 a2 a3 a4, K gS 4 a0 (State.writeTail a0 a1 a2 a3 a4) := by
  intro a0 a1 a2 a3 a4
  unfold State.writeTail
  extract_lets +onlyGivenNames -underBinder -merge -useContext x0
  clear_value x0
  extract_lets +onlyGivenNames -underBinder -merge -useContext x1
  clear_value x1
  extract_lets +onlyGivenNames -underBinder -merge -useContext x2
  clear_value x2
  extract_lets +onlyGivenNames -underBinder -merge -useContext x3
  clear_value x3
  refine K.ite (fun _ => ?_) (fun _ => ?_)
  · refine K.step ?_ (State.setReg_keeps _ _ _) rfl
    exact K.refl
  · refine K.step ?_ (State.setFld_keeps _ _ _ _) rfl
    refine K.step ?_ (State.setFlag_keeps _ _ _ _) rfl
    exact K.refl

theorem execDescriptorRead_keeps : ∀ a0 a1 a2 a3 a4, K gR 2156007038 a4 (execDescriptorRead a0 a1 a2 a3 a4) := by
  intro a0 a1 a2 a3 a4
  unfold execDescriptorRead
  refine K.mkR ?_
  refine K.ite (fun _ => ?_) (fun _ => ?_)
  · exact K.refl
  · refine K.ite (fun _ => ?_) (fun _ => ?_)
    · refine K.step ?_ (State.readTxDesc_keeps _ _ _ _) rfl
      exact K.refl
    · refine K.of2 ?_
      refine K.step ?_ (State.readRxDesc_keeps _ _ _ _ _) rfl
      exact K.refl

theorem execFilterWrite_keeps : ∀ a0 a1 a2 a3 a4, K gR 4 a4 (execFilterWrite a0 a1 a2 a3 a4) := by
  intro a0 a1 a2 a3 a4
  unfold execFilterWrite
  refine K.mkR ?_
  refine K.ite (fun _ => ?_) (fun _ => ?_)
  · refine K.step ?_ (State.writeReg_keeps _ _ _ _) rfl
    exact K.refl
  · exact K.refl

theorem execFrameReceive_keeps : ∀ a0 a1 a2 a3, K gR 2156007038 a3 (execFrameReceive a0 a1 a2 a3) := by
  intro a0 a1 a2 a3
  unfold execFrameReceive
  extract_lets +onlyGivenNames -underBinder -merge -useContext x0
  clear_value x0
  extract_lets +onlyGivenNames -underBinder -merge -useContext x1
  clear_value x1
  extract_lets +onlyGivenNames -underBinder -merge -useContext x2
  clear_value x2
  extract_lets +onlyGivenNames -underBinder -merge -useContext x3
  clear_value x3
  refine K.mkR ?_
  refine K.ite (fun _ => ?_) (fun _ => ?_)
  · exact K.refl
  · extract_lets +onlyGivenNames -underBinder -merge -useContext x4
    have h5 : K gS 2156007038 a3 x4 := by
      refine K.step ?_ (State.bump_keeps _ _ _ _) rfl
      exact K.refl
    clear_value x4
    refine K.ite (fun _ => ?_) (fun _ => ?_)
    · refine K.step ?_ (State.bump_keeps _ _ _ _) rfl
      exact h5
    · refine K.ite (fun _ => ?_) (fun _ => ?_)
      · refine K.step ?_ (State.send_keeps _ _) rfl
        exact h5
      · refine K.ite (fun _ => ?_) (fun _ => ?_)
        · exact h5
        · refine K.step ?_ (State.classify_keeps _ _ _ _) rfl
          exact h5

theorem execFunctionDisable_keeps : ∀ a0 a1 a2 a3, K gR 8519684 a3 (execFunctionDisable a0 a1 a2 a3) := by
  intro a0 a1 a2 a3
  unfold execFunctionDisable
  refine K.mkR ?_
  refine K.ite (fun _ => ?_) (fun _ => ?_)
  · refine K.step ?_ (State.writeFncfg_keeps _ _ _ _) rfl
    exact K.refl
  · exact K.refl

theorem execFunctionEnable_keeps : ∀ a0 a1 a2 a3, K gR 8519684 a3 (execFunctionEnable a0 a1 a2 a3) := by
  intro a0 a1 a2 a3
  unfold execFunctionEnable
  refine K.mkR ?_
  refine K.ite (fun _ => ?_) (fun _ => ?_)
  · refine K.step ?_ (State.writeFncfg_keeps _ _ _ _) rfl
    exact K.refl
  · exact K.refl

theorem execFunctionQuiesce_keeps : ∀ a0 a1 a2 a3, K gR 8519684 a3 (execFunctionQuiesce a0 a1 a2 a3) := by
  intro a0 a1 a2 a3
  unfold execFunctionQuiesce
  refine K.mkR ?_
  refine K.ite (fun _ => ?_) (fun _ => ?_)
  · refine K.step ?_ (State.writeFncfg_keeps _ _ _ _) rfl
    exact K.refl
  · exact K.refl

theorem execQuiesceComplete_keeps : ∀ a0 a1 a2, K gR 4 a2 (execQuiesceComplete a0 a1 a2) := by
  intro a0 a1 a2
  unfold execQuiesceComplete
  extract_lets +onlyGivenNames -underBinder -merge -useContext x0
  clear_value x0
  refine K.mkR ?_
  refine K.ite (fun _ => ?_) (fun _ => ?_)
  · refine K.ite (fun _ => ?_) (fun _ => ?_)
    · refine K.step ?_ (State.fnOff_keeps _ _ _) rfl
      exact K.refl
    · refine K.step ?_ (State.setFlag_keeps _ _ _ _) rfl
      refine K.step ?_ (State.setFnState_keeps _ _ _ _) rfl
      exact K.refl
  · exact K.refl

theorem execRingInterruptTimer_keeps : ∀ a0 a1 a2 a3, K gR 2155875844 a3 (execRingInterruptTimer a0 a1 a2 a3) := by
  intro a0 a1 a2 a3
  unfold execRingInterruptTimer
  extract_lets +onlyGivenNames -underBinder -merge -useContext x0
  clear_value x0
  refine K.mkR ?_
  refine K.ite (fun _ => ?_) (fun _ => ?_)
  · refine K.step ?_ (State.ringSignal_keeps _ _ _ _) rfl
    exact K.refl
  · exact K.refl

theorem execRxFrameWriteComplete_keeps : ∀ a0 a1 a2 a3, K gR 2156007038 a3 (execRxFrameWriteComplete a0 a1 a2 a3) := by
  intro a0 a1 a2 a3
  unfold execRxFrameWriteComplete
  extract_lets +onlyGivenNames -underBinder -merge -useContext x0
  clear_value x0
  extract_lets +onlyGivenNames -underBinder -merge -useContext x1
  clear_value x1
  refine K.mkR ?_
  refine K.ite (fun _ => ?_) (fun _ => ?_)
  · exact K.refl
  · split
    · exact K.refl
    · extract_lets +onlyGivenNames -underBinder -merge -useContext x4
      have h5 : K gS 2156007038 a3 x4 := by
        refine K.step ?_ (State.setFn_keeps _ _ _) rfl
        exact K.refl
      clear_value x4
      extract_lets +onlyGivenNames -underBinder -merge -useContext x6
      have h7 : K g3 2156007038 a3 x6 := by
        refine K.ite (fun _ => ?_) (fun _ => ?_)
        · refine K.mk3 ?_
          exact h5
        · refine K.step ?_ (State.writeData_keeps _ _ _ _ _ _) rfl
          exact h5
      clear_value x6
      extract_lets +onlyGivenNames -underBinder -merge -useContext x8
      clear_value x8
      extract_lets +onlyGivenNames -underBinder -merge -useContext x9
      clear_value x9
      extract_lets +onlyGivenNames -underBinder -merge -useContext x10
      have h11 : K g2 2156007038 a3 x10 := by
        refine K.step ?_ (State.writeCompl_keeps _ _ _ _ _ _) rfl
        refine K.of3 ?_
        exact h7
      clear_value x10
      extract_lets +onlyGivenNames -underBinder -merge -useContext x12
      clear_value x12
      refine K.ite (fun _ => ?_) (fun _ => ?_)
      · refine K.step ?_ (State.fnError_keeps _ _ _ _) rfl
        refine K.of2 ?_
        exact h11
      · extract_lets +onlyGivenNames -underBinder -merge -useContext x13
        have h14 : K gS 2156007038 a3 x13 := by
          refine K.step ?_ (State.setReg_keeps _ _ _) rfl
          refine K.of2 ?_
          exact h11
        clear_value x13
        extract_lets +onlyGivenNames -underBinder -merge -useContext x15
        have h16 : K gS 2156007038 a3 x15 := by
          refine K.ite (fun _ => ?_) (fun _ => ?_)
          · exact h14
          · refine K.ite (fun _ => ?_) (fun _ => ?_)
            · refine K.step ?_ (State.bump_keeps _ _ _ _) rfl
              exact h14
            · refine K.step ?_ (State.rxDrop_keeps _ _ _ _) rfl
              exact h14
        clear_value x15
        refine K.step ?_ (State.ringCount_keeps _ _ _ _ _ _) rfl
        exact h16

theorem execRxTailWrite_keeps : ∀ a0 a1 a2 a3 a4, K gR 4 a4 (execRxTailWrite a0 a1 a2 a3 a4) := by
  intro a0 a1 a2 a3 a4
  unfold execRxTailWrite
  refine K.mkR ?_
  refine K.ite (fun _ => ?_) (fun _ => ?_)
  · refine K.step ?_ (State.writeTail_keeps _ _ _ _ _) rfl
    exact K.refl
  · exact K.refl

theorem execTxFrameAdmit_keeps : ∀ a0 a1 a2, K gR 8519684 a2 (execTxFrameAdmit a0 a1 a2) := by
  intro a0 a1 a2
  unfold execTxFrameAdmit
  extract_lets +onlyGivenNames -underBinder -merge -useContext x0
  clear_value x0
  extract_lets +onlyGivenNames -underBinder -merge -useContext x1
  clear_value x1
  extract_lets +onlyGivenNames -underBinder -merge -useContext x2
  clear_value x2
  extract_lets +onlyGivenNames -underBinder -merge -useContext x3
  clear_value x3
  extract_lets +onlyGivenNames -underBinder -merge -useContext x4
  clear_value x4
  extract_lets +onlyGivenNames -underBinder -merge -useContext x5
  clear_value x5
  extract_lets +onlyGivenNames -underBinder -merge -useContext x6
  clear_value x6
  refine K.mkR ?_
  refine K.ite (fun _ => ?_) (fun _ => ?_)
  · exact K.refl
  · split
    · refine K.step ?_ (State.txFail_keeps _ _ _ _ _) rfl
      exact K.refl
    · refine K.ite (fun _ => ?_) (fun _ => ?_)
      · exact K.refl
      · extract_lets +onlyGivenNames -underBinder -merge -useContext x9
        clear_value x9
        extract_lets +onlyGivenNames -underBinder -merge -useContext x10
        clear_value x10
        refine K.ite (fun _ => ?_) (fun _ => ?_)
        · refine K.step ?_ (State.txFail_keeps _ _ _ _ _) rfl
          exact K.refl
        · refine K.ite (fun _ => ?_) (fun _ => ?_)
          · refine K.step ?_ (State.txFail_keeps _ _ _ _ _) rfl
            exact K.refl
          · extract_lets +onlyGivenNames -underBinder -merge -useContext x11
            clear_value x11
            extract_lets +onlyGivenNames -underBinder -merge -useContext x12
            clear_value x12
            extract_lets +onlyGivenNames -underBinder -merge -useContext x13
            clear_value x13
            extract_lets +onlyGivenNames -underBinder -merge -useContext x14
            clear_value x14
            extract_lets +onlyGivenNames -underBinder -merge -useContext x15
            clear_value x15
            refine K.ite (fun _ => ?_) (fun _ => ?_)
            · exact K.refl
            · extract_lets +onlyGivenNames -underBinder -merge -useContext x16
              have h17 : K gS 8519684 a2 x16 := by
                refine K.step ?_ (State.modFn_keeps _ _ _) rfl
                exact K.refl
              clear_value x16
              refine K.step ?_ (State.enqueue_keeps _ _ _) rfl
              exact h17

theorem execTxFrameComplete_keeps : ∀ a0 a1 a2 a3, K gR 2156007038 a3 (execTxFrameComplete a0 a1 a2 a3) := by
  intro a0 a1 a2 a3
  unfold execTxFrameComplete
  extract_lets +onlyGivenNames -underBinder -merge -useContext x0
  clear_value x0
  extract_lets +onlyGivenNames -underBinder -merge -useContext x1
  clear_value x1
  refine K.mkR ?_
  refine K.ite (fun _ => ?_) (fun _ => ?_)
  · exact K.refl
  · split
    · exact K.refl
    · extract_lets +onlyGivenNames -underBinder -merge -useContext x4
      have h5 : K gS 2156007038 a3 x4 := by
        refine K.step ?_ (State.setFn_keeps _ _ _) rfl
        exact K.refl
      clear_value x4
      extract_lets +onlyGivenNames -underBinder -merge -useContext x6
      clear_value x6
      extract_lets +onlyGivenNames -underBinder -merge -useContext x7
      have h8 : K g2 2156007038 a3 x7 := by
        refine K.step ?_ (State.writeCompl_keeps _ _ _ _ _ _) rfl
        exact h5
      clear_value x7
      refine K.ite (fun _ => ?_) (fun _ => ?_)
      · refine K.step ?_ (State.fnError_keeps _ _ _ _) rfl
        refine K.of2 ?_
        exact h8
      · extract_lets +onlyGivenNames -underBinder -merge -useContext x9
        clear_value x9
        extract_lets +onlyGivenNames -underBinder -merge -useContext x10
        clear_value x10
        extract_lets +onlyGivenNames -underBinder -merge -useContext x11
        have h12 : K gS 2156007038 a3 x11 := by
          refine K.step ?_ (State.setReg_keeps _ _ _) rfl
          refine K.step ?_ (State.modFn_keeps _ _ _) rfl
          refine K.of2 ?_
          exact h8
        clear_value x11
        extract_lets +onlyGivenNames -underBinder -merge -useContext x13
        have h14 : K gS 2156007038 a3 x13 := by
          refine K.step ?_ (State.bump_keeps _ _ _ _) rfl
          exact h12
        clear_value x13
        refine K.step ?_ (State.ringCount_keeps _ _ _ _ _ _) rfl
        exact h14

theorem execTxSegmentReadReturn_keeps : ∀ a0 a1 a2 a3, K gR 8388734 a3 (execTxSegmentReadReturn a0 a1 a2 a3) := by
  intro a0 a1 a2 a3
  unfold execTxSegmentReadReturn
  extract_lets +onlyGivenNames -underBinder -merge -useContext x0
  clear_value x0
  extract_lets +onlyGivenNames -underBinder -merge -useContext x1
  clear_value x1
  extract_lets +onlyGivenNames -underBinder -merge -useContext x2
  clear_value x2
  refine K.mkR ?_
  refine K.ite (fun _ => ?_) (fun _ => ?_)
  · exact K.refl
  · split
    · exact K.refl
    · refine K.ite (fun _ => ?_) (fun _ => ?_)
      · refine K.step ?_ (State.setFn_keeps _ _ _) rfl
        exact K.refl
      · extract_lets +onlyGivenNames -underBinder -merge -useContext x5
        have h6 : K g2 8388734 a3 x5 := by
          refine K.step ?_ (State.fnRead_keeps _ _ _ _ _ _) rfl
          exact K.refl
        clear_value x5
        refine K.step ?_ (State.modFn_keeps _ _ _) rfl
        refine K.of2 ?_
        exact h6

theorem execTxTailWrite_keeps : ∀ a0 a1 a2 a3, K gR 4 a3 (execTxTailWrite a0 a1 a2 a3) := by
  intro a0 a1 a2 a3
  unfold execTxTailWrite
  refine K.mkR ?_
  refine K.ite (fun _ => ?_) (fun _ => ?_)
  · refine K.step ?_ (State.writeTail_keeps _ _ _ _ _) rfl
    exact K.refl
  · exact K.refl

end Sys2Proof.Machine
end

