-- ==== Sys2Proof/Laws/KeepsLadle.lean ====
section
/-!
SUPPORT. What each function and each command of Machine/Ladle.lean can change (Laws/Keeps.lean), one lemma each.
-/
namespace Sys2Proof.Machine

theorem State.setCr_keeps : ∀ a0 a1 a2 a3 a4, K gS 4 a0 (State.setCr a0 a1 a2 a3 a4) := by
  intro a0 a1 a2 a3 a4
  unfold State.setCr
  refine K.step ?_ (State.setReg_keeps _ _ _) rfl
  exact K.refl

theorem State.setLdl_keeps : ∀ a0 a1 a2, K gS 16777216 a0 (State.setLdl a0 a1 a2) := by
  intro a0 a1 a2
  unfold State.setLdl
  refine K.upd16777216 ?_ rfl
  exact K.refl

theorem State.testFlags_keeps : ∀ a0 a1, K gS 16777220 a0 (State.testFlags a0 a1) := by
  intro a0 a1
  unfold State.testFlags
  refine K.foldl ?_ (fun y0 a1 h2 => ?_)
  · exact K.refl
  · extract_lets +onlyGivenNames -underBinder -merge -useContext x3
    clear_value x3
    extract_lets +onlyGivenNames -underBinder -merge -useContext x4
    clear_value x4
    split
    · refine K.ite (fun _ => ?_) (fun _ => ?_)
      · extract_lets +onlyGivenNames -underBinder -merge -useContext x6
        have h7 : K gS 16777220 a0 x6 := by
          refine K.step ?_ (State.setLdl_keeps _ _ _) rfl
          exact h2
        clear_value x6
        refine K.ite (fun _ => ?_) (fun _ => ?_)
        · refine K.step ?_ (State.setBit_keeps _ _ _ _) rfl
          exact h7
        · exact h7
      · exact h2
    · exact h2

theorem State.setFlags_keeps : ∀ a0 a1 a2 a3, K gS 16777220 a0 (State.setFlags a0 a1 a2 a3) := by
  intro a0 a1 a2 a3
  unfold State.setFlags
  extract_lets +onlyGivenNames -underBinder -merge -useContext x0
  clear_value x0
  refine K.step ?_ (State.testFlags_keeps _ _) rfl
  refine K.step ?_ (State.setReg_keeps _ _ _) rfl
  exact K.refl

theorem State.applySteps_keeps : ∀ a0 a1 a2 a3, K gS 16777220 a0 (State.applySteps a0 a1 a2 a3) := by
  intro a0 a1 a2 a3
  unfold State.applySteps
  extract_lets +onlyGivenNames -underBinder -merge -useContext x0
  clear_value x0
  extract_lets +onlyGivenNames -underBinder -merge -useContext x1
  have h2 : K gS 16777220 a0 x1 := by
    refine K.ite (fun _ => ?_) (fun _ => ?_)
    · refine K.step ?_ (State.setCr_keeps _ _ _ _ _) rfl
      exact K.refl
    · exact K.refl
  clear_value x1
  extract_lets +onlyGivenNames -underBinder -merge -useContext x3
  have h4 : K gS 16777220 a0 x3 := by
    refine K.ite (fun _ => ?_) (fun _ => ?_)
    · refine K.step ?_ (State.setCr_keeps _ _ _ _ _) rfl
      exact h2
    · exact h2
  clear_value x3
  refine K.ite (fun _ => ?_) (fun _ => ?_)
  · refine K.step ?_ (State.setFlags_keeps _ _ _ _) rfl
    exact h4
  · exact h4

theorem State.stopDone_keeps : ∀ a0 a1 a2, K gS 4 a0 (State.stopDone a0 a1 a2) := by
  intro a0 a1 a2
  unfold State.stopDone
  refine K.step ?_ (State.setFlag_keeps _ _ _ _) rfl
  exact K.refl

theorem State.setEng_keeps : ∀ a0 a1 a2, K gS 33554432 a0 (State.setEng a0 a1 a2) := by
  intro a0 a1 a2
  unfold State.setEng
  refine K.upd33554432 ?_ rfl
  exact K.refl

theorem State.leaveFlight_keeps : ∀ a0 a1 a2, K gS 33554432 a0 (State.leaveFlight a0 a1 a2) := by
  intro a0 a1 a2
  unfold State.leaveFlight
  extract_lets +onlyGivenNames -underBinder -merge -useContext x0
  clear_value x0
  refine K.step ?_ (State.setEng_keeps _ _ _) rfl
  exact K.refl

theorem State.modLdl_keeps : ∀ a0 a1 a2, K gS 16777216 a0 (State.modLdl a0 a1 a2) := by
  intro a0 a1 a2
  unfold State.modLdl
  refine K.step ?_ (State.setLdl_keeps _ _ _) rfl
  exact K.refl

theorem State.chClear_keeps : ∀ a0 a1 a2, K gS 50331648 a0 (State.chClear a0 a1 a2) := by
  intro a0 a1 a2
  unfold State.chClear
  refine K.step ?_ (State.leaveFlight_keeps _ _ _) rfl
  refine K.step ?_ (State.modLdl_keeps _ _ _) rfl
  exact K.refl

theorem State.ldlVector_keeps : ∀ a0 a1 a2 a3, K gS 2147487236 a0 (State.ldlVector a0 a1 a2 a3) := by
  intro a0 a1 a2 a3
  unfold State.ldlVector
  refine K.ite (fun _ => ?_) (fun _ => ?_)
  · refine K.step ?_ (State.setBit_keeps _ _ _ _) rfl
    exact K.refl
  · refine K.step ?_ (State.raiseEdge_keeps _ _) rfl
    exact K.refl

theorem State.setCh_keeps : ∀ a0 a1 a2 a3, K gS 4 a0 (State.setCh a0 a1 a2 a3) := by
  intro a0 a1 a2 a3
  unfold State.setCh
  refine K.step ?_ (State.setFld_keeps _ _ _ _) rfl
  exact K.refl

theorem State.chFail_keeps : ∀ a0 a1 a2 a3 a4, K gS 2197818884 a0 (State.chFail a0 a1 a2 a3 a4) := by
  intro a0 a1 a2 a3 a4
  unfold State.chFail
  extract_lets +onlyGivenNames -underBinder -merge -useContext x0
  have h1 : K gS 2197818884 a0 x0 := by
    refine K.step ?_ (State.stopDone_keeps _ _ _) rfl
    refine K.step ?_ (State.setCh_keeps _ _ _ _) rfl
    refine K.step ?_ (State.chClear_keeps _ _ _) rfl
    exact K.refl
  clear_value x0
  extract_lets +onlyGivenNames -underBinder -merge -useContext x2
  have h3 : K gS 2197818884 a0 x2 := by
    refine K.step ?_ (State.setReg_keeps _ _ _) rfl
    refine K.step ?_ (State.setFld_keeps _ _ _ _) rfl
    exact h1
  clear_value x2
  extract_lets +onlyGivenNames -underBinder -merge -useContext x4
  clear_value x4
  refine K.ite (fun _ => ?_) (fun _ => ?_)
  · refine K.step ?_ (State.ldlVector_keeps _ _ _ _) rfl
    exact h3
  · exact h3

theorem State.beginAccess_keeps : ∀ a0 a1 a2 a3 a4 a5, K gS 2197818884 a0 (State.beginAccess a0 a1 a2 a3 a4 a5) := by
  intro a0 a1 a2 a3 a4 a5
  unfold State.beginAccess
  refine K.ite (fun _ => ?_) (fun _ => ?_)
  · refine K.step ?_ (State.chFail_keeps _ _ _ _ _) rfl
    exact K.refl
  · refine K.step ?_ (State.modLdl_keeps _ _ _) rfl
    exact K.refl

theorem State.setChPc_keeps : ∀ a0 a1 a2 a3, K gS 4 a0 (State.setChPc a0 a1 a2 a3) := by
  intro a0 a1 a2 a3
  unfold State.setChPc
  refine K.step ?_ (State.setReg_keeps _ _ _) rfl
  exact K.refl

theorem State.chNext_keeps : ∀ a0 a1 a2, K gS 4 a0 (State.chNext a0 a1 a2) := by
  intro a0 a1 a2
  unfold State.chNext
  refine K.step ?_ (State.setChPc_keeps _ _ _ _) rfl
  exact K.refl

theorem State.chStop_keeps : ∀ a0 a1 a2, K gS 50331652 a0 (State.chStop a0 a1 a2) := by
  intro a0 a1 a2
  unfold State.chStop
  refine K.step ?_ (State.stopDone_keeps _ _ _) rfl
  refine K.step ?_ (State.setCh_keeps _ _ _ _) rfl
  refine K.step ?_ (State.chClear_keeps _ _ _) rfl
  exact K.refl

theorem State.ldlDone_keeps : ∀ a0 a1 a2, K gS 50331652 a0 (State.ldlDone a0 a1 a2) := by
  intro a0 a1 a2
  unfold State.ldlDone
  extract_lets +onlyGivenNames -underBinder -merge -useContext x0
  have h1 : K gS 50331652 a0 x0 := by
    refine K.step ?_ (State.leaveFlight_keeps _ _ _) rfl
    refine K.step ?_ (State.modLdl_keeps _ _ _) rfl
    exact K.refl
  clear_value x0
  extract_lets +onlyGivenNames -underBinder -merge -useContext x2
  have h3 : K gS 50331652 a0 x2 := by
    refine K.step ?_ (State.chNext_keeps _ _ _) rfl
    exact h1
  clear_value x2
  refine K.ite (fun _ => ?_) (fun _ => ?_)
  · refine K.step ?_ (State.chStop_keeps _ _ _) rfl
    exact h3
  · exact h3

theorem State.wantFlight_keeps : ∀ a0 a1 a2, K gS 33554432 a0 (State.wantFlight a0 a1 a2) := by
  intro a0 a1 a2
  unfold State.wantFlight
  extract_lets +onlyGivenNames -underBinder -merge -useContext x0
  clear_value x0
  refine K.ite (fun _ => ?_) (fun _ => ?_)
  · refine K.step ?_ (State.setEng_keeps _ _ _) rfl
    exact K.refl
  · refine K.step ?_ (State.setEng_keeps _ _ _) rfl
    exact K.refl

theorem State.beginCopy_keeps : ∀ a0 a1 a2 a3 a4, K gS 2197818884 a0 (State.beginCopy a0 a1 a2 a3 a4) := by
  intro a0 a1 a2 a3 a4
  unfold State.beginCopy
  extract_lets +onlyGivenNames -underBinder -merge -useContext x0
  clear_value x0
  extract_lets +onlyGivenNames -underBinder -merge -useContext x1
  clear_value x1
  split
  · refine K.step ?_ (State.chFail_keeps _ _ _ _ _) rfl
    exact K.refl
  · refine K.ite (fun _ => ?_) (fun _ => ?_)
    · refine K.step ?_ (State.chFail_keeps _ _ _ _ _) rfl
      exact K.refl
    · refine K.ite (fun _ => ?_) (fun _ => ?_)
      · refine K.step ?_ (State.ldlDone_keeps _ _ _) rfl
        refine K.step ?_ (State.applySteps_keeps _ _ _ _) rfl
        exact K.refl
      · refine K.ite (fun _ => ?_) (fun _ => ?_)
        · refine K.step ?_ (State.chFail_keeps _ _ _ _ _) rfl
          exact K.refl
        · refine K.ite (fun _ => ?_) (fun _ => ?_)
          · refine K.step ?_ (State.chFail_keeps _ _ _ _ _) rfl
            exact K.refl
          · refine K.step ?_ (State.wantFlight_keeps _ _ _) rfl
            refine K.step ?_ (State.modLdl_keeps _ _ _) rfl
            exact K.refl

theorem State.chAbort_keeps : ∀ a0 a1 a2 a3, K gS 16777220 a0 (State.chAbort a0 a1 a2 a3) := by
  intro a0 a1 a2 a3
  unfold State.chAbort
  extract_lets +onlyGivenNames -underBinder -merge -useContext x0
  clear_value x0
  refine K.ite (fun _ => ?_) (fun _ => ?_)
  · refine K.step ?_ (State.setCh_keeps _ _ _ _) rfl
    refine K.step ?_ (State.modLdl_keeps _ _ _) rfl
    exact K.refl
  · exact K.refl

theorem State.chJump_keeps : ∀ a0 a1 a2 a3, K gS 16777220 a0 (State.chJump a0 a1 a2 a3) := by
  intro a0 a1 a2 a3
  unfold State.chJump
  refine K.step ?_ (State.setChPc_keeps _ _ _ _) rfl
  refine K.step ?_ (State.modLdl_keeps _ _ _) rfl
  exact K.refl

theorem State.chMiss_keeps : ∀ a0 a1 a2 a3 a4 a5, K gS 4 a0 (State.chMiss a0 a1 a2 a3 a4 a5) := by
  intro a0 a1 a2 a3 a4 a5
  unfold State.chMiss
  split
  · refine K.ite (fun _ => ?_) (fun _ => ?_)
    · exact K.refl
    · refine K.step ?_ (State.engRefused_keeps _ _ _ _ _ _) rfl
      exact K.refl
  · exact K.refl

theorem State.chOff_keeps : ∀ a0 a1 a2, K gS 50331652 a0 (State.chOff a0 a1 a2) := by
  intro a0 a1 a2
  unfold State.chOff
  extract_lets +onlyGivenNames -underBinder -merge -useContext x0
  have h1 : K gS 50331652 a0 x0 := by
    refine K.step ?_ (State.modLdl_keeps _ _ _) rfl
    refine K.step ?_ (State.chClear_keeps _ _ _) rfl
    exact K.refl
  clear_value x0
  extract_lets +onlyGivenNames -underBinder -merge -useContext x2
  have h3 : K gS 50331652 a0 x2 := by
    refine K.step ?_ (State.setFld_keeps _ _ _ _) rfl
    refine K.step ?_ (State.stopDone_keeps _ _ _) rfl
    refine K.step ?_ (State.setCh_keeps _ _ _ _) rfl
    exact h1
  clear_value x2
  refine K.step ?_ (State.setFlag_keeps _ _ _ _) rfl
  refine K.step ?_ (State.setFlag_keeps _ _ _ _) rfl
  exact h3

theorem State.chRun_keeps : ∀ a0 a1 a2 a3 a4, K gS 50331652 a0 (State.chRun a0 a1 a2 a3 a4) := by
  intro a0 a1 a2 a3 a4
  unfold State.chRun
  extract_lets +onlyGivenNames -underBinder -merge -useContext x0
  have h1 : K gS 50331652 a0 x0 := by
    refine K.ite (fun _ => ?_) (fun _ => ?_)
    · refine K.step ?_ (State.setFlag_keeps _ _ _ _) rfl
      refine K.step ?_ (State.chClear_keeps _ _ _) rfl
      exact K.refl
    · refine K.step ?_ (State.chClear_keeps _ _ _) rfl
      exact K.refl
  clear_value x0
  extract_lets +onlyGivenNames -underBinder -merge -useContext x2
  have h3 : K gS 50331652 a0 x2 := by
    refine K.ite (fun _ => ?_) (fun _ => ?_)
    · refine K.step ?_ (State.modLdl_keeps _ _ _) rfl
      exact h1
    · exact h1
  clear_value x2
  refine K.step ?_ (State.setCh_keeps _ _ _ _) rfl
  refine K.step ?_ (State.setChPc_keeps _ _ _ _) rfl
  exact h3

theorem State.chStopReq_keeps : ∀ a0 a1 a2 a3, K gS 50331652 a0 (State.chStopReq a0 a1 a2 a3) := by
  intro a0 a1 a2 a3
  unfold State.chStopReq
  extract_lets +onlyGivenNames -underBinder -merge -useContext x0
  clear_value x0
  extract_lets +onlyGivenNames -underBinder -merge -useContext x1
  clear_value x1
  refine K.ite (fun _ => ?_) (fun _ => ?_)
  · refine K.ite (fun _ => ?_) (fun _ => ?_)
    · refine K.step ?_ (State.chStop_keeps _ _ _) rfl
      refine K.step ?_ (State.setChPc_keeps _ _ _ _) rfl
      exact K.refl
    · refine K.step ?_ (State.chStop_keeps _ _ _) rfl
      exact K.refl
  · refine K.ite (fun _ => ?_) (fun _ => ?_)
    · refine K.step ?_ (State.chStop_keeps _ _ _) rfl
      exact K.refl
    · refine K.ite (fun _ => ?_) (fun _ => ?_)
      · extract_lets +onlyGivenNames -underBinder -merge -useContext x2
        have h3 : K gS 50331652 a0 x2 := by
          refine K.step ?_ (State.setCh_keeps _ _ _ _) rfl
          refine K.step ?_ (State.modLdl_keeps _ _ _) rfl
          exact K.refl
        clear_value x2
        refine K.ite (fun _ => ?_) (fun _ => ?_)
        · refine K.step ?_ (State.setFlag_keeps _ _ _ _) rfl
          exact h3
        · exact h3
      · exact K.refl

theorem State.chWrote_keeps : ∀ a0 a1 a2 a3, K gS 16777220 a0 (State.chWrote a0 a1 a2 a3) := by
  intro a0 a1 a2 a3
  unfold State.chWrote
  extract_lets +onlyGivenNames -underBinder -merge -useContext x0
  clear_value x0
  extract_lets +onlyGivenNames -underBinder -merge -useContext x1
  clear_value x1
  refine K.step ?_ (State.bump_keeps _ _ _ _) rfl
  refine K.step ?_ (State.modLdl_keeps _ _ _) rfl
  exact K.refl

theorem State.cruRead_keeps : ∀ a0 a1 a2 a3 a4, K gO3 126 a0 (State.cruRead a0 a1 a2 a3 a4) := by
  intro a0 a1 a2 a3 a4
  unfold State.cruRead
  split
  · exact K.noneO3
  · refine K.ite (fun _ => ?_) (fun _ => ?_)
    · refine K.mkO3 ?_
      refine K.step ?_ (State.engRead_keeps _ _ _ _) rfl
      exact K.refl
    · exact K.noneO3

theorem State.moveRead_keeps : ∀ a0 a1 a2 a3 a4, K g2 126 a0 (State.moveRead a0 a1 a2 a3 a4) := by
  intro a0 a1 a2 a3 a4
  induction a4 generalizing a0 a1 a2 a3 with
  | nil =>
    rw [State.moveRead]
    refine K.mk2 ?_
    exact K.refl
  | cons e r ih =>
    rw [State.moveRead]
    split
    · refine K.mk2 ?_
      refine K.step ?_ (State.chMiss_keeps _ _ _ _ _ _) rfl
      exact K.refl
    · rename_i e1
      extract_lets +onlyGivenNames -underBinder -merge -useContext x2
      have h3 : K g2 126 a0 x2 := by
        refine K.step ?_ (ih _ _ _ _) rfl
        refine K.someO3S ?_ e1
        refine K.step ?_ (State.cruRead_keeps _ _ _ _ _) rfl
        exact K.refl
      clear_value x2
      refine K.mk2 ?_
      refine K.of2 ?_
      exact h3

theorem State.copyData_keeps : ∀ a0 a1 a2 a3 a4, K g2 126 a0 (State.copyData a0 a1 a2 a3 a4) := by
  intro a0 a1 a2 a3 a4
  unfold State.copyData
  extract_lets +onlyGivenNames -underBinder -merge -useContext x0
  clear_value x0
  extract_lets +onlyGivenNames -underBinder -merge -useContext x1
  clear_value x1
  refine K.ite (fun _ => ?_) (fun _ => ?_)
  · refine K.mk2 ?_
    exact K.refl
  · extract_lets +onlyGivenNames -underBinder -merge -useContext x2
    have h3 : K g2 126 a0 x2 := by
      refine K.step ?_ (State.moveRead_keeps _ _ _ _ _) rfl
      exact K.refl
    clear_value x2
    extract_lets +onlyGivenNames -underBinder -merge -useContext x4
    clear_value x4
    extract_lets +onlyGivenNames -underBinder -merge -useContext x5
    clear_value x5
    refine K.mk2 ?_
    extract_lets +onlyGivenNames -underBinder -merge -useContext x6
    have h7 : K gS 126 a0 x6 := by
      refine K.of2 ?_
      exact h3
    clear_value x6
    refine K.upd2 ?_ rfl
    exact h7

theorem State.cruPoison_keeps : ∀ a0 a1 a2, K gS 8589934596 a0 (State.cruPoison a0 a1 a2) := by
  intro a0 a1 a2
  unfold State.cruPoison
  refine K.step ?_ (State.corrected_keeps _ _ _) rfl
  refine K.step ?_ (State.bump_keeps _ _ _ _) rfl
  refine K.step ?_ (State.setFlag_keeps _ _ _ _) rfl
  exact K.refl

theorem State.cruWrite_keeps : ∀ a0 a1 a2 a3 a4 a5, K gO 8606711934 a0 (State.cruWrite a0 a1 a2 a3 a4 a5) := by
  intro a0 a1 a2 a3 a4 a5
  unfold State.cruWrite
  split
  · exact K.noneO
  · refine K.ite (fun _ => ?_) (fun _ => ?_)
    · extract_lets +onlyGivenNames -underBinder -merge -useContext x2
      clear_value x2
      extract_lets +onlyGivenNames -underBinder -merge -useContext x3
      have h4 : K gS 8606711934 a0 x3 := by
        refine K.step ?_ (State.chWrote_keeps _ _ _ _) rfl
        refine K.step ?_ (State.logGpa_keeps _ _ _ _ _) rfl
        refine K.step ?_ (State.engWrite_keeps _ _ _ _ _) rfl
        exact K.refl
      clear_value x3
      refine K.mkO ?_
      refine K.ite (fun _ => ?_) (fun _ => ?_)
      · refine K.step ?_ (State.cruPoison_keeps _ _ _) rfl
        exact h4
      · exact h4
    · exact K.noneO

theorem State.cruWrites_keeps : ∀ a0 a1 a2 a3 a4 a5, K g1 8606711934 a0 (State.cruWrites a0 a1 a2 a3 a4 a5) := by
  intro a0 a1 a2 a3 a4 a5
  induction a5 generalizing a0 a1 a2 a3 a4 with
  | nil =>
    rw [State.cruWrites]
    refine K.mk1 ?_
    exact K.refl
  | cons e r ih =>
    rw [State.cruWrites]
    split
    · refine K.mk1 ?_
      refine K.step ?_ (State.chMiss_keeps _ _ _ _ _ _) rfl
      exact K.refl
    · rename_i e1
      refine K.step ?_ (ih _ _ _ _ _) rfl
      refine K.someO ?_ e1
      refine K.step ?_ (State.cruWrite_keeps _ _ _ _ _ _) rfl
      exact K.refl

theorem State.cruCorrected_keeps : ∀ a0 a1 a2, K gS 8589934596 a0 (State.cruCorrected a0 a1 a2) := by
  intro a0 a1 a2
  unfold State.cruCorrected
  refine K.foldl ?_ (fun y0 a1 h2 => ?_)
  · exact K.refl
  · refine K.ite (fun _ => ?_) (fun _ => ?_)
    · refine K.step ?_ (State.corrected_keeps _ _ _) rfl
      refine K.step ?_ (State.bump_keeps _ _ _ _) rfl
      exact h2
    · exact h2

theorem State.copyRun_keeps : ∀ a0 a1 a2 a3 a4 a5 a6, K g1 8606711934 a0 (State.copyRun a0 a1 a2 a3 a4 a5 a6) := by
  intro a0 a1 a2 a3 a4 a5 a6
  unfold State.copyRun
  extract_lets +onlyGivenNames -underBinder -merge -useContext x0
  clear_value x0
  extract_lets +onlyGivenNames -underBinder -merge -useContext x1
  clear_value x1
  extract_lets +onlyGivenNames -underBinder -merge -useContext x2
  have h3 : K g2 8606711934 a0 x2 := by
    refine K.step ?_ (State.copyData_keeps _ _ _ _ _) rfl
    exact K.refl
  clear_value x2
  extract_lets +onlyGivenNames -underBinder -merge -useContext x4
  clear_value x4
  extract_lets +onlyGivenNames -underBinder -merge -useContext x5
  have h6 : K gS 8606711934 a0 x5 := by
    refine K.step ?_ (State.cruCorrected_keeps _ _ _) rfl
    refine K.of2 ?_
    exact h3
  clear_value x5
  extract_lets +onlyGivenNames -underBinder -merge -useContext x7
  have h8 : K g1 8606711934 a0 x7 := by
    refine K.step ?_ (State.cruWrites_keeps _ _ _ _ _ _) rfl
    exact h6
  clear_value x7
  refine K.mk1 ?_
  refine K.of1 ?_
  exact h8

theorem State.dbErr_keeps : ∀ a0 a1 a2 a3, K gS 4 a0 (State.dbErr a0 a1 a2 a3) := by
  intro a0 a1 a2 a3
  unfold State.dbErr
  refine K.step ?_ (State.setFld_keeps _ _ _ _) rfl
  refine K.step ?_ (State.setFlag_keeps _ _ _ _) rfl
  exact K.refl

theorem State.ldlAbortAll_keeps : ∀ a0 a1, K gS 16777220 a0 (State.ldlAbortAll a0 a1) := by
  intro a0 a1
  unfold State.ldlAbortAll
  refine K.foldl ?_ (fun y0 a1 h2 => ?_)
  · exact K.refl
  · refine K.step ?_ (State.chAbort_keeps _ _ _ _) rfl
    exact h2

theorem State.ldlBegin_keeps {w : Nat} {s : State} : ∀ a0 a1 a2 a3 a4 a5, K gS w s a0 → (∀ y0, K gS w s (a5 y0)) → w &&& 2197818884 = 2197818884 → K gS w s (State.ldlBegin a0 a1 a2 a3 a4 a5) := by
  intro a0 a1 a2 a3 a4 a5 hs0 hs1 hw
  unfold State.ldlBegin
  refine K.ite (fun _ => ?_) (fun _ => ?_)
  · exact hs0
  · split
    · exact hs0
    · refine K.ite (fun _ => ?_) (fun _ => ?_)
      · refine K.step ?_ (State.chFail_keeps _ _ _ _ _) (sub_trans hw rfl)
        exact hs0
      · refine K.ite (fun _ => ?_) (fun _ => ?_)
        · exact hs1 _
        · exact hs0

theorem State.ldlCopyNow_keeps : ∀ a0 a1 a2 a3 a4, K gS 10787753598 a0 (State.ldlCopyNow a0 a1 a2 a3 a4) := by
  intro a0 a1 a2 a3 a4
  unfold State.ldlCopyNow
  extract_lets +onlyGivenNames -underBinder -merge -useContext x0
  clear_value x0
  extract_lets +onlyGivenNames -underBinder -merge -useContext x1
  have h2 : K g1 10787753598 a0 x1 := by
    refine K.step ?_ (State.copyRun_keeps _ _ _ _ _ _ _) rfl
    exact K.refl
  clear_value x1
  split
  · refine K.step ?_ (State.chFail_keeps _ _ _ _ _) rfl
    refine K.of1 ?_
    exact h2
  · refine K.ite (fun _ => ?_) (fun _ => ?_)
    · refine K.step ?_ (State.chFail_keeps _ _ _ _ _) rfl
      refine K.of1 ?_
      exact h2
    · refine K.step ?_ (State.chFail_keeps _ _ _ _ _) rfl
      refine K.of1 ?_
      exact h2
  · refine K.step ?_ (State.ldlDone_keeps _ _ _) rfl
    refine K.step ?_ (State.applySteps_keeps _ _ _ _) rfl
    refine K.of1 ?_
    exact h2

theorem State.ldlCopy_keeps : ∀ a0 a1 a2 a3 a4, K gS 10787753598 a0 (State.ldlCopy a0 a1 a2 a3 a4) := by
  intro a0 a1 a2 a3 a4
  unfold State.ldlCopy
  split
  · refine K.step ?_ (State.ldlCopyNow_keeps _ _ _ _ _) rfl
    exact K.refl
  · refine K.step ?_ (State.injTriggered_keeps _) rfl
    refine State.markInj_keeps _ _ ?_ ?_ rfl
    · exact K.refl
    · refine K.step ?_ (State.ldlCopyNow_keeps _ _ _ _ _) rfl
      exact K.refl

theorem State.ldlLoad_keeps : ∀ a0 a1 a2 a3 a4, K gS 2197819006 a0 (State.ldlLoad a0 a1 a2 a3 a4) := by
  intro a0 a1 a2 a3 a4
  unfold State.ldlLoad
  extract_lets +onlyGivenNames -underBinder -merge -useContext x0
  clear_value x0
  split
  · rename_i e1
    refine K.ite (fun _ => ?_) (fun _ => ?_)
    · refine K.step ?_ (State.chFail_keeps _ _ _ _ _) rfl
      refine K.someO3S ?_ e1
      refine K.step ?_ (State.cruRead_keeps _ _ _ _ _) rfl
      exact K.refl
    · refine K.step ?_ (State.ldlDone_keeps _ _ _) rfl
      refine K.step ?_ (State.setCr_keeps _ _ _ _ _) rfl
      refine K.someO3S ?_ e1
      refine K.step ?_ (State.cruRead_keeps _ _ _ _ _) rfl
      exact K.refl
  · rename_i e2
    refine K.step ?_ (State.chFail_keeps _ _ _ _ _) rfl
    refine K.step ?_ (State.chMiss_keeps _ _ _ _ _ _) rfl
    exact K.refl

theorem State.ldlUnmask_keeps : ∀ a0 a1 a2 a3, K gS 2147487236 a0 (State.ldlUnmask a0 a1 a2 a3) := by
  intro a0 a1 a2 a3
  unfold State.ldlUnmask
  refine K.foldl ?_ (fun y0 a1 h2 => ?_)
  · exact K.refl
  · extract_lets +onlyGivenNames -underBinder -merge -useContext x3
    clear_value x3
    extract_lets +onlyGivenNames -underBinder -merge -useContext x4
    have h5 : K gS 2147487236 a0 x4 := by
      refine K.step ?_ (State.setBit_keeps _ _ _ _) rfl
      exact h2
    clear_value x4
    refine K.ite (fun _ => ?_) (fun _ => ?_)
    · refine K.step ?_ (State.ldlVector_keeps _ _ _ _) rfl
      refine K.step ?_ (State.setBit_keeps _ _ _ _) rfl
      exact h5
    · exact h5

theorem State.ldlWrite_keeps : ∀ a0 a1 a2 a3 a4, K gS 10787753598 a0 (State.ldlWrite a0 a1 a2 a3 a4) := by
  intro a0 a1 a2 a3 a4
  unfold State.ldlWrite
  extract_lets +onlyGivenNames -underBinder -merge -useContext x0
  clear_value x0
  split
  · rename_i e1
    refine K.step ?_ (State.ldlDone_keeps _ _ _) rfl
    refine K.someO ?_ e1
    refine K.step ?_ (State.cruWrite_keeps _ _ _ _ _ _) rfl
    exact K.refl
  · rename_i e2
    refine K.step ?_ (State.chFail_keeps _ _ _ _ _) rfl
    refine K.step ?_ (State.chMiss_keeps _ _ _ _ _ _) rfl
    exact K.refl

theorem State.setReg2_keeps : ∀ a0 a1 a2 a3 a4, K gS 4 a0 (State.setReg2 a0 a1 a2 a3 a4) := by
  intro a0 a1 a2 a3 a4
  unfold State.setReg2
  refine K.step ?_ (State.chNext_keeps _ _ _) rfl
  refine K.step ?_ (State.setCr_keeps _ _ _ _ _) rfl
  exact K.refl

theorem State.signalFlag_keeps : ∀ a0 a1 a2 a3 a4, K gS 2197818884 a0 (State.signalFlag a0 a1 a2 a3 a4) := by
  intro a0 a1 a2 a3 a4
  unfold State.signalFlag
  extract_lets +onlyGivenNames -underBinder -merge -useContext x0
  clear_value x0
  refine K.ite (fun _ => ?_) (fun _ => ?_)
  · refine K.step ?_ (State.chNext_keeps _ _ _) rfl
    refine K.step ?_ (State.setFlags_keeps _ _ _ _) rfl
    exact K.refl
  · refine K.step ?_ (State.chFail_keeps _ _ _ _ _) rfl
    exact K.refl

theorem State.writeChcfg_keeps : ∀ a0 a1 a2 a3, K gS 50331652 a0 (State.writeChcfg a0 a1 a2 a3) := by
  intro a0 a1 a2 a3
  unfold State.writeChcfg
  extract_lets +onlyGivenNames -underBinder -merge -useContext x0
  clear_value x0
  extract_lets +onlyGivenNames -underBinder -merge -useContext x1
  clear_value x1
  extract_lets +onlyGivenNames -underBinder -merge -useContext x2
  clear_value x2
  extract_lets +onlyGivenNames -underBinder -merge -useContext x3
  have h4 : K gS 50331652 a0 x3 := by
    refine K.step ?_ (State.setReg_keeps _ _ _) rfl
    exact K.refl
  clear_value x3
  extract_lets +onlyGivenNames -underBinder -merge -useContext x5
  clear_value x5
  refine K.ite (fun _ => ?_) (fun _ => ?_)
  · extract_lets +onlyGivenNames -underBinder -merge -useContext x6
    have h7 : K gS 50331652 a0 x6 := by
      refine K.step ?_ (State.setReg_keeps _ _ _) rfl
      exact h4
    clear_value x6
    refine K.ite (fun _ => ?_) (fun _ => ?_)
    · exact h7
    · split
      · refine K.step ?_ (State.setFld_keeps _ _ _ _) rfl
        refine K.step ?_ (State.setFlag_keeps _ _ _ _) rfl
        exact h7
      · refine K.step ?_ (State.setCh_keeps _ _ _ _) rfl
        refine K.step ?_ (State.setFlag_keeps _ _ _ _) rfl
        exact h7
  · extract_lets +onlyGivenNames -underBinder -merge -useContext x10
    have h11 : K gS 50331652 a0 x10 := by
      refine K.ite (fun _ => ?_) (fun _ => ?_)
      · exact h4
      · refine K.step ?_ (State.setFlag_keeps _ _ _ _) rfl
        exact h4
    clear_value x10
    extract_lets +onlyGivenNames -underBinder -merge -useContext x12
    clear_value x12
    refine K.ite (fun _ => ?_) (fun _ => ?_)
    · refine K.ite (fun _ => ?_) (fun _ => ?_)
      · refine K.step ?_ (State.chOff_keeps _ _ _) rfl
        exact h11
      · extract_lets +onlyGivenNames -underBinder -merge -useContext x13
        have h14 : K gS 50331652 a0 x13 := by
          refine K.step ?_ (State.setFlag_keeps _ _ _ _) rfl
          exact h11
        clear_value x13
        refine K.ite (fun _ => ?_) (fun _ => ?_)
        · refine K.step ?_ (State.modLdl_keeps _ _ _) rfl
          exact h14
        · refine K.step ?_ (State.chAbort_keeps _ _ _ _) rfl
          exact h14
    · refine K.ite (fun _ => ?_) (fun _ => ?_)
      · extract_lets +onlyGivenNames -underBinder -merge -useContext x15
        have h16 : K gS 50331652 a0 x15 := by
          refine K.step ?_ (State.chAbort_keeps _ _ _ _) rfl
          exact h11
        clear_value x15
        refine K.ite (fun _ => ?_) (fun _ => ?_)
        · refine K.step ?_ (State.setFlag_keeps _ _ _ _) rfl
          exact h16
        · exact h16
      · refine K.ite (fun _ => ?_) (fun _ => ?_)
        · refine K.step ?_ (State.chStopReq_keeps _ _ _ _) rfl
          exact h11
        · exact h11

theorem State.writeDbcmd_keeps : ∀ a0 a1 a2 a3, K gS 50331652 a0 (State.writeDbcmd a0 a1 a2 a3) := by
  intro a0 a1 a2 a3
  unfold State.writeDbcmd
  extract_lets +onlyGivenNames -underBinder -merge -useContext x0
  clear_value x0
  extract_lets +onlyGivenNames -underBinder -merge -useContext x1
  clear_value x1
  refine K.ite (fun _ => ?_) (fun _ => ?_)
  · exact K.refl
  · refine K.ite (fun _ => ?_) (fun _ => ?_)
    · refine K.step ?_ (State.dbErr_keeps _ _ _ _) rfl
      exact K.refl
    · refine K.ite (fun _ => ?_) (fun _ => ?_)
      · refine K.step ?_ (State.dbErr_keeps _ _ _ _) rfl
        exact K.refl
      · refine K.ite (fun _ => ?_) (fun _ => ?_)
        · refine K.ite (fun _ => ?_) (fun _ => ?_)
          · refine K.step ?_ (State.setFlag_keeps _ _ _ _) rfl
            refine K.step ?_ (State.chRun_keeps _ _ _ _ _) rfl
            exact K.refl
          · refine K.step ?_ (State.dbErr_keeps _ _ _ _) rfl
            exact K.refl
        · refine K.ite (fun _ => ?_) (fun _ => ?_)
          · refine K.step ?_ (State.chStopReq_keeps _ _ _ _) rfl
            exact K.refl
          · refine K.ite (fun _ => ?_) (fun _ => ?_)
            · refine K.ite (fun _ => ?_) (fun _ => ?_)
              · refine K.step ?_ (State.chRun_keeps _ _ _ _ _) rfl
                exact K.refl
              · refine K.step ?_ (State.dbErr_keeps _ _ _ _) rfl
                exact K.refl
            · refine K.ite (fun _ => ?_) (fun _ => ?_)
              · refine K.step ?_ (State.modLdl_keeps _ _ _) rfl
                refine K.step ?_ (State.setFld_keeps _ _ _ _) rfl
                refine K.step ?_ (State.setCh_keeps _ _ _ _) rfl
                exact K.refl
              · refine K.step ?_ (State.dbErr_keeps _ _ _ _) rfl
                exact K.refl

theorem State.writeDbreg_keeps : ∀ a0 a1 a2 a3 a4 a5, K gS 4 a0 (State.writeDbreg a0 a1 a2 a3 a4 a5) := by
  intro a0 a1 a2 a3 a4 a5
  unfold State.writeDbreg
  extract_lets +onlyGivenNames -underBinder -merge -useContext x0
  clear_value x0
  refine K.ite (fun _ => ?_) (fun _ => ?_)
  · refine K.step ?_ (State.dbErr_keeps _ _ _ _) rfl
    exact K.refl
  · extract_lets +onlyGivenNames -underBinder -merge -useContext x1
    clear_value x1
    extract_lets +onlyGivenNames -underBinder -merge -useContext x2
    clear_value x2
    refine K.step ?_ (State.setReg_keeps _ _ _) rfl
    exact K.refl

theorem execAbortComplete_keeps : ∀ a0 a1 a2 a3, K gR 8640266366 a3 (execAbortComplete a0 a1 a2 a3) := by
  intro a0 a1 a2 a3
  unfold execAbortComplete
  extract_lets +onlyGivenNames -underBinder -merge -useContext x0
  clear_value x0
  refine K.mkR ?_
  refine K.ite (fun _ => ?_) (fun _ => ?_)
  · exact K.refl
  · extract_lets +onlyGivenNames -underBinder -merge -useContext x1
    have h2 : K gS 8640266366 a3 x1 := by
      dsimp -zeta only [x1]
      split
      · refine K.ite (fun _ => ?_) (fun _ => ?_)
        · refine K.of1 ?_
          refine K.step ?_ (State.copyRun_keeps _ _ _ _ _ _ _) rfl
          exact K.refl
        · refine K.ite (fun _ => ?_) (fun _ => ?_)
          · refine K.getD ?_ ?_
            · refine K.step ?_ (State.cruWrite_keeps _ _ _ _ _ _) rfl
              exact K.refl
            · exact K.refl
          · exact K.refl
      · exact K.refl
    clear_value x1
    refine K.ite (fun _ => ?_) (fun _ => ?_)
    · refine K.step ?_ (State.setFlag_keeps _ _ _ _) rfl
      refine K.step ?_ (State.chOff_keeps _ _ _) rfl
      exact h2
    · extract_lets +onlyGivenNames -underBinder -merge -useContext x5
      have h6 : K gS 8640266366 a3 x5 := by
        refine K.step ?_ (State.setFlag_keeps _ _ _ _) rfl
        refine K.step ?_ (State.chStop_keeps _ _ _) rfl
        exact h2
      clear_value x5
      refine K.step ?_ (State.setFlag_keeps _ _ _ _) rfl
      exact h6

theorem execChannelAbort_keeps : ∀ a0 a1 a2 a3, K gR 50331652 a3 (execChannelAbort a0 a1 a2 a3) := by
  intro a0 a1 a2 a3
  unfold execChannelAbort
  refine K.mkR ?_
  refine K.ite (fun _ => ?_) (fun _ => ?_)
  · refine K.step ?_ (State.writeChcfg_keeps _ _ _ _) rfl
    exact K.refl
  · exact K.refl

theorem execChannelDisable_keeps : ∀ a0 a1 a2 a3, K gR 50331652 a3 (execChannelDisable a0 a1 a2 a3) := by
  intro a0 a1 a2 a3
  unfold execChannelDisable
  refine K.mkR ?_
  refine K.ite (fun _ => ?_) (fun _ => ?_)
  · refine K.step ?_ (State.writeChcfg_keeps _ _ _ _) rfl
    exact K.refl
  · exact K.refl

theorem execChannelEnable_keeps : ∀ a0 a1 a2 a3, K gR 50331652 a3 (execChannelEnable a0 a1 a2 a3) := by
  intro a0 a1 a2 a3
  unfold execChannelEnable
  refine K.mkR ?_
  refine K.ite (fun _ => ?_) (fun _ => ?_)
  · refine K.step ?_ (State.writeChcfg_keeps _ _ _ _) rfl
    exact K.refl
  · exact K.refl

theorem execChannelEnterFlight_keeps : ∀ a0 a1, K gR 33554432 a1 (execChannelEnterFlight a0 a1) := by
  intro a0 a1
  unfold execChannelEnterFlight
  extract_lets +onlyGivenNames -underBinder -merge -useContext x0
  clear_value x0
  refine K.mkR ?_
  split
  · refine K.ite (fun _ => ?_) (fun _ => ?_)
    · refine K.step ?_ (State.setEng_keeps _ _ _) rfl
      exact K.refl
    · exact K.refl
  · exact K.refl

theorem execDbregWrite_keeps : ∀ a0 a1 a2 a3 a4 a5, K gR 4 a5 (execDbregWrite a0 a1 a2 a3 a4 a5) := by
  intro a0 a1 a2 a3 a4 a5
  unfold execDbregWrite
  refine K.mkR ?_
  refine K.ite (fun _ => ?_) (fun _ => ?_)
  · refine K.ite (fun _ => ?_) (fun _ => ?_)
    · refine K.step ?_ (State.writeDbreg_keeps _ _ _ _ _ _) rfl
      exact K.refl
    · refine K.step ?_ (State.writeDbreg_keeps _ _ _ _ _ _) rfl
      exact K.refl
  · exact K.refl

theorem execDoorbellClear_keeps : ∀ a0 a1 a2, K gR 50331652 a2 (execDoorbellClear a0 a1 a2) := by
  intro a0 a1 a2
  unfold execDoorbellClear
  refine K.mkR ?_
  refine K.ite (fun _ => ?_) (fun _ => ?_)
  · refine K.step ?_ (State.writeDbcmd_keeps _ _ _ _) rfl
    exact K.refl
  · exact K.refl

theorem execDoorbellResume_keeps : ∀ a0 a1 a2, K gR 50331652 a2 (execDoorbellResume a0 a1 a2) := by
  intro a0 a1 a2
  unfold execDoorbellResume
  refine K.mkR ?_
  refine K.ite (fun _ => ?_) (fun _ => ?_)
  · refine K.step ?_ (State.writeDbcmd_keeps _ _ _ _) rfl
    exact K.refl
  · exact K.refl

theorem execDoorbellStart_keeps : ∀ a0 a1 a2, K gR 50331652 a2 (execDoorbellStart a0 a1 a2) := by
  intro a0 a1 a2
  unfold execDoorbellStart
  refine K.mkR ?_
  refine K.ite (fun _ => ?_) (fun _ => ?_)
  · refine K.step ?_ (State.writeDbcmd_keeps _ _ _ _) rfl
    exact K.refl
  · exact K.refl

theorem execDoorbellStop_keeps : ∀ a0 a1 a2, K gR 50331652 a2 (execDoorbellStop a0 a1 a2) := by
  intro a0 a1 a2
  unfold execDoorbellStop
  refine K.mkR ?_
  refine K.ite (fun _ => ?_) (fun _ => ?_)
  · refine K.step ?_ (State.writeDbcmd_keeps _ _ _ _) rfl
    exact K.refl
  · exact K.refl

theorem execEndProgram_keeps : ∀ a0 a1 a2, K gR 2197818884 a2 (execEndProgram a0 a1 a2) := by
  intro a0 a1 a2
  unfold execEndProgram
  refine K.mkR ?_
  refine State.ldlBegin_keeps _ _ _ _ _ _ ?_ ?_ rfl
  · exact K.refl
  · intro y0
    extract_lets +onlyGivenNames -underBinder -merge -useContext x1
    have h2 : K gS 2197818884 a2 x1 := by
      refine K.step ?_ (State.setCh_keeps _ _ _ _) rfl
      refine K.step ?_ (State.modLdl_keeps _ _ _) rfl
      refine K.step ?_ (State.chClear_keeps _ _ _) rfl
      exact K.refl
    clear_value x1
    extract_lets +onlyGivenNames -underBinder -merge -useContext x3
    clear_value x3
    refine K.step ?_ (State.bump_keeps _ _ _ _) rfl
    refine K.step ?_ (State.setFld_keeps _ _ _ _) rfl
    exact h2

theorem execEventFlagWrite_keeps : ∀ a0 a1 a2 a3 a4, K gR 16777220 a4 (execEventFlagWrite a0 a1 a2 a3 a4) := by
  intro a0 a1 a2 a3 a4
  unfold execEventFlagWrite
  refine K.mkR ?_
  split
  · refine K.ite (fun _ => ?_) (fun _ => ?_)
    · refine K.step ?_ (State.setFlags_keeps _ _ _ _) rfl
      exact K.refl
    · exact K.refl
  · refine K.ite (fun _ => ?_) (fun _ => ?_)
    · refine K.step ?_ (State.setFlags_keeps _ _ _ _) rfl
      exact K.refl
    · exact K.refl

theorem execFill_keeps : ∀ a0 a1 a2, K gR 2197818884 a2 (execFill a0 a1 a2) := by
  intro a0 a1 a2
  unfold execFill
  refine K.mkR ?_
  refine State.ldlBegin_keeps _ _ _ _ _ _ ?_ ?_ rfl
  · exact K.refl
  · intro y0
    refine K.step ?_ (State.beginCopy_keeps _ _ _ _ _) rfl
    exact K.refl

theorem execLadleInstructionComplete_keeps : ∀ a0 a1 a2 a3, K gR 10787753598 a3 (execLadleInstructionComplete a0 a1 a2 a3) := by
  intro a0 a1 a2 a3
  unfold execLadleInstructionComplete
  extract_lets +onlyGivenNames -underBinder -merge -useContext x0
  clear_value x0
  refine K.mkR ?_
  split
  · exact K.refl
  · refine K.ite (fun _ => ?_) (fun _ => ?_)
    · exact K.refl
    · refine K.ite (fun _ => ?_) (fun _ => ?_)
      · refine K.step ?_ (State.ldlWrite_keeps _ _ _ _ _) rfl
        exact K.refl
      · refine K.ite (fun _ => ?_) (fun _ => ?_)
        · refine K.step ?_ (State.ldlLoad_keeps _ _ _ _ _) rfl
          exact K.refl
        · refine K.ite (fun _ => ?_) (fun _ => ?_)
          · refine K.step ?_ (State.ldlCopy_keeps _ _ _ _ _) rfl
            exact K.refl
          · exact K.refl

theorem execLoop_keeps : ∀ a0 a1 a2, K gR 2197818884 a2 (execLoop a0 a1 a2) := by
  intro a0 a1 a2
  unfold execLoop
  refine K.mkR ?_
  refine State.ldlBegin_keeps _ _ _ _ _ _ ?_ ?_ rfl
  · exact K.refl
  · intro y0
    extract_lets +onlyGivenNames -underBinder -merge -useContext x1
    clear_value x1
    extract_lets +onlyGivenNames -underBinder -merge -useContext x2
    clear_value x2
    extract_lets +onlyGivenNames -underBinder -merge -useContext x3
    clear_value x3
    split
    · refine K.step ?_ (State.chFail_keeps _ _ _ _ _) rfl
      exact K.refl
    · refine K.step ?_ (State.chJump_keeps _ _ _ _) rfl
      exact K.refl
    · refine K.ite (fun _ => ?_) (fun _ => ?_)
      · refine K.step ?_ (State.chFail_keeps _ _ _ _ _) rfl
        exact K.refl
      · refine K.step ?_ (State.chNext_keeps _ _ _) rfl
        refine K.step ?_ (State.setLdl_keeps _ _ _) rfl
        exact K.refl

theorem execManagerStop_keeps : ∀ a0 a1 a2 a3, K gR 50331652 a3 (execManagerStop a0 a1 a2 a3) := by
  intro a0 a1 a2 a3
  unfold execManagerStop
  refine K.mkR ?_
  refine K.ite (fun _ => ?_) (fun _ => ?_)
  · refine K.step ?_ (State.writeChcfg_keeps _ _ _ _) rfl
    exact K.refl
  · exact K.refl

theorem execMove_keeps : ∀ a0 a1 a2, K gR 2197818884 a2 (execMove a0 a1 a2) := by
  intro a0 a1 a2
  unfold execMove
  refine K.mkR ?_
  refine State.ldlBegin_keeps _ _ _ _ _ _ ?_ ?_ rfl
  · exact K.refl
  · intro y0
    refine K.step ?_ (State.beginCopy_keeps _ _ _ _ _) rfl
    exact K.refl

theorem execNext_keeps : ∀ a0 a1 a2, K gR 2197818884 a2 (execNext a0 a1 a2) := by
  intro a0 a1 a2
  unfold execNext
  refine K.mkR ?_
  refine State.ldlBegin_keeps _ _ _ _ _ _ ?_ ?_ rfl
  · exact K.refl
  · intro y0
    extract_lets +onlyGivenNames -underBinder -merge -useContext x1
    clear_value x1
    split
    · refine K.ite (fun _ => ?_) (fun _ => ?_)
      · refine K.step ?_ (State.chFail_keeps _ _ _ _ _) rfl
        exact K.refl
      · refine K.ite (fun _ => ?_) (fun _ => ?_)
        · refine K.step ?_ (State.chJump_keeps _ _ _ _) rfl
          refine K.step ?_ (State.setLdl_keeps _ _ _) rfl
          exact K.refl
        · refine K.step ?_ (State.chNext_keeps _ _ _) rfl
          refine K.step ?_ (State.setLdl_keeps _ _ _) rfl
          exact K.refl
    · refine K.step ?_ (State.chFail_keeps _ _ _ _ _) rfl
      exact K.refl

theorem execProgramFetch_keeps : ∀ a0 a1 a2 a3, K gR 2197819006 a3 (execProgramFetch a0 a1 a2 a3) := by
  intro a0 a1 a2 a3
  unfold execProgramFetch
  extract_lets +onlyGivenNames -underBinder -merge -useContext x0
  clear_value x0
  extract_lets +onlyGivenNames -underBinder -merge -useContext x1
  clear_value x1
  refine K.mkR ?_
  refine K.ite (fun _ => ?_) (fun _ => ?_)
  · exact K.refl
  · split
    · refine K.step ?_ (State.chFail_keeps _ _ _ _ _) rfl
      exact K.refl
    · refine K.ite (fun _ => ?_) (fun _ => ?_)
      · refine K.step ?_ (State.chFail_keeps _ _ _ _ _) rfl
        refine K.step ?_ (State.chMiss_keeps _ _ _ _ _ _) rfl
        exact K.refl
      · extract_lets +onlyGivenNames -underBinder -merge -useContext x4
        have h5 : K g3 2197819006 a3 x4 := by
          refine K.step ?_ (State.engRead_keeps _ _ _ _) rfl
          exact K.refl
        clear_value x4
        refine K.ite (fun _ => ?_) (fun _ => ?_)
        · refine K.step ?_ (State.chFail_keeps _ _ _ _ _) rfl
          refine K.of3 ?_
          exact h5
        · refine K.step ?_ (State.modLdl_keeps _ _ _) rfl
          refine K.of3 ?_
          exact h5

theorem execSetAdd_keeps : ∀ a0 a1 a2, K gR 2197818884 a2 (execSetAdd a0 a1 a2) := by
  intro a0 a1 a2
  unfold execSetAdd
  refine K.mkR ?_
  refine State.ldlBegin_keeps _ _ _ _ _ _ ?_ ?_ rfl
  · exact K.refl
  · intro y0
    refine K.step ?_ (State.setReg2_keeps _ _ _ _ _) rfl
    exact K.refl

theorem execSetAnd_keeps : ∀ a0 a1 a2, K gR 2197818884 a2 (execSetAnd a0 a1 a2) := by
  intro a0 a1 a2
  unfold execSetAnd
  refine K.mkR ?_
  refine State.ldlBegin_keeps _ _ _ _ _ _ ?_ ?_ rfl
  · exact K.refl
  · intro y0
    refine K.step ?_ (State.setReg2_keeps _ _ _ _ _) rfl
    exact K.refl

theorem execSetImm_keeps : ∀ a0 a1 a2, K gR 2197818884 a2 (execSetImm a0 a1 a2) := by
  intro a0 a1 a2
  unfold execSetImm
  refine K.mkR ?_
  refine State.ldlBegin_keeps _ _ _ _ _ _ ?_ ?_ rfl
  · exact K.refl
  · intro y0
    refine K.step ?_ (State.setReg2_keeps _ _ _ _ _) rfl
    exact K.refl

theorem execSetLoad_keeps : ∀ a0 a1 a2, K gR 2197818884 a2 (execSetLoad a0 a1 a2) := by
  intro a0 a1 a2
  unfold execSetLoad
  refine K.mkR ?_
  refine State.ldlBegin_keeps _ _ _ _ _ _ ?_ ?_ rfl
  · exact K.refl
  · intro y0
    refine K.ite (fun _ => ?_) (fun _ => ?_)
    · refine K.step ?_ (State.chFail_keeps _ _ _ _ _) rfl
      exact K.refl
    · refine K.step ?_ (State.beginAccess_keeps _ _ _ _ _ _) rfl
      exact K.refl

theorem execSetXor_keeps : ∀ a0 a1 a2, K gR 2197818884 a2 (execSetXor a0 a1 a2) := by
  intro a0 a1 a2
  unfold execSetXor
  refine K.mkR ?_
  refine State.ldlBegin_keeps _ _ _ _ _ _ ?_ ?_ rfl
  · exact K.refl
  · intro y0
    refine K.step ?_ (State.setReg2_keeps _ _ _ _ _) rfl
    exact K.refl

theorem execSignalClrf_keeps : ∀ a0 a1 a2, K gR 2197818884 a2 (execSignalClrf a0 a1 a2) := by
  intro a0 a1 a2
  unfold execSignalClrf
  refine K.mkR ?_
  refine State.ldlBegin_keeps _ _ _ _ _ _ ?_ ?_ rfl
  · exact K.refl
  · intro y0
    refine K.step ?_ (State.signalFlag_keeps _ _ _ _ _) rfl
    exact K.refl

theorem execSignalSetf_keeps : ∀ a0 a1 a2, K gR 2197818884 a2 (execSignalSetf a0 a1 a2) := by
  intro a0 a1 a2
  unfold execSignalSetf
  refine K.mkR ?_
  refine State.ldlBegin_keeps _ _ _ _ _ _ ?_ ?_ rfl
  · exact K.refl
  · intro y0
    refine K.step ?_ (State.signalFlag_keeps _ _ _ _ _) rfl
    exact K.refl

theorem execSignalVector_keeps : ∀ a0 a1 a2, K gR 2197818884 a2 (execSignalVector a0 a1 a2) := by
  intro a0 a1 a2
  unfold execSignalVector
  refine K.mkR ?_
  refine State.ldlBegin_keeps _ _ _ _ _ _ ?_ ?_ rfl
  · exact K.refl
  · intro y0
    refine K.step ?_ (State.chNext_keeps _ _ _) rfl
    refine K.step ?_ (State.ldlVector_keeps _ _ _ _) rfl
    exact K.refl

theorem execSignalWrite_keeps : ∀ a0 a1 a2, K gR 2197818884 a2 (execSignalWrite a0 a1 a2) := by
  intro a0 a1 a2
  unfold execSignalWrite
  refine K.mkR ?_
  refine State.ldlBegin_keeps _ _ _ _ _ _ ?_ ?_ rfl
  · exact K.refl
  · intro y0
    refine K.ite (fun _ => ?_) (fun _ => ?_)
    · refine K.step ?_ (State.chFail_keeps _ _ _ _ _) rfl
      exact K.refl
    · refine K.step ?_ (State.beginAccess_keeps _ _ _ _ _ _) rfl
      exact K.refl

theorem execStoptmoExpire_keeps : ∀ a0 a1 a2, K gR 16777220 a2 (execStoptmoExpire a0 a1 a2) := by
  intro a0 a1 a2
  unfold execStoptmoExpire
  refine K.mkR ?_
  refine K.ite (fun _ => ?_) (fun _ => ?_)
  · refine K.step ?_ (State.chAbort_keeps _ _ _ _) rfl
    exact K.refl
  · exact K.refl

theorem execTtLadle_keeps : ∀ a0 a1 a2, K gR 56623108 a2 (execTtLadle a0 a1 a2) := by
  intro a0 a1 a2
  unfold execTtLadle
  extract_lets +onlyGivenNames -underBinder -merge -useContext x0
  have h1 : K g2 56623108 a2 x0 := by
    refine K.step ?_ (State.ttNext_keeps _ _ _ _) rfl
    exact K.refl
  clear_value x0
  refine K.mkR ?_
  split
  · refine K.of2 ?_
    exact h1
  · extract_lets +onlyGivenNames -underBinder -merge -useContext x4
    have h5 : K gS 56623108 a2 x4 := by
      refine K.of2 ?_
      exact h1
    clear_value x4
    extract_lets +onlyGivenNames -underBinder -merge -useContext x6
    clear_value x6
    extract_lets +onlyGivenNames -underBinder -merge -useContext x7
    clear_value x7
    extract_lets +onlyGivenNames -underBinder -merge -useContext x8
    clear_value x8
    refine K.ite (fun _ => ?_) (fun _ => ?_)
    · refine K.step ?_ (State.seqIgnored_keeps _ _) rfl
      exact h5
    · refine K.ite (fun _ => ?_) (fun _ => ?_)
      · refine K.step ?_ (State.setFlag_keeps _ _ _ _) rfl
        refine K.step ?_ (State.chRun_keeps _ _ _ _ _) rfl
        exact h5
      · refine K.step ?_ (State.bump_keeps _ _ _ _) rfl
        exact h5

theorem execVectorUnmask_keeps : ∀ a0 a1 a2 a3 a4, K gR 2147487236 a4 (execVectorUnmask a0 a1 a2 a3 a4) := by
  intro a0 a1 a2 a3 a4
  unfold execVectorUnmask
  refine K.mkR ?_
  refine K.ite (fun _ => ?_) (fun _ => ?_)
  · refine K.ite (fun _ => ?_) (fun _ => ?_)
    · refine K.step ?_ (State.ldlUnmask_keeps _ _ _ _) rfl
      exact K.refl
    · exact K.refl
  · refine K.ite (fun _ => ?_) (fun _ => ?_)
    · refine K.step ?_ (State.fnUnmask_keeps _ _ _ _) rfl
      exact K.refl
    · exact K.refl

theorem execWait_keeps : ∀ a0 a1 a2, K gR 2197818884 a2 (execWait a0 a1 a2) := by
  intro a0 a1 a2
  unfold execWait
  refine K.mkR ?_
  refine State.ldlBegin_keeps _ _ _ _ _ _ ?_ ?_ rfl
  · exact K.refl
  · intro y0
    extract_lets +onlyGivenNames -underBinder -merge -useContext x1
    clear_value x1
    extract_lets +onlyGivenNames -underBinder -merge -useContext x2
    have h3 : ∀ y4, K gS 2197818884 a2 y4 → K gS 2197818884 a2 (x2 y4) := by
      intro y4 h5
      dsimp -zeta only [x2]
      split
      · refine K.step ?_ (State.setBit_keeps _ _ _ _) rfl
        exact h5
      · exact h5
    clear_value x2
    extract_lets +onlyGivenNames -underBinder -merge -useContext x8
    clear_value x8
    refine K.ite (fun _ => ?_) (fun _ => ?_)
    · refine K.step ?_ (State.chFail_keeps _ _ _ _ _) rfl
      exact K.refl
    · refine K.ite (fun _ => ?_) (fun _ => ?_)
      · refine K.step ?_ (State.chNext_keeps _ _ _) rfl
        refine h3 _ ?_
        exact K.refl
      · refine K.step ?_ (State.setCh_keeps _ _ _ _) rfl
        refine K.step ?_ (State.modLdl_keeps _ _ _) rfl
        exact K.refl

theorem execWaitMet_keeps : ∀ a0 a1 a2, K gR 16777220 a2 (execWaitMet a0 a1 a2) := by
  intro a0 a1 a2
  unfold execWaitMet
  extract_lets +onlyGivenNames -underBinder -merge -useContext x0
  clear_value x0
  refine K.mkR ?_
  split
  · exact K.refl
  · extract_lets +onlyGivenNames -underBinder -merge -useContext x3
    clear_value x3
    refine K.ite (fun _ => ?_) (fun _ => ?_)
    · refine K.step ?_ (State.chNext_keeps _ _ _) rfl
      refine K.step ?_ (State.setCh_keeps _ _ _ _) rfl
      refine K.step ?_ (State.modLdl_keeps _ _ _) rfl
      exact K.refl
    · exact K.refl

end Sys2Proof.Machine
end

