-- ==== Sys2Proof/Laws/KeepsEbb.lean ====
section
/-!
SUPPORT. What each function and each command of Machine/Ebb.lean, Machine/Survive.lean, Machine/Power.lean can change (Laws/Keeps.lean), one lemma each.
-/
namespace Sys2Proof.Machine

theorem State.ebbFlush_keeps : ∀ a0 a1, K gS 126 a0 (State.ebbFlush a0 a1) := by
  intro a0 a1
  unfold State.ebbFlush
  extract_lets +onlyGivenNames -underBinder -merge -useContext x0
  clear_value x0
  split
  · refine K.step ?_ (State.flushCore_keeps _ _) rfl
    exact K.refl
  · refine K.step ?_ (State.flushSlice_keeps _ _) rfl
    exact K.refl
  · exact K.refl

theorem State.ebbAdvance_keeps : ∀ a0 a1, K gS 1662 a0 (State.ebbAdvance a0 a1) := by
  intro a0 a1
  unfold State.ebbAdvance
  extract_lets +onlyGivenNames -underBinder -merge -useContext x0
  clear_value x0
  refine K.ite (fun _ => ?_) (fun _ => ?_)
  · refine K.step ?_ (State.broadcast_keeps _ _ _) rfl
    refine K.step ?_ (State.setEp_keeps _ _ _) rfl
    refine K.step ?_ (State.ebbFlush_keeps _ _) rfl
    exact K.refl
  · exact K.refl

theorem State.endPebb_keeps : ∀ a0 a1, K gS 8196 a0 (State.endPebb a0 a1) := by
  intro a0 a1
  unfold State.endPebb
  extract_lets +onlyGivenNames -underBinder -merge -useContext x0
  have h1 : K gS 8196 a0 x0 := by
    refine K.step ?_ (State.setFlag_keeps _ _ _ _) rfl
    refine K.step ?_ (State.setFlag_keeps _ _ _ _) rfl
    exact K.refl
  clear_value x0
  refine K.upd8192 ?_ rfl
  exact h1

theorem State.killUnit_keeps : ∀ a0 a1 a2, K gS 8589935140 a0 (State.killUnit a0 a1 a2) := by
  intro a0 a1 a2
  unfold State.killUnit
  extract_lets +onlyGivenNames -underBinder -merge -useContext x0
  have h1 : K gS 8589935140 a0 x0 := by
    refine K.step ?_ (State.kill_keeps _ _ _) rfl
    exact K.refl
  clear_value x0
  refine K.ite (fun _ => ?_) (fun _ => ?_)
  · refine K.step ?_ (State.degrade_keeps _ _) rfl
    exact h1
  · exact h1

theorem State.startEbb_keeps : ∀ a0 a1, K gS 16778878 a0 (State.startEbb a0 a1) := by
  intro a0 a1
  unfold State.startEbb
  refine K.ite (fun _ => ?_) (fun _ => ?_)
  · exact K.refl
  · refine K.ite (fun _ => ?_) (fun _ => ?_)
    · refine K.step ?_ (State.setFlag_keeps _ _ _ _) rfl
      exact K.refl
    · refine K.ite (fun _ => ?_) (fun _ => ?_)
      · exact K.refl
      · extract_lets +onlyGivenNames -underBinder -merge -useContext x0
        clear_value x0
        extract_lets +onlyGivenNames -underBinder -merge -useContext x1
        have h2 : K gS 16778878 a0 x1 := by
          refine K.step ?_ (State.setEp_keeps _ _ _) rfl
          refine K.step ?_ (State.setFlag_keeps _ _ _ _) rfl
          refine K.step ?_ (State.setEpState_keeps _ _ _) rfl
          exact K.refl
        clear_value x1
        extract_lets +onlyGivenNames -underBinder -merge -useContext x3
        have h4 : K gS 16778878 a0 x3 := by
          refine K.ite (fun _ => ?_) (fun _ => ?_)
          · refine K.step ?_ (State.ldlAbortAll_keeps _ _) rfl
            exact h2
          · exact h2
        clear_value x3
        refine K.step ?_ (State.ebbAdvance_keeps _ _) rfl
        exact h4

theorem State.startPebb_keeps : ∀ a0 a1, K gS 8196 a0 (State.startPebb a0 a1) := by
  intro a0 a1
  unfold State.startPebb
  extract_lets +onlyGivenNames -underBinder -merge -useContext x0
  clear_value x0
  refine K.ite (fun _ => ?_) (fun _ => ?_)
  · exact K.refl
  · extract_lets +onlyGivenNames -underBinder -merge -useContext x1
    have h2 : K gS 8196 a0 x1 := by
      refine K.step ?_ (State.setFlag_keeps _ _ _ _) rfl
      refine K.step ?_ (State.setFld_keeps _ _ _ _) rfl
      exact K.refl
    clear_value x1
    refine K.upd8192 ?_ rfl
    exact h2

theorem execDeclare_keeps : ∀ a0 a1, K gR 8589935140 a1 (execDeclare a0 a1) := by
  intro a0 a1
  unfold execDeclare
  refine K.mkR ?_
  refine K.ite (fun _ => ?_) (fun _ => ?_)
  · refine K.step ?_ (State.killUnit_keeps _ _ _) rfl
    exact K.refl
  · exact K.refl

theorem execEbb_keeps : ∀ a0 a1, K gR 16778878 a1 (execEbb a0 a1) := by
  intro a0 a1
  unfold execEbb
  refine K.mkR ?_
  refine K.step ?_ (State.startEbb_keeps _ _) rfl
  exact K.refl

theorem execEbbTimeout_keeps : ∀ a0 a1, K gR 8589935140 a1 (execEbbTimeout a0 a1) := by
  intro a0 a1
  unfold execEbbTimeout
  refine K.mkR ?_
  refine K.ite (fun _ => ?_) (fun _ => ?_)
  · refine K.step ?_ (State.killUnit_keeps _ _ _) rfl
    exact K.refl
  · exact K.refl

theorem execFenceMapBroadcast_keeps : ∀ a0 a1 a2 a3, K gR 2147491454 a3 (execFenceMapBroadcast a0 a1 a2 a3) := by
  intro a0 a1 a2 a3
  unfold execFenceMapBroadcast
  extract_lets +onlyGivenNames -underBinder -merge -useContext x0
  clear_value x0
  refine K.mkR ?_
  refine K.ite (fun _ => ?_) (fun _ => ?_)
  · extract_lets +onlyGivenNames -underBinder -merge -useContext x1
    clear_value x1
    extract_lets +onlyGivenNames -underBinder -merge -useContext x2
    clear_value x2
    extract_lets +onlyGivenNames -underBinder -merge -useContext x3
    have h4 : K gS 2147491454 a3 x3 := by
      refine K.step ?_ (State.setRouter_keeps _ _ _) rfl
      refine K.step ?_ (State.recv_keeps _ _) rfl
      exact K.refl
    clear_value x3
    refine K.ite (fun _ => ?_) (fun _ => ?_)
    · refine K.step ?_ (State.settle_keeps _) rfl
      exact h4
    · exact h4
  · refine K.ite (fun _ => ?_) (fun _ => ?_)
    · refine K.step ?_ (State.ebbAdvance_keeps _ _) rfl
      exact K.refl
    · exact K.refl

theorem execMarkerArrive_keeps : ∀ a0 a1 a2 a3, K gR 1540 a3 (execMarkerArrive a0 a1 a2 a3) := by
  intro a0 a1 a2 a3
  unfold execMarkerArrive
  extract_lets +onlyGivenNames -underBinder -merge -useContext x0
  clear_value x0
  refine K.mkR ?_
  refine K.ite (fun _ => ?_) (fun _ => ?_)
  · extract_lets +onlyGivenNames -underBinder -merge -useContext x1
    have h2 : K gS 1540 a3 x1 := by
      refine K.step ?_ (State.recv_keeps _ _) rfl
      exact K.refl
    clear_value x1
    extract_lets +onlyGivenNames -underBinder -merge -useContext x3
    clear_value x3
    refine K.ite (fun _ => ?_) (fun _ => ?_)
    · exact h2
    · refine K.ite (fun _ => ?_) (fun _ => ?_)
      · refine K.step ?_ (State.setEp_keeps _ _ _) rfl
        exact h2
      · refine K.step ?_ (State.setFlag_keeps _ _ _ _) rfl
        refine K.step ?_ (State.setEpState_keeps _ _ _) rfl
        refine K.step ?_ (State.setEp_keeps _ _ _) rfl
        exact h2
  · exact K.refl

theorem execMarkerSend_keeps : ∀ a0 a1 a2, K gR 4608 a2 (execMarkerSend a0 a1 a2) := by
  intro a0 a1 a2
  unfold execMarkerSend
  extract_lets +onlyGivenNames -underBinder -merge -useContext x0
  clear_value x0
  refine K.mkR ?_
  refine K.ite (fun _ => ?_) (fun _ => ?_)
  · refine K.step ?_ (State.sendAll_keeps _ _) rfl
    refine K.step ?_ (State.setRouter_keeps _ _ _) rfl
    exact K.refl
  · exact K.refl

theorem execPartitionEbbDone_keeps : ∀ a0, K gR 8196 a0 (execPartitionEbbDone a0) := by
  intro a0
  unfold execPartitionEbbDone
  refine K.mkR ?_
  split
  · refine K.ite (fun _ => ?_) (fun _ => ?_)
    · refine K.step ?_ (State.endPebb_keeps _ _) rfl
      exact K.refl
    · exact K.refl
  · exact K.refl

theorem execPartitionEbbStart_keeps : ∀ a0 a1, K gR 8196 a1 (execPartitionEbbStart a0 a1) := by
  intro a0 a1
  unfold execPartitionEbbStart
  refine K.mkR ?_
  refine K.step ?_ (State.startPebb_keeps _ _) rfl
  exact K.refl

theorem execPartitionEbbTimeout_keeps : ∀ a0, K gR 8589942788 a0 (execPartitionEbbTimeout a0) := by
  intro a0
  unfold execPartitionEbbTimeout
  refine K.mkR ?_
  split
  · extract_lets +onlyGivenNames -underBinder -merge -useContext x1
    clear_value x1
    refine K.foldl ?_ (fun y2 a3 h4 => ?_)
    · refine K.step ?_ (State.endPebb_keeps _ _) rfl
      exact K.refl
    · refine K.step ?_ (State.detect_keeps _ _) rfl
      exact h4
  · exact K.refl

theorem execReopen_keeps : ∀ a0 a1, K gR 1540 a1 (execReopen a0 a1) := by
  intro a0 a1
  unfold execReopen
  refine K.mkR ?_
  refine K.step ?_ (State.reopen_keeps _ _) rfl
  exact K.refl

theorem execResponseTimeout_keeps : ∀ a0 a1, K gR 8589935140 a1 (execResponseTimeout a0 a1) := by
  intro a0 a1
  unfold execResponseTimeout
  refine K.mkR ?_
  refine K.ite (fun _ => ?_) (fun _ => ?_)
  · refine K.step ?_ (State.killUnit_keeps _ _ _) rfl
    exact K.refl
  · exact K.refl

theorem State.keepSaved_keeps {w : Nat} {s : State} : ∀ a0 a1 a2, K gS w s a0 → K gS w s a1 → w &&& 4 = 4 → K gS w s (State.keepSaved a0 a1 a2) := by
  intro a0 a1 a2 hs0 hs1 hw
  unfold State.keepSaved
  refine K.step ?_ (State.setFlag_keeps _ _ _ _) (sub_trans hw rfl)
  exact hs0

theorem State.chipClear_keeps : ∀ a0 a1, K gS 41875931132 a0 (State.chipClear a0 a1) := by
  intro a0 a1
  unfold State.chipClear
  extract_lets +onlyGivenNames -underBinder -merge -useContext x0
  clear_value x0
  extract_lets +onlyGivenNames -underBinder -merge -useContext x1
  have h2 : K gS 41875931132 a0 x1 :=
    K.of ⟨fun p hp => by cases p <;> first | rfl | exact absurd hp (by decide), fun c => ⟨Tbl.wf_filter _ _ _ c.1, Tbl.wf_filter _ _ _ c.2⟩⟩
  clear_value x1
  refine K.step ?_ (State.setFlag_keeps _ _ _ _) rfl
  refine K.foldl ?_ (fun y5 a6 h7 => ?_)
  · exact h2
  · exact State.keepSaved_keeps _ _ _ h7 K.refl rfl

theorem State.clearRegs_keeps : ∀ a0 a1, K gS 4 a0 (State.clearRegs a0 a1) := by
  intro a0 a1
  exact K.of ⟨fun p hp => by cases p <;> first | rfl | exact absurd hp (by decide), fun c => ⟨c.1, Tbl.wf_filter _ _ _ c.2⟩⟩

theorem State.cutFuse_keeps : ∀ a0 a1, K gS 3 a0 (State.cutFuse a0 a1) := by
  intro a0 a1
  unfold State.cutFuse
  split
  · exact K.refl
  · extract_lets +onlyGivenNames -underBinder -merge -useContext x2
    have h3 : K g2 3 a0 x2 := by
      refine K.step ?_ (State.choose_keeps _ _) rfl
      exact K.refl
    clear_value x2
    extract_lets +onlyGivenNames -underBinder -merge -useContext x4
    clear_value x4
    refine K.ite (fun _ => ?_) (fun _ => ?_)
    · refine K.of2 ?_
      exact h3
    · refine K.ite (fun _ => ?_) (fun _ => ?_)
      · extract_lets +onlyGivenNames -underBinder -merge -useContext x5
        have h6 : K gS 3 a0 x5 := by
          refine K.of2 ?_
          exact h3
        clear_value x5
        refine K.upd1 ?_ rfl
        exact h6
      · extract_lets +onlyGivenNames -underBinder -merge -useContext x7
        have h8 : K gS 3 a0 x7 := by
          refine K.of2 ?_
          exact h3
        clear_value x7
        refine K.upd1 ?_ rfl
        exact h8

theorem State.resetUnit_keeps : ∀ a0 a1, K gS 6777896186 a0 (State.resetUnit a0 a1) := by
  intro a0 a1
  unfold State.resetUnit
  refine K.ite (fun _ => ?_) (fun _ => ?_)
  · refine K.step ?_ (State.regenKeys_keeps _ _ _) rfl
    refine K.step ?_ (State.zeroRange_keeps _ _ _) rfl
    refine K.upd6442450976 ?_ rfl
    exact K.refl
  · refine K.ite (fun _ => ?_) (fun _ => ?_)
    · refine K.step ?_ (State.zeroRange_keeps _ _ _) rfl
      refine K.upd64 ?_ rfl
      exact K.refl
    · refine K.ite (fun _ => ?_) (fun _ => ?_)
      · extract_lets +onlyGivenNames -underBinder -merge -useContext x0
        clear_value x0
        extract_lets +onlyGivenNames -underBinder -merge -useContext x1
        clear_value x1
        extract_lets +onlyGivenNames -underBinder -merge -useContext x2
        have h3 : K gS 6777896186 a0 x2 := by
          refine K.step ?_ (State.setChan_keeps _ _ _) rfl
          exact K.refl
        clear_value x2
        refine K.ite (fun _ => ?_) (fun _ => ?_)
        · exact h3
        · refine K.step ?_ (State.loseChannel_keeps _ _) rfl
          exact h3
      · refine K.ite (fun _ => ?_) (fun _ => ?_)
        · refine K.upd131072 ?_ rfl
          exact K.refl
        · refine K.ite (fun _ => ?_) (fun _ => ?_)
          · extract_lets +onlyGivenNames -underBinder -merge -useContext x4
            clear_value x4
            refine K.upd16515072 ?_ rfl
            exact K.refl
          · refine K.ite (fun _ => ?_) (fun _ => ?_)
            · extract_lets +onlyGivenNames -underBinder -merge -useContext x5
              clear_value x5
              refine K.upd50331648 ?_ rfl
              exact K.refl
            · refine K.ite (fun _ => ?_) (fun _ => ?_)
              · refine K.upd268435456 ?_ rfl
                exact K.refl
              · refine K.ite (fun _ => ?_) (fun _ => ?_)
                · refine K.upd15488 ?_ rfl
                  exact K.refl
                · exact K.refl

theorem State.domReset_keeps : ∀ a0 a1, K gS 6777896190 a0 (State.domReset a0 a1) := by
  intro a0 a1
  unfold State.domReset
  extract_lets +onlyGivenNames -underBinder -merge -useContext x0
  have h1 : K gS 6777896190 a0 x0 := by
    refine K.step ?_ (State.resetUnit_keeps _ _) rfl
    refine K.step ?_ (State.clearRegs_keeps _ _) rfl
    exact K.refl
  clear_value x0
  extract_lets +onlyGivenNames -underBinder -merge -useContext x2
  have h3 : K gS 6777896190 a0 x2 := by
    refine K.ite (fun _ => ?_) (fun _ => ?_)
    · refine State.keepSaved_keeps _ _ _ ?_ ?_ rfl
      · exact h1
      · exact K.refl
    · exact h1
  clear_value x2
  extract_lets +onlyGivenNames -underBinder -merge -useContext x4
  have h5 : K gS 6777896190 a0 x4 := by
    refine K.foldl ?_ (fun y6 a7 h8 => ?_)
    · exact h3
    · refine K.step ?_ (State.setFlag_keeps _ _ _ _) rfl
      refine K.step ?_ (State.setEpState_keeps _ _ _) rfl
      refine K.step ?_ (State.setEp_keeps _ _ _) rfl
      exact h8
  clear_value x4
  refine K.foldl ?_ (fun y9 a10 h11 => ?_)
  · exact h5
  · refine K.step ?_ (State.setFlag_keeps _ _ _ _) rfl
    exact h11

theorem State.avsRequest_keeps : ∀ a0 a1, K gS 67108868 a0 (State.avsRequest a0 a1) := by
  intro a0 a1
  unfold State.avsRequest
  extract_lets +onlyGivenNames -underBinder -merge -useContext x0
  have h1 : K gS 67108868 a0 x0 := by
    refine K.step ?_ (State.setFlag_keeps _ _ _ _) rfl
    exact K.refl
  clear_value x0
  refine K.upd67108864 ?_ rfl
  exact h1

theorem State.recognise_keeps : ∀ a0, K gS 67108868 a0 (State.recognise a0) := by
  intro a0
  unfold State.recognise
  extract_lets +onlyGivenNames -underBinder -merge -useContext x0
  have h1 : K gS 67108868 a0 x0 := by
    refine K.ite (fun _ => ?_) (fun _ => ?_)
    · exact K.refl
    · refine K.step ?_ (State.setReg_keeps _ _ _) rfl
      exact K.refl
  clear_value x0
  extract_lets +onlyGivenNames -underBinder -merge -useContext x2
  have h3 : K gS 67108868 a0 x2 := by
    refine K.step ?_ (State.setFld_keeps _ _ _ _) rfl
    exact h1
  clear_value x2
  refine K.upd67108864 ?_ rfl
  exact h3

theorem State.chipEvent_keeps : ∀ a0 a1 a2, K gS 67108868 a0 (State.chipEvent a0 a1 a2) := by
  intro a0 a1 a2
  unfold State.chipEvent
  extract_lets +onlyGivenNames -underBinder -merge -useContext x0
  have h1 : ∀ y2, K gS 67108868 a0 y2 → K gS 67108868 a0 (x0 y2) := by
    intro y2 h3
    dsimp -zeta only [x0]
    refine K.step ?_ (State.setBit_keeps _ _ _ _) rfl
    exact h3
  clear_value x0
  extract_lets +onlyGivenNames -underBinder -merge -useContext x4
  have h5 : ∀ y6, K gS 67108868 a0 y6 → K gS 67108868 a0 (x4 y6) := by
    intro y6 h7
    dsimp -zeta only [x4]
    refine K.ite (fun _ => ?_) (fun _ => ?_)
    · exact h7
    · extract_lets +onlyGivenNames -underBinder -merge -useContext x8
      have h9 : K gS 67108868 a0 x8 := by
        refine K.step ?_ (State.setReg_keeps _ _ _) rfl
        exact h7
      clear_value x8
      refine K.upd67108864 ?_ rfl
      exact h9
  clear_value x4
  extract_lets +onlyGivenNames -underBinder -merge -useContext x10
  have h11 : ∀ y12, K gS 67108868 a0 y12 → K gS 67108868 a0 (x10 y12) := by
    intro y12 h13
    dsimp -zeta only [x10]
    refine K.upd67108864 ?_ rfl
    exact h13
  clear_value x10
  split
  · exact K.refl
  · refine h11 _ ?_
    refine h1 _ ?_
    exact K.refl
  · refine h11 _ ?_
    refine h1 _ ?_
    exact K.refl
  · refine h11 _ ?_
    refine h5 _ ?_
    refine h1 _ ?_
    exact K.refl
  · refine K.step ?_ (State.recognise_keeps _) rfl
    refine h5 _ ?_
    refine h1 _ ?_
    exact K.refl
  · exact K.refl
  · exact K.refl

theorem State.closeLatch_keeps : ∀ a0, K gS 2147483648 a0 (State.closeLatch a0) := by
  intro a0
  unfold State.closeLatch
  extract_lets +onlyGivenNames -underBinder -merge -useContext x0
  have h1 : K gS 2147483648 a0 x0 := by
    refine K.foldl ?_ (fun y2 a3 h4 => ?_)
    · exact K.refl
    · refine K.step ?_ (State.modSrc_keeps _ _ _) rfl
      exact h4
  clear_value x0
  refine K.upd2147483648 ?_ rfl
  exact h1

theorem State.setDom_keeps : ∀ a0 a1 a2, K gS 4 a0 (State.setDom a0 a1 a2) := by
  intro a0 a1 a2
  unfold State.setDom
  refine K.step ?_ (State.setFld_keeps _ _ _ _) rfl
  exact K.refl

theorem State.powerOff_keeps : ∀ a0 a1, K gS 6777896190 a0 (State.powerOff a0 a1) := by
  intro a0 a1
  unfold State.powerOff
  extract_lets +onlyGivenNames -underBinder -merge -useContext x0
  have h1 : K gS 6777896190 a0 x0 := by
    refine K.step ?_ (State.resetUnit_keeps _ _) rfl
    refine K.step ?_ (State.clearRegs_keeps _ _) rfl
    exact K.refl
  clear_value x0
  extract_lets +onlyGivenNames -underBinder -merge -useContext x2
  have h3 : K gS 6777896190 a0 x2 := by
    refine K.ite (fun _ => ?_) (fun _ => ?_)
    · refine State.keepSaved_keeps _ _ _ ?_ ?_ rfl
      · exact h1
      · exact K.refl
    · exact h1
  clear_value x2
  extract_lets +onlyGivenNames -underBinder -merge -useContext x4
  have h5 : K gS 6777896190 a0 x4 := by
    refine K.ite (fun _ => ?_) (fun _ => ?_)
    · refine K.step ?_ (State.modCore_keeps _ _ _) rfl
      exact h3
    · exact h3
  clear_value x4
  refine K.step ?_ (State.setDom_keeps _ _ _) rfl
  exact h5

theorem State.startDown_keeps : ∀ a0 a1, K gS 92735102 a0 (State.startDown a0 a1) := by
  intro a0 a1
  unfold State.startDown
  extract_lets +onlyGivenNames -underBinder -merge -useContext x0
  have h1 : K gS 92735102 a0 x0 := by
    refine K.step ?_ (State.setDom_keeps _ _ _) rfl
    exact K.refl
  clear_value x0
  extract_lets +onlyGivenNames -underBinder -merge -useContext x2
  have h3 : K gS 92735102 a0 x2 := by
    refine K.ite (fun _ => ?_) (fun _ => ?_)
    · refine K.step ?_ (State.setReg_keeps _ _ _) rfl
      refine K.step ?_ (State.setBit_keeps _ _ _ _) rfl
      exact h1
    · exact h1
  clear_value x2
  extract_lets +onlyGivenNames -underBinder -merge -useContext x4
  clear_value x4
  extract_lets +onlyGivenNames -underBinder -merge -useContext x5
  clear_value x5
  extract_lets +onlyGivenNames -underBinder -merge -useContext x6
  have h7 : K gS 92735102 a0 x6 := by
    refine K.upd67108864 ?_ rfl
    exact h3
  clear_value x6
  extract_lets +onlyGivenNames -underBinder -merge -useContext x8
  have h9 : K gS 92735102 a0 x8 := by
    refine K.ite (fun _ => ?_) (fun _ => ?_)
    · refine K.step ?_ (State.quadEval_keeps _ _) rfl
      exact h7
    · exact h7
  clear_value x8
  refine K.foldl ?_ (fun y10 a11 h12 => ?_)
  · exact h9
  · refine K.step ?_ (State.startEbb_keeps _ _) rfl
    exact h12

theorem State.domRequest_keeps : ∀ a0 a1 a2, K gS 6845071102 a0 (State.domRequest a0 a1 a2) := by
  intro a0 a1 a2
  unfold State.domRequest
  extract_lets +onlyGivenNames -underBinder -merge -useContext x0
  have h1 : K gS 6845071102 a0 x0 := by
    refine K.step ?_ (State.setFld_keeps _ _ _ _) rfl
    exact K.refl
  clear_value x0
  extract_lets +onlyGivenNames -underBinder -merge -useContext x2
  clear_value x2
  refine K.ite (fun _ => ?_) (fun _ => ?_)
  · refine K.step ?_ (State.setDom_keeps _ _ _) rfl
    exact h1
  · refine K.ite (fun _ => ?_) (fun _ => ?_)
    · refine K.ite (fun _ => ?_) (fun _ => ?_)
      · refine K.step ?_ (State.setDom_keeps _ _ _) rfl
        exact h1
      · refine K.step ?_ (State.powerOff_keeps _ _) rfl
        exact h1
    · refine K.step ?_ (State.startDown_keeps _ _) rfl
      exact h1

theorem State.wakeCauses_keeps : ∀ a0, K gS 4 a0 (State.wakeCauses a0) := by
  intro a0
  unfold State.wakeCauses
  extract_lets +onlyGivenNames -underBinder -merge -useContext x0
  clear_value x0
  extract_lets +onlyGivenNames -underBinder -merge -useContext x1
  clear_value x1
  refine K.foldl ?_ (fun y2 a3 h4 => ?_)
  · exact K.refl
  · refine K.step ?_ (State.setBit_keeps _ _ _ _) rfl
    exact h4

theorem State.fallAsleep_keeps : ∀ a0, K gS 2214593028 a0 (State.fallAsleep a0) := by
  intro a0
  unfold State.fallAsleep
  extract_lets +onlyGivenNames -underBinder -merge -useContext x0
  clear_value x0
  extract_lets +onlyGivenNames -underBinder -merge -useContext x1
  clear_value x1
  extract_lets +onlyGivenNames -underBinder -merge -useContext x2
  have h3 : K gS 2214593028 a0 x2 := by
    refine K.upd2214592512 ?_ rfl
    exact K.refl
  clear_value x2
  extract_lets +onlyGivenNames -underBinder -merge -useContext x4
  have h5 : K gS 2214593028 a0 x4 := by
    refine K.step ?_ (State.setDom_keeps _ _ _) rfl
    refine K.foldl ?_ (fun y6 a7 h8 => ?_)
    · exact h3
    · refine K.step ?_ (State.setDom_keeps _ _ _) rfl
      exact h8
  clear_value x4
  extract_lets +onlyGivenNames -underBinder -merge -useContext x9
  have h10 : K gS 2214593028 a0 x9 := by
    refine K.ite (fun _ => ?_) (fun _ => ?_)
    · refine K.step ?_ (State.avsRequest_keeps _ _) rfl
      refine K.upd512 ?_ rfl
      exact h5
    · exact h3
  clear_value x9
  refine K.ite (fun _ => ?_) (fun _ => ?_)
  · refine K.step ?_ (State.recognise_keeps _) rfl
    refine K.step ?_ (State.wakeCauses_keeps _) rfl
    exact h10
  · exact h10

theorem State.entryAdvance_keeps : ∀ a0, K gS 2231371390 a0 (State.entryAdvance a0) := by
  intro a0
  unfold State.entryAdvance
  refine K.ite (fun _ => ?_) (fun _ => ?_)
  · exact K.refl
  · extract_lets +onlyGivenNames -underBinder -merge -useContext x0
    have h1 : K gS 2231371390 a0 x0 := by
      refine K.foldl ?_ (fun y2 a3 h4 => ?_)
      · exact K.refl
      · refine K.step ?_ (State.setFlag_keeps _ _ _ _) rfl
        refine K.step ?_ (State.startEbb_keeps _ _) rfl
        exact h4
    clear_value x0
    refine K.ite (fun _ => ?_) (fun _ => ?_)
    · exact h1
    · refine K.step ?_ (State.fallAsleep_keeps _) rfl
      exact h1

theorem State.restoreDist_keeps : ∀ a0, K gS 2147487268 a0 (State.restoreDist a0) := by
  intro a0
  unfold State.restoreDist
  refine K.ite (fun _ => ?_) (fun _ => ?_)
  · extract_lets +onlyGivenNames -underBinder -merge -useContext x0
    clear_value x0
    extract_lets +onlyGivenNames -underBinder -merge -useContext x1
    have h2 : K gS 2147487268 a0 x1 := by
      refine K.upd2147483648 ?_ rfl
      exact K.refl
    clear_value x1
    extract_lets +onlyGivenNames -underBinder -merge -useContext x3
    have h4 : K gS 2147487268 a0 x3 := by
      refine K.step ?_ (State.closeLatch_keeps _) rfl
      refine K.step ?_ (State.mapCores_keeps _ _) rfl
      refine K.step ?_ (State.clearRegs_keeps _ _) rfl
      exact h2
    clear_value x3
    refine K.step ?_ (State.settle_keeps _) rfl
    exact h4
  · exact K.refl

theorem State.releaseAt_keeps : ∀ a0 a1 a2, K gS 32 a0 (State.releaseAt a0 a1 a2) := by
  intro a0 a1 a2
  unfold State.releaseAt
  refine K.step ?_ (State.modCore_keeps _ _ _) rfl
  exact K.refl

theorem State.releaseBoot_keeps : ∀ a0, K gS 32 a0 (State.releaseBoot a0) := by
  intro a0
  unfold State.releaseBoot
  extract_lets +onlyGivenNames -underBinder -merge -useContext x0
  clear_value x0
  refine K.step ?_ (State.modCore_keeps _ _ _) rfl
  refine K.step ?_ (State.releaseAt_keeps _ _ _) rfl
  exact K.refl

theorem State.standbyRelease_keeps : ∀ a0, K gS 67108900 a0 (State.standbyRelease a0) := by
  intro a0
  unfold State.standbyRelease
  extract_lets +onlyGivenNames -underBinder -merge -useContext x0
  clear_value x0
  extract_lets +onlyGivenNames -underBinder -merge -useContext x1
  have h2 : K gS 67108900 a0 x1 := by
    refine K.ite (fun _ => ?_) (fun _ => ?_)
    · refine K.step ?_ (State.releaseBoot_keeps _) rfl
      exact K.refl
    · refine K.step ?_ (State.releaseAt_keeps _ _ _) rfl
      exact K.refl
  clear_value x1
  extract_lets +onlyGivenNames -underBinder -merge -useContext x3
  have h4 : K gS 67108900 a0 x3 := by
    refine K.step ?_ (State.setFld_keeps _ _ _ _) rfl
    exact h2
  clear_value x3
  refine K.upd67108864 ?_ rfl
  exact h4

theorem State.exitAdvance_keeps : ∀ a0, K gS 2214596132 a0 (State.exitAdvance a0) := by
  intro a0
  unfold State.exitAdvance
  refine K.ite (fun _ => ?_) (fun _ => ?_)
  · exact K.refl
  · extract_lets +onlyGivenNames -underBinder -merge -useContext x0
    have h1 : K gS 2214596132 a0 x0 := by
      refine K.step ?_ (State.restoreDist_keeps _) rfl
      exact K.refl
    clear_value x0
    refine K.ite (fun _ => ?_) (fun _ => ?_)
    · refine K.step ?_ (State.standbyRelease_keeps _) rfl
      exact h1
    · refine K.step ?_ (State.setDom_keeps _ _ _) rfl
      exact h1

theorem State.mcStandbyUp_keeps : ∀ a0 a1, K gS 6777896190 a0 (State.mcStandbyUp a0 a1) := by
  intro a0 a1
  unfold State.mcStandbyUp
  extract_lets +onlyGivenNames -underBinder -merge -useContext x0
  have h1 : K gS 6777896190 a0 x0 := by
    refine K.foldl ?_ (fun y2 a3 h4 => ?_)
    · refine K.step ?_ (State.domReset_keeps _ _) rfl
      exact K.refl
    · refine K.step ?_ (State.setReg_keeps _ _ _) rfl
      exact h4
  clear_value x0
  extract_lets +onlyGivenNames -underBinder -merge -useContext x5
  have h6 : K gS 6777896190 a0 x5 := by
    refine K.step ?_ (State.setFlag_keeps _ _ _ _) rfl
    exact h1
  clear_value x5
  refine K.ite (fun _ => ?_) (fun _ => ?_)
  · refine K.step ?_ (State.setMc_keeps _ _ _) rfl
    exact h6
  · exact h6

theorem State.thermalHalt_keeps : ∀ a0, K gS 15569157886 a0 (State.thermalHalt a0) := by
  intro a0
  unfold State.thermalHalt
  extract_lets +onlyGivenNames -underBinder -merge -useContext x0
  have h1 : K gS 15569157886 a0 x0 := by
    refine K.foldl ?_ (fun y2 a3 h4 => ?_)
    · exact K.refl
    · refine K.step ?_ (State.powerOff_keeps _ _) rfl
      exact h4
  clear_value x0
  extract_lets +onlyGivenNames -underBinder -merge -useContext x5
  have h6 : K gS 15569157886 a0 x5 := by
    refine K.step ?_ (State.setFlag_keeps _ _ _ _) rfl
    refine K.step ?_ (State.setReg_keeps _ _ _) rfl
    exact h1
  clear_value x5
  refine K.step ?_ (State.detect_keeps _ _) rfl
  refine K.upd201327104 ?_ rfl
  exact h6

theorem State.writeAvsctl_keeps : ∀ a0 a1, K gS 67108868 a0 (State.writeAvsctl a0 a1) := by
  intro a0 a1
  unfold State.writeAvsctl
  extract_lets +onlyGivenNames -underBinder -merge -useContext x0
  clear_value x0
  extract_lets +onlyGivenNames -underBinder -merge -useContext x1
  clear_value x1
  extract_lets +onlyGivenNames -underBinder -merge -useContext x2
  clear_value x2
  refine K.ite (fun _ => ?_) (fun _ => ?_)
  · refine K.step ?_ (State.setFlag_keeps _ _ _ _) rfl
    exact K.refl
  · extract_lets +onlyGivenNames -underBinder -merge -useContext x3
    have h4 : K gS 67108868 a0 x3 := by
      refine K.step ?_ (State.setFld_keeps _ _ _ _) rfl
      refine K.step ?_ (State.setFld_keeps _ _ _ _) rfl
      exact K.refl
    clear_value x3
    refine K.ite (fun _ => ?_) (fun _ => ?_)
    · refine K.step ?_ (State.avsRequest_keeps _ _) rfl
      exact h4
    · exact h4

theorem State.writeChipctl_keeps : ∀ a0 a1 a2, K gS 67108868 a0 (State.writeChipctl a0 a1 a2) := by
  intro a0 a1 a2
  unfold State.writeChipctl
  extract_lets +onlyGivenNames -underBinder -merge -useContext x0
  clear_value x0
  extract_lets +onlyGivenNames -underBinder -merge -useContext x1
  clear_value x1
  extract_lets +onlyGivenNames -underBinder -merge -useContext x2
  have h3 : K gS 67108868 a0 x2 := by
    refine K.step ?_ (State.setReg_keeps _ _ _) rfl
    exact K.refl
  clear_value x2
  extract_lets +onlyGivenNames -underBinder -merge -useContext x4
  clear_value x4
  refine K.ite (fun _ => ?_) (fun _ => ?_)
  · exact h3
  · split
    · refine K.step ?_ (State.setFld_keeps _ _ _ _) rfl
      refine K.step ?_ (State.setFlag_keeps _ _ _ _) rfl
      exact h3
    · extract_lets +onlyGivenNames -underBinder -merge -useContext x7
      clear_value x7
      extract_lets +onlyGivenNames -underBinder -merge -useContext x8
      clear_value x8
      extract_lets +onlyGivenNames -underBinder -merge -useContext x9
      clear_value x9
      refine K.upd67108864 ?_ rfl
      exact h3

theorem State.writeDom_keeps : ∀ a0 a1 a2, K gS 6845071102 a0 (State.writeDom a0 a1 a2) := by
  intro a0 a1 a2
  unfold State.writeDom
  extract_lets +onlyGivenNames -underBinder -merge -useContext x0
  clear_value x0
  extract_lets +onlyGivenNames -underBinder -merge -useContext x1
  clear_value x1
  refine K.ite (fun _ => ?_) (fun _ => ?_)
  · exact K.refl
  · extract_lets +onlyGivenNames -underBinder -merge -useContext x2
    have h3 : K gS 6845071102 a0 x2 := by
      refine K.step ?_ (State.setReg_keeps _ _ _) rfl
      exact K.refl
    clear_value x2
    extract_lets +onlyGivenNames -underBinder -merge -useContext x4
    have h5 : K gS 6845071102 a0 x4 := by
      refine K.step ?_ (State.setFld_keeps _ _ _ _) rfl
      exact h3
    clear_value x4
    refine K.ite (fun _ => ?_) (fun _ => ?_)
    · exact h5
    · split
      · refine K.step ?_ (State.setFld_keeps _ _ _ _) rfl
        refine K.step ?_ (State.setFlag_keeps _ _ _ _) rfl
        exact h5
      · refine K.step ?_ (State.domRequest_keeps _ _ _) rfl
        exact h5

theorem execAlarm_keeps : ∀ a0, K gR 67108868 a0 (execAlarm a0) := by
  intro a0
  unfold execAlarm
  refine K.mkR ?_
  refine K.ite (fun _ => ?_) (fun _ => ?_)
  · refine K.step ?_ (State.chipEvent_keeps _ _ _) rfl
    exact K.refl
  · exact K.refl

theorem execAvsGo_keeps : ∀ a0 a1, K gR 67108868 a1 (execAvsGo a0 a1) := by
  intro a0 a1
  unfold execAvsGo
  refine K.mkR ?_
  refine K.step ?_ (State.writeAvsctl_keeps _ _) rfl
  exact K.refl

theorem execAvsTimeout_keeps : ∀ a0, K gR 67108868 a0 (execAvsTimeout a0) := by
  intro a0
  unfold execAvsTimeout
  extract_lets +onlyGivenNames -underBinder -merge -useContext x0
  clear_value x0
  refine K.mkR ?_
  split
  · exact K.refl
  · extract_lets +onlyGivenNames -underBinder -merge -useContext x3
    have h4 : K gS 67108868 a0 x3 := by
      refine K.step ?_ (State.setFlag_keeps _ _ _ _) rfl
      refine K.step ?_ (State.setFlag_keeps _ _ _ _) rfl
      exact K.refl
    clear_value x3
    refine K.upd67108864 ?_ rfl
    exact h4

theorem execAvsVoutRead_keeps : ∀ a0 a1, K gR 67108868 a1 (execAvsVoutRead a0 a1) := by
  intro a0 a1
  unfold execAvsVoutRead
  extract_lets +onlyGivenNames -underBinder -merge -useContext x0
  clear_value x0
  refine K.mkR ?_
  split
  · exact K.refl
  · extract_lets +onlyGivenNames -underBinder -merge -useContext x3
    have h4 : K gS 67108868 a1 x3 := by
      refine K.step ?_ (State.setFld_keeps _ _ _ _) rfl
      exact K.refl
    clear_value x3
    refine K.ite (fun _ => ?_) (fun _ => ?_)
    · extract_lets +onlyGivenNames -underBinder -merge -useContext x5
      have h6 : K gS 67108868 a1 x5 := by
        refine K.step ?_ (State.setFlag_keeps _ _ _ _) rfl
        exact h4
      clear_value x5
      refine K.upd67108864 ?_ rfl
      exact h6
    · exact h4

theorem execChipStatePointOfNoReturn_keeps : ∀ a0, K gR 2240218750 a0 (execChipStatePointOfNoReturn a0) := by
  intro a0
  unfold execChipStatePointOfNoReturn
  extract_lets +onlyGivenNames -underBinder -merge -useContext x0
  clear_value x0
  refine K.mkR ?_
  refine K.ite (fun _ => ?_) (fun _ => ?_)
  · exact K.refl
  · refine K.ite (fun _ => ?_) (fun _ => ?_)
    · extract_lets +onlyGivenNames -underBinder -merge -useContext x1
      have h2 : K gS 2240218750 a0 x1 := by
        refine K.step ?_ (State.setBit_keeps _ _ _ _) rfl
        refine K.step ?_ (State.setBit_keeps _ _ _ _) rfl
        refine K.step ?_ (State.closeLatch_keeps _) rfl
        exact K.refl
      clear_value x1
      extract_lets +onlyGivenNames -underBinder -merge -useContext x3
      have h4 : K gS 2240218750 a0 x3 := by
        refine K.step ?_ (State.setFld_keeps _ _ _ _) rfl
        refine K.step ?_ (State.setFlag_keeps _ _ _ _) rfl
        exact h2
      clear_value x3
      extract_lets +onlyGivenNames -underBinder -merge -useContext x5
      clear_value x5
      refine K.ite (fun _ => ?_) (fun _ => ?_)
      · refine K.upd67108864 ?_ rfl
        refine K.step ?_ (State.setDom_keeps _ _ _) rfl
        refine K.step ?_ (State.setDom_keeps _ _ _) rfl
        exact h4
      · extract_lets +onlyGivenNames -underBinder -merge -useContext x6
        have h7 : K gS 2240218750 a0 x6 := by
          refine K.step ?_ (State.setDom_keeps _ _ _) rfl
          exact h4
        clear_value x6
        refine K.upd67108864 ?_ rfl
        exact h7
    · extract_lets +onlyGivenNames -underBinder -merge -useContext x8
      clear_value x8
      extract_lets +onlyGivenNames -underBinder -merge -useContext x9
      have h10 : K gS 2240218750 a0 x9 := by
        refine K.upd67108864 ?_ rfl
        exact K.refl
      clear_value x9
      refine K.step ?_ (State.entryAdvance_keeps _) rfl
      refine K.foldl ?_ (fun y11 a12 h13 => ?_)
      · exact h10
      · refine K.step ?_ (State.startDown_keeps _ _) rfl
        exact h13

theorem execChipWake_keeps : ∀ a0, K gR 6845005566 a0 (execChipWake a0) := by
  intro a0
  unfold execChipWake
  refine K.mkR ?_
  refine K.ite (fun _ => ?_) (fun _ => ?_)
  · exact K.refl
  · extract_lets +onlyGivenNames -underBinder -merge -useContext x0
    clear_value x0
    extract_lets +onlyGivenNames -underBinder -merge -useContext x1
    have h2 : K gS 6845005566 a0 x1 := by
      refine K.upd67108864 ?_ rfl
      exact K.refl
    clear_value x1
    extract_lets +onlyGivenNames -underBinder -merge -useContext x3
    clear_value x3
    extract_lets +onlyGivenNames -underBinder -merge -useContext x4
    have h5 : K gS 6845005566 a0 x4 := by
      refine K.step ?_ (State.setDom_keeps _ _ _) rfl
      refine K.step ?_ (State.domReset_keeps _ _) rfl
      refine K.ite (fun _ => ?_) (fun _ => ?_)
      · exact h2
      · refine K.step ?_ (State.avsRequest_keeps _ _) rfl
        exact h2
    clear_value x4
    extract_lets +onlyGivenNames -underBinder -merge -useContext x6
    have h7 : K gS 6845005566 a0 x6 := by
      refine K.ite (fun _ => ?_) (fun _ => ?_)
      · refine K.step ?_ (State.clearRegs_keeps _ _) rfl
        exact h5
      · refine K.foldl ?_ (fun y8 a9 h10 => ?_)
        · exact h2
        · refine K.ite (fun _ => ?_) (fun _ => ?_)
          · refine K.step ?_ (State.srreqClear_keeps _ _) rfl
            exact h10
          · exact h10
    clear_value x6
    extract_lets +onlyGivenNames -underBinder -merge -useContext x11
    clear_value x11
    refine K.step ?_ (State.exitAdvance_keeps _) rfl
    refine K.foldl ?_ (fun y12 a13 h14 => ?_)
    · exact h7
    · refine K.ite (fun _ => ?_) (fun _ => ?_)
      · refine K.step ?_ (State.setDom_keeps _ _ _) rfl
        exact h14
      · exact h14

theorem execDomainPowerGood_keeps : ∀ a0 a1, K gR 6845005566 a1 (execDomainPowerGood a0 a1) := by
  intro a0 a1
  unfold execDomainPowerGood
  refine K.mkR ?_
  refine K.ite (fun _ => ?_) (fun _ => ?_)
  · exact K.refl
  · extract_lets +onlyGivenNames -underBinder -merge -useContext x0
    clear_value x0
    extract_lets +onlyGivenNames -underBinder -merge -useContext x1
    have h2 : K gS 6845005566 a1 x1 := by
      refine K.ite (fun _ => ?_) (fun _ => ?_)
      · refine K.step ?_ (State.mcStandbyUp_keeps _ _) rfl
        exact K.refl
      · refine K.step ?_ (State.domReset_keeps _ _) rfl
        exact K.refl
    clear_value x1
    extract_lets +onlyGivenNames -underBinder -merge -useContext x3
    have h4 : K gS 6845005566 a1 x3 := by
      refine K.step ?_ (State.setDom_keeps _ _ _) rfl
      exact h2
    clear_value x3
    refine K.step ?_ (State.exitAdvance_keeps _) rfl
    refine K.foldl ?_ (fun y5 a6 h7 => ?_)
    · exact h4
    · refine K.ite (fun _ => ?_) (fun _ => ?_)
      · exact h7
      · refine K.step ?_ (State.reopen_keeps _ _) rfl
        exact h7

theorem execHlt_keeps : ∀ a0 a1, K gR 8682669694 a1 (execHlt a0 a1) := by
  intro a0 a1
  unfold execHlt
  extract_lets +onlyGivenNames -underBinder -merge -useContext x0
  have h1 : K gS 8682669694 a1 x0 := by
    refine K.step ?_ (State.hlt_keeps _ _) rfl
    exact K.refl
  clear_value x0
  refine K.mkR ?_
  refine K.ite (fun _ => ?_) (fun _ => ?_)
  · refine K.step ?_ (State.startDown_keeps _ _) rfl
    exact h1
  · exact h1

theorem execMonitorSample_keeps : ∀ a0 a1 a2 a3, K gR 50465865726 a3 (execMonitorSample a0 a1 a2 a3) := by
  intro a0 a1 a2 a3
  unfold execMonitorSample
  extract_lets +onlyGivenNames -underBinder -merge -useContext x0
  clear_value x0
  extract_lets +onlyGivenNames -underBinder -merge -useContext x1
  clear_value x1
  extract_lets +onlyGivenNames -underBinder -merge -useContext x2
  clear_value x2
  extract_lets +onlyGivenNames -underBinder -merge -useContext x3
  clear_value x3
  refine K.mkR ?_
  extract_lets +onlyGivenNames -underBinder -merge -useContext x4
  have h5 : K gS 50465865726 a3 x4 := by
    refine K.step ?_ (State.setFastok_keeps _ _) rfl
    exact K.refl
  clear_value x4
  extract_lets +onlyGivenNames -underBinder -merge -useContext x6
  have h7 : K gS 50465865726 a3 x6 := by
    refine K.step ?_ (State.setFld_keeps _ _ _ _) rfl
    refine K.step ?_ (State.setFld_keeps _ _ _ _) rfl
    exact h5
  clear_value x6
  extract_lets +onlyGivenNames -underBinder -merge -useContext x8
  have h9 : K gS 50465865726 a3 x8 := by
    refine K.step ?_ (State.setFlag_keeps _ _ _ _) rfl
    refine K.step ?_ (State.setFlag_keeps _ _ _ _) rfl
    exact h7
  clear_value x8
  extract_lets +onlyGivenNames -underBinder -merge -useContext x10
  have h11 : K gS 50465865726 a3 x10 := by
    refine K.step ?_ (State.setFlag_keeps _ _ _ _) rfl
    exact h9
  clear_value x10
  refine K.ite (fun _ => ?_) (fun _ => ?_)
  · refine K.step ?_ (State.chipClear_keeps _ _) rfl
    exact h11
  · refine K.ite (fun _ => ?_) (fun _ => ?_)
    · refine K.step ?_ (State.thermalHalt_keeps _) rfl
      exact h11
    · exact h11

theorem execNeapRequest_keeps : ∀ a0 a1 a2, K gR 67108868 a2 (execNeapRequest a0 a1 a2) := by
  intro a0 a1 a2
  unfold execNeapRequest
  refine K.mkR ?_
  refine K.step ?_ (State.writeChipctl_keeps _ _ _) rfl
  exact K.refl

theorem execPointOfNoReturn_keeps : ∀ a0 a1, K gR 6845005566 a1 (execPointOfNoReturn a0 a1) := by
  intro a0 a1
  unfold execPointOfNoReturn
  refine K.mkR ?_
  refine K.ite (fun _ => ?_) (fun _ => ?_)
  · exact K.refl
  · refine K.ite (fun _ => ?_) (fun _ => ?_)
    · refine K.ite (fun _ => ?_) (fun _ => ?_)
      · extract_lets +onlyGivenNames -underBinder -merge -useContext x0
        have h1 : K gS 6845005566 a1 x0 := by
          refine K.step ?_ (State.setFlag_keeps _ _ _ _) rfl
          refine K.step ?_ (State.setDom_keeps _ _ _) rfl
          exact K.refl
        clear_value x0
        extract_lets +onlyGivenNames -underBinder -merge -useContext x2
        clear_value x2
        extract_lets +onlyGivenNames -underBinder -merge -useContext x3
        have h4 : K gS 6845005566 a1 x3 := by
          refine K.upd67108864 ?_ rfl
          exact h1
        clear_value x3
        refine K.step ?_ (State.wakeHalt_keeps _ _) rfl
        refine K.step ?_ (State.reopen_keeps _ _) rfl
        exact h4
      · refine K.upd67108864 ?_ rfl
        exact K.refl
    · refine K.step ?_ (State.entryAdvance_keeps _) rfl
      refine K.step ?_ (State.powerOff_keeps _ _) rfl
      exact K.refl

theorem execPwrDomReqOff_keeps : ∀ a0 a1 a2, K gR 6845071102 a2 (execPwrDomReqOff a0 a1 a2) := by
  intro a0 a1 a2
  unfold execPwrDomReqOff
  refine K.mkR ?_
  refine K.step ?_ (State.writeDom_keeps _ _ _) rfl
  exact K.refl

theorem execPwrDomReqRetain_keeps : ∀ a0 a1 a2, K gR 6845071102 a2 (execPwrDomReqRetain a0 a1 a2) := by
  intro a0 a1 a2
  unfold execPwrDomReqRetain
  refine K.mkR ?_
  refine K.step ?_ (State.writeDom_keeps _ _ _) rfl
  exact K.refl

theorem execPwrDomReqRun_keeps : ∀ a0 a1 a2, K gR 6845071102 a2 (execPwrDomReqRun a0 a1 a2) := by
  intro a0 a1 a2
  unfold execPwrDomReqRun
  refine K.mkR ?_
  refine K.step ?_ (State.writeDom_keeps _ _ _) rfl
  exact K.refl

theorem execResumeComplete_keeps : ∀ a0 a1 a2, K gR 2214612516 a2 (execResumeComplete a0 a1 a2) := by
  intro a0 a1 a2
  unfold execResumeComplete
  refine K.mkR ?_
  refine K.step ?_ (State.exitAdvance_keeps _) rfl
  refine K.step ?_ (State.resumeComplete_keeps _ _ _) rfl
  exact K.refl

theorem execRetainRestored_keeps : ∀ a0 a1, K gR 4362077734 a1 (execRetainRestored a0 a1) := by
  intro a0 a1
  unfold execRetainRestored
  refine K.mkR ?_
  refine K.ite (fun _ => ?_) (fun _ => ?_)
  · exact K.refl
  · extract_lets +onlyGivenNames -underBinder -merge -useContext x0
    clear_value x0
    extract_lets +onlyGivenNames -underBinder -merge -useContext x1
    have h2 : K gS 4362077734 a1 x1 := by
      refine K.step ?_ (State.modCore_keeps _ _ _) rfl
      exact K.refl
    clear_value x1
    extract_lets +onlyGivenNames -underBinder -merge -useContext x3
    have h4 : K gS 4362077734 a1 x3 := by
      refine K.foldl ?_ (fun y5 a6 h7 => ?_)
      · exact h2
      · refine K.step ?_ (State.applyPartReset_keeps _ _ _) rfl
        exact h7
    clear_value x3
    extract_lets +onlyGivenNames -underBinder -merge -useContext x8
    clear_value x8
    extract_lets +onlyGivenNames -underBinder -merge -useContext x9
    clear_value x9
    extract_lets +onlyGivenNames -underBinder -merge -useContext x10
    clear_value x10
    extract_lets +onlyGivenNames -underBinder -merge -useContext x11
    have h12 : K gS 4362077734 a1 x11 := by
      refine K.upd4362076160 ?_ rfl
      exact h4
    clear_value x11
    extract_lets +onlyGivenNames -underBinder -merge -useContext x13
    have h14 : K gS 4362077734 a1 x13 := by
      refine K.ite (fun _ => ?_) (fun _ => ?_)
      · refine K.step ?_ (State.setFld_keeps _ _ _ _) rfl
        exact h12
      · exact h12
    clear_value x13
    refine K.step ?_ (State.wakeHalt_keeps _ _) rfl
    refine K.step ?_ (State.reopen_keeps _ _) rfl
    refine K.step ?_ (State.setDom_keeps _ _ _) rfl
    exact h14

theorem execRetentionSwitch_keeps : ∀ a0 a1, K gR 6845005054 a1 (execRetentionSwitch a0 a1) := by
  intro a0 a1
  unfold execRetentionSwitch
  extract_lets +onlyGivenNames -underBinder -merge -useContext x0
  clear_value x0
  extract_lets +onlyGivenNames -underBinder -merge -useContext x1
  clear_value x1
  refine K.mkR ?_
  refine K.ite (fun _ => ?_) (fun _ => ?_)
  · exact K.refl
  · extract_lets +onlyGivenNames -underBinder -merge -useContext x2
    clear_value x2
    extract_lets +onlyGivenNames -underBinder -merge -useContext x3
    clear_value x3
    extract_lets +onlyGivenNames -underBinder -merge -useContext x4
    clear_value x4
    extract_lets +onlyGivenNames -underBinder -merge -useContext x5
    clear_value x5
    extract_lets +onlyGivenNames -underBinder -merge -useContext x6
    have h7 : K gS 6845005054 a1 x6 := by
      refine K.upd67108864 ?_ rfl
      exact K.refl
    clear_value x6
    extract_lets +onlyGivenNames -underBinder -merge -useContext x8
    have h9 : K gS 6845005054 a1 x8 := by
      refine K.ite (fun _ => ?_) (fun _ => ?_)
      · refine K.step ?_ (State.setDom_keeps _ _ _) rfl
        refine K.step ?_ (State.modCore_keeps _ _ _) rfl
        exact h7
      · refine K.step ?_ (State.powerOff_keeps _ _) rfl
        exact h7
    clear_value x8
    refine K.ite (fun _ => ?_) (fun _ => ?_)
    · extract_lets +onlyGivenNames -underBinder -merge -useContext x10
      have h11 : K gS 6845005054 a1 x10 := by
        refine K.step ?_ (State.setFld_keeps _ _ _ _) rfl
        exact h9
      clear_value x10
      refine K.upd2214592512 ?_ rfl
      exact h11
    · exact h9

theorem execSelfRefreshEntered_keeps : ∀ a0 a1, K gR 2231387774 a1 (execSelfRefreshEntered a0 a1) := by
  intro a0 a1
  unfold execSelfRefreshEntered
  refine K.mkR ?_
  refine K.step ?_ (State.entryAdvance_keeps _) rfl
  refine K.step ?_ (State.selfRefresh_keeps _ _) rfl
  exact K.refl

theorem execStandbyRequest_keeps : ∀ a0 a1 a2, K gR 67108868 a2 (execStandbyRequest a0 a1 a2) := by
  intro a0 a1 a2
  unfold execStandbyRequest
  refine K.mkR ?_
  refine K.step ?_ (State.writeChipctl_keeps _ _ _) rfl
  exact K.refl

theorem execWakeEvent_keeps : ∀ a0 a1, K gR 67108868 a1 (execWakeEvent a0 a1) := by
  intro a0 a1
  unfold execWakeEvent
  refine K.mkR ?_
  split
  · refine K.step ?_ (State.coreWake_keeps _ _ _) rfl
    exact K.refl
  · refine K.ite (fun _ => ?_) (fun _ => ?_)
    · refine K.step ?_ (State.chipEvent_keeps _ _ _) rfl
      exact K.refl
    · exact K.refl
  · refine K.ite (fun _ => ?_) (fun _ => ?_)
    · refine K.step ?_ (State.chipEvent_keeps _ _ _) rfl
      exact K.refl
    · exact K.refl

theorem execWakePin_keeps : ∀ a0 a1 a2, K gR 67108868 a2 (execWakePin a0 a1 a2) := by
  intro a0 a1 a2
  unfold execWakePin
  refine K.mkR ?_
  refine K.ite (fun _ => ?_) (fun _ => ?_)
  · refine K.step ?_ (State.chipEvent_keeps _ _ _) rfl
    exact K.refl
  · exact K.refl

end Sys2Proof.Machine
end

