-- ==== Sys2Proof/Laws/KeepsIdent.lean ====
section
/-!
SUPPORT. What each function and each command of Machine/Ident.lean, Machine/Reset.lean can change (Laws/Keeps.lean), one lemma each.
-/
namespace Sys2Proof.Machine

theorem State.markUe_keeps : ∀ a0, K gS 8589934596 a0 (State.markUe a0) := by
  intro a0
  unfold State.markUe
  refine K.step ?_ (State.failure_keeps _ _ _ _ _ _) rfl
  refine K.step ?_ (State.setFlag_keeps _ _ _ _) rfl
  exact K.refl

theorem State.loadRegs_keeps : ∀ a0 a1 a2 a3, K gS 4 a0 (State.loadRegs a0 a1 a2 a3) := by
  intro a0 a1 a2 a3
  unfold State.loadRegs
  refine K.foldl ?_ (fun y0 a1 h2 => ?_)
  · exact K.refl
  · refine K.step ?_ (State.setReg_keeps _ _ _) rfl
    exact h2

theorem State.runMark_keeps : ∀ a0 a1, K gS 9126805508 a0 (State.runMark a0 a1) := by
  intro a0 a1
  unfold State.runMark
  split
  · extract_lets +onlyGivenNames -underBinder -merge -useContext x1
    clear_value x1
    extract_lets +onlyGivenNames -underBinder -merge -useContext x2
    clear_value x2
    extract_lets +onlyGivenNames -underBinder -merge -useContext x3
    have h4 : K gS 9126805508 a0 x3 := by
      refine K.upd536870912 ?_ rfl
      exact K.refl
    clear_value x3
    refine K.ite (fun _ => ?_) (fun _ => ?_)
    · refine K.upd536870912 ?_ rfl
      exact h4
    · refine K.step ?_ (State.setFlag_keeps _ _ _ _) rfl
      exact h4
  · extract_lets +onlyGivenNames -underBinder -merge -useContext x6
    clear_value x6
    extract_lets +onlyGivenNames -underBinder -merge -useContext x7
    clear_value x7
    extract_lets +onlyGivenNames -underBinder -merge -useContext x8
    have h9 : K gS 9126805508 a0 x8 := by
      refine K.ite (fun _ => ?_) (fun _ => ?_)
      · refine K.step ?_ (State.markUe_keeps _) rfl
        exact K.refl
      · exact K.refl
    clear_value x8
    refine K.ite (fun _ => ?_) (fun _ => ?_)
    · refine K.upd536870912 ?_ rfl
      exact h9
    · refine K.step ?_ (State.setFlag_keeps _ _ _ _) rfl
      refine K.step ?_ (State.loadRegs_keeps _ _ _ _) rfl
      exact h9

theorem State.cutMarks_keeps : ∀ a0, K gS 9126805508 a0 (State.cutMarks a0) := by
  intro a0
  unfold State.cutMarks
  refine K.foldl ?_ (fun y0 a1 h2 => ?_)
  · refine K.upd536870912 ?_ rfl
    exact K.refl
  · refine K.step ?_ (State.runMark_keeps _ _) rfl
    exact h2

theorem State.runMarks_keeps : ∀ a0, K gS 9126805508 a0 (State.runMarks a0) := by
  intro a0
  unfold State.runMarks
  refine K.foldl ?_ (fun y0 a1 h2 => ?_)
  · refine K.upd536870912 ?_ rfl
    exact K.refl
  · refine K.step ?_ (State.runMark_keeps _ _) rfl
    exact h2

theorem State.smbReply_keeps : ∀ a0 a1, K gS 536870912 a0 (State.smbReply a0 a1) := by
  intro a0 a1
  unfold State.smbReply
  refine K.upd536870912 ?_ rfl
  exact K.refl

theorem State.submitMark_keeps : ∀ a0 a1, K gS 9126805508 a0 (State.submitMark a0 a1) := by
  intro a0 a1
  unfold State.submitMark
  split
  · refine K.ite (fun _ => ?_) (fun _ => ?_)
    · refine K.upd536870912 ?_ rfl
      exact K.refl
    · refine K.step ?_ (State.setFld_keeps _ _ _ _) rfl
      refine K.step ?_ (State.setFlag_keeps _ _ _ _) rfl
      exact K.refl
  · refine K.ite (fun _ => ?_) (fun _ => ?_)
    · refine K.upd536870912 ?_ rfl
      exact K.refl
    · refine K.step ?_ (State.runMark_keeps _ _) rfl
      exact K.refl

theorem State.writeChalcmd_keeps : ∀ a0 a1 a2, K gS 9126805508 a0 (State.writeChalcmd a0 a1 a2) := by
  intro a0 a1 a2
  unfold State.writeChalcmd
  extract_lets +onlyGivenNames -underBinder -merge -useContext x0
  clear_value x0
  extract_lets +onlyGivenNames -underBinder -merge -useContext x1
  have h2 : K gS 9126805508 a0 x1 := by
    refine K.step ?_ (State.setReg_keeps _ _ _) rfl
    exact K.refl
  clear_value x1
  refine K.ite (fun _ => ?_) (fun _ => ?_)
  · exact h2
  · refine K.ite (fun _ => ?_) (fun _ => ?_)
    · refine K.step ?_ (State.setFlag_keeps _ _ _ _) rfl
      exact h2
    · extract_lets +onlyGivenNames -underBinder -merge -useContext x3
      have h4 : K gS 9126805508 a0 x3 := by
        refine K.ite (fun _ => ?_) (fun _ => ?_)
        · exact h2
        · refine K.step ?_ (State.markUe_keeps _) rfl
          exact h2
      clear_value x3
      extract_lets +onlyGivenNames -underBinder -merge -useContext x5
      have h6 : K gS 9126805508 a0 x5 := by
        refine K.step ?_ (State.setFlag_keeps _ _ _ _) rfl
        exact h4
      clear_value x5
      refine K.upd536870912 ?_ rfl
      exact h6

theorem State.writeHmcmd_keeps : ∀ a0 a1 a2, K gS 9126805508 a0 (State.writeHmcmd a0 a1 a2) := by
  intro a0 a1 a2
  unfold State.writeHmcmd
  extract_lets +onlyGivenNames -underBinder -merge -useContext x0
  clear_value x0
  extract_lets +onlyGivenNames -underBinder -merge -useContext x1
  clear_value x1
  extract_lets +onlyGivenNames -underBinder -merge -useContext x2
  have h3 : ∀ y4 y5, K gS 9126805508 a0 y4 → K gS 9126805508 a0 (x2 y4 y5) := by
    intro y4 y5 h6
    dsimp -zeta only [x2]
    refine K.step ?_ (State.setFld_keeps _ _ _ _) rfl
    exact h6
  clear_value x2
  extract_lets +onlyGivenNames -underBinder -merge -useContext x7
  have h8 : K gS 9126805508 a0 x7 := by
    refine h3 _ _ ?_
    refine h3 _ _ ?_
    refine h3 _ _ ?_
    refine h3 _ _ ?_
    exact K.refl
  clear_value x7
  refine K.ite (fun _ => ?_) (fun _ => ?_)
  · exact h8
  · extract_lets +onlyGivenNames -underBinder -merge -useContext x9
    clear_value x9
    refine K.step ?_ (State.submitMark_keeps _ _) rfl
    exact h8

theorem execChallenge_keeps : ∀ a0 a1, K gR 9126805508 a1 (execChallenge a0 a1) := by
  intro a0 a1
  unfold execChallenge
  refine K.mkR ?_
  refine K.step ?_ (State.writeChalcmd_keeps _ _ _) rfl
  exact K.refl

theorem execChallengeComplete_keeps : ∀ a0, K gR 9126805510 a0 (execChallengeComplete a0) := by
  intro a0
  unfold execChallengeComplete
  refine K.mkR ?_
  split
  · exact K.refl
  · extract_lets +onlyGivenNames -underBinder -merge -useContext x2
    clear_value x2
    extract_lets +onlyGivenNames -underBinder -merge -useContext x3
    clear_value x3
    extract_lets +onlyGivenNames -underBinder -merge -useContext x4
    clear_value x4
    extract_lets +onlyGivenNames -underBinder -merge -useContext x5
    clear_value x5
    extract_lets +onlyGivenNames -underBinder -merge -useContext x6
    have h7 : K gS 9126805510 a0 x6 := by
      refine K.upd536870914 ?_ rfl
      exact K.refl
    clear_value x6
    extract_lets +onlyGivenNames -underBinder -merge -useContext x8
    have h9 : K gS 9126805510 a0 x8 := by
      refine K.step ?_ (State.loadRegs_keeps _ _ _ _) rfl
      refine K.step ?_ (State.loadRegs_keeps _ _ _ _) rfl
      exact h7
    clear_value x8
    refine K.step ?_ (State.runMarks_keeps _) rfl
    refine K.step ?_ (State.setFlag_keeps _ _ _ _) rfl
    refine K.step ?_ (State.setFlag_keeps _ _ _ _) rfl
    exact h9

theorem execHeatMarkLock_keeps : ∀ a0, K gR 4 a0 (execHeatMarkLock a0) := by
  intro a0
  unfold execHeatMarkLock
  refine K.mkR ?_
  refine K.step ?_ (State.setFlag_keeps _ _ _ _) rfl
  exact K.refl

theorem execHeatMarkRead_keeps : ∀ a0 a1 a2, K gR 9126805508 a2 (execHeatMarkRead a0 a1 a2) := by
  intro a0 a1 a2
  unfold execHeatMarkRead
  refine K.mkR ?_
  refine K.step ?_ (State.writeHmcmd_keeps _ _ _) rfl
  exact K.refl

theorem execHeatMarkWrite_keeps : ∀ a0 a1, K gR 9126805508 a1 (execHeatMarkWrite a0 a1) := by
  intro a0 a1
  unfold execHeatMarkWrite
  refine K.mkR ?_
  refine K.step ?_ (State.writeHmcmd_keeps _ _ _) rfl
  exact K.refl

theorem execSmbCertificate_keeps : ∀ a0 a1 a2, K gR 536870912 a2 (execSmbCertificate a0 a1 a2) := by
  intro a0 a1 a2
  unfold execSmbCertificate
  refine K.mkR ?_
  refine K.step ?_ (State.smbReply_keeps _ _) rfl
  exact K.refl

theorem execSmbChallenge_keeps : ∀ a0 a1 a2, K gR 9126805510 a2 (execSmbChallenge a0 a1 a2) := by
  intro a0 a1 a2
  unfold execSmbChallenge
  extract_lets +onlyGivenNames -underBinder -merge -useContext x0
  have h1 : K gS 9126805510 a2 x0 := by
    refine K.step ?_ (State.loadRegs_keeps _ _ _ _) rfl
    exact K.refl
  clear_value x0
  extract_lets +onlyGivenNames -underBinder -merge -useContext x2
  have h3 : K g2 9126805510 a2 x2 := by
    refine K.step ?_ (State.draw_keeps _ _) rfl
    exact h1
  clear_value x2
  refine K.mkR ?_
  refine K.ite (fun _ => ?_) (fun _ => ?_)
  · refine K.step ?_ (State.smbReply_keeps _ _) rfl
    refine K.step ?_ (State.writeChalcmd_keeps _ _ _) rfl
    refine K.of2 ?_
    exact h3
  · refine K.step ?_ (State.smbReply_keeps _ _) rfl
    refine K.step ?_ (State.writeChalcmd_keeps _ _ _) rfl
    exact h1

theorem execSmbHeatMarkRead_keeps : ∀ a0 a1 a2 a3 a4, K gR 9126805508 a4 (execSmbHeatMarkRead a0 a1 a2 a3 a4) := by
  intro a0 a1 a2 a3 a4
  unfold execSmbHeatMarkRead
  refine K.mkR ?_
  refine K.step ?_ (State.submitMark_keeps _ _) rfl
  exact K.refl

theorem execSmbHeatMarkWrite_keeps : ∀ a0 a1 a2 a3 a4, K gR 9126805508 a4 (execSmbHeatMarkWrite a0 a1 a2 a3 a4) := by
  intro a0 a1 a2 a3 a4
  unfold execSmbHeatMarkWrite
  refine K.mkR ?_
  refine K.step ?_ (State.submitMark_keeps _ _) rfl
  exact K.refl

theorem execSmbReadIdentity_keeps : ∀ a0, K gR 536870912 a0 (execSmbReadIdentity a0) := by
  intro a0
  unfold execSmbReadIdentity
  refine K.mkR ?_
  refine K.step ?_ (State.smbReply_keeps _ _) rfl
  exact K.refl

theorem execSmbResponse_keeps : ∀ a0, K gR 536870912 a0 (execSmbResponse a0) := by
  intro a0
  unfold execSmbResponse
  extract_lets +onlyGivenNames -underBinder -merge -useContext x0
  clear_value x0
  extract_lets +onlyGivenNames -underBinder -merge -useContext x1
  clear_value x1
  refine K.mkR ?_
  refine K.step ?_ (State.smbReply_keeps _ _) rfl
  exact K.refl

theorem State.bootChannel_keeps : ∀ a0 a1 a2, K gS 17948 a0 (State.bootChannel a0 a1 a2) := by
  intro a0 a1 a2
  unfold State.bootChannel
  extract_lets +onlyGivenNames -underBinder -merge -useContext x0
  clear_value x0
  refine K.ite (fun _ => ?_) (fun _ => ?_)
  · exact K.refl
  · extract_lets +onlyGivenNames -underBinder -merge -useContext x1
    have h2 : K gS 17948 a0 x1 := by
      refine K.step ?_ (State.setReg_keeps _ _ _) rfl
      refine K.step ?_ (State.setReg_keeps _ _ _) rfl
      exact K.refl
    clear_value x1
    extract_lets +onlyGivenNames -underBinder -merge -useContext x3
    clear_value x3
    refine K.ite (fun _ => ?_) (fun _ => ?_)
    · refine K.step ?_ (State.resumeComplete_keeps _ _ _) rfl
      refine K.step ?_ (State.trainResume_keeps _ _) rfl
      exact h2
    · refine K.step ?_ (State.trainingEnds_keeps _ _ _) rfl
      refine K.step ?_ (State.trainFull_keeps _ _) rfl
      exact h2

theorem State.setPhase_keeps : ∀ a0 a1, K gS 4 a0 (State.setPhase a0 a1) := by
  intro a0 a1
  unfold State.setPhase
  refine K.step ?_ (State.setFld_keeps _ _ _ _) rfl
  exact K.refl

theorem State.bootRelease_keeps : ∀ a0 a1, K gS 134217788 a0 (State.bootRelease a0 a1) := by
  intro a0 a1
  unfold State.bootRelease
  extract_lets +onlyGivenNames -underBinder -merge -useContext x0
  clear_value x0
  extract_lets +onlyGivenNames -underBinder -merge -useContext x1
  have h2 : K gS 134217788 a0 x1 := by
    refine K.step ?_ (State.setFld_keeps _ _ _ _) rfl
    refine K.step ?_ (State.setFld_keeps _ _ _ _) rfl
    exact K.refl
  clear_value x1
  extract_lets +onlyGivenNames -underBinder -merge -useContext x3
  have h4 : K gS 134217788 a0 x3 := by
    refine K.step ?_ (State.setBytes_keeps _ _ _) rfl
    refine K.step ?_ (State.setBytes_keeps _ _ _) rfl
    exact h2
  clear_value x3
  refine K.step ?_ (State.releaseBoot_keeps _) rfl
  refine K.step ?_ (State.setPhase_keeps _ _) rfl
  refine K.upd134217728 ?_ rfl
  exact h4

theorem State.bootMemory_keeps : ∀ a0 a1 a2, K gS 17948 a0 (State.bootMemory a0 a1 a2) := by
  intro a0 a1 a2
  unfold State.bootMemory
  refine K.foldl ?_ (fun y0 a1 h2 => ?_)
  · exact K.refl
  · refine K.step ?_ (State.bootChannel_keeps _ _ _) rfl
    exact h2

theorem State.bootPower_keeps : ∀ a0, K gS 6777896190 a0 (State.bootPower a0) := by
  intro a0
  unfold State.bootPower
  extract_lets +onlyGivenNames -underBinder -merge -useContext x0
  clear_value x0
  extract_lets +onlyGivenNames -underBinder -merge -useContext x1
  have h2 : K gS 6777896190 a0 x1 := by
    refine K.foldl ?_ (fun y3 a4 h5 => ?_)
    · exact K.refl
    · refine K.step ?_ (State.setDom_keeps _ _ _) rfl
      refine K.step ?_ (State.setFld_keeps _ _ _ _) rfl
      refine K.step ?_ (State.domReset_keeps _ _) rfl
      exact h5
  clear_value x1
  extract_lets +onlyGivenNames -underBinder -merge -useContext x6
  clear_value x6
  extract_lets +onlyGivenNames -underBinder -merge -useContext x7
  have h8 : K gS 6777896190 a0 x7 := by
    refine K.foldl ?_ (fun y9 a10 h11 => ?_)
    · exact h2
    · refine K.step ?_ (State.setEpState_keeps _ _ _) rfl
      exact h11
  clear_value x7
  extract_lets +onlyGivenNames -underBinder -merge -useContext x12
  clear_value x12
  refine K.foldl ?_ (fun y13 a14 h15 => ?_)
  · exact h8
  · refine K.step ?_ (State.setRouter_keeps _ _ _) rfl
    exact h15

theorem State.bootTest_keeps : ∀ a0 a1, K gS 8589934596 a0 (State.bootTest a0 a1) := by
  intro a0 a1
  unfold State.bootTest
  extract_lets +onlyGivenNames -underBinder -merge -useContext x0
  have h1 : K gS 8589934596 a0 x0 := by
    refine K.step ?_ (State.setFld_keeps _ _ _ _) rfl
    exact K.refl
  clear_value x0
  extract_lets +onlyGivenNames -underBinder -merge -useContext x2
  clear_value x2
  extract_lets +onlyGivenNames -underBinder -merge -useContext x3
  have h4 : K gS 8589934596 a0 x3 := by
    refine K.foldl ?_ (fun y5 a6 h7 => ?_)
    · exact h1
    · refine K.step ?_ (State.setFlag_keeps _ _ _ _) rfl
      exact h7
  clear_value x3
  refine K.foldl ?_ (fun y8 a9 h10 => ?_)
  · exact h4
  · refine K.step ?_ (State.detect_keeps _ _) rfl
    exact h10

theorem State.bootImage_keeps : ∀ a0 a1 a2 a3, K gS 15502049022 a0 (State.bootImage a0 a1 a2 a3) := by
  intro a0 a1 a2 a3
  unfold State.bootImage
  extract_lets +onlyGivenNames -underBinder -merge -useContext x0
  clear_value x0
  extract_lets +onlyGivenNames -underBinder -merge -useContext x1
  have h2 : K gS 15502049022 a0 x1 := by
    refine K.step ?_ (State.bootPower_keeps _) rfl
    refine K.step ?_ (State.setPhase_keeps _ _) rfl
    refine K.step ?_ (State.setFld_keeps _ _ _ _) rfl
    refine K.step ?_ (State.setFld_keeps _ _ _ _) rfl
    exact K.refl
  clear_value x1
  extract_lets +onlyGivenNames -underBinder -merge -useContext x3
  have h4 : K gS 15502049022 a0 x3 := by
    refine K.step ?_ (State.setPhase_keeps _ _) rfl
    refine K.step ?_ (State.bootTest_keeps _ _) rfl
    exact h2
  clear_value x3
  refine K.ite (fun _ => ?_) (fun _ => ?_)
  · refine K.step ?_ (State.setPhase_keeps _ _) rfl
    refine K.step ?_ (State.setFlag_keeps _ _ _ _) rfl
    exact h4
  · refine K.step ?_ (State.bootRelease_keeps _ _) rfl
    refine K.step ?_ (State.setPhase_keeps _ _) rfl
    refine K.step ?_ (State.bootMemory_keeps _ _ _) rfl
    exact h4

theorem State.bootStart_keeps : ∀ a0 a1, K gS 1073741828 a0 (State.bootStart a0 a1) := by
  intro a0 a1
  unfold State.bootStart
  extract_lets +onlyGivenNames -underBinder -merge -useContext x0
  have h1 : K gS 1073741828 a0 x0 := by
    refine K.step ?_ (State.setFld_keeps _ _ _ _) rfl
    refine K.step ?_ (State.setFld_keeps _ _ _ _) rfl
    exact K.refl
  clear_value x0
  extract_lets +onlyGivenNames -underBinder -merge -useContext x2
  have h3 : K gS 1073741828 a0 x2 := by
    refine K.step ?_ (State.setFld_keeps _ _ _ _) rfl
    exact h1
  clear_value x2
  extract_lets +onlyGivenNames -underBinder -merge -useContext x4
  have h5 : K gS 1073741828 a0 x4 := by
    refine K.ite (fun _ => ?_) (fun _ => ?_)
    · exact h3
    · refine K.step ?_ (State.setFlag_keeps _ _ _ _) rfl
      exact h3
  clear_value x4
  extract_lets +onlyGivenNames -underBinder -merge -useContext x6
  have h7 : K gS 1073741828 a0 x6 := by
    refine K.step ?_ (State.setFlag_keeps _ _ _ _) rfl
    refine K.step ?_ (State.setFlag_keeps _ _ _ _) rfl
    exact h5
  clear_value x6
  refine K.upd1073741824 ?_ rfl
  exact h7

theorem State.noteCause_keeps : ∀ a0 a1, K gS 4 a0 (State.noteCause a0 a1) := by
  intro a0 a1
  unfold State.noteCause
  extract_lets +onlyGivenNames -underBinder -merge -useContext x0
  clear_value x0
  refine K.step ?_ (State.bump_keeps _ _ _ _) rfl
  refine K.step ?_ (State.setBit_keeps _ _ _ _) rfl
  refine K.step ?_ (State.setFld_keeps _ _ _ _) rfl
  exact K.refl

theorem State.trigger_keeps : ∀ a0 a1, K gS 9261023239 a0 (State.trigger a0 a1) := by
  intro a0 a1
  unfold State.trigger
  extract_lets +onlyGivenNames -underBinder -merge -useContext x0
  have h1 : K gS 9261023239 a0 x0 := by
    refine K.step ?_ (State.clearRegs_keeps _ _) rfl
    refine K.step ?_ (State.cutFuse_keeps _ _) rfl
    refine K.step ?_ (State.cutMarks_keeps _) rfl
    refine K.step ?_ (State.noteCause_keeps _ _) rfl
    exact K.refl
  clear_value x0
  refine K.upd134217728 ?_ rfl
  exact h1

theorem State.coldReset_keeps : ∀ a0 a1, K gS 50465865727 a0 (State.coldReset a0 a1) := by
  intro a0 a1
  unfold State.coldReset
  refine K.step ?_ (State.chipClear_keeps _ _) rfl
  refine K.step ?_ (State.trigger_keeps _ _) rfl
  exact K.refl

theorem State.corectlRefuse_keeps : ∀ a0 a1 a2, K gS 4 a0 (State.corectlRefuse a0 a1 a2) := by
  intro a0 a1 a2
  unfold State.corectlRefuse
  refine K.step ?_ (State.setFld_keeps _ _ _ _) rfl
  refine K.step ?_ (State.setFlag_keeps _ _ _ _) rfl
  exact K.refl

theorem State.coreRelease_keeps : ∀ a0 a1, K gS 36 a0 (State.coreRelease a0 a1) := by
  intro a0 a1
  unfold State.coreRelease
  refine K.ite (fun _ => ?_) (fun _ => ?_)
  · refine K.step ?_ (State.corectlRefuse_keeps _ _ _) rfl
    exact K.refl
  · refine K.ite (fun _ => ?_) (fun _ => ?_)
    · refine K.step ?_ (State.corectlRefuse_keeps _ _ _) rfl
      exact K.refl
    · refine K.step ?_ (State.releaseAt_keeps _ _ _) rfl
      exact K.refl

theorem State.coreReset_keeps : ∀ a0 a1, K gS 16778878 a0 (State.coreReset a0 a1) := by
  intro a0 a1
  unfold State.coreReset
  extract_lets +onlyGivenNames -underBinder -merge -useContext x0
  clear_value x0
  refine K.ite (fun _ => ?_) (fun _ => ?_)
  · exact K.refl
  · refine K.ite (fun _ => ?_) (fun _ => ?_)
    · refine K.step ?_ (State.corectlRefuse_keeps _ _ _) rfl
      exact K.refl
    · refine K.ite (fun _ => ?_) (fun _ => ?_)
      · refine K.step ?_ (State.corectlRefuse_keeps _ _ _) rfl
        exact K.refl
      · extract_lets +onlyGivenNames -underBinder -merge -useContext x1
        clear_value x1
        extract_lets +onlyGivenNames -underBinder -merge -useContext x2
        clear_value x2
        extract_lets +onlyGivenNames -underBinder -merge -useContext x3
        have h4 : K gS 16778878 a0 x3 := by
          refine K.step ?_ (State.setCore_keeps _ _ _) rfl
          exact K.refl
        clear_value x3
        refine K.step ?_ (State.startEbb_keeps _ _) rfl
        refine K.step ?_ (State.setFlag_keeps _ _ _ _) rfl
        exact h4

theorem State.flashDone_keeps : ∀ a0, K gS 2147487236 a0 (State.flashDone a0) := by
  intro a0
  unfold State.flashDone
  refine K.step ?_ (State.raiseEdge_keeps _ _) rfl
  refine K.step ?_ (State.setFlag_keeps _ _ _ _) rfl
  refine K.step ?_ (State.setFlag_keeps _ _ _ _) rfl
  exact K.refl

theorem State.flashErr_keeps : ∀ a0 a1, K gS 2147487236 a0 (State.flashErr a0 a1) := by
  intro a0 a1
  unfold State.flashErr
  extract_lets +onlyGivenNames -underBinder -merge -useContext x0
  clear_value x0
  refine K.step ?_ (State.raiseEdge_keeps _ _) rfl
  refine K.step ?_ (State.setFld_keeps _ _ _ _) rfl
  refine K.step ?_ (State.setFlag_keeps _ _ _ _) rfl
  refine K.step ?_ (State.setFlag_keeps _ _ _ _) rfl
  exact K.refl

theorem State.haltedReset_keeps : ∀ a0, K gS 9328132103 a0 (State.haltedReset a0) := by
  intro a0
  unfold State.haltedReset
  refine K.ite (fun _ => ?_) (fun _ => ?_)
  · exact K.refl
  · extract_lets +onlyGivenNames -underBinder -merge -useContext x0
    have h1 : K gS 9328132103 a0 x0 := by
      refine K.step ?_ (State.trigger_keeps _ _) rfl
      exact K.refl
    clear_value x0
    refine K.upd67108864 ?_ rfl
    exact h1

theorem State.setFlhash_keeps : ∀ a0 a1, K gS 4 a0 (State.setFlhash a0 a1) := by
  intro a0 a1
  unfold State.setFlhash
  refine K.step ?_ (State.loadRegs_keeps _ _ _ _) rfl
  exact K.refl

theorem State.tripRelease_keeps : ∀ a0, K gS 4 a0 (State.tripRelease a0) := by
  intro a0
  unfold State.tripRelease
  refine K.ite (fun _ => ?_) (fun _ => ?_)
  · refine K.step ?_ (State.setFlag_keeps _ _ _ _) rfl
    refine K.step ?_ (State.setFlag_keeps _ _ _ _) rfl
    refine K.step ?_ (State.setReg_keeps _ _ _) rfl
    exact K.refl
  · exact K.refl

theorem State.tryImages_keeps : ∀ a0 a1 a2, K g2 4 a0 (State.tryImages a0 a1 a2) := by
  intro a0 a1 a2
  induction a2 generalizing a0 a1 with
  | nil =>
    rw [State.tryImages]
    refine K.mk2 ?_
    exact K.refl
  | cons e r ih =>
    rw [State.tryImages]
    split
    · refine K.ite (fun _ => ?_) (fun _ => ?_)
      · refine K.mk2 ?_
        refine K.ite (fun _ => ?_) (fun _ => ?_)
        · refine K.step ?_ (State.setFld_keeps _ _ _ _) rfl
          exact K.refl
        · refine K.ite (fun _ => ?_) (fun _ => ?_)
          · refine K.step ?_ (State.setFld_keeps _ _ _ _) rfl
            exact K.refl
          · exact K.refl
      · refine K.step ?_ (ih _ _) rfl
        refine K.ite (fun _ => ?_) (fun _ => ?_)
        · refine K.step ?_ (State.setFld_keeps _ _ _ _) rfl
          exact K.refl
        · refine K.ite (fun _ => ?_) (fun _ => ?_)
          · refine K.step ?_ (State.setFld_keeps _ _ _ _) rfl
            exact K.refl
          · exact K.refl
    · refine K.step ?_ (ih _ _) rfl
      refine K.ite (fun _ => ?_) (fun _ => ?_)
      · refine K.step ?_ (State.setFld_keeps _ _ _ _) rfl
        exact K.refl
      · refine K.ite (fun _ => ?_) (fun _ => ?_)
        · refine K.step ?_ (State.setFld_keeps _ _ _ _) rfl
          exact K.refl
        · exact K.refl

theorem State.warmChannel_keeps : ∀ a0 a1, K gS 8589951006 a0 (State.warmChannel a0 a1) := by
  intro a0 a1
  unfold State.warmChannel
  refine K.ite (fun _ => ?_) (fun _ => ?_)
  · exact K.refl
  · extract_lets +onlyGivenNames -underBinder -merge -useContext x0
    clear_value x0
    refine K.step ?_ (State.modChan_keeps _ _ _) rfl
    refine K.step ?_ (State.saveSet_keeps _ _) rfl
    refine K.foldl ?_ (fun y1 a2 h3 => ?_)
    · exact K.refl
    · refine K.step ?_ (State.runReq_keeps _ _ _) rfl
      exact h3

theorem State.warmReset_keeps : ∀ a0 a1, K gS 9328132103 a0 (State.warmReset a0 a1) := by
  intro a0 a1
  unfold State.warmReset
  extract_lets +onlyGivenNames -underBinder -merge -useContext x0
  have h1 : K gS 9328132103 a0 x0 := by
    refine K.step ?_ (State.trigger_keeps _ _) rfl
    exact K.refl
  clear_value x0
  refine K.upd67108864 ?_ rfl
  exact h1

theorem State.writeCorectl_keeps : ∀ a0 a1 a2, K gS 16778878 a0 (State.writeCorectl a0 a1 a2) := by
  intro a0 a1 a2
  unfold State.writeCorectl
  extract_lets +onlyGivenNames -underBinder -merge -useContext x0
  clear_value x0
  refine K.ite (fun _ => ?_) (fun _ => ?_)
  · exact K.refl
  · extract_lets +onlyGivenNames -underBinder -merge -useContext x1
    have h2 : K gS 16778878 a0 x1 := by
      refine K.step ?_ (State.setReg_keeps _ _ _) rfl
      exact K.refl
    clear_value x1
    extract_lets +onlyGivenNames -underBinder -merge -useContext x3
    have h4 : K gS 16778878 a0 x3 := by
      refine K.ite (fun _ => ?_) (fun _ => ?_)
      · refine K.step ?_ (State.coreReset_keeps _ _) rfl
        exact h2
      · exact h2
    clear_value x3
    refine K.ite (fun _ => ?_) (fun _ => ?_)
    · refine K.step ?_ (State.coreRelease_keeps _ _) rfl
      exact h4
    · exact h4

theorem State.writeFlcmd_keeps : ∀ a0 a1, K gS 2147487236 a0 (State.writeFlcmd a0 a1) := by
  intro a0 a1
  unfold State.writeFlcmd
  extract_lets +onlyGivenNames -underBinder -merge -useContext x0
  clear_value x0
  extract_lets +onlyGivenNames -underBinder -merge -useContext x1
  have h2 : K gS 2147487236 a0 x1 := by
    refine K.step ?_ (State.setReg_keeps _ _ _) rfl
    exact K.refl
  clear_value x1
  refine K.ite (fun _ => ?_) (fun _ => ?_)
  · exact h2
  · extract_lets +onlyGivenNames -underBinder -merge -useContext x3
    have h4 : K gS 2147487236 a0 x3 := by
      refine K.step ?_ (State.setFld_keeps _ _ _ _) rfl
      exact h2
    clear_value x3
    refine K.ite (fun _ => ?_) (fun _ => ?_)
    · exact h4
    · refine K.ite (fun _ => ?_) (fun _ => ?_)
      · refine K.step ?_ (State.flashDone_keeps _) rfl
        refine K.step ?_ (State.setFlhash_keeps _ _) rfl
        exact h4
      · refine K.step ?_ (State.setFlag_keeps _ _ _ _) rfl
        exact h4

theorem State.writeFusecmd_keeps : ∀ a0 a1, K gS 134217732 a0 (State.writeFusecmd a0 a1) := by
  intro a0 a1
  unfold State.writeFusecmd
  extract_lets +onlyGivenNames -underBinder -merge -useContext x0
  clear_value x0
  extract_lets +onlyGivenNames -underBinder -merge -useContext x1
  clear_value x1
  extract_lets +onlyGivenNames -underBinder -merge -useContext x2
  clear_value x2
  extract_lets +onlyGivenNames -underBinder -merge -useContext x3
  have h4 : K gS 134217732 a0 x3 := by
    refine K.step ?_ (State.setReg_keeps _ _ _) rfl
    exact K.refl
  clear_value x3
  refine K.ite (fun _ => ?_) (fun _ => ?_)
  · exact h4
  · extract_lets +onlyGivenNames -underBinder -merge -useContext x5
    have h6 : K gS 134217732 a0 x5 := by
      refine K.step ?_ (State.setFld_keeps _ _ _ _) rfl
      refine K.step ?_ (State.setFld_keeps _ _ _ _) rfl
      exact h4
    clear_value x5
    refine K.ite (fun _ => ?_) (fun _ => ?_)
    · exact h6
    · split
      · refine K.step ?_ (State.setFld_keeps _ _ _ _) rfl
        refine K.step ?_ (State.setFlag_keeps _ _ _ _) rfl
        exact h6
      · refine K.upd134217728 ?_ rfl
        exact h6

theorem State.writeWdctl_keeps : ∀ a0 a1, K gS 134217732 a0 (State.writeWdctl a0 a1) := by
  intro a0 a1
  unfold State.writeWdctl
  extract_lets +onlyGivenNames -underBinder -merge -useContext x0
  clear_value x0
  refine K.ite (fun _ => ?_) (fun _ => ?_)
  · exact K.refl
  · extract_lets +onlyGivenNames -underBinder -merge -useContext x1
    have h2 : ∀ y3 y4, K gS 134217732 a0 y3 → K gS 134217732 a0 (x1 y3 y4) := by
      intro y3 y4 h5
      dsimp -zeta only [x1]
      refine K.step ?_ (State.setFld_keeps _ _ _ _) rfl
      exact h5
    clear_value x1
    extract_lets +onlyGivenNames -underBinder -merge -useContext x6
    have h7 : K gS 134217732 a0 x6 := by
      refine h2 _ _ ?_
      refine h2 _ _ ?_
      refine h2 _ _ ?_
      refine h2 _ _ ?_
      exact K.refl
    clear_value x6
    refine K.ite (fun _ => ?_) (fun _ => ?_)
    · exact h7
    · extract_lets +onlyGivenNames -underBinder -merge -useContext x8
      have h9 : K gS 134217732 a0 x8 := by
        refine K.step ?_ (State.setFld_keeps _ _ _ _) rfl
        refine K.step ?_ (State.setFlag_keeps _ _ _ _) rfl
        exact h7
      clear_value x8
      refine K.upd134217728 ?_ rfl
      exact h9

theorem State.writeWdkick_keeps : ∀ a0 a1, K gS 134217732 a0 (State.writeWdkick a0 a1) := by
  intro a0 a1
  unfold State.writeWdkick
  extract_lets +onlyGivenNames -underBinder -merge -useContext x0
  clear_value x0
  extract_lets +onlyGivenNames -underBinder -merge -useContext x1
  have h2 : ∀ y3, K gS 134217732 a0 y3 → K gS 134217732 a0 (x1 y3) := by
    intro y3 h4
    dsimp -zeta only [x1]
    refine K.step ?_ (State.setFlag_keeps _ _ _ _) rfl
    exact h4
  clear_value x1
  extract_lets +onlyGivenNames -underBinder -merge -useContext x5
  have h6 : ∀ y7 y8, K gS 134217732 a0 y7 → K gS 134217732 a0 (x5 y7 y8) := by
    intro y7 y8 h9
    dsimp -zeta only [x5]
    refine K.upd134217728 ?_ rfl
    exact h9
  clear_value x5
  refine K.ite (fun _ => ?_) (fun _ => ?_)
  · refine K.ite (fun _ => ?_) (fun _ => ?_)
    · extract_lets +onlyGivenNames -underBinder -merge -useContext x10
      have h11 : K gS 134217732 a0 x10 := by
        refine h6 _ _ ?_
        exact K.refl
      clear_value x10
      refine K.ite (fun _ => ?_) (fun _ => ?_)
      · refine K.step ?_ (State.setFld_keeps _ _ _ _) rfl
        exact h11
      · exact h11
    · refine h6 _ _ ?_
      refine h2 _ ?_
      exact K.refl
  · refine K.ite (fun _ => ?_) (fun _ => ?_)
    · refine h6 _ _ ?_
      exact K.refl
    · refine h2 _ ?_
      exact K.refl

theorem execBoot_keeps : ∀ a0 a1, K gR 16575790846 a1 (execBoot a0 a1) := by
  intro a0 a1
  unfold execBoot
  refine K.mkR ?_
  refine K.ite (fun _ => ?_) (fun _ => ?_)
  · exact K.refl
  · extract_lets +onlyGivenNames -underBinder -merge -useContext x0
    have h1 : K g2 16575790846 a1 x0 := by
      refine K.step ?_ (State.tryImages_keeps _ _ _) rfl
      refine K.step ?_ (State.bootStart_keeps _ _) rfl
      exact K.refl
    clear_value x0
    split
    · refine K.step ?_ (State.setPhase_keeps _ _) rfl
      refine K.of2 ?_
      exact h1
    · refine K.step ?_ (State.bootImage_keeps _ _ _ _) rfl
      refine K.of2 ?_
      exact h1

theorem execColdRstN_keeps : ∀ a0, K gR 50465865727 a0 (execColdRstN a0) := by
  intro a0
  unfold execColdRstN
  refine K.mkR ?_
  refine K.ite (fun _ => ?_) (fun _ => ?_)
  · refine K.step ?_ (State.haltedReset_keeps _) rfl
    exact K.refl
  · refine K.step ?_ (State.coldReset_keeps _ _) rfl
    exact K.refl

theorem execCoreRelease_keeps : ∀ a0 a1 a2, K gR 16778878 a2 (execCoreRelease a0 a1 a2) := by
  intro a0 a1 a2
  unfold execCoreRelease
  refine K.mkR ?_
  refine K.step ?_ (State.writeCorectl_keeps _ _ _) rfl
  exact K.refl

theorem execCoreReset_keeps : ∀ a0 a1 a2, K gR 16778878 a2 (execCoreReset a0 a1 a2) := by
  intro a0 a1 a2
  unfold execCoreReset
  refine K.mkR ?_
  refine K.step ?_ (State.writeCorectl_keeps _ _ _) rfl
  exact K.refl

theorem execCoreResetComplete_keeps : ∀ a0 a1, K gR 1572 a1 (execCoreResetComplete a0 a1) := by
  intro a0 a1
  unfold execCoreResetComplete
  extract_lets +onlyGivenNames -underBinder -merge -useContext x0
  clear_value x0
  extract_lets +onlyGivenNames -underBinder -merge -useContext x1
  clear_value x1
  refine K.mkR ?_
  refine K.ite (fun _ => ?_) (fun _ => ?_)
  · exact K.refl
  · extract_lets +onlyGivenNames -underBinder -merge -useContext x2
    have h3 : K gS 1572 a1 x2 := by
      refine K.step ?_ (State.setCore_keeps _ _ _) rfl
      exact K.refl
    clear_value x2
    extract_lets +onlyGivenNames -underBinder -merge -useContext x4
    have h5 : K gS 1572 a1 x4 := by
      refine K.step ?_ (State.setFlag_keeps _ _ _ _) rfl
      refine K.step ?_ (State.clearRegs_keeps _ _) rfl
      exact h3
    clear_value x4
    refine K.step ?_ (State.reopen_keeps _ _) rfl
    exact h5

theorem execFlashCopy_keeps : ∀ a0 a1, K gR 2147487236 a1 (execFlashCopy a0 a1) := by
  intro a0 a1
  unfold execFlashCopy
  refine K.mkR ?_
  refine K.step ?_ (State.writeFlcmd_keeps _ _) rfl
  exact K.refl

theorem execFlashErase_keeps : ∀ a0 a1, K gR 2147487236 a1 (execFlashErase a0 a1) := by
  intro a0 a1
  unfold execFlashErase
  refine K.mkR ?_
  refine K.step ?_ (State.writeFlcmd_keeps _ _) rfl
  exact K.refl

theorem execFlashOperationComplete_keeps : ∀ a0 a1 a2 a3, K gR 2147487358 a3 (execFlashOperationComplete a0 a1 a2 a3) := by
  intro a0 a1 a2 a3
  unfold execFlashOperationComplete
  extract_lets +onlyGivenNames -underBinder -merge -useContext x0
  clear_value x0
  extract_lets +onlyGivenNames -underBinder -merge -useContext x1
  clear_value x1
  extract_lets +onlyGivenNames -underBinder -merge -useContext x2
  clear_value x2
  extract_lets +onlyGivenNames -underBinder -merge -useContext x3
  clear_value x3
  extract_lets +onlyGivenNames -underBinder -merge -useContext x4
  clear_value x4
  extract_lets +onlyGivenNames -underBinder -merge -useContext x5
  clear_value x5
  refine K.mkR ?_
  refine K.ite (fun _ => ?_) (fun _ => ?_)
  · exact K.refl
  · refine K.ite (fun _ => ?_) (fun _ => ?_)
    · refine K.step ?_ (State.flashErr_keeps _ _) rfl
      exact K.refl
    · refine K.ite (fun _ => ?_) (fun _ => ?_)
      · refine K.step ?_ (State.flashErr_keeps _ _) rfl
        refine K.step ?_ (State.engRefused_keeps _ _ _ _ _ _) rfl
        exact K.refl
      · refine K.ite (fun _ => ?_) (fun _ => ?_)
        · refine K.step ?_ (State.flashErr_keeps _ _) rfl
          exact K.refl
        · extract_lets +onlyGivenNames -underBinder -merge -useContext x6
          clear_value x6
          extract_lets +onlyGivenNames -underBinder -merge -useContext x7
          have h8 : ∀ y9, K gS 2147487358 a3 y9 → K gS 2147487358 a3 (x7 y9) := by
            intro y9 h10
            dsimp -zeta only [x7]
            refine K.step ?_ (State.engWrite_keeps _ _ _ _ _) rfl
            exact h10
          clear_value x7
          refine K.ite (fun _ => ?_) (fun _ => ?_)
          · refine K.step ?_ (State.flashErr_keeps _ _) rfl
            refine K.ite (fun _ => ?_) (fun _ => ?_)
            · refine h8 _ ?_
              exact K.refl
            · exact K.refl
          · refine K.ite (fun _ => ?_) (fun _ => ?_)
            · refine K.step ?_ (State.flashDone_keeps _) rfl
              refine K.step ?_ (State.setFlhash_keeps _ _) rfl
              refine h8 _ ?_
              exact K.refl
            · refine K.ite (fun _ => ?_) (fun _ => ?_)
              · extract_lets +onlyGivenNames -underBinder -merge -useContext x11
                have h12 : K g3 2147487358 a3 x11 := by
                  refine K.step ?_ (State.engRead_keeps _ _ _ _) rfl
                  exact K.refl
                clear_value x11
                refine K.step ?_ (State.flashDone_keeps _) rfl
                refine K.step ?_ (State.setFlhash_keeps _ _) rfl
                refine K.of3 ?_
                exact h12
              · refine K.step ?_ (State.flashDone_keeps _) rfl
                exact K.refl

theorem execFlashProgram_keeps : ∀ a0 a1, K gR 2147487236 a1 (execFlashProgram a0 a1) := by
  intro a0 a1
  unfold execFlashProgram
  refine K.mkR ?_
  refine K.step ?_ (State.writeFlcmd_keeps _ _) rfl
  exact K.refl

theorem execFuseCommandComplete_keeps : ∀ a0, K gR 134217733 a0 (execFuseCommandComplete a0) := by
  intro a0
  unfold execFuseCommandComplete
  refine K.mkR ?_
  split
  · exact K.refl
  · extract_lets +onlyGivenNames -underBinder -merge -useContext x2
    have h3 : K gS 134217733 a0 x2 := by
      refine K.step ?_ (State.setFlag_keeps _ _ _ _) rfl
      exact K.refl
    clear_value x2
    refine K.upd134217729 ?_ rfl
    exact h3

theorem execFuseProgramSlot_keeps : ∀ a0 a1, K gR 134217732 a1 (execFuseProgramSlot a0 a1) := by
  intro a0 a1
  unfold execFuseProgramSlot
  refine K.mkR ?_
  refine K.step ?_ (State.writeFusecmd_keeps _ _) rfl
  exact K.refl

theorem execFuseRevokeSlot_keeps : ∀ a0 a1, K gR 134217732 a1 (execFuseRevokeSlot a0 a1) := by
  intro a0 a1
  unfold execFuseRevokeSlot
  refine K.mkR ?_
  refine K.step ?_ (State.writeFusecmd_keeps _ _) rfl
  exact K.refl

theorem execFuseSetSvn_keeps : ∀ a0 a1, K gR 134217732 a1 (execFuseSetSvn a0 a1) := by
  intro a0 a1
  unfold execFuseSetSvn
  refine K.mkR ?_
  refine K.step ?_ (State.writeFusecmd_keeps _ _) rfl
  exact K.refl

theorem execPwrReset_keeps : ∀ a0, K gR 68719476735 a0 (execPwrReset a0) := by
  intro a0
  unfold execPwrReset
  extract_lets +onlyGivenNames -underBinder -merge -useContext x0
  have h1 : K gS 68719476735 a0 x0 := by
    refine K.step ?_ (State.cutFuse_keeps _ _) rfl
    exact K.refl
  clear_value x0
  have h2 := (h1 x0 rfl).same .pending (by decide)
  exact K.mkR (K.of ⟨fun p hp => by cases p <;> first | exact h2 | exact absurd hp (by decide), fun _ => ⟨rfl, rfl⟩⟩)

theorem execWarmEntryComplete_keeps : ∀ a0, K gR 50465865726 a0 (execWarmEntryComplete a0) := by
  intro a0
  unfold execWarmEntryComplete
  refine K.mkR ?_
  refine K.ite (fun _ => ?_) (fun _ => ?_)
  · exact K.refl
  · refine K.step ?_ (State.chipClear_keeps _ _) rfl
    refine K.step ?_ (State.cutMarks_keeps _) rfl
    refine K.foldl ?_ (fun y0 a1 h2 => ?_)
    · exact K.refl
    · refine K.step ?_ (State.warmChannel_keeps _ _) rfl
      exact h2

theorem execWarmRstN_keeps : ∀ a0, K gR 9328132103 a0 (execWarmRstN a0) := by
  intro a0
  unfold execWarmRstN
  refine K.mkR ?_
  refine K.ite (fun _ => ?_) (fun _ => ?_)
  · refine K.step ?_ (State.haltedReset_keeps _) rfl
    exact K.refl
  · refine K.ite (fun _ => ?_) (fun _ => ?_)
    · exact K.refl
    · refine K.step ?_ (State.warmReset_keeps _ _) rfl
      exact K.refl

theorem execWatchdogEnable_keeps : ∀ a0 a1, K gR 134217732 a1 (execWatchdogEnable a0 a1) := by
  intro a0 a1
  unfold execWatchdogEnable
  refine K.mkR ?_
  refine K.step ?_ (State.writeWdctl_keeps _ _) rfl
  exact K.refl

theorem execWatchdogKick_keeps : ∀ a0 a1, K gR 134217732 a1 (execWatchdogKick a0 a1) := by
  intro a0 a1
  unfold execWatchdogKick
  refine K.mkR ?_
  refine K.step ?_ (State.writeWdkick_keeps _ _) rfl
  exact K.refl

theorem execWatchdogStage1_keeps : ∀ a0, K gR 134217732 a0 (execWatchdogStage1 a0) := by
  intro a0
  unfold execWatchdogStage1
  extract_lets +onlyGivenNames -underBinder -merge -useContext x0
  clear_value x0
  refine K.mkR ?_
  refine K.ite (fun _ => ?_) (fun _ => ?_)
  · extract_lets +onlyGivenNames -underBinder -merge -useContext x1
    have h2 : K gS 134217732 a0 x1 := by
      refine K.step ?_ (State.bump_keeps _ _ _ _) rfl
      refine K.step ?_ (State.setFld_keeps _ _ _ _) rfl
      exact K.refl
    clear_value x1
    extract_lets +onlyGivenNames -underBinder -merge -useContext x3
    have h4 : K gS 134217732 a0 x3 := by
      refine K.ite (fun _ => ?_) (fun _ => ?_)
      · refine K.foldl ?_ (fun y5 a6 h7 => ?_)
        · exact h2
        · refine K.ite (fun _ => ?_) (fun _ => ?_)
          · refine K.step ?_ (State.setReg_keeps _ _ _) rfl
            exact h7
          · exact h7
      · exact h2
    clear_value x3
    extract_lets +onlyGivenNames -underBinder -merge -useContext x8
    have h9 : K gS 134217732 a0 x8 := by
      refine K.step ?_ (State.tripRelease_keeps _) rfl
      exact h4
    clear_value x8
    refine K.upd134217728 ?_ rfl
    exact h9
  · exact K.refl

theorem execWatchdogStage2_keeps : ∀ a0, K gR 50465865727 a0 (execWatchdogStage2 a0) := by
  intro a0
  unfold execWatchdogStage2
  extract_lets +onlyGivenNames -underBinder -merge -useContext x0
  clear_value x0
  extract_lets +onlyGivenNames -underBinder -merge -useContext x1
  clear_value x1
  refine K.mkR ?_
  refine K.ite (fun _ => ?_) (fun _ => ?_)
  · refine K.ite (fun _ => ?_) (fun _ => ?_)
    · refine K.step ?_ (State.setFld_keeps _ _ _ _) rfl
      exact K.refl
    · refine K.ite (fun _ => ?_) (fun _ => ?_)
      · refine K.step ?_ (State.warmReset_keeps _ _) rfl
        exact K.refl
      · refine K.step ?_ (State.coldReset_keeps _ _) rfl
        exact K.refl
  · exact K.refl

end Sys2Proof.Machine
end

