-- ==== Sys2Proof/Laws/KeepsHif.lean ====
section
/-!
SUPPORT. What each function and each command of Machine/Hif.lean, Machine/Package.lean can change (Laws/Keeps.lean), one lemma each.
-/
namespace Sys2Proof.Machine

theorem State.loadFault_keeps : ∀ a0 a1 a2 a3, K gS 36 a0 (State.loadFault a0 a1 a2 a3) := by
  intro a0 a1 a2 a3
  unfold State.loadFault
  extract_lets +onlyGivenNames -underBinder -merge -useContext x0
  have h1 : K gS 36 a0 x0 := by
    refine K.step ?_ (State.modCore_keeps _ _ _) rfl
    exact K.refl
  clear_value x0
  refine K.step ?_ (State.raiseT_keeps _ _ _) rfl
  exact h1

theorem State.faultPort_keeps : ∀ a0 a1 a2, K gS 36 a0 (State.faultPort a0 a1 a2) := by
  intro a0 a1 a2
  unfold State.faultPort
  split
  · exact K.refl
  · split
    · refine K.step ?_ (State.loadFault_keeps _ _ _ _) rfl
      exact K.refl
    · exact K.refl

theorem State.contain_keeps : ∀ a0 a1, K gS 8589934628 a0 (State.contain a0 a1) := by
  intro a0 a1
  unfold State.contain
  refine K.ite (fun _ => ?_) (fun _ => ?_)
  · extract_lets +onlyGivenNames -underBinder -merge -useContext x0
    have h1 : K gS 8589934628 a0 x0 := by
      refine K.step ?_ (State.failure_keeps _ _ _ _ _ _) rfl
      refine K.step ?_ (State.setFlag_keeps _ _ _ _) rfl
      exact K.refl
    clear_value x0
    refine K.foldl ?_ (fun y2 a3 h4 => ?_)
    · exact h1
    · refine K.step ?_ (State.faultPort_keeps _ _ _) rfl
      exact h4
  · exact K.refl

theorem State.hifFlush_keeps : ∀ a0 a1 a2, K g3 2147487236 a0 (State.hifFlush a0 a1 a2) := by
  intro a0 a1 a2
  induction a1 generalizing a0 a2 with
  | nil =>
    rw [State.hifFlush]
    refine K.mk3 ?_
    exact K.refl
  | cons e r ih =>
    cases e with
    | read p rid k gpa pa n =>
      rw [State.hifFlush]
      refine K.ite (fun _ => ?_) (fun _ => ?_)
      · extract_lets +onlyGivenNames -underBinder -merge -useContext x10
        have h11 : K g3 2147487236 a0 x10 := by
          refine K.step ?_ (ih _ _) rfl
          exact K.refl
        clear_value x10
        refine K.mk32 ?_
        refine K.of32 ?_
        exact h11
      · refine K.ite (fun _ => ?_) (fun _ => ?_)
        · extract_lets +onlyGivenNames -underBinder -merge -useContext x12
          have h13 : K g3 2147487236 a0 x12 := by
            refine K.step ?_ (ih _ _) rfl
            exact K.refl
          clear_value x12
          refine K.mk32 ?_
          refine K.of32 ?_
          exact h13
        · extract_lets +onlyGivenNames -underBinder -merge -useContext x14
          have h15 : K g3 2147487236 a0 x14 := by
            refine K.step ?_ (ih _ _) rfl
            exact K.refl
          clear_value x14
          refine K.mk32 ?_
          refine K.of32 ?_
          exact h15
    | answered p rid k bs po ref =>
      rw [State.hifFlush]
      refine K.ite (fun _ => ?_) (fun _ => ?_)
      · extract_lets +onlyGivenNames -underBinder -merge -useContext x0
        have h1 : K g3 2147487236 a0 x0 := by
          refine K.step ?_ (ih _ _) rfl
          exact K.refl
        clear_value x0
        refine K.mk32 ?_
        refine K.of32 ?_
        exact h1
      · refine K.ite (fun _ => ?_) (fun _ => ?_)
        · extract_lets +onlyGivenNames -underBinder -merge -useContext x2
          have h3 : K g3 2147487236 a0 x2 := by
            refine K.step ?_ (ih _ _) rfl
            exact K.refl
          clear_value x2
          refine K.mk32 ?_
          refine K.of32 ?_
          exact h3
        · extract_lets +onlyGivenNames -underBinder -merge -useContext x4
          have h5 : K g3 2147487236 a0 x4 := by
            refine K.step ?_ (ih _ _) rfl
            exact K.refl
          clear_value x4
          refine K.mk3 ?_
          refine K.of3 ?_
          exact h5
    | write p rid k gpa pa bs ep =>
      rw [State.hifFlush]
      refine K.ite (fun _ => ?_) (fun _ => ?_)
      · extract_lets +onlyGivenNames -underBinder -merge -useContext x16
        have h17 : K g3 2147487236 a0 x16 := by
          refine K.step ?_ (ih _ _) rfl
          exact K.refl
        clear_value x16
        refine K.mk32 ?_
        refine K.of32 ?_
        exact h17
      · refine K.ite (fun _ => ?_) (fun _ => ?_)
        · extract_lets +onlyGivenNames -underBinder -merge -useContext x18
          have h19 : K g3 2147487236 a0 x18 := by
            refine K.step ?_ (ih _ _) rfl
            exact K.refl
          clear_value x18
          refine K.mk32 ?_
          refine K.of32 ?_
          exact h19
        · extract_lets +onlyGivenNames -underBinder -merge -useContext x20
          have h21 : K g3 2147487236 a0 x20 := by
            refine K.step ?_ (ih _ _) rfl
            exact K.refl
          clear_value x20
          refine K.mk32 ?_
          refine K.of32 ?_
          exact h21
    | edge rid v =>
      rw [State.hifFlush]
      refine K.ite (fun _ => ?_) (fun _ => ?_)
      · extract_lets +onlyGivenNames -underBinder -merge -useContext x6
        have h7 : K g3 2147487236 a0 x6 := by
          refine K.step ?_ (ih _ _) rfl
          exact K.refl
        clear_value x6
        refine K.mk32 ?_
        refine K.of32 ?_
        exact h7
      · refine K.ite (fun _ => ?_) (fun _ => ?_)
        · extract_lets +onlyGivenNames -underBinder -merge -useContext x8
          have h9 : K g3 2147487236 a0 x8 := by
            refine K.step ?_ (ih _ _) rfl
            exact K.refl
          clear_value x8
          refine K.mk32 ?_
          refine K.of32 ?_
          exact h9
        · refine K.step ?_ (ih _ _) rfl
          refine K.step ?_ (State.raiseEdge_keeps _ _) rfl
          exact K.refl
theorem State.hifQueue_keeps : ∀ a0 a1, K gS 2415922692 a0 (State.hifQueue a0 a1) := by
  intro a0 a1
  unfold State.hifQueue
  extract_lets +onlyGivenNames -underBinder -merge -useContext x0
  have h1 : K g3 2415922692 a0 x0 := by
    refine K.step ?_ (State.hifFlush_keeps _ _ _) rfl
    exact K.refl
  clear_value x0
  extract_lets +onlyGivenNames -underBinder -merge -useContext x2
  have h3 : K gS 2415922692 a0 x2 := by
    refine K.of3 ?_
    exact h1
  clear_value x2
  refine K.upd268435456 ?_ rfl
  exact h3

theorem State.inFault_keeps : ∀ a0 a1 a2 a3 a4, K gS 4 a0 (State.inFault a0 a1 a2 a3 a4) := by
  intro a0 a1 a2 a3 a4
  unfold State.inFault
  extract_lets +onlyGivenNames -underBinder -merge -useContext x0
  clear_value x0
  extract_lets +onlyGivenNames -underBinder -merge -useContext x1
  have h2 : K gS 4 a0 x1 := by
    refine K.step ?_ (State.bump_keeps _ _ _ _) rfl
    exact K.refl
  clear_value x1
  refine K.ite (fun _ => ?_) (fun _ => ?_)
  · exact h2
  · extract_lets +onlyGivenNames -underBinder -merge -useContext x3
    have h4 : K gS 4 a0 x3 := by
      refine K.step ?_ (State.setFld_keeps _ _ _ _) rfl
      refine K.step ?_ (State.setFld_keeps _ _ _ _) rfl
      refine K.step ?_ (State.setFld_keeps _ _ _ _) rfl
      exact h2
    clear_value x3
    refine K.step ?_ (State.setReg_keeps _ _ _) rfl
    refine K.step ?_ (State.setFlag_keeps _ _ _ _) rfl
    exact h4

theorem State.messageWrite_keeps : ∀ a0 a1 a2 a3, K gS 2415922692 a0 (State.messageWrite a0 a1 a2 a3) := by
  intro a0 a1 a2 a3
  unfold State.messageWrite
  extract_lets +onlyGivenNames -underBinder -merge -useContext x0
  clear_value x0
  extract_lets +onlyGivenNames -underBinder -merge -useContext x1
  clear_value x1
  refine K.ite (fun _ => ?_) (fun _ => ?_)
  · refine K.step ?_ (State.hifQueue_keeps _ _) rfl
    exact K.refl
  · refine K.step ?_ (State.bump_keeps _ _ _ _) rfl
    exact K.refl

theorem State.releasePort_keeps : ∀ a0 a1, K gS 4 a0 (State.releasePort a0 a1) := by
  intro a0 a1
  unfold State.releasePort
  refine K.ite (fun _ => ?_) (fun _ => ?_)
  · refine K.step ?_ (State.setFlag_keeps _ _ _ _) rfl
    exact K.refl
  · exact K.refl

theorem State.sendCpl_keeps : ∀ a0 a1, K gS 268435456 a0 (State.sendCpl a0 a1) := by
  intro a0 a1
  unfold State.sendCpl
  refine K.upd268435456 ?_ rfl
  exact K.refl

theorem State.writeBifcfg_keeps : ∀ a0 a1, K gS 4 a0 (State.writeBifcfg a0 a1) := by
  intro a0 a1
  unfold State.writeBifcfg
  extract_lets +onlyGivenNames -underBinder -merge -useContext x0
  clear_value x0
  refine K.ite (fun _ => ?_) (fun _ => ?_)
  · exact K.refl
  · refine K.step ?_ (State.setReg_keeps _ _ _) rfl
    exact K.refl

theorem State.writePctl_keeps : ∀ a0 a1 a2, K gS 4 a0 (State.writePctl a0 a1 a2) := by
  intro a0 a1 a2
  unfold State.writePctl
  refine K.ite (fun _ => ?_) (fun _ => ?_)
  · exact K.refl
  · extract_lets +onlyGivenNames -underBinder -merge -useContext x0
    clear_value x0
    extract_lets +onlyGivenNames -underBinder -merge -useContext x1
    have h2 : ∀ y3 y4, K gS 4 a0 y3 → K gS 4 a0 (x1 y3 y4) := by
      intro y3 y4 h5
      dsimp -zeta only [x1]
      refine K.step ?_ (State.setFld_keeps _ _ _ _) rfl
      exact h5
    clear_value x1
    extract_lets +onlyGivenNames -underBinder -merge -useContext x6
    have h7 : K gS 4 a0 x6 := by
      refine h2 _ _ ?_
      refine h2 _ _ ?_
      refine h2 _ _ ?_
      refine h2 _ _ ?_
      refine h2 _ _ ?_
      refine h2 _ _ ?_
      exact K.refl
    clear_value x6
    refine K.ite (fun _ => ?_) (fun _ => ?_)
    · refine K.step ?_ (State.releasePort_keeps _ _) rfl
      exact h7
    · exact h7

theorem State.writeRqcfg_keeps : ∀ a0 a1 a2, K gS 4 a0 (State.writeRqcfg a0 a1 a2) := by
  intro a0 a1 a2
  unfold State.writeRqcfg
  extract_lets +onlyGivenNames -underBinder -merge -useContext x0
  clear_value x0
  refine K.ite (fun _ => ?_) (fun _ => ?_)
  · exact K.refl
  · extract_lets +onlyGivenNames -underBinder -merge -useContext x1
    have h2 : K gS 4 a0 x1 := by
      refine K.step ?_ (State.setReg_keeps _ _ _) rfl
      exact K.refl
    clear_value x1
    extract_lets +onlyGivenNames -underBinder -merge -useContext x3
    clear_value x3
    refine K.ite (fun _ => ?_) (fun _ => ?_)
    · refine K.ite (fun _ => ?_) (fun _ => ?_)
      · exact h2
      · refine K.step ?_ (State.setFlag_keeps _ _ _ _) rfl
        exact h2
    · extract_lets +onlyGivenNames -underBinder -merge -useContext x4
      have h5 : ∀ y6 y7, K gS 4 a0 y6 → K gS 4 a0 (x4 y6 y7) := by
        intro y6 y7 h8
        dsimp -zeta only [x4]
        refine K.step ?_ (State.setFld_keeps _ _ _ _) rfl
        exact h8
      clear_value x4
      extract_lets +onlyGivenNames -underBinder -merge -useContext x9
      have h10 : K gS 4 a0 x9 := by
        refine h5 _ _ ?_
        refine h5 _ _ ?_
        refine h5 _ _ ?_
        exact h2
      clear_value x9
      refine K.ite (fun _ => ?_) (fun _ => ?_)
      · exact h10
      · split
        · refine K.step ?_ (State.setFld_keeps _ _ _ _) rfl
          refine K.step ?_ (State.setFlag_keeps _ _ _ _) rfl
          exact h10
        · refine K.step ?_ (State.setFlag_keeps _ _ _ _) rfl
          exact h10

theorem execBifcfgWrite_keeps : ∀ a0 a1, K gR 4 a1 (execBifcfgWrite a0 a1) := by
  intro a0 a1
  unfold execBifcfgWrite
  refine K.mkR ?_
  refine K.step ?_ (State.writeBifcfg_keeps _ _) rfl
  exact K.refl

theorem execCompletionReceive_keeps : ∀ a0 a1 a2 a3, K gR 8589935166 a3 (execCompletionReceive a0 a1 a2 a3) := by
  intro a0 a1 a2 a3
  unfold execCompletionReceive
  refine K.mkR ?_
  split
  · exact K.refl
  · refine K.ite (fun _ => ?_) (fun _ => ?_)
    · exact K.refl
    · split
      · extract_lets +onlyGivenNames -underBinder -merge -useContext x3
        have h4 : K gS 8589935166 a3 x3 := by
          refine K.step ?_ (State.modCore_keeps _ _ _) rfl
          exact K.refl
        clear_value x3
        refine K.step ?_ (State.ackTlb_keeps _ _) rfl
        refine K.step ?_ (State.finishLoad_keeps _ _ _ _ _ _) rfl
        exact h4
      · refine K.step ?_ (State.loadFault_keeps _ _ _ _) rfl
        refine K.step ?_ (State.bump_keeps _ _ _ _) rfl
        exact K.refl
      · refine K.step ?_ (State.loadFault_keeps _ _ _ _) rfl
        refine K.step ?_ (State.bump_keeps _ _ _ _) rfl
        exact K.refl

theorem execCompletionTimeout_keeps : ∀ a0 a1 a2, K gR 36 a2 (execCompletionTimeout a0 a1 a2) := by
  intro a0 a1 a2
  unfold execCompletionTimeout
  refine K.mkR ?_
  split
  · exact K.refl
  · refine K.step ?_ (State.loadFault_keeps _ _ _ _) rfl
    refine K.step ?_ (State.bump_keeps _ _ _ _) rfl
    exact K.refl

theorem execConfigurationRequest_keeps : ∀ a0 a1 a2 a3 a4, K gR 268435460 a4 (execConfigurationRequest a0 a1 a2 a3 a4) := by
  intro a0 a1 a2 a3 a4
  cases a2 with
  | some v =>
    exact K.mkR (K.ite (fun _ => K.refl) (fun _ => K.step K.refl (State.cfgWrite_keeps _ _ _ _) rfl))
  | none =>
    refine K.mkR (K.ite (fun _ => K.refl) (fun _ => ?_))
    cases a4.cfgRead a0 a1 a3 with
    | some v => exact K.upd268435456 K.refl rfl
    | none => exact K.refl

theorem execContainmentRelease_keeps : ∀ a0 a1 a2, K gR 4 a2 (execContainmentRelease a0 a1 a2) := by
  intro a0 a1 a2
  unfold execContainmentRelease
  refine K.mkR ?_
  refine K.step ?_ (State.writePctl_keeps _ _ _) rfl
  exact K.refl

theorem execCorrectableLinkOrTlpError_keeps : ∀ a0 a1 a2, K gR 8589934596 a2 (execCorrectableLinkOrTlpError a0 a1 a2) := by
  intro a0 a1 a2
  unfold execCorrectableLinkOrTlpError
  refine K.mkR ?_
  refine K.ite (fun _ => ?_) (fun _ => ?_)
  · exact K.refl
  · refine K.step ?_ (State.corrected_keeps _ _ _) rfl
    refine K.step ?_ (State.setHdrDword_keeps _ _ _ _) rfl
    exact K.refl

theorem execDlupChange_keeps : ∀ a0 a1 a2 a3 a4 a5, K gR 8589934628 a5 (execDlupChange a0 a1 a2 a3 a4 a5) := by
  intro a0 a1 a2 a3 a4 a5
  unfold execDlupChange
  extract_lets +onlyGivenNames -underBinder -merge -useContext x0
  clear_value x0
  refine K.mkR ?_
  refine K.ite (fun _ => ?_) (fun _ => ?_)
  · exact K.refl
  · extract_lets +onlyGivenNames -underBinder -merge -useContext x1
    have h2 : K gS 8589934628 a5 x1 := by
      refine K.step ?_ (State.setFlag_keeps _ _ _ _) rfl
      refine K.step ?_ (State.setFlag_keeps _ _ _ _) rfl
      exact K.refl
    clear_value x1
    extract_lets +onlyGivenNames -underBinder -merge -useContext x3
    have h4 : K gS 8589934628 a5 x3 := by
      refine K.step ?_ (State.setFld_keeps _ _ _ _) rfl
      refine K.step ?_ (State.setFld_keeps _ _ _ _) rfl
      exact h2
    clear_value x3
    refine K.ite (fun _ => ?_) (fun _ => ?_)
    · refine K.step ?_ (State.contain_keeps _ _) rfl
      exact h4
    · exact h4

theorem execInboundRequest_keeps : ∀ a0 a1 a2 a3, K gR 2415922692 a3 (execInboundRequest a0 a1 a2 a3) := by
  intro a0 a1 a2 a3
  unfold execInboundRequest
  refine K.mkR ?_
  refine K.ite (fun _ => ?_) (fun _ => ?_)
  · exact K.refl
  · refine K.ite (fun _ => ?_) (fun _ => ?_)
    · refine K.step ?_ (State.bump_keeps _ _ _ _) rfl
      exact K.refl
    · split
      · refine K.step ?_ (State.bump_keeps _ _ _ _) rfl
        exact K.refl
      · refine K.step ?_ (State.sendCpl_keeps _ _) rfl
        exact K.refl
      · split
        · refine K.step ?_ (State.sendCpl_keeps _ _) rfl
          refine K.step ?_ (State.inFault_keeps _ _ _ _ _) rfl
          exact K.refl
        · refine K.ite (fun _ => ?_) (fun _ => ?_)
          · refine K.upd268435456 ?_ rfl
            exact K.refl
          · refine K.step ?_ (State.hifQueue_keeps _ _) rfl
            refine K.step ?_ (State.inFault_keeps _ _ _ _ _) rfl
            refine K.step ?_ (State.engRefused_keeps _ _ _ _ _ _) rfl
            exact K.refl
      · refine K.ite (fun _ => ?_) (fun _ => ?_)
        · refine K.step ?_ (State.messageWrite_keeps _ _ _ _) rfl
          exact K.refl
        · split
          · refine K.step ?_ (State.inFault_keeps _ _ _ _ _) rfl
            exact K.refl
          · refine K.ite (fun _ => ?_) (fun _ => ?_)
            · refine K.upd268435456 ?_ rfl
              exact K.refl
            · refine K.step ?_ (State.inFault_keeps _ _ _ _ _) rfl
              refine K.step ?_ (State.engRefused_keeps _ _ _ _ _ _) rfl
              exact K.refl

theorem execInboundRequestPerformed_keeps : ∀ a0 a1, K gR 2415922814 a1 (execInboundRequestPerformed a0 a1) := by
  intro a0 a1
  unfold execInboundRequestPerformed
  extract_lets +onlyGivenNames -underBinder -merge -useContext x0
  clear_value x0
  refine K.mkR ?_
  split
  · refine K.ite (fun _ => ?_) (fun _ => ?_)
    · extract_lets +onlyGivenNames -underBinder -merge -useContext x2
      have h3 : K g3 2415922814 a1 x2 := by
        refine K.step ?_ (State.engRead_keeps _ _ _ _) rfl
        exact K.refl
      clear_value x2
      refine K.step ?_ (State.hifQueue_keeps _ _) rfl
      refine K.of3 ?_
      exact h3
    · refine K.step ?_ (State.hifQueue_keeps _ _) rfl
      refine K.step ?_ (State.inFault_keeps _ _ _ _ _) rfl
      refine K.step ?_ (State.bwLate_keeps _ _ _ _) rfl
      exact K.refl
  · refine K.ite (fun _ => ?_) (fun _ => ?_)
    · exact K.refl
    · refine K.ite (fun _ => ?_) (fun _ => ?_)
      · extract_lets +onlyGivenNames -underBinder -merge -useContext x5
        clear_value x5
        refine K.step ?_ (State.hifQueue_keeps _ _) rfl
        refine K.step ?_ (State.logGpa_keeps _ _ _ _ _) rfl
        refine K.step ?_ (State.engWrite_keeps _ _ _ _ _) rfl
        exact K.refl
      · refine K.step ?_ (State.hifQueue_keeps _ _) rfl
        refine K.step ?_ (State.inFault_keeps _ _ _ _ _) rfl
        refine K.step ?_ (State.bwLate_keeps _ _ _ _) rfl
        exact K.refl
  · exact K.refl

theorem execMessageWrite_keeps : ∀ a0 a1 a2 a3 a4, K gR 2415922692 a4 (execMessageWrite a0 a1 a2 a3 a4) := by
  intro a0 a1 a2 a3 a4
  unfold execMessageWrite
  refine K.mkR ?_
  refine K.ite (fun _ => ?_) (fun _ => ?_)
  · exact K.refl
  · refine K.ite (fun _ => ?_) (fun _ => ?_)
    · refine K.step ?_ (State.bump_keeps _ _ _ _) rfl
      exact K.refl
    · refine K.step ?_ (State.messageWrite_keeps _ _ _ _) rfl
      exact K.refl

theorem execPortEnable_keeps : ∀ a0 a1 a2, K gR 4 a2 (execPortEnable a0 a1 a2) := by
  intro a0 a1 a2
  unfold execPortEnable
  refine K.mkR ?_
  refine K.step ?_ (State.writePctl_keeps _ _ _) rfl
  exact K.refl

theorem execRqcfgDisable_keeps : ∀ a0 a1 a2, K gR 4 a2 (execRqcfgDisable a0 a1 a2) := by
  intro a0 a1 a2
  unfold execRqcfgDisable
  refine K.mkR ?_
  refine K.step ?_ (State.writeRqcfg_keeps _ _ _) rfl
  exact K.refl

theorem execRqcfgEnable_keeps : ∀ a0 a1 a2, K gR 4 a2 (execRqcfgEnable a0 a1 a2) := by
  intro a0 a1 a2
  unfold execRqcfgEnable
  refine K.mkR ?_
  refine K.step ?_ (State.writeRqcfg_keeps _ _ _) rfl
  exact K.refl

theorem execUncorrectableErrorDetected_keeps : ∀ a0 a1 a2, K gR 8589934628 a2 (execUncorrectableErrorDetected a0 a1 a2) := by
  intro a0 a1 a2
  unfold execUncorrectableErrorDetected
  refine K.mkR ?_
  refine K.ite (fun _ => ?_) (fun _ => ?_)
  · exact K.refl
  · extract_lets +onlyGivenNames -underBinder -merge -useContext x0
    have h1 : K gS 8589934628 a2 x0 := by
      refine K.step ?_ (State.setFlag_keeps _ _ _ _) rfl
      refine K.step ?_ (State.setHdrDword_keeps _ _ _ _) rfl
      exact K.refl
    clear_value x0
    refine K.ite (fun _ => ?_) (fun _ => ?_)
    · refine K.step ?_ (State.contain_keeps _ _) rfl
      exact h1
    · exact h1

theorem State.writePermit_keeps : ∀ a0 a1 a2 a3, K gS 4 a0 (State.writePermit a0 a1 a2 a3) := by
  intro a0 a1 a2 a3
  unfold State.writePermit
  refine K.ite (fun _ => ?_) (fun _ => ?_)
  · exact K.refl
  · refine K.step ?_ (State.writeReg_keeps _ _ _ _) rfl
    exact K.refl

theorem execTapInstruction_keeps : ∀ a0 a1 a2, K gR 1073741824 a2 (execTapInstruction a0 a1 a2) := by
  intro a0 a1 a2
  unfold execTapInstruction
  refine K.mkR ?_
  refine K.upd1073741824 ?_ rfl
  exact K.refl

theorem execTripLapse_keeps : ∀ a0, K gR 4 a0 (execTripLapse a0) := by
  intro a0
  unfold execTripLapse
  refine K.mkR ?_
  refine K.ite (fun _ => ?_) (fun _ => ?_)
  · exact K.refl
  · refine K.step ?_ (State.setFlag_keeps _ _ _ _) rfl
    refine K.step ?_ (State.setReg_keeps _ _ _) rfl
    exact K.refl

theorem execTrippermitWrite_keeps : ∀ a0 a1, K gR 4 a1 (execTrippermitWrite a0 a1) := by
  intro a0 a1
  unfold execTrippermitWrite
  refine K.mkR ?_
  refine K.step ?_ (State.writePermit_keeps _ _ _ _) rfl
  exact K.refl

end Sys2Proof.Machine
end

