-- ==== Sys2Proof/Laws/KeepsRegs.lean ====
section
/-!
SUPPORT. What each function and each command of Machine/Regs.lean can change (Laws/Keeps.lean), one lemma each.
-/
namespace Sys2Proof.Machine

theorem State.hookFnPage_keeps {w : Nat} {s : State} : ∀ a0 a1 a2 a3 a4 a5, K gS w s a0 → K gS w s a1 → w &&& 2147487236 = 2147487236 → K gS w s (State.hookFnPage a0 a1 a2 a3 a4 a5) := by
  intro a0 a1 a2 a3 a4 a5 hs0 hs1 hw
  unfold State.hookFnPage
  refine K.ite (fun _ => ?_) (fun _ => ?_)
  · refine K.step ?_ (State.writeTail_keeps _ _ _ _ _) (sub_trans hw rfl)
    exact hs0
  · refine K.ite (fun _ => ?_) (fun _ => ?_)
    · refine K.step ?_ (State.writeTail_keeps _ _ _ _ _) (sub_trans hw rfl)
      exact hs0
    · refine K.ite (fun _ => ?_) (fun _ => ?_)
      · refine K.step ?_ (State.fnUnmask_keeps _ _ _ _) (sub_trans hw rfl)
        exact hs0
      · exact hs1

theorem State.hookLane_keeps {w : Nat} {s : State} : ∀ a0 a1 a2 a3 a4 a5, K gS w s a0 → K gS w s a1 → w &&& 8847364 = 8847364 → K gS w s (State.hookLane a0 a1 a2 a3 a4 a5) := by
  intro a0 a1 a2 a3 a4 a5 hs0 hs1 hw
  unfold State.hookLane
  extract_lets +onlyGivenNames -underBinder -merge -useContext x0
  clear_value x0
  refine K.ite (fun _ => ?_) (fun _ => ?_)
  · refine K.orSame ?_ ?_
    · exact hs0
    · refine K.step ?_ (execFlnCtlWrite_keeps _ _ _) (sub_trans hw rfl)
      exact hs0
  · refine K.ite (fun _ => ?_) (fun _ => ?_)
    · refine K.step ?_ (State.preemptCfg_keeps _ _) (sub_trans hw rfl)
      exact hs1
    · refine K.ite (fun _ => ?_) (fun _ => ?_)
      · refine K.ite (fun _ => ?_) (fun _ => ?_)
        · refine K.orSame ?_ ?_
          · exact hs1
          · refine K.step ?_ (execGclSwap_keeps _ _) (sub_trans hw rfl)
            exact hs1
        · exact hs1
      · refine K.ite (fun _ => ?_) (fun _ => ?_)
        · refine K.orSame ?_ ?_
          · exact hs0
          · refine K.step ?_ (execFlnTxeqWrite_keeps _ _ _) (sub_trans hw rfl)
            exact hs0
        · exact hs1

theorem State.ignore_keeps : ∀ a0 a1 a2, K gS 4 a0 (State.ignore a0 a1 a2) := by
  intro a0 a1 a2
  unfold State.ignore
  refine K.step ?_ (State.setFlag_keeps _ _ _ _) rfl
  exact K.refl

theorem State.imgFixed_keeps {w : Nat} {s : State} : ∀ a0 a1 a2 a3 a4, K gS w s a0 → K gS w s a1 → w &&& 4 = 4 → K gS w s (State.imgFixed a0 a1 a2 a3 a4) := by
  intro a0 a1 a2 a3 a4 hs0 hs1 hw
  unfold State.imgFixed
  refine K.ite (fun _ => ?_) (fun _ => ?_)
  · refine K.ite (fun _ => ?_) (fun _ => ?_)
    · exact hs0
    · refine K.step ?_ (State.ignore_keeps _ _ _) (sub_trans hw rfl)
      exact hs0
  · exact hs1

theorem State.hookTide_keeps {w : Nat} {s : State} : ∀ a0 a1 a2 a3 a4 a5, K gS w s a0 → K gS w s a1 → w &&& 5242884 = 5242884 → K gS w s (State.hookTide a0 a1 a2 a3 a4 a5) := by
  intro a0 a1 a2 a3 a4 a5 hs0 hs1 hw
  unfold State.hookTide
  extract_lets +onlyGivenNames -underBinder -merge -useContext x0
  have h1 : ∀ y2, K gS w s (x0 y2) := by
    intro y2
    dsimp -zeta only [x0]
    refine K.ite (fun _ => ?_) (fun _ => ?_)
    · refine K.step ?_ (State.ignore_keeps _ _ _) (sub_trans hw rfl)
      exact hs0
    · exact hs1
  clear_value x0
  refine K.ite (fun _ => ?_) (fun _ => ?_)
  · refine K.orSame ?_ ?_
    · exact hs0
    · refine K.step ?_ (execSubforceWrite_keeps _ _ _) (sub_trans hw rfl)
      exact hs0
  · refine K.ite (fun _ => ?_) (fun _ => ?_)
    · extract_lets +onlyGivenNames -underBinder -merge -useContext x4
      clear_value x4
      extract_lets +onlyGivenNames -underBinder -merge -useContext x5
      clear_value x5
      refine K.ite (fun _ => ?_) (fun _ => ?_)
      · refine K.step ?_ (State.writeTtctl_keeps _ _ _ _) (sub_trans hw rfl)
        exact hs0
      · refine K.ite (fun _ => ?_) (fun _ => ?_)
        · exact h1 _
        · exact hs1
    · refine K.ite (fun _ => ?_) (fun _ => ?_)
      · extract_lets +onlyGivenNames -underBinder -merge -useContext x6
        clear_value x6
        extract_lets +onlyGivenNames -underBinder -merge -useContext x7
        clear_value x7
        refine K.ite (fun _ => ?_) (fun _ => ?_)
        · refine K.step ?_ (State.writeImgcfg_keeps _ _ _ _) (sub_trans hw rfl)
          exact hs0
        · refine K.ite (fun _ => ?_) (fun _ => ?_)
          · refine State.imgFixed_keeps _ _ _ _ _ ?_ ?_ (sub_trans hw rfl)
            · exact hs0
            · exact hs1
          · refine K.ite (fun _ => ?_) (fun _ => ?_)
            · refine K.ite (fun _ => ?_) (fun _ => ?_)
              · refine K.orSame ?_ ?_
                · exact hs0
                · refine K.step ?_ (execImageResume_keeps _ _ _) (sub_trans hw rfl)
                  exact hs0
              · exact hs0
            · exact hs1
      · refine K.ite (fun _ => ?_) (fun _ => ?_)
        · refine K.ite (fun _ => ?_) (fun _ => ?_)
          · refine K.orSame ?_ ?_
            · exact hs0
            · refine K.step ?_ (execStationCommit_keeps _ _ _) (sub_trans hw rfl)
              exact hs0
          · exact hs1
        · refine K.ite (fun _ => ?_) (fun _ => ?_)
          · exact h1 _
          · exact hs1

theorem State.hookFn_keeps {w : Nat} {s : State} : ∀ a0 a1 a2 a3 a4 a5 a6 a7, K gS w s a0 → K gS w s a1 → w &&& 8519684 = 8519684 → K gS w s (State.hookFn a0 a1 a2 a3 a4 a5 a6 a7) := by
  intro a0 a1 a2 a3 a4 a5 a6 a7 hs0 hs1 hw
  unfold State.hookFn
  extract_lets +onlyGivenNames -underBinder -merge -useContext x0
  clear_value x0
  refine K.ite (fun _ => ?_) (fun _ => ?_)
  · refine K.step ?_ (State.writeFncfg_keeps _ _ _ _) (sub_trans hw rfl)
    exact hs0
  · refine K.ite (fun _ => ?_) (fun _ => ?_)
    · refine K.step ?_ (State.writeShape_keeps _ _ _ _ _ _) (sub_trans hw rfl)
      exact hs0
    · refine K.ite (fun _ => ?_) (fun _ => ?_)
      · refine K.step ?_ (State.writeShape_keeps _ _ _ _ _ _) (sub_trans hw rfl)
        exact hs0
      · refine K.ite (fun _ => ?_) (fun _ => ?_)
        · refine K.ite (fun _ => ?_) (fun _ => ?_)
          · exact hs1
          · refine K.step ?_ (State.ignore_keeps _ _ _) (sub_trans hw rfl)
            exact hs0
        · refine K.ite (fun _ => ?_) (fun _ => ?_)
          · refine K.orSame ?_ ?_
            · exact hs0
            · refine K.step ?_ (execFilterWrite_keeps _ _ _ _ _) (sub_trans hw rfl)
              exact hs0
          · exact hs1

theorem State.hookFe_keeps {w : Nat} {s : State} : ∀ a0 a1 a2 a3 a4 a5, K gS w s a0 → K gS w s a1 → w &&& 2161577476 = 2161577476 → K gS w s (State.hookFe a0 a1 a2 a3 a4 a5) := by
  intro a0 a1 a2 a3 a4 a5 hs0 hs1 hw
  unfold State.hookFe
  extract_lets +onlyGivenNames -underBinder -merge -useContext x0
  clear_value x0
  extract_lets +onlyGivenNames -underBinder -merge -useContext x1
  clear_value x1
  refine K.ite (fun _ => ?_) (fun _ => ?_)
  · refine K.ite (fun _ => ?_) (fun _ => ?_)
    · refine K.orSame ?_ ?_
      · exact hs0
      · refine K.step ?_ (execFlnQctlWrite_keeps _ _ _) (sub_trans hw rfl)
        exact hs0
    · exact hs1
  · refine K.ite (fun _ => ?_) (fun _ => ?_)
    · refine State.hookLane_keeps _ _ _ _ _ _ ?_ ?_ (sub_trans hw rfl)
      · exact hs0
      · exact hs1
    · refine K.ite (fun _ => ?_) (fun _ => ?_)
      · refine State.hookFn_keeps _ _ _ _ _ _ _ _ ?_ ?_ (sub_trans hw rfl)
        · exact hs0
        · exact hs1
      · refine K.ite (fun _ => ?_) (fun _ => ?_)
        · refine State.hookFnPage_keeps _ _ _ _ _ _ ?_ ?_ (sub_trans hw rfl)
          · exact hs0
          · exact hs1
        · refine State.hookTide_keeps _ _ _ _ _ _ ?_ ?_ (sub_trans hw rfl)
          · exact hs0
          · exact hs1

theorem State.hookRtr_keeps {w : Nat} {s : State} : ∀ a0 a1 a2 a3, K gS w s a0 → K gS w s a1 → w &&& 8606713470 = 8606713470 → K gS w s (State.hookRtr a0 a1 a2 a3) := by
  intro a0 a1 a2 a3 hs0 hs1 hw
  unfold State.hookRtr
  extract_lets +onlyGivenNames -underBinder -merge -useContext x0
  clear_value x0
  extract_lets +onlyGivenNames -underBinder -merge -useContext x1
  clear_value x1
  refine K.ite (fun _ => ?_) (fun _ => ?_)
  · refine K.orSame ?_ ?_
    · exact hs0
    · refine K.step ?_ (execRtrTc0capWrite_keeps _ _ _) (sub_trans hw rfl)
      exact hs0
  · refine K.ite (fun _ => ?_) (fun _ => ?_)
    · extract_lets +onlyGivenNames -underBinder -merge -useContext x2
      clear_value x2
      extract_lets +onlyGivenNames -underBinder -merge -useContext x3
      have h4 : K gS w s x3 := by
        refine K.ite (fun _ => ?_) (fun _ => ?_)
        · refine K.step ?_ (State.startEbb_keeps _ _) (sub_trans hw rfl)
          exact hs1
        · exact hs1
      clear_value x3
      extract_lets +onlyGivenNames -underBinder -merge -useContext x5
      have h6 : K gS w s x5 := by
        refine K.ite (fun _ => ?_) (fun _ => ?_)
        · refine K.step ?_ (State.reopen_keeps _ _) (sub_trans hw rfl)
          exact h4
        · exact h4
      clear_value x5
      refine K.ite (fun _ => ?_) (fun _ => ?_)
      · refine K.orSame ?_ ?_
        · exact h6
        · refine K.step ?_ (execDeclare_keeps _ _) (sub_trans hw rfl)
          exact h6
      · exact h6
    · refine K.ite (fun _ => ?_) (fun _ => ?_)
      · refine K.orSame ?_ ?_
        · exact hs0
        · refine K.step ?_ (execRtrTc0bktWrite_keeps _ _ _ _) (sub_trans hw rfl)
          exact hs0
      · exact hs1

theorem State.hookPrt_keeps {w : Nat} {s : State} : ∀ a0 a1 a2 a3 a4 a5, K gS w s a0 → K gS w s a1 → w &&& 10737471006 = 10737471006 → K gS w s (State.hookPrt a0 a1 a2 a3 a4 a5) := by
  intro a0 a1 a2 a3 a4 a5 hs0 hs1 hw
  unfold State.hookPrt
  refine K.ite (fun _ => ?_) (fun _ => ?_)
  · refine K.orSame ?_ ?_
    · exact hs0
    · refine K.step ?_ (execPrtPcfgWrite_keeps _ _ _) (sub_trans hw rfl)
      exact hs0
  · refine K.ite (fun _ => ?_) (fun _ => ?_)
    · extract_lets +onlyGivenNames -underBinder -merge -useContext x0
      clear_value x0
      refine K.ite (fun _ => ?_) (fun _ => ?_)
      · refine K.step ?_ (State.writeDlcfg_keeps _ _ _) (sub_trans hw rfl)
        exact hs0
      · refine K.ite (fun _ => ?_) (fun _ => ?_)
        · exact hs0
        · exact hs1
    · refine K.ite (fun _ => ?_) (fun _ => ?_)
      · refine K.step ?_ (State.writeMemtok_keeps _ _ _ _ _) (sub_trans hw rfl)
        exact hs0
      · refine K.ite (fun _ => ?_) (fun _ => ?_)
        · refine K.orSame ?_ ?_
          · exact hs0
          · refine K.step ?_ (execPrtPrst_keeps _ _) (sub_trans hw rfl)
            exact hs0
        · exact hs1

theorem State.hookHif_keeps {w : Nat} {s : State} : ∀ a0 a1 a2 a3, K gS w s a0 → K gS w s a1 → w &&& 4 = 4 → K gS w s (State.hookHif a0 a1 a2 a3) := by
  intro a0 a1 a2 a3 hs0 hs1 hw
  unfold State.hookHif
  extract_lets +onlyGivenNames -underBinder -merge -useContext x0
  clear_value x0
  refine K.ite (fun _ => ?_) (fun _ => ?_)
  · refine K.step ?_ (State.writeBifcfg_keeps _ _) (sub_trans hw rfl)
    exact hs0
  · refine K.ite (fun _ => ?_) (fun _ => ?_)
    · extract_lets +onlyGivenNames -underBinder -merge -useContext x1
      clear_value x1
      refine K.ite (fun _ => ?_) (fun _ => ?_)
      · exact hs0
      · refine K.ite (fun _ => ?_) (fun _ => ?_)
        · refine K.step ?_ (State.writePctl_keeps _ _ _) (sub_trans hw rfl)
          exact hs0
        · exact hs1
    · refine K.ite (fun _ => ?_) (fun _ => ?_)
      · extract_lets +onlyGivenNames -underBinder -merge -useContext x2
        clear_value x2
        refine K.ite (fun _ => ?_) (fun _ => ?_)
        · refine K.step ?_ (State.writeRqcfg_keeps _ _ _) (sub_trans hw rfl)
          exact hs0
        · refine K.ite (fun _ => ?_) (fun _ => ?_)
          · exact hs0
          · exact hs1
      · exact hs1

theorem State.hookTile_keeps {w : Nat} {s : State} : ∀ a0 a1 a2 a3, K gS w s a0 → K gS w s a1 → w &&& 196 = 196 → K gS w s (State.hookTile a0 a1 a2 a3) := by
  intro a0 a1 a2 a3 hs0 hs1 hw
  unfold State.hookTile
  extract_lets +onlyGivenNames -underBinder -merge -useContext x0
  clear_value x0
  extract_lets +onlyGivenNames -underBinder -merge -useContext x1
  clear_value x1
  refine K.ite (fun _ => ?_) (fun _ => ?_)
  · refine K.orSame ?_ ?_
    · exact hs0
    · refine K.step ?_ (execCastCountWrite_keeps _ _ _) (sub_trans hw rfl)
      exact hs0
  · refine K.ite (fun _ => ?_) (fun _ => ?_)
    · refine K.orSame ?_ ?_
      · exact hs0
      · refine K.step ?_ (execCastCountWrite_keeps _ _ _) (sub_trans hw rfl)
        exact hs0
    · refine K.ite (fun _ => ?_) (fun _ => ?_)
      · refine K.orSame ?_ ?_
        · exact hs0
        · refine K.step ?_ (execCastCountWrite_keeps _ _ _) (sub_trans hw rfl)
          exact hs0
      · refine K.ite (fun _ => ?_) (fun _ => ?_)
        · refine K.step ?_ (State.mntSubmit_keeps _ _ _ _ _) (sub_trans hw rfl)
          exact hs1
        · refine K.ite (fun _ => ?_) (fun _ => ?_)
          · refine K.step ?_ (State.mntSubmit_keeps _ _ _ _ _) (sub_trans hw rfl)
            exact hs1
          · exact hs1

theorem State.hookIrq_keeps {w : Nat} {s : State} : ∀ a0 a1 a2 a3, K gS w s a0 → K gS w s a1 → w &&& 2147487236 = 2147487236 → K gS w s (State.hookIrq a0 a1 a2 a3) := by
  intro a0 a1 a2 a3 hs0 hs1 hw
  unfold State.hookIrq
  extract_lets +onlyGivenNames -underBinder -merge -useContext x0
  clear_value x0
  refine K.ite (fun _ => ?_) (fun _ => ?_)
  · refine K.orSame ?_ ?_
    · exact hs0
    · refine K.step ?_ (execIrqCtlWrite_keeps _ _) (sub_trans hw rfl)
      exact hs0
  · refine K.ite (fun _ => ?_) (fun _ => ?_)
    · refine K.ite (fun _ => ?_) (fun _ => ?_)
      · refine K.orSame ?_ ?_
        · exact hs0
        · refine K.step ?_ (execIrqPdisc_keeps _ _) (sub_trans hw rfl)
          exact hs0
      · exact hs1
    · refine K.ite (fun _ => ?_) (fun _ => ?_)
      · refine K.orSame ?_ ?_
        · exact hs0
        · refine K.step ?_ (execIrqEnset_keeps _ _ _ _) (sub_trans hw rfl)
          exact hs0
      · refine K.ite (fun _ => ?_) (fun _ => ?_)
        · refine K.orSame ?_ ?_
          · exact hs0
          · refine K.step ?_ (execIrqEnclr_keeps _ _ _ _) (sub_trans hw rfl)
            exact hs0
        · refine K.ite (fun _ => ?_) (fun _ => ?_)
          · refine K.orSame ?_ ?_
            · exact hs0
            · refine K.step ?_ (execIrqPendset_keeps _ _ _ _) (sub_trans hw rfl)
              exact hs0
          · refine K.ite (fun _ => ?_) (fun _ => ?_)
            · refine K.orSame ?_ ?_
              · exact hs0
              · refine K.step ?_ (execIrqPendclr_keeps _ _ _ _) (sub_trans hw rfl)
                exact hs0
            · refine K.ite (fun _ => ?_) (fun _ => ?_)
              · refine K.orSame ?_ ?_
                · exact hs0
                · refine K.step ?_ (execIrqVcoreWrite_keeps _ _ _) (sub_trans hw rfl)
                  exact hs0
              · refine K.ite (fun _ => ?_) (fun _ => ?_)
                · extract_lets +onlyGivenNames -underBinder -merge -useContext x1
                  clear_value x1
                  split
                  · refine K.orSame ?_ ?_
                    · exact hs0
                    · refine K.step ?_ (execIrqPtbaseWrite_keeps _ _ _) (sub_trans hw rfl)
                      exact hs0
                  · refine K.orSame ?_ ?_
                    · exact hs0
                    · refine K.step ?_ (execIrqPttailWrite_keeps _ _ _) (sub_trans hw rfl)
                      exact hs0
                  · exact hs1
                · refine K.ite (fun _ => ?_) (fun _ => ?_)
                  · refine K.orSame ?_ ?_
                    · exact hs0
                    · refine K.step ?_ (execIrqCfgWrite_keeps _ _ _) (sub_trans hw rfl)
                      exact hs0
                  · refine K.ite (fun _ => ?_) (fun _ => ?_)
                    · refine K.orSame ?_ ?_
                      · exact hs0
                      · refine K.step ?_ (execIrqSwsend_keeps _ _ _) (sub_trans hw rfl)
                        exact hs0
                    · exact hs1

theorem State.writeTtadj_keeps : ∀ a0 a1 a2 a3, K gS 65572 a0 (State.writeTtadj a0 a1 a2 a3) := by
  intro a0 a1 a2 a3
  unfold State.writeTtadj
  refine K.ite (fun _ => ?_) (fun _ => ?_)
  · refine K.orSame ?_ ?_
    · exact K.refl
    · refine K.step ?_ (execTtadjLowerHalf_keeps _ _) rfl
      exact K.refl
  · extract_lets +onlyGivenNames -underBinder -merge -useContext x0
    clear_value x0
    refine K.step ?_ (State.ttAdjust_keeps _ _ _) rfl
    exact K.refl

theorem State.hookChip_keeps {w : Nat} {s : State} : ∀ a0 a1 a2 a3 a4 a5, K gS w s a0 → K gS w s a1 → w &&& 74020 = 74020 → K gS w s (State.hookChip a0 a1 a2 a3 a4 a5) := by
  intro a0 a1 a2 a3 a4 a5 hs0 hs1 hw
  unfold State.hookChip
  refine K.ite (fun _ => ?_) (fun _ => ?_)
  · refine K.orSame ?_ ?_
    · exact hs0
    · refine K.step ?_ (execFellClear_keeps _ _) (sub_trans hw rfl)
      exact hs0
  · refine K.ite (fun _ => ?_) (fun _ => ?_)
    · refine K.ite (fun _ => ?_) (fun _ => ?_)
      · refine K.orSame ?_ ?_
        · exact hs1
        · refine K.step ?_ (execHomesetApply_keeps _) (sub_trans hw rfl)
          exact hs1
      · exact hs1
    · refine K.ite (fun _ => ?_) (fun _ => ?_)
      · refine K.ite (fun _ => ?_) (fun _ => ?_)
        · refine K.step ?_ (State.startPebb_keeps _ _) (sub_trans hw rfl)
          exact hs1
        · exact hs1
      · refine K.ite (fun _ => ?_) (fun _ => ?_)
        · refine K.ite (fun _ => ?_) (fun _ => ?_)
          · refine K.orSame ?_ ?_
            · exact hs1
            · refine K.step ?_ (execDramctlApply_keeps _) (sub_trans hw rfl)
              exact hs1
          · exact hs1
        · refine K.ite (fun _ => ?_) (fun _ => ?_)
          · refine K.ite (fun _ => ?_) (fun _ => ?_)
            · exact hs1
            · refine K.orSame ?_ ?_
              · exact hs0
              · refine K.step ?_ (execTtctlRoleWrite_keeps _ _) (sub_trans hw rfl)
                exact hs0
          · refine K.ite (fun _ => ?_) (fun _ => ?_)
            · refine K.step ?_ (State.writeTtadj_keeps _ _ _ _) (sub_trans hw rfl)
              exact hs0
            · refine K.ite (fun _ => ?_) (fun _ => ?_)
              · refine K.ite (fun _ => ?_) (fun _ => ?_)
                · exact hs0
                · exact hs1
              · refine K.ite (fun _ => ?_) (fun _ => ?_)
                · refine K.step ?_ (State.writePermit_keeps _ _ _ _) (sub_trans hw rfl)
                  exact hs0
                · exact hs1

theorem State.hookSvc_keeps {w : Nat} {s : State} : ∀ a0 a1 a2 a3, K gS w s a0 → K gS w s a1 → w &&& 2298482302 = 2298482302 → K gS w s (State.hookSvc a0 a1 a2 a3) := by
  intro a0 a1 a2 a3 hs0 hs1 hw
  unfold State.hookSvc
  refine K.ite (fun _ => ?_) (fun _ => ?_)
  · refine K.step ?_ (State.writeWdctl_keeps _ _) (sub_trans hw rfl)
    exact hs0
  · refine K.ite (fun _ => ?_) (fun _ => ?_)
    · refine K.step ?_ (State.writeWdkick_keeps _ _) (sub_trans hw rfl)
      exact hs0
    · refine K.ite (fun _ => ?_) (fun _ => ?_)
      · refine K.step ?_ (State.writeFlcmd_keeps _ _) (sub_trans hw rfl)
        exact hs0
      · refine K.ite (fun _ => ?_) (fun _ => ?_)
        · refine K.step ?_ (State.writeFusecmd_keeps _ _) (sub_trans hw rfl)
          exact hs0
        · refine K.ite (fun _ => ?_) (fun _ => ?_)
          · refine K.step ?_ (State.writeCorectl_keeps _ _ _) (sub_trans hw rfl)
            exact hs0
          · exact hs1

theorem State.hookErr_keeps {w : Nat} {s : State} : ∀ a0 a1 a2 a3, K gS w s a0 → K gS w s a1 → w &&& 4 = 4 → K gS w s (State.hookErr a0 a1 a2 a3) := by
  intro a0 a1 a2 a3 hs0 hs1 hw
  unfold State.hookErr
  refine K.ite (fun _ => ?_) (fun _ => ?_)
  · refine K.orSame ?_ ?_
    · exact hs0
    · refine K.step ?_ (execErrLogtailWrite_keeps _ _) (sub_trans hw rfl)
      exact hs0
  · refine K.ite (fun _ => ?_) (fun _ => ?_)
    · refine K.ite (fun _ => ?_) (fun _ => ?_)
      · refine K.orSame ?_ ?_
        · exact hs1
        · refine K.step ?_ (execSelfTestGo_keeps _ _) (sub_trans hw rfl)
          exact hs1
      · exact hs1
    · refine K.ite (fun _ => ?_) (fun _ => ?_)
      · extract_lets +onlyGivenNames -underBinder -merge -useContext x0
        have h1 : K gS w s x0 := by
          refine K.ite (fun _ => ?_) (fun _ => ?_)
          · refine K.step ?_ (State.disarm_keeps _) (sub_trans hw rfl)
            exact hs1
          · exact hs1
        clear_value x0
        refine K.ite (fun _ => ?_) (fun _ => ?_)
        · refine K.orSame ?_ ?_
          · exact hs0
          · refine K.step ?_ (execErrInjArm_keeps _ _) (sub_trans hw rfl)
            refine K.ite (fun _ => ?_) (fun _ => ?_)
            · refine K.step ?_ (State.disarm_keeps _) (sub_trans hw rfl)
              exact hs0
            · exact hs0
        · exact h1
      · exact hs1

theorem State.writeDbstat_keeps : ∀ a0 a1 a2 a3, K gS 4 a0 (State.writeDbstat a0 a1 a2 a3) := by
  intro a0 a1 a2 a3
  unfold State.writeDbstat
  extract_lets +onlyGivenNames -underBinder -merge -useContext x0
  have h1 : K gS 4 a0 x0 := by
    refine K.ite (fun _ => ?_) (fun _ => ?_)
    · refine K.step ?_ (State.setFlag_keeps _ _ _ _) rfl
      exact K.refl
    · exact K.refl
  clear_value x0
  refine K.ite (fun _ => ?_) (fun _ => ?_)
  · refine K.step ?_ (State.setFlag_keeps _ _ _ _) rfl
    exact h1
  · exact h1

theorem State.hookLdl_keeps {w : Nat} {s : State} : ∀ a0 a1 a2 a3, K gS w s a0 → K gS w s a1 → w &&& 2197818884 = 2197818884 → K gS w s (State.hookLdl a0 a1 a2 a3) := by
  intro a0 a1 a2 a3 hs0 hs1 hw
  unfold State.hookLdl
  extract_lets +onlyGivenNames -underBinder -merge -useContext x0
  clear_value x0
  extract_lets +onlyGivenNames -underBinder -merge -useContext x1
  clear_value x1
  refine K.ite (fun _ => ?_) (fun _ => ?_)
  · refine K.orSame ?_ ?_
    · exact hs0
    · refine K.step ?_ (execEventFlagWrite_keeps _ _ _ _ _) (sub_trans hw rfl)
      exact hs0
  · refine K.ite (fun _ => ?_) (fun _ => ?_)
    · refine K.orSame ?_ ?_
      · exact hs0
      · refine K.step ?_ (execEventFlagWrite_keeps _ _ _ _ _) (sub_trans hw rfl)
        exact hs0
    · refine K.ite (fun _ => ?_) (fun _ => ?_)
      · extract_lets +onlyGivenNames -underBinder -merge -useContext x2
        clear_value x2
        extract_lets +onlyGivenNames -underBinder -merge -useContext x3
        clear_value x3
        refine K.ite (fun _ => ?_) (fun _ => ?_)
        · refine K.step ?_ (State.writeChcfg_keeps _ _ _ _) (sub_trans hw rfl)
          exact hs0
        · refine K.ite (fun _ => ?_) (fun _ => ?_)
          · refine K.ite (fun _ => ?_) (fun _ => ?_)
            · exact hs1
            · refine K.step ?_ (State.ignore_keeps _ _ _) (sub_trans hw rfl)
              exact hs0
          · exact hs1
      · refine K.ite (fun _ => ?_) (fun _ => ?_)
        · extract_lets +onlyGivenNames -underBinder -merge -useContext x4
          clear_value x4
          extract_lets +onlyGivenNames -underBinder -merge -useContext x5
          clear_value x5
          refine K.ite (fun _ => ?_) (fun _ => ?_)
          · refine K.step ?_ (State.writeDbcmd_keeps _ _ _ _) (sub_trans hw rfl)
            exact hs0
          · refine K.ite (fun _ => ?_) (fun _ => ?_)
            · refine K.step ?_ (State.writeDbstat_keeps _ _ _ _) (sub_trans hw rfl)
              exact hs0
            · refine K.ite (fun _ => ?_) (fun _ => ?_)
              · refine K.step ?_ (State.ldlUnmask_keeps _ _ _ _) (sub_trans hw rfl)
                exact hs0
              · refine K.ite (fun _ => ?_) (fun _ => ?_)
                · refine K.orSame ?_ ?_
                  · exact hs0
                  · refine K.step ?_ (execEventFlagWrite_keeps _ _ _ _ _) (sub_trans hw rfl)
                    exact hs0
                · refine K.ite (fun _ => ?_) (fun _ => ?_)
                  · refine K.orSame ?_ ?_
                    · exact hs0
                    · refine K.step ?_ (execEventFlagWrite_keeps _ _ _ _ _) (sub_trans hw rfl)
                      exact hs0
                  · refine K.ite (fun _ => ?_) (fun _ => ?_)
                    · refine K.step ?_ (State.writeDbreg_keeps _ _ _ _ _ _) (sub_trans hw rfl)
                      exact hs0
                    · exact hs1
        · exact hs1

theorem State.pprGo_keeps : ∀ a0 a1 a2, K gS 16390 a0 (State.pprGo a0 a1 a2) := by
  intro a0 a1 a2
  unfold State.pprGo
  extract_lets +onlyGivenNames -underBinder -merge -useContext x0
  have h1 : K g2 16390 a0 x0 := by
    refine K.step ?_ (State.choose_keeps _ _) rfl
    exact K.refl
  clear_value x0
  extract_lets +onlyGivenNames -underBinder -merge -useContext x2
  have h3 : K g2 16390 a0 x2 := by
    refine K.step ?_ (State.choose_keeps _ _) rfl
    refine K.of2 ?_
    exact h1
  clear_value x2
  refine K.step ?_ (State.startPpr_keeps _ _ _ _ _ _) rfl
  refine K.of2 ?_
  exact h3

theorem State.hookMc_keeps {w : Nat} {s : State} : ∀ a0 a1 a2 a3, K gS w s a0 → K gS w s a1 → w &&& 16414 = 16414 → K gS w s (State.hookMc a0 a1 a2 a3) := by
  intro a0 a1 a2 a3 hs0 hs1 hw
  unfold State.hookMc
  extract_lets +onlyGivenNames -underBinder -merge -useContext x0
  clear_value x0
  extract_lets +onlyGivenNames -underBinder -merge -useContext x1
  clear_value x1
  refine K.ite (fun _ => ?_) (fun _ => ?_)
  · extract_lets +onlyGivenNames -underBinder -merge -useContext x2
    have h3 : K gS w s x2 := by
      refine K.ite (fun _ => ?_) (fun _ => ?_)
      · refine K.step ?_ (State.discardSaved_keeps _ _) (sub_trans hw rfl)
        exact hs1
      · exact hs1
    clear_value x2
    refine K.ite (fun _ => ?_) (fun _ => ?_)
    · refine K.ite (fun _ => ?_) (fun _ => ?_)
      · refine K.step ?_ (State.trainResume_keeps _ _) (sub_trans hw rfl)
        exact h3
      · refine K.step ?_ (State.trainFull_keeps _ _) (sub_trans hw rfl)
        exact h3
    · exact h3
  · refine K.ite (fun _ => ?_) (fun _ => ?_)
    · refine K.ite (fun _ => ?_) (fun _ => ?_)
      · refine K.step ?_ (State.startSparing_keeps _ _ _) (sub_trans hw rfl)
        exact hs1
      · exact hs1
    · refine K.ite (fun _ => ?_) (fun _ => ?_)
      · refine K.ite (fun _ => ?_) (fun _ => ?_)
        · refine K.step ?_ (State.pprGo_keeps _ _ _) (sub_trans hw rfl)
          exact hs1
        · exact hs1
      · refine K.ite (fun _ => ?_) (fun _ => ?_)
        · refine K.ite (fun _ => ?_) (fun _ => ?_)
          · refine K.step ?_ (State.ignore_keeps _ _ _) (sub_trans hw rfl)
            exact hs0
          · exact hs1
        · refine K.ite (fun _ => ?_) (fun _ => ?_)
          · refine K.orSame ?_ ?_
            · exact hs0
            · refine K.step ?_ (execMcTc0ctlWrite_keeps _ _ _) (sub_trans hw rfl)
              exact hs0
          · refine K.ite (fun _ => ?_) (fun _ => ?_)
            · extract_lets +onlyGivenNames -underBinder -merge -useContext x4
              clear_value x4
              refine K.ite (fun _ => ?_) (fun _ => ?_)
              · refine K.ite (fun _ => ?_) (fun _ => ?_)
                · exact hs0
                · refine K.orSame ?_ ?_
                  · exact hs0
                  · refine K.step ?_ (execSrreqSet_keeps _ _) (sub_trans hw rfl)
                    exact hs0
              · refine K.ite (fun _ => ?_) (fun _ => ?_)
                · refine K.orSame ?_ ?_
                  · exact hs0
                  · refine K.step ?_ (execSrreqClear_keeps _ _) (sub_trans hw rfl)
                    exact hs0
                · exact hs0
            · exact hs1

theorem State.hookId_keeps {w : Nat} {s : State} : ∀ a0 a1 a2 a3, K gS w s a0 → K gS w s a1 → w &&& 9126805508 = 9126805508 → K gS w s (State.hookId a0 a1 a2 a3) := by
  intro a0 a1 a2 a3 hs0 hs1 hw
  unfold State.hookId
  refine K.ite (fun _ => ?_) (fun _ => ?_)
  · refine K.step ?_ (State.writeHmcmd_keeps _ _ _) (sub_trans hw rfl)
    exact hs0
  · refine K.ite (fun _ => ?_) (fun _ => ?_)
    · refine K.step ?_ (State.writeChalcmd_keeps _ _ _) (sub_trans hw rfl)
      exact hs0
    · exact hs1

theorem State.hookPwr_keeps {w : Nat} {s : State} : ∀ a0 a1 a2 a3, K gS w s a0 → K gS w s a1 → w &&& 6845071102 = 6845071102 → K gS w s (State.hookPwr a0 a1 a2 a3) := by
  intro a0 a1 a2 a3 hs0 hs1 hw
  unfold State.hookPwr
  refine K.ite (fun _ => ?_) (fun _ => ?_)
  · refine K.step ?_ (State.writeAvsctl_keeps _ _) (sub_trans hw rfl)
    exact hs0
  · refine K.ite (fun _ => ?_) (fun _ => ?_)
    · refine K.step ?_ (State.writeDom_keeps _ _ _) (sub_trans hw rfl)
      exact hs0
    · exact hs1

theorem State.ctlWrite_keeps : ∀ a0 a1 a2 a3, K gS 16106127358 a0 (State.ctlWrite a0 a1 a2 a3) := by
  intro a0 a1 a2 a3
  unfold State.ctlWrite
  extract_lets +onlyGivenNames -underBinder -merge -useContext x0
  clear_value x0
  extract_lets +onlyGivenNames -underBinder -merge -useContext x1
  have h2 : K gS 16106127358 a0 x1 := by
    refine K.step ?_ (State.writeReg_keeps _ _ _ _) rfl
    exact K.refl
  clear_value x1
  extract_lets +onlyGivenNames -underBinder -merge -useContext x3
  clear_value x3
  refine K.ite (fun _ => ?_) (fun _ => ?_)
  · refine State.hookChip_keeps _ _ _ _ _ _ ?_ ?_ rfl
    · exact K.refl
    · exact h2
  · refine K.ite (fun _ => ?_) (fun _ => ?_)
    · refine State.hookSvc_keeps _ _ _ _ ?_ ?_ rfl
      · exact K.refl
      · exact h2
    · refine K.ite (fun _ => ?_) (fun _ => ?_)
      · refine State.hookId_keeps _ _ _ _ ?_ ?_ rfl
        · exact K.refl
        · exact h2
      · refine K.ite (fun _ => ?_) (fun _ => ?_)
        · refine State.hookPrt_keeps _ _ _ _ _ _ ?_ ?_ rfl
          · exact K.refl
          · exact h2
        · refine K.ite (fun _ => ?_) (fun _ => ?_)
          · refine State.hookRtr_keeps _ _ _ _ ?_ ?_ rfl
            · exact K.refl
            · exact h2
          · refine K.ite (fun _ => ?_) (fun _ => ?_)
            · exact h2
            · refine K.ite (fun _ => ?_) (fun _ => ?_)
              · refine State.hookTile_keeps _ _ _ _ ?_ ?_ rfl
                · exact K.refl
                · exact h2
              · refine K.ite (fun _ => ?_) (fun _ => ?_)
                · refine State.hookMc_keeps _ _ _ _ ?_ ?_ rfl
                  · exact K.refl
                  · exact h2
                · refine K.ite (fun _ => ?_) (fun _ => ?_)
                  · refine State.hookFe_keeps _ _ _ _ _ _ ?_ ?_ rfl
                    · exact K.refl
                    · exact h2
                  · refine K.ite (fun _ => ?_) (fun _ => ?_)
                    · refine State.hookLdl_keeps _ _ _ _ ?_ ?_ rfl
                      · exact K.refl
                      · exact h2
                    · refine K.ite (fun _ => ?_) (fun _ => ?_)
                      · refine State.hookIrq_keeps _ _ _ _ ?_ ?_ rfl
                        · exact K.refl
                        · exact h2
                      · refine K.ite (fun _ => ?_) (fun _ => ?_)
                        · refine State.hookPwr_keeps _ _ _ _ ?_ ?_ rfl
                          · exact K.refl
                          · exact h2
                        · refine K.ite (fun _ => ?_) (fun _ => ?_)
                          · refine State.hookHif_keeps _ _ _ _ ?_ ?_ rfl
                            · exact K.refl
                            · exact h2
                          · refine K.ite (fun _ => ?_) (fun _ => ?_)
                            · refine State.hookErr_keeps _ _ _ _ ?_ ?_ rfl
                              · exact K.refl
                              · exact h2
                            · refine K.step ?_ (State.cfgWrite_keeps _ _ _ _) rfl
                              exact K.refl

theorem execRcCounterRead_keeps : ∀ a0 a1 a2 a3 a4, K gR 34359738374 a4 (execRcCounterRead a0 a1 a2 a3 a4) := by
  intro a0 a1 a2 a3 a4
  unfold execRcCounterRead
  refine K.ite (fun _ => ?_) (fun _ => ?_)
  · refine K.mkR ?_
    refine K.ite (fun _ => ?_) (fun _ => ?_)
    · extract_lets +onlyGivenNames -underBinder -merge -useContext x0
      clear_value x0
      extract_lets +onlyGivenNames -underBinder -merge -useContext x1
      clear_value x1
      extract_lets +onlyGivenNames -underBinder -merge -useContext x2
      have h3 : K g2 34359738374 a4 x2 := by
        refine K.step ?_ (State.choose_keeps _ _) rfl
        exact K.refl
      clear_value x2
      extract_lets +onlyGivenNames -underBinder -merge -useContext x4
      have h5 : ∀ y6, K gS 34359738374 a4 y6 → K gS 34359738374 a4 (x4 y6) := by
        intro y6 h7
        dsimp -zeta only [x4]
        split
        · refine K.ite (fun _ => ?_) (fun _ => ?_)
          · exact h7
          · refine K.step ?_ (State.bump_keeps _ _ _ _) rfl
            exact h7
        · exact h7
      clear_value x4
      extract_lets +onlyGivenNames -underBinder -merge -useContext x10
      clear_value x10
      extract_lets +onlyGivenNames -underBinder -merge -useContext x11
      have h12 : K gS 34359738374 a4 x11 := by
        refine K.ite (fun _ => ?_) (fun _ => ?_)
        · refine K.of2 ?_
          exact h3
        · exact K.refl
      clear_value x11
      extract_lets +onlyGivenNames -underBinder -merge -useContext x13
      have h14 : K g2 34359738374 a4 x13 := by
        refine K.step ?_ (State.readCtl_keeps _ _ _) rfl
        refine K.ite (fun _ => ?_) (fun _ => ?_)
        · refine h5 _ ?_
          exact h12
        · exact h12
      clear_value x13
      extract_lets +onlyGivenNames -underBinder -merge -useContext x15
      have h16 : K gS 34359738374 a4 x15 := by
        refine K.ite (fun _ => ?_) (fun _ => ?_)
        · refine K.of2 ?_
          exact h14
        · refine h5 _ ?_
          refine K.of2 ?_
          exact h14
      clear_value x15
      refine K.upd34359738368 ?_ rfl
      exact h16
    · exact K.refl
  · exact K.fault

theorem execRegisterWrite_keeps : ∀ a0 a1 a2, K gR 16106127358 a2 (execRegisterWrite a0 a1 a2) := by
  intro a0 a1 a2
  unfold execRegisterWrite
  split
  · refine K.ite (fun _ => ?_) (fun _ => ?_)
    · refine K.mkR ?_
      refine K.ite (fun _ => ?_) (fun _ => ?_)
      · refine K.step ?_ (State.ctlWrite_keeps _ _ _ _) rfl
        exact K.refl
      · exact K.refl
    · exact K.fault
  · refine K.mkR ?_
    refine K.ite (fun _ => ?_) (fun _ => ?_)
    · refine K.step ?_ (State.csrPerform_keeps _ _ _ _) rfl
      exact K.refl
    · exact K.refl

end Sys2Proof.Machine
end

