-- ==== Sys2Proof/Laws/Gate.lean ====
section
/-!
SUPPORT. The gate of every instruction, and what the parts of an issue leave alone: other cores, the registers of control space, the registers of the core.
-/
namespace Sys2Proof.Machine

theorem State.inst_takes {s : State} {n len : Nat} (h : s.takes n len) (f : State → State) : s.inst n len f = f s := by
  obtain ⟨h1, h2, h3, h4, h5⟩ := h
  simp [State.inst, State.instr, h1, h2, h3, h4, h5]

/-- Of the cores only core `n` changes, and in it only the fields of `m`; of the registers only those of `rs`. -/
structure CN (n m : Nat) (rs : Nat → Prop) (s t : State) : Prop where
  core : CK gC m (s.core n) (t.core n)
  others : ∀ k, k ≠ n → t.core k = s.core k
  regs : ∀ a, ¬rs a → t.reg a = s.reg a

section
variable {n m w : Nat} {rs : Nat → Prop} {s t u : State}

theorem CN.refl : CN n m rs s s := ⟨CK.refl, fun _ _ => rfl, fun _ _ => rfl⟩
theorem CN.trans (h : CN n m rs s t) (h2 : CN n m rs t u) : CN n m rs s u :=
  ⟨CK.step h.core h2.core (Nat.and_self m), fun k hk => (h2.others k hk).trans (h.others k hk), fun a ha => (h2.regs a ha).trans (h.regs a ha)⟩

theorem CN.setCore {c : Core} (h : CN n m rs s t) (hc : CK gC m (s.core n) c) : CN n m rs s (t.setCore n c) :=
  ⟨by rw [State.core_setCore_same]; exact hc, fun k hk => (State.core_setCore_other t c hk).trans (h.others k hk), fun a ha => h.regs a ha⟩
theorem CN.modCore {f : Core → Core} (h : CN n m rs s t) (hc : CK gC w (t.core n) (f (t.core n))) (e : m &&& w = w) : CN n m rs s (t.modCore n f) :=
  h.setCore (CK.step h.core hc e)

theorem CN.sameCores {m : Nat} (hc : u.cores = t.cores) (hr : u.regs = t.regs) (h : CN n m rs s t) : CN n m rs s u := by
  have ec : ∀ k, u.core k = t.core k := fun k => by simp only [State.core, hc]
  have er : ∀ a, u.reg a = t.reg a := fun a => by simp only [State.reg, hr]
  exact ⟨by rw [ec]; exact h.core, fun k hk => (ec k).trans (h.others k hk), fun a ha => (er a).trans (h.regs a ha)⟩

theorem CN.setReg {a : Nat} {v : Word} (h : CN n m rs s t) (ha : rs a) : CN n m rs s (t.setReg a v) :=
  ⟨by rw [State.core_setReg]; exact h.core, fun k hk => (State.core_setReg ..).trans (h.others k hk),
   fun b hb => (State.reg_setReg_other t v (fun e => hb (by rw [e]; exact ha))).trans (h.regs b hb)⟩
theorem CN.setFld {a v : Nat} {f : Fld} (h : CN n m rs s t) (ha : rs a) : CN n m rs s (t.setFld a f v) := h.setReg ha

theorem State.corrected_cn (u c : Nat) (h : CN n m rs s t) : CN n m rs s (t.corrected u c) := CN.sameCores (t := t) rfl rfl h
theorem CN.foldl {α : Type} {f : State → α → State} {l : List α} (h : CN n m rs s t) (hf : ∀ y a, CN n m rs s y → CN n m rs s (f y a)) :
    CN n m rs s (l.foldl f t) := by
  induction l generalizing t with
  | nil => exact h
  | cons a r ih => exact ih (hf t a h)
theorem CN.draw {k : Nat} (h : CN n m rs s t) : CN n m rs s (t.draw k).2 := CN.sameCores (t := t) rfl rfl h
theorem CN.choose {k : Nat} (h : CN n m rs s t) : CN n m rs s (t.choose k).2 := CN.sameCores (t := t) rfl rfl h
theorem CN.ite {c : Prop} [Decidable c] (h : c → CN n m rs s t) (h2 : ¬c → CN n m rs s u) : CN n m rs s (if c then t else u) := by
  by_cases e : c
  · rw [if_pos e]; exact h e
  · rw [if_neg e]; exact h2 e

theorem State.measureFill_cn (k : Nat) (h : CN n m (· = Reg.CORE_PACESTAT n) s t) : CN n m (· = Reg.CORE_PACESTAT n) s (t.measureFill n k) := by
  unfold State.measureFill
  refine CN.ite (fun _ => ?_) (fun _ => h)
  refine CN.ite (fun _ => CN.setFld ?_ rfl) (fun _ => ?_)
  all_goals exact CN.ite (fun _ => h.setFld rfl) (fun _ => h)

theorem State.issueAt_cn (k : Nat) (i : IssueInfo) (h : CN n w (· = Reg.CORE_PACESTAT n) s t) (e : w &&& 192 = 192) :
    CN n w (· = Reg.CORE_PACESTAT n) s (t.issueAt n k i) :=
  State.measureFill_cn k (h.modCore (Core.issue_ck _ _) e)

theorem CK.withPred {c d : Core} {p : Pred} (h : CK gC w c d) (e : w &&& 17179869184 = 17179869184) : CK gC w c { d with pred := p } :=
  CK.step h (CK.of fun p hp => by cases p <;> first | rfl | exact absurd hp (by decide)) e

theorem State.allocPred_cn (i : Nat) (h : CN n w rs s t) (e : w &&& 17179869184 = 17179869184) : CN n w rs s (t.allocPred n i) := by
  unfold State.allocPred
  extract_lets +onlyGivenNames c
  split
  · exact CN.setCore h.draw (CK.step h.core (Core.setTagged_ck _ _ _) e)
  · exact CN.setCore h (CK.foldl h.core (fun y a hy => CK.step hy (Core.setTagged_ck _ _ _) e))

theorem State.trainBtb_cn (k : CfKind) (x : Word) (h : CN n w rs s t) (e : w &&& 17179869184 = 17179869184) : CN n w rs s (t.trainBtb n k x) := by
  unfold State.trainBtb
  exact CN.setCore (CN.choose (k := 4) h) (CK.withPred h.core e)

theorem State.cfRetire_cn (k : CfKind) (tk : Bool) (x : Word) (a b c : Bool) (i : Nat) (l : Word) (h : CN n w rs s t)
    (e : w &&& 17179869248 = 17179869248) : CN n w rs s (t.cfRetire n k tk x a b c i l) := by
  unfold State.cfRetire
  have e1 : w &&& 17179869184 = 17179869184 := sub_trans e rfl
  have e2 : w &&& 64 = 64 := sub_trans e rfl
  extract_lets +onlyGivenNames d
  split
  · exact h
  · extract_lets +onlyGivenNames -underBinder -merge -useContext ev s1
    have h1 : CN n w rs s s1 := CN.ite
      (fun _ => CN.setCore h (CK.step (CK.step h.core (Core.discard_ck _) e1) (Core.event_ck _ _ _) e2)) (fun _ => h)
    clear_value s1
    extract_lets +onlyGivenNames -underBinder -merge -useContext s2
    have h2 : CN n w rs s s2 := CN.ite (fun _ => h1.modCore (Core.trainDir_ck _ _ _) e1) (fun _ => h1)
    clear_value s2
    extract_lets +onlyGivenNames -underBinder -merge -useContext s3
    have h3 : CN n w rs s s3 := CN.ite (fun _ => State.allocPred_cn _ h2 e1) (fun _ => h2)
    clear_value s3
    extract_lets +onlyGivenNames -underBinder -merge -useContext s4
    have h4 : CN n w rs s s4 := CN.ite (fun _ => State.trainBtb_cn _ _ h3 e1) (fun _ => h3)
    clear_value s4
    refine CN.setCore h4 ?_
    exact CK.ite (fun _ => CK.withPred h4.core e1) (fun _ => CK.withPred h4.core e1)

end

end Sys2Proof.Machine
end

