-- ==== Sys2Proof/Tests/Slice0.lean ====
section
/-!
SUPPORT. Checks of the model's own: ill-formed commands are refused by the checks of WellFormed, a few single commands give what the spec (or, for a published
function, its publication) says, and the hypotheses of every statement are met together by a concrete state and operands, clause by clause. A theorem
`witness_X` is for the clauses of the statement whose heading it stands under.
-/
set_option maxRecDepth 20000
set_option Elab.async false
set_option linter.unusedVariables false

namespace Sys2Proof.Tests
open Sys2Proof Sys2Proof.Machine

/-! ### Ill-formed commands, one for each check -/

theorem test_illFormed_okTargetWidth : (Instr.registerWrite (.control 8 2) 0).wf = false := by decide
theorem test_illFormed_okTargetOffset : (Instr.registerWrite (.control 0x1_0000_0000 8) 0).wf = false := by decide
theorem test_illFormed_okTargetCsr : (Instr.registerWrite (.csr 0 4096) 0).wf = false := by decide
theorem test_illFormed_okCtlWidth : (Instr.rcCounterRead 0 2 0 0).wf = false := by decide
theorem test_illFormed_okCore : (Instr.storeDrain 128).wf = false := by decide
theorem test_illFormed_okLen : (Instr.instructionIssue 0 .hint 3 {}).wf = false := by decide
theorem test_illFormed_okDest : (Instr.load 0 (.f 32 true) 0 0 8 false 4 0 []).wf = false := by decide
theorem test_illFormed_okReg : (Instr.tlbw 0 0 32).wf = false := by decide
theorem test_illFormed_okWidth : (Instr.irqPendset 0 0 3).wf = false := by decide
theorem test_illFormed_okCsr : (Instr.csrInstruction 0 .rw 4096 0 0).wf = false := by decide
theorem test_illFormed_okTile : (Instr.pairEntryComplete 64).wf = false := by decide
theorem test_illFormed_okCast : (Instr.castChangeComplete (.slc 64)).wf = false := by decide
theorem test_illFormed_okTag : (Instr.mntClean false 0 256).wf = false := by decide
theorem test_illFormed_okLine : (Instr.l2Grant 0 0x200_0000_0000).wf = false := by decide
theorem test_illFormed_okPart : (Instr.partitionEbbStart 64).wf = false := by decide
theorem test_illFormed_okUnit : (Instr.selfTestGo 512).wf = false := by decide
theorem test_illFormed_okSet : (Instr.homePrbReport 0 2048 0).wf = false := by decide
theorem test_illFormed_okHint : (Instr.l2Retry 0 0 8).wf = false := by decide
theorem test_illFormed_okRouter : (Instr.linkNak 80 0).wf = false := by decide
theorem test_illFormed_okLink : (Instr.linkNak 0 4).wf = false := by decide
theorem test_illFormed_okClass : (Instr.markerArrive 0 0 4).wf = false := by decide
theorem test_illFormed_okEp : (Instr.tc0Admit 320).wf = false := by decide
theorem test_illFormed_okPortState : (Instr.fenceMapBroadcast 0 0 0).wf = false := by decide
theorem test_illFormed_okMc : (Instr.trainFull 12).wf = false := by decide
theorem test_illFormed_okRank : (Instr.sparingStart 0 16).wf = false := by decide
theorem test_illFormed_okQuad : (Instr.flnQctlWrite 12 0).wf = false := by decide
theorem test_illFormed_okLane : (Instr.linkTrainingComplete 48).wf = false := by decide
theorem test_illFormed_okFe : (Instr.stationCommitComplete 2).wf = false := by decide
theorem test_illFormed_okStation : (Instr.stationCommit 0 2048).wf = false := by decide
theorem test_illFormed_okTable : (Instr.ttStartCheckDone 0 8).wf = false := by decide
theorem test_illFormed_okImage : (Instr.flipComplete 0 16).wf = false := by decide
theorem test_illFormed_okFn : (Instr.quiesceComplete 0 128).wf = false := by decide
theorem test_illFormed_okRing : (Instr.ringInterruptTimer 0 0 4).wf = false := by decide
theorem test_illFormed_okSrc : (Instr.sourceEdge 8192).wf = false := by decide
theorem test_illFormed_okPrio : (Instr.directMessage 0 0 32 0).wf = false := by decide
theorem test_illFormed_okNum : (Instr.edgeNote 0 256).wf = false := by decide
theorem test_illFormed_okLdl : (Instr.channelEnterFlight 4).wf = false := by decide
theorem test_illFormed_okCh : (Instr.stoptmoExpire 0 32).wf = false := by decide
theorem test_illFormed_okDbreg : (Instr.dbregWrite 0 0 8 8 0).wf = false := by decide
theorem test_illFormed_okWord : (Instr.irqPendset 256 0 4).wf = false := by decide
theorem test_illFormed_okOfferCode : (Instr.offerRefused 0 4).wf = false := by decide
theorem test_illFormed_okErrClass : (Instr.bucketLeak 0 8).wf = false := by decide
theorem test_illFormed_okDom : (Instr.domainPowerGood 225).wf = false := by decide
theorem test_illFormed_okPort : (Instr.portEnable 8 0).wf = false := by decide
theorem test_illFormed_okErrBit : (Instr.uncorrectableErrorDetected 0 32).wf = false := by decide
theorem test_illFormed_okRid : (Instr.inboundRequest 0 65536 .intx).wf = false := by decide

/-! ### States used below -/

/-- A register field set, for the states below. -/
def wF (a : Nat) (f : Fld) (v : Nat) (s : State) : State := s.setFld a f v

/-- Core `n` with four cast ways and the given state; all else as after reset. -/
def wCores (l : List (Nat × Core)) : State :=
  wF (epctl (epCore 0)) F.RTR_EPCTL_STATE 1 <| wF (Reg.TILE_LCAST 0) F.TILE_LCAST_CUR 4 (wF (Reg.TILE_RCAST 0) F.TILE_LCAST_CUR 4 { cores := l })

/-- Core 0 running at F in its own cast window. -/
def wC : Core := { run := .run, pc := 0x7000_1000_0100 }
def wS : State := wCores [(0, wC)]
/-- The same in slack water. -/
def wCs : Core := wC.setCsr C.pacectl 0xE01
def wSs : State := wCores [(0, wCs)]
/-- The same with a register set. -/
def wR (l : List (Nat × Word)) (c : Core) : Core := l.foldl (fun c e => c.wx e.1 e.2) c

/-- What a check gave. -/
def wOk (e : Except TrapInfo Checked) : Checked := match e with | .ok k => k | .error _ => { pa := 0, w := 0, x1 := ⟨0, none, none⟩ }

/-- A DRAM region of 1 GiB at 0 on channel 0. -/
def wRgn : Word × Word := (setF (setF 0 F.CHIP_DRAMRGN_EN 1) F.CHIP_DRAMRGN_SIZE 1, setF 0 F.CHIP_DRAMMAP_CHANS 1)
/-- Core 0 with x1 at an address of its window where some bytes stand. -/
def wMem : List Host.Cell := [(0x7000_1000_0200, 0x80), (0x7000_1000_0201, 0xFF), (0x7000_1000_0207, 0x81)]
def wL : State := { wCores [(0, wR [(1, 0x7000_1000_0200), (2, 0x1122_3344_5566_7788)] wC)] with mem := wMem }
def wLs : State := { wCores [(0, wR [(1, 0x7000_1000_0200), (2, 0x1122_3344_5566_7788)] wCs)] with mem := wMem }
/-- A fence map that shows every endpoint OPEN. -/
def wMap : Tbl Nat := (List.range 320).filterMap (fun k => if epResetState (k / 4) (k % 4) = 1 then none else some (k, 1))
/-- Core 0 in flood mode, x1 and x2 as given, with DRAM decoded. -/
def wD (a : Word) (f : Core → Core) : State := { wCores [(0, f (wR [(1, a), (2, 0x1122_3344_5566_7788)] wC))] with decode := [(0, wRgn)], routers := [(8, { map := wMap })] }
/-- A shared L2 line of ones. -/
def wLine : L2Line := { st := .s, data := 0xFF80 }
/-- Core 0 with a vector type and length. -/
def wVt (c : Core) (vt vl : Word) : State := wCores [(0, (c.setCsr C.vtype vt).setCsr C.vl vl)]
/-- The state that a vector access leaves. -/
def wDone (o : VOut) : State := match o with | .done s => s | _ => {}
/-- Core 0 with elements of one byte, `k` of them active; what a unit-stride access of it leaves. -/
def wV (k : Word) : State := { wD 0x7000_1000_0200 (fun c => (c.setCsr C.vtype 0xC0).setCsr C.vl k) with mem := wMem }
def wVdone (s : State) (kind : VMemKind) (st : Bool) (vd eew : Nat) : State :=
  wDone (s.vmemRun 0 kind st false vd 1 eew 0)
/-- A stage-1 and a stage-2 entry of partition 0, for page 0x40. -/
def wE : TlbE := { owner := .part 0, asid := 0, g := false, size := 0, vpn := 0x40, r := true, w := false, x := false, u := false, d := false, ppn := 0x99, lock := false }
def wE2 : S2E := { part := 0, size := 0, gpn := 0x40, r := true, w := true, x := true, ppn := 0x99, lock := false }
/-- Core 0 with two operands and one entry in each buffer, in ways 1. -/
def wT (a b : Word) : State := wCores [(0, { wR [(1, a), (2, b)] wC with tlb := [(8 * 0x40 + 1, some wE)], s2 := [(4 * 0x40 + 1, some wE2)] })]
/-- Core 0 at F whose stack pointer is at offset `o` of its window, where a slot's words stand. -/
def wSlot (o : Nat) : State :=
  { wCores [(0, wR [(2, 0x7000_1000_0000 + BitVec.ofNat 64 o)] (((wC.setCsr 0x7C9 0x7000_1000_0000).setCsr 0x7C7 0x4000).setCsr 0x7C8 0x1000)) ] with
    mem := [(0x7000_1000_2000, 5), (0x7000_1000_2001, 0x12), (0x7000_1000_2008, 3), (0x7000_1000_2028, 7)] }
/-- An interrupt entry of code 5 that core 0 has begun at F. -/
def wEntry (k : EntryKind) : EntrySt := { kind := k, target := .f, from_ := .f, cause := 5, tval := 1, tinfo := 2, epc := 0x7000_1000_0100, prio := 9 }
/-- Core 0 with F's interrupts on: code 2 of priority 8 waits, its frames in the own cast window, offers as given. -/
def wI (f : Core → Core) : State :=
  wCores [(0, f ((((((((wC.setCsr 0x7C0 0x2007).setCsr 0x7CB 0).setCsr 0x7CC 0xFF).setCsr C.hTimecmp 0).setCsr 0x7C9 0x7000_1000_0000).setCsr 0x7C7 0x4000).setCsr
    0x7C8 0x1000).setCsr 0x7C5 0x7000_1000_3000))]
/-- One field with access code `a`. -/
def wFs (a : Acc) : List FieldSpec := [⟨⟨0, 4⟩, a⟩, ⟨⟨4, 8⟩, .ro⟩, ⟨⟨60, 4⟩, a⟩]
/-- Core 0 and, as slice 0 is the home of every line, slice 0 with an entry for line 64 in way 3 and a copy of the line. -/
def wH (x : Slice) : State := { wS with slices := [(0, x)], decode := [(0, wRgn)], routers := [(8, { map := [(epCore 0, 1), (epCore 1, 1)] })] }
def wDir (em : Bool) (cs : List Nat) : DirE := { line := 64, em := em, sharers := cs.foldl addSharer 0, fcore := none }
def wCopy : SlLine := { way := 2, dirty := false, data := 0x55, poison := 0 }
def wHd (em : Bool) (cs : List Nat) : State := wF (epctl (epCore 1)) F.RTR_EPCTL_STATE 1 <| wH { dir := [(16 + 3, some (wDir em cs))], lines := [(64, some wCopy)] }
/-- Slice 0 with every way of a set taken and in use. -/
def wFull : State :=
  wH { dir := (List.range 16).map (fun w => (16 + w, some { line := 64 + 131072 * (w + 1), em := true, sharers := 2, fcore := none })),
       txns := (List.range 16).map (fun w => (64 + 131072 * (w + 1), some { req := .devRd 0 })) }
/-- A core that holds line 64 in a state, with its request out. -/
def wP (st : Mesif) : State := wCores [(0, { wC with l2 := if st = .i then [] else [(64, { wLine with st := st })], req := [(64, some { kind := .rds })] })]
/-- Controller 0 in a state, with one good DIMM of 16 GiB and two ranks. -/
def wDimm : Word := setF (setF (setF (setF (setF 0 F.MC_DIMM_PRESENT 1) F.MC_DIMM_SIZE 16) F.MC_DIMM_RANKS 2) F.MC_DIMM_RDIMM 1) F.MC_DIMM_X4 1
def wMc (st : Nat) : State := wF (Reg.MC_STAT 0) F.MC_STAT_STATE st (wF (Reg.MC_DIMM 0 0) ⟨0, 64⟩ wDimm.toNat wS)
/-- The same with some data in channel 0. -/
def wMcd (st : Nat) : State := { wMc st with mem := [(dramKey 0 0x40, 5), (dramKey 0 0x41, 6)] }
/-- A region mirrored on channels 0 and 6. -/
def wMir : Word × Word := (setF wRgn.1 F.CHIP_DRAMRGN_MIRROR 1, setF 0 F.CHIP_DRAMMAP_CHANS 0x41)
/-- Lane 0 in a state, its queue and transmitter as given. -/
def wLn (st : Nat) (x : Lane) : State := wF (lnStat 0) F.FLN_STAT_STATE st { wS with lanes := [(0, x)] }
def wFr (b : TxBody) (q : Nat) : TxFrame := { body := b, bytes := [1, 2, 3], q := q }
def wTd : TxDesc := { idx := 3, addr := 0x7000_1000_0200, len := 4, eop := true }
/-- Lane 0 with a gate list of two entries of 20 µs and 80 µs in force. -/
def wGcl (k : Nat) : State :=
  wF (Reg.FLN_GCL0 0 0 1) ⟨32, 32⟩ 30000 (wF (Reg.FLN_GCL0 0 0 0) ⟨32, 32⟩ 20000 (wF (Reg.FLN_GCL0 0 0 0) ⟨0, 8⟩ 3
    (wF (lnGclctl 0) F.FLN_GCLCTL_EN 1 (wLn 5 { oper := some ⟨2, 100000, 0⟩, entry := k }))))
/-- The words of a station entry of format 2 for engine 0 whose fields (place, width, value) are given beside it. -/
def wStn (l : List (Nat × Nat)) : List Word :=
  let v := l.foldl (fun v x => v + x.2 * 2 ^ x.1) 2
  (List.range 8).map (fun j => BitVec.ofNat 64 (v / 2 ^ (64 * j)))
/-- Station 3 of engine 0 with such an entry, image 0 of 64-byte banks on, its routers seeing core 0. -/
def wStnAt (l : List (Nat × Nat)) (s : State) : State :=
  let s1 := (List.range 8).foldl (fun s j => s.setReg (Reg.STN_SLOT 0 3 j) ((wStn l).getD j 0)) s
  { wF (Reg.FE_IMGSIZE 0 0) F.FE_IMGSIZE_INSIZE 1 (wF (Reg.FE_IMGSIZE 0 0) F.FE_IMGSIZE_OUTSIZE 1 (wF (Reg.FE_IMGCFG 0 0) F.FE_IMGCFG_EN 1
      (wF (Reg.FE_IMGIN 0 0) ⟨0, 64⟩ 0x7000_1000_0400 (wF (Reg.FE_IMGOUT 0 0) ⟨0, 64⟩ 0x7000_1000_0600 (wF (lnStat 0) F.FLN_STAT_STATE 5 s1))))) with
    routers := [(6, { map := [(epCore 0, 1)] })] }
/-- A fast station in that slot, on lane 0. -/
def wFastAt (s : State) : State := wF (epctl (epFe 0)) F.RTR_EPCTL_STATE 1 <| wF (Reg.FE_FSSTAT 0 0) F.FE_FSSTAT_STATION 3 (wF (lnStat 0) F.FLN_STAT_FAST 1 (wStnAt [(2, 1), (96, 2), (112, 4)] s))
/-- A tide frame for station 3 from address 0 with `n` bytes of payload, its version and the station named as given. -/
def wTide (ver st n : Nat) : List Byte :=
  List.replicate 12 0 ++ be2 (State.tideType {} 0) ++ tideHeader ver 0 0 st 9 n 0 ++ (List.range n).map (fun i => BitVec.ofNat 8 (i + 1))
def wRd (sub : Bool) : SendRd := { station := 3, cycle := 5, stamp := 7, addr := 0x7000_1000_0600, len := 4, subst := sub }
/-- Table 0 of engine 0 in a state, with one entry of the action and operand. -/
def wTt (st act op : Nat) (s : State) : State :=
  wF (Reg.TT_ENTRY 0 0 1) ⟨0, 64⟩ op (wF (Reg.TT_ENTRY 0 0 0) ⟨32, 8⟩ act (wF (Reg.FE_TTLEN 0 0) ⟨0, 14⟩ 1
    (wF (Reg.FE_TTPERIOD 0 0) ⟨0, 30⟩ 31250 (wF (Reg.FE_TTSTAT 0 0) F.FE_TTSTAT_STATE st s))))
/-- Function 0 of engine 0 in a state, its rings of 16 at the base of a window of 64 KiB over core 0's cast window, lane 0 open to it. -/
def wFn (st : Nat) (y : Fn) : State :=
  wF (Reg.FE_FNSTAT 0 0) F.FE_FNSTAT_STATE st (wF (Reg.FE_FNTXRING 0 0) F.FE_FNTXRING_LOG2SIZE 4 (wF (Reg.FE_FNTXRING 0 0) F.FE_FNTXRING_BASE 0x400
    (wF (Reg.FE_FNRXRING 0 0 0) F.FE_FNRXRING_USE 1 (wF (Reg.FE_FNRXRING 0 0 0) F.FE_FNTXRING_LOG2SIZE 4 (wF (Reg.FE_FNRXRING 0 0 0) F.FE_FNTXRING_BASE 0x420
    (wF (Reg.FE_FNWINBASE 0 0 0) ⟨0, 64⟩ 0x10001 (wF (Reg.FE_FNWINPA 0 0 0) ⟨0, 64⟩ 0x7000_1000_0000 (wF (Reg.FE_FNWINSIZE 0 0 0) ⟨0, 64⟩ 0x10000
    (wF (Reg.FE_FNLANES 0 0) ⟨0, 64⟩ 1 (wF (lnStat 0) F.FLN_STAT_STATE 5
      { wS with routers := [(6, { map := [(epCore 0, 1)] })], fns := [(0, y)] }))))))))))
def wTxd (len : Nat) : TxDesc := { idx := 0, addr := 0x10300, len := len, eop := true }
def wRxd (size : Nat) : RxDesc := { ring := 1, idx := 0, addr := 0x10300, size := size }
/-- A frame to a group address from address 0 with an EtherType. -/
def wEth (t n : Nat) : List Byte := [1, 0, 0, 0, 0, 0, 0, 0, 0, 0, 0, 0] ++ be2 t ++ List.replicate n 7
def wRxf (bs : List Byte) (size : Nat) : RxFrm := { ring := 1, bytes := bs, descs := [wRxd size] }
/-- Channel 0 of engine 0 in a state, its window of 64 KiB over core 0's cast window, its address 0x10040, its registers as given. -/
def wCh (st : Nat) (y : LdlCh) (rs : List (Nat × Nat)) : State :=
  let s := wF (Reg.LDL_CHSTAT 0 0) F.LDL_CHSTAT_STATE st (wF (Reg.LDL_CHPC 0 0) ⟨0, 64⟩ 0x10040 (wF (Reg.LDL_CHWINBASE 0 0 0) ⟨0, 64⟩ 0x10001
    (wF (Reg.LDL_CHWINPA 0 0 0) ⟨0, 64⟩ 0x7000_1000_0000 (wF (Reg.LDL_CHWINSIZE 0 0 0) ⟨0, 64⟩ 0x10000
      { wS with routers := [(6, { map := [(epCore 0, 1)] })], ldls := [(0, y)] }))))
  rs.foldl (fun s r => s.setCr 0 0 r.1 (BitVec.ofNat 64 r.2)) s
/-- The channel RUNNING at an instruction. -/
def wLd (v : Nat) (y : LdlCh) (rs : List (Nat × Nat)) : State := wCh 2 { y with buf := some (0x10040, leBytes 64 v) } rs
/-- The channel RUNNING with the accesses of an instruction under way. -/
def wLc (v : Nat) (rs : List (Nat × Nat)) : State := { wCh 2 { cur := some v } rs with ldlEngs := [(0, { flight := [0] })] }
/-- An instruction: opcode, rd, rs, modifier, W32, the upper 64 bits. -/
def wIn (op rd rs m w x : Nat) : Nat := op + rd * 2 ^ 8 + rs * 2 ^ 12 + m * 2 ^ 24 + w * 2 ^ 32 + x * 2 ^ 64
/-- Domain `d` in a state. -/
def wDom (d st : Nat) (s : State) : State := wF (Reg.PWR_DOM d) F.PWR_DOM_STATE st s
def wPwr (p : Pwr) (s : State) : State := { s with pwr := p }
/-- Core 0 halted with its domain in DOWN and its endpoint FENCED. -/
def wDown (p : Pwr) : State := wPwr p (wF (epctl (epCore 0)) F.RTR_EPCTL_STATE 3 (wDom 0 3 (wCores [(0, { wC with run := .halt })])))
/-- An image of one byte for the service processor and four for core 0, its hashes in its header. -/
def wImg : BootImg :=
  { size := 0x10000, header := leBytes 4 0x4F435331 ++ leBytes 4 1 ++ leBytes 4 0 ++ leBytes 4 1 ++ leBytes 4 4 ++ List.replicate 12 0 ++ sha384 [1] ++ sha384 [2, 3, 4, 5] ++
      List.replicate 384 0, sp := [1], f := [2, 3, 4, 5], romKey := true, sigOk := true }
/-- A flash command in progress: 8 bytes from offset 0 to core 0's cast window. -/
def wFl (op len : Nat) : State :=
  wF Reg.SVC_FLCMD F.SVC_FLCMD_GO 1 (wF Reg.SVC_FLCMD F.SVC_FLCMD_OP op (wF Reg.SVC_FLLEN ⟨0, 64⟩ len (wF Reg.SVC_FLMEM ⟨0, 64⟩ 0x7000_1000_0200
    { wS with routers := [(79, { map := [(epCore 0, 1)] })] })))
/-- Key slots of which the first two hold keys. -/
def wKeys : State := { wS with fuse := { wS.fuse with slots := [{ prog := true }, { prog := true }, {}, { bad := true }] } }
/-- Root port 0 enabled with its link up, taking requests; context 0 for requester 0x100 with a window of 64 KiB at 0x10000 over core 0's cast window. -/
def wPort (s : State) : State :=
  wF (Reg.HIF_RQCFG 0) F.HIF_RQCFG_EN 1 (wF (Reg.HIF_RQCFG 0) F.HIF_RQCFG_RIDFIRST 0x100 (wF (Reg.HIF_RQCFG 0) F.HIF_RQCFG_RIDLAST 0x100
    (wF (Reg.HIF_RQWINBASE 0 0) ⟨0, 64⟩ 0x10001 (wF (Reg.HIF_RQWINPA 0 0) ⟨0, 64⟩ 0x7000_1000_0000 (wF (Reg.HIF_RQWINSIZE 0 0) ⟨0, 64⟩ 0x10000
    (wF (Reg.HIF_PCTL 0) F.HIF_PCTL_ENABLE 1 (wF (Reg.HIF_PSTAT 0) F.HIF_PSTAT_DLUP 1 (wF (epctl epHif) F.RTR_EPCTL_STATE 1
      { s with routers := [(7, { map := [(epCore 0, 1)] })] }))))))))
/-- Core 0 with a load of 4 bytes outstanding at the PCIe address that root port 0 claims. -/
def wLd4 : LdWait := { dest := .x 3, width := 4, va := 0x60, pa := 0x6000_0000_1000, pc := 0x7000_1000_0100 }
def wPcie : State := wF (hdrAt 0 4) ⟨32, 32⟩ 2 (wF (hdrAt 0 0x20) ⟨0, 32⟩ 0x10_0000 (wCores [(0, { wC with loads := [wLd4] })]))
/-- Whether an address lies in a cast window. -/
def wIsCast (p : Nat) : Bool := match regionOf p with | .coreCast _ => true | .sharedCast _ => true | _ => false
/-- A channel's access is to a core's or the shared cast window, from a check of each of its parts. -/
theorem wCast {s : State} {l c a n p : Nat}
    (h : ∀ i ∈ List.range (n + 1), ∀ k ∈ List.range (n + 1), i + k ≤ n → 0 < k →
      s.chXlate l c (a + i) k = some (p + i) ∧ s.chOk l c (p + i) k = true ∧ wIsCast (p + i) = true) : s.chCast l c a n p := by
  intro i k hik hk
  obtain ⟨h1, h2, h3⟩ := h i (List.mem_range.2 (by omega)) k (List.mem_range.2 (by omega)) hik hk
  refine ⟨h1, h2, ?_⟩
  revert h3
  unfold wIsCast
  cases hr : regionOf (p + i) <;> simp
/-- Whether a WAIT waits for a flag. -/
def wIsFlag (w : LdlWt) : Bool := match w with | .flag _ _ => true | _ => false

/-! ### Single commands -/

/-- The state that a command leaves; the state it found where it stops. -/
def wNext (i : Instr) (s : State) : State := match exec i s with | .next t => t | _ => s

/-- R97: an addition wraps at 64 bits. -/
theorem test_add_wraps : ((wNext (.instructionIssue 0 (.alu .add 5 1 (.imm 1)) 4 {}) (wCores [(0, wR [(1, 0xFFFF_FFFF_FFFF_FFFF)] wC)])).core 0).rx 5 = 0 := by decide +kernel
/-- A write of x0 is discarded. -/
theorem test_x0_stays_zero : ((wNext (.instructionIssue 0 (.lui 0 0x1000) 4 {}) wS).core 0).rx 0 = 0 := by decide +kernel
/-- The division corner of the published ISA: the quotient of a division by zero has every bit set. -/
theorem test_div_by_zero : ((wNext (.instructionIssue 0 (.alu .div 5 1 (.imm 0)) 4 {}) (wCores [(0, wR [(1, 7)] wC)])).core 0).rx 5 = 0xFFFF_FFFF_FFFF_FFFF := by decide +kernel
/-- A byte load extends the sign; a halfword of the bytes 80, FF is little-endian. -/
theorem test_load_byte_sign : ((wNext (.load 0 (.x 5) 1 0 1 true 4 0 []) wL).core 0).rx 5 = 0xFFFF_FFFF_FFFF_FF80 := by decide +kernel
theorem test_load_half_little_endian : ((wNext (.load 0 (.x 5) 1 0 2 false 4 0 []) wL).core 0).rx 5 = 0xFF80 := by decide +kernel
/-- A store that drains stands in memory least significant byte first. -/
theorem test_store_little_endian :
    (let s := wNext (.storeDrain 0) (wCores [(0, { wC with stores := [{ pa := 0x7000_1000_023C, bytes := [1, 2, 0, 4] }] })]);
      (s.byte 0x7000_1000_023C, s.byte 0x7000_1000_023D, s.byte 0x7000_1000_023F)) = (1, 2, 4) := by decide +kernel
/-- An ECALL begins an entry of cause 8 + level at its own pc (R167). -/
theorem test_ecall_saves_its_pc : ((wNext (.ecall 0) wS).core 0).entry.map (·.epc) = some 0x7000_1000_0100 := by decide +kernel
/-- A register access outside the decoded control space stops by name. -/
theorem test_undecoded_stops : (match exec (.registerWrite (.control 0xFFFF_FFF8 8) 0) wS with | .fault (.undecoded o) => o | _ => 0) = 0xFFFF_FFF8 := by decide +kernel
/-- R4: the tide EtherType of both field engines is 88B5H after reset. -/
theorem test_reset_ethertype : State.reset.fld (Reg.FE_CFG 1) F.FE_CFG_ETYPE = 0x88B5 := by decide +kernel
/-- FIPS 180-4's own example: the SHA-384 of the three characters abc. -/
theorem test_sha384_abc : leWord ((sha384 [0x61, 0x62, 0x63]).reverse) =
    0xCB00753F45A35E8BB5A03D699AC65007272C32AB0EDED1631A8B605A43FF5BED8086072BA1E7CC2358BAECA134C825A7 := by decide +kernel
/-- A step on an empty queue is the tick. -/
theorem test_idle : step State.reset = .next State.reset.tick := rfl
/-- The table gives no row bits, so no word spells a command. -/
theorem test_no_word_decodes : decodeTableWord 32 5 = none := rfl
/-- R114's own examples of counts: vfmacc.vv, vfdiv.vv at SEW 64 and LMUL 2, vredsum.vs at SEW 8 and LMUL 1/2, vfredosum.vs at SEW 32 and LMUL 4. -/
theorem test_vector_counts : (vecCost (vClass (.fmac .macc) (.v 0)) 0x19, vecCost (vClass (.fp .div) (.v 0)) 0x19, vecCost (vClass (.red .sum) (.v 0)) 7,
    vecCost (vClass (.fredSum true) (.v 0)) 0x12) = ((2, 7), (36, 36), (1, 7), (128, 128)) := by decide +kernel
/-- R98: an addition writes its body elements and leaves the tail as it is. -/
theorem test_vector_tail_undisturbed :
    (let c := (wNext (.instructionIssue 0 (.vec (.int .add) 8 9 (.i 1) false) 4 {}) (wVt { wC with vr := [(8, 0xFFFF_FFFF_FFFF_FFFF)] } 0xC0 4)).core 0;
      (c.vEl 8 8 0, c.vEl 8 8 3, c.vEl 8 8 4, c.vEl 8 8 7)) = (1, 1, 0xFF, 0xFF) := by decide +kernel
/-- Published V 1.0's own examples of the 7-bit estimates, a subnormal operand and a large one. -/
theorem test_estimates : (rec7 fmtS 0 0x0071_8ABC, rec7 fmtS 0 0x7F76_5432, rsqrt7 fmtS 0x0071_8ABC, rsqrt7 fmtS 0x7F76_5432) =
    ((0x7E90_0000, 0), (0x0021_4000, 0), (0x5F08_0000, 0), (0x1F82_0000, 0)) := by decide +kernel

/-! ### The hypotheses of the statements are met -/

/-! `Obligations.IntegerInstructionsWriteTheirResult` -/

theorem witness_IntegerInstructionsWriteTheirResult :
    (∃ (s : State) (n len : Nat) (v : IssueEnv), ∃ o rd rs1 s2, s.issues n (.alu o rd rs1 s2) len v) ∧
    (∃ (s : State) (n len : Nat) (v : IssueEnv), ∃ rd i, s.issues n (.lui rd i) len v) ∧
    (∃ (s : State) (n len : Nat) (v : IssueEnv), ∃ rd i, s.issues n (.auipc rd i) len v) ∧
    (∃ (s : State) (n len : Nat) (v : IssueEnv), s.issues n .hint len v) ∧
    (∃ (s : State) (n len : Nat) (v : IssueEnv), ∃ o a b off, s.issues n (.branch o a b off) len v) ∧
    (∃ (s : State) (n len : Nat) (v : IssueEnv), ∃ rd off, s.issues n (.jal rd off) len v) ∧
    (∃ (s : State) (n len : Nat) (v : IssueEnv), ∃ rd rs1 off, s.issues n (.jalr rd rs1 off) len v) :=
  ⟨⟨wSs, 0, 4, {}, .div, 5, 31, (.reg 0), by unfold State.issues State.takes envClean; decide +kernel⟩,
    ⟨wS, 0, 4, {}, 31, 0xFFFF_FFFF_8000_0000, by unfold State.issues State.takes envClean; decide +kernel⟩,
    ⟨wSs, 0, 4, {}, 7, 0x1000, by unfold State.issues State.takes envClean; decide +kernel⟩,
    ⟨wS, 0, 2, {}, by unfold State.issues State.takes envClean; decide +kernel⟩,
    ⟨wSs, 0, 4, {}, .beq, 0, 0, 0x10, by unfold State.issues State.takes envClean; decide +kernel⟩,
    ⟨wSs, 0, 4, {}, 0, 0x80, by unfold State.issues State.takes envClean; decide +kernel⟩,
    ⟨wS, 0, 4, {mispredict := true}, 1, 1, 0x81, by unfold State.issues State.takes envClean; decide +kernel⟩⟩

/-! `Obligations.FloatingPointAndVectorInstructions` -/

theorem witness_FloatingPointAndIllegalInstructions :
    (∃ (s : State) (n len : Nat) (v : IssueEnv), ∃ o dbl rm rd a b d r, s.issues n (.fp o dbl rm rd a b d) len v ∧ (s.core n).rmOf rm = some r) ∧
    (∃ (s : State) (n len : Nat) (v : IssueEnv), ∃ o dbl rm rd a b d, s.issues n (.fp o dbl rm rd a b d) len v ∧ (s.core n).rmOf rm = none ∧ s.trapsNow n) ∧
    (∃ (s : State) (n len : Nat) (v : IssueEnv), ∃ enc, s.issues n (.illegal enc) len v ∧ s.trapsNow n) :=
  ⟨⟨wSs, 0, 4, {}, .div, true, 0, 31, 0, 1, 2, 0, by unfold State.issues State.takes envClean; decide +kernel, by decide +kernel⟩,
    ⟨wSs, 0, 4, {}, .div, false, 5, 31, 0, 1, 2, by unfold State.issues State.takes envClean; decide +kernel, by decide +kernel, by unfold State.trapsNow; decide +kernel⟩,
    ⟨wS, 0, 4, {}, 0, by unfold State.issues State.takes envClean; decide +kernel, by unfold State.trapsNow; decide +kernel⟩⟩

theorem witness_VectorInstructionsIssue :
    (∃ (s : State) (n len : Nat) (v : IssueEnv), ∃ o vd vs2 src m, s.issues n (.vec o vd vs2 src m) len v ∧ s.fuse.vec = true ∧ (s.core n).vLegal o vd vs2 src m = true) ∧
    (∃ (s : State) (n len : Nat) (v : IssueEnv), ∃ rd a keep w, s.issues n (.vset rd a keep w) len v ∧ s.fuse.vec = true ∧ (s.core n).vsetOk keep ((s.core n).src2 w) = true) ∧
    (∃ (s : State) (n len : Nat) (v : IssueEnv), ∃ rd a keep w, s.issues n (.vset rd a keep w) len v ∧ s.fuse.vec = true ∧ (s.core n).vsetOk keep ((s.core n).src2 w) = false) ∧
    (∃ (s : State) (n len : Nat) (v : IssueEnv), ∃ op, s.takes n len ∧ envClean v (s.core n) ∧ s.trapsNow n ∧ (needsVec op = true ∧ s.fuse.vec = false ∨ (s.core n).vRejects op = true)) :=
  ⟨⟨(wVt wCs 0xD0 4), 0, 4, {}, (.fwmac .macc), 8, 11, (.f 1), false, by unfold State.issues State.takes envClean; decide +kernel, by decide +kernel, by decide +kernel⟩,
    ⟨(wVt wC 0xD0 4), 0, 4, {}, 0, (.reg 0), true, (.imm 0xC6), by unfold State.issues State.takes envClean; decide +kernel, by decide +kernel, by decide +kernel⟩,
    ⟨(wVt wC 0xD0 4), 0, 4, {}, 0, (.reg 0), true, (.imm 0xC0), by unfold State.issues State.takes envClean; decide +kernel, by decide +kernel, by decide +kernel⟩,
    ⟨(wVt wC 0xD0 4), 0, 4, {}, (.vec .slideup 8 8 (.i 1) false), by unfold State.takes; decide +kernel, by unfold envClean; decide +kernel, by unfold State.trapsNow; decide +kernel, by decide +kernel⟩⟩

/-! `Obligations.LoadsDeliverTheirData` -/

theorem witness_LoadsReadTheOwnCastWindow :
    (∃ (s : State) (n rs1 w len : Nat) (k : Checked), regionOf k.pa = .coreCast (s.ownWindow n) ∧ k.w2 = 0 ∧ s.populated k.pa k.w = true ∧ s.anyPoison k.pa k.w = false ∧ (∀ e ∈ (s.core n).stores, e.overlaps k.pa k.w = false) ∧ ∃ dest off ch, s.takes n len ∧ s.meetChecks n .load ((s.core n).rx rs1 + off) w ch = s ∧ Check.l1Again ∉ ch ∧ s.checkAccess n .load ((s.core n).rx rs1 + off) w = .ok k ∧ (s.core n).blockedBy [destReg dest, rs1] false false = false) ∧
    (∃ (s : State) (n rs1 w : Nat) (k : Checked), regionOf k.pa = .coreCast (s.ownWindow n) ∧ k.w2 = 0 ∧ s.populated k.pa k.w = true ∧ s.anyPoison k.pa k.w = false ∧ (∀ e ∈ (s.core n).stores, e.overlaps k.pa k.w = false) ∧ ∃ rd, s.takes n 4 ∧ (s.core n).isStrict = false ∧ s.checkAccess n .lr ((s.core n).rx rs1) w = .ok k ∧ (s.core n).blockedBy [rd, rs1] false false = false) :=
  ⟨⟨wLs, 0, 1, 2, 4, (wOk (wLs.checkAccess 0 .load 0x7000_1000_0200 2)), by decide +kernel, by decide +kernel, by decide +kernel, by decide +kernel, by decide +kernel, (.x 1), 0, [], by unfold State.takes; decide +kernel, by decide +kernel, by decide +kernel, rfl, by decide +kernel⟩,
    ⟨wLs, 0, 1, 8, (wOk (wLs.checkAccess 0 .lr 0x7000_1000_0200 8)), by decide +kernel, by decide +kernel, by decide +kernel, by decide +kernel, by decide +kernel, 0, by unfold State.takes; decide +kernel, by decide +kernel, rfl, by decide +kernel⟩⟩

theorem witness_LoadsOfDramWaitForTheirLine :
    (∃ (s : State) (n rs1 w len : Nat) (k : Checked) (off : Word) (ch : List Check), s.takes n len ∧ (s.core n).isSlack = false ∧ s.meetChecks n .load ((s.core n).rx rs1 + off) w ch = s ∧ Check.l1Again ∉ ch ∧ s.checkAccess n .load ((s.core n).rx rs1 + off) w = .ok k ∧ regionOf k.pa = .dram ∧ k.w2 = 0 ∧ (s.core n).has (k.pa / 64) = false ∧ (∀ e ∈ (s.core n).stores, e.overlaps k.pa k.w = false) ∧ s.mayInject n = true ∧ s.ebbRefused n = false ∧ (s.core n).ev (k.pa / 64) = none ∧ (s.core n).reqOf (k.pa / 64) = none ∧ (s.core n).req.length < 48 ∧ s.homesHeld = false) ∧
    (∃ (s : State) (n idx : Nat) (w : LdWait), (s.core n).loads[idx]? = some w ∧ (s.core n).run = .run ∧ (s.core n).entry = none ∧ (∀ e ∈ (s.core n).stores, e.overlaps w.pa w.width = false) ∧ w.width2 = 0 ∧ regionOf w.pa = .dram ∧ w.lr = false ∧ w.twp = false ∧ ((s.core n).l2line (w.pa / 64)).st ≠ .i ∧ ((s.core n).l2line (w.pa / 64)).poison = 0 ∧ (s.core n).isSlack = false) ∧
    (∃ (s : State) (n len : Nat) (k : Checked), s.canIssue n = true ∧ (s.core n).mcPending = none ∧ (s.core n).slipPending = false ∧ s.armed = false ∧ s.fetchTrap n len = none ∧ s.checkAccess n .fetch (s.core n).pc len = .ok k ∧ regionOf k.pa = .dram ∧ (s.core n).l1i.contains (k.pa / 64) = false ∧ (s.core n).has (k.pa / 64) = false ∧ s.mayInject n = true ∧ (s.core n).ev (k.pa / 64) = none ∧ (s.core n).reqOf (k.pa / 64) = none ∧ (s.core n).req.length < 48 ∧ s.homesHeld = false) :=
  ⟨⟨(wD 0x1FFC id), 0, 1, 4, 4, (wOk ((wD 0x1000 id).checkAccess 0 .load 0x1FFC 4)), 0, [], by unfold State.takes; decide +kernel, by decide +kernel, by decide +kernel, by decide +kernel, rfl, by decide +kernel, by decide +kernel, by decide +kernel, by decide +kernel, by decide +kernel, by decide +kernel, by decide +kernel, by decide +kernel, by decide +kernel, by decide +kernel⟩,
    ⟨(wD 0x1000 (fun c => { c with l2 := [(64, wLine)], loads := [{ dest := .x 3, pa := 0x1040, width := 8 }, { dest := .x 4, pa := 0x1000, width := 2, sx := true, len := 2 }] })), 0, 1, { dest := .x 4, pa := 0x1000, width := 2, sx := true, len := 2 }, by decide +kernel, by decide +kernel, by decide +kernel, by decide +kernel, by decide +kernel, by decide +kernel, by decide +kernel, by decide +kernel, by decide +kernel, by decide +kernel, by decide +kernel⟩,
    ⟨(wD 0x1000 (fun c => { c with pc := 0x2000 })), 0, 4, (wOk ((wD 0x1000 (fun c => { c with pc := 0x2000 })).checkAccess 0 .fetch 0x2000 4)), by decide +kernel, by decide +kernel, by decide +kernel, by decide +kernel, by decide +kernel, rfl, by decide +kernel, by decide +kernel, by decide +kernel, by decide +kernel, by decide +kernel, by decide +kernel, by decide +kernel, by decide +kernel⟩⟩

/-! `Obligations.StoresReachMemory` -/

theorem witness_StoresAreQueuedOrSent :
    (∃ (s : State) (n rs1 rs2 w len : Nat) (fp : Bool) (off : Word) (ch : List Check) (k : Checked), s.takes n len ∧ s.meetChecks n .store ((s.core n).rx rs1 + off) w ch = s ∧ s.checkAccess n .store ((s.core n).rx rs1 + off) w = .ok k ∧ (s.core n).blockedBy [rs1, dataReg fp rs2] false false = false ∧ (regionOf k.pa = .dram ∨ ∃ c, regionOf k.pa = .coreCast c ∨ regionOf k.pa = .sharedCast c) ∧ (s.core n).storeRoom (if k.w2 = 0 then 1 else 2) = true ∧ s.ebbRefused n = false) ∧
    (∃ (s : State) (n rs1 rs2 w len : Nat) (fp : Bool) (off : Word) (ch : List Check) (k : Checked), s.takes n len ∧ s.meetChecks n .store ((s.core n).rx rs1 + off) w ch = s ∧ s.checkAccess n .store ((s.core n).rx rs1 + off) w = .ok k ∧ (s.core n).blockedBy [rs1, dataReg fp rs2] false false = false ∧ (regionOf k.pa = .control ∨ regionOf k.pa = .pcie) ∧ s.mayInject n = true ∧ s.ebbRefused n = false) ∧
    (∃ (s : State) (n rs1 rs2 w len : Nat) (fp : Bool) (off : Word) (ch : List Check) (k : Checked), s.takes n len ∧ s.meetChecks n .store ((s.core n).rx rs1 + off) w ch = s ∧ s.checkAccess n .store ((s.core n).rx rs1 + off) w = .ok k ∧ (s.core n).blockedBy [rs1, dataReg fp rs2] false false = false ∧ ∃ e, regionOf k.pa = .mailbox e ∧ s.mayInject n = true ∧ s.ebbRefused n = false ∧ s.tc0Ready (epCore n) 1 = true) :=
  ⟨⟨(wD 0x1000 id), 0, 1, 2, 4, 4, true, 0, [], (wOk ((wD 0x1000 id).checkAccess 0 .store 0x1000 4)), by unfold State.takes; decide +kernel, by decide +kernel, rfl, by decide +kernel, by first | exact Or.inl (by decide +kernel) | exact Or.inr (by decide +kernel) | exact Or.inr (Or.inr (Or.inr (by decide +kernel))) | exact Or.inl ⟨_, rfl⟩ | exact Or.inr ⟨_, rfl⟩ | exact Or.inr ⟨_, rfl, rfl⟩ | exact Or.inr ⟨_, rfl, by decide +kernel⟩, by decide +kernel, by decide +kernel⟩,
    ⟨(wD 0x7F00_0000_2000 id), 0, 1, 2, 8, 4, false, 0, [], (wOk ((wD 0x7F00_0000_2000 id).checkAccess 0 .store 0x7F00_0000_2000 8)), by unfold State.takes; decide +kernel, by decide +kernel, rfl, by decide +kernel, by decide +kernel, by decide +kernel, by decide +kernel⟩,
    ⟨(wD 0x7001_0000_0000 id), 0, 1, 2, 8, 4, false, 0, [], (wOk ((wD 0x7001_0000_0000 id).checkAccess 0 .store 0x7001_0000_0000 8)), by unfold State.takes; decide +kernel, by decide +kernel, rfl, by decide +kernel, 0, by decide +kernel, by decide +kernel, by decide +kernel, by decide +kernel⟩⟩

theorem witness_DrainedStoresReachTheCastWindow :
    (∃ (s : State) (n : Nat) (e : StEnt) (rest : List StEnt), (s.core n).stores = e :: rest ∧ (s.core n).alive = true ∧ (s.core n).entry = none ∧ let g := e :: rest.takeWhile (·.cont); (∀ d ∈ g, regionOf d.pa = .coreCast (s.ownWindow n) ∧ s.populated d.pa d.bytes.length = true ∧ d.poison = []) ∧ (s.core n).isSlack = false) ∧
    (∃ (s : State) (n : Nat) (e : StEnt) (rest : List StEnt), (s.core n).stores = e :: rest ∧ (s.core n).alive = true ∧ (s.core n).entry = none ∧ let g := e :: rest.takeWhile (·.cont); (∀ d ∈ g, regionOf d.pa = .coreCast (s.ownWindow n) ∧ s.populated d.pa d.bytes.length = true ∧ d.poison = []) ∧ (s.core n).isSlack = true) :=
  ⟨⟨{ wCores [(0, { wC with stores := [{ pa := 0x7000_1000_0200, bytes := [1, 0, 0, 4] }, { pa := 0x7000_1000_0200, bytes := [1] }] })] with mem := wMem }, 0, { pa := 0x7000_1000_0200, bytes := [1, 0, 0, 4] }, [{ pa := 0x7000_1000_0200, bytes := [1] }], by decide +kernel, by decide +kernel, by decide +kernel, by decide +kernel, by decide +kernel⟩,
    ⟨{ wCores [(0, { wCs with stores := [{ pa := 0x7000_1000_0200, bytes := [1, 0, 0, 4] }, { pa := 0x7000_1000_0208, bytes := [7, 8], cont := true }, { pa := 0x7000_1000_0300, bytes := [1] }] })] with mem := wMem }, 0, { pa := 0x7000_1000_0200, bytes := [1, 0, 0, 4] }, [{ pa := 0x7000_1000_0208, bytes := [7, 8], cont := true }, { pa := 0x7000_1000_0300, bytes := [1] }], by decide +kernel, by decide +kernel, by decide +kernel, by decide +kernel, by decide +kernel⟩⟩

theorem witness_StoreAcknowledgements :
    (∃ (s : State) (n : Nat) (d : DevWait) (rest : List DevWait), (s.core n).devs = d :: rest ∧ s.devDelivers n d.pa = true ∧ s.pcieFault d.pa = false) ∧
    (∃ (s : State) (n : Nat), 0 < (s.core n).castAcks) :=
  ⟨⟨(wCores [(0, { wC with devs := [{ pa := 0x7F00_0000_2000, width := 8, value := 1 }] })]), 0, { pa := 0x7F00_0000_2000, width := 8, value := 1 }, [], by decide +kernel, by decide +kernel, by decide +kernel⟩,
    ⟨(wCores [(0, { wC with castAcks := 1 })]), 0, by decide +kernel⟩⟩

/-! `Obligations.AtomicsVectorAccessesAndFences` -/

theorem witness_AtomicsOnTheOwnCastWindow :
    (∃ (s : State) (n rd rs1 rs2 w : Nat) (k : Checked), s.takes n 4 ∧ regionOf k.pa = .coreCast (s.ownWindow n) ∧ k.w = w ∧ s.populated k.pa w = true ∧ s.anyPoison k.pa w = false ∧ (∀ e ∈ (s.core n).stores, e.overlaps k.pa k.w = false) ∧ (s.core n).blockedBy [rd, rs1, rs2] false false = false ∧ s.checkAccess n .amo ((s.core n).rx rs1) w = .ok k) ∧
    (∃ (s : State) (n rd rs1 rs2 w : Nat) (k : Checked), s.takes n 4 ∧ regionOf k.pa = .coreCast (s.ownWindow n) ∧ k.w = w ∧ s.populated k.pa w = true ∧ s.anyPoison k.pa w = false ∧ (∀ e ∈ (s.core n).stores, e.overlaps k.pa k.w = false) ∧ (s.core n).blockedBy [rd, rs1, rs2] false false = false ∧ (s.core n).isStrict = false ∧ s.checkAccess n .sc ((s.core n).rx rs1) w = .ok k ∧ (s.core n).resv = some (k.pa / 64)) ∧
    (∃ (s : State) (n rd rs1 rs2 w : Nat) (k : Checked), s.takes n 4 ∧ regionOf k.pa = .coreCast (s.ownWindow n) ∧ k.w = w ∧ s.populated k.pa w = true ∧ s.anyPoison k.pa w = false ∧ (∀ e ∈ (s.core n).stores, e.overlaps k.pa k.w = false) ∧ (s.core n).blockedBy [rd, rs1, rs2] false false = false ∧ (s.core n).isStrict = false ∧ s.checkAccess n .sc ((s.core n).rx rs1) w = .ok k ∧ (s.core n).resv ≠ some (k.pa / 64)) :=
  ⟨⟨wL, 0, 0, 1, 1, 4, (wOk (wL.checkAccess 0 .amo 0x7000_1000_0200 4)), by unfold State.takes; decide +kernel, by decide +kernel, by decide +kernel, by decide +kernel, by decide +kernel, by decide +kernel, by decide +kernel, rfl⟩,
    ⟨{ wLs with cores := [(0, { wLs.core 0 with resv := some (0x7000_1000_0200 / 64) })] }, 0, 0, 1, 2, 4, (wOk (wL.checkAccess 0 .sc 0x7000_1000_0200 4)), by unfold State.takes; decide +kernel, by decide +kernel, by decide +kernel, by decide +kernel, by decide +kernel, by decide +kernel, by decide +kernel, by decide +kernel, rfl, by decide +kernel⟩,
    ⟨wL, 0, 3, 1, 2, 8, (wOk (wL.checkAccess 0 .sc 0x7000_1000_0200 8)), by unfold State.takes; decide +kernel, by decide +kernel, by decide +kernel, by decide +kernel, by decide +kernel, by decide +kernel, by decide +kernel, by decide +kernel, rfl, by decide +kernel⟩⟩

theorem witness_VectorAccessesFencesAndCalls :
    (∃ (s : State) (n : Nat), s.takes n 4 ∧ (s.core n).stores = [] ∧ (s.core n).castAcks = 0 ∧ (s.core n).blockedBy [] true false = false) ∧
    (∃ (s : State) (n : Nat), s.takes n 4 ∧ (s.core n).stores = [] ∧ (s.core n).isStrict = false ∧ (s.core n).blockedBy [] true false = false) ∧
    (∃ (s : State) (n : Nat), s.takes n 4 ∧ s.trapsNow n) ∧
    (∃ (s : State) (n : Nat), s.takes n 4 ∧ s.trapsNow n) ∧
    (∃ (s : State) (n : Nat), s.takes n 4 ∧ ∃ (kind : VMemKind) (st m : Bool) (vd rs1 eew : Nat) (fill : Nat), s.fuse.vec = true ∧ let c := s.core n; let vt := c.csrv C.vtype; let parts := (s.elemParts n st (c.vmemElems kind m vd rs1 eew)).flatten; ∃ s2, vmemLegal kind st m vt vd eew = true ∧ c.blockedBy (vmemReads kind m vt rs1 eew ++ vmemRegs kind vt vd eew) false (!st && parts.any (fun p => s.accClass n .load p.1 == 1)) = false ∧ s.mayInject n = true ∧ s.vmemRun n kind st m vd rs1 eew fill = .done s2) ∧
    (∃ (s : State) (n : Nat), s.takes n 4 ∧ ∃ (kind : VMemKind) (st m : Bool) (vd eew : Nat), s.fuse.vec = true ∧ let c := s.core n; let vt := c.csrv C.vtype; vmemLegal kind st m vt vd eew = false ∧ s.trapsNow n) :=
  ⟨⟨wSs, 0, by unfold State.takes; decide +kernel, by decide +kernel, by decide +kernel, by decide +kernel⟩,
    ⟨{ wS with cores := [(0, { wC with l1i := [5] })] }, 0, by unfold State.takes; decide +kernel, by decide +kernel, by decide +kernel, by decide +kernel⟩,
    ⟨wS, 0, by unfold State.takes; decide +kernel, by unfold State.trapsNow; decide +kernel⟩,
    ⟨wSs, 0, by unfold State.takes; decide +kernel, by unfold State.trapsNow; decide +kernel⟩,
    ⟨(wV 5), 0, by unfold State.takes; decide +kernel, (.segIndexed 2 20), false, false, 8, 1, 2, 0, by decide +kernel, (wVdone (wV 5) (.segIndexed 2 20) false 8 2), by decide +kernel, by decide +kernel, by decide +kernel, rfl⟩,
    ⟨(wV 5), 0, by unfold State.takes; decide +kernel, (.segUnit 9), false, false, 8, 1, by decide +kernel, by decide +kernel, by unfold State.trapsNow; decide +kernel⟩⟩

/-! `Obligations.TranslationBuffersAreWritten` -/

theorem witness_TlbwInstallsAndRemoves :
    (∃ (s : State) (n rs1 rs2 : Nat), s.takesAt n .s ∧ let c := s.core n; let r1 := c.rx rs1; let r2 := c.rx rs2; let e := mkTlbE (c.tlbTag (getB r1 3)) r1 r2; getF r1 ⟨4, 8⟩ = 0 ∧ (c.level = .s → e.lock = false ∧ ∀ k x, c.tlbSame e = some k → c.tlbAt k = some x → x.lock = false) ∧ c.blockedBy [rs1, rs2] false false = false ∧ getB r2 0 = true ∧ (e.lock = true → (c.locks (c.tlbSame e) (e.vpn % 256)).1 < 64 ∧ (c.locks (c.tlbSame e) (e.vpn % 256)).2 < 7) ∧ ((∃ p, e.owner = .part p) → c.stage2 .s = true → (c.s2Lookup c.pid (e.ppn * 4096)).isSome = true)) ∧
    (∃ (s : State) (n rs1 rs2 : Nat), s.takesAt n .s ∧ let c := s.core n; let r1 := c.rx rs1; let r2 := c.rx rs2; let e := mkTlbE (c.tlbTag (getB r1 3)) r1 r2; getF r1 ⟨4, 8⟩ = 0 ∧ (c.level = .s → e.lock = false ∧ ∀ k x, c.tlbSame e = some k → c.tlbAt k = some x → x.lock = false) ∧ c.blockedBy [rs1, rs2] false false = false ∧ getB r2 0 = false) :=
  ⟨⟨(wT 0x40000 0x990AF), 0, 1, 2, by unfold State.takesAt State.takes; decide +kernel, by decide +kernel, by first | exact fun h => absurd h (by decide +kernel) | exact fun _ => by decide +kernel | exact fun _ _ => by decide +kernel, by decide +kernel, by decide +kernel, by decide +kernel, fun _ h => absurd h (by decide +kernel)⟩,
    ⟨(wT 0x41008 0x99002), 0, 1, 2, by unfold State.takesAt State.takes; decide +kernel, by decide +kernel, by first | exact fun h => absurd h (by decide +kernel) | exact fun _ => by decide +kernel | exact fun _ _ => by decide +kernel, by decide +kernel, by decide +kernel⟩⟩

theorem witness_S2wInstallsAndRemoves :
    (∃ (s : State) (n rs1 rs2 : Nat), s.takesAt n .h ∧ let c := s.core n; let r1 := c.rx rs1; let r2 := c.rx rs2; let e := mkS2E c.pid r1 r2; getF r1 ⟨3, 9⟩ = 0 ∧ c.blockedBy [rs1, rs2] false false = false ∧ getB r2 0 = true ∧ (e.lock = true → (c.locks2 (c.s2Same e) (e.gpn % 128)).1 < 32 ∧ (c.locks2 (c.s2Same e) (e.gpn % 128)).2 < 3)) ∧
    (∃ (s : State) (n rs1 rs2 : Nat), s.takesAt n .h ∧ let c := s.core n; let r1 := c.rx rs1; let r2 := c.rx rs2; getF r1 ⟨3, 9⟩ = 0 ∧ c.blockedBy [rs1, rs2] false false = false ∧ getB r2 0 = false) :=
  ⟨⟨(wT 0x41004 0x99007), 0, 1, 2, by unfold State.takesAt State.takes; decide +kernel, by decide +kernel, by decide +kernel, by decide +kernel, by decide +kernel⟩,
    ⟨(wT 0x42000 0x99000), 0, 1, 2, by unfold State.takesAt State.takes; decide +kernel, by decide +kernel, by decide +kernel, by decide +kernel⟩⟩

/-! `Obligations.TranslationBuffersAreReadAndInvalidated` -/

theorem witness_TlbpReadsAndTlbiRemoves :
    (∃ (s : State) (n : Nat), s.takesAt n .s ∧ let c := s.core n; ∃ rd rs1, getF (c.rx rs1) ⟨0, 3⟩ = 0 ∧ getF (c.rx rs1) ⟨5, 7⟩ = 0 ∧ (getB (c.rx rs1) 4 = true → c.level ≠ .s) ∧ c.blockedBy [rs1, rd] false false = false) ∧
    (∃ (s : State) (n : Nat), s.takesAt n .s ∧ let c := s.core n; ∃ rs1 rs2, invBad (c.rx rs2) = false ∧ (invLow (c.rx rs2) = true → c.level ≠ .s) ∧ c.blockedBy [rs1, rs2] false false = false) :=
  ⟨⟨(wT 0x43010 0), 0, by unfold State.takesAt State.takes; decide +kernel, 0, 1, by decide +kernel, by decide +kernel, by decide +kernel, by decide +kernel⟩,
    ⟨(wT 0x40000 0), 0, by unfold State.takesAt State.takes; decide +kernel, 1, 2, by decide +kernel, by decide +kernel, by decide +kernel⟩⟩

theorem witness_TlbibReachesEveryCore :
    (∃ (s : State) (n rs1 rs2 : Nat), s.takesAt n .s ∧ (s.core n).isStrict = false ∧ invBad ((s.core n).rx rs2) = false ∧ (invLow ((s.core n).rx rs2) = true → (s.core n).level ≠ .s) ∧ (s.core n).blockedBy [rs1, rs2] false false = false ∧ s.mayInject n = true ∧ (s.core n).castAcks = 0 ∧ (s.core n).stores = []) ∧
    (∃ (s : State) (n : Nat) (w : TlbibWait), (s.core n).tlbib = some w) :=
  ⟨⟨(wT 0x40000 0x1_0000_0020), 0, 1, 2, by unfold State.takesAt State.takes; decide +kernel, by decide +kernel, by decide +kernel, by decide +kernel, by decide +kernel, by decide +kernel, by decide +kernel, by decide +kernel⟩,
    ⟨(wCores [(0, { wC with tlbib := some { waiting := [1] } })]), 0, { waiting := [1] }, by decide +kernel⟩⟩

/-! `Obligations.SystemInstructionsAct` -/

theorem witness_TwpPauseSlackAndHlt :
    (∃ (s : State) (n rd rs1 rs2 pa : Nat), s.takesAt n .s ∧ getF ((s.core n).rx rs2) ⟨3, 9⟩ = 0 ∧ (s.core n).isStrict = false ∧ (s.core n).blockedBy [rd, rs1, rs2] false false = false ∧ s.twpCheck n ((s.core n).rx rs1) ((s.core n).rx rs2) = .ok pa ∧ regionOf pa = .coreCast (s.ownWindow n) ∧ (∀ e ∈ (s.core n).stores, e.overlaps pa 8 = false) ∧ s.anyPoison pa 8 = false) ∧
    (∃ (s : State) (n : Nat), s.takes n 4 ∧ (s.core n).stores = [] ∧ (s.core n).blockedBy [] true false = false) ∧
    (∃ (s : State) (n : Nat), s.takesAt n .h ∧ (s.core n).stores = [] ∧ s.pwr.phase ≠ .requested ∧ (∀ q ∈ (3, 24, 0, 0) :: s.pendings n, (s.core n).csrBit (((s.core n).intTarget q.1).base + 0xC) q.1 = false ∨ (s.core n).ithresh ((s.core n).intTarget q.1) ≤ q.2.1)) :=
  ⟨⟨wL, 0, 3, 1, 4, (match wL.twpCheck 0 0x7000_1000_0200 0 with | .ok a => a | _ => 0), by unfold State.takesAt State.takes; decide +kernel, by decide +kernel, by decide +kernel, by decide +kernel, rfl, by decide +kernel, by decide +kernel, by decide +kernel⟩,
    ⟨wSs, 0, by unfold State.takes; decide +kernel, by decide +kernel, by decide +kernel⟩,
    ⟨wS, 0, by unfold State.takesAt State.takes; decide +kernel, by decide +kernel, by decide +kernel, by decide +kernel⟩⟩

theorem witness_TretRestoresWhatItsSlotHolds :
    (∃ (s : State) (n : Nat), s.takesAt n .s ∧ (s.core n).stores = [] ∧ (s.core n).blockedBy [] true false = false ∧ let c := s.core n; let w := castBase (s.ownWindow n) + c.tretOff.toNat; s.tretCheck n 0 = none ∧ s.anyPoison w 0x90 = false) ∧
    (∃ (s : State) (n : Nat), s.takesAt n .s ∧ (s.core n).stores = [] ∧ (s.core n).blockedBy [] true false = false ∧ let c := s.core n; c.tretOff.toNat % 256 ≠ 0 ∧ s.trapsNow n) :=
  ⟨⟨(wSlot 0x2000), 0, by unfold State.takesAt State.takes; decide +kernel, by decide +kernel, by decide +kernel, by decide +kernel, by decide +kernel⟩,
    ⟨(wSlot 0x20FF), 0, by unfold State.takesAt State.takes; decide +kernel, by decide +kernel, by decide +kernel, by decide +kernel, by unfold State.trapsNow; decide +kernel⟩⟩

theorem witness_CsrInstructionsReadAndWrite :
    (∃ (s : State) (n csr rd rs1 : Nat) (op : CsrOp), s.takes n 4 ∧ let c := s.core n; let old := s.csrRead n csr; let v := csrNew op old (c.csrSrc op rs1); csrPlain csr ∧ s.csrTrap n csr (csrWrites op rs1) v (csrEnc op csr rd rs1) = none ∧ c.blockedBy [] true false = false) ∧
    (∃ (s : State) (n csr : Nat), s.takes n 4 ∧ csrExists s.fuse.vec csr = false ∧ s.trapsNow n) :=
  ⟨⟨wL, 0, 0x6D0, 3, 2, .rs, by unfold State.takes; decide +kernel, by unfold csrPlain; decide +kernel, by decide +kernel, by decide +kernel⟩,
    ⟨wL, 0, 0x7E1, by unfold State.takes; decide +kernel, by decide +kernel, by unfold State.trapsNow; decide +kernel⟩⟩

/-! `Obligations.PaceSwitchesAndSlips` -/

theorem witness_PaceSwitchStartsAndCompletes :
    (∃ (s : State) (n rd rs1 : Nat) (op : CsrOp), s.takes n 4 ∧ csrWrites op rs1 = true ∧ (s.core n).blockedBy [] true false = false ∧ let c := s.core n; let v := csrNew op (c.csrv C.pacectl) (c.csrSrc op rs1); s.csrTrap n C.pacectl true v (csrEnc op C.pacectl rd rs1) = none ∧ (v ^^^ c.csrv C.pacectl) &&& 3 ≠ 0) ∧
    (∃ (s : State) (n : Nat) (w : PaceSw), (s.core n).switch = some w ∧ (s.core n).stores = [] ∧ (s.core n).mcPending = none ∧ w.lost = false ∧ s.flag Reg.CHIP_PACESTAT F.CHIP_PACESTAT_LOCKA = true) ∧
    (∃ (s : State) (n : Nat) (w : PaceSw), (s.core n).switch = some w ∧ (s.core n).stores = [] ∧ (s.core n).mcPending = none ∧ w.lost = true ∧ (s.core n).paired = false) :=
  ⟨⟨wSs, 0, 0, 1, .rci, by unfold State.takes; decide +kernel, by decide +kernel, by decide +kernel, by decide +kernel, by decide +kernel⟩,
    ⟨(wF Reg.CHIP_PACESTAT F.CHIP_PACESTAT_LOCKA 1 (wCores [(0, { wC with switch := some { slack := true, rateB := true } })])), 0, { slack := true, rateB := true }, by decide +kernel, by decide +kernel, by decide +kernel, by decide +kernel, by decide +kernel⟩,
    ⟨(wCores [(0, { wC with switch := some { slack := true, rateB := true, lost := true } })]), 0, { slack := true, rateB := true, lost := true }, by decide +kernel, by decide +kernel, by decide +kernel, by decide +kernel, by decide +kernel⟩⟩

theorem witness_PaceSlipIsCountedAndReported : ∃ (s : State) (n : Nat), (s.core n).paired = false ∧ (s.core n).isSlack = true ∧ (s.core n).run = .run :=
  ⟨(wCores [(0, { wCs with slipDepth := some 1 })]), 0, by decide +kernel, by decide +kernel, by decide +kernel⟩

/-! `Obligations.PairedModeAndPrediction` -/

theorem witness_PairedModeIsEnteredAndLeft :
    (∃ (s : State) (n : Nat), s.takesAt n .h ∧ (s.core n).blockedBy [] true false = false ∧ s.fuse.pair = true ∧ n % 2 = 0 ∧ (s.core n).csrBit C.pairctl 0 = false ∧ s.pairReady (n / 2) = true) ∧
    (∃ (s : State) (k : Nat), s.Canonical ∧ (s.core (2 * k)).pairCopy.isSome = true ∧ (s.core (2 * k)).stores = [] ∧ (s.core (2 * k)).mcPending = none) ∧
    (∃ (s : State) (n : Nat), s.Canonical ∧ s.takesAt n .h ∧ (s.core n).blockedBy [] true false = false ∧ s.fuse.pair = true ∧ n % 2 = 0 ∧ (s.core n).paired = true) :=
  ⟨⟨(wCores [(0, wCs), (1, { wCs with run := .halt })]), 0, by unfold State.takesAt State.takes; decide +kernel, by decide +kernel, by decide +kernel, by decide +kernel, by decide +kernel, by decide +kernel⟩,
    ⟨{ wCores [(0, { wR [(5, 7)] wC with pairCopy := some {} }), (1, { wC with run := .halt })] with mem := wMem }, 0, ⟨by decide +kernel, by decide +kernel⟩, by decide +kernel, by decide +kernel, by decide +kernel⟩,
    ⟨{ wCores [(0, wR [(5, 7)] (wC.setCsr C.pairctl 3)), (1, wC.setCsr C.pairctl 0xA)] with mem := wMem }, 0, ⟨by decide +kernel, by decide +kernel⟩, by unfold State.takesAt State.takes; decide +kernel, by decide +kernel, by decide +kernel, by decide +kernel, by decide +kernel⟩⟩

theorem witness_PredictionControlAndKeys :
    (∃ (s : State) (n : Nat), s.takesAt n .h ∧ (s.core n).blockedBy [] true false = false ∧ (∀ p ∈ (s.core n).pred.newKey, p.1 = (s.core n).keySlot)) ∧
    (∃ (s : State) (n : Nat), s.takesAt n .h ∧ (s.core n).blockedBy [] true false = false ∧ (∀ p ∈ (s.core n).pred.newKey, p.1 = (s.core n).keySlot)) ∧
    (∃ (s : State) (n : Nat), s.takesAt n .h ∧ (s.core n).blockedBy [] true false = false ∧ (∀ p ∈ (s.core n).pred.newKey, p.1 = (s.core n).keySlot)) ∧
    (∃ (s : State) (n : Nat), (s.core n).csrBit C.predctl 2 = true) ∧
    (∃ (s : State) (n : Nat), s.hasCore n = true ∧ (s.core n).csrF C.predctl 16 4 ≠ 0 ∧ (∀ p ∈ (s.core n).pred.newKey, p.1 = (s.core n).keySlot)) ∧
    (∃ (s : State) (n k : Nat) (v : BitVec 24), (s.core n).pred.newKey = some (k, v, 0)) :=
  ⟨⟨wS, 0, by unfold State.takesAt State.takes; decide +kernel, by decide +kernel, by decide +kernel⟩,
    ⟨wS, 0, by unfold State.takesAt State.takes; decide +kernel, by decide +kernel, by decide +kernel⟩,
    ⟨(wCores [(0, wC.setCsr C.predctl 0x11)]), 0, by unfold State.takesAt State.takes; decide +kernel, by decide +kernel, by decide +kernel⟩,
    ⟨(wCores [(0, wC.setCsr C.predctl 5)]), 0, by decide +kernel⟩,
    ⟨(wCores [(0, wC.setCsr C.predctl 0x1_0001)]), 0, by decide +kernel, by decide +kernel, by decide +kernel⟩,
    ⟨(wCores [(0, { wC with pred := { newKey := some (3, 9, 0) } })]), 0, 3, 9, by decide +kernel⟩⟩

/-! `Obligations.PaceGeneratorsAndTheSystemReference` -/

theorem witness_PaceGeneratorEvents :
    (∃ (s : State), let a := Reg.CHIP_PACESTAT; s.flag a F.CHIP_PACESTAT_LOCKA = true) ∧
    (∃ (s : State), let a := Reg.CHIP_PACESTAT; s.flag a F.CHIP_PACESTAT_BFAST = false) ∧
    (∃ (s : State), (∀ n, (s.core n).csrBit C.pairctl 1 = false)) :=
  ⟨⟨(wF Reg.CHIP_PACESTAT F.CHIP_PACESTAT_LOCKA 1 wS), by decide +kernel⟩,
    ⟨(wF Reg.CHIP_PACESTAT F.CHIP_PACESTAT_LOCKB 1 wS), by decide +kernel⟩,
    ⟨(wF Reg.CHIP_PACESTAT F.CHIP_PACESTAT_LOCKA 1 {}), fun _ => by show (({} : Core)).csrBit C.pairctl 1 = false; decide +kernel⟩⟩

theorem witness_SystemReferenceStopsAndReturns :
    (∃ (s : State), s.time.refOn = true) ∧
    (∃ (s : State), s.time.refOn = false) :=
  ⟨⟨wSs, by decide +kernel⟩,
    ⟨{ wSs with time := { refOn := false } }, by decide +kernel⟩⟩

/-! `Obligations.InterruptsAndTheirEntries` -/

theorem witness_InterruptsAreRecognised :
    (∃ (s : State) (n : Nat) (q : Nat × Nat × Nat × Nat), s.atBoundary n = true ∧ (s.core n).mcPending = none ∧ (s.core n).slipPending = false ∧ (s.core n).run = .run ∧ s.selectInt n (s.core n).level = some q) ∧
    (∃ (s : State) (n : Nat) (i : McInfo), s.atBoundary n = true ∧ (s.core n).mcPending = some i ∧ (s.core n).csrBit 0x7C0 16 = false) ∧
    (∃ (s : State) (n : Nat) (e : EntrySt) (code src num : Nat) (q : Nat × Nat × Nat × Nat), (s.core n).entry = some e ∧ e.slot = none ∧ (s.core n).mcPending = none ∧ e.kind = .interrupt code src num ∧ s.selectInt n e.from_ = some q ∧ (s.core n).before q (code, e.prio, src, num) = true) ∧
    (∃ (s : State) (n : Nat) (h : Bool), ((s.core n).csrv (if h then C.hTimecmp else C.sTimecmp)).toNat ≤ s.now) :=
  ⟨⟨(wI (fun c => { c with offers := [{ code := 5, src := 40, prio := 3, num := 1 }] })), 0, (5, 3, 40, 1), by decide +kernel, by decide +kernel, by decide +kernel, by decide +kernel, by decide +kernel⟩,
    ⟨(wI (fun c => { c with mcPending := some ⟨4, false, false, 0, 3, 1, 0⟩ })), 0, (⟨4, false, false, 0, 3, 1, 0⟩), by decide +kernel, by decide +kernel, by decide +kernel⟩,
    ⟨(wI (fun c => { c with entry := some (wEntry (.interrupt 5 40 0)) })), 0, (wEntry (.interrupt 5 40 0)), 5, 40, 0, (2, 8, 0, 0), by decide +kernel, by decide +kernel, by decide +kernel, by decide +kernel, by decide +kernel, by decide +kernel⟩,
    ⟨(wI (fun c => c.setCsr C.sTimecmp 0)), 0, false, by decide +kernel⟩⟩

theorem witness_EntriesWriteTheirSlot :
    (∃ (s : State) (n : Nat) (e : EntrySt), (s.core n).entry = some e ∧ e.slot = none ∧ let top := (s.core n).slotTop e.target e.from_; s.slotValid n e.target top = true ∧ e.late = []) ∧
    (∃ (s : State) (n : Nat) (e : EntrySt), (s.core n).entry = some e ∧ e.slot = none ∧ let top := (s.core n).slotTop e.target e.from_; s.slotValid n e.target top = false ∧ e.target = .f) :=
  ⟨⟨(wI (fun c => { wR [(2, 0x7000_1000_1100)] c with entry := some (wEntry .exception) })), 0, (wEntry .exception), by decide +kernel, by decide +kernel, by decide +kernel, by decide +kernel⟩,
    ⟨(wI (fun c => { (c.setCsr 0x7C8 0x3F01) with entry := some (wEntry .exception) })), 0, (wEntry .exception), by decide +kernel, by decide +kernel, by decide +kernel, by decide +kernel⟩⟩

theorem witness_EntriesCompleteAtTheHandler : ∃ (s : State) (n off : Nat) (e : EntrySt), (s.core n).entry = some e ∧ e.slot = some off :=
  ⟨(wI (fun c => { c with level := .u, entry := some { wEntry .exception with slot := some 0x1000, target := .s, from_ := .u } })), 0, 0x1000, { wEntry .exception with slot := some 0x1000, target := .s, from_ := .u }, by decide +kernel, by decide +kernel⟩

/-! `Obligations.RegisterFieldsFollowTheirAccessCodes` -/

theorem witness_RegisterFieldsFollowTheirAccessCodes :
    (∃ (fs : List FieldSpec), fs.Pairwise (fun f g => f.fld.mask &&& g.fld.mask = 0) ∧ ∃ k : Word, (∀ f ∈ fs, f.fld.mask &&& k = 0)) ∧
    (∃ (fs : List FieldSpec), fs.Pairwise (fun f g => f.fld.mask &&& g.fld.mask = 0) ∧ ∃ f, f ∈ fs) :=
  ⟨⟨(wFs .rw), by decide +kernel, 0xF000, by decide +kernel⟩,
    ⟨(wFs .sc), by decide +kernel, (⟨⟨0, 4⟩, .sc⟩), by decide +kernel⟩⟩

/-! `Obligations.RegistersAreWrittenAndRead` -/

theorem witness_RegisterWritesReachTheirRegister :
    (∃ (off : Nat), offDecoded off = false) ∧
    (∃ (s : State) (off width : Nat), offDecoded off = true ∧ s.ctlReached off width = false) ∧
    (∃ (s : State) (off width : Nat), let a := off - off % 8; a < 0x1_0000 ∧ a ∉ [Reg.CHIP_PACESTAT, Reg.CHIP_HOMECTL, Reg.CHIP_PEBB, Reg.CHIP_DRAMCTL, Reg.CHIP_TTCTL, Reg.CHIP_TTADJ, Reg.CHIP_TTRATE, Reg.CHIP_TRIPPERMIT] ∧ s.ctlReached off width = true) ∧
    (∃ (s : State) (v : Word), ∃ n num, s.hasCore n = true ∧ (s.core n).run = .run ∧ s.csrTrap n num true v 0 = none ∧ csrPlain num) :=
  ⟨⟨0x1_0000_0000, by decide +kernel⟩,
    ⟨wS, 0x0100_0000, 2, by decide +kernel, by decide +kernel⟩,
    ⟨wS, 0, 8, by decide +kernel, by decide +kernel, by decide +kernel⟩,
    ⟨wS, 5, 0, 0x7C1, by decide +kernel, by decide +kernel, by decide +kernel, by unfold csrPlain; decide +kernel⟩⟩

theorem witness_CounterReadsReturnAndClear :
    (∃ (off : Nat), offDecoded off = false) ∧
    (∃ (s : State) (off width : Nat), offDecoded off = true ∧ s.ctlReached off width = true) :=
  ⟨⟨0x1_0000_0000, by decide +kernel⟩,
    ⟨(wF Reg.HIF_MSGCNT F.HIF_MSGCNT_INTX 77 (wF (epctl epHif) F.RTR_EPCTL_STATE 1 wS)), (Reg.HIF_MSGCNT + 4), 4, by decide +kernel, by decide +kernel⟩⟩

/-! `Obligations.LinksReplayAndEndpointsAdmit` -/

theorem witness_LinksReplayAndEscalate :
    (∃ (s : State) (r l : Nat), r < 80 ∧ l < 4 ∧ let k := 4 * r + l; let q := neighbour r l; ∃ cls, cls < 4 ∧ s.linkState k ≠ 3 ∧ s.injKind (unitRouter q) (inputLink l) none = none) ∧
    (∃ (s : State) (r l : Nat), r < 80 ∧ l < 4 ∧ let k := 4 * r + l; let q := neighbour r l; ∃ cls, cls < 4 ∧ s.linkState k ≠ 3 ∧ s.injKind (unitRouter q) (inputLink l) none = none ∧ ∃ h d, (h && d) = false ∧ s.linkState k = 0) ∧
    (∃ (s : State) (r l : Nat), r < 80 ∧ l < 4 ∧ let k := 4 * r + l; let q := neighbour r l; ∃ cls, cls < 4 ∧ s.linkState k ≠ 3 ∧ s.injKind (unitRouter q) (inputLink l) none = none ∧ ∃ h d, (h && d) = false ∧ s.linkState k = 1) ∧
    (∃ (s : State) (r l : Nat), r < 80 ∧ l < 4 ∧ let k := 4 * r + l; let q := neighbour r l; ∃ cls, cls < 4 ∧ s.linkState k ≠ 3 ∧ s.injKind (unitRouter q) (inputLink l) none = none ∧ s.linkState k = 2) ∧
    (∃ (s : State) (r l : Nat), r < 80 ∧ l < 4 ∧ let k := 4 * r + l; s.linkState k ≠ 3) ∧
    (∃ (s : State) (r l : Nat), r < 80 ∧ l < 4 ∧ let k := 4 * r + l; (s.linkState k = 1 ∨ s.linkState k = 2)) :=
  ⟨⟨wS, 79, 3, by decide +kernel, by decide +kernel, 3, by decide +kernel, by decide +kernel, by decide +kernel⟩,
    ⟨wS, 0, 0, by decide +kernel, by decide +kernel, 0, by decide +kernel, by decide +kernel, by decide +kernel, false, true, by decide +kernel, by decide +kernel⟩,
    ⟨({ wS with links := [(4, { replay := [⟨0, false⟩, ⟨1, false⟩], resend := 1 })] } : State).setLinkState 4 1, 1, 0, by decide +kernel, by decide +kernel, 0, by decide +kernel, by decide +kernel, by decide +kernel, false, true, by decide +kernel, by decide +kernel⟩,
    ⟨({ wS with links := [(4, { replay := [⟨0, false⟩, ⟨1, false⟩], resend := 1 })] } : State).setLinkState 4 2, 1, 0, by decide +kernel, by decide +kernel, 0, by decide +kernel, by decide +kernel, by decide +kernel, by decide +kernel⟩,
    ⟨{ wS with links := [(4, { replay := [⟨0, false⟩, ⟨1, false⟩] })] }, 1, 0, by decide +kernel, by decide +kernel, by decide +kernel⟩,
    ⟨({ wS with links := [(4, { replay := [⟨0, false⟩, ⟨1, false⟩] })] } : State).setLinkState 4 1, 1, 0, by decide +kernel, by decide +kernel, by decide +kernel⟩⟩

theorem witness_AdmissionTokensAccrue :
    (∃ (s : State), s.streamA = true) ∧
    (∃ (s : State), s.streamA = true) ∧
    (∃ (s : State), s.streamA = false) ∧
    (∃ r e, r < 80 ∧ e < 4) ∧
    (∃ r, r < 80) :=
  ⟨⟨(wF Reg.CHIP_PACESTAT F.CHIP_PACESTAT_LOCKA 1 { wS with endpoints := [(5, { tokens := 0 })] }), by decide +kernel⟩,
    ⟨(wF (Reg.RTR_TC0CAP 0) ⟨0,64⟩ 0 (wF Reg.CHIP_PACESTAT F.CHIP_PACESTAT_LOCKA 1 { wS with links := [(5, { tokens := 0 })] })), by decide +kernel⟩,
    ⟨wS, by decide +kernel⟩,
    ⟨79, 3, by decide +kernel, by decide +kernel⟩,
    ⟨79, by decide +kernel⟩⟩

/-! `Obligations.EndpointsAndPartitionsEbb` -/

theorem witness_EndpointsEbbReopenAndDie :
    (∃ (s : State) (k : Nat), s.epPresent k = true ∧ s.ebbBarred k = false ∧ s.epState k = epOpen) ∧
    (∃ (s : State) (k : Nat), s.epPresent k = true ∧ s.ebbBarred k = true) ∧
    (∃ (s : State) (k : Nat), s.epPresent k = true ∧ s.epState k = epFenced ∧ s.domRun (epDom k) = true) ∧
    (∃ (s : State) (k : Nat), s.epPresent k = true ∧ ∃ (i : Instr) (cause : Nat), ((i = Instr.declare k ∧ cause = 3 ∧ s.epState k ≠ epDead) ∨ (i = Instr.ebbTimeout k ∧ cause = 1 ∧ s.epState k = epEbbing) ∨ (i = Instr.responseTimeout k ∧ cause = 2 ∧ (s.epState k = epOpen ∨ s.epState k = epEbbing) ∧ s.fld (epctl k) F.RTR_EPCTL_RSPTMO ≠ 15))) :=
  ⟨⟨wS, (epCore 0), by decide +kernel, by decide +kernel, by decide +kernel⟩,
    ⟨(wF Reg.CHIP_HOMECUR ⟨0, 64⟩ 1 wS), (epSlice 0), by decide +kernel, by decide +kernel⟩,
    ⟨(wF (Reg.PWR_DOM 192) F.PWR_DOM_STATE domRunning (wF (epctl (epMc 0)) F.RTR_EPCTL_STATE 3 wS)), (epMc 0), by decide +kernel, by decide +kernel, by decide +kernel⟩,
    ⟨(wF (epctl (epFe 1)) F.RTR_EPCTL_STATE 1 wS), (epFe 1), by decide +kernel, (.responseTimeout (epFe 1)), 2, by decide +kernel⟩⟩

theorem witness_FenceMapAndMarkers :
    (∃ (s : State) (r k st : Nat), Msg.fenceMap r k st ∈ s.net ∧ r ≠ svcRouter) ∧
    (∃ (s : State) (r k : Nat), k ∈ (s.router r).owes ∧ s.holdsFor r k = false) ∧
    (∃ (s : State) (r k c : Nat), Msg.marker r k c ∈ s.net ∧ (∃ m ∈ s.net.takeWhile (fun x => x != .marker r k c), m.way = some (r, k, c))) ∧
    (∃ (s : State) (r k c : Nat), Msg.marker r k c ∈ s.net ∧ (∀ m ∈ s.net.takeWhile (fun x => x != .marker r k c), m.way ≠ some (r, k, c)) ∧ s.epState k = epEbbing ∧ (s.ep k).markers + 1 < 320) ∧
    (∃ (s : State) (r k c : Nat), Msg.marker r k c ∈ s.net ∧ (∀ m ∈ s.net.takeWhile (fun x => x != .marker r k c), m.way ≠ some (r, k, c)) ∧ s.epState k = epEbbing ∧ 319 ≤ (s.ep k).markers) :=
  ⟨⟨{ wS with net := [.fenceMap 78 5 4] }, 78, 5, 4, by decide +kernel, by decide +kernel⟩,
    ⟨{ wS with routers := [(3, { owes := [5, 6] })] }, 3, 5, by decide +kernel, by decide +kernel⟩,
    ⟨{ wS with net := [.withdraw 88 9, .marker 79 208 3] }, 79, 208, 3, by decide +kernel, by decide +kernel⟩,
    ⟨(wF (epctl 5) F.RTR_EPCTL_STATE 2 { wS with net := [.marker 3 5 0], endpoints := [(5, { markers := 318 })] }), 3, 5, 0, by decide +kernel, by decide +kernel, by decide +kernel, by decide +kernel⟩,
    ⟨(wF (epctl 5) F.RTR_EPCTL_STATE 2 { wS with net := [.marker 3 5 0], endpoints := [(5, { markers := 319 })] }), 3, 5, 0, by decide +kernel, by decide +kernel, by decide +kernel, by decide +kernel⟩⟩

theorem witness_PartitionEbb :
    (∃ (s : State) (p : Nat), p < 64 ∧ s.flag Reg.CHIP_PEBB F.CHIP_PEBB_START = false) ∧
    (∃ (s : State) (q : PartEbb), s.partEbb = some q ∧ s.taggedOut q.part = []) ∧
    (∃ (s : State) (q : PartEbb), s.partEbb = some q) :=
  ⟨⟨wS, 63, by decide +kernel, by decide +kernel⟩,
    ⟨(wF Reg.CHIP_PEBB F.CHIP_PEBB_START 1 { wS with partEbb := some ⟨3⟩ }), ⟨3⟩, by decide +kernel, by decide +kernel⟩,
    ⟨(wF Reg.CHIP_PEBB F.CHIP_PEBB_START 1 { wS with partEbb := some ⟨0⟩, net := [.castStore 0 5 [], .devAccess 1 5 8 true 0] }), ⟨0⟩, by decide +kernel⟩⟩

/-! `Obligations.CastCountsAndMaintenance` -/

theorem witness_CastCountsChange :
    (∃ (s : State) (r : CastReg), let a := castAddr r; ∃ v, s.hasTile (castTile r) = true ∧ getF v F.TILE_LCAST_WAYS ≠ s.fld a F.TILE_LCAST_WAYS ∧ s.castReject r (getF v F.TILE_LCAST_WAYS) = none) ∧
    (∃ (s : State) (r : CastReg), let a := castAddr r; ∃ v, s.hasTile (castTile r) = true ∧ getF v F.TILE_LCAST_WAYS ≠ s.fld a F.TILE_LCAST_WAYS ∧ ∃ k, s.castReject r (getF v F.TILE_LCAST_WAYS) = some k) ∧
    (∃ (s : State) (r : CastReg), let a := castAddr r; s.flag a F.TILE_LCAST_BUSY = true) :=
  ⟨⟨wS, (.slc 0), (setF 0 F.TILE_LCAST_WAYS 1), by decide +kernel, by decide +kernel, by decide +kernel⟩,
    ⟨wSs, (.right 0), (setF 0 F.TILE_LCAST_WAYS 31), by decide +kernel, by decide +kernel, 1, by decide +kernel⟩,
    ⟨(wF (Reg.TILE_LCAST 0) F.TILE_LCAST_WAYS 5 (wF (Reg.TILE_LCAST 0) F.TILE_LCAST_BUSY 1 { wS with mem := [(0x7000_1004_0000, 5)] })), (.left 0), by decide +kernel⟩⟩

theorem witness_MaintenanceRequests :
    (∃ (s : State) (i : Instr) (sl : Bool) (t op tag : Nat), ((i = Instr.mntClean sl t tag ∧ op = 0) ∨ (i = Instr.mntInvalidate sl t tag ∧ op = 1) ∨ (i = Instr.mntCleanAndInvalidate sl t tag ∧ op = 2) ∨ (i = Instr.mntZero sl t tag ∧ op = 3)) ∧ s.hasTile t = true ∧ let addr := (s.reg (mntBase sl t)).toNat % 2 ^ 48; let len := (s.reg (mntBase sl t + 8)).toNat % 2 ^ 43; len ≠ 0 ∧ addr + len ≤ 2 ^ 48 ∧ regionKind addr = regionKind (addr + len - 1) ∧ (s.mntQ sl t).length < 4) ∧
    (∃ (s : State) (i : Instr) (sl : Bool) (t op tag : Nat), ((i = Instr.mntClean sl t tag ∧ op = 0) ∨ (i = Instr.mntInvalidate sl t tag ∧ op = 1) ∨ (i = Instr.mntCleanAndInvalidate sl t tag ∧ op = 2) ∨ (i = Instr.mntZero sl t tag ∧ op = 3)) ∧ s.hasTile t = true ∧ let len := (s.reg (mntBase sl t + 8)).toNat % 2 ^ 43; len = 0) ∧
    (∃ (s : State) (i : Instr) (sl : Bool) (t op tag : Nat), ((i = Instr.mntClean sl t tag ∧ op = 0) ∨ (i = Instr.mntInvalidate sl t tag ∧ op = 1) ∨ (i = Instr.mntCleanAndInvalidate sl t tag ∧ op = 2) ∨ (i = Instr.mntZero sl t tag ∧ op = 3)) ∧ s.hasTile t = true ∧ let addr := (s.reg (mntBase sl t)).toNat % 2 ^ 48; let len := (s.reg (mntBase sl t + 8)).toNat % 2 ^ 43; len ≠ 0 ∧ 2 ^ 48 < addr + len ∧ s.flag (mntStat sl t) F.TILE_MNTSTAT_ERROR = false) ∧
    (∃ (s : State) (sl : Bool) (t : Nat) (q : MntReq) (rest : List MntReq), s.mntQ sl t = q :: rest) ∧
    (∃ (s : State) (sl : Bool) (t : Nat) (q : MntReq) (rest : List MntReq), s.mntQ sl t = q :: rest ∧ let lo := q.addr / 64 * 64; let hi := (q.addr + q.len + 63) / 64 * 64; ∃ n, q.op = 3 ∧ regionOf lo = .coreCast n ∧ s.mntAccept sl t 3 lo hi / 64 = hi / 64) :=
  ⟨⟨(wF (mntBase true 63) ⟨0, 48⟩ 0x40 (wF (mntBase true 63 + 8) ⟨0, 43⟩ 1 wS)), (.mntClean true 63 255), true, 63, 0, 255, by decide +kernel, by decide +kernel, by decide +kernel, by decide +kernel, by decide +kernel, by decide +kernel⟩,
    ⟨wS, (.mntInvalidate false 0 7), false, 0, 1, 7, by decide +kernel, by decide +kernel, by decide +kernel⟩,
    ⟨(wF (mntBase false 0) ⟨0, 48⟩ 0xFFFF_FFFF_FFC0 (wF (mntBase false 0 + 8) ⟨0, 43⟩ 0x41 wS)), (.mntCleanAndInvalidate false 0 7), false, 0, 2, 7, by decide +kernel, by decide +kernel, by decide +kernel, by decide +kernel, by decide +kernel⟩,
    ⟨{ wS with tileMnt := [(0, [{ op := 3, tag := 9, addr := 0x7000_1000_0210, len := 8 }])], mem := wMem }, false, 0, { op := 3, tag := 9, addr := 0x7000_1000_0210, len := 8 }, [], by decide +kernel⟩,
    ⟨{ wS with tileMnt := [(0, [{ op := 3, tag := 9, addr := 0x7000_1000_0210, len := 8 }])], mem := wMem }, false, 0, { op := 3, tag := 9, addr := 0x7000_1000_0210, len := 8 }, [], by decide +kernel, 0, by decide +kernel, by decide +kernel, by decide +kernel⟩⟩

/-! `Obligations.PartitionsAndTheirLogs` -/

theorem witness_PartitionsAndTheirLogs :
    (∃ (s : State) (p : Nat) (v : Word), p < 64 ∧ s.logging p = false ∧ getF v F.PRT_DLCFG_EN = 1 ∧ s.logRefused p (getF v F.PRT_DLCFG_LOG2PAGES) = false) ∧
    (∃ (s : State) (p : Nat) (v : Word), p < 64 ∧ s.logging p = false ∧ getF v F.PRT_DLCFG_EN = 1 ∧ s.logRefused p (getF v F.PRT_DLCFG_LOG2PAGES) = true) ∧
    (∃ (s : State) (p : Nat), p < 64 ∧ s.logging p = true) ∧
    (∃ (s : State) (p : Nat), p < 64 ∧ let a := Reg.PRT_DLCFG p; ∃ g, s.logging p = true ∧ 2 ^ s.fld a F.PRT_DLCFG_LOG2PAGES ≤ g) ∧
    (∃ (s : State) (p : Nat), p < 64 ∧ s.logging p = true) ∧
    (∃ (s : State) (p : Nat), p < 64 ∧ let a := Reg.PRT_DLCFG p; ∃ g, s.logging p = true ∧ g < 2 ^ s.fld a F.PRT_DLCFG_LOG2PAGES ∧ s.populated (s.logBase p + g / 8) 1 = true) ∧
    (∃ (p : Nat), p < 64) ∧
    (∃ (s : State) (m : Nat), s.hasMc m = true ∧ (s.chan m).held = []) ∧
    (∃ (s : State) (v : Word), s.flag Reg.PRT_PRST F.PRT_PRST_GO = false ∧ getF v F.PRT_PRST_GO = 1) ∧
    (∃ (s : State) (n : Nat), s.hasCore n = true ∧ (s.core n).run ≠ .retain) ∧
    (∃ (s : State) (n : Nat), s.hasCore n = true ∧ (s.core n).run = .retain) ∧
    (∃ (s : State) (n : Nat), s.flag Reg.PRT_PRST F.PRT_PRST_GO = true ∧ s.net = [.partResetAck (s.fld Reg.PRT_PRST F.PRT_PRST_PART) n]) :=
  ⟨⟨(wF (Reg.PRT_DLBUF1 63) ⟨0, 64⟩ 0x1000 wS), 63, (setF 1 F.PRT_DLCFG_LOG2PAGES 12), by decide +kernel, by decide +kernel, by decide +kernel, by decide +kernel⟩,
    ⟨wS, 0, (setF 1 F.PRT_DLCFG_LOG2PAGES 12), by decide +kernel, by decide +kernel, by decide +kernel, by decide +kernel⟩,
    ⟨(wF (Reg.PRT_DLCFG 5) F.PRT_DLCFG_EN 1 wS), 5, by decide +kernel, by decide +kernel⟩,
    ⟨(wF (Reg.PRT_DLCFG 5) F.PRT_DLCFG_EN 1 wS), 5, by decide +kernel, 1, by decide +kernel, by decide +kernel⟩,
    ⟨(wF (Reg.PRT_DLCFG 5) F.PRT_DLCFG_EN 1 wS), 5, by decide +kernel, by decide +kernel⟩,
    ⟨(wF (Reg.PRT_DLCFG 5) F.PRT_DLCFG_LOG2PAGES 12 (wF (Reg.PRT_DLCFG 5) F.PRT_DLCFG_EN 1 (wD 0 id))), 5, by decide +kernel, 4095, by decide +kernel, by decide +kernel, by decide +kernel⟩,
    ⟨63, by decide +kernel⟩,
    ⟨(wF (Reg.PRT_MEMTOK 0 3) F.PRT_MEMTOK_RATE 3 (wF (Reg.PRT_MEMTOK 0 3) F.PRT_MEMTOK_DEPTH 5 wS)), 0, by decide +kernel, by decide +kernel⟩,
    ⟨wS, (setF (setF 0 F.PRT_PRST_GO 1) F.PRT_PRST_PART 0), by decide +kernel, by decide +kernel⟩,
    ⟨(wT 0 0), 0, by decide +kernel, by decide +kernel⟩,
    ⟨(wCores [(0, { wC with run := .retain })]), 0, by decide +kernel, by decide +kernel⟩,
    ⟨(wF Reg.PRT_PRST F.PRT_PRST_GO 1 { wS with net := [.partResetAck 0 9] }), 9, by decide +kernel, by decide +kernel⟩⟩

/-! `Obligations.SourcesOffersAndAcceptances` -/

theorem witness_SourcesArePendedAndEnabled :
    (∃ (s : State), s.dist.workOff = false ∧ ∃ k, k < 8192 ∧ isReservedSrc k = false ∧ 2 ≤ s.sense k ∧ s.armed = false) ∧
    (∃ (s : State), s.dist.workOff = false ∧ ∃ k, k < 8) ∧
    (∃ (s : State), s.dist.workOff = false ∧ ∃ page, s.hasCore page = true) :=
  ⟨⟨(wF Reg.IRQ_CTL F.IRQ_CTL_EN 1 { wS with dist := { srcs := [(2000, { enable := true, prio := 3 })] } }), by decide +kernel, 2000, by decide +kernel, by decide +kernel, by decide +kernel, by decide +kernel⟩,
    ⟨{ wS with dist := { srcs := [(7, { enable := true, sense := 4 })] } }, by decide +kernel, 7, by decide +kernel⟩,
    ⟨wS, by decide +kernel, 127, by decide +kernel⟩⟩

theorem witness_OffersAcceptancesAndEdgeNotes :
    (∃ (s : State) (n code : Nat), s.hasCore n = true ∧ s.answers (epCore n) = true ∧ (code = 5 ∨ code = 6) ∧ (s.core n).run ≠ .halt) ∧
    (∃ (s : State) (k : Nat), isFastSrc k = false ∧ s.srcPending k = true) ∧
    (∃ (s : State) (n k : Nat), s.dist.discard = [(n, k)] ∧ (s.src k).wd = 1) ∧
    (∃ (s : State) (k num : Nat), isFastSrc k = true ∧ s.dist.workOff = false ∧ newer num (s.src k).accnum = true) ∧
    (∃ (s : State) (k num : Nat), isFastSrc k = true ∧ s.dist.workOff = false ∧ newer num (s.src k).accnum = false) ∧
    (∃ (s : State) (n code k prio num : Nat), s.answers (epCore n) = false ∧ s.net = [.offer n code k prio num false]) :=
  ⟨⟨wS, 0, 6, by decide +kernel, by decide +kernel, by decide +kernel, by decide +kernel⟩,
    ⟨{ wS with dist := { srcs := [(2000, { prio := 3, enable := true, edge := true })] } }, 2000, by decide +kernel, by decide +kernel⟩,
    ⟨{ wS with dist := { srcs := [(2000, { wd := 1, moving := true })], discard := [(0, 2000)] } }, 0, 2000, by decide +kernel, by decide +kernel⟩,
    ⟨wS, 288, 1, by decide +kernel, by decide +kernel, by decide +kernel⟩,
    ⟨wS, 288, 0, by decide +kernel, by decide +kernel, by decide +kernel⟩,
    ⟨{ wCores [] with net := [.offer 1 5 40 3 0 false] }, 1, 5, 40, 3, 0, by decide +kernel, by decide +kernel⟩⟩

/-! `Obligations.DistributorConfigurationAndPostings` -/

theorem witness_DistributorConfigurationAndPostings :
    (∃ (s : State) (k : Nat) (v : Word), k < 8192 ∧ (k < 8 → getF v F.IRQ_CFG_SENSE ≤ 4) ∧ s.hasCore (getF v F.IRQ_CFG_CORE) = true) ∧
    (∃ (s : State) (k : Nat) (v : Word), k < 8192 ∧ (k < 8 → getF v F.IRQ_CFG_SENSE ≤ 4) ∧ s.hasCore (getF v F.IRQ_CFG_CORE) = false) ∧
    (∃ (s : State) (n : Nat) (v : Word), s.hasCore n = true ∧ let taken := getF v F.IRQ_VCORE_VALID = 1 ∧ ∃ m, m < 128 ∧ m ≠ n ∧ s.residentOn m (getF v F.IRQ_VCORE_PART) (getF v F.IRQ_VCORE_VCORE) = true; ¬taken) ∧
    (∃ (s : State) (n : Nat) (v : Word), s.hasCore n = true ∧ let taken := getF v F.IRQ_VCORE_VALID = 1 ∧ ∃ m, m < 128 ∧ m ≠ n ∧ s.residentOn m (getF v F.IRQ_VCORE_PART) (getF v F.IRQ_VCORE_VCORE) = true; taken) ∧
    (∃ (s : State) (p : Nat) (v : Word), p < 64 ∧ let h := (s.reg (Reg.IRQ_PTHEAD p)).toNat; let old := (s.reg (Reg.IRQ_PTTAIL p)).toNat; diff32 (v.toNat % 2 ^ 32) old ≤ diff32 h old) ∧
    (∃ (s : State) (p : Nat) (v : Word), p < 64 ∧ let h := (s.reg (Reg.IRQ_PTHEAD p)).toNat; let old := (s.reg (Reg.IRQ_PTTAIL p)).toNat; diff32 h old < diff32 (v.toNat % 2 ^ 32) old) ∧
    (∃ (s : State) (p : Nat) (v : Word), p < 64 ∧ let lg := getF v F.IRQ_PTBASE_LOG2SIZE; let ok := 4 ≤ lg ∧ lg ≤ 12 ∧ oneMemRegion (64 * getF v F.IRQ_PTBASE_BASE) (8 * 2 ^ lg) = true; s.flag (Reg.IRQ_PTBASE p) F.IRQ_PTBASE_EN = false ∧ (getF v F.IRQ_PTBASE_EN = 1 → ok)) ∧
    (∃ (s : State) (p : Nat) (v : Word), p < 64 ∧ let lg := getF v F.IRQ_PTBASE_LOG2SIZE; let ok := 4 ≤ lg ∧ lg ≤ 12 ∧ oneMemRegion (64 * getF v F.IRQ_PTBASE_BASE) (8 * 2 ^ lg) = true; s.flag (Reg.IRQ_PTBASE p) F.IRQ_PTBASE_EN = false ∧ getF v F.IRQ_PTBASE_EN = 1 ∧ ¬ok) ∧
    (∃ (s : State) (p k : Nat), p < 64 ∧ (s.post p).inFlight = some k ∧ (s.post p).stale = 0 ∧ (∀ a e, (∃ q, Msg.posting q a e ∈ s.net) → s.engReach svcRouter a 8 = true)) ∧
    (∃ (s : State) (p k : Nat), p < 64 ∧ (s.post p).inFlight = some k ∧ (s.post p).stale = 0) ∧
    (∃ (p : Nat), p < 64) :=
  ⟨⟨(wF Reg.IRQ_CTL F.IRQ_CTL_EN 1 { wS with dist := { srcs := [(7, { enable := true, soft := true })] } }), 7, (setF (setF 0 F.IRQ_CFG_PRIO 3) F.IRQ_CFG_SENSE 4), by decide +kernel, by decide +kernel, by decide +kernel⟩,
    ⟨{ wS with fuse := { tilemap := 1 } }, 8191, (setF (setF 0 F.IRQ_CFG_PRIO 3) F.IRQ_CFG_CORE 5), by decide +kernel, by decide +kernel, by decide +kernel⟩,
    ⟨wS, 0, (setF 1 F.IRQ_VCORE_VCORE 3), by decide +kernel, by decide +kernel⟩,
    ⟨(wF (Reg.IRQ_VCORE 3) F.IRQ_VCORE_VALID 1 wS), 0, 1, by decide +kernel, by decide +kernel⟩,
    ⟨(wF (Reg.IRQ_PTHEAD 63) ⟨0, 32⟩ 5 wS), 63, 5, by decide +kernel, by decide +kernel⟩,
    ⟨(wF (Reg.IRQ_PTHEAD 63) ⟨0, 32⟩ 5 wS), 63, 6, by decide +kernel, by decide +kernel⟩,
    ⟨wS, 0, (setF (setF 0 F.IRQ_PTBASE_EN 1) F.IRQ_PTBASE_LOG2SIZE 12), by decide +kernel, by decide +kernel, by decide +kernel⟩,
    ⟨wS, 0, (setF (setF 0 F.IRQ_PTBASE_EN 1) F.IRQ_PTBASE_LOG2SIZE 13), by decide +kernel, by decide +kernel, by decide +kernel, by decide +kernel⟩,
    ⟨{ wS with dist := { posts := [(3, { inFlight := some 40 })] } }, 3, 40, by decide +kernel, by decide +kernel, by decide +kernel, fun _ _ hq => hq.elim (fun _ h => (nomatch (show _ ∈ ([] : List Msg) from h)))⟩,
    ⟨{ wS with dist := { posts := [(3, { inFlight := some 40 })] } }, 3, 40, by decide +kernel, by decide +kernel, by decide +kernel⟩,
    ⟨3, by decide +kernel⟩⟩

/-! `Obligations.HomesServeRequestsForLines` -/

theorem witness_HomeRequestsForFreeLines :
    (∃ (s : State) (h l c n p : Nat) (i : Instr) (g : Mesif), s.homeReady h l ∧ (s.slice h).dirOf l = none ∧ ((i = Instr.homeRds h l c n p {} ∧ g = .e) ∨ ((i = Instr.homeRdx h l c n p {} ∨ i = Instr.homeUpg h l c n p {}) ∧ g = .m)) ∧ ∃ w, (s.slice h).freeWay (dirSet l) = some w) ∧
    (∃ (s : State) (h l c n p : Nat) (i : Instr) (g : Mesif), s.homeReady h l ∧ (s.slice h).dirOf l = none ∧ ((i = Instr.homeRds h l c n p {} ∧ g = .e) ∨ ((i = Instr.homeRdx h l c n p {} ∨ i = Instr.homeUpg h l c n p {}) ∧ g = .m)) ∧ (s.slice h).freeWay (dirSet l) = none ∧ (s.slice h).victims (dirSet l) = [] ∧ n < 8) :=
  ⟨⟨(wHd true [5]), 0, 192, 127, 0, 0, (.homeUpg 0 192 127 0 0 {}), .m, by unfold State.homeReady; decide +kernel, by decide +kernel, by decide +kernel, 0, by decide +kernel⟩,
    ⟨wFull, 0, 64, 1, 7, 0, (.homeRds 0 64 1 7 0 {}), .e, by unfold State.homeReady; decide +kernel, by decide +kernel, by decide +kernel, by decide +kernel, by decide +kernel, by decide +kernel⟩⟩

theorem witness_HomeRequestsForHeldLines :
    (∃ (s : State) (h l c w : Nat) (e : DirE), s.homeReady h l ∧ (s.slice h).dirOf l = some (w, e) ∧ ∃ o r, e.em = true ∧ (sharersOf e.sharers).filter (· != c) = o :: r ∧ s.coreAnswers (tileRouter h) o = true) ∧
    (∃ (s : State) (h l c w : Nat) (e : DirE), s.homeReady h l ∧ (s.slice h).dirOf l = some (w, e) ∧ ∃ o r, e.em = true ∧ (sharersOf e.sharers).filter (· != c) = o :: r ∧ s.coreAnswers (tileRouter h) o = true) ∧
    (∃ (s : State) (h l c w : Nat) (e : DirE), s.homeReady h l ∧ (s.slice h).dirOf l = some (w, e) ∧ e.em = false ∧ sharersOf e.sharers = [c]) :=
  ⟨⟨(wHd true [1]), 0, 64, 0, 3, (wDir true [1]), by unfold State.homeReady; decide +kernel, by decide +kernel, 1, [], by decide +kernel, by decide +kernel, by decide +kernel⟩,
    ⟨(wHd true [1]), 0, 64, 0, 3, (wDir true [1]), by unfold State.homeReady; decide +kernel, by decide +kernel, 1, [], by decide +kernel, by decide +kernel, by decide +kernel⟩,
    ⟨(wHd false [1]), 0, 64, 1, 3, (wDir false [1]), by unfold State.homeReady; decide +kernel, by decide +kernel, by decide +kernel, by decide +kernel⟩⟩

theorem witness_TheHomeSetChanges :
    (∃ (s : State), s.homesetReject = none) ∧
    (∃ (s : State), ∃ k, s.homesetReject = some k) ∧
    (∃ (s : State), s.homesHeld = true ∧ s.net.any isCoherent = false ∧ (∀ e ∈ s.slices, e.2.txns = [])) ∧
    (∃ (s : State), s.net.any isCoherent = true) :=
  ⟨⟨(wF (Reg.PWR_DOM 128) F.PWR_DOM_STATE domRunning (wF Reg.CHIP_HOMESET ⟨0, 64⟩ 1 wS)), by decide +kernel⟩,
    ⟨(wF Reg.CHIP_HOMESET ⟨0, 64⟩ 1 wS), 2, by decide +kernel⟩,
    ⟨(wF Reg.CHIP_HOMECTL F.CHIP_HOMECTL_APPLY 1 (wF Reg.CHIP_HOMESET ⟨0, 64⟩ 1 { wHd true [1] with cores := [(0, { wC with l2 := [(64, wLine)], evb := [(65, some { dirty := true, data := 3, poison := 0 })] })] })), by decide +kernel, by decide +kernel, by decide +kernel⟩,
    ⟨{ wS with net := [.prb 0 0 0] }, by decide +kernel⟩⟩

/-! `Obligations.HomesServeDevicesAndTakeAnswers` -/

theorem witness_DeviceAccessesAndNoticesAtTheHome :
    (∃ (s : State) (h l : Nat), s.homeReady h l ∧ (s.slice h).dirOf l = none) ∧
    (∃ (s : State) (h l : Nat), s.homeReady h l ∧ (s.slice h).dirOf l = none ∧ ∃ v, (s.slice h).waitq = [] ∧ (s.slice h).claims = [] ∧ (s.slice h).find l = some v) ∧
    (∃ (s : State) (h l c : Nat), ∃ w d, (s.slice h).dirOf l = some (w, d) ∧ (sharersOf d.sharers).contains c = true ∧ (s.slice h).txn l = none) ∧
    (∃ (s : State) (h l c : Nat), ∃ w d, (s.slice h).dirOf l = some (w, d) ∧ (sharersOf d.sharers).contains c = true ∧ (s.slice h).txn l = none ∧ ∃ v, d.em = true ∧ (s.slice h).find l = some v) ∧
    (∃ (s : State) (h l : Nat), (s.slice h).dirOf l = none) :=
  ⟨⟨(wH {}), 0, 64, by unfold State.homeReady; decide +kernel, by decide +kernel⟩,
    ⟨(wH { lines := [(64, some wCopy)] }), 0, 64, by unfold State.homeReady; decide +kernel, by decide +kernel, wCopy, by decide +kernel, by decide +kernel, by decide +kernel⟩,
    ⟨(wHd false [1, 2]), 0, 64, 1, 3, (wDir false [1, 2]), by decide +kernel, by decide +kernel, by decide +kernel⟩,
    ⟨(wHd true [1]), 0, 64, 1, 3, (wDir true [1]), by decide +kernel, by decide +kernel, by decide +kernel, wCopy, by decide +kernel, by decide +kernel⟩,
    ⟨(wH {}), 0, 64, by decide +kernel⟩⟩

theorem witness_AnswersAtTheHome :
    (∃ (s : State) (h l a c n p : Nat) (k : ReqKind) (x : Txn), (s.slice h).txn l = some x ∧ x.req = .core k c n p ∧ x.await = [a] ∧ x.fwd = none ∧ x.waitsWay = false ∧ x.victimFor = none ∧ x.sent = false ∧ x.got = false ∧ x.grant = true ∧ x.needData = false ∧ x.owner = none) ∧
    (∃ (s : State) (h l a c n p : Nat) (k : ReqKind) (x : Txn), (s.slice h).txn l = some x ∧ x.req = .core k c n p ∧ x.await = [a] ∧ x.fwd = none ∧ x.waitsWay = false ∧ x.victimFor = none ∧ x.sent = false ∧ x.got = false ∧ ∃ v, x.grant = false ∧ (s.slice h).find l = some v) ∧
    (∃ (s : State) (h set a : Nat) (left : List Nat), (s.slice h).rebuild = some (set, left) ∧ left.filter (· != a) ≠ []) ∧
    (∃ (s : State) (h set a : Nat) (left : List Nat), (s.slice h).rebuild = some (set, left) ∧ left.filter (· != a) = [] ∧ (s.slice h).rebuildQ = []) :=
  ⟨⟨(wH { dir := [(19, some (wDir true [1]))], txns := [(64, some { req := .core .upg 1 0 0, await := [5], grant := true })] }), 0, 64, 5, 1, 0, 0, .upg, { req := .core .upg 1 0 0, await := [5], grant := true }, by decide +kernel, by decide +kernel, by decide +kernel, by decide +kernel, by decide +kernel, by decide +kernel, by decide +kernel, by decide +kernel, by decide +kernel, by decide +kernel, by decide +kernel⟩,
    ⟨(wH { lines := [(64, some wCopy)], dir := [(19, some (wDir true [1]))], txns := [(64, some { req := .core .rds 1 0 0, await := [5], give := .s, needData := true })] }), 0, 64, 5, 1, 0, 0, .rds, { req := .core .rds 1 0 0, await := [5], give := .s, needData := true }, by decide +kernel, by decide +kernel, by decide +kernel, by decide +kernel, by decide +kernel, by decide +kernel, by decide +kernel, by decide +kernel, wCopy, by decide +kernel, by decide +kernel⟩,
    ⟨(wH { rebuild := some (9, [1, 2]), bcast := [9] }), 0, 9, 1, [1, 2], by decide +kernel, by decide +kernel⟩,
    ⟨(wH { rebuild := some (9, [1]), bcast := [9], failed := [9] }), 0, 9, 1, [1], by decide +kernel, by decide +kernel, by decide +kernel⟩⟩

/-! `Obligations.SnoopsAndAnswersAtAnL2` -/

theorem witness_SnoopsAtAnL2 :
    (∃ (s : State) (l c : Nat), (s.core c).defers l = true) ∧
    (∃ (s : State) (l c : Nat), let v := (s.core c).l2line l; (s.core c).defers l = false ∧ (v.st = .e ∨ v.st = .m ∨ v.st = .f)) ∧
    (∃ (s : State) (l c : Nat), let v := (s.core c).l2line l; (s.core c).defers l = false ∧ (v.st = .e ∨ v.st = .m ∨ v.st = .f)) ∧
    (∃ (s : State) (l c : Nat), let v := (s.core c).l2line l; (s.core c).defers l = false ∧ (v.st = .e ∨ v.st = .m ∨ v.st = .f)) ∧
    (∃ (s : State) (l c : Nat), let v := (s.core c).l2line l; (s.core c).defers l = false ∧ (v.st = .e ∨ v.st = .m ∨ v.st = .f)) ∧
    (∃ (s : State) (l c : Nat), (s.core c).defers l = false) ∧
    (∃ (s : State) (l c : Nat), let v := (s.core c).l2line l; (s.core c).defers l = false ∧ v.st = .i ∧ (s.core c).ev l = none) :=
  ⟨⟨(wCores [(0, { wC with resv := some 64, resvAge := 15 })]), 64, 0, by decide +kernel⟩,
    ⟨(wP .f), 64, 0, by decide +kernel, by decide +kernel⟩,
    ⟨(wP .m), 64, 0, by decide +kernel, by decide +kernel⟩,
    ⟨(wP .e), 64, 0, by decide +kernel, by decide +kernel⟩,
    ⟨(wP .m), 64, 0, by decide +kernel, by decide +kernel⟩,
    ⟨(wP .s), 64, 0, by decide +kernel⟩,
    ⟨(wP .i), 64, 0, by decide +kernel, by decide +kernel, by decide +kernel⟩⟩

theorem witness_AnswersAtTheRequester :
    (∃ (s : State) (c l : Nat) (g : Granted) (r : L2Req), (s.core c).reqOf l = some r ∧ (s.core c).evRoom = true ∧ (s.core c).quiet ∧ (g = .m → ∀ x, s.myTxn c l = some x → x.await = []) ∧ (∀ e ∈ (s.core c).l2, l2Set e.1 = l2Set l → e.1 ≠ l → e.2.st = .i) ∧ s.l2Ways c ≠ []) ∧
    (∃ (s : State) (c l : Nat) (x : Txn), s.myTxn c l = some x ∧ x.await ≠ []) ∧
    (∃ (s : State) (c l : Nat) (r : L2Req), (s.core c).reqOf l = some r ∧ (s.core c).quiet ∧ ((s.core c).l2line l).st ≠ .i) ∧
    (∃ (s : State) (c l : Nat) (r : L2Req), (s.core c).reqOf l = some r) ∧
    (∃ (s : State) (c l b : Nat) (r : L2Req), (s.core c).reqOf l = some r ∧ r.backoff = some b ∧ s.homesHeld = false) :=
  ⟨⟨(wP .s), 0, 64, .m, { kind := .rds }, by decide +kernel, by decide +kernel, by unfold Core.quiet; decide +kernel, by first | exact fun h => absurd h (by decide +kernel) | exact fun _ => by decide +kernel | exact fun _ _ => by decide +kernel, by decide +kernel, by decide +kernel⟩,
    ⟨{ wP .i with slices := [(0, { txns := [(64, some { req := .core .rdx 0 0 0, await := [5] })] })] }, 0, 64, { req := .core .rdx 0 0 0, await := [5] }, by decide +kernel, by decide +kernel⟩,
    ⟨(wP .s), 0, 64, { kind := .rds }, by decide +kernel, by unfold Core.quiet; decide +kernel, by decide +kernel⟩,
    ⟨(wP .s), 0, 64, { kind := .rds }, by decide +kernel⟩,
    ⟨(wCores [(0, { wC with req := [(64, some { kind := .rds, n := 3, backoff := some 3 })] })]), 0, 64, 3, { kind := .rds, n := 3, backoff := some 3 }, by decide +kernel, by decide +kernel, by decide +kernel⟩⟩

/-! `Obligations.ControllersTrainAndRest` -/

theorem witness_ControllersTrain :
    (∃ (s : State) (m : Nat), s.hasMc m = true ∧ s.mcState m = mcUntrained ∧ ∃ c, s.populationRefusal m = some c) ∧
    (∃ (s : State) (m : Nat), s.hasMc m = true ∧ s.mcState m = mcUntrained ∧ s.populationRefusal m = none) ∧
    (∃ (s : State) (m : Nat), s.hasMc m = true ∧ s.mcState m = mcUntrained) ∧
    (∃ (s : State) (m : Nat), s.mcState m = mcTraining) ∧
    (∃ (s : State) (m : Nat), s.hasMc m = true) :=
  ⟨⟨(wF (Reg.MC_CFG 0) F.MC_CFG_SPEED 4 (wMc 1)), 0, by decide +kernel, by decide +kernel, 4, by decide +kernel⟩,
    ⟨(wF (Reg.MC_TRAIN 0) F.MC_TRAIN_SAVEDV 1 (wMc 1)), 0, by decide +kernel, by decide +kernel, by decide +kernel⟩,
    ⟨(wMc 1), 0, by decide +kernel, by decide +kernel⟩,
    ⟨(wMcd 2), 0, by decide +kernel⟩,
    ⟨{ wMcd 3 with chans := [(0, { ret := true })] }, 0, by decide +kernel⟩⟩

theorem witness_SelfRefreshRequestsAndTheDecode :
    (∃ (s : State) (m : Nat), s.hasMc m = true ∧ s.epState (epMc m) = epFenced) ∧
    (∃ (s : State) (m : Nat), s.hasMc m = true ∧ s.epState (epMc m) = epOpen) ∧
    (∃ (s : State) (m : Nat), s.hasMc m = true) ∧
    (∃ (s : State), ∃ c, s.applyReject = some c) ∧
    (∃ (s : State), s.applyReject = none) :=
  ⟨⟨(wF (epctl (epMc 0)) F.RTR_EPCTL_STATE 3 (wMc 3)), 0, by decide +kernel, by decide +kernel⟩,
    ⟨(wF (epctl (epMc 11)) F.RTR_EPCTL_STATE 1 wS), 11, by decide +kernel, by decide +kernel⟩,
    ⟨(wMc 3), 0, by decide +kernel⟩,
    ⟨(wF (Reg.CHIP_DRAMRGN 7) ⟨0, 64⟩ wRgn.1.toNat (wF (Reg.CHIP_DRAMMAP 7) ⟨0, 64⟩ 1 (wMc 1))), 3, by decide +kernel⟩,
    ⟨(wF (Reg.CHIP_DRAMRGN 7) ⟨0, 64⟩ wRgn.1.toNat (wF (Reg.CHIP_DRAMMAP 7) ⟨0, 64⟩ 1 (wMc 3))), by decide +kernel⟩⟩

/-! `Obligations.ReadsWritesAndScrubs` -/

theorem witness_ReadsWritesAndScrubs :
    (∃ (s : State) (m addr : Nat), let a := addr / 64 * 64; s.mcServes m = true ∧ s.mirrored m a = false) ∧
    (∃ (s : State) (m addr : Nat), let a := addr / 64 * 64; s.mcServes m = true ∧ s.injKind (unitMc m) 0 (some a) = none ∧ a ∉ (s.chan m).alt) ∧
    (∃ (s : State) (m addr : Nat), let a := addr / 64 * 64; s.mcServes m = true ∧ s.injKind (unitMc m) 0 (some a) = none ∧ a ∉ (s.chan m).alt ∧ s.wordPoisoned m a = false ∧ (∀ r ∈ (s.chan m).recov, r.1 ≠ a)) ∧
    (∃ (s : State) (m addr : Nat), let a := addr / 64 * 64; s.mcServes m = true ∧ s.injKind (unitMc m) 0 (some a) = none ∧ a ∉ (s.chan m).alt ∧ s.wordPoisoned m a = false ∧ s.mirrored m a = false) ∧
    (∃ (s : State) (m : Nat), s.mcServes m = true) ∧
    (∃ (s : State) (m : Nat), s.mcServes m = true ∧ s.flag (Reg.MC_SCRUB m) F.MC_SCRUB_PATROL = true ∧ (s.chan m).window = none ∧ s.injKind (unitMc m) 0 (some (64 * (s.chan m).patrol)) = none ∧ 64 * (s.chan m).patrol ∉ (s.chan m).alt) ∧
    (∃ (s : State) (m addr : Nat), let a := addr / 64 * 64; ∃ q, (s.chan m).mirrorQ.find? (fun q => q.1 == a) = some q ∧ s.wordPoisoned (m + 6) a = false ∧ a ∉ (s.chan (m + 6)).alt) :=
  ⟨⟨(wMcd 3), 0, 0x40, by decide +kernel, by decide +kernel⟩,
    ⟨(wMcd 3), 0, 0x40, by decide +kernel, by decide +kernel, by decide +kernel⟩,
    ⟨(wF (Reg.MC_CFG 0) F.MC_CFG_DEMAND 1 (wMcd 3)), 0, 0x40, by decide +kernel, by decide +kernel, by decide +kernel, by decide +kernel, by decide +kernel⟩,
    ⟨(wMcd 3), 0, 0x40, by decide +kernel, by decide +kernel, by decide +kernel, by decide +kernel, by decide +kernel⟩,
    ⟨{ wMcd 3 with chans := [(0, { recov := [(0x40, 1), (0x80, 2)] })] }, 0, by decide +kernel⟩,
    ⟨(wF (Reg.MC_SCRUB 0) F.MC_SCRUB_PATROL 1 { wMcd 3 with chans := [(0, { patrol := 16 * 2 ^ 24 - 1 })] }), 0, by decide +kernel, by decide +kernel, by decide +kernel, by decide +kernel, by decide +kernel⟩,
    ⟨{ wMcd 3 with chans := [(0, { mirrorQ := [(0x40, none)] })], mem := [(dramKey 6 0x41, 8)] }, 0, 0x40, (0x40, none), by decide +kernel, by decide +kernel, by decide +kernel⟩⟩

/-! `Obligations.ServiceWindowsSparingAndRetries` -/

theorem witness_ServiceWindowsAndClassTokens :
    (∃ (s : State) (m : Nat), s.mcServes m = true ∧ ∃ addr n, s.injKind (unitMc m) 0 (some (addr / 64 * 64)) = none ∧ addr / 64 * 64 ∉ (s.chan m).alt ∧ (s.chan m).window = some (n + 1)) ∧
    (∃ (s : State) (m : Nat), s.mcServes m = true ∧ ∃ addr, s.injKind (unitMc m) 0 (some (addr / 64 * 64)) = none ∧ addr / 64 * 64 ∉ (s.chan m).alt ∧ (s.chan m).window = none) ∧
    (∃ (s : State) (m : Nat), s.mcServes m = true ∧ ∃ p, let k := s.cosOf p; s.fld (Reg.PRT_MEMTOK m k) F.PRT_MEMTOK_LIMIT = 1 ∧ s.fld (Reg.PRT_MEMTOK m k) F.PRT_MEMTOK_BORROW = 0 ∧ s.memTokens (tokKey m k) = 0) ∧
    (∃ (s : State) (m : Nat), s.mcServes m = true ∧ s.flag (Reg.MC_TC0CTL m) F.MC_TC0CTL_EN = true) ∧
    (∃ (s : State) (m : Nat), ∃ v, s.hasMc m = true ∧ s.flag (Reg.MC_TC0CTL m) F.MC_TC0CTL_EN = false ∧ getF v F.MC_TC0CTL_EN = 1) :=
  ⟨⟨{ wMcd 3 with chans := [(0, { window := some 1 })] }, 0, by decide +kernel, 0x40, 0, by decide +kernel, by decide +kernel, by decide +kernel⟩,
    ⟨(wMcd 3), 0, by decide +kernel, 0x40, by decide +kernel, by decide +kernel, by decide +kernel⟩,
    ⟨(wF (Reg.PRT_MEMTOK 0 0) F.PRT_MEMTOK_LIMIT 1 (wMcd 3)), 0, by decide +kernel, 0, by decide +kernel, by decide +kernel, by decide +kernel⟩,
    ⟨(wF (Reg.MC_TC0CTL 0) F.MC_TC0CTL_EN 1 (wMcd 3)), 0, by decide +kernel, by decide +kernel⟩,
    ⟨(wF (Reg.MC_TC0WIN 0) F.MC_TC0WIN_PERIOD 100000 (wMcd 3)), 0, (setF 1 F.MC_TC0CTL_LEN 2000), by decide +kernel, by decide +kernel, by decide +kernel⟩⟩

theorem witness_SparingRepairAndRetries :
    (∃ (s : State) (m : Nat), s.hasMc m = true ∧ s.spareReady m = true) ∧
    (∃ (s : State) (m : Nat), s.hasMc m = true ∧ s.fld (Reg.MC_SPARE m) F.MC_SPARE_STATE = 1 ∧ (s.chan m).window = none) ∧
    (∃ (s : State) (m : Nat), s.hasMc m = true ∧ ∃ (i : Instr) (hard : Bool) (rank : Nat) (no out : Bool), ((i = Instr.sppr m rank no out ∧ hard = false) ∨ (i = Instr.hppr m rank no out ∧ hard = true)) ∧ ∃ c, s.pprRefusal m rank hard no out = some c) ∧
    (∃ (s : State) (m : Nat), s.hasMc m = true ∧ ∃ (i : Instr) (hard : Bool) (rank : Nat) (no out : Bool), ((i = Instr.sppr m rank no out ∧ hard = false) ∨ (i = Instr.hppr m rank no out ∧ hard = true)) ∧ s.pprRefusal m rank hard no out = none ∧ (hard = false → s.mcState m = mcReady)) ∧
    (∃ (s : State) (m : Nat), s.hasMc m = true ∧ ∃ b, (s.chan m).ppr = some b ∧ (s.chan m).window = none) ∧
    (∃ (s : State) (m : Nat), s.hasMc m = true ∧ ∃ (i : Instr) (w : Nat), ((i = Instr.alertN m w ∧ s.flag (Reg.MC_CFG m) F.MC_CFG_CAPAR = true) ∨ (i = Instr.writeCrcError m w ∧ s.flag (Reg.MC_CFG m) F.MC_CFG_WRCRC = true)) ∧ s.mcServes m = true ∧ (s.chan m).retries + 1 < 4) ∧
    (∃ (s : State) (m : Nat), s.hasMc m = true ∧ ∃ (i : Instr) (w : Nat), ((i = Instr.alertN m w ∧ s.flag (Reg.MC_CFG m) F.MC_CFG_CAPAR = true) ∨ (i = Instr.writeCrcError m w ∧ s.flag (Reg.MC_CFG m) F.MC_CFG_WRCRC = true)) ∧ s.mcServes m = true ∧ 3 ≤ (s.chan m).retries) :=
  ⟨⟨(wF (Reg.MC_SPARE 0) F.MC_SPARE_EN 1 (wMcd 3)), 0, by decide +kernel, by decide +kernel⟩,
    ⟨(wF (Reg.MC_SPARE 0) F.MC_SPARE_STATE 1 (wMcd 3)), 0, by decide +kernel, by decide +kernel, by decide +kernel⟩,
    ⟨(wMcd 3), 0, by decide +kernel, (.hppr 0 1 true false), true, 1, true, false, by decide +kernel, 1, by decide +kernel⟩,
    ⟨(wMcd 3), 0, by decide +kernel, (.sppr 0 1 false false), false, 1, false, false, by decide +kernel, by decide +kernel, by decide +kernel⟩,
    ⟨{ wMcd 3 with chans := [(0, { ppr := some true })] }, 0, by decide +kernel, true, by decide +kernel, by decide +kernel⟩,
    ⟨(wF (Reg.MC_CFG 0) F.MC_CFG_CAPAR 1 { wMcd 3 with chans := [(0, { retries := 2 })] }), 0, by decide +kernel, (.alertN 0 5), 5, by decide +kernel, by decide +kernel, by decide +kernel⟩,
    ⟨(wF (Reg.MC_CFG 0) F.MC_CFG_WRCRC 1 { wMcd 3 with chans := [(0, { retries := 3 })] }), 0, by decide +kernel, (.writeCrcError 0 5), 5, by decide +kernel, by decide +kernel, by decide +kernel⟩⟩

/-! `Obligations.TideTimeIsAdjustedAndServoed` -/

theorem witness_TideTimeAdjustments :
    (∃ (s : State) (off : Nat), let d := signed 48 off; d ≠ 0 ∧ s.adjRefusal true = none) ∧
    (∃ (s : State) (off : Nat), let d := signed 48 off; ∃ c, d ≠ 0 ∧ s.adjRefusal true = some c) ∧
    (∃ (s : State) (off : Nat), let d := signed 48 off; d ≠ 0 ∧ s.adjRefusal false = none) ∧
    (∃ (s : State), s.time.slew ≠ 0 ∧ 0 < s.slewRoom ∧ s.time.refOn = true) :=
  ⟨⟨wS, 0xFFFF_FFFF_FFFF, by decide +kernel, by decide +kernel⟩,
    ⟨(wF (Reg.FE_TTSTAT 0 3) F.FE_TTSTAT_STATE 2 wS), 5, 1, by decide +kernel, by decide +kernel⟩,
    ⟨wS, 0x8000_0000_0000, by decide +kernel, by decide +kernel⟩,
    ⟨{ wS with time := { slew := -5 } }, by decide +kernel, by decide +kernel, by decide +kernel⟩⟩

theorem witness_TheTideServo :
    (∃ (s : State) (i : Instr) (off : Int), ((∃ lane, i = Instr.servoMeasurement lane off ∧ s.ttRole = 1 ∧ s.fld Reg.CHIP_TTPORT F.CHIP_TTPORT_LANE = lane ∧ s.fld (Reg.FLN_PTPCTL (lane / 24) (lane % 24)) F.FLN_PTPCTL_ROLE = 2 ∧ s.fld (Reg.FLN_STAT (lane / 24) (lane % 24)) F.FLN_STAT_STATE = 5) ∨ (i = Instr.ppsEdge ∧ s.ttRole = 3 ∧ s.flag Reg.CHIP_TTPPS F.CHIP_TTPPS_PPSIN = true ∧ off = (((s.now + 500000000) % 1000000000 : Nat) : Int) - 500000000))) ∧
    (∃ (s : State), (s.ttRole = 1 ∨ s.ttRole = 3) ∧ (s.servo = svAcquire ∨ s.servo = svLocked) ∧ let n := max 1 (s.fld Reg.CHIP_TTSERVO F.CHIP_TTSERVO_HOLDN); n ≤ s.time.missing + 1) ∧
    (∃ (s : State), (s.ttRole = 1 ∨ s.ttRole = 3) ∧ (s.servo = svAcquire ∨ s.servo = svLocked) ∧ let n := max 1 (s.fld Reg.CHIP_TTSERVO F.CHIP_TTSERVO_HOLDN); s.time.missing + 1 < n) ∧
    (∃ (s : State), s.flag Reg.CHIP_TTPPS F.CHIP_TTPPS_PPSOUT = true) :=
  ⟨⟨(wF Reg.CHIP_TTSTAT F.CHIP_TTSTAT_STATE 2 (wF Reg.CHIP_TTNOW ⟨0,64⟩ 499999999 (wF Reg.CHIP_TTPPS F.CHIP_TTPPS_PPSIN 1 (wF Reg.CHIP_TTCTL F.CHIP_TTCTL_ROLE 3 { wS with time := { good := 15 } })))), .ppsEdge, 499999999, by first | exact Or.inl (by decide +kernel) | exact Or.inr (by decide +kernel) | exact Or.inr (Or.inr (Or.inr (by decide +kernel))) | exact Or.inl ⟨_, rfl⟩ | exact Or.inr ⟨_, rfl⟩ | exact Or.inr ⟨_, rfl, rfl⟩ | exact Or.inr ⟨_, rfl, by decide +kernel⟩⟩,
    ⟨(wF Reg.CHIP_TTSTAT F.CHIP_TTSTAT_STATE 2 (wF Reg.CHIP_TTSERVO F.CHIP_TTSERVO_HOLDN 3 (wF Reg.CHIP_TTCTL F.CHIP_TTCTL_ROLE 3 { wS with time := { missing := 2 } }))), by decide +kernel, by decide +kernel, by decide +kernel⟩,
    ⟨(wF Reg.CHIP_TTSTAT F.CHIP_TTSTAT_STATE 2 (wF Reg.CHIP_TTSERVO F.CHIP_TTSERVO_HOLDN 3 (wF Reg.CHIP_TTCTL F.CHIP_TTCTL_ROLE 3 { wS with time := { missing := 1 } }))), by decide +kernel, by decide +kernel, by decide +kernel⟩,
    ⟨(wF Reg.CHIP_TTPPS F.CHIP_TTPPS_PPSOUT 1 wS), by decide +kernel⟩⟩

/-! `Obligations.ErrorsAreRecordedAndInjected` -/

theorem witness_ErrorsAreRecorded :
    (∃ (s : State) (i : Nat) (e : ErrEvent), s.errq[i]? = some e ∧ (∀ x ∈ s.errq, x.time = e.time → e.unit ≤ x.unit) ∧ ∃ v, e.sev = some v ∧ v ≠ 6 ∧ v ≠ 7 ∧ v ≠ 8) ∧
    (∃ (s : State) (i : Nat) (e : ErrEvent), s.errq[i]? = some e ∧ (∀ x ∈ s.errq, x.time = e.time → e.unit ≤ x.unit) ∧ e.sev = none ∧ e.cls < unitClasses e.unit) ∧
    (∃ (u c : Nat), c < unitClasses u) ∧
    (∃ (s : State) (v : Word), let old := (s.reg Reg.ERR_LOGTAIL).toNat; diff32 (v.toNat % 2 ^ 32) old ≤ s.logFill) ∧
    (∃ (s : State) (v : Word), let old := (s.reg Reg.ERR_LOGTAIL).toNat; s.logFill < diff32 (v.toNat % 2 ^ 32) old) :=
  ⟨⟨{ wS with errq := [{ unit := 5, sev := some 4 }] }, 0, { unit := 5, sev := some 4 }, by decide +kernel, by decide +kernel, 4, by decide +kernel, by decide +kernel, by decide +kernel, by decide +kernel⟩,
    ⟨(wF (Reg.ERR_BKT 0xC0 0) F.ERR_BKT_TOTAL (2^32-1) { wS with errq := [{ unit := 0xC0 }] }), 0, { unit := 0xC0 }, by decide +kernel, by decide +kernel, by decide +kernel, by decide +kernel⟩,
    ⟨5, 0, by decide +kernel⟩,
    ⟨(wF Reg.ERR_LOGHEAD ⟨0,32⟩ 5 wS), 5, by decide +kernel⟩,
    ⟨(wF Reg.ERR_LOGHEAD ⟨0,32⟩ 5 wS), 6, by decide +kernel⟩⟩

theorem witness_InjectionAndSelfTest :
    (∃ (s : State), ∃ v, s.injRefusal v = none) ∧
    (∃ (s : State), ∃ v k, s.injRefusal v = some k) ∧
    (∃ (s : State), ∃ u, s.stRefused u = false) ∧
    (∃ (s : State), ∃ u, s.stRefused u = true) ∧
    (∃ (s : State), s.flag Reg.ERR_STCTL F.ERR_STCTL_GO = true) ∧
    (∃ (s : State), s.flag Reg.ERR_STCTL F.ERR_STCTL_GO = true) :=
  ⟨⟨wS, (setF (setF 0 F.ERR_INJCTL_KIND 3) F.ERR_INJCTL_COUNT 3), by decide +kernel⟩,
    ⟨wS, (setF 0 F.ERR_INJCTL_UNIT 0x1FF), 2, by decide +kernel⟩,
    ⟨(wF (epctl (epCore 0)) F.RTR_EPCTL_STATE 3 (wF (Reg.PWR_DOM 0) F.PWR_DOM_STATE 2 wS)), 0, by decide +kernel⟩,
    ⟨wS, 0, by decide +kernel⟩,
    ⟨(wF Reg.ERR_STCTL F.ERR_STCTL_GO 1 wS), by decide +kernel⟩,
    ⟨(wF Reg.ERR_STCTL F.ERR_STCTL_UNIT 7 (wF Reg.ERR_STCTL F.ERR_STCTL_GO 1 wS)), by decide +kernel⟩⟩

/-! `Obligations.LanesAreConfiguredAndComeUp` -/

theorem witness_QuadsAndLanesAreConfigured :
    (∃ (s : State) (q : Nat) (v : Word), s.hasQuad q = true ∧ ∃ c, s.qctlRefusal q v = some c) ∧
    (∃ (s : State) (q : Nat) (v : Word), s.hasQuad q = true ∧ (∀ i, i < 4 → s.flag (lnCtl (4 * q + i)) F.FLN_CTL_EN = false) ∧ getF v F.FLN_QCTL_MODE < 2) ∧
    (∃ (s : State) (q : Nat), s.hasQuad q = true) ∧
    (∃ (s : State) (q : Nat), s.hasQuad q = true) ∧
    (∃ (s : State) (l : Nat) (v : Word), s.hasLane l = true ∧ ∃ c, getF v F.FLN_CTL_FEC = 1 ∧ ((s.fastLane l = true ∧ c = 1) ∨ (s.fastLane l = false ∧ s.quadMode (l / 4) = 2 ∧ c = 2))) ∧
    (∃ (s : State) (l : Nat) (v : Word), s.hasLane l = true ∧ getF v F.FLN_CTL_FEC = 0) ∧
    (∃ (s : State) (l : Nat), s.hasLane l = true ∧ s.quadMode (l / 4) = 1) ∧
    (∃ (s : State) (l : Nat) (v : Word), s.hasLane l = true ∧ let pre := getF v F.FLN_TXEQ_PRE; let main := getF v F.FLN_TXEQ_MAIN; let post := getF v F.FLN_TXEQ_POST; s.quadMode (l / 4) ≠ 1 ∧ pre ≤ 15 ∧ 20 ≤ main ∧ main ≤ 48 ∧ post ≤ 31 ∧ pre + main + post ≤ 48) ∧
    (∃ (s : State) (l : Nat) (v : Word), s.hasLane l = true ∧ let pre := getF v F.FLN_TXEQ_PRE; let main := getF v F.FLN_TXEQ_MAIN; let post := getF v F.FLN_TXEQ_POST; s.quadMode (l / 4) ≠ 1 ∧ 48 < pre + main + post) :=
  ⟨⟨wS, 11, 3, by decide +kernel, 3, by decide +kernel⟩,
    ⟨wS, 11, (setF 1 F.FLN_QCTL_PAIRA 1), by decide +kernel, by decide +kernel, by decide +kernel⟩,
    ⟨(wF (lnStat 1) F.FLN_STAT_STATE 5 (wF (qdStat 0) F.FLN_QSTAT_REFOK 1 wS)), 0, by decide +kernel⟩,
    ⟨(wF (lnCtl 1) F.FLN_CTL_EN 1 (wF (Reg.PWR_DOM 204) F.PWR_DOM_STATE 2 wS)), 0, by decide +kernel⟩,
    ⟨(wF (qdCtl 11) F.FLN_QCTL_MODE 2 wS), 47, (setF 1 F.FLN_CTL_FEC 1), by decide +kernel, 2, by decide +kernel, by decide +kernel⟩,
    ⟨(wLn 5 {}), 0, 0, by decide +kernel, by decide +kernel⟩,
    ⟨(wF (qdCtl 0) F.FLN_QCTL_MODE 1 wS), 0, by decide +kernel, by decide +kernel⟩,
    ⟨wS, 0, (setF (setF (setF 0 F.FLN_TXEQ_MAIN 20) F.FLN_TXEQ_PRE 0) F.FLN_TXEQ_POST 28), by decide +kernel, by decide +kernel, by decide +kernel, by decide +kernel, by decide +kernel, by decide +kernel, by decide +kernel⟩,
    ⟨wS, 0, (setF (setF 0 F.FLN_TXEQ_MAIN 48) F.FLN_TXEQ_PRE 1), by decide +kernel, by decide +kernel, by decide +kernel⟩⟩

theorem witness_LanesFollowTheirStateTable :
    (∃ (s : State) (l : Nat), s.hasLane l = true ∧ ∃ (i : Instr) (a b : Nat), ((i = Instr.anResolve l true ∧ a = 1 ∧ b = 2) ∨ (i = Instr.linkTrainingComplete l ∧ a = 2 ∧ b = 3) ∨ (i = Instr.linkTrainingTimeout l ∧ a = 2 ∧ b = 1) ∨ (i = Instr.blockLock l ∧ a = 3 ∧ b = 4) ∨ (i = Instr.holdExpire l ∧ a = 4 ∧ b = 5)) ∧ s.lnState l = a) ∧
    (∃ (s : State) (l : Nat), s.hasLane l = true ∧ ∃ (i : Instr) (a b : Nat), ((i = Instr.anResolve l true ∧ a = 1 ∧ b = 2) ∨ (i = Instr.linkTrainingComplete l ∧ a = 2 ∧ b = 3) ∨ (i = Instr.linkTrainingTimeout l ∧ a = 2 ∧ b = 1) ∨ (i = Instr.blockLock l ∧ a = 3 ∧ b = 4) ∨ (i = Instr.holdExpire l ∧ a = 4 ∧ b = 5)) ∧ s.lnState l ≠ a) ∧
    (∃ (s : State) (l : Nat), s.hasLane l = true ∧ s.lnState l = 1) ∧
    (∃ (s : State) (l : Nat), s.hasLane l = true ∧ s.lnState l = 5) ∧
    (∃ (s : State) (l : Nat), s.hasLane l = true ∧ s.lnState l = 5) :=
  ⟨⟨(wLn 4 {}), 0, by decide +kernel, (.holdExpire 0), 4, 5, by decide +kernel, by decide +kernel⟩,
    ⟨(wLn 5 {}), 0, by decide +kernel, (.holdExpire 0), 4, 5, by decide +kernel, by decide +kernel⟩,
    ⟨(wLn 1 {}), 0, by decide +kernel, by decide +kernel⟩,
    ⟨(wF (qdCtl 0) F.FLN_QCTL_MODE 1 (wF (lnStat 0) F.FLN_STAT_PREACT 1 (wLn 5 {}))), 0, by decide +kernel, by decide +kernel⟩,
    ⟨(wLn 5 {}), 0, by decide +kernel, by decide +kernel⟩⟩

/-! `Obligations.FramesGatesAndGptp` -/

theorem witness_FramesLeaveAndGatesOpen :
    (∃ (s : State) (l : Nat), s.hasLane l = true ∧ s.lnState l = 5 ∧ let x := s.lane l; ∃ c, x.cur = some c ∧ x.queue = [] ∧ x.susp = none ∧ c.frag = false) ∧
    (∃ (s : State) (l : Nat), s.hasLane l = true ∧ s.lnState l = 5 ∧ ∃ stamp, let x := s.lane l; ∃ f, x.cur = none ∧ x.susp = none ∧ (∀ g ∈ x.queue, s.holds l g = false) ∧ s.pickFrame l stamp false = some f) ∧
    (∃ (s : State) (l : Nat), s.hasLane l = true ∧ s.lnState l = 5 ∧ ∃ stamp, let x := s.lane l; ∃ c f, x.cur = some c ∧ x.susp = none ∧ s.preemptable l c = true ∧ (∀ g ∈ x.queue, s.holds l g = false) ∧ s.pickFrame l stamp true = some f) ∧
    (∃ (s : State) (l : Nat), s.hasLane l = true ∧ ∃ g, (s.lane l).oper = some g ∧ s.flag (lnGclctl l) F.FLN_GCLCTL_EN = true ∧ let x := s.lane l; ∃ p, x.entry + 1 < (s.spans l g).length ∧ (s.spans l g)[x.entry + 1]? = some p) ∧
    (∃ (s : State) (l : Nat), s.hasLane l = true ∧ ∃ g, (s.lane l).oper = some g ∧ s.flag (lnGclctl l) F.FLN_GCLCTL_EN = true ∧ let x := s.lane l; ∃ p, (s.spans l g).length ≤ x.entry + 1 ∧ (s.spans l g)[0]? = some p) ∧
    (∃ (s : State) (l : Nat), s.hasLane l = true ∧ let len := s.fld (lnGclctl l) F.FLN_GCLCTL_LEN; let cyc := s.fld (Reg.FLN_GCLCYCLE (l / 24) (l % 24)) ⟨0, 30⟩; len ≠ 0 ∧ 31250 ≤ cyc ∧ cyc ≤ 1000000000 ∧ s.flag (lnGclctl l) F.FLN_GCLCTL_SWAP = false) ∧
    (∃ (s : State) (l : Nat), s.hasLane l = true ∧ let len := s.fld (lnGclctl l) F.FLN_GCLCTL_LEN; let cyc := s.fld (Reg.FLN_GCLCYCLE (l / 24) (l % 24)) ⟨0, 30⟩; (len = 0 ∨ cyc < 31250 ∨ 1000000000 < cyc ∨ s.flag (lnGclctl l) F.FLN_GCLCTL_SWAP = true)) ∧
    (∃ (s : State) (l : Nat), s.hasLane l = true ∧ ∃ g, (s.lane l).next = some g) ∧
    (∃ (s : State) (l : Nat), s.hasLane l = true ∧ s.lnState l = 5 ∧ s.flag (lnQcfg l) F.FLN_QCFG_PREEN = true) :=
  ⟨⟨(wLn 5 { cur := some (wFr (.bulk 3 [wTd]) 1) }), 0, by decide +kernel, by decide +kernel, (wFr (.bulk 3 [wTd]) 1), by decide +kernel, by decide +kernel, by decide +kernel, by decide +kernel⟩,
    ⟨(wLn 5 { queue := [wFr .marker 0, wFr (.tide 3 true) 1] }), 0, by decide +kernel, by decide +kernel, 77, (wFr (.tide 3 true) 1), by decide +kernel, by decide +kernel, by decide +kernel, by decide +kernel⟩,
    ⟨(wF (lnQcfg 0) ⟨24, 8⟩ 2 (wF (lnStat 0) F.FLN_STAT_PREACT 1 (wLn 5 { cur := some (wFr (.bulk 3 [wTd]) 1), queue := [wFr (.tide 3 false) 1] }))), 0, by decide +kernel, by decide +kernel, 77, (wFr (.bulk 3 [wTd]) 1), (wFr (.tide 3 false) 1), by decide +kernel, by decide +kernel, by decide +kernel, by decide +kernel, by decide +kernel⟩,
    ⟨(wGcl 0), 0, by decide +kernel, (⟨2, 100000, 0⟩), by decide +kernel, by decide +kernel, (0, 20000, 100000), by decide +kernel, by decide +kernel⟩,
    ⟨(wGcl 1), 0, by decide +kernel, (⟨2, 100000, 0⟩), by decide +kernel, by decide +kernel, (3, 0, 20000), by decide +kernel, by decide +kernel⟩,
    ⟨(wF (lnGclctl 0) F.FLN_GCLCTL_LEN 3 (wF (Reg.FLN_GCLCYCLE 0 0) ⟨0,30⟩ 31250 (wLn 5 {}))), 0, by decide +kernel, by decide +kernel, by decide +kernel, by decide +kernel, by decide +kernel⟩,
    ⟨(wF (lnGclctl 0) F.FLN_GCLCTL_LEN 3 (wF (Reg.FLN_GCLCYCLE 0 0) ⟨0,30⟩ 31249 (wLn 5 {}))), 0, by decide +kernel, by decide +kernel⟩,
    ⟨(wLn 5 { next := some ⟨2, 100000, 50⟩ }), 0, by decide +kernel, (⟨2, 100000, 50⟩), by decide +kernel⟩,
    ⟨(wF (lnStat 0) F.FLN_STAT_PREACT 1 (wF (lnQcfg 0) F.FLN_QCFG_PREEN 1 (wLn 5 {}))), 0, by decide +kernel, by decide +kernel, by decide +kernel⟩⟩

theorem witness_PortsSendAndAnswerGptp :
    (∃ (s : State) (l : Nat), s.hasLane l = true ∧ s.laneUp l = true ∧ s.ptpRole l ≠ 0 ∧ s.ptpRole l = 1) ∧
    (∃ (s : State) (l : Nat), s.hasLane l = true ∧ s.laneUp l = true ∧ s.ptpRole l ≠ 0 ∧ s.ptpRole l ≠ 1) ∧
    (∃ (s : State) (l : Nat), s.hasLane l = true ∧ s.laneUp l = true ∧ s.ptpRole l ≠ 0) ∧
    (∃ (s : State) (l : Nat), s.hasLane l = true ∧ s.laneUp l = true ∧ s.ptpRole l ≠ 0) ∧
    (∃ (s : State) (l : Nat), s.hasLane l = true ∧ s.laneUp l = true ∧ s.ptpRole l ≠ 0) :=
  ⟨⟨(wF (Reg.FLN_PTPCTL 0 0) F.FLN_PTPCTL_ROLE 1 (wLn 5 {})), 0, by decide +kernel, by decide +kernel, by decide +kernel, by decide +kernel⟩,
    ⟨(wF (Reg.FLN_PTPCTL 0 0) F.FLN_PTPCTL_ROLE 2 (wLn 5 {})), 0, by decide +kernel, by decide +kernel, by decide +kernel, by decide +kernel⟩,
    ⟨(wF (Reg.FLN_PTPCTL 0 0) F.FLN_PTPCTL_ROLE 2 (wLn 5 {})), 0, by decide +kernel, by decide +kernel, by decide +kernel⟩,
    ⟨(wF (Reg.FLN_PTPCTL 0 0) F.FLN_PTPCTL_ROLE 1 (wLn 5 { queue := [wFr .marker 0] })), 0, by decide +kernel, by decide +kernel, by decide +kernel⟩,
    ⟨(wF (Reg.FLN_PTPCTL 0 0) F.FLN_PTPCTL_ROLE 1 (wLn 5 {})), 0, by decide +kernel, by decide +kernel, by decide +kernel⟩⟩

/-! `Obligations.StationsAreCommitted` -/

theorem witness_StationsAreCommitted :
    (∃ (s : State) (e : Nat), s.hasFe e = true ∧ let a := Reg.STN_CMDSTAT e; s.flag a F.STN_CMDSTAT_BUSY = false) ∧
    (∃ (s : State) (e : Nat), s.hasFe e = true ∧ let a := Reg.STN_CMDSTAT e; s.flag a F.STN_CMDSTAT_BUSY = true) ∧
    (∃ (s : State) (e : Nat), s.hasFe e = true ∧ ∃ st ws, (s.fe e).commit = some (st, ws) ∧ st < 2048 ∧ let x := parseStn ws; x.fmt ≠ 0 ∧ s.commitRefusal e st ws = none) ∧
    (∃ (s : State) (e : Nat), s.hasFe e = true ∧ ∃ st ws, (s.fe e).commit = some (st, ws) ∧ st < 2048 ∧ let x := parseStn ws; x.fmt = 0) ∧
    (∃ (s : State) (e : Nat), s.hasFe e = true ∧ ∃ st ws, (s.fe e).commit = some (st, ws) ∧ st < 2048 ∧ let x := parseStn ws; ∃ c, x.fmt ≠ 0 ∧ s.commitRefusal e st ws = some c) :=
  ⟨⟨wS, 1, by decide +kernel, by decide +kernel⟩,
    ⟨(wF (Reg.STN_CMDSTAT 0) F.STN_CMDSTAT_BUSY 1 wS), 0, by decide +kernel, by decide +kernel⟩,
    ⟨{ wStnAt [(96, 2)] wS with fes := [(0, { commit := some (2047, wStn [(112, 4)]) })] }, 0, by decide +kernel, 2047, (wStn [(112, 4)]), by decide +kernel, by decide +kernel, by decide +kernel, by decide +kernel⟩,
    ⟨{ wS with fes := [(1, { commit := some (3, List.replicate 8 0) })] }, 1, by decide +kernel, 3, (List.replicate 8 0), by decide +kernel, by decide +kernel, by decide +kernel⟩,
    ⟨{ wS with fes := [(0, { commit := some (3, wStn [(112, 4)]) })] }, 0, by decide +kernel, 3, (wStn [(112, 4)]), by decide +kernel, by decide +kernel, 10, by decide +kernel, by decide +kernel⟩⟩

/-! `Obligations.TideInputsAndOutputs` -/

theorem witness_TideInputsAndOutputs :
    (∃ (s : State) (l : Nat) (bs : List Byte), s.hasLane l = true ∧ let e := l / 24; let f := parseFrame bs; let h := parseTide f.rest; f.etype = s.tideType e ∧ ∃ r, s.tideReason e l f h = some r) ∧
    (∃ (s : State) (l : Nat) (bs : List Byte), s.hasLane l = true ∧ let e := l / 24; let f := parseFrame bs; let h := parseTide f.rest; let st := h.station - 2048 * e; let x := s.stnEnt e st; f.etype = s.tideType e ∧ s.tideReason e l f h = none ∧ x.fast = false ∧ x.pair = false ∧ s.imgOn e x.inimg = true ∧ (let d := diff32 h.cycle (s.fld (Reg.STN_STATE e st) F.STN_STATE_SEQ); (s.stn (stnKey e st)).seqOk = false ∨ (d ≠ 0 ∧ d < 2 ^ 31)) ∧ let a := s.inBank e x.inimg + x.inoff; let blk := swapBytes x.swapIn ((f.rest.drop 16).take h.len) ++ List.replicate ((8 - x.inlen % 8) % 8) 0 ++ leBytes 4 h.cycle ++ [0] ++ leBytes 1 h.flags ++ leBytes 1 l ++ [BitVec.ofNat 8 (((s.stn (stnKey e st)).wseq + 1) % 256)]; (∃ c, regionOf a = .coreCast c ∨ regionOf a = .sharedCast c) ∧ s.engOk (feRouter e) x.part a blk.length = true ∧ (s.ep (epFe e)).tc0q = [] ∧ (blk.length + 63) / 64 ≤ (s.ep (epFe e)).tokens ∧ s.armed = false) ∧
    (∃ (s : State) (e st : Nat), s.hasFe e = true ∧ let x := s.stnEnt e st; x.fmt ≠ 0) ∧
    (∃ (s : State) (e : Nat) (r : SendRd) (rest : List SendRd), s.hasFe e = true ∧ (s.fe e).reads = r :: rest ∧ let x := s.stnEnt e r.station; x.fmt ≠ 0 ∧ x.fast = false ∧ x.pair = false ∧ s.laneUp x.lane = true ∧ (∃ c, regionOf r.addr = .coreCast c ∨ regionOf r.addr = .sharedCast c) ∧ r.refused = false ∧ s.engAnswers (feRouter e) r.addr r.len = true ∧ s.anyPoison r.addr r.len = false) ∧
    (∃ (s : State) (e : Nat) (r : SendRd) (rest : List SendRd), s.hasFe e = true ∧ (s.fe e).reads = r :: rest ∧ let x := s.stnEnt e r.station; x.fmt ≠ 0 ∧ x.fast = false ∧ x.pair = false ∧ s.laneUp x.lane = true ∧ r.subst = false ∧ x.submode = 2) ∧
    (∃ (s : State) (k : Nat) (p : Tc0Pkt) (rest : List Tc0Pkt), (s.ep k).tc0q = p :: rest ∧ (s.ep k).tokens < p.flits) ∧
    (∃ (s : State) (k : Nat) (p : Tc0Pkt) (rest : List Tc0Pkt), (s.ep k).tc0q = p :: rest ∧ p.flits ≤ (s.ep k).tokens ∧ (∀ e b, p.msg ≠ .input e b) ∧ (∀ e r, p.msg ≠ .sendRead e r) ∧ (∀ e a q b, p.msg ≠ .bankWord e a q b) ∧ s.routeUp p.src p.dst = true) :=
  ⟨⟨(wStnAt [(96, 2)] wS), 0, (wTide 2 3 3), by decide +kernel, by decide +kernel, 6, by decide +kernel⟩,
    ⟨(wStnAt [(96, 16)] { wS with stns := [(3, { seqOk := true, wseq := 255 })] }), 0, (wTide 2 3 16), by decide +kernel, by decide +kernel, by decide +kernel, by decide +kernel, by decide +kernel, by decide +kernel, by decide +kernel, ⟨_, Or.inl (by decide +kernel : regionOf _ = .coreCast 0)⟩, by decide +kernel, by decide +kernel, by decide +kernel, by decide +kernel⟩,
    ⟨(wFastAt wS), 0, 3, by decide +kernel, by decide +kernel⟩,
    ⟨{ wStnAt [(112, 4), (146, 1)] wS with fes := [(0, { reads := [wRd true, wRd false] })], mem := [(0x7000_1000_0601, 9)] }, 0, (wRd true), [wRd false], by decide +kernel, by decide +kernel, by decide +kernel, by decide +kernel, by decide +kernel, by decide +kernel, ⟨_, Or.inl (by decide +kernel : regionOf _ = .coreCast 0)⟩, by decide +kernel, by decide +kernel, by decide +kernel⟩,
    ⟨{ wStnAt [(112, 4), (4, 2)] wS with fes := [(0, { reads := [wRd false] })] }, 0, (wRd false), [], by decide +kernel, by decide +kernel, by decide +kernel, by decide +kernel, by decide +kernel, by decide +kernel, by decide +kernel, by decide +kernel⟩,
    ⟨{ wS with endpoints := [(epFe 0, { tokens := 1, tc0q := [{ flits := 2, src := 6, dst := 8, msg := .edgeNote 3 1 }] })] }, (epFe 0), { flits := 2, src := 6, dst := 8, msg := .edgeNote 3 1 }, [], by decide +kernel, by decide +kernel⟩,
    ⟨{ wS with endpoints := [(epFe 0, { tokens := 2, tc0q := [{ flits := 2, src := 6, dst := 8, msg := .edgeNote 3 1 }] })] }, (epFe 0), { flits := 2, src := 6, dst := 8, msg := .edgeNote 3 1 }, [], by decide +kernel, by decide +kernel, fun _ _ h => (nomatch h), fun _ _ h => (nomatch h), fun _ _ _ _ h => (nomatch h), by decide +kernel⟩⟩

/-! `Obligations.FastLoopsSendAndExpire` -/

theorem witness_FastLoopsSendAndExpire :
    (∃ (s : State) (e i : Nat) (part : Nat), s.hasFe e = true ∧ s.answers (epFe e) = true ∧ i < 24 ∧ ∃ st off, s.slotOwner e i = some st ∧ (s.stnEnt e st).part = part ∧ off < 0x100) ∧
    (∃ (s : State) (e i : Nat) (part : Nat), s.hasFe e = true ∧ s.answers (epFe e) = true ∧ i < 24 ∧ ∃ st off, s.slotOwner e i = some st ∧ (s.stnEnt e st).part ≠ part ∧ off < 0x1000) ∧
    (∃ (s : State) (e i : Nat) (v : Word) (part : Nat), s.hasFe e = true ∧ s.answers (epFe e) = true ∧ i < 24 ∧ let l := 24 * e + i; ∃ st, s.slotOwner e i = some st ∧ let x := s.stnEnt e st; x.part = part ∧ x.pair = false ∧ s.inSubst e x = false ∧ s.laneUp l = true ∧ v = 1 ∧ (∀ f ∈ (s.lane l).queue, f.body ≠ .tide st x.fast) ∧ x.fast = true) ∧
    (∃ (s : State) (e i : Nat), s.hasFe e = true ∧ s.answers (epFe e) = true ∧ i < 24 ∧ let l := 24 * e + i; let y := s.fastSt l; ∃ st o, s.slotOwner e i = some st ∧ y.loop = some o ∧ s.fld (Reg.FE_FSCFG e i) F.FE_FSCFG_DEADLINE ≠ 0) ∧
    (∃ (s : State) (n : Nat), s.hasCore n = true ∧ s.answers (epCore n) = true ∧ (s.core n).run ≠ .halt) :=
  ⟨⟨(wFastAt { wS with fast := [(0, { data := [(31, 5)] })] }), 0, 0, 0, by decide +kernel, by decide +kernel, by decide +kernel, 3, 0xFC, by decide +kernel, by decide +kernel, by decide +kernel⟩,
    ⟨(wFastAt wS), 0, 0, 1, by decide +kernel, by decide +kernel, by decide +kernel, 3, 0xFF8, by decide +kernel, by decide +kernel, by decide +kernel⟩,
    ⟨(wFastAt { wS with fast := [(0, { data := [(0, 5)], sends := 0xFFFF_FFFF, loop := some 7 })] }), 0, 0, 1, 0, by decide +kernel, by decide +kernel, by decide +kernel, 3, by decide +kernel, by decide +kernel, by decide +kernel, by decide +kernel, by decide +kernel, by decide +kernel, by decide +kernel, by decide +kernel⟩,
    ⟨(wF (Reg.FE_FSCFG 0 0) F.FE_FSCFG_DEADLINE 5 (wFastAt { wS with fast := [(0, { loop := some 7 })] })), 0, 0, by decide +kernel, by decide +kernel, by decide +kernel, 3, 7, by decide +kernel, by decide +kernel, by decide +kernel⟩,
    ⟨(wF (epctl (epCore 127)) F.RTR_EPCTL_STATE 1 wS), 127, by decide +kernel, by decide +kernel, by decide +kernel⟩⟩

/-! `Obligations.TablesStartAndStop` -/

theorem witness_TablesStartAndStop :
    (∃ (s : State) (e k : Nat), s.hasFe e = true ∧ k < 8) ∧
    (∃ (s : State) (e k : Nat), s.hasFe e = true ∧ k < 8) ∧
    (∃ (s : State) (e k : Nat), s.hasFe e = true ∧ k < 8) ∧
    (∃ (s : State) (e k : Nat), s.hasFe e = true ∧ k < 8 ∧ let c := Reg.FE_TTCTL e k; s.flag c F.FE_TTCTL_START = true ∧ ∃ r n, s.ttRefusal e k = some (r, n)) ∧
    (∃ (s : State) (e k : Nat), s.hasFe e = true ∧ k < 8 ∧ let c := Reg.FE_TTCTL e k; s.flag c F.FE_TTCTL_START = true ∧ s.ttRefusal e k = none) ∧
    (∃ (s : State) (e k : Nat), s.hasFe e = true ∧ k < 8 ∧ s.ttState e k = 1) ∧
    (∃ (s : State) (e k : Nat), s.hasFe e = true ∧ k < 8 ∧ s.ttState e k = 2) ∧
    (∃ (s : State) (e k : Nat), s.hasFe e = true ∧ k < 8 ∧ s.ttState e k = 3) :=
  ⟨⟨wS, 0, 0, by decide +kernel, by decide +kernel⟩,
    ⟨wS, 1, 7, by decide +kernel, by decide +kernel⟩,
    ⟨(wTt 2 0 0 wS), 0, 0, by decide +kernel, by decide +kernel⟩,
    ⟨(wF (Reg.FE_TTPERIOD 1 7) ⟨0, 30⟩ 31249 (wF (Reg.FE_TTCTL 1 7) F.FE_TTCTL_START 1 wS)), 1, 7, by decide +kernel, by decide +kernel, by decide +kernel, 1, 0, by decide +kernel⟩,
    ⟨(wF (Reg.FE_TTBASE 0 0) ⟨0, 64⟩ 5 (wF Reg.CHIP_TTNOW ⟨0, 64⟩ 31255 (wF (Reg.FE_TTCTL 0 0) F.FE_TTCTL_START 1 (wTt 0 1 3 wS)))), 0, 0, by decide +kernel, by decide +kernel, by decide +kernel, by decide +kernel⟩,
    ⟨(wTt 1 1 3 wS), 0, 0, by decide +kernel, by decide +kernel, by decide +kernel⟩,
    ⟨(wF (Reg.FE_TTSTAT 0 0) F.FE_TTSTAT_CYCLE 0xFFFF_FFFF { wTt 2 1 3 wS with tabs := [(0, { start := 7, next := 1 })] }), 0, 0, by decide +kernel, by decide +kernel, by decide +kernel⟩,
    ⟨(wTt 3 1 3 wS), 0, 0, by decide +kernel, by decide +kernel, by decide +kernel⟩⟩

/-! `Obligations.TableEntriesAct` -/

theorem witness_TableEntriesAct :
    (∃ (s : State) (e k : Nat), s.entryDue e k 0) ∧
    (∃ (s : State) (e k : Nat), let op := s.entryOp e k; s.entryDue e k 1 ∧ let st := op.toNat % 2048; let x := s.stnEnt e st; x.fmt ≠ 0 ∧ x.fast = false ∧ s.inSubst e x = false ∧ s.imgOn e x.outimg = true ∧ x.outlen ≠ 0 ∧ let a := s.outBank e x.outimg + x.outoff; (regionOf a = .dram ∨ s.tc0Ready (epFe e) 1 = true)) ∧
    (∃ (s : State) (e k : Nat), let op := s.entryOp e k; s.entryDue e k 1 ∧ let st := op.toNat % 2048; let x := s.stnEnt e st; x.fmt ≠ 0 ∧ x.fast = false ∧ s.inSubst e x = false ∧ s.imgOn e x.outimg = true ∧ x.outlen ≠ 0 ∧ let a := s.outBank e x.outimg + x.outoff; ∃ c, (regionOf a = .coreCast c ∨ regionOf a = .sharedCast c) ∧ s.tc0Ready (epFe e) 1 = false) ∧
    (∃ (s : State) (e k : Nat), let op := s.entryOp e k; s.entryDue e k 2 ∧ let st := op.toNat % 2048; let x := s.stnEnt e st; let y := s.stn (stnKey e st); x.fmt ≠ 0 ∧ x.inlen ≠ 0 ∧ y.accepted = true) ∧
    (∃ (s : State) (e k : Nat), let op := s.entryOp e k; s.entryDue e k 2 ∧ let st := op.toNat % 2048; let x := s.stnEnt e st; let y := s.stn (stnKey e st); x.fmt ≠ 0 ∧ x.inlen ≠ 0 ∧ y.accepted = false ∧ s.stnState e st ≠ stLost) ∧
    (∃ (s : State) (e k : Nat), s.entryDue e k 3) ∧
    (∃ (s : State) (e k : Nat), let op := s.entryOp e k; s.entryDue e k 4 ∧ let l := 2 * e + op.toNat % 64 / 32; let c := op.toNat % 32; s.hasLdl l = true ∧ s.domRun (218 + l) = true ∧ s.fld (Reg.LDL_CHCFG l c) F.LDL_CHCFG_TIDE ≠ 0 ∧ s.chState l c = chIdle) ∧
    (∃ (s : State) (e k : Nat), let op := s.entryOp e k; s.entryDue e k 4 ∧ let l := 2 * e + op.toNat % 64 / 32; let c := op.toNat % 32; s.hasLdl l = true ∧ s.domRun (218 + l) = true ∧ s.fld (Reg.LDL_CHCFG l c) F.LDL_CHCFG_TIDE ≠ 0 ∧ s.chState l c ≠ chIdle) ∧
    (∃ (s : State) (e k : Nat), let op := s.entryOp e k; s.entryDue e k 5 ∧ let i := op.toNat % 16; s.imgOn e i = true) ∧
    (∃ (s : State) (e k : Nat), let op := s.entryOp e k; s.entryDue e k 6 ∧ ∃ i, i < 24 ∧ bitsOf op 24 = [i] ∧ s.laneUp (24 * e + i) = true) ∧
    (∃ (s : State) (e k : Nat), let y := s.tab (tabKey e k); let w := s.ttEntry e k y.next; s.hasFe e = true ∧ k < 8 ∧ (s.ttState e k = 2 ∨ s.ttState e k = 3) ∧ y.next < s.ttLen e k ∧ y.start + s.ttPeriod e k ≤ s.startAt e (y.start + entOffset w) ∧ ∃ i, ((i = Instr.ttNop e k ∧ entAction w = 0) ∨ (i = Instr.ttSend e k ∧ entAction w = 1) ∨ (i = Instr.ttExpect e k ∧ entAction w = 2) ∨ (i = Instr.ttEvent e k ∧ entAction w = 3) ∨ (i = Instr.ttLadle e k ∧ entAction w = 4) ∨ (i = Instr.ttFlip e k ∧ entAction w = 5) ∨ (i = Instr.ttSync e k ∧ entAction w = 6))) :=
  ⟨⟨(wTt 2 0 0 wS), 0, 0, by unfold State.entryDue; decide +kernel⟩,
    ⟨(wTt 2 1 3 (wF (Reg.FE_IMGOUT 0 0) ⟨0, 64⟩ 0x4000 (wStnAt [(112, 4), (192, 8)] wS))), 0, 0, by unfold State.entryDue; decide +kernel, by decide +kernel, by decide +kernel, by decide +kernel, by decide +kernel, by decide +kernel, by decide +kernel⟩,
    ⟨(wTt 2 1 3 (wStnAt [(112, 4), (192, 8)] { wS with endpoints := [(epFe 0, { tokens := 0 })] })), 0, 0, by unfold State.entryDue; decide +kernel, by decide +kernel, by decide +kernel, by decide +kernel, by decide +kernel, by decide +kernel, 0, by decide +kernel, by decide +kernel⟩,
    ⟨(wTt 2 2 3 (wStnAt [(96, 4)] { wS with stns := [(3, { accepted := true })] })), 0, 0, by unfold State.entryDue; decide +kernel, by decide +kernel, by decide +kernel, by decide +kernel⟩,
    ⟨(wF (Reg.STN_STATE 0 3) F.STN_STATE_MISSED 255 (wTt 3 2 3 (wStnAt [(96, 4), (88, 255)] wS))), 0, 0, by unfold State.entryDue; decide +kernel, by decide +kernel, by decide +kernel, by decide +kernel, by decide +kernel⟩,
    ⟨(wTt 2 3 63 wS), 0, 0, by unfold State.entryDue; decide +kernel⟩,
    ⟨(wF (Reg.LDL_CHCFG 1 31) F.LDL_CHCFG_TIDE 1 (wF (Reg.LDL_CHSTAT 1 31) F.LDL_CHSTAT_STATE 1 (wF (Reg.PWR_DOM 219) F.PWR_DOM_STATE 2 (wTt 2 4 63 wS)))), 0, 0, by unfold State.entryDue; decide +kernel, by decide +kernel, by decide +kernel, by decide +kernel, by decide +kernel⟩,
    ⟨(wF (Reg.LDL_CHCFG 0 0) F.LDL_CHCFG_TIDE 1 (wF (Reg.LDL_CHSTAT 0 0) F.LDL_CHSTAT_STATE 2 (wF (Reg.PWR_DOM 218) F.PWR_DOM_STATE 2 (wTt 2 4 0 wS)))), 0, 0, by unfold State.entryDue; decide +kernel, by decide +kernel, by decide +kernel, by decide +kernel, by decide +kernel⟩,
    ⟨(wTt 2 5 0x200 (wStnAt [] wS)), 0, 0, by unfold State.entryDue; decide +kernel, by decide +kernel⟩,
    ⟨(wTt 2 6 1 (wLn 5 {})), 0, 0, by unfold State.entryDue; decide +kernel, 0, by decide +kernel, by decide +kernel, by decide +kernel⟩,
    ⟨{ wTt 2 6 0 wS with fes := [(0, { lastStart := some 40000 })] }, 0, 0, by decide +kernel, by decide +kernel, by decide +kernel, by decide +kernel, by decide +kernel, (.ttSync 0 0), by decide +kernel⟩⟩

/-! `Obligations.ImagesFlipAndLive` -/

theorem witness_ImagesFlipAndLive :
    (∃ (s : State) (e i : Nat), s.hasFe e = true ∧ i < 16 ∧ ∃ v, s.imgOn e i = false ∧ getF v F.FE_IMGCFG_EN = 1 ∧ s.imgRefused e i = false) ∧
    (∃ (s : State) (e i : Nat), s.hasFe e = true ∧ i < 16 ∧ ∃ v, s.imgOn e i = false ∧ getF v F.FE_IMGCFG_EN = 1 ∧ s.imgRefused e i = true) ∧
    (∃ (s : State) (e i : Nat), s.hasFe e = true ∧ i < 16 ∧ ∃ v, s.imgOn e i = true ∧ getF v F.FE_IMGCFG_EN = 0) ∧
    (∃ (s : State) (e i : Nat), s.hasFe e = true ∧ i < 16 ∧ let y := s.img (imgKey e i); ∃ inp cyc rest, y.flips = (inp, cyc) :: rest) ∧
    (∃ (s : State) (e i : Nat), s.hasFe e = true ∧ i < 16) ∧
    (∃ (s : State) (e i : Nat), s.hasFe e = true ∧ i < 16) ∧
    (∃ (s : State) (e i : Nat), s.hasFe e = true ∧ i < 16 ∧ let y := s.img (imgKey e i); ∃ v part, s.answers (epFe e) = true ∧ s.imgOn e i = true ∧ part = s.imgOwner e i ∧ y.life ≠ some v) ∧
    (∃ (s : State) (e i : Nat), s.hasFe e = true ∧ i < 16 ∧ let y := s.img (imgKey e i); ∃ v part, s.answers (epFe e) = true ∧ s.imgOn e i = true ∧ part = s.imgOwner e i ∧ y.life = some v) :=
  ⟨⟨(wF (Reg.FE_IMGCFG 0 0) F.FE_IMGCFG_EN 0 (wStnAt [] (wF (epctl (epFe 0)) F.RTR_EPCTL_STATE 1 wS))), 0, 0, by decide +kernel, by decide +kernel, 1, by decide +kernel, by decide +kernel, by decide +kernel⟩,
    ⟨wS, 1, 15, by decide +kernel, by decide +kernel, 1, by decide +kernel, by decide +kernel, by decide +kernel⟩,
    ⟨(wStnAt [] (wF (epctl (epFe 0)) F.RTR_EPCTL_STATE 1 wS)), 0, 0, by decide +kernel, by decide +kernel, 0, by decide +kernel, by decide +kernel⟩,
    ⟨(wF (Reg.FE_IMGBW 0 0) ⟨0, 64⟩ 0x7000_1000_0700 { wStnAt [] (wF (epctl (epFe 0)) F.RTR_EPCTL_STATE 1 wS) with imgs := [(0, { flips := [(false, 4), (true, 4)], fseq := 255 })] }), 0, 0, by decide +kernel, by decide +kernel, false, 4, [(true, 4)], by decide +kernel⟩,
    ⟨wS, 0, 0, by decide +kernel, by decide +kernel⟩,
    ⟨wS, 0, 0, by decide +kernel, by decide +kernel⟩,
    ⟨(wStnAt [] (wF (epctl (epFe 0)) F.RTR_EPCTL_STATE 1 wS)), 0, 0, by decide +kernel, by decide +kernel, 5, 0, by decide +kernel, by decide +kernel, by decide +kernel, by decide +kernel⟩,
    ⟨{ wStnAt [] (wF (epctl (epFe 0)) F.RTR_EPCTL_STATE 1 wS) with imgs := [(0, { life := some 5 })] }, 0, 0, by decide +kernel, by decide +kernel, 5, 0, by decide +kernel, by decide +kernel, by decide +kernel, by decide +kernel⟩⟩

/-! `Obligations.FunctionsChangeState` -/

theorem witness_FunctionsChangeState :
    (∃ (s : State) (e f : Nat), s.hasFe e = true ∧ f < 128 ∧ ∃ v, s.fnState e f = 0 ∧ getF v F.FE_FNCFG_EN = 1 ∧ s.fnRefusal e f = none) ∧
    (∃ (s : State) (e f : Nat), s.hasFe e = true ∧ f < 128 ∧ ∃ v, s.fnState e f = 0 ∧ getF v F.FE_FNCFG_EN = 1 ∧ ∃ k, s.fnRefusal e f = some k) ∧
    (∃ (s : State) (e f : Nat), s.hasFe e = true ∧ f < 128 ∧ ∃ i v dis, s.fnState e f = 1 ∧ ((i = Instr.functionQuiesce e f v ∧ getF v F.FE_FNCFG_EN = 1 ∧ getF v F.FE_FNCFG_QUIESCE = 1 ∧ dis = false) ∨ (i = Instr.functionDisable e f v ∧ getF v F.FE_FNCFG_EN = 0 ∧ dis = true))) ∧
    (∃ (s : State) (e f : Nat), s.hasFe e = true ∧ f < 128 ∧ ∃ v, (s.fnState e f = 3 ∨ s.fnState e f = 4) ∧ getF v F.FE_FNCFG_EN = 0) ∧
    (∃ (s : State) (e f : Nat), s.hasFe e = true ∧ f < 128 ∧ let y := s.fn (fnKey e f); s.fnState e f = 2 ∧ y.fin = [] ∧ y.rxf = [] ∧ s.fnOnWire e f = false) ∧
    (∃ (s : State) (e f : Nat), s.hasFe e = true ∧ f < 128 ∧ ∃ i r v, ((i = Instr.txTailWrite e f v ∧ r = 0) ∨ (∃ q, q < 4 ∧ i = Instr.rxTailWrite e f q v ∧ r = q + 1)) ∧ let ok := s.fnRun e f && s.ringUsed e f r && decide (diff32 (v % 2 ^ 32) (s.ringTail e f r) ≤ diff32 (s.ringHead e f r + s.ringSize e f r) (s.ringTail e f r)); ok = true) ∧
    (∃ (s : State) (e f : Nat), s.hasFe e = true ∧ f < 128 ∧ ∃ i r v, ((i = Instr.txTailWrite e f v ∧ r = 0) ∨ (∃ q, q < 4 ∧ i = Instr.rxTailWrite e f q v ∧ r = q + 1)) ∧ let ok := s.fnRun e f && s.ringUsed e f r && decide (diff32 (v % 2 ^ 32) (s.ringTail e f r) ≤ diff32 (s.ringHead e f r + s.ringSize e f r) (s.ringTail e f r)); ok = false) ∧
    (∃ (s : State) (e f : Nat), s.hasFe e = true ∧ f < 128 ∧ ∃ k, k < 8) ∧
    (∃ (s : State) (e f : Nat), s.hasFe e = true ∧ f < 128 ∧ let y := s.fn (fnKey e f); ∃ r, r < 5 ∧ let g := s.reg (ringCfg e f r); s.fnRun e f = true ∧ getF g F.FE_DBTXCFG_IE = 1 ∧ getF g F.FE_DBTXCFG_ITIME ≠ 0 ∧ Tbl.get (fun _ => 0) y.cnt r ≠ 0) ∧
    (∃ (s : State) (e f : Nat), s.hasFe e = true ∧ f < 128) :=
  ⟨⟨(wFn 0 {}), 0, 0, by decide +kernel, by decide +kernel, 1, by decide +kernel, by decide +kernel, by decide +kernel⟩,
    ⟨wS, 1, 127, by decide +kernel, by decide +kernel, 1, by decide +kernel, by decide +kernel, 1, by decide +kernel⟩,
    ⟨(wFn 1 { rxq := [wRxd 64] }), 0, 0, by decide +kernel, by decide +kernel, (.functionDisable 0 0 0), 0, true, by decide +kernel, by decide +kernel⟩,
    ⟨(wFn 4 {}), 0, 0, by decide +kernel, by decide +kernel, 0, by decide +kernel, by decide +kernel⟩,
    ⟨(wFn 2 { disable := true }), 0, 0, by decide +kernel, by decide +kernel, by decide +kernel, by decide +kernel, by decide +kernel, by decide +kernel⟩,
    ⟨(wFn 1 {}), 0, 0, by decide +kernel, by decide +kernel, (.rxTailWrite 0 0 0 1), 1, 1, by first | exact Or.inl (by decide +kernel) | exact Or.inr (by decide +kernel) | exact Or.inr (Or.inr (Or.inr (by decide +kernel))) | exact Or.inl ⟨_, rfl⟩ | exact Or.inr ⟨_, rfl⟩ | exact Or.inr ⟨_, rfl, rfl⟩ | exact Or.inr ⟨_, rfl, by decide +kernel⟩, by decide +kernel⟩,
    ⟨(wFn 1 {}), 0, 0, by decide +kernel, by decide +kernel, (.rxTailWrite 0 0 3 1), 4, 1, by first | exact Or.inl (by decide +kernel) | exact Or.inr (by decide +kernel) | exact Or.inr (Or.inr (Or.inr (by decide +kernel))) | exact Or.inl ⟨_, rfl⟩ | exact Or.inr ⟨_, rfl⟩ | exact Or.inr ⟨_, rfl, rfl⟩ | exact Or.inr ⟨_, rfl, by decide +kernel⟩, by decide +kernel⟩,
    ⟨wS, 0, 127, by decide +kernel, by decide +kernel, 7, by decide +kernel⟩,
    ⟨(wF (ringCfg 0 0 0) F.FE_DBTXCFG_VEC 3 (wF (Reg.FE_DBIMSET 0 0) ⟨0, 64⟩ 0xF (wF (ringCfg 0 0 0) F.FE_DBTXCFG_IE 1 (wF (ringCfg 0 0 0) F.FE_DBTXCFG_ITIME 5 (wFn 1 { cnt := [(0, 2)] }))))), 0, 0, by decide +kernel, by decide +kernel, 0, by decide +kernel, by decide +kernel, by decide +kernel, by decide +kernel, by decide +kernel⟩,
    ⟨(wF (Reg.FE_DBIPEND 0 0) ⟨0, 64⟩ 5 (wF (Reg.FE_DBIMSET 0 0) ⟨0, 64⟩ 0xF wS)), 0, 0, by decide +kernel, by decide +kernel⟩⟩

/-! `Obligations.FunctionsTransmit` -/

theorem witness_FunctionsTransmit :
    (∃ (s : State) (e f : Nat), s.hasFe e = true ∧ f < 128 ∧ s.fnRun e f = true ∧ let k := fnKey e f; let y := s.fn k; let i := y.txRead; ∃ p, i ≠ s.ringTail e f 0 ∧ s.fnCast e f (s.descAddr e f 0 i) 24 p ∧ s.anyPoison p 24 = false) ∧
    (∃ (s : State) (e f : Nat), s.hasFe e = true ∧ f < 128 ∧ s.fnRun e f = true ∧ let k := fnKey e f; let y := s.fn k; ∃ r p, 1 ≤ r ∧ r ≤ 4 ∧ s.ringUsed e f r = true ∧ let i := y.rxNext r; i ≠ s.ringTail e f r ∧ s.fnCast e f (s.descAddr e f r i) 24 p ∧ s.anyPoison p 24 = false) ∧
    (∃ (s : State) (e f : Nat), s.hasFe e = true ∧ f < 128 ∧ s.fnRun e f = true ∧ let k := fnKey e f; let y := s.fn k; y.txRead ≠ s.ringTail e f 0) ∧
    (∃ (s : State) (e f : Nat), s.hasFe e = true ∧ f < 128 ∧ s.fnRun e f = true ∧ let k := fnKey e f; let y := s.fn k; ∃ d, (headDescs 16 y.txq).1[y.segs.length]? = some d ∧ d.len = 0) ∧
    (∃ (s : State) (e f : Nat), s.hasFe e = true ∧ f < 128 ∧ s.fnRun e f = true ∧ let k := fnKey e f; let y := s.fn k; ∃ d, (headDescs 16 y.txq).1[y.segs.length]? = some d ∧ ∃ p, d.len ≠ 0 ∧ s.fnCast e f d.addr d.len p ∧ s.anyPoison p d.len = false) ∧
    (∃ (s : State) (e f : Nat), s.hasFe e = true ∧ f < 128 ∧ s.fnRun e f = true ∧ let k := fnKey e f; let y := s.fn k; ∃ d, (headDescs 16 y.txq).1[y.segs.length]? = some d ∧ ∃ p, d.len ≠ 0 ∧ s.fnCast e f d.addr d.len p) ∧
    (∃ (s : State) (e f : Nat), s.hasFe e = true ∧ f < 128 ∧ s.fnRun e f = true ∧ let k := fnKey e f; let y := s.fn k; ∃ ds eop, headDescs 16 y.txq = (ds, eop) ∧ ds ≠ [] ∧ (eop = true ∨ ds.length = 16) ∧ let sh := s.reg (Reg.FE_FNTXSHAPE e f); getF sh F.FE_FNTXSHAPE_RATE = 0) ∧
    (∃ (s : State) (e f : Nat), s.hasFe e = true ∧ f < 128 ∧ s.fnRun e f = true ∧ let k := fnKey e f; let y := s.fn k; ∃ ds eop, headDescs 16 y.txq = (ds, eop) ∧ ds ≠ [] ∧ (eop = true ∨ ds.length = 16) ∧ let sh := s.reg (Reg.FE_FNTXSHAPE e f); ∃ c, getF sh F.FE_FNTXSHAPE_RATE ≠ 0 ∧ s.txCheck e f ds eop = some c) ∧
    (∃ (s : State) (e f : Nat), s.hasFe e = true ∧ f < 128 ∧ s.fnRun e f = true ∧ let k := fnKey e f; let y := s.fn k; ∃ ds eop, headDescs 16 y.txq = (ds, eop) ∧ ds ≠ [] ∧ (eop = true ∨ ds.length = 16) ∧ let sh := s.reg (Reg.FE_FNTXSHAPE e f); ∃ segs : List (List Byte), y.segs = segs.map some ∧ segs.length = ds.length ∧ s.txCheck e f ds eop = none ∧ let d := ds.headD { idx := 0 }; let l := 24 * e + d.lane; let data := segs.flatten; let bs := s.buildTx e f l d data; let q := s.bulkQueue l d (parseFrame bs); let size := 1000 * (bs.length + 4); s.txForbidden e f (parseFrame data) = false ∧ s.laneUp l = true ∧ getF sh F.FE_FNTXSHAPE_RATE ≠ 0 ∧ min size (burst sh) ≤ s.txTokens e f ∧ ((s.lane l).queue.filter (fun g => match g.body with | .bulk _ _ => g.q == q | _ => false)).length < 64) ∧
    (∃ (s : State) (e f : Nat), s.hasFe e = true ∧ f < 128 ∧ s.fnRun e f = true ∧ let k := fnKey e f; let y := s.fn k; ∃ x rest d p, y.fin = x :: rest ∧ x.descs = [d] ∧ y.txDone = [] ∧ d.idx = s.ringHead e f 0 ∧ s.logging (s.fnOwner e f) = false ∧ s.fnCast e f (s.descAddr e f 0 d.idx + 24) 8 p) ∧
    (∃ (s : State) (e f : Nat), s.hasFe e = true ∧ f < 128 ∧ s.fnRun e f = true ∧ let k := fnKey e f; let y := s.fn k; ∃ x rest d ds, y.fin = x :: rest ∧ x.descs = d :: ds) :=
  ⟨⟨(wF (tailReg 0 0 0) ⟨0, 64⟩ 0 (wFn 1 { txRead := 0xFFFF_FFFF })), 0, 0, by decide +kernel, by decide +kernel, by decide +kernel, 0x7000_1000_01E0, by decide +kernel, ⟨by decide +kernel, by decide +kernel, _, Or.inl rfl⟩, by decide +kernel⟩,
    ⟨(wF (tailReg 0 0 1) ⟨0, 64⟩ 1 { wFn 1 {} with mem := [(0x7000_1000_0808, 4)] }), 0, 0, by decide +kernel, by decide +kernel, by decide +kernel, 1, 0x7000_1000_0800, by decide +kernel, by decide +kernel, by decide +kernel, by decide +kernel, ⟨by decide +kernel, by decide +kernel, _, Or.inl rfl⟩, by decide +kernel⟩,
    ⟨(wF (tailReg 0 0 0) ⟨0, 64⟩ 1 (wFn 1 {})), 0, 0, by decide +kernel, by decide +kernel, by decide +kernel, by decide +kernel⟩,
    ⟨(wFn 1 { txq := [wTxd 0] }), 0, 0, by decide +kernel, by decide +kernel, by decide +kernel, (wTxd 0), by decide +kernel, by decide +kernel⟩,
    ⟨{ wFn 1 { txq := [wTxd 4] } with mem := [(0x7000_1000_0301, 9)] }, 0, 0, by decide +kernel, by decide +kernel, by decide +kernel, (wTxd 4), by decide +kernel, 0x7000_1000_0300, by decide +kernel, ⟨by decide +kernel, by decide +kernel, _, Or.inl rfl⟩, by decide +kernel⟩,
    ⟨(wFn 1 { txq := [wTxd 4] }), 0, 0, by decide +kernel, by decide +kernel, by decide +kernel, (wTxd 4), by decide +kernel, 0x7000_1000_0300, by decide +kernel, ⟨by decide +kernel, by decide +kernel, _, Or.inl rfl⟩⟩,
    ⟨(wFn 1 { txq := [wTxd 0] }), 0, 0, by decide +kernel, by decide +kernel, by decide +kernel, [wTxd 0], true, by decide +kernel, by decide +kernel, by decide +kernel, by decide +kernel⟩,
    ⟨(wF (Reg.FE_FNTXSHAPE 0 0) F.FE_FNTXSHAPE_RATE 5 (wFn 1 { txq := List.replicate 17 { wTxd 4 with eop := false } })), 0, 0, by decide +kernel, by decide +kernel, by decide +kernel, (List.replicate 16 { wTxd 4 with eop := false }), false, by decide +kernel, by decide +kernel, by decide +kernel, 8, by decide +kernel, by decide +kernel⟩,
    ⟨(wF (Reg.FE_FNTXSHAPE 0 0) F.FE_FNTXSHAPE_RATE 5 (wFn 1 { txTok := 64000, txq := [wTxd 14], segs := [some (wEth 0x800 0)] })), 0, 0, by decide +kernel, by decide +kernel, by decide +kernel, [wTxd 14], true, by decide +kernel, by decide +kernel, by decide +kernel, [wEth 0x800 0], by decide +kernel, by decide +kernel, by decide +kernel, by decide +kernel, by decide +kernel, by decide +kernel, by decide +kernel, by decide +kernel⟩,
    ⟨(wFn 1 { fin := [{ descs := [wTxd 4], code := 9 }] }), 0, 0, by decide +kernel, by decide +kernel, by decide +kernel, { descs := [wTxd 4], code := 9 }, [], (wTxd 4), 0x7000_1000_0018, by decide +kernel, by decide +kernel, by decide +kernel, by decide +kernel, by decide +kernel, ⟨by decide +kernel, by decide +kernel, _, Or.inl rfl⟩⟩,
    ⟨(wFn 1 { fin := [{ descs := [wTxd 4], code := 9 }] }), 0, 0, by decide +kernel, by decide +kernel, by decide +kernel, { descs := [wTxd 4], code := 9 }, [], (wTxd 4), [], by decide +kernel, by decide +kernel⟩⟩

/-! `Obligations.FunctionsReceive` -/

theorem witness_FunctionsReceive :
    (∃ (s : State) (l : Nat), s.hasLane l = true ∧ s.laneUp l = false) ∧
    (∃ (s : State) (l : Nat), s.hasLane l = true ∧ s.laneUp l = true) ∧
    (∃ (s : State) (l : Nat) (bs : List Byte), s.hasLane l = true ∧ let e := l / 24; let p := parseFrame bs; s.laneUp l = true ∧ 64 ≤ bs.length + 4 ∧ bs.length + 4 ≤ s.maxFrame l ∧ (p.dst % 2 = 1 ∨ p.dst = leWord (s.laneMac l)) ∧ p.etype ≠ 0x8808 ∧ p.etype = s.tideType e) ∧
    (∃ (s : State) (l : Nat) (bs : List Byte), s.hasLane l = true ∧ let e := l / 24; let p := parseFrame bs; s.laneUp l = true ∧ 64 ≤ bs.length + 4 ∧ bs.length + 4 ≤ s.maxFrame l ∧ (p.dst % 2 = 1 ∨ p.dst = leWord (s.laneMac l)) ∧ p.etype ≠ 0x8808 ∧ p.etype ≠ s.tideType e ∧ ptpConsumed p = true) ∧
    (∃ (s : State) (l : Nat) (bs : List Byte), s.hasLane l = true ∧ let e := l / 24; let p := parseFrame bs; s.laneUp l = true ∧ 64 ≤ bs.length + 4 ∧ bs.length + 4 ≤ s.maxFrame l ∧ (p.dst % 2 = 1 ∨ p.dst = leWord (s.laneMac l)) ∧ p.etype ≠ 0x8808 ∧ p.etype ≠ s.tideType e ∧ ptpConsumed p = false ∧ (∀ g, g < 128 → s.fnRun e g = true → s.filterOf e g l p = none)) ∧
    (∃ (s : State) (l : Nat) (bs : List Byte), s.hasLane l = true ∧ let e := l / 24; let p := parseFrame bs; s.laneUp l = true ∧ 64 ≤ bs.length + 4 ∧ bs.length + 4 ≤ s.maxFrame l ∧ (p.dst % 2 = 1 ∨ p.dst = leWord (s.laneMac l)) ∧ p.etype ≠ 0x8808 ∧ ∃ f k ds, p.etype ≠ s.tideType e ∧ ptpConsumed p = false ∧ f < 128 ∧ s.fnRun e f = true ∧ s.filterOf e f l p = some k ∧ (∀ g, g < 128 → g ≠ f → s.fnRun e g = true → s.filterOf e g l p = none) ∧ let r := getF (s.reg (Reg.FE_FNFILT e f k)) ⟨3, 2⟩ + 1; let y := s.fn (fnKey e f); getF (s.reg (ringCfg e f r)) F.FE_DBRXCFG_STRIP = 0 ∧ getF (s.reg (Reg.FE_FNRXSHAPE e f)) F.FE_FNTXSHAPE_RATE ≠ 0 ∧ 1000 * bs.length ≤ s.rxTokens e f ∧ s.bulkBuffered e + bs.length ≤ 384 * 1024 ∧ takeDescs 16 bs.length (y.rxq.filter (fun d => d.ring == r)) = some ds) ∧
    (∃ (s : State) (e f : Nat) (fr : RxFrm) (rest : List RxFrm) (d : RxDesc) (p q : Nat), s.hasFe e = true ∧ f < 128 ∧ s.fnState e f ≠ 0 ∧ (s.fn (fnKey e f)).rxf = fr :: rest ∧ fr.flush = false ∧ fr.descs = [d] ∧ d.size ≠ 0 ∧ fr.bytes.length ≤ d.size ∧ s.fnXlate e f d.addr d.size ≠ none ∧ s.logging (s.fnOwner e f) = false ∧ 1 ≤ fr.ring ∧ fr.ring ≤ 4 ∧ s.fnCast e f d.addr fr.bytes.length p ∧ s.fnCast e f (s.descAddr e f fr.ring d.idx + 24) 8 q) :=
  ⟨⟨(wLn 4 {}), 0, by decide +kernel, by decide +kernel⟩,
    ⟨(wLn 5 {}), 0, by decide +kernel, by decide +kernel⟩,
    ⟨(wLn 5 {}), 0, (wEth (State.tideType {} 0) 46), by decide +kernel, by decide +kernel, by decide +kernel, by decide +kernel, by decide +kernel, by decide +kernel, by decide +kernel⟩,
    ⟨(wLn 5 {}), 0, (wEth 0x88F7 0 ++ 0 :: List.replicate 45 7), by decide +kernel, by decide +kernel, by decide +kernel, by decide +kernel, by decide +kernel, by decide +kernel, by decide +kernel, by decide +kernel⟩,
    ⟨(wFn 1 {}), 0, (wEth 0x800 46), by decide +kernel, by decide +kernel, by decide +kernel, by decide +kernel, by decide +kernel, by decide +kernel, by decide +kernel, by decide +kernel, by decide +kernel⟩,
    ⟨(wF (Reg.FE_FNRXSHAPE 0 0) F.FE_FNTXSHAPE_RATE 1 (wF (Reg.FE_FNFILT 0 0 2) ⟨0, 64⟩ 0x101 (wFn 1 { rxTok := 2048000, rxq := [wRxd 60] }))), 0, (wEth 0x800 46), by decide +kernel, by decide +kernel, by decide +kernel, by decide +kernel, by decide +kernel, by decide +kernel, 0, 2, [wRxd 60], by decide +kernel, by decide +kernel, by decide +kernel, by decide +kernel, by decide +kernel, by decide +kernel, by decide +kernel, by decide +kernel, by decide +kernel, by decide +kernel, by decide +kernel⟩,
    ⟨(wFn 3 { rxf := [wRxf [1, 2, 3] 3] }), 0, 0, (wRxf [1, 2, 3] 3), [], (wRxd 3), 0x7000_1000_0300, 0x7000_1000_0818, by decide +kernel, by decide +kernel, by decide +kernel, by decide +kernel, by decide +kernel, by decide +kernel, by decide +kernel, by decide +kernel, by decide +kernel, by decide +kernel, by decide +kernel, by decide +kernel, ⟨by decide +kernel, by decide +kernel, _, Or.inl rfl⟩, ⟨by decide +kernel, by decide +kernel, _, Or.inl rfl⟩⟩⟩

/-! `Obligations.LadleChannelsChangeState` -/

theorem witness_LadleChannelsChangeState :
    (∃ (s : State) (l c : Nat), s.hasCh l c = true ∧ let st := s.chState l c; ∃ v, st = chDisabled ∧ getF v F.LDL_CHCFG_EN = 1 ∧ s.chRefusal l c = none) ∧
    (∃ (s : State) (l c : Nat), s.hasCh l c = true ∧ let st := s.chState l c; ∃ v, st = chDisabled ∧ getF v F.LDL_CHCFG_EN = 1 ∧ ∃ k, s.chRefusal l c = some k) ∧
    (∃ (s : State) (l c : Nat), s.hasCh l c = true ∧ let st := s.chState l c; ∃ v, getF v F.LDL_CHCFG_EN = 0 ∧ (st = chIdle ∨ st = chStopped ∨ st = chError)) ∧
    (∃ (s : State) (l c : Nat), s.hasCh l c = true ∧ let st := s.chState l c; ∃ v, getF v F.LDL_CHCFG_EN = 0 ∧ (st = chRunning ∨ st = chWaiting ∨ st = chStopping)) ∧
    (∃ (s : State) (l c : Nat), s.hasCh l c = true ∧ let y := s.ldl (ldlKey l c); let st := s.chState l c; ∃ v, getF v F.LDL_CHCFG_EN = 1 ∧ getF v F.LDL_CHCFG_ABORT = 0 ∧ getF v F.LDL_CHCFG_STOP = 1 ∧ st = chRunning ∧ y.cur = none) ∧
    (∃ (s : State) (l c : Nat), s.hasCh l c = true ∧ let y := s.ldl (ldlKey l c); let st := s.chState l c; ∃ v, getF v F.LDL_CHCFG_EN = 1 ∧ getF v F.LDL_CHCFG_ABORT = 0 ∧ getF v F.LDL_CHCFG_STOP = 1 ∧ ∃ w, st = chRunning ∧ y.cur = some w) ∧
    (∃ (s : State) (l c : Nat), s.hasCh l c = true ∧ let st := s.chState l c; ∃ v, getF v F.LDL_CHCFG_EN = 1 ∧ getF v F.LDL_CHCFG_ABORT = 1 ∧ (st = chRunning ∨ st = chWaiting ∨ st = chStopping)) ∧
    (∃ (s : State) (l c : Nat), s.hasCh l c = true ∧ let y := s.ldl (ldlKey l c); let st := s.chState l c; st = chStopping ∧ y.mgrStop = true ∧ s.fld (Reg.LDL_CHCFG l c) F.LDL_CHCFG_STOPTMO ≠ 15) ∧
    (∃ (s : State) (l c : Nat), s.hasCh l c = true ∧ let y := s.ldl (ldlKey l c); let st := s.chState l c; st = chStopping ∧ y.mgrStop = true ∧ s.fld (Reg.LDL_CHCFG l c) F.LDL_CHCFG_STOPTMO = 15) ∧
    (∃ (s : State) (l c : Nat), s.hasCh l c = true ∧ let y := s.ldl (ldlKey l c); let st := s.chState l c; st = chAborting ∧ y.cur = none) ∧
    (∃ (s : State) (l c : Nat), s.hasCh l c = true ∧ let st := s.chState l c; (st = chIdle ∨ st = chStopped)) ∧
    (∃ (s : State) (l c : Nat), s.hasCh l c = true ∧ let y := s.ldl (ldlKey l c); let st := s.chState l c; st = chRunning ∧ y.cur = none) ∧
    (∃ (s : State) (l c : Nat), s.hasCh l c = true ∧ let st := s.chState l c; st = chStopped) ∧
    (∃ (s : State) (l c : Nat), s.hasCh l c = true ∧ let st := s.chState l c; st = chError) ∧
    (∃ (s : State) (l c : Nat), s.hasCh l c = true ∧ let st := s.chState l c; ∃ i k, st ≠ chDisabled ∧ ((i = Instr.doorbellStart l c ∧ k = 1 ∧ st ≠ chIdle ∧ st ≠ chStopped) ∨ (i = Instr.doorbellResume l c ∧ k = 2 ∧ st ≠ chStopped) ∨ (i = Instr.doorbellClear l c ∧ k = 3 ∧ st ≠ chError))) ∧
    (∃ (s : State) (l c : Nat), s.hasCh l c = true ∧ let st := s.chState l c; ∃ r, r < 8 ∧ st ≠ chRunning ∧ st ≠ chWaiting ∧ st ≠ chStopping ∧ st ≠ chAborting) ∧
    (∃ (s : State) (l c : Nat), s.hasCh l c = true ∧ ∃ w rest, (s.eng l).waitq = w :: rest ∧ (s.eng l).flight.length < 16) ∧
    (∃ (s : State) (l c : Nat), s.hasCh l c = true ∧ (∀ j, j < 32 → (s.ldl (ldlKey l j)).wait = none)) ∧
    (∃ (s : State) (l c : Nat), s.hasCh l c = true) :=
  ⟨⟨(wCh 0 {} []), 0, 0, by decide +kernel, 1, by decide +kernel, by decide +kernel, by decide +kernel⟩,
    ⟨wS, 3, 31, by decide +kernel, 1, by decide +kernel, by decide +kernel, 1, by decide +kernel⟩,
    ⟨(wCh 7 {} []), 0, 0, by decide +kernel, 0, by decide +kernel, by decide +kernel⟩,
    ⟨(wCh 4 {} []), 0, 0, by decide +kernel, 0, by decide +kernel, by decide +kernel⟩,
    ⟨(wCh 2 {} []), 0, 0, by decide +kernel, (setF 1 F.LDL_CHCFG_STOP 1), by decide +kernel, by decide +kernel, by decide +kernel, by decide +kernel, by decide +kernel⟩,
    ⟨(wCh 2 { cur := some 1 } []), 0, 0, by decide +kernel, (setF 1 F.LDL_CHCFG_STOP 1), by decide +kernel, by decide +kernel, by decide +kernel, 1, by decide +kernel, by decide +kernel⟩,
    ⟨(wCh 2 { disable := true } []), 0, 0, by decide +kernel, (setF 1 F.LDL_CHCFG_ABORT 1), by decide +kernel, by decide +kernel, by decide +kernel⟩,
    ⟨(wF (Reg.LDL_CHCFG 0 0) F.LDL_CHCFG_STOPTMO 14 (wCh 4 { mgrStop := true } [])), 0, 0, by decide +kernel, by decide +kernel, by decide +kernel, by decide +kernel⟩,
    ⟨(wF (Reg.LDL_CHCFG 0 0) F.LDL_CHCFG_STOPTMO 15 (wCh 4 { mgrStop := true } [])), 0, 0, by decide +kernel, by decide +kernel, by decide +kernel, by decide +kernel⟩,
    ⟨(wCh 5 {} []), 0, 0, by decide +kernel, by decide +kernel, by decide +kernel⟩,
    ⟨(wF (Reg.LDL_DBPROG 0 0) ⟨0, 64⟩ 0x10080 (wCh 6 {} [])), 0, 0, by decide +kernel, by decide +kernel⟩,
    ⟨(wCh 2 {} []), 0, 0, by decide +kernel, by decide +kernel, by decide +kernel⟩,
    ⟨(wCh 6 { stack := [(1, 2, 3)] } []), 0, 0, by decide +kernel, by decide +kernel⟩,
    ⟨(wF (Reg.LDL_CHSTAT 0 0) F.LDL_CHSTAT_ERRCODE 3 (wCh 7 { stack := [(1, 2, 3)] } [])), 0, 0, by decide +kernel, by decide +kernel⟩,
    ⟨(wCh 6 {} []), 0, 0, by decide +kernel, (.doorbellClear 0 0), 3, by decide +kernel, by decide +kernel⟩,
    ⟨(wCh 7 {} []), 0, 0, by decide +kernel, 0, by decide +kernel, by decide +kernel, by decide +kernel, by decide +kernel, by decide +kernel⟩,
    ⟨{ wCh 2 {} [] with ldlEngs := [(0, { flight := List.range 15, waitq := [20, 21] })] }, 0, 0, by decide +kernel, 20, [21], by decide +kernel, by decide +kernel⟩,
    ⟨wS, 3, 0, by decide +kernel, by decide +kernel⟩,
    ⟨(wF (Reg.LDL_DBIPEND 0 0) ⟨0, 64⟩ 5 (wF (Reg.LDL_DBIMSET 0 0) ⟨0, 64⟩ 0xF wS)), 0, 0, by decide +kernel⟩⟩

/-! `Obligations.LadleInstructionsAct` -/

theorem witness_LadleInstructionsAct :
    (∃ (s : State) (l c : Nat), s.hasCh l c = true ∧ s.chState l c = chRunning ∧ (s.ldl (ldlKey l c)).cur = none ∧ s.chInstr l c = none ∧ let a := s.chPc l c / 64 * 64; ∃ p, s.chCast l c a 64 p ∧ s.anyPoison p 64 = false) ∧
    (∃ (s : State) (l c : Nat), s.hasCh l c = true ∧ s.chState l c = chRunning ∧ (s.ldl (ldlKey l c)).cur = none ∧ s.chInstr l c = none ∧ let a := s.chPc l c / 64 * 64; s.chXlate l c a 64 ≠ none) ∧
    (∃ (s : State) (l c : Nat), s.hasCh l c = true ∧ s.chState l c = chRunning ∧ (s.ldl (ldlKey l c)).cur = none ∧ s.chInstr l c = none ∧ let a := s.chPc l c / 64 * 64; s.chXlate l c a 64 = none) ∧
    (∃ (s : State) (l c v : Nat), s.ldlAt l c v ∧ let m := iMod v; ∃ i r, iOp v = 7 ∧ ((i = Instr.setImm l c ∧ m % 8 = 0 ∧ r = imm64 v) ∨ (i = Instr.setAdd l c ∧ m % 8 = 1 ∧ r = s.cr l c (iRs v) + imm64 v) ∨ (i = Instr.setAnd l c ∧ m % 8 = 3 ∧ r = s.cr l c (iRs v) &&& imm64 v) ∨ (i = Instr.setXor l c ∧ m % 8 = 4 ∧ r = s.cr l c (iRs v) ^^^ imm64 v))) ∧
    (∃ (s : State) (l c v : Nat), s.ldlAt l c v ∧ let x := s.ldl (ldlKey l c); iOp v = 3 ∧ ∃ n, s.ldlCount l c v = some n ∧ 0 < n ∧ x.stack.length < 4) ∧
    (∃ (s : State) (l c v : Nat), s.ldlAt l c v ∧ iOp v = 3 ∧ s.ldlCount l c v = some 0) ∧
    (∃ (s : State) (l c v : Nat), s.ldlAt l c v ∧ let x := s.ldl (ldlKey l c); iOp v = 3 ∧ ∃ n, s.ldlCount l c v = some n ∧ 0 < n ∧ 4 ≤ x.stack.length) ∧
    (∃ (s : State) (l c v : Nat), s.ldlAt l c v ∧ let x := s.ldl (ldlKey l c); let pc := s.chPc l c; iOp v = 4 ∧ ∃ nx b n r, x.stack = (nx, b, n) :: r ∧ nx % 2 ^ 48 = pc ∧ 1 < n) ∧
    (∃ (s : State) (l c v : Nat), s.ldlAt l c v ∧ let x := s.ldl (ldlKey l c); let pc := s.chPc l c; iOp v = 4 ∧ ∃ nx b n r, x.stack = (nx, b, n) :: r ∧ nx % 2 ^ 48 = pc ∧ n ≤ 1) ∧
    (∃ (s : State) (l c v : Nat), s.ldlAt l c v ∧ let x := s.ldl (ldlKey l c); iOp v = 4 ∧ x.stack = []) ∧
    (∃ (s : State) (l c v : Nat), s.ldlAt l c v ∧ iOp v = 5 ∧ let w := s.waitOf l c v; (∀ f clr, w = .flag f clr → s.flagOk l c f = true) ∧ s.waitMet l w = false) ∧
    (∃ (s : State) (l c v : Nat), s.ldlAt l c v ∧ iOp v = 5 ∧ let w := s.waitOf l c v; (∀ f clr, w = .flag f clr → s.flagOk l c f = true) ∧ s.waitMet l w = true) ∧
    (∃ (s : State) (l c v : Nat), s.ldlAt l c v ∧ let m := iMod v; iOp v = 6 ∧ ∃ i clr, ((i = Instr.signalSetf l c ∧ m % 4 = 0 ∧ clr = false) ∨ (i = Instr.signalClrf l c ∧ m % 4 = 1 ∧ clr = true)) ∧ let f := iB8 v % 64; s.flagOk l c f = true ∧ (∀ j, j < 32 → (s.ldl (ldlKey l j)).wait = none)) ∧
    (∃ (s : State) (l c v : Nat), s.ldlAt l c v ∧ let m := iMod v; iOp v = 6 ∧ ∃ i clr, ((i = Instr.signalSetf l c ∧ m % 4 = 0 ∧ clr = false) ∨ (i = Instr.signalClrf l c ∧ m % 4 = 1 ∧ clr = true)) ∧ let f := iB8 v % 64; s.flagOk l c f = false) ∧
    (∃ (s : State) (l c v : Nat), s.ldlAt l c v ∧ let m := iMod v; iOp v = 6 ∧ m % 4 = 2) ∧
    (∃ (s : State) (l c v : Nat), s.ldlAt l c v ∧ iOp v = 8) ∧
    (∃ (s : State) (l c v : Nat), s.ldlAt l c v ∧ let m := iMod v; ∃ i n src, ((i = Instr.move l c ∧ iOp v = 1 ∧ src = true) ∨ (i = Instr.fill l c ∧ iOp v = 2 ∧ src = false)) ∧ s.ldlCount l c v = some n ∧ 0 < n ∧ (bitAt m 1 = true → s.flagOk l c (bitsAt v 112 6) = true) ∧ (src = true → s.rangeBad l c (s.cr l c (iRs v)) n = false) ∧ s.rangeBad l c (s.cr l c (iRd v)) n = false) ∧
    (∃ (s : State) (l c v : Nat), s.ldlAt l c v ∧ let m := iMod v; ∃ i n src, ((i = Instr.move l c ∧ iOp v = 1 ∧ src = true) ∨ (i = Instr.fill l c ∧ iOp v = 2 ∧ src = false)) ∧ s.ldlCount l c v = some n ∧ 0 < n ∧ (bitAt m 1 = true → s.flagOk l c (bitsAt v 112 6) = true) ∧ s.rangeBad l c (s.cr l c (iRd v)) n = true) ∧
    (∃ (s : State) (l c v : Nat), s.ldlAt l c v ∧ let m := iMod v; ∃ i b n, ((i = Instr.signalWrite l c ∧ iOp v = 6 ∧ m % 4 = 3 ∧ b = iRd v ∧ n = 8) ∨ (i = Instr.setLoad l c ∧ iOp v = 7 ∧ m % 8 = 2 ∧ b = iRs v ∧ n = 2 ^ (m / 16 % 4))) ∧ (s.cr l c b).toNat < 2 ^ 48 ∧ let a := s.memAddr l c b v; a.toNat % n = 0 ∧ s.rangeBad l c a n = false) ∧
    (∃ (s : State) (l c v : Nat), s.ldlAt l c v ∧ let m := iMod v; ∃ i b n, ((i = Instr.signalWrite l c ∧ iOp v = 6 ∧ m % 4 = 3 ∧ b = iRd v ∧ n = 8) ∨ (i = Instr.setLoad l c ∧ iOp v = 7 ∧ m % 8 = 2 ∧ b = iRs v ∧ n = 2 ^ (m / 16 % 4))) ∧ (s.cr l c b).toNat < 2 ^ 48 ∧ let a := s.memAddr l c b v; a.toNat % n ≠ 0) :=
  ⟨⟨{ wCh 2 {} [] with mem := [(0x7000_1000_0041, 5)] }, 0, 0, by decide +kernel, by decide +kernel, by decide +kernel, by decide +kernel, 0x7000_1000_0040, wCast (by decide +kernel), by decide +kernel⟩,
    ⟨(wCh 2 {} []), 0, 0, by decide +kernel, by decide +kernel, by decide +kernel, by decide +kernel, by decide +kernel⟩,
    ⟨(wF (Reg.LDL_CHPC 0 0) ⟨0, 64⟩ 0x20000 (wCh 2 {} [])), 0, 0, by decide +kernel, by decide +kernel, by decide +kernel, by decide +kernel, by decide +kernel⟩,
    ⟨(wLd (wIn 7 0 3 4 0 77) {} [(3, 6)]), 0, 0, (wIn 7 0 3 4 0 77), by unfold State.ldlAt; decide +kernel, (.setXor 0 0), 75, by decide +kernel, by decide +kernel⟩,
    ⟨(wLd (wIn 3 0 0 0 5 2) { stack := [(1, 2, 3), (1, 2, 3), (1, 2, 3)] } []), 0, 0, (wIn 3 0 0 0 5 2), by unfold State.ldlAt; decide +kernel, by decide +kernel, 5, by decide +kernel, by decide +kernel, by decide +kernel⟩,
    ⟨(wLd (wIn 3 0 0 0 0 2) {} []), 0, 0, (wIn 3 0 0 0 0 2), by unfold State.ldlAt; decide +kernel, by decide +kernel, by decide +kernel⟩,
    ⟨(wLd (wIn 3 0 0 0 5 2) { stack := [(1, 2, 3), (1, 2, 3), (1, 2, 3), (1, 2, 3)] } []), 0, 0, (wIn 3 0 0 0 5 2), by unfold State.ldlAt; decide +kernel, by decide +kernel, 5, by decide +kernel, by decide +kernel, by decide +kernel⟩,
    ⟨(wLd (wIn 4 0 0 0 0 0) { stack := [(0x10040, 0x10000, 2), (1, 2, 3)] } []), 0, 0, 4, by unfold State.ldlAt; decide +kernel, by decide +kernel, 0x10040, 0x10000, 2, [(1, 2, 3)], by decide +kernel, by decide +kernel, by decide +kernel⟩,
    ⟨(wLd (wIn 4 0 0 0 0 0) { stack := [(0x10040, 0x10000, 1), (1, 2, 3)] } []), 0, 0, 4, by unfold State.ldlAt; decide +kernel, by decide +kernel, 0x10040, 0x10000, 1, [(1, 2, 3)], by decide +kernel, by decide +kernel, by decide +kernel⟩,
    ⟨(wLd (wIn 4 0 0 0 0 0) {} []), 0, 0, 4, by unfold State.ldlAt; decide +kernel, by decide +kernel, by decide +kernel⟩,
    ⟨(wLd (wIn 5 0 3 2 0 0) {} [(3, 1)]), 0, 0, (wIn 5 0 3 2 0 0), by unfold State.ldlAt; decide +kernel, by decide +kernel, fun _ _ h => absurd (congrArg wIsFlag h) (by show ¬ (_ = true); decide +kernel), by decide +kernel⟩,
    ⟨(wLd (wIn 5 0 0 3 0 0) {} []), 0, 0, (wIn 5 0 0 3 0 0), by unfold State.ldlAt; decide +kernel, by decide +kernel, fun _ _ h => absurd (congrArg wIsFlag h) (by show ¬ (_ = true); decide +kernel), by decide +kernel⟩,
    ⟨(wF (Reg.LDL_EVSET 0) ⟨0, 64⟩ 0x81 (wF (Reg.LDL_EVGRP 0) ⟨0, 64⟩ 0x80 (wLd (wIn 6 0 0 1 0 0) {} []))), 0, 0, (wIn 6 0 0 1 0 0), by unfold State.ldlAt; decide +kernel, by decide +kernel, (.signalClrf 0 0), true, by decide +kernel, by decide +kernel, by decide +kernel⟩,
    ⟨(wF (Reg.LDL_EVGRP 0) ⟨0, 64⟩ 0x80 (wLd (wIn 6 0 0 0 0 8) {} [])), 0, 0, (wIn 6 0 0 0 0 8), by unfold State.ldlAt; decide +kernel, by decide +kernel, (.signalSetf 0 0), false, by decide +kernel, by decide +kernel⟩,
    ⟨(wF (Reg.LDL_DBIMSET 0 0) ⟨0, 64⟩ 0xF (wLd (wIn 6 0 0 2 0 3) {} [])), 0, 0, (wIn 6 0 0 2 0 3), by unfold State.ldlAt; decide +kernel, by decide +kernel, by decide +kernel⟩,
    ⟨(wF (Reg.LDL_DBSTAT 0 0) F.LDL_DBSTAT_RUNS 0xFFFF_FFFF (wLd 8 { stack := [(1, 2, 3)] } [])), 0, 0, 8, by unfold State.ldlAt; decide +kernel, by decide +kernel⟩,
    ⟨{ wLd (wIn 2 2 3 0 1 0) {} [(2, 0x1FFFF), (3, 0x10200)] with ldlEngs := [(0, { flight := List.range' 1 16 })] }, 0, 0, (wIn 2 2 3 0 1 0), by unfold State.ldlAt; decide +kernel, (.fill 0 0), 1, false, by decide +kernel, by decide +kernel, by decide +kernel, by decide +kernel, by decide +kernel, by decide +kernel⟩,
    ⟨(wLd (wIn 1 2 3 0 2 0) {} [(2, 0x1FFFF), (3, 0x30200)]), 0, 0, (wIn 1 2 3 0 2 0), by unfold State.ldlAt; decide +kernel, (.move 0 0), 2, true, by decide +kernel, by decide +kernel, by decide +kernel, by decide +kernel, by decide +kernel⟩,
    ⟨(wLd (wIn 7 2 3 0x22 4 0) {} [(3, 0x10200)]), 0, 0, (wIn 7 2 3 0x22 4 0), by unfold State.ldlAt; decide +kernel, (.setLoad 0 0), 3, 4, by decide +kernel, by decide +kernel, by decide +kernel, by decide +kernel⟩,
    ⟨(wLd (wIn 6 2 3 3 4 0) {} [(2, 0x10100), (3, 0x10200)]), 0, 0, (wIn 6 2 3 3 4 0), by unfold State.ldlAt; decide +kernel, (.signalWrite 0 0), 2, 8, by decide +kernel, by decide +kernel, by decide +kernel⟩⟩

/-! `Obligations.LadleAccessesComplete` -/

theorem witness_LadleAccessesComplete :
    (∃ (s : State) (l c : Nat), s.hasCh l c = true ∧ let k := ldlKey l c; ∃ w, s.chState l c = chWaiting ∧ (s.ldl k).wait = some w ∧ (s.ldl k).met = true) ∧
    (∃ (s : State) (l c v : Nat), s.hasCh l c = true ∧ let k := ldlKey l c; s.chState l c = chRunning ∧ (s.ldl k).cur = some v ∧ s.logging (s.chOwner l c) = false ∧ iOp v = 6 ∧ let a := (s.memAddr l c (iRd v) v).toNat; ∃ p, s.chCast l c a 8 p) ∧
    (∃ (s : State) (l c v : Nat), s.hasCh l c = true ∧ let k := ldlKey l c; s.chState l c = chRunning ∧ (s.ldl k).cur = some v ∧ s.logging (s.chOwner l c) = false ∧ iOp v = 6) ∧
    (∃ (s : State) (l c v : Nat), s.hasCh l c = true ∧ let k := ldlKey l c; s.chState l c = chRunning ∧ (s.ldl k).cur = some v ∧ s.logging (s.chOwner l c) = false ∧ iOp v = 7 ∧ let a := (s.memAddr l c (iRs v) v).toNat; let n := 2 ^ (iMod v / 16 % 4); ∃ p, s.chCast l c a n p ∧ s.anyPoison p n = false) ∧
    (∃ (s : State) (l c v : Nat), s.hasCh l c = true ∧ let k := ldlKey l c; s.chState l c = chRunning ∧ (s.ldl k).cur = some v ∧ s.logging (s.chOwner l c) = false ∧ let D := (s.cr l c (iRd v)).toNat; ∃ n p, iOp v = 2 ∧ c ∈ (s.eng l).flight ∧ s.ldlCount l c v = some n ∧ bitAt (iMod v) 1 = false ∧ s.armed = false ∧ s.chCast l c D n p) ∧
    (∃ (s : State) (l c v : Nat), s.hasCh l c = true ∧ let k := ldlKey l c; s.chState l c = chRunning ∧ (s.ldl k).cur = some v ∧ s.logging (s.chOwner l c) = false ∧ let S := (s.cr l c (iRs v)).toNat; let D := (s.cr l c (iRd v)).toNat; ∃ n p q, iOp v = 1 ∧ c ∈ (s.eng l).flight ∧ s.ldlCount l c v = some n ∧ bitAt (iMod v) 1 = false ∧ s.armed = false ∧ s.chCast l c D n p ∧ s.chCast l c S n q ∧ s.anyPoison q n = false ∧ (D ≤ S ∨ S + n ≤ D)) :=
  ⟨⟨(wCh 3 { wait := some (.flag 3 false), met := true } []), 0, 0, by decide +kernel, (.flag 3 false), by decide +kernel, by decide +kernel, by decide +kernel⟩,
    ⟨(wLc (wIn 6 2 3 3 0xFFFF_FFF8 0) [(2, 0x10100), (3, 0x1122334455667788)]), 0, 0, (wIn 6 2 3 3 0xFFFF_FFF8 0), by decide +kernel, by decide +kernel, by decide +kernel, by decide +kernel, by decide +kernel, 0x7000_1000_00F8, wCast (by decide +kernel)⟩,
    ⟨(wLc (wIn 6 2 3 3 0xFFFF_FFF8 0) [(2, 0x10100), (3, 0x1122334455667788)]), 0, 0, (wIn 6 2 3 3 0xFFFF_FFF8 0), by decide +kernel, by decide +kernel, by decide +kernel, by decide +kernel, by decide +kernel⟩,
    ⟨{ wLc (wIn 7 2 3 0x22 4 0) [(3, 0x10200)] with mem := [(0x7000_1000_0204, 9), (0x7000_1000_0207, 0x80), (0x7000_1000_0208, 1)] }, 0, 0, (wIn 7 2 3 0x22 4 0), by decide +kernel, by decide +kernel, by decide +kernel, by decide +kernel, by decide +kernel, 0x7000_1000_0204, wCast (by decide +kernel), by decide +kernel⟩,
    ⟨(wLc (wIn 2 2 3 0 10 0) [(2, 0x1013B), (3, 0x1122334455667788)]), 0, 0, (wIn 2 2 3 0 10 0), by decide +kernel, by decide +kernel, by decide +kernel, by decide +kernel, 10, 0x7000_1000_013B, by decide +kernel, by decide +kernel, by decide +kernel, by decide +kernel, by decide +kernel, wCast (by decide +kernel)⟩,
    ⟨{ wLc (wIn 1 2 3 0 8 0) [(2, 0x10203), (3, 0x10204)] with mem := [(0x7000_1000_0204, 9), (0x7000_1000_0207, 0x80), (0x7000_1000_0208, 1)] }, 0, 0, (wIn 1 2 3 0 8 0), by decide +kernel, by decide +kernel, by decide +kernel, by decide +kernel, 8, 0x7000_1000_0203, 0x7000_1000_0204, by decide +kernel, by decide +kernel, by decide +kernel, by decide +kernel, by decide +kernel, wCast (by decide +kernel), wCast (by decide +kernel), by decide +kernel, by decide +kernel⟩⟩

/-! `Obligations.DomainsArePowered` -/

theorem witness_DomainsArePowered :
    (∃ (s : State) (d : Nat) (v : Word) (i : Instr) (req : Nat), s.hasDom d = true ∧ ((i = Instr.pwrDomReqOff d v ∧ req = 0) ∨ (i = Instr.pwrDomReqRun d v ∧ req = 1) ∨ (i = Instr.pwrDomReqRetain d v ∧ req = 2)) ∧ s.domSame d req = true) ∧
    (∃ (s : State) (d : Nat) (v : Word) (i : Instr) (req : Nat), s.hasDom d = true ∧ ((i = Instr.pwrDomReqOff d v ∧ req = 0) ∨ (i = Instr.pwrDomReqRun d v ∧ req = 1) ∨ (i = Instr.pwrDomReqRetain d v ∧ req = 2)) ∧ ∃ k, s.domSame d req = false ∧ s.domRefusal d req = some k) ∧
    (∃ (s : State) (d : Nat) (v : Word) (i : Instr) (req : Nat), s.hasDom d = true ∧ ((i = Instr.pwrDomReqOff d v ∧ req = 0) ∨ (i = Instr.pwrDomReqRun d v ∧ req = 1) ∨ (i = Instr.pwrDomReqRetain d v ∧ req = 2)) ∧ s.domSame d req = false ∧ s.domRefusal d req = none) ∧
    (∃ (s : State) (d : Nat), s.pwr.phase = .run ∧ s.domState d = domUp ∧ d < 223) ∧
    (∃ (s : State) (d : Nat), s.pwr.phase = .run ∧ s.domState d = domDown ∧ d ∉ s.pwr.past ∧ (∀ k ∈ domEps d, s.epState k = epFenced ∨ s.epState k = epDead) ∧ d < 128 ∧ s.cyclicAt d = false) ∧
    (∃ (s : State) (d : Nat), s.pwr.phase = .run ∧ s.domState d = domDown ∧ d ∉ s.pwr.past ∧ (∀ k ∈ domEps d, s.epState k = epFenced ∨ s.epState k = epDead) ∧ d < 128 ∧ s.cyclicAt d = true) ∧
    (∃ (s : State) (d : Nat), s.pwr.phase = .run ∧ s.domState d = domDown ∧ d ∉ s.pwr.past ∧ (∀ k ∈ domEps d, s.epState k = epFenced ∨ s.epState k = epDead) ∧ 128 ≤ d ∧ d < 223) ∧
    (∃ (s : State) (n : Nat), n < 128 ∧ s.pwr.phase = .run ∧ n ∈ s.pwr.past ∧ s.fld (Reg.PWR_DOM n) F.PWR_DOM_REQ = 2) ∧
    (∃ (s : State) (n : Nat), n < 128 ∧ s.pwr.phase = .run ∧ n ∈ s.pwr.past ∧ s.fld (Reg.PWR_DOM n) F.PWR_DOM_REQ = 0) ∧
    (∃ (s : State) (n : Nat), n < 128 ∧ s.pwr.phase = .run ∧ s.domState n = domResume ∧ (∀ q ∈ s.retainPrst, q.1 ≠ n)) :=
  ⟨⟨(wDom 127 4 wS), 127, 0, (.pwrDomReqRetain 127 0), 2, by decide +kernel, by decide +kernel, by decide +kernel⟩,
    ⟨(wDom 128 2 wS), 128, 0, (.pwrDomReqRetain 128 0), 2, by decide +kernel, by decide +kernel, 4, by decide +kernel, by decide +kernel⟩,
    ⟨(wDom 223 2 wS), 216, 0, (.pwrDomReqRun 216 0), 1, by decide +kernel, by decide +kernel, by decide +kernel, by decide +kernel⟩,
    ⟨(wDom 222 1 wS), 222, by decide +kernel, by decide +kernel, by decide +kernel⟩,
    ⟨(wDown {}), 0, by decide +kernel, by decide +kernel, by decide +kernel, by decide +kernel, by decide +kernel, by decide +kernel⟩,
    ⟨(wF (Reg.AON_CYCLATCH 0) ⟨0, 64⟩ 1 (wDown {})), 0, by decide +kernel, by decide +kernel, by decide +kernel, by decide +kernel, by decide +kernel, by decide +kernel⟩,
    ⟨(wF (epctl (epSlice 0)) F.RTR_EPCTL_STATE 4 (wDom 128 3 wS)), 128, by decide +kernel, by decide +kernel, by decide +kernel, by decide +kernel, by decide +kernel, by decide +kernel⟩,
    ⟨(wF (Reg.PWR_DOM 0) F.PWR_DOM_REQ 2 (wDown { past := [0], exits := [0] })), 0, by decide +kernel, by decide +kernel, by decide +kernel, by decide +kernel⟩,
    ⟨(wF (Reg.PWR_DOM 0) F.PWR_DOM_REQ 0 { wDown { past := [0] } with mem := [(castBase 0 + 5, 9)] }), 0, by decide +kernel, by decide +kernel, by decide +kernel, by decide +kernel⟩,
    ⟨(wDom 0 5 (wDown {})), 0, by decide +kernel, by decide +kernel, by decide +kernel, by decide +kernel⟩⟩

/-! `Obligations.ChipStatesSleepAndWake` -/

theorem witness_ChipStatesSleepAndWake :
    (∃ (s : State) (n : Nat) (v : Word) (i : Instr) (req : Nat), s.hasCore n = true ∧ ((i = Instr.neapRequest n v ∧ req = 1) ∨ (i = Instr.standbyRequest n v ∧ req = 2)) ∧ ((s.core n).level = .f ∨ (s.core n).level = .h) ∧ ∃ k, s.chipRefusal n req = some k) ∧
    (∃ (s : State) (n : Nat) (v : Word) (i : Instr) (req : Nat), s.hasCore n = true ∧ ((i = Instr.neapRequest n v ∧ req = 1) ∨ (i = Instr.standbyRequest n v ∧ req = 2)) ∧ ((s.core n).level = .f ∨ (s.core n).level = .h) ∧ s.chipRefusal n req = none) ∧
    (∃ (s : State) (n : Nat) (v : Word) (i : Instr) (req : Nat), s.hasCore n = true ∧ ((i = Instr.neapRequest n v ∧ req = 1) ∨ (i = Instr.standbyRequest n v ∧ req = 2)) ∧ (s.core n).level ≠ .f ∧ (s.core n).level ≠ .h) ∧
    (∃ (s : State), s.pwr.phase = .entering ∧ s.pwr.requester < 128 ∧ s.pwr.cyclic = true ∧ s.pwr.standby = false) ∧
    (∃ (s : State), s.pwr.phase = .entering ∧ s.pwr.requester < 128 ∧ s.pwr.cyclic = false ∧ s.wakeSrcs true = false) ∧
    (∃ (s : State) (i : Instr) (bit : Nat), ((i = Instr.alarm ∧ bit = 8 ∧ s.reg Reg.AON_ALARM ≠ 0 ∧ getB (s.reg Reg.AON_WAKEEN) 8 = true) ∨ (∃ k l, k < 8 ∧ i = Instr.wakePin k l ∧ bit = k ∧ getB (s.reg Reg.AON_WAKEEN) k = true ∧ l ≠ getB (s.reg Reg.AON_WAKEPOL) k) ∨ (∃ k, i = Instr.wakeEvent (.source k) ∧ bit = (if isCyclicSrc k then 10 else 11) ∧ (s.src k).wake = true) ∨ (i = Instr.wakeEvent .management ∧ bit = 9 ∧ getB (s.reg Reg.AON_WAKEEN) 9 = true)) ∧ s.pwr.phase = .asleep) ∧
    (∃ (s : State) (i : Instr) (bit : Nat), ((i = Instr.alarm ∧ bit = 8 ∧ s.reg Reg.AON_ALARM ≠ 0 ∧ getB (s.reg Reg.AON_WAKEEN) 8 = true) ∨ (∃ k l, k < 8 ∧ i = Instr.wakePin k l ∧ bit = k ∧ getB (s.reg Reg.AON_WAKEEN) k = true ∧ l ≠ getB (s.reg Reg.AON_WAKEPOL) k) ∨ (∃ k, i = Instr.wakeEvent (.source k) ∧ bit = (if isCyclicSrc k then 10 else 11) ∧ (s.src k).wake = true) ∨ (i = Instr.wakeEvent .management ∧ bit = 9 ∧ getB (s.reg Reg.AON_WAKEEN) 9 = true)) ∧ s.pwr.phase = .run) ∧
    (∃ (s : State) (n : Nat), s.flag (Reg.PWR_DOM n) F.PWR_DOM_AUTOWAKE = true ∧ s.pwr.phase = .run ∧ s.domState n = domRetain ∧ n < 128) ∧
    (∃ (s : State), s.pwr.phase = .waking ∧ s.pwr.standby = false ∧ s.pwr.requester < 128) ∧
    (∃ (s : State) (m : Nat), m < 12 ∧ s.pwr.phase = .run ∧ s.mcState m = mcResuming) ∧
    (∃ (s : State) (m : Nat), m < 12 ∧ s.pwr.phase = .run ∧ s.mcState m = mcReady ∧ s.flag (Reg.MC_PWRCTL m) F.MC_PWRCTL_SRREQ = true ∧ s.epState (epMc m) = epFenced ∧ (s.chan m).window = none) :=
  ⟨⟨(wPwr { phase := .asleep } (wF Reg.CHIP_HOMECUR ⟨0, 64⟩ 0 wS)), 0, 0, (.standbyRequest 0 0), 2, by decide +kernel, by decide +kernel, by decide +kernel, 3, by decide +kernel⟩,
    ⟨(wDom 0 2 (wF Reg.CHIP_HOMECUR ⟨0, 64⟩ 0 wS)), 0, 0, (.standbyRequest 0 0), 2, by decide +kernel, by decide +kernel, by decide +kernel, by decide +kernel⟩,
    ⟨(wCores [(0, { wC with level := .u })]), 0, 0, (.neapRequest 0 0), 1, by decide +kernel, by decide +kernel, by decide +kernel, by decide +kernel⟩,
    ⟨(wPwr { phase := .entering, cyclic := true } wS), by decide +kernel, by decide +kernel, by decide +kernel, by decide +kernel⟩,
    ⟨(wDom 128 2 (wPwr { phase := .entering, before := [128] } wS)), by decide +kernel, by decide +kernel, by decide +kernel, by decide +kernel⟩,
    ⟨(wF Reg.AON_WAKEEN ⟨0, 64⟩ 0x200 (wPwr { phase := .asleep } wS)), (.wakeEvent .management), 9, by first | exact Or.inl (by decide +kernel) | exact Or.inr (by decide +kernel) | exact Or.inr (Or.inr (Or.inr (by decide +kernel))) | exact Or.inl ⟨_, rfl⟩ | exact Or.inr ⟨_, rfl⟩ | exact Or.inr ⟨_, rfl, rfl⟩ | exact Or.inr ⟨_, rfl, by decide +kernel⟩, by decide +kernel⟩,
    ⟨(wF Reg.AON_WAKEEN ⟨0, 64⟩ 0x200 wS), (.wakeEvent .management), 9, by first | exact Or.inl (by decide +kernel) | exact Or.inr (by decide +kernel) | exact Or.inr (Or.inr (Or.inr (by decide +kernel))) | exact Or.inl ⟨_, rfl⟩ | exact Or.inr ⟨_, rfl⟩ | exact Or.inr ⟨_, rfl, rfl⟩ | exact Or.inr ⟨_, rfl, by decide +kernel⟩, by decide +kernel⟩,
    ⟨(wF (Reg.PWR_DOM 127) F.PWR_DOM_AUTOWAKE 1 (wDom 127 4 wS)), 127, by decide +kernel, by decide +kernel, by decide +kernel, by decide +kernel⟩,
    ⟨(wPwr { phase := .waking, before := [128, 2] } wS), by decide +kernel, by decide +kernel, by decide +kernel⟩,
    ⟨(wF (Reg.MC_TRAIN 0) F.MC_TRAIN_SAVEDV 1 { wMc mcResuming with chans := [(0, { serials := some ((wMc mcResuming).dimmSerials 0) })] }), 0, by decide +kernel, by decide +kernel, by decide +kernel⟩,
    ⟨(wF (epctl (epMc 0)) F.RTR_EPCTL_STATE 3 (wF (Reg.MC_PWRCTL 0) F.MC_PWRCTL_SRREQ 1 (wMc mcReady))), 0, by decide +kernel, by decide +kernel, by decide +kernel, by decide +kernel, by decide +kernel, by decide +kernel⟩⟩

/-! `Obligations.VoltageTemperatureAndTrips` -/

theorem witness_VoltageAndTemperature :
    (∃ (v : Word), let g := getF v F.PWR_AVSCTL_TARGET; let b := getF v F.PWR_AVSCTL_STBYMV; 720 ≤ g ∧ g ≤ 950 ∧ 600 ≤ b ∧ b ≤ 720) ∧
    (∃ (v : Word), let g := getF v F.PWR_AVSCTL_TARGET; let b := getF v F.PWR_AVSCTL_STBYMV; (g < 720 ∨ 950 < g ∨ b < 600 ∨ 720 < b)) ∧
    (∃ (s : State), ∃ w mv, s.pwr.avs = some w ∧ mv < 4096) ∧
    (∃ (s : State), ∃ w, s.pwr.avs = some w) ∧
    (∃ (s : State) (hot : Int) (r : Nat), s.pwr.haltReset = false ∧ s.pwr.halt = false ∧ r < 128 ∧ hot < 640) ∧
    (∃ (s : State) (hot : Int) (r : Nat), s.pwr.haltReset = false ∧ s.pwr.halt = false ∧ r < 128 ∧ 640 ≤ hot) :=
  ⟨⟨(setF (setF 0 F.PWR_AVSCTL_TARGET 950) F.PWR_AVSCTL_STBYMV 600), by decide +kernel, by decide +kernel, by decide +kernel, by decide +kernel⟩,
    ⟨(setF (setF 0 F.PWR_AVSCTL_TARGET 950) F.PWR_AVSCTL_STBYMV 721), by decide +kernel⟩,
    ⟨(wPwr { avs := some 800 } wS), 800, 789, by decide +kernel, by decide +kernel⟩,
    ⟨(wPwr { avs := some 800 } wS), 800, by decide +kernel⟩,
    ⟨wS, -5, 0, by decide +kernel, by decide +kernel, by decide +kernel, by decide +kernel⟩,
    ⟨wS, 640, 0, by decide +kernel, by decide +kernel, by decide +kernel, by decide +kernel⟩⟩

theorem witness_TripOutputsAndTheTap :
    (∃ (s : State), s.flag Reg.CHIP_TRIPSTAT F.CHIP_TRIPSTAT_HOLD = false ∧ s.inReset = false) ∧
    (∃ (s : State), s.flag Reg.CHIP_TRIPSTAT F.CHIP_TRIPSTAT_HOLD = true) ∧
    (∃ (s : State), s.fld Reg.CHIP_TRIPCFG F.CHIP_TRIPCFG_TMO ≠ 15 ∧ s.inReset = false) ∧
    (∃ (s : State), s.fld Reg.CHIP_TRIPCFG F.CHIP_TRIPCFG_TMO = 15) :=
  ⟨⟨wS, by decide +kernel, by decide +kernel⟩,
    ⟨(wF Reg.CHIP_TRIPSTAT F.CHIP_TRIPSTAT_HOLD 1 wS), by decide +kernel⟩,
    ⟨(wF Reg.CHIP_TRIPPERMIT ⟨0,64⟩ 0xFF wS), by decide +kernel, by decide +kernel⟩,
    ⟨(wF Reg.CHIP_TRIPCFG F.CHIP_TRIPCFG_TMO 15 wS), by decide +kernel⟩⟩

/-! `Obligations.ResetsAndTheBoot` -/

theorem witness_ResetsAndTheBoot :
    (∃ (s : State), s.svc.fuse = none) ∧
    (∃ (s : State), s.svc.fuse = none ∧ s.pwr.halt = false) ∧
    (∃ (s : State), s.svc.fuse = none ∧ s.pwr.halt = false ∧ s.pwr.warm = none) ∧
    (∃ (s : State) (k : Nat), s.pwr.warm = some k) ∧
    (∃ (s : State) (e : BootEnv), s.pwr.halt = false ∧ s.pwr.warm = none ∧ s.fld Reg.SVC_BOOTSTAT F.SVC_BOOTSTAT_PHASE = 0 ∧ (∀ k ∈ bootOrder (e.src % 4), s.imageCode (k == 2) (bootAt e k) ≠ 1)) ∧
    (∃ (s : State) (e : BootEnv), s.pwr.halt = false ∧ s.pwr.warm = none ∧ s.fld Reg.SVC_BOOTSTAT F.SVC_BOOTSTAT_PHASE = 0 ∧ ∃ k r i, bootOrder (e.src % 4) = k :: r ∧ bootAt e k = some i ∧ s.imageCode (k == 2) (some i) = 1 ∧ e.failing = []) ∧
    (∃ (s : State) (e : BootEnv), s.pwr.halt = false ∧ s.pwr.warm = none ∧ s.fld Reg.SVC_BOOTSTAT F.SVC_BOOTSTAT_PHASE = 0 ∧ ∃ k r i u f, bootOrder (e.src % 4) = k :: r ∧ bootAt e k = some i ∧ s.imageCode (k == 2) (some i) = 1 ∧ (u, f) ∈ e.failing ∧ stopsBoot u = true) :=
  ⟨⟨(wF Reg.CHIP_TTNOW ⟨0, 64⟩ 5 wL), by decide +kernel⟩,
    ⟨(wF (Reg.MC_TRAIN 0) F.MC_TRAIN_SAVEDV 1 wL), by decide +kernel, by decide +kernel⟩,
    ⟨wL, by decide +kernel, by decide +kernel, by decide +kernel⟩,
    ⟨(wPwr { warm := some 3 } { wMc mcReady with mem := [(0x7000_1000_0200, 9)] }), 3, by decide +kernel⟩,
    ⟨wS, { src := 3, vout := 850, uart := some { wImg with sigOk := false } }, by decide +kernel, by decide +kernel, by decide +kernel, by decide +kernel⟩,
    ⟨State.reset, { src := 3, vout := 850, uart := some wImg }, by decide +kernel, by decide +kernel, by decide +kernel, 2, [], wImg, by decide +kernel, by decide +kernel, by decide +kernel, by decide +kernel⟩,
    ⟨State.reset, { src := 1, vout := 850, b := some wImg, failing := [(unitCore 0, 3)] }, by decide +kernel, by decide +kernel, by decide +kernel, 1, [0], wImg, (unitCore 0), 3, by decide +kernel, by decide +kernel, by decide +kernel, by decide +kernel, by decide +kernel⟩⟩

/-! `Obligations.WatchdogAndCoreResets` -/

theorem witness_WatchdogAndCoreResets :
    (∃ (s : State), let c := Reg.SVC_WDCTL; s.flag c F.SVC_WDCTL_EN = false ∧ s.pwr.warm = none) ∧
    (∃ (s : State), let c := Reg.SVC_WDCTL; s.flag c F.SVC_WDCTL_EN = true) ∧
    (∃ (s : State), ∃ v, getF v ⟨0, 8⟩ = 0xA5 ∧ s.svc.kick = false) ∧
    (∃ (s : State), let a := Reg.SVC_WDSTAT; ∃ v, getF v ⟨0, 8⟩ = 0x5A ∧ s.svc.kick = true ∧ s.fld a F.SVC_WDSTAT_STAGE < 2) ∧
    (∃ (s : State), ∃ v, getF v ⟨0, 8⟩ ≠ 0xA5 ∧ s.svc.kick = false) ∧
    (∃ (s : State), let c := Reg.SVC_WDCTL; let a := Reg.SVC_WDSTAT; s.flag c F.SVC_WDCTL_EN = true ∧ s.wdPaused = false ∧ s.fld a F.SVC_WDSTAT_STAGE = 0) ∧
    (∃ (s : State), let c := Reg.SVC_WDCTL; let a := Reg.SVC_WDSTAT; s.flag c F.SVC_WDCTL_EN = true ∧ s.wdPaused = false ∧ s.fld a F.SVC_WDSTAT_STAGE = 1 ∧ s.fld c F.SVC_WDCTL_ACTION = 0) ∧
    (∃ (s : State), let c := Reg.SVC_WDCTL; let a := Reg.SVC_WDSTAT; s.flag c F.SVC_WDCTL_EN = true ∧ s.wdPaused = false ∧ s.fld a F.SVC_WDSTAT_STAGE = 1 ∧ s.fld c F.SVC_WDCTL_ACTION = 1) ∧
    (∃ (s : State), let c := Reg.SVC_WDCTL; let a := Reg.SVC_WDSTAT; s.flag c F.SVC_WDCTL_EN = true ∧ s.wdPaused = false ∧ s.fld a F.SVC_WDSTAT_STAGE = 1 ∧ 2 ≤ s.fld c F.SVC_WDCTL_ACTION) ∧
    (∃ (s : State) (n : Nat), s.hasCore n = true ∧ let a := Reg.SVC_CORECTL n; s.domRun n = true ∧ s.flag a F.SVC_CORECTL_RESET = false ∧ s.activePair n = false) ∧
    (∃ (s : State) (n : Nat), s.hasCore n = true ∧ let a := Reg.SVC_CORECTL n; s.domRun n = true ∧ s.flag a F.SVC_CORECTL_RESET = false ∧ s.activePair n = true) ∧
    (∃ (s : State) (n : Nat), s.hasCore n = true ∧ s.domRun n = true ∧ (s.core n).run = .held) ∧
    (∃ (s : State) (n : Nat), s.hasCore n = true ∧ s.domRun n = true ∧ (s.core n).run ≠ .held) ∧
    (∃ (s : State) (n : Nat), s.hasCore n = true ∧ (s.core n).run = .resetting ∧ s.epState (epCore n) = epFenced ∧ (s.core n).entry = none ∧ (s.core n).switch = none ∧ (s.core n).pairCopy = none) :=
  ⟨⟨wS, by decide +kernel, by decide +kernel⟩,
    ⟨(wF Reg.SVC_WDCTL F.SVC_WDCTL_EN 1 wS), by decide +kernel⟩,
    ⟨wS, 0xA5, by decide +kernel, by decide +kernel⟩,
    ⟨(wF Reg.SVC_WDSTAT F.SVC_WDSTAT_STAGE 1 { wS with svc := { kick := true } }), 0x5A, by decide +kernel, by decide +kernel, by decide +kernel⟩,
    ⟨wS, 0x5A, by decide +kernel, by decide +kernel⟩,
    ⟨(wF Reg.SVC_WDCTL F.SVC_WDCTL_SUBF 1 (wF Reg.SVC_WDCTL F.SVC_WDCTL_EN 1 wS)), by decide +kernel, by decide +kernel, by decide +kernel⟩,
    ⟨(wF Reg.SVC_WDCTL F.SVC_WDCTL_ACTION 0 <| wF Reg.SVC_WDSTAT F.SVC_WDSTAT_STAGE 1 (wF Reg.SVC_WDCTL F.SVC_WDCTL_EN 1 wS)), by decide +kernel, by decide +kernel, by decide +kernel, by decide +kernel⟩,
    ⟨(wF Reg.SVC_WDCTL F.SVC_WDCTL_ACTION 1 (wF Reg.SVC_WDSTAT F.SVC_WDSTAT_STAGE 1 (wF Reg.SVC_WDCTL F.SVC_WDCTL_EN 1 wS))), by decide +kernel, by decide +kernel, by decide +kernel, by decide +kernel⟩,
    ⟨(wF Reg.SVC_WDCTL F.SVC_WDCTL_ACTION 3 (wF Reg.SVC_WDSTAT F.SVC_WDSTAT_STAGE 1 (wF Reg.SVC_WDCTL F.SVC_WDCTL_EN 1 wS))), by decide +kernel, by decide +kernel, by decide +kernel, by decide +kernel⟩,
    ⟨(wDom 0 2 wS), 0, by decide +kernel, by decide +kernel, by decide +kernel, by decide +kernel⟩,
    ⟨(wDom 0 2 (wCores [(0, wC.setCsr C.pairctl 2)])), 0, by decide +kernel, by decide +kernel, by decide +kernel, by decide +kernel⟩,
    ⟨(wF (Reg.SVC_COREPC 0) ⟨0, 64⟩ 0x1003 (wDom 0 2 (wCores [(0, {})]))), 0, by decide +kernel, by decide +kernel, by decide +kernel⟩,
    ⟨(wDom 0 2 wS), 0, by decide +kernel, by decide +kernel, by decide +kernel⟩,
    ⟨(wDom 0 2 (wF (epctl (epCore 0)) F.RTR_EPCTL_STATE 3 (wCores [(0, { wC with run := .resetting })]))), 0, by decide +kernel, by decide +kernel, by decide +kernel, by decide +kernel, by decide +kernel, by decide +kernel⟩⟩

/-! `Obligations.FlashFusesHeatMarksAndChallenges` -/

theorem witness_FlashAndFuseCommands :
    (∃ (s : State) (v : Word), let c := Reg.SVC_FLCMD; ∃ i op, ((i = Instr.flashCopy v ∧ op = 0) ∨ (i = Instr.flashProgram v ∧ op = 1) ∨ (i = Instr.flashErase v ∧ op = 2)) ∧ s.flag c F.SVC_FLCMD_GO = false ∧ s.reg Reg.SVC_FLLEN ≠ 0) ∧
    (∃ (s : State) (v : Word), let c := Reg.SVC_FLCMD; ∃ i op, ((i = Instr.flashCopy v ∧ op = 0) ∨ (i = Instr.flashProgram v ∧ op = 1) ∨ (i = Instr.flashErase v ∧ op = 2)) ∧ s.flag c F.SVC_FLCMD_GO = true) ∧
    (∃ (s : State), let c := Reg.SVC_FLCMD; s.flag c F.SVC_FLCMD_GO = true ∧ let off := s.fld Reg.SVC_FLSRC F.SVC_FLSRC_OFF; let len := (s.reg Reg.SVC_FLLEN).toNat; ∃ size, size < off + len) ∧
    (∃ (s : State), let c := Reg.SVC_FLCMD; s.flag c F.SVC_FLCMD_GO = true ∧ let off := s.fld Reg.SVC_FLSRC F.SVC_FLSRC_OFF; let len := (s.reg Reg.SVC_FLLEN).toNat; let a := (s.reg Reg.SVC_FLMEM).toNat; ∃ size, ∃ (data : List Byte), s.fld c F.SVC_FLCMD_OP = 0 ∧ off + len ≤ size ∧ len ≤ data.length ∧ s.engOk svcRouter 0 a len = true ∧ (∃ k, regionOf a = .coreCast k ∨ regionOf a = .sharedCast k)) ∧
    (∃ (s : State), let c := Reg.SVC_FLCMD; s.flag c F.SVC_FLCMD_GO = true ∧ let off := s.fld Reg.SVC_FLSRC F.SVC_FLSRC_OFF; let len := (s.reg Reg.SVC_FLLEN).toNat; ∃ size, s.fld c F.SVC_FLCMD_OP = 2 ∧ off + len ≤ size ∧ off % 0x1_0000 = 0 ∧ len % 0x1_0000 = 0) ∧
    (∃ (s : State) (v : Word), let slot := getF v F.SVC_FUSECMD_SLOT; ∃ i op, s.svc.fuse = none ∧ ((i = Instr.fuseProgramSlot v ∧ op = 1) ∨ (i = Instr.fuseRevokeSlot v ∧ op = 2) ∨ (i = Instr.fuseSetSvn v ∧ op = 3)) ∧ s.fuseRefusal op slot = none) ∧
    (∃ (s : State) (v : Word), let slot := getF v F.SVC_FUSECMD_SLOT; ∃ i op, s.svc.fuse = none ∧ ((i = Instr.fuseProgramSlot v ∧ op = 1) ∨ (i = Instr.fuseRevokeSlot v ∧ op = 2) ∨ (i = Instr.fuseSetSvn v ∧ op = 3)) ∧ ∃ k, s.fuseRefusal op slot = some k) ∧
    (∃ (s : State), ∃ op sl data, s.svc.fuse = some (op, sl, data)) :=
  ⟨⟨(wF Reg.SVC_FLLEN ⟨0, 64⟩ 8 wS), 0, (.flashErase 0), 2, by decide +kernel, by decide +kernel, by decide +kernel⟩,
    ⟨(wFl 1 8), 0, (.flashErase 0), 2, by decide +kernel, by decide +kernel⟩,
    ⟨(wFl 0 8), by decide +kernel, 7, by decide +kernel⟩,
    ⟨(wFl 0 8), by decide +kernel, 8, [1, 2, 3, 4, 5, 6, 7, 8], by decide +kernel, by decide +kernel, by decide +kernel, by decide +kernel, ⟨_, Or.inl (by decide +kernel : regionOf _ = .coreCast 0)⟩⟩,
    ⟨(wFl 2 0x10000), by decide +kernel, 0x10000, by decide +kernel, by decide +kernel, by decide +kernel, by decide +kernel⟩,
    ⟨wKeys, 0, (.fuseSetSvn 0), 3, by decide +kernel, by decide +kernel, by decide +kernel⟩,
    ⟨{ wS with fuse := { wS.fuse with svn := ones 64 } }, 0, (.fuseSetSvn 0), 3, by decide +kernel, by decide +kernel, 3, by decide +kernel⟩,
    ⟨{ wKeys with svc := { fuse := some (3, 0, []) } }, 3, 0, [], by decide +kernel⟩⟩

theorem witness_HeatMarksAndChallenges :
    (∃ (s : State) (v : Word) (c : HmCmd) (i : Instr), let area := getF v F.ID_HMCMD_AREA; let off := getF v F.ID_HMCMD_OFFSET; let len := getF v F.ID_HMCMD_LEN; ((i = Instr.heatMarkRead v [] ∧ c = { smb := false, area := area, off := off, data := none, len := len, ue := [] }) ∨ (i = Instr.heatMarkWrite v ∧ c = { smb := false, area := area, off := off, data := some (s.hmData.take len), len := len, ue := [] })) ∧ ∃ k, s.markRefusal c = some k) ∧
    (∃ (s : State) (v : Word) (c : HmCmd) (i : Instr), let area := getF v F.ID_HMCMD_AREA; let off := getF v F.ID_HMCMD_OFFSET; let len := getF v F.ID_HMCMD_LEN; ((i = Instr.heatMarkRead v [] ∧ c = { smb := false, area := area, off := off, data := none, len := len, ue := [] }) ∨ (i = Instr.heatMarkWrite v ∧ c = { smb := false, area := area, off := off, data := some (s.hmData.take len), len := len, ue := [] })) ∧ s.markRefusal c = none ∧ s.markWaits c = false) ∧
    (∃ (s : State) (area off len : Nat), let rd : HmCmd := { smb := true, area := area, off := off, data := none, len := len, ue := [] }; s.markRefusal rd = none ∧ s.markWaits rd = false) ∧
    (∃ (s : State) (area off len : Nat), let wr (d : List Byte) : HmCmd := { smb := true, area := area, off := off, data := some (d.take len), len := len, ue := [] }; ∃ d, s.markRefusal (wr d) = none ∧ s.markWaits (wr d) = false ∧ d.length = len ∧ s.areaPresent area = true) ∧
    (∃ (s : State) (area off len : Nat), let rd : HmCmd := { smb := true, area := area, off := off, data := none, len := len, ue := [] }; ∃ k, s.markRefusal rd = some k) ∧
    (∃ (s : State), s.ident.chal = none) ∧
    (∃ (s : State), s.ident.chal = none ∧ ∃ (nonce : List Byte), nonce.length = 48) ∧
    (∃ (s : State), ∃ m, s.ident.chal = some m) ∧
    (∃ len, len ≤ 240) :=
  ⟨⟨(wF Reg.ID_HMCTL F.ID_HMCTL_LOCK 1 wS), (setF 5 F.ID_HMCMD_LEN 4), { smb := false, area := 5, off := 0, data := some [0, 0, 0, 0], len := 4, ue := [] }, (.heatMarkWrite (setF 5 F.ID_HMCMD_LEN 4)), by decide +kernel, 4, by decide +kernel⟩,
    ⟨(wF (Reg.ID_HMDATA 0) ⟨0, 64⟩ 0x1122 wS), (setF (setF 0xD5 F.ID_HMCMD_OFFSET 60) F.ID_HMCMD_LEN 4), { smb := false, area := 0xD5, off := 60, data := some [0x22, 0x11, 0, 0], len := 4, ue := [] }, (.heatMarkWrite (setF (setF 0xD5 F.ID_HMCMD_OFFSET 60) F.ID_HMCMD_LEN 4)), by decide +kernel, by decide +kernel, by decide +kernel⟩,
    ⟨{ wS with ident := { marks := [(64 * 5 + 15, 7)] } }, 5, 0, 16, by decide +kernel, by decide +kernel⟩,
    ⟨wS, 5, 12, 4, [1, 2, 3, 4], by decide +kernel, by decide +kernel, by decide +kernel, by decide +kernel⟩,
    ⟨wS, 5, 13, 4, 2, by decide +kernel⟩,
    ⟨wS, by decide +kernel⟩,
    ⟨wS, by decide +kernel, (List.replicate 48 7), by decide +kernel⟩,
    ⟨{ wS with ident := { chal := some (List.replicate 120 7) } }, (List.replicate 120 7), by decide +kernel⟩,
    ⟨240, by decide +kernel⟩⟩

/-! `Obligations.PortsContainmentAndContexts` -/

theorem witness_PortsContainmentAndContexts :
    (∃ (s : State) (p : Nat), s.isRoot p = false) ∧
    (∃ (s : State) (p : Nat) (v : Word), s.isRoot p = true ∧ getF v F.HIF_PCTL_RELEASE = 0) ∧
    (∃ (s : State) (p : Nat), s.isRoot p = true ∧ (∀ n, s.hasCore n = true → ∀ w ∈ (s.core n).loads, regionOf w.pa ≠ .pcie)) ∧
    (∃ (s : State) (p : Nat), let idle := ∀ n, s.hasCore n = true → s.portLoads n p = []; s.isRoot p = true ∧ ¬ idle) ∧
    (∃ (s : State) (p : Nat), let c := Reg.HIF_PCTL p; let a := Reg.HIF_PSTAT p; s.isRoot p = true ∧ ∃ w, s.flag a F.HIF_PSTAT_DLUP = false ∧ s.flag c F.HIF_PCTL_ENABLE = true ∧ w < 32) ∧
    (∃ (s : State) (p : Nat), let c := Reg.HIF_PCTL p; let a := Reg.HIF_PSTAT p; s.isRoot p = true ∧ s.flag a F.HIF_PSTAT_DLUP = false ∧ s.flag c F.HIF_PCTL_ENABLE = false) ∧
    (∃ (s : State) (p : Nat), let c := Reg.HIF_PCTL p; let a := Reg.HIF_PSTAT p; s.isRoot p = true ∧ s.flag a F.HIF_PSTAT_DLUP = true ∧ s.flag c F.HIF_PCTL_CONTAINEN = true ∧ s.flag a F.HIF_PSTAT_CONTAINED = false) ∧
    (∃ (s : State) (p : Nat), s.isRoot p = true ∧ ∃ bit, bit < 32) ∧
    (∃ (s : State) (p : Nat), s.isRoot p = true ∧ ∃ bit, bit < 32) ∧
    (∃ (s : State), let barred := s.flag Reg.HIF_BIFCFG F.HIF_BIFCFG_LOCK || (List.range 8).any (fun p => s.flag (Reg.HIF_PCTL p) F.HIF_PCTL_ENABLE); barred = true) ∧
    (∃ (s : State), let barred := s.flag Reg.HIF_BIFCFG F.HIF_BIFCFG_LOCK || (List.range 8).any (fun p => s.flag (Reg.HIF_PCTL p) F.HIF_PCTL_ENABLE); barred = false) ∧
    (∃ (s : State) (off width : Nat) (reply : CfgReply), ecamOff off = true ∧ ∃ v, s.cfgRead off width reply = some v) ∧
    (∃ (s : State) (off : Nat), ecamOff off = true ∧ ¬(ecamBus off = 0 ∧ ecamFn off = 0 ∧ ecamDev off < 8 ∧ s.isRoot (ecamDev off) = true)) ∧
    (∃ (s : State) (off : Nat), ecamOff off = true ∧ ecamBus off = 0 ∧ ecamFn off = 0 ∧ ecamDev off < 8 ∧ s.isRoot (ecamDev off) = true) ∧
    (∃ (s : State) (k : Nat) (v : Word), k < 256 ∧ let a := Reg.HIF_RQCFG k; let u := ((s.setFld a F.HIF_RQCFG_RIDFIRST (getF v F.HIF_RQCFG_RIDFIRST)).setFld a F.HIF_RQCFG_RIDLAST (getF v F.HIF_RQCFG_RIDLAST)).setFld a F.HIF_RQCFG_OWNER (getF v F.HIF_RQCFG_OWNER); s.rqEn k = false ∧ u.rqRefusal k = none) ∧
    (∃ (s : State) (k : Nat) (v : Word), k < 256 ∧ let a := Reg.HIF_RQCFG k; let u := ((s.setFld a F.HIF_RQCFG_RIDFIRST (getF v F.HIF_RQCFG_RIDFIRST)).setFld a F.HIF_RQCFG_RIDLAST (getF v F.HIF_RQCFG_RIDLAST)).setFld a F.HIF_RQCFG_OWNER (getF v F.HIF_RQCFG_OWNER); s.rqEn k = false ∧ ∃ c, u.rqRefusal k = some c) ∧
    (∃ (k : Nat), k < 256) :=
  ⟨⟨(wF Reg.HIF_BIFCFG F.HIF_BIFCFG_PAIR0 1 wS), 1, by decide +kernel⟩,
    ⟨wS, 7, (setF (setF 0 F.HIF_PCTL_ENABLE 1) F.HIF_PCTL_MAXRATE 3), by decide +kernel, by decide +kernel⟩,
    ⟨(wF (Reg.HIF_PSTAT 0) F.HIF_PSTAT_CONTAINED 1 (wPort {})), 0, by decide +kernel, fun _ _ _ hw => (nomatch (show _ ∈ ([] : List LdWait) from hw))⟩,
    ⟨(wF (Reg.HIF_PSTAT 0) F.HIF_PSTAT_CONTAINED 1 (wPort wPcie)), 0, by decide +kernel, fun h => absurd (h 0 (by decide +kernel)) (by decide +kernel)⟩,
    ⟨(wF (Reg.HIF_PCTL 0) F.HIF_PCTL_ENABLE 1 wS), 0, by decide +kernel, 16, by decide +kernel, by decide +kernel, by decide +kernel⟩,
    ⟨wS, 0, by decide +kernel, by decide +kernel, by decide +kernel⟩,
    ⟨(wF (Reg.HIF_PCTL 0) F.HIF_PCTL_CONTAINEN 1 (wPort wS)), 0, by decide +kernel, by decide +kernel, by decide +kernel, by decide +kernel⟩,
    ⟨(wF (Reg.HIF_PCTL 0) F.HIF_PCTL_CONTAINEN 1 (wF (hdrAt 0 0x10C) ⟨32, 32⟩ 0x8000_0000 (wPort wS))), 0, by decide +kernel, 31, by decide +kernel⟩,
    ⟨(wPort wS), 0, by decide +kernel, 31, by decide +kernel⟩,
    ⟨(wPort wS), by decide +kernel⟩,
    ⟨wS, by decide +kernel⟩,
    ⟨wS, (ecamBase + 0xFFF_F000), 8, (.ok 5), by decide +kernel, (ones 64), by decide +kernel⟩,
    ⟨wS, (ecamBase + 0x10_0000), by decide +kernel, by decide +kernel⟩,
    ⟨wS, (ecamBase + 4), by decide +kernel, by decide +kernel, by decide +kernel, by decide +kernel, by decide +kernel⟩,
    ⟨(wF (Reg.HIF_RQCFG 0) F.HIF_RQCFG_EN 0 (wPort wS)), 0, (setF (setF 0 F.HIF_RQCFG_RIDFIRST 5) F.HIF_RQCFG_RIDLAST 9), by decide +kernel, by decide +kernel, by decide +kernel⟩,
    ⟨wS, 255, (setF 0 F.HIF_RQCFG_RIDFIRST 5), by decide +kernel, by decide +kernel, 1, by decide +kernel⟩,
    ⟨0, by decide +kernel⟩⟩

/-! `Obligations.InboundAndOutboundRequests` -/

theorem witness_InboundAndOutboundRequests :
    (∃ (s : State) (p : Nat), s.takesIn p = true ∧ let cont := s.flag (Reg.HIF_PSTAT p) F.HIF_PSTAT_CONTAINED; cont = true) ∧
    (∃ (s : State) (p rid : Nat), s.takesIn p = true ∧ let cont := s.flag (Reg.HIF_PSTAT p) F.HIF_PSTAT_CONTAINED; cont = false ∧ ∃ a n k pa, s.rqXlate rid a n = .ok (k, pa) ∧ s.engOk hifRouter (s.rqOwner k) pa n = true) ∧
    (∃ (s : State) (p rid : Nat), s.takesIn p = true ∧ let cont := s.flag (Reg.HIF_PSTAT p) F.HIF_PSTAT_CONTAINED; cont = false ∧ ∃ a, ∃ (bs : List Byte), ∃ k pa, inMsgRange a = false ∧ s.rqXlate rid a bs.length = .ok (k, pa) ∧ s.engOk hifRouter (s.rqOwner k) pa bs.length = true) ∧
    (∃ (s : State) (p rid : Nat), s.takesIn p = true ∧ let cont := s.flag (Reg.HIF_PSTAT p) F.HIF_PSTAT_CONTAINED; cont = false ∧ ∃ a n c, s.rqXlate rid a n = .error c ∧ rid < 2 ^ 16 ∧ s.flag Reg.HIF_FAULTSTAT F.HIF_FAULTSTAT_VALID = false) ∧
    (∃ (s : State) (p : Nat), s.takesIn p = true ∧ let cont := s.flag (Reg.HIF_PSTAT p) F.HIF_PSTAT_CONTAINED; cont = false) ∧
    (∃ (s : State) (p : Nat), s.takesIn p = true ∧ let cont := s.flag (Reg.HIF_PSTAT p) F.HIF_PSTAT_CONTAINED; cont = false) ∧
    (∃ (s : State) (p rid : Nat), s.takesIn p = true ∧ let cont := s.flag (Reg.HIF_PSTAT p) F.HIF_PSTAT_CONTAINED; cont = false ∧ ∃ a, ∃ (bs : List Byte), inMsgRange a = true ∧ let d := leWord bs; let m := s.reg (Reg.HIF_MSIMAP d); let good := bs.length = 4 ∧ a % 4 = 0 ∧ d < 4096 ∧ getF m F.HIF_MSIMAP_EN = 1 ∧ getF m F.HIF_MSIMAP_RID = rid; good ∧ s.hif.queue = [] ∧ s.dist.workOff = false ∧ isReservedSrc (4096 + d) = false ∧ 2 ≤ s.sense (4096 + d)) ∧
    (∃ (s : State) (p rid : Nat), s.takesIn p = true ∧ let cont := s.flag (Reg.HIF_PSTAT p) F.HIF_PSTAT_CONTAINED; cont = false ∧ ∃ a, ∃ (bs : List Byte), inMsgRange a = true ∧ let d := leWord bs; let m := s.reg (Reg.HIF_MSIMAP d); let good := bs.length = 4 ∧ a % 4 = 0 ∧ d < 4096 ∧ getF m F.HIF_MSIMAP_EN = 1 ∧ getF m F.HIF_MSIMAP_RID = rid; ¬ good) ∧
    (∃ (s : State) (p rid k gpa pa : Nat), (∃ c, regionOf pa = .coreCast c ∨ regionOf pa = .sharedCast c) ∧ ∃ n, s.hif.queue = [.read p rid k gpa pa n] ∧ s.engAnswers hifRouter pa n = true) ∧
    (∃ (s : State) (p rid k gpa pa : Nat), (∃ c, regionOf pa = .coreCast c ∨ regionOf pa = .sharedCast c) ∧ ∃ (bs : List Byte), ∃ ep, s.hif.queue = [.write p rid k gpa pa bs ep] ∧ s.engAnswers hifRouter pa bs.length = true ∧ s.logging (s.rqOwner k) = false) ∧
    (∃ (s : State) (n idx p : Nat) (w : LdWait), s.portLoad n idx = some (w, p) ∧ (s.core n).isSlack = false ∧ w.width2 = 0 ∧ regionOf w.pa = .pcie ∧ w.lr = false ∧ w.twp = false) ∧
    (∃ (s : State) (n idx p : Nat) (w : LdWait), s.portLoad n idx = some (w, p) ∧ (s.core n).isSlack = false ∧ w.width2 = 0 ∧ ∃ i f, ((regionOf w.pa = .pcie ∧ (i = Instr.completionReceive n idx .ur ∨ i = Instr.completionReceive n idx .ca) ∧ f = F.HIF_PCNT_URCA) ∨ (i = Instr.completionTimeout n idx ∧ f = F.HIF_PCNT_CTO))) :=
  ⟨⟨(wF (Reg.HIF_PSTAT 0) F.HIF_PSTAT_CONTAINED 1 (wPort wS)), 0, by decide +kernel, by decide +kernel⟩,
    ⟨(wPort wS), 0, 0x100, by decide +kernel, by decide +kernel, 0x1FFFF, 1, 0, 0x7000_1000_FFFF, rfl, by decide +kernel⟩,
    ⟨(wPort wS), 0, 0x100, by decide +kernel, by decide +kernel, 0x10200, [1, 2], 0, 0x7000_1000_0200, by decide +kernel, rfl, by decide +kernel⟩,
    ⟨(wPort wS), 0, 0x101, by decide +kernel, by decide +kernel, 0x10000, 2, 1, rfl, by decide +kernel, by decide +kernel⟩,
    ⟨(wPort wS), 0, by decide +kernel, by decide +kernel⟩,
    ⟨(wPort wS), 0, by decide +kernel, by decide +kernel⟩,
    ⟨(wF (Reg.HIF_MSIMAP 4095) F.HIF_MSIMAP_EN 1 (wF (Reg.HIF_MSIMAP 4095) F.HIF_MSIMAP_RID 0x100 (wPort wS))), 0, 0x100, by decide +kernel, by decide +kernel, (msgBase + 0xFFC), [0xFF, 0xF, 0, 0], by decide +kernel, by decide +kernel, by decide +kernel, by decide +kernel, by decide +kernel, by decide +kernel⟩,
    ⟨(wPort wS), 0, 0x100, by decide +kernel, by decide +kernel, msgBase, [0xFF, 0xF, 0, 0], by decide +kernel, by decide +kernel⟩,
    ⟨{ wPort wL with hif := { queue := [.read 0 0x100 0 0x10200 0x7000_1000_0200 8] } }, 0, 0x100, 0, 0x10200, 0x7000_1000_0200, ⟨_, Or.inl (by decide +kernel : regionOf _ = .coreCast 0)⟩, 8, by decide +kernel, by decide +kernel⟩,
    ⟨{ wPort wL with hif := { queue := [.write 0 0x100 0 0x10200 0x7000_1000_0200 [1, 2, 3] false] } }, 0, 0x100, 0, 0x10200, 0x7000_1000_0200, ⟨_, Or.inl (by decide +kernel : regionOf _ = .coreCast 0)⟩, [1, 2, 3], false, by decide +kernel, by decide +kernel, by decide +kernel⟩,
    ⟨(wPort wPcie), 0, 0, 0, wLd4, by decide +kernel, by decide +kernel, by decide +kernel, by decide +kernel, by decide +kernel, by decide +kernel⟩,
    ⟨(wPort wPcie), 0, 0, 0, wLd4, by decide +kernel, by decide +kernel, by decide +kernel, (.completionTimeout 0 0), F.HIF_PCNT_CTO, by decide +kernel⟩⟩

/-! `Obligations.TheResetState` -/

theorem witness_TheResetState :
    (∃ e, e < 2) ∧
    (∃ m, m < 12) ∧
    (∃ p, p < 8) ∧
    (∃ d, d < 225) :=
  ⟨⟨1, by decide +kernel⟩,
    ⟨11, by decide +kernel⟩,
    ⟨7, by decide +kernel⟩,
    ⟨200, by decide +kernel⟩⟩

/-! `Obligations.CoreResetsAreRefusedOrTaken` -/

theorem witness_CoreResetsAreRefusedOrTaken :
    (∃ (s : State) (n : Nat) (v : Word), s.hasCore n = true ∧ let a := Reg.SVC_CORECTL n; s.flag a F.SVC_CORECTL_RESET = true ∧ getF v F.SVC_CORECTL_REJ = 0) ∧
    (∃ (s : State) (n : Nat), s.hasCore n = true ∧ let a := Reg.SVC_CORECTL n; s.flag a F.SVC_CORECTL_RESET = false ∧ s.domState n ≠ domRunning) ∧
    (∃ (s : State) (n : Nat), s.hasCore n = true ∧ let a := Reg.SVC_CORECTL n; let active := (s.core n).csrBit C.pairctl 1 = true ∧ (s.core n).run ≠ .pairHalt; s.flag a F.SVC_CORECTL_RESET = false ∧ s.domState n = domRunning ∧ active) ∧
    (∃ (s : State) (n : Nat), s.hasCore n = true ∧ let a := Reg.SVC_CORECTL n; let active := (s.core n).csrBit C.pairctl 1 = true ∧ (s.core n).run ≠ .pairHalt; s.flag a F.SVC_CORECTL_RESET = false ∧ s.domState n = domRunning ∧ ¬ active) :=
  ⟨⟨(wF (Reg.SVC_CORECTL 0) F.SVC_CORECTL_RESET 1 wS), 0, 0, by decide +kernel, by decide +kernel, by decide +kernel⟩,
    ⟨(wDom 127 0 wS), 127, by decide +kernel, by decide +kernel, by decide +kernel⟩,
    ⟨(wDom 0 2 (wCores [(0, wC.setCsr C.pairctl 2)])), 0, by decide +kernel, by decide +kernel, by decide +kernel, by decide +kernel⟩,
    ⟨(wDom 127 2 wS), 127, by decide +kernel, by decide +kernel, by decide +kernel, by decide +kernel⟩⟩

/-! `Obligations.TheHeatMarkLockStopsWritesOnly` -/

theorem witness_TheHeatMarkLockStopsWritesOnly :
    (∃ s : State, let a := Reg.ID_HMCTL; ∃ width, s.ctlReached a width = true) ∧
    (∃ s : State, s.pwr.halt = false) ∧
    (∃ s : State, s.pwr.warm ≠ none) ∧
    (∃ s : State, s.flag Reg.SVC_WDCTL F.SVC_WDCTL_EN = true ∧ s.wdPaused = false ∧ s.fld Reg.SVC_WDSTAT F.SVC_WDSTAT_STAGE = 1 ∧ 2 ≤ s.fld Reg.SVC_WDCTL F.SVC_WDCTL_ACTION) ∧
    (∃ s : State, let a := Reg.ID_HMCTL; let lock := F.ID_HMCTL_LOCK; s.flag a lock = true) ∧
    (∃ s : State, let a := Reg.ID_HMCTL; let lock := F.ID_HMCTL_LOCK; s.flag a lock = true) :=
  ⟨⟨(wF Reg.ID_HMCTL F.ID_HMCTL_LOCK 1 wS), 4, by decide +kernel⟩,
    ⟨(wF Reg.ID_HMCTL F.ID_HMCTL_LOCK 1 wS), by decide +kernel⟩,
    ⟨(wF Reg.ID_HMCTL F.ID_HMCTL_LOCK 1 (wPwr { warm := some 3 } wS)), by decide +kernel⟩,
    ⟨(wF Reg.ID_HMCTL F.ID_HMCTL_LOCK 1 (wF Reg.SVC_WDCTL F.SVC_WDCTL_ACTION 2 (wF Reg.SVC_WDSTAT F.SVC_WDSTAT_STAGE 1 (wF Reg.SVC_WDCTL F.SVC_WDCTL_EN 1 wS)))), by decide +kernel, by decide +kernel, by decide +kernel, by decide +kernel⟩,
    ⟨(wF Reg.ID_HMCTL F.ID_HMCTL_LOCK 1 wS), by decide +kernel⟩,
    ⟨(wF Reg.ID_HMCTL F.ID_HMCTL_LOCK 1 wS), by decide +kernel⟩⟩

/-! `Obligations.StepRunsTheFrontCommand`, `CommandsAreServedInOrder`, `EveryStepKeepsTheCanonicalForm`, `CommandsChangeOnlyTheirParts`, `FusesAreOnlyEverSet` -/

theorem witness_StepRunsTheFrontCommand : ∃ (s : State) (c : Instr) (rest : List Instr), s.pending = c :: rest :=
  ⟨{ wS with pending := [.storeDrain 0, .alarm] }, .storeDrain 0, [.alarm], rfl⟩
theorem witness_CommandsAreServedInOrder :
    (∃ s t : State, step s = .next t ∧ s.QueueOk ∧ s.pending ≠ []) ∧ (∃ s : State, s.pending = []) :=
  ⟨⟨wS.withFront .heatMarkLock, _, rfl, by unfold State.QueueOk; decide +kernel, by decide +kernel⟩, ⟨State.reset, rfl⟩⟩
theorem witness_EveryStepKeepsTheCanonicalForm : ∃ s t : State, s.Canonical ∧ step s = .next t :=
  ⟨{ wL with pending := [.heatMarkLock] }, _, ⟨by decide +kernel, by decide +kernel⟩, rfl⟩
theorem witness_CommandsChangeOnlyTheirParts : ∃ (i : Instr) (s t : State), exec i s = .next t := ⟨.heatMarkLock, wS, _, rfl⟩
theorem witness_FusesAreOnlyEverSet : ∃ s t : State, step s = .next t := ⟨wKeys.withFront .heatMarkLock, _, rfl⟩

end Sys2Proof.Tests
end

section
/-!
A CORE reset (R594, R595): when SVC_CORECTL refuses it, when it is ignored and what it starts. The reset ends in the ebb of the core's endpoint, which may write back the
caches of a drained core: that flush writes counters of the Tideway and of the slices, none of which is SVC_CORECTL, and of the core it changes the caches alone.
-/
namespace Sys2Proof.Machine

/-! ### The registers and the core that an ebb leaves alone -/

/-- The offsets above the SVC_CORECTL registers of the 128 cores (R613). -/
def aboveCorectl (a : Nat) : Prop := Reg.SVC_CORECTL 128 ≤ a

/-- The fields of a core that its flush changes: the reservation, the L1s, the L2, the eviction buffer and the outstanding requests. -/
def flushFields : Nat :=
  2 ^ CorePart.resv.idx + 2 ^ CorePart.l1i.idx + 2 ^ CorePart.l1d.idx + 2 ^ CorePart.l2.idx + 2 ^ CorePart.evb.idx + 2 ^ CorePart.req.idx

theorem aboveCorectl_bwcnt (r : Nat) : aboveCorectl (Reg.RTR_BWCNT r) := by
  simp only [aboveCorectl, Reg.SVC_CORECTL, Reg.RTR_BWCNT]; omega
theorem aboveCorectl_wbcnt (t : Nat) : aboveCorectl (Reg.SLC_WBCNT t) := by
  simp only [aboveCorectl, Reg.SVC_CORECTL, Reg.SLC_WBCNT]; omega
theorem aboveCorectl_epctl (k : Nat) : aboveCorectl (epctl k) := by
  simp only [aboveCorectl, Reg.SVC_CORECTL, epctl, Reg.RTR_EPCTL]; omega
theorem not_aboveCorectl {n : Nat} (h : n < 128) : ¬ aboveCorectl (Reg.SVC_CORECTL n) := by
  simp only [aboveCorectl, Reg.SVC_CORECTL]; omega

section
variable {n m w : Nat} {rs : Nat → Prop} {s t u : State}

/-- A function that changes neither cores nor registers. -/
theorem CN.keeps (h : CN n m rs s t) (hk : K gS w t u) (hr : w.testBit Part.regs.idx = false) (hc : w.testBit Part.cores.idx = false) :
    CN n m rs s u :=
  CN.sameCores (hk.keeps.same .cores hc) (hk.keeps.same .regs hr) h

theorem State.bwCount_cn (r : Nat) (b : Bool) (h : CN n m aboveCorectl s t) : CN n m aboveCorectl s (t.bwCount r b) :=
  h.setFld (aboveCorectl_bwcnt r)
theorem State.countWb_cn (k : Nat) (h : CN n m aboveCorectl s t) : CN n m aboveCorectl s (t.countWb k) :=
  h.setFld (aboveCorectl_wbcnt k)
theorem State.modSlice_cn (k : Nat) (f : Slice → Slice) (h : CN n m rs s t) : CN n m rs s (t.modSlice k f) :=
  h.keeps (State.modSlice_keeps t k f) rfl rfl

theorem State.dramWrite_cn (l : Nat) (d : Line) (p : Word) (h : CN n m aboveCorectl s t) : CN n m aboveCorectl s (t.dramWrite l d p) := by
  unfold State.dramWrite
  extract_lets one
  have hone : ∀ y k a, CN n m aboveCorectl s y → CN n m aboveCorectl s (one y k a) := fun y k a hy =>
    CN.ite (fun _ => hy.keeps (State.chanWrite_keeps y k a d p) rfl rfl) (fun _ => State.bwCount_cn _ _ hy)
  clear_value one
  split
  · exact h
  · split
    · split
      · exact hone _ _ _ h
      · exact hone _ _ _ (hone _ _ _ h)
    · exact hone _ _ _ h

theorem State.sliceDrop_cn (k l : Nat) (b : Bool) (h : CN n m aboveCorectl s t) : CN n m aboveCorectl s (t.sliceDrop k l b) := by
  unfold State.sliceDrop
  split
  · exact h
  · have h1 := State.modSlice_cn k (·.place l none) h
    exact CN.ite (fun _ => State.countWb_cn _ (State.dramWrite_cn _ _ _ h1)) (fun _ => h1)

theorem State.sliceFill_cn (k l p : Nat) (d : Line) (po : Word) (b : Bool) (h : CN n m aboveCorectl s t) :
    CN n m aboveCorectl s (t.sliceFill k l p d po b) := by
  unfold State.sliceFill
  split
  · exact State.modSlice_cn _ _ h
  · extract_lets ok used
    split
    · exact State.modSlice_cn _ _ h
    · split
      · exact State.modSlice_cn _ _ (State.sliceDrop_cn _ _ _ h.choose)
      · exact CN.ite (fun _ => State.countWb_cn _ (State.dramWrite_cn _ _ _ h)) (fun _ => h)

theorem State.flushLine_cn (c l : Nat) (v : L2Line) (h : CN n m aboveCorectl s t) : CN n m aboveCorectl s (t.flushLine c l v) := by
  unfold State.flushLine
  exact State.modSlice_cn _ _ (CN.ite (fun _ => State.sliceFill_cn _ _ _ _ _ _ h) (fun _ => h))

/-- The flush of core `n` changes its caches and the counters of the write-backs. -/
theorem State.flushCore_cn (h : CN n flushFields aboveCorectl s t) : CN n flushFields aboveCorectl s (t.flushCore n) := by
  unfold State.flushCore
  extract_lets c s1 s2
  have h1 : CN n flushFields aboveCorectl s s1 :=
    h.foldl fun y e hy => CN.ite (fun _ => hy) (fun _ => State.flushLine_cn _ _ _ hy)
  have h2 : CN n flushFields aboveCorectl s s2 := h1.foldl fun y e hy => by
    split
    · exact CN.ite (fun _ => hy) (fun _ => State.flushLine_cn _ _ _ hy)
    · exact hy
  refine h2.modCore (w := flushFields) (CK.of fun p hp => ?_) (Nat.and_self _)
  cases p with
  | resv | l1i | l1d | l2 | evb | req => exact absurd hp (by decide)
  | _ => rfl

end

/-! ### The ebb of a core's endpoint (R292) -/

theorem State.lt_of_hasCore {s : State} {n : Nat} (h : s.hasCore n = true) : n < 128 := by
  have h64 : n / 2 < 64 := by
    simp only [State.hasCore, State.hasTile, Bool.and_eq_true, decide_eq_true_eq] at h
    exact h.1
  omega

theorem epKind_epCore {n : Nat} (h : n < 128) : epKind (epCore n / 4) (epCore n % 4) = 1 := by
  have hr : epCore n / 4 = n / 2 + 8 := by simp only [epCore, coreRouter]; omega
  have he : epCore n % 4 = n % 2 := by simp only [epCore, coreRouter]; omega
  rw [hr, he, epKind, if_pos (by omega), if_pos (by omega)]

theorem unitOfEp_epCore {n : Nat} (h : n < 128) : unitOfEp (epCore n) = n := by
  have hk := epKind_epCore h
  rw [unitOfEp, hk]
  simp only [unitCore, epCore, coreRouter]
  omega

section
variable {n : Nat} {s t : State}

theorem State.ebbAdvance_cn (hn : n < 128) (h : CN n flushFields aboveCorectl s t) :
    CN n flushFields aboveCorectl s (t.ebbAdvance (epCore n)) := by
  have hflush : t.ebbFlush (epCore n) = t.flushCore n := by simp only [State.ebbFlush, epKind_epCore hn, unitOfEp_epCore hn]
  unfold State.ebbAdvance
  rw [hflush]
  exact CN.ite
    (fun _ => ((State.flushCore_cn h).keeps (State.setEp_keeps _ _ _) rfl rfl).keeps (State.broadcast_keeps _ _ _) rfl rfl)
    (fun _ => h)

/-- The ebb that core `n`'s reset starts leaves SVC_CORECTL alone, and of the cores changes the caches of core `n` at most. -/
theorem State.startEbb_cn (hn : n < 128) (h : CN n flushFields aboveCorectl s t) :
    CN n flushFields aboveCorectl s (t.startEbb (epCore n)) := by
  have hctl := aboveCorectl_epctl (epCore n)
  unfold State.startEbb
  refine CN.ite (fun _ => h) fun _ => CN.ite (fun _ => h.setFld hctl) fun _ => CN.ite (fun _ => h) fun _ => ?_
  extract_lets x s1 s2
  have h2 : s2 = s1 := if_neg (by rw [epKind_epCore hn]; decide)
  rw [h2]
  exact State.ebbAdvance_cn hn (((h.setFld hctl).setFld hctl).keeps (State.setEp_keeps _ _ _) rfl rfl)

end

/-! ### Clearing REJ by writing 1 -/

/-- A field of a word in which another field's bits were cleared. -/
theorem getF_clear_other (r w : Word) (f g : Fld) (h : f.lo + f.w ≤ g.lo ∨ g.lo + g.w ≤ f.lo) : getF (r &&& ~~~ (w &&& f.mask)) g = getF r g := by
  apply Nat.eq_of_testBit_eq
  intro i
  rw [testBit_getF, testBit_getF, BitVec.getLsbD_and, BitVec.getLsbD_not, BitVec.getLsbD_and, getLsbD_mask]
  by_cases hi : i < g.w
  · have hout : ¬ (f.lo ≤ g.lo + i ∧ g.lo + i < f.lo + f.w) := by omega
    by_cases h64 : g.lo + i < 64
    · grind
    · simp [BitVec.getLsbD_of_ge r (g.lo + i) (by omega)]
  · simp [hi]

/-- A word whose field is 0 clears nothing of that field. -/
theorem clear_of_getF_eq_zero (r w : Word) (f : Fld) (h : getF w f = 0) : r &&& ~~~ (w &&& f.mask) = r := by
  have hbit : w &&& f.mask = 0 := by
    apply BitVec.eq_of_getLsbD_eq
    intro i hi
    rw [BitVec.getLsbD_and, getLsbD_mask]
    by_cases hf : f.lo ≤ i ∧ i < f.lo + f.w
    · have hbit := testBit_getF w f (i - f.lo)
      rw [h, Nat.zero_testBit, Nat.add_sub_cancel' hf.1, decide_eq_true (by omega), Bool.true_and] at hbit
      simp [← hbit]
    · grind
  rw [hbit]
  exact BitVec.and_allOnes

/-- SVC_CORECTL of core `n` once the bits that `v` writes as 1 have cleared REJ. -/
def State.clearRej (s : State) (n : Nat) (v : Word) : State :=
  s.setReg (Reg.SVC_CORECTL n) (s.reg (Reg.SVC_CORECTL n) &&& ~~~ (v &&& F.SVC_CORECTL_REJ.mask))

section
variable (s : State) (n : Nat) (v : Word)

@[simp] theorem State.clearRej_core (k : Nat) : (s.clearRej n v).core k = s.core k := rfl
theorem State.clearRej_activePair (k : Nat) : (s.clearRej n v).activePair k = s.activePair k := rfl
theorem State.clearRej_reg_other {b : Nat} (h : b ≠ Reg.SVC_CORECTL n) : (s.clearRej n v).reg b = s.reg b := State.reg_setReg_other s _ h
theorem State.clearRej_keeps : K gS 4 s (s.clearRej n v) := State.setReg_keeps _ _ _

@[simp] theorem State.clearRej_flag_reset :
    (s.clearRej n v).flag (Reg.SVC_CORECTL n) F.SVC_CORECTL_RESET = s.flag (Reg.SVC_CORECTL n) F.SVC_CORECTL_RESET := by
  rw [State.flag, State.clearRej, State.reg_setReg_same, getF_clear_other _ _ _ _ (by decide), State.flag]

theorem State.clearRej_domState {n : Nat} (h : n < 128) (d : Nat) : (s.clearRej n v).domState d = s.domState d := by
  rw [State.domState, State.fld, State.clearRej_reg_other, State.domState, State.fld]
  simp only [Reg.PWR_DOM, Reg.SVC_CORECTL]
  omega

/-- A write with REJ = 0 leaves every register as it was. -/
theorem State.clearRej_reg_of_zero {v : Word} (h : getF v F.SVC_CORECTL_REJ = 0) (b : Nat) : (s.clearRej n v).reg b = s.reg b := by
  rw [State.clearRej, State.reg_setReg, clear_of_getF_eq_zero _ _ _ h]
  split
  · next e => rw [e]
  · rfl

end

/-! ### The write of RESET -/

/-- What CORE_RESET writes: RESET = 1 and RELEASE = 0. -/
def coreResetWord (v : Word) : Word := setF (setF v F.SVC_CORECTL_RESET 1) F.SVC_CORECTL_RELEASE 0

theorem getF_coreResetWord_rej (v : Word) : getF (coreResetWord v) F.SVC_CORECTL_REJ = getF v F.SVC_CORECTL_REJ := by
  rw [coreResetWord, getF_setF_other _ _ _ _ (by decide), getF_setF_other _ _ _ _ (by decide)]

/-- CORE_RESET of a present core clears REJ where the write asks for it and acts on RESET. -/
theorem exec_coreReset {s : State} {n : Nat} (h : s.hasCore n = true) (v : Word) :
    exec (.coreReset n v) s = .next ((s.clearRej n (coreResetWord v)).coreReset n) := by
  have hreset : getF (coreResetWord v) F.SVC_CORECTL_RESET = 1 := by
    rw [coreResetWord, getF_setF_other _ _ _ _ (by decide), getF_setF_same _ _ _ (by decide)]; rfl
  have hrelease : getF (coreResetWord v) F.SVC_CORECTL_RELEASE = 0 := by
    rw [coreResetWord, getF_setF_same _ _ _ (by decide)]; rfl
  show Host.Outcome.next (s.writeCorectl n (coreResetWord v)) = _
  simp [State.writeCorectl, State.clearRej, h, hreset, hrelease]

section
variable (s : State) {n : Nat}

theorem State.activePair_iff : s.activePair n = true ↔ (s.core n).csrBit C.pairctl 1 = true ∧ (s.core n).run ≠ .pairHalt := by
  simp [State.activePair, Core.paired]

theorem State.domRun_iff : s.domRun n = true ↔ s.domState n = domRunning := by
  simp [State.domRun, domRunning]

theorem State.coreReset_of_resetting (h : s.flag (Reg.SVC_CORECTL n) F.SVC_CORECTL_RESET = true) : s.coreReset n = s := by
  rw [State.coreReset, if_pos h]

theorem State.coreReset_of_not_run (h : s.flag (Reg.SVC_CORECTL n) F.SVC_CORECTL_RESET = false) (hd : s.domState n ≠ domRunning) :
    s.coreReset n = s.corectlRefuse n 1 := by
  have hd' : ¬ s.domRun n = true := mt s.domRun_iff.mp hd
  rw [State.coreReset, if_neg (by simp [h]), if_pos (by simp [hd'])]

theorem State.coreReset_of_activePair (h : s.flag (Reg.SVC_CORECTL n) F.SVC_CORECTL_RESET = false) (hd : s.domState n = domRunning)
    (hp : s.activePair n = true) : s.coreReset n = s.corectlRefuse n 2 := by
  rw [← s.domRun_iff] at hd
  rw [State.coreReset, if_neg (by simp [h]), if_neg (by simp [hd]), if_pos hp]

/-- A reset that is taken sets RESET and stops the core (R595 Seq 1 to Seq 3). -/
theorem State.coreReset_taken (hn : n < 128) (h : s.flag (Reg.SVC_CORECTL n) F.SVC_CORECTL_RESET = false) (hd : s.domState n = domRunning)
    (hp : s.activePair n = false) :
    (s.coreReset n).flag (Reg.SVC_CORECTL n) F.SVC_CORECTL_RESET = true ∧ ((s.coreReset n).core n).run = .resetting := by
  rw [← s.domRun_iff] at hd
  rw [State.coreReset, if_neg (by simp [h]), if_neg (by simp [hd]), if_neg (by simp [hp])]
  extract_lets c e s1
  have hebb := State.startEbb_cn hn (CN.refl (s := s1.setFlag (Reg.SVC_CORECTL n) F.SVC_CORECTL_RESET true))
  constructor
  · rw [State.flag, hebb.regs _ (not_aboveCorectl hn)]
    exact State.flag_setFlag_same s1 _ _ true (by decide) rfl
  · rw [hebb.core.run (by decide), State.core_setFlag, State.core_setCore_same]

end

/-! ### Refusals -/

/-- What a refusal with REJCODE `k` leaves (R594): REJ, REJCODE and no reset, in SVC_CORECTL of core `n` alone. -/
structure RefusedReset (n k : Nat) (s t : State) : Prop where
  rej : t.flag (Reg.SVC_CORECTL n) F.SVC_CORECTL_REJ = true
  rejcode : t.fld (Reg.SVC_CORECTL n) F.SVC_CORECTL_REJCODE = k
  reset : t.flag (Reg.SVC_CORECTL n) F.SVC_CORECTL_RESET = false
  core : t.core n = s.core n
  regs : ∀ b, b ≠ Reg.SVC_CORECTL n → t.reg b = s.reg b
  parts : OnlyChanges [.regs] s t

theorem onlyChanges_regs_of_keeps {s t : State} (h : K gS 4 s t) : OnlyChanges [.regs] s t := fun p hp => by
  refine h.keeps.same p ?_
  cases p with
  | regs => exact absurd (List.mem_singleton_self _) hp
  | _ => rfl

/-- A refusal after REJ was cleared sets it again. -/
theorem State.corectlRefuse_refused (s : State) {n k : Nat} (v : Word) (hk : k < 4)
    (h : s.flag (Reg.SVC_CORECTL n) F.SVC_CORECTL_RESET = false) : RefusedReset n k s ((s.clearRej n v).corectlRefuse n k) where
  rej := by
    rw [State.corectlRefuse, State.flag_setFld_other _ _ _ _ _ _ (.inr (by decide)), State.flag_setFlag_same _ _ _ _ (by decide) rfl]
  rejcode := by
    rw [State.corectlRefuse, State.fld_setFld_same _ _ _ _ (by decide)]
    exact Nat.mod_eq_of_lt hk
  reset := by
    rw [State.corectlRefuse, State.flag_setFld_other _ _ _ _ _ _ (.inr (by decide)), State.flag_setFlag_other _ _ _ _ _ _ (.inr (by decide)),
      State.clearRej_flag_reset, h]
  core := by simp [State.corectlRefuse]
  regs b hb := by
    rw [State.corectlRefuse, State.reg_setFld_other _ _ _ hb, State.reg_setFlag_other _ _ _ hb, State.clearRej_reg_other _ _ _ hb]
  parts := onlyChanges_regs_of_keeps (K.step (s.clearRej_keeps n v) (State.corectlRefuse_keeps _ _ _) rfl)

/-- Settles O59: each case of R594 is one branch of the write of RESET, and the ebb that a reset starts changes neither SVC_CORECTL nor the state of the core. -/
theorem coreResetsAreRefusedOrTaken : Obligations.CoreResetsAreRefusedOrTaken := by
  unfold Obligations.CoreResetsAreRefusedOrTaken
  intro s n v hcore a active refused
  have hn := State.lt_of_hasCore hcore
  have hrefused {t : State} {k : Nat} (r : RefusedReset n k s t) : refused t k := ⟨r.rej, r.rejcode, r.reset, r.core, r.regs, r.parts⟩
  rw [exec_coreReset hcore v]
  have hflag : (s.clearRej n (coreResetWord v)).flag a F.SVC_CORECTL_RESET = s.flag a F.SVC_CORECTL_RESET := State.clearRej_flag_reset ..
  have hdom : (s.clearRej n (coreResetWord v)).domState n = s.domState n := State.clearRej_domState s _ hn n
  refine ⟨fun hreset hrej => ?ignored, fun hreset => ⟨fun hd => ?domain, fun hd hp => ?pair, fun hd hp => ?taken⟩⟩
  case ignored =>
    rw [State.coreReset_of_resetting _ (hflag.trans hreset)]
    exact ⟨_, rfl, s.clearRej_reg_of_zero n ((getF_coreResetWord_rej v).trans hrej), onlyChanges_regs_of_keeps (s.clearRej_keeps n _)⟩
  case domain =>
    rw [State.coreReset_of_not_run _ (hflag.trans hreset) (hdom ▸ hd)]
    exact ⟨_, rfl, hrefused (s.corectlRefuse_refused _ (by decide) hreset)⟩
  case pair =>
    rw [State.coreReset_of_activePair _ (hflag.trans hreset) (hdom.trans hd) ((s.clearRej_activePair n _ n).trans (s.activePair_iff.mpr hp))]
    exact ⟨_, rfl, hrefused (s.corectlRefuse_refused _ (by decide) hreset)⟩
  case taken =>
    have hpair : s.activePair n = false := by simpa only [Bool.not_eq_true] using mt s.activePair_iff.mp hp
    exact ⟨_, rfl, State.coreReset_taken _ hn (hflag.trans hreset) (hdom.trans hd) ((s.clearRej_activePair n _ n).trans hpair)⟩

end Sys2Proof.Machine
end

section
/-!
The lock of the heat marks (R639, R642). Three parts: which writes and resets change ID_HMCTL.LOCK, what a locked heat-mark write leaves, and that two states which
differ in ID_HMCTL alone answer reads of marks and challenges alike.
-/
namespace Sys2Proof.Machine

/-! ### A flag as a bit of its register -/

/-- A one-bit field is 1 exactly where its bit is set. -/
theorem getF_beq_one_eq_getB (r : Word) (f : Fld) (h : f.w = 1) : (getF r f == 1) = getB r f.lo := by
  have hlt := getF_lt r f
  have hbit := testBit_getF r f 0
  rw [h] at hlt hbit
  obtain h0 | h1 : getF r f = 0 ∨ getF r f = 1 := by omega
  · simpa [h0, getB] using hbit
  · simpa [h1, getB] using hbit

theorem State.flag_eq_getB (s : State) (a : Nat) (f : Fld) (h : f.w = 1) : s.flag a f = getB (s.reg a) f.lo := getF_beq_one_eq_getB _ f h

/-! ### Writes of ID_HMCTL (R642) -/

theorem regDef_hmctl : regDef Reg.ID_HMCTL = some ⟨0x20028, [], 0, [⟨F.ID_HMCTL_LOCK, .w1s⟩], .none⟩ := rfl

theorem State.written_hmctl (s : State) (width : Nat) (v : Word) : s.written Reg.ID_HMCTL width v =
    s.reg Reg.ID_HMCTL ||| (placeValue Reg.ID_HMCTL width v &&& (F.ID_HMCTL_LOCK.mask &&& accessMask Reg.ID_HMCTL width)) := by
  have haligned : Reg.ID_HMCTL - Reg.ID_HMCTL % 8 = Reg.ID_HMCTL := rfl
  simp only [State.written, haligned, regDef_hmctl, writeFields, writeField]

/-- ID_HMCTL starts no action: a write of it is the write by access codes alone. -/
theorem State.ctlWrite_hmctl (s : State) (width : Nat) (v : Word) :
    s.ctlWrite Reg.ID_HMCTL width v = s.setReg Reg.ID_HMCTL (s.written Reg.ID_HMCTL width v) := rfl

/-- An access of either width at ID_HMCTL covers LOCK. -/
theorem getLsbD_placeValue_hmctl (width : Nat) (v : Word) :
    (placeValue Reg.ID_HMCTL width v &&& (F.ID_HMCTL_LOCK.mask &&& accessMask Reg.ID_HMCTL width)).getLsbD 0 = getB v 0 := by
  have hlow : Reg.ID_HMCTL % 8 ≠ 4 := by decide
  by_cases hw : width = 4
  · simp [placeValue, accessMask, hw, hlow, getLsbD_mask, F.ID_HMCTL_LOCK, getB]
  · simp [placeValue, accessMask, hw, getLsbD_mask, F.ID_HMCTL_LOCK, getB]

theorem State.lock_ctlWrite_hmctl (s : State) (width : Nat) (v : Word) :
    (s.ctlWrite Reg.ID_HMCTL width v).flag Reg.ID_HMCTL F.ID_HMCTL_LOCK = (s.flag Reg.ID_HMCTL F.ID_HMCTL_LOCK || getB v 0) := by
  rw [State.flag_eq_getB _ _ _ rfl, State.flag_eq_getB _ _ _ rfl, State.ctlWrite_hmctl, State.reg_setReg_same, State.written_hmctl, getB,
    BitVec.getLsbD_or]
  exact congrArg _ (getLsbD_placeValue_hmctl width v)

theorem exec_registerWrite_hmctl {s : State} {width : Nat} (h : s.ctlReached Reg.ID_HMCTL width = true) (v : Word) :
    exec (.registerWrite (.control Reg.ID_HMCTL width) v) s = .next (s.ctlWrite Reg.ID_HMCTL width v) := by
  have hdec : offDecoded Reg.ID_HMCTL = true := rfl
  show execRegisterWrite (.control Reg.ID_HMCTL width) v s = _
  simp only [execRegisterWrite, hdec, h, if_true]

/-! ### Resets of ID_HMCTL (R642) -/

theorem regReset_hmctl : regReset Reg.ID_HMCTL = 0 := rfl

/-- LOCK is clear where ID_HMCTL holds its reset value. -/
theorem State.lock_of_reset {s : State} (h : s.reg Reg.ID_HMCTL = regReset Reg.ID_HMCTL) : s.flag Reg.ID_HMCTL F.ID_HMCTL_LOCK = false := by
  rw [State.flag, h, regReset_hmctl]
  rfl

theorem State.reg_keepSaved_hmctl (t s : State) (m : Nat) : (t.keepSaved s m).reg Reg.ID_HMCTL = t.reg Reg.ID_HMCTL :=
  State.reg_setFlag_other _ _ _ (by simp only [Reg.ID_HMCTL, Reg.MC_TRAIN]; omega)

/-- A CHIP reset, cold or warm, drops every register that it does not keep, and ID_HMCTL is none of those it keeps (R611). -/
theorem State.lock_chipClear (s : State) (cold : Bool) : (s.chipClear cold).flag Reg.ID_HMCTL F.ID_HMCTL_LOCK = false := by
  apply State.lock_of_reset
  unfold State.chipClear
  extract_lets i s1 s2
  have hfilter : s1.reg Reg.ID_HMCTL = regReset Reg.ID_HMCTL := by
    show Tbl.get regReset (s.regs.filter _) _ = _
    rw [filter_get regReset _ chipKeeps (fun _ => rfl)]
    rfl
  have hsaved : s2.reg Reg.ID_HMCTL = s1.reg Reg.ID_HMCTL :=
    List.foldlRecOn (motive := fun t : State => t.reg Reg.ID_HMCTL = s1.reg Reg.ID_HMCTL) _ _ rfl
      (fun t ht m _ => (t.reg_keepSaved_hmctl s m).trans ht)
  rw [State.reg_setFlag_other _ _ _ (by decide), hsaved, hfilter]

theorem exec_coldRstN_of_not_halt {s : State} (h : s.pwr.halt = false) : exec .coldRstN s = .next ((s.trigger 2).chipClear true) := by
  show execColdRstN s = _
  rw [execColdRstN, if_neg (by simp [h])]
  rfl

theorem exec_warmEntryComplete_of_warm {s : State} (h : s.pwr.warm ≠ none) :
    exec .warmEntryComplete s = .next (((List.range 12).foldl (fun t m => t.warmChannel m) s).cutMarks.chipClear false) := by
  show execWarmEntryComplete s = _
  rw [execWarmEntryComplete, if_neg (by simpa using h)]

theorem exec_watchdogStage2_of_cold {s : State} (hen : s.flag Reg.SVC_WDCTL F.SVC_WDCTL_EN = true) (hp : s.wdPaused = false)
    (hst : s.fld Reg.SVC_WDSTAT F.SVC_WDSTAT_STAGE = 1) (hact : 2 ≤ s.fld Reg.SVC_WDCTL F.SVC_WDCTL_ACTION) :
    exec .watchdogStage2 s = .next ((s.trigger 5).chipClear true) := by
  have h0 : s.fld Reg.SVC_WDCTL F.SVC_WDCTL_ACTION ≠ 0 := by omega
  have h1 : s.fld Reg.SVC_WDCTL F.SVC_WDCTL_ACTION ≠ 1 := by omega
  show execWatchdogStage2 s = _
  simp only [execWatchdogStage2, hen, hp, hst, h0, h1, Bool.not_false, Bool.and_self, BEq.rfl, if_true, if_false]
  rfl

/-! ### Refused heat-mark commands (R639) -/

/-- What R639 answers to a write while LOCK is set: always a code, and 4 where nothing but the lock stands against the write. -/
structure LockedCode (area off len k : Nat) : Prop where
  pos : 0 < k
  lt : k < 8
  eq_four : len ≠ 0 → ∀ n, areaSize area = some n → off + len ≤ n → k = 4

theorem State.markRefusal_of_locked {s : State} {c : HmCmd} (hl : s.flag Reg.ID_HMCTL F.ID_HMCTL_LOCK = true) (hw : c.data.isSome = true) :
    ∃ k, s.markRefusal c = some k ∧ LockedCode c.area c.off c.len k := by
  unfold State.markRefusal
  by_cases hlen : c.len = 0
  · exact ⟨1, if_pos hlen, by decide, by decide, fun h => absurd hlen h⟩
  · rw [if_neg hlen]
    cases hsize : areaSize c.area with
    | none => exact ⟨3, rfl, by decide, by decide, fun _ n hn => nomatch hsize.symm.trans hn⟩
    | some n =>
      by_cases hlong : n < c.off + c.len
      · refine ⟨2, if_pos hlong, by decide, by decide, fun _ m hm hle => ?_⟩
        cases hsize.symm.trans hm
        omega
      · exact ⟨4, by simp [hlong, hw, hl], by decide, by decide, fun _ _ _ _ => rfl⟩

theorem State.submitMark_refused_smb {s : State} {c : HmCmd} {k : Nat} (h : s.markRefusal c = some k) (hc : c.smb = true) :
    s.submitMark c = s.smbReply [BitVec.ofNat 8 k] := by
  simp only [State.submitMark, h, hc, if_true]
  rfl

theorem State.submitMark_refused_control {s : State} {c : HmCmd} {k : Nat} (h : s.markRefusal c = some k) (hc : c.smb = false) :
    s.submitMark c = (s.setFlag Reg.ID_HMSTAT F.ID_HMSTAT_REJ true).setFld Reg.ID_HMSTAT F.ID_HMSTAT_REJCODE k := by
  simp only [State.submitMark, h, hc, Bool.false_eq_true, if_false]

theorem State.smbReply_onlyChanges (s : State) (bs : List Byte) : OnlyChanges [.ident] s (s.smbReply bs) := fun p hp => by
  cases p with
  | ident => exact absurd (List.mem_singleton_self _) hp
  | _ => rfl

/-- What a refused command of control space leaves: REJ and REJCODE in ID_HMSTAT, and registers alone are changed. -/
structure RefusedMark (k : Nat) (s t : State) : Prop where
  rej : t.flag Reg.ID_HMSTAT F.ID_HMSTAT_REJ = true
  rejcode : t.fld Reg.ID_HMSTAT F.ID_HMSTAT_REJCODE = k
  ident : t.ident = s.ident
  parts : OnlyChanges [.regs] s t

theorem State.submitMark_refusedMark {s t : State} {c : HmCmd} {k : Nat} (hst : K gS 4 s t) (h : t.markRefusal c = some k) (hc : c.smb = false)
    (hk : k < 8) : RefusedMark k s (t.submitMark c) := by
  rw [State.submitMark_refused_control h hc]
  have hkeeps : K gS 4 s ((t.setFlag Reg.ID_HMSTAT F.ID_HMSTAT_REJ true).setFld Reg.ID_HMSTAT F.ID_HMSTAT_REJCODE k) :=
    (hst.step (State.setFlag_keeps _ _ _ _) rfl).step (State.setFld_keeps _ _ _ _) rfl
  refine ⟨?rej, ?rejcode, hkeeps.keeps.same .ident rfl, onlyChanges_regs_of_keeps hkeeps⟩
  case rej => rw [State.flag_setFld_other _ _ _ _ _ _ (.inr (by decide)), State.flag_setFlag_same _ _ _ _ (by decide) rfl]
  case rejcode => rw [State.fld_setFld_same _ _ _ _ (by decide)]; exact Nat.mod_eq_of_lt hk

/-! ### Commands in ID_HMCMD -/

/-- The fields that a write of ID_HMCMD stores. -/
def State.storeHmcmd (s : State) (v : Word) : State :=
  [F.ID_HMCMD_AREA, F.ID_HMCMD_OFFSET, F.ID_HMCMD_LEN, F.ID_HMCMD_WRITE].foldl (fun t f => t.setFld Reg.ID_HMCMD f (getF v f)) s

/-- The command that a write of ID_HMCMD with GO = 1 starts. -/
def State.hmcmdOf (s : State) (v : Word) (ue : List Nat) : HmCmd where
  smb := false
  area := getF v F.ID_HMCMD_AREA
  off := getF v F.ID_HMCMD_OFFSET
  data := if getF v F.ID_HMCMD_WRITE = 1 then some (s.hmData.take (getF v F.ID_HMCMD_LEN)) else none
  len := getF v F.ID_HMCMD_LEN
  ue := ue

theorem State.storeHmcmd_keeps (s : State) (v : Word) : K gS 4 s (s.storeHmcmd v) :=
  K.foldl K.refl (fun _ _ h => h.step (State.setFld_keeps _ _ _ _) rfl)

theorem State.storeHmcmd_lock (s : State) (v : Word) :
    (s.storeHmcmd v).flag Reg.ID_HMCTL F.ID_HMCTL_LOCK = s.flag Reg.ID_HMCTL F.ID_HMCTL_LOCK :=
  List.foldlRecOn (motive := fun t : State => t.flag Reg.ID_HMCTL F.ID_HMCTL_LOCK = s.flag Reg.ID_HMCTL F.ID_HMCTL_LOCK) _ _ rfl
    (fun t ht f _ => (t.flag_setFld_other _ _ _ _ _ (.inl (by decide))).trans ht)

theorem State.writeHmcmd_of_go {v : Word} (h : getF v F.ID_HMCMD_GO = 1) (s : State) (ue : List Nat) :
    s.writeHmcmd v ue = (s.storeHmcmd v).submitMark (s.hmcmdOf v ue) := by
  unfold State.writeHmcmd
  extract_lets a g set s1
  rw [if_neg (by simp [g, h])]
  rfl

/-- The word that HEAT_MARK_READ (`w` = 0) and HEAT_MARK_WRITE (`w` = 1) store in ID_HMCMD. -/
def hmcmdWord (v : Word) (w : Nat) : Word := setF (setF v F.ID_HMCMD_WRITE w) F.ID_HMCMD_GO 1

theorem getF_hmcmdWord_go (v : Word) (w : Nat) : getF (hmcmdWord v w) F.ID_HMCMD_GO = 1 := getF_setF_same _ _ _ (by decide)

theorem getF_hmcmdWord_write (v : Word) {w : Nat} (h : w < 2) : getF (hmcmdWord v w) F.ID_HMCMD_WRITE = w := by
  rw [hmcmdWord, getF_setF_other _ _ _ _ (by decide), getF_setF_same _ _ _ (by decide)]
  exact Nat.mod_eq_of_lt h

/-- The fields below WRITE are those of the operand. -/
theorem getF_hmcmdWord_low (v : Word) (w : Nat) {f : Fld} (h : f.lo + f.w ≤ 32) : getF (hmcmdWord v w) f = getF v f := by
  rw [hmcmdWord, getF_setF_other _ _ _ _ (.inr (Nat.le_trans h (by decide))), getF_setF_other _ _ _ _ (.inr h)]

theorem exec_heatMarkWrite (v : Word) (s : State) : exec (.heatMarkWrite v) s =
    .next ((s.storeHmcmd (hmcmdWord v 1)).submitMark (s.hmcmdOf (hmcmdWord v 1) [])) :=
  congrArg _ (State.writeHmcmd_of_go (getF_hmcmdWord_go v 1) s [])

theorem exec_heatMarkRead (v : Word) (ue : List Nat) (s : State) : exec (.heatMarkRead v ue) s =
    .next ((s.storeHmcmd (hmcmdWord v 0)).submitMark (s.hmcmdOf (hmcmdWord v 0) ue)) :=
  congrArg _ (State.writeHmcmd_of_go (getF_hmcmdWord_go v 0) s ue)

section
variable (s : State) (v : Word) (w : Nat) (ue : List Nat)

theorem State.hmcmdOf_area : (s.hmcmdOf (hmcmdWord v w) ue).area = getF v F.ID_HMCMD_AREA := getF_hmcmdWord_low v w (by decide)
theorem State.hmcmdOf_off : (s.hmcmdOf (hmcmdWord v w) ue).off = getF v F.ID_HMCMD_OFFSET := getF_hmcmdWord_low v w (by decide)
theorem State.hmcmdOf_len : (s.hmcmdOf (hmcmdWord v w) ue).len = getF v F.ID_HMCMD_LEN := getF_hmcmdWord_low v w (by decide)

theorem State.hmcmdOf_write_isSome : (s.hmcmdOf (hmcmdWord v 1) ue).data.isSome = true := by
  simp [State.hmcmdOf, getF_hmcmdWord_write]

theorem State.hmcmdOf_read_data : (s.hmcmdOf (hmcmdWord v 0) ue).data = none := by
  simp [State.hmcmdOf, getF_hmcmdWord_write]

end

/-- HEAT_MARK_WRITE while LOCK is set. -/
theorem exec_heatMarkWrite_of_locked {s : State} (hl : s.flag Reg.ID_HMCTL F.ID_HMCTL_LOCK = true) (v : Word) :
    ∃ t k, exec (.heatMarkWrite v) s = .next t ∧ RefusedMark k s t ∧
      LockedCode (getF v F.ID_HMCMD_AREA) (getF v F.ID_HMCMD_OFFSET) (getF v F.ID_HMCMD_LEN) k := by
  obtain ⟨k, hk, hcode⟩ := State.markRefusal_of_locked ((s.storeHmcmd_lock (hmcmdWord v 1)).trans hl) (s.hmcmdOf_write_isSome v [])
  rw [s.hmcmdOf_area, s.hmcmdOf_off, s.hmcmdOf_len] at hcode
  exact ⟨_, k, exec_heatMarkWrite v s, State.submitMark_refusedMark (s.storeHmcmd_keeps _) hk rfl hcode.lt, hcode⟩

/-- SMB_HEAT_MARK_WRITE while LOCK is set. -/
theorem exec_smbHeatMarkWrite_of_locked {s : State} (hl : s.flag Reg.ID_HMCTL F.ID_HMCTL_LOCK = true) (area off len : Nat) (d : List Byte) :
    ∃ k, exec (.smbHeatMarkWrite area off len d) s = .next (s.smbReply [BitVec.ofNat 8 k]) ∧
      LockedCode area off len k := by
  obtain ⟨k, hk, hcode⟩ := State.markRefusal_of_locked hl
    (c := { smb := true, area := area, off := off, data := some (d.take len), len := len }) rfl
  exact ⟨k, congrArg _ (State.submitMark_refused_smb hk rfl), hcode⟩

/-! ### States that differ in ID_HMCTL alone -/

/-- Two states agree on all that a read of marks or a challenge can look at, LOCK set apart: the fuses, the count of free values drawn, the marks with what waits for
them, and every register but ID_HMCTL. -/
structure SameButLock (s t : State) : Prop where
  fuse : t.fuse = s.fuse
  fresh : t.fresh = s.fresh
  ident : t.ident = s.ident
  regs : ∀ r, r ≠ Reg.ID_HMCTL → t.reg r = s.reg r

theorem State.setFlag_sameButLock (s : State) (f : Fld) (b : Bool) : SameButLock s (s.setFlag Reg.ID_HMCTL f b) :=
  ⟨rfl, rfl, rfl, fun _ hr => State.reg_setFlag_other s f b hr⟩

theorem idHmdata_ne_hmctl (j : Nat) : Reg.ID_HMDATA j ≠ Reg.ID_HMCTL := by simp only [Reg.ID_HMDATA, Reg.ID_HMCTL]; omega
theorem idChal_ne_hmctl (j : Nat) : Reg.ID_CHAL j ≠ Reg.ID_HMCTL := by simp only [Reg.ID_CHAL, Reg.ID_HMCTL]; omega

namespace SameButLock
variable {s t : State} (h : SameButLock s t)
include h

/-! #### Updates -/

theorem setReg (a : Nat) (v : Word) : SameButLock (s.setReg a v) (t.setReg a v) :=
  ⟨h.fuse, h.fresh, h.ident, fun r hr => by rw [State.reg_setReg, State.reg_setReg, h.regs r hr]⟩

theorem setFld {a : Nat} (ha : a ≠ Reg.ID_HMCTL) (f : Fld) (v : Nat) : SameButLock (s.setFld a f v) (t.setFld a f v) := by
  rw [State.setFld, State.setFld, h.regs a ha]
  exact h.setReg _ _

theorem setFlag {a : Nat} (ha : a ≠ Reg.ID_HMCTL) (f : Fld) (b : Bool) : SameButLock (s.setFlag a f b) (t.setFlag a f b) := h.setFld ha f _

theorem modIdent (f : Ident → Ident) : SameButLock { s with ident := f s.ident } { t with ident := f t.ident } :=
  ⟨h.fuse, h.fresh, congrArg f h.ident, h.regs⟩

theorem smbReply (bs : List Byte) : SameButLock (s.smbReply bs) (t.smbReply bs) := h.modIdent (fun i => { i with smb := bs })

theorem draw (w : Nat) : (t.draw w).1 = (s.draw w).1 ∧ SameButLock (s.draw w).2 (t.draw w).2 :=
  ⟨congrArg (Config.free w) h.fresh, h.fuse, congrArg (· + 1) h.fresh, h.ident, h.regs⟩

theorem markUe : SameButLock s.markUe t.markUe :=
  have hset := h.setFlag (a := Reg.ID_HMSTAT) (by decide) F.ID_HMSTAT_UE true
  ⟨hset.fuse, hset.fresh, hset.ident, hset.regs⟩

omit h in
theorem ite {c : Prop} [Decidable c] {x x' y y' : State} (hpos : c → SameButLock x y) (hneg : ¬ c → SameButLock x' y') :
    SameButLock (if c then x else x') (if c then y else y') := by
  by_cases hc : c
  · rw [if_pos hc, if_pos hc]; exact hpos hc
  · rw [if_neg hc, if_neg hc]; exact hneg hc

omit h in
theorem foldl {α : Type} {f : State → α → State} (hf : ∀ x y a, SameButLock x y → SameButLock (f x a) (f y a)) (l : List α) {s t : State}
    (h : SameButLock s t) : SameButLock (l.foldl f s) (l.foldl f t) := by
  induction l generalizing s t with
  | nil => exact h
  | cons a r ih => exact ih (hf s t a h)

theorem loadRegs (r : Nat → Nat) (n : Nat) (bs : List Byte) : SameButLock (s.loadRegs r n bs) (t.loadRegs r n bs) := by
  unfold State.loadRegs
  refine foldl (fun _ _ j hxy => ?_) _ h
  exact hxy.setReg (r j) _

theorem storeHmcmd (v : Word) : SameButLock (s.storeHmcmd v) (t.storeHmcmd v) := by
  have ha : Reg.ID_HMCMD ≠ Reg.ID_HMCTL := by decide
  unfold State.storeHmcmd
  refine foldl (fun _ _ f hxy => ?_) _ h
  exact hxy.setFld ha f _

/-! #### What is read -/

theorem hmData : t.hmData = s.hmData := by
  simp only [State.hmData, h.regs _ (idHmdata_ne_hmctl _)]

theorem hmcmdOf (v : Word) (ue : List Nat) : t.hmcmdOf v ue = s.hmcmdOf v ue := by
  simp only [State.hmcmdOf, h.hmData]

theorem areaPresent (a : Nat) : t.areaPresent a = s.areaPresent a := by
  simp only [State.areaPresent, State.hasCore, State.hasTile, State.hasMc, State.hasFe, State.hasLdl, State.hasQuad, h.fuse]

theorem markByte (a k : Nat) : t.markByte a k = s.markByte a k := by
  simp only [State.markByte, h.areaPresent, h.ident]

theorem challengeMsg (ue : List Nat) : t.challengeMsg ue = s.challengeMsg ue := by
  have hmark : t.markByte = s.markByte := funext fun a => funext (h.markByte a)
  simp only [State.challengeMsg, State.identity, State.chipId, State.allMarks, h.fuse, hmark, h.regs _ (idChal_ne_hmctl _)]

/-- LOCK stands in the refusals of writes only (R639). -/
theorem markRefusal {c : HmCmd} (hc : c.data = none) : t.markRefusal c = s.markRefusal c := by
  simp only [State.markRefusal, hc, Option.isSome_none, Bool.false_and, h.ident]

theorem markWaits (c : HmCmd) : t.markWaits c = s.markWaits c := by
  simp only [State.markWaits, h.ident]

/-! #### Reads of marks, and challenges -/

theorem runMark {c : HmCmd} (hc : c.data = none) : SameButLock (s.runMark c) (t.runMark c) := by
  simp only [State.runMark, hc, h.markByte]
  generalize c.ue.any (fun k => decide (c.off ≤ k) && decide (k < c.off + c.len)) = bad
  generalize zeroAt c.ue c.off ((List.range c.len).map (fun i => s.markByte c.area (c.off + i))) = bs
  have hue : SameButLock (if bad = true then s.markUe else s) (if bad = true then t.markUe else t) := ite (fun _ => h.markUe) (fun _ => h)
  cases c.smb with
  | false => exact (hue.loadRegs Reg.ID_HMDATA 8 bs).setFlag (by decide) _ _
  | true => exact hue.smbReply (0 :: bs)

theorem submitMark {c : HmCmd} (hc : c.data = none) : SameButLock (s.submitMark c) (t.submitMark c) := by
  simp only [State.submitMark, h.markRefusal hc, h.markWaits]
  cases s.markRefusal c with
  | some k =>
    cases c.smb with
    | false => exact (h.setFlag (by decide) _ _).setFld (by decide) _ _
    | true => exact h.smbReply _
  | none =>
    cases s.markWaits c with
    | false => exact h.runMark hc
    | true => exact h.modIdent (fun i => { i with waiting := i.waiting ++ [c] })

theorem writeChalcmd (v : Word) (ue : List Nat) : SameButLock (s.writeChalcmd v ue) (t.writeChalcmd v ue) := by
  have ha : Reg.ID_CHALCMD ≠ Reg.ID_HMCTL := by decide
  have hclear := h.setReg Reg.ID_CHALCMD (s.reg Reg.ID_CHALCMD &&& ~~~ (v &&& (F.ID_CHALCMD_DONE.mask ||| F.ID_CHALCMD_REJ.mask)))
  simp only [State.writeChalcmd, h.regs _ ha, h.ident, h.challengeMsg]
  refine ite (fun _ => hclear) (fun _ => ite (fun _ => hclear.setFlag ha _ _) (fun _ => ?_))
  have hue := ite (c := ue.isEmpty = true) (fun _ => hclear) (fun _ => hclear.markUe)
  exact (hue.setFlag ha F.ID_CHALCMD_BUSY true).modIdent (fun i => { i with chal := some (s.challengeMsg ue) })

theorem smbChallenge (nonce : List Byte) (ue : List Nat) :
    ∃ x y, exec (.smbChallenge nonce ue) s = .next x ∧ exec (.smbChallenge nonce ue) t = .next y ∧ SameButLock x y := by
  refine ⟨_, _, rfl, rfl, ?_⟩
  have hload := h.loadRegs Reg.ID_CHAL 6 nonce
  obtain ⟨hfree, hdraw⟩ := hload.draw 8
  rw [h.ident, hfree]
  exact ite (fun _ => (hdraw.writeChalcmd _ _).smbReply _) (fun _ => (hload.writeChalcmd _ _).smbReply _)

theorem heatMarkRead (v : Word) (ue : List Nat) :
    ∃ x y, exec (.heatMarkRead v ue) s = .next x ∧ exec (.heatMarkRead v ue) t = .next y ∧ SameButLock x y := by
  refine ⟨_, _, exec_heatMarkRead v ue s, exec_heatMarkRead v ue t, ?_⟩
  rw [h.hmcmdOf]
  exact (h.storeHmcmd _).submitMark (s.hmcmdOf_read_data v ue)

end SameButLock

/-! ### The obligation -/

/-- Reads of marks and challenges, from control space and from SMBus, answer alike in states that differ in ID_HMCTL alone. -/
theorem SameButLock.exec_read_or_challenge {s t : State} (h : SameButLock s t) {i : Instr}
    (hi : (∃ v ue, i = .heatMarkRead v ue) ∨ (∃ area off len ue, i = .smbHeatMarkRead area off len ue) ∨ (∃ ue, i = .challenge ue) ∨
      (∃ nonce ue, i = .smbChallenge nonce ue)) :
    ∃ x y, exec i s = .next x ∧ exec i t = .next y ∧ SameButLock x y := by
  obtain ⟨v, ue, rfl⟩ | ⟨area, off, len, ue, rfl⟩ | ⟨ue, rfl⟩ | ⟨nonce, ue, rfl⟩ := hi
  · exact h.heatMarkRead v ue
  · exact ⟨_, _, rfl, rfl, h.submitMark rfl⟩
  · exact ⟨_, _, rfl, rfl, h.writeChalcmd _ ue⟩
  · exact h.smbChallenge nonce ue

/-- Settles O60: LOCK is W1S and every CHIP reset drops its register; R639 refuses each write that meets it; nothing that a read or a challenge does reads it. -/
theorem theHeatMarkLockStopsWritesOnly : Obligations.TheHeatMarkLockStopsWritesOnly := by
  unfold Obligations.TheHeatMarkLockStopsWritesOnly
  intro s a lock
  refine ⟨⟨_, rfl, State.flag_setFlag_same s a lock true (by decide) rfl⟩,
    fun width v hr => ⟨_, exec_registerWrite_hmctl hr v, s.lock_ctlWrite_hmctl width v⟩,
    ⟨_, rfl, State.lock_of_reset rfl⟩,
    fun hh => ⟨_, exec_coldRstN_of_not_halt hh, State.lock_chipClear _ _⟩,
    fun hw => ⟨_, exec_warmEntryComplete_of_warm hw, State.lock_chipClear _ _⟩,
    fun hen hp hst hact => ⟨_, exec_watchdogStage2_of_cold hen hp hst hact, State.lock_chipClear _ _⟩,
    fun hl => ⟨fun v => ?control, fun area off len d => ?smbus⟩,
    fun i b hi => ?others⟩
  case control =>
    obtain ⟨t, k, ht, href, hcode⟩ := exec_heatMarkWrite_of_locked hl v
    exact ⟨t, ht, href.rej, href.ident, href.parts, fun hlen n hn hle => href.rejcode.trans (hcode.eq_four hlen n hn hle)⟩
  case smbus =>
    obtain ⟨k, ht, hcode⟩ := exec_smbHeatMarkWrite_of_locked hl area off len d
    have hpos := hcode.pos
    have hlt := hcode.lt
    refine ⟨_, BitVec.ofNat 8 k, ht, by bv_omega, rfl, s.smbReply_onlyChanges _, fun hlen n hn hle => ?_⟩
    rw [hcode.eq_four hlen n hn hle]
    rfl
  case others =>
    obtain ⟨t, u, ht, hu, hsame⟩ := (s.setFlag_sameButLock lock b).exec_read_or_challenge hi
    exact ⟨t, u, ht, hu, hsame.ident, hsame.regs⟩

end Sys2Proof.Machine
end
